-- ==== Sys2Proof/Word.lean ====
section
/-!
DEFINITION. Word.lean: the bit types of the block. A byte of a packet or a buffer, and a 32-bit word of the
register interface (R4, R5). Field values, counts, addresses and times are natural numbers or integers.
-/

namespace Sys2Proof

/-- A byte of a packet, a buffer or non-volatile memory. -/
abbrev Byte := BitVec 8

/-- A 32-bit word as a carrier writes or reads it. -/
abbrev Word := BitVec 32

/-- An internal sample in Q1.31 (R3, Table 0.2), as a signed integer. -/
abbrev Sample := Int

end Sys2Proof
end

