-- ==== Sys2Proof/Syntax.lean ====
section
/-!
DEFINITION. Syntax.lean: the commands of the block, one constructor per row of spec/opcode_table.json in the
table's order, and the types of their operands. A command is what reaches the block from outside (a request
packet, a register access, a frame, a pin) or one of its own indivisible happenings (a timer, a boundary, a
measurement), with what the outside contributes to it as operands.
-/

namespace Sys2Proof.Machine

/-! ## Carriers, origins, requests -/

/-- The four command carriers, in the round-robin order of R52. -/
inductive Carrier where
  | mailbox | spi | net | uart
  deriving DecidableEq, Repr

/-- Carrier number c of R55. -/
def Carrier.idx : Carrier → Nat
  | .mailbox => 0
  | .spi => 1
  | .net => 2
  | .uart => 3

/-- Origin of a command or write (R54, Table 4.5): code, session or partner number, privilege. -/
structure Origin where
  code : Nat
  id : Nat := 0
  priv : Bool := false
  deriving DecidableEq, Repr

/-- A request that passed steps 1 to 5 of Table 2.2: carrier, origin, the source of its reply, header fields,
parameters, and the low 16 bits of its CRC-32C (Table 4.6). -/
structure Req where
  carrier : Carrier
  origin : Origin
  opcode : Nat := 0
  params : List Byte := []
  seq : Nat := 0
  noreply : Bool := false
  session : Nat := 0
  srcAddr : Nat := 0
  srcPort : Nat := 0
  crc : Nat := 0
  deriving DecidableEq, Repr

/-- The way a host's register access reaches the block: BAR0, BAR4 (privileged), or SPI with the level of
HOST_SEC_N at the chip-select edge (R45, R56). -/
inductive Via where
  | bar0
  | bar4
  | spi (secLow : Bool)
  deriving DecidableEq, Repr

/-- The four readers of R64 and R132, each with its own snapshot and capture buffers. -/
inductive Reader where
  | bar0 | bar4 | spi | interp
  deriving DecidableEq, Repr

/-- A 112-bit time (R108): seconds, nanoseconds, 2^-16 ns. -/
structure Tai where
  sec : Nat := 0
  ns : Nat := 0
  frac : Nat := 0
  deriving DecidableEq, Repr

/-- How a long operation ends: whether its verification or training passed, whether a fallback source had to
be taken, a fail mask (subsystems of R300, patch blocks, links), the Burins that failed, and lane margins. -/
structure LongEnd where
  ok : Bool := true
  mask : Nat := 0
  list : List Nat := []
  values : List Nat := []
  deriving DecidableEq, Repr

/-- One parity mismatch found by a check: a register with the data it now stores, or the block of a stream
entry or graph image (R72, R251, R273, R323). -/
inductive ParityHit where
  | reg (addr stored : Nat)
  | rxEntry (bank n : Nat)
  | txEntry (bank n : Nat)
  | graph (bank n : Nat)
  deriving DecidableEq, Repr

/-! ## PTP messages (R114 to R120) -/

/-- What a domain reads of a PTP message: major version, messageType, domain number, sequence, source port
identity, requesting port identity, two-step flag, correctionField in 2^-16 ns, the 48-bit seconds and the
nanoseconds it carries. -/
structure PtpMsg where
  version : Nat := 2
  msgType : Nat := 0
  dom : Nat := 0
  seq : Nat := 0
  src : Nat := 0
  reqSrc : Nat := 0
  twoStep : Bool := false
  corr : Int := 0
  sec : Nat := 0
  ns : Nat := 0
  deriving DecidableEq, Repr

/-- What an Announce carries beyond its header (R113, R117). -/
structure Announce where
  gm : Nat := 0
  prio1 : Nat := 128
  cls : Nat := 248
  acc : Nat := 0xFE
  variance : Nat := 0xFFFF
  prio2 : Nat := 128
  steps : Nat := 0
  utc : Int := 0
  utcValid : Bool := false
  leap59 : Bool := false
  leap61 : Bool := false
  deriving DecidableEq, Repr


/-! ## What the outside contributes to the clock references -/

/-- A quality level as an ESMC PDU carries it (Table 7.5). -/
inductive Ql where
  | ePRTC | prtc | prc | ssuA | ssuB | sec | eec1 | dnu | other
  deriving DecidableEq, Repr

/-- One reference in one 1 ms tick (Table 7.1, Table 7.2): whether its receive recovery is locked or its edges
arrive, whether a period was outside its tolerance, the second's average frequencies in ppt, the phase in
2^-16 ns, and a 100 ms rate measurement that ended, in 2^-4 Hz. -/
structure RefIn where
  act : Bool := false
  glitch : Bool := false
  ffoXo : Int := 0
  ffoDco : Int := 0
  phase : Int := 0
  rate : Option Nat := none
  deriving DecidableEq, Repr

/-- The captures of one 1 ms tick: REF0 to REF6, whether a second of measurement ends, and the loop's output in
ppt while it is LOCKED. -/
structure RefTickIn where
  refs : List RefIn := []
  second : Bool := false
  loopOut : Int := 0
  deriving DecidableEq, Repr

/-! ## Frames and packets (R205 to R276) -/

/-- A media packet (R236, R262): IP addresses in network order (4 or 16 bytes), ports, TTL and DSCP, RTP header
fields, payload. -/
structure MediaPkt where
  src : List Byte := []
  dst : List Byte := []
  sport : Nat := 0
  dport : Nat := 0
  ttl : Nat := 0
  dscp : Nat := 0
  ver : Nat := 2
  pt : Nat := 0
  ssrc : Nat := 0
  seq : Nat := 0
  ts : Nat := 0
  payload : List Byte := []
  deriving DecidableEq, Repr

/-- What Table 9.3 tells frames apart by: a MAC Control frame; PTP of a domain number; UDP to an address and
port; the protocols the Klonik core serves (ESMC, IGMP, MLD, ARP, Neighbour Discovery); anything else. -/
inductive FrameKind where
  | macControl
  | ptp (dom : Nat)
  | udp (dst : List Byte) (port : Nat)
  | klonik
  | other
  deriving DecidableEq, Repr

/-- A received frame as the ingress checks see it: length through the FCS, FCS correct, destination MAC address,
VLAN tag (PCP, VID), kind, the time its last byte arrives, whether the ingress Post has room. -/
structure FrameIn where
  len : Nat := 64
  fcsOk : Bool := true
  dst : Nat := 0
  tag : Option (Nat × Nat) := none
  kind : FrameKind := .other
  at_ : Tai := {}
  room : Bool := true
  deriving DecidableEq, Repr

/-- What a memory error met in a tick touches (R334, R338): a corrected word; the jitter buffer of an entry's
channel; the delay line of a graph's node and channel; stream history; a peer; the Klonik store; a Post, and
whether its word is uncorrectable; a local block dropped at a full Post, by unit; a Burin's sample or microcode memory. -/
inductive EccAt where
  | corrected
  | jitter (e ch : Nat)
  | delay (graph node ch : Nat)
  | history
  | peer (dev : Nat)
  | store
  | post (i : Nat) (uncorrectable : Bool)
  | postDrop (i unit : Nat)
  | sample (burin : Nat) (uncorrectable : Bool)
  | ucode (burin : Nat) (uncorrectable : Bool)
  deriving DecidableEq, Repr

/-! ## What the outside contributes to a processing tick -/

/-- Samples entering at a tick boundary: per PDM microphone and per host ring slot read by DMA (by ring number;
a missing ring's DMA failed), memory errors met (Ream byte offset / 8 and what they touch), and at a second's end
the mean before the high-pass in 0.01 dBFS and the ones density in 0.01 % of each microphone, and peak load voltage in
0.1 V and current in 10 mA of each amplifier channel (R13, R334, R360, R361, R363, R366, Table 16.8). -/
structure TickIn where
  pdm : List (Nat × List Int) := []
  rings : List (Nat × List Int) := []
  ecc : List (Nat × EccAt) := []
  mics : List (Int × Nat) := []
  amps : List (Nat × Nat) := []
  deriving DecidableEq, Repr

/-- A TDM frame sync as a port sees it: the slots received, BCLK periods since the sync before, the measured BCLK in
kHz, the movement of the sync against the sample grid in ns since then, whether the data read back agreed. -/
structure TdmFrame where
  slots : List Int := []
  bclks : Nat := 0
  khz : Nat := 0
  drift : Int := 0
  agree : Bool := true
  deriving DecidableEq, Repr

/-! ## What the power stage measures -/

/-- A protection trip as the sense values show it (R378, R379): kind (0 limited run, 1 hard threshold or VDS, 2 DC,
3 loop), terminal voltages in 0.1 V, current in 10 mA, half-bridges (0 P, 1 N) whose high side exceeded VDS_TRIP or
sourced the limit current and whose low side did so or sank it, the DC mean in 0.1 V. -/
structure TripIn where
  kind : Fin 4
  vp : Int
  vn : Int
  cur : Int
  high : List (Fin 2) := []
  low : List (Fin 2) := []
  mean : Int := 0
  deriving DecidableEq, Repr

/-- What an offline test measures on a channel (R388): R_DC and the four magnitudes in milliohms, the four phases in
0.1 degree. -/
structure DiagMeas where
  rdc : Nat
  z : List Nat := []
  arg : List Int := []
  deriving DecidableEq, Repr
/-! ## What the pair partner sends (R405 to R432) -/

/-- A heartbeat (Table 18.1, R409, R415 to R417): state, sending mode, health level, rank (whether it sends or runs a
graph, strap low, MAC address of N0), device ID, MAC addresses, the difference of the timebases in ns where 64
exchanges have just ended, and the ticks fixed for a change of the SPLIT paths and for a hand-over. -/
structure Heartbeat where
  st : Nat := 0
  mode : Nat := 0
  health : Nat := 0
  busy : Bool := false
  strapLow : Bool := false
  mac : Nat := 0
  dev : Nat := 0
  macs : List Nat := []
  diff : Option Int := none
  split : Option Nat := none
  hand : Option Nat := none
  deriving DecidableEq, Repr

/-- An estimator's share (R414): number, state, ratio in ppt, fitted line through (timestamp, time in 2^-16 ns) of a
stream of some rate and offset. -/
structure FdShare where
  k : Nat
  st : Nat
  ratio : Int
  lineR : Nat
  lineT : Int
  lineHz : Nat
  lineOff : Nat
  deriving DecidableEq, Repr

/-- The lockstep share of a tick (R414): the estimators that are LOCKED or RANGE, the applied shift of each domain. -/
structure ShareIn where
  tick : Nat
  fd : List FdShare := []
  h : List (Nat × Int) := []
  deriving DecidableEq, Repr

/-- A mirror record (R413): a command with its privilege, CRC word, request time and the trigger unit it armed; a
register write with its data word and the tick it applies at; or the SEQ_OFFSET of a transmit entry (R271). -/
inductive MirrorRec where
  | cmd (opcode : Nat) (params : List Byte) (priv : Bool) (crc : Nat) (at_ : Tai) (trg : Option Nat)
  | reg (addr data : Nat) (priv : Bool) (tick : Nat)
  | seq (e off : Nat)
  deriving DecidableEq, Repr

/-- What a clone stages (Table 18.6): the partner's time, mirrored tables of both banks (blocks by bank x 512 + entry,
images by bank x 256 + graph, with their flags), mirrored register words (address and value), estimators, applied
shifts, states of TONE nodes (graph, node, channel), the tick T_c. -/
structure CloneIn where
  time : Tai := {}
  rx : List (Nat × List Byte) := []
  rxEn : List Nat := []
  tx : List (Nat × List Byte) := []
  txEn : List Nat := []
  graphs : List (Nat × List Byte) := []
  graphEn : List Nat := []
  regs : List (Nat × Nat) := []
  fd : List FdShare := []
  h : List (Nat × Int) := []
  tones : List (Nat × Nat × Nat × List Int) := []
  tc : Nat := 0
  deriving DecidableEq, Repr
/-! ## What the ageing monitors measure -/

/-- The day's measurements of the hardware monitors that no other command brings (R440, R442): the on-resistance of each
FET of a channel in micro-ohms at 25 degrees (high P, low P, high N, low N), the largest switching time of a channel in
the last 24 h in 0.1 ns, and the wear of the log ring in 0.01 % of rated. -/
structure DayIn where
  rdson : List (Nat × List Int) := []
  tsw : List (Nat × Nat) := []
  ringWear : Nat := 0
  deriving DecidableEq, Repr
/-! ## What the outside contributes to power and field service -/

/-- Step 2 of a cold start, or a look at what it waits for (R471, R472): every supply of Table 20.5 in mV, the count of
REFXO in kHz, which of VDDIO_A, B and C are 3.3 V, the level of PFW_N. -/
structure StepTwo where
  mv : List Nat := []
  refxo : Nat := 0
  vio33 : List Bool := []
  pfwLow : Bool := false
  deriving DecidableEq, Repr

/-- Steps 3 to 7 of a cold start (Table 20.4): patch blocks that fail their check, ring entries (by place) whose CRC
fails, whether banks A and B and the factory bank read back good, density and ranks of the LPDDR4X, whether training passed with
which lane margins, levels of SVC_EN and the pair strap, milliseconds since the release of the reset. -/
structure ColdIn where
  patch : Nat := 0
  badLog : List Nat := []
  aOk : Bool := true
  bOk : Bool := true
  factOk : Bool := true
  density : Fin 3 := 0
  ranks : Fin 2 := 0
  trained : Bool := true
  margins : List Nat := []
  svcEn : Bool := false
  strap : Bool := false
  ms : Nat := 0
  deriving DecidableEq, Repr

/-- What the outside answers a command with while it runs: an MDIO read's data, if the PHY answered; whether a Plate verifies;
the device's own measurements under a proof (R225, R400, R487). -/
structure Outside where
  mdio : Option Nat := none
  verify : Bool := true
  v0 : Int := 0
  v1 : Int := 0
  deriving DecidableEq, Repr

end Sys2Proof.Machine

namespace Sys2Proof

open Sys2Proof.Machine

/-- The commands. -/
inductive Instr where
  /-- STORE (R102): Long operation that commits the log and writes the running configuration to the target bank, then its commit record. -/
  | store (q : Req)
  /-- RECALL (R104): Long operation that loads the newest valid bank and rewrites only the units that differ. -/
  | recall (q : Req)
  /-- FACTORY_RECALL (R105): Long operation that loads the factory configuration in the manner of RECALL. -/
  | factoryRecall (q : Req)
  /-- LOG_READ (R98): Returns up to 127 Watermark Log entries in sequence order. -/
  | logRead (q : Req)
  /-- LOG_FLUSH (R94): Long operation that ends when every entry made before it is committed or lost. -/
  | logFlush (q : Req)
  /-- REG_READ (R42): Reads 1 to 64 consecutive register words through the interpreter. -/
  | regRead (q : Req)
  /-- REG_WRITE (R42): Checks, then writes, 1 to 64 consecutive mask-data words all or none. -/
  | regWrite (q : Req)
  /-- SELFTEST (R300): Long operation that self-tests one subsystem or the whole device and returns a fail mask. -/
  | selftest (q : Req)
  /-- FW_BLOCK (R43): Assembles a firmware patch block in staging, and with FINAL writes it to the patch area as a long operation. -/
  | fwBlock (q : Req)
  /-- FW_COMMIT (R43): Checks the CRC-32C of the four patch blocks so the patch is used from the next cold start. -/
  | fwCommit (q : Req)
  /-- INFO (R41): Returns chip ID, firmware version, configuration generation, power state and pair state. -/
  | info (q : Req)
  /-- SESSION_SET (R49): Privileged MGT SET that configures network session role, event flag and key. -/
  | sessionSet (q : Req)
  /-- OBJ_GET (R38): Returns an object's parameter block. -/
  | objGet (sub : Nat) (q : Req)
  /-- OBJ_SET (R38): Writes an object's parameter block, refused with BAD_STATE for RW configuration of an enabled unit. -/
  | objSet (sub : Nat) (q : Req)
  /-- OBJ_ENABLE (R39): Sets the EN bit of a unit or units. -/
  | objEnable (sub : Nat) (q : Req)
  /-- OBJ_DISABLE (R39): Clears the EN bit of a unit or units. -/
  | objDisable (sub : Nat) (q : Req)
  /-- OBJ_STATUS (R38): Returns an object's status block. -/
  | objStatus (sub : Nat) (q : Req)
  /-- NET_PORT_SET (R208): Sets a port's layer-3 parameter block. -/
  | netPortSet (q : Req)
  /-- RX_ENTRY_SET (R232): Writes a receive stream entry's parameter block. -/
  | rxEntrySet (q : Req)
  /-- RX_ENTRY_ENABLE (R234): Sets a receive entry's enable flag after the checks of Table 10.2. -/
  | rxEntryEnable (q : Req)
  /-- RX_ENTRY_DISABLE (R233): Clears a receive entry's enable flag and frees its jitter buffer. -/
  | rxEntryDisable (q : Req)
  /-- TX_ENTRY_SET (R262): Writes a transmit stream entry's parameter block. -/
  | txEntrySet (q : Req)
  /-- TX_ENTRY_ENABLE (R263): Sets a transmit entry's enable flag after the checks of Table 11.2, start two ticks later. -/
  | txEntryEnable (q : Req)
  /-- TX_ENTRY_DISABLE (R270): Clears a transmit entry's enable flag, with stop two ticks later. -/
  | txEntryDisable (q : Req)
  /-- GRAPH_HEADER_SET (R310): Writes a graph's 16-byte header. -/
  | graphHeaderSet (q : Req)
  /-- GRAPH_ENABLE (R320): Enables a graph after the checks of Table 13.6, released two ticks later. -/
  | graphEnable (q : Req)
  /-- GRAPH_DISABLE (R321): Disables a graph; no release from the next boundary. -/
  | graphDisable (q : Req)
  /-- TDM_DISABLE (R345): Clears a TDM port's EN through a reset path that needs no port clock. -/
  | tdmDisable (q : Req)
  /-- TDM_STATUS (R345): Returns a TDM port's status block from the Klonik copy. -/
  | tdmStatus (q : Req)
  /-- AMP_DISABLE (R386): Clears an amplifier channel's EN even while its clock is absent. -/
  | ampDisable (q : Req)
  /-- AMP_STATUS (R386): Returns an amplifier channel's status block from the 1 ms copy. -/
  | ampStatus (q : Req)
  /-- TSQ_READ (R141): Removes and returns up to 16 transmit timestamp entries. -/
  | tsqRead (q : Req)
  /-- TRG_ARM (R151): Arms 1 to 32 trigger units all or none. -/
  | trgArm (q : Req)
  /-- TRG_DISARM (R151): Disarms the armed trigger units named in a mask. -/
  | trgDisarm (q : Req)
  /-- ALIGN (R199): Schedules re-alignment of misaligned PPS and control-cycle outputs at a TAI second. -/
  | align (q : Req)
  /-- MDIO_READ (R225): Clause 22 or 45 read of a PHY register. -/
  | mdioRead (q : Req) (answer : Option Nat)
  /-- MDIO_WRITE (R225): Privileged Clause 22 or 45 write of a PHY register. -/
  | mdioWrite (q : Req)
  /-- RX_SWAP (R250): Command that requests a receive table bank swap. -/
  | rxSwap (q : Req)
  /-- DIR_READ (R253): Returns peer directory entries in device ID order. -/
  | dirRead (q : Req)
  /-- DIR_STREAM (R253): Returns a peer's stream descriptor as SDP text. -/
  | dirStream (q : Req)
  /-- SDP_IMPORT (R254): Configures a receive entry from a session description. -/
  | sdpImport (q : Req)
  /-- DIR_IMPORT (R254): Files a session description into the peer directory. -/
  | dirImport (q : Req)
  /-- TX_SWAP (R272): Command that requests a transmit table bank swap. -/
  | txSwap (q : Req)
  /-- SDP_EXPORT (R275): Returns the session description of a transmit entry. -/
  | sdpExport (q : Req)
  /-- GRAPH_SCHED (R306): Returns the scheduling block of a graph or BIND 2 entry. -/
  | graphSched (q : Req)
  /-- GRAPH_LOAD (R311): Writes part of a graph image. -/
  | graphLoad (q : Req)
  /-- GRAPH_READ (R311): Returns bytes of a graph image. -/
  | graphRead (q : Req)
  /-- GRAPH_PARAM (R317): Writes live node fields, applied at the first tick boundary at least one tick later. -/
  | graphParam (q : Req)
  /-- METER_READ (R316): Returns peak and RMS of a METER node's channels. -/
  | meterRead (q : Req)
  /-- GRAPH_SWAP (R322): Command that requests a graph bank swap. -/
  | graphSwap (q : Req)
  /-- MEM_RETRAIN (R337): Long operation running a full offline LPDDR4X training. -/
  | memRetrain (q : Req)
  /-- DIAG_OFFLINE (R390): Long operation that runs offline line tests on up to eight channels. -/
  | diagOffline (q : Req)
  /-- DIAG_LIVE (R393): Starts live line tests on the channels of a mask. -/
  | diagLive (q : Req)
  /-- DIAG_READ (R401): Returns a channel's last result or its Plate. -/
  | diagRead (q : Req)
  /-- PLATE_STORE (R400): Writes the last offline results of a mask as Plates. -/
  | plateStore (q : Req) (verify : Bool)
  /-- PLATE_CLEAR (R400): PLATE_STORE with CLEAR erases the Plates of a mask. -/
  | plateClear (q : Req) (verify : Bool)
  /-- PAIR_TAKEOVER (R423): Fixes T_h at which the pair roles exchange. -/
  | pairTakeover (q : Req)
  /-- PAIR_HEALTH (R432): Returns the own or partner health report. -/
  | pairHealth (q : Req)
  /-- LEDGER_READ (R444): Returns ageing ledger records with filters. -/
  | ledgerRead (q : Req)
  /-- BASELINE_RESET (R445): Restarts an R_DS(on) or R_DC trend baseline. -/
  | baselineReset (q : Req)
  /-- CALENDER_RUN (R447): Command that requests a Calender run. -/
  | calenderRun (q : Req)
  /-- CALENDER_APPROVE (R449): Command that approves pending Calender proposals. -/
  | calenderApprove (q : Req)
  /-- PWR_STATE (R465): Begins a transition to the named power state. -/
  | pwrState (q : Req)
  /-- RESET (R474): Privileged command that resets every domain except AO 1 ms after its reply. -/
  | reset (q : Req)
  /-- PROOF_START (R487): Starts a field service proof, taking its resource. -/
  | proofStart (q : Req) (v0 : Int) (v1 : Int)
  /-- PROOF_END (R487): Ends a proof, or every proof with group 0xFF. -/
  | proofEnd (q : Req) (v0 : Int) (v1 : Int)
  /-- PROOF_STATUS (R487): Returns a proof's state, result and device values. -/
  | proofStatus (q : Req) (v0 : Int) (v1 : Int)
  /-- MAILBOX_DOORBELL (R44): Write of MBX.DOORBELL copies the request and CRC into the mailbox slot. -/
  | mailboxDoorbell (via : Via) (data : Word)
  /-- MAILBOX_REPLY_RELEASE (R53): W1C of MBX.STATUS.REPLY_READY releases the held reply. -/
  | mailboxReplyRelease (via : Via) (data : Word)
  /-- SPI_COMMAND_FRAME (R45): An SPI chip-select frame carrying a command packet is judged and enters the SPI slot. -/
  | spiCommandFrame (secLow : Bool) (bytes : List Byte)
  /-- SPI_REPLY_FETCH (R45): SPI frame that clocks out the held reply and releases it when complete. -/
  | spiReplyFetch (clocked : Nat)
  /-- SPI_EVENT_FETCH (R45): SPI frame that clocks out the oldest event report. -/
  | spiEventFetch (clocked : Nat)
  /-- SPI_REGISTER_WRITE (R45): SPI register write transaction answered with a status byte. -/
  | spiRegisterWrite (secLow : Bool) (bytes : List Byte)
  /-- NET_CONTROL_DATAGRAM (R48): A control UDP datagram is checked for session, tag and replay and enters the network slot. -/
  | netControlDatagram (port : Fin 4) (src : Nat) (sport : Nat) (off : Nat) (more : Bool) (bytes : List Byte)
  /-- DATAGRAM_REASSEMBLY_TIMEOUT (R48): A fragmented control datagram not complete within 100 ms is dropped and counted. -/
  | datagramReassemblyTimeout (src : Nat)
  /-- UART_LINE (R50): A complete Abaef line is parsed and enters the UART slot. -/
  | uartLine (svcEn : Bool) (line : List Byte)
  /-- UART_LINE_TIMEOUT (R50): A partial UART line idle for 30 s is discarded and counted. -/
  | uartLineTimeout
  /-- INTERPRETER_SERVE (R52): The interpreter takes the next occupied slot round-robin and executes its command. -/
  | interpreterServe (svcEn : Bool) (o : Outside)
  /-- LONG_OP_END (R53): A long operation ends, writes its reply and ends busy. -/
  | longOpEnd (r : LongEnd)
  /-- UART_EVENT_LINE (R90): A waiting event report is sent on the UART between reply lines. -/
  | uartEventLine
  /-- REG_WRITE_GENERIC (R59): Write to a register without a row of its own, through the checks of Table 3.3. -/
  | regWriteGeneric (via : Via) (addr : Nat) (be : Nat) (data : Word)
  /-- PCIE_WRITE_BURST (R76): PCIe write of 2 to 16 DWORDs applied all or none. -/
  | pcieWriteBurst (bar4 : Bool) (addr : Nat) (data : List Word)
  /-- PCIE_READ_BURST (R76): PCIe read of 2 to 16 DWORDs, refused whole if any is reserved. -/
  | pcieReadBurst (bar4 : Bool) (addr : Nat) (count : Nat)
  /-- MULTIWORD_LOWER_WRITE (R62): Write to a lower word of a multi-word value merges into its tagged shadow. -/
  | multiwordLowerWrite (via : Via) (addr : Nat) (data : Word)
  /-- MULTIWORD_COMMIT (R62): Write to the highest word commits the shadow and the word in one clock. -/
  | multiwordCommit (via : Via) (addr : Nat) (data : Word) (shadowBad : Option Nat)
  /-- SNAPSHOT_READ (R64): Read of the lowest word of a multi-word value copies it into the reader's snapshot. -/
  | snapshotRead (via : Via) (addr : Nat)
  /-- TIM_SNAP_READ (R132): Read of TIM.SNAP captures timebase, domain times and always-on seconds in one cycle. -/
  | timSnapRead (via : Via)
  /-- TSQ_ENTRY_REMOVE (R140): Read of TSU ENT_4 removes the snapshotted head entry. -/
  | tsqEntryRemove (via : Via) (port : Fin 4)
  /-- PARITY_CLR (R77): MGT.REC_CLR.PARITY_CLR empties MGT.PARITY_ADDR. -/
  | parityClr (via : Via)
  /-- BUS_ERR_CLR (R77): MGT.REC_CLR.BUS_ERR_CLR empties the bus error record. -/
  | busErrClr (via : Via)
  /-- STICKY_CLEAR (R61): W1C write clearing sticky bits. -/
  | stickyClear (via : Via) (addr : Nat) (data : Word)
  /-- UNIT_EN_SET (R66): Write that sets a unit's EN, judged on its whole configuration where the chapter says so. -/
  | unitEnSet (via : Via) (addr : Nat) (data : Word)
  /-- UNIT_EN_CLEAR (R66): Write that clears a unit's EN and stops the unit. -/
  | unitEnClear (via : Via) (addr : Nat) (data : Word)
  /-- BANK_SWAP_REQUEST (R68): Write of SWAP = 1 requests a double-bank swap at the unit's next boundary, or swaps at once while EN = 0. -/
  | bankSwapRequest (via : Via) (addr : Nat)
  /-- RX_SWAP_REQUEST (R250): Write of RXT.CTL.SWAP runs the swap checks and fixes T_sw. -/
  | rxSwapRequest (via : Via)
  /-- TX_SWAP_REQUEST (R272): Write of TXT.CTL.SWAP runs the swap checks and fixes T_sw. -/
  | txSwapRequest (via : Via)
  /-- GRT_SWAP_REQUEST (R322): Write of GRT.CTL.SWAP runs the graph swap checks and fixes T_sw. -/
  | grtSwapRequest (via : Via)
  /-- TDM_SWAP_REQUEST (R352): Write of TDM.CTL.SWAP requests a slot mask swap at the next frame sync. -/
  | tdmSwapRequest (via : Via) (port : Fin 16)
  /-- TB_LOAD_COMMIT (R125): Commit of TB_LOAD word 6 schedules a timebase load at the next tick boundary. -/
  | tbLoadCommit (via : Via) (data : Word)
  /-- STEER_COMMIT (R191): Commit of STEER_HI applies the DCO steering value. -/
  | steerCommit (via : Via) (data : Word)
  /-- TRG_ARM_REG (R146): Write of TRG.ARM.ARM arms a trigger unit. -/
  | trgArmReg (via : Via) (k : Fin 32)
  /-- TRG_DISARM_REG (R146): Write of TRG.ARM.DISARM disarms a trigger unit. -/
  | trgDisarmReg (via : Via) (k : Fin 32)
  /-- ASYM_CLR (R129): TIM.TB_CTL.ASYM_CLR sets both ASYM_ADJ to 0. -/
  | asymClr (via : Via)
  /-- CAL_RUN_REQUEST (R447): Write of CAL.CTL.RUN requests a Calender run. -/
  | calRunRequest (via : Via)
  /-- CAL_APPROVE_WRITE (R449): Write to CAL.APPROVE approves pending proposals. -/
  | calApproveWrite (via : Via) (mask : Nat)
  /-- MANUAL_SET (R185): Setting LOOP_MAN.MANUAL puts the loop in MANUAL. -/
  | manualSet (via : Via)
  /-- MANUAL_CLEAR (R186): Clearing LOOP_MAN.MANUAL puts the loop in HOLDOVER and starts a rebuild where needed. -/
  | manualClear (via : Via)
  /-- HO_MODE_WRITE (R186): Write of HOLD.CTL.HO_MODE, which may move a targetless holdover to FREE_RUN at the next tick. -/
  | hoModeWrite (via : Via) (mode : Nat)
  /-- BURIN_EN_CLEAR (R292): Host clear of a Burin's EN takes it out of service with cause 4. -/
  | burinEnClear (via : Via) (n : Fin 64)
  /-- BURIN_EN_SET (R294): Host set of a Burin's EN returns it to service where its cause allows. -/
  | burinEnSet (via : Via) (n : Fin 64)
  /-- HOST_RING_PROD (R366): Host write of a media ring's PROD index. -/
  | hostRingProd (via : Via) (r : Fin 32) (prod : Nat)
  /-- TXR_PROD_WRITE (R221): Host advances a port's transmit frame ring producer index. -/
  | txrProdWrite (via : Via) (port : Fin 4) (prod : Nat)
  /-- RXR_PROD_WRITE (R223): Host posts receive descriptors by advancing RXR_PROD. -/
  | rxrProdWrite (via : Via) (port : Fin 4) (prod : Nat)
  /-- MSIX_VECTOR_UNMASK (R87): Unmasking an MSI-X vector with its pending bit set sends the message. -/
  | msixVectorUnmask (v : Fin 32) (on : Bool)
  /-- XDOM_FALLBACK (R79): A crossing not completed after 4 µs completes on the fallback. -/
  | xdomFallback (via : Via) (addr : Nat) (write : Option Word)
  /-- PARITY_SCRUB (R71): The 1 ms scrubber checks register parity. -/
  | parityScrub (hits : List ParityHit)
  /-- LOG_COMMIT_TIMER (R94): 10 always-on seconds after the previous commit began, a commit starts if entries are uncommitted. -/
  | logCommitTimer
  /-- LOG_PAGE_VERIFIED (R94): A log page write and read-back completes, advancing the committed sequence or rewriting once. -/
  | logPageVerified (ok : Bool)
  /-- LOG_COMMIT_END (R94): A log commit ends, releasing commands that waited and starting a merged successor. -/
  | logCommitEnd
  /-- PFW_N_FALL (R97): PFW_N low for 1 µs starts the power-fail sequence and commit. -/
  | pfwNFall
  /-- POWER_FAIL_COMMIT_END (R97): The power-fail commit ends and LOG_PFW_DONE fires. -/
  | powerFailCommitEnd
  /-- PFW_N_RISE (R97): PFW_N rises, PFW_END fires and normal commits resume. -/
  | pfwNRise (ms : Nat)
  /-- TICK_BOUNDARY (R13): A processing tick boundary: sheets released, playout, packets built, ring slots judged. -/
  | tickBoundary (inp : TickIn)
  /-- TIME_STEP (R124): A pending whole-tick timebase step or host load is applied at its tick boundary. -/
  | timeStep
  /-- TOD_CHANGE (R127): A change of time-of-day domain takes effect at the next tick boundary. -/
  | todChange
  /-- PTP_SYNC_RX (R120): A Sync message is timestamped and, one-step, yields an offset to the servo. -/
  | ptpSyncRx (port : Fin 4) (m : PtpMsg) (raw : Tai)
  /-- PTP_FOLLOW_UP_RX (R120): A Follow_Up completes a two-step Sync and yields an offset. -/
  | ptpFollowUpRx (port : Fin 4) (m : PtpMsg)
  /-- PTP_DELAY_RESP_RX (R120): A Delay_Resp gives t4 and updates the mean path delay. -/
  | ptpDelayRespRx (port : Fin 4) (m : PtpMsg)
  /-- PTP_PDELAY_RESP_RX (R120): Pdelay_Resp and its Follow_Up update the peer link delay. -/
  | ptpPdelayRespRx (port : Fin 4) (m : PtpMsg) (fu : PtpMsg) (raw : Tai)
  /-- PTP_ANNOUNCE_RX (R117): An Announce enters the best-master algorithm and UTC offset handling. -/
  | ptpAnnounceRx (port : Fin 4) (m : PtpMsg) (a : Announce)
  /-- PTP_DELAY_REQ_RX (R117): A master domain answers a Delay_Req or Pdelay_Req. -/
  | ptpDelayReqRx (port : Fin 4) (m : PtpMsg) (raw : Tai)
  /-- PTP_MASTER_TX_INTERVAL (R117): A master domain sends Announce or Sync at its configured interval. -/
  | ptpMasterTxInterval (d : Fin 2) (announce : Bool)
  /-- PTP_DELAY_REQ_TX_INTERVAL (R119): A slave domain sends Delay_Req or Pdelay_Req at LOG_DELAY. -/
  | ptpDelayReqTxInterval (d : Fin 2) (raw : Tai)
  /-- ANNOUNCE_RECEIPT_TIMEOUT (R119): Announce receipt timer expires; master dropped and best-master re-run. -/
  | announceReceiptTimeout (d : Fin 2)
  /-- SYNC_RECEIPT_TIMEOUT (R119): Sync receipt timer expires; servo to HOLD. -/
  | syncReceiptTimeout (d : Fin 2)
  /-- FOLLOW_UP_TIMEOUT (R119): A Follow_Up not arriving within its timer discards the Sync. -/
  | followUpTimeout (d : Fin 2)
  /-- DELAY_RESPONSE_TIMEOUT (R119): A delay response not arriving is counted; after 8 the event fires. -/
  | delayResponseTimeout (d : Fin 2)
  /-- LEAP_DAY_END (R113): End of a UTC day carrying a leap flag moves UTC_OFFSET. -/
  | leapDayEnd
  /-- ASYM_TRACK_PERIOD (R129): Every 60 s of ASYM_ACTIVE time ASYM_ADJ moves 1 ns or is withheld at the limit. -/
  | asymTrackPeriod (est : Int)
  /-- TIMED_FRAME_LAUNCH (R156): A timed frame on N2 or N3 leaves at its launch time, or at once if late. -/
  | timedFrameLaunch (port : Fin 4) (at_ : Tai)
  /-- TRIGGER_FIRE (R147): An armed trigger reaches its target's boundary and acts. -/
  | triggerFire (k : Fin 32) (at_ : Tai)
  /-- CC_GRID_POINT (R153): A control-cycle generator grid point pulses, ticks control graphs and fires a lent event. -/
  | ccGridPoint (n : Fin 4)
  /-- REF_TICK (R170): The 1 ms evaluation of monitors, consensus, selector and switch machine. -/
  | refTick (inp : RefTickIn)
  /-- REF_QUALIFY (R163): A qualification timer reaches zero and the reference becomes QUALIFIED. -/
  | refQualify (n : Fin 7)
  /-- REF_DWELL_EXPIRY (R165): A SUSPECT reference's dwell timer reaches zero and it is disqualified. -/
  | refDwellExpiry (n : Fin 7)
  /-- REF_CLEAR_EXPIRY (R165): A SUSPECT reference's clear timer reaches zero and it returns to QUALIFIED or ACTIVE. -/
  | refClearExpiry (n : Fin 7)
  /-- WCK_STOP_DETECT (R178): No WCK_IN or PPS edge for 2 expected periods fails the reference. -/
  | wckStopDetect (n : Fin 2)
  /-- WCK_RATE_RECOGNISED (R177): A rate held within ±1,000 ppm for 100 ms is recognised. -/
  | wckRateRecognised (n : Fin 2) (meas : Nat)
  /-- SWITCH_START (R169): A switch to a target starts once the HOLDOFF spacing allows. -/
  | switchStart
  /-- BUILD_OUT (R173): MEASURE ends and the measured phase is absorbed, the target becoming ACTIVE. -/
  | buildOut (drift : Int) (resid : Int)
  /-- SETTLE_STEP (R173): Each 2 s of SETTLE raises the loop bandwidth code. -/
  | settleStep
  /-- HOLDOVER_SECOND (R190): Each second the history is recorded or the holdover error predicted. -/
  | holdoverSecond (avg : Int)
  /-- MEDIA_PLL_UNLOCK (R194): The media PLL loses lock and outputs go inactive. -/
  | mediaPllUnlock
  /-- MEDIA_PLL_LOCK (R194): The media PLL regains lock after 1 ms within 1 ns. -/
  | mediaPllLock
  /-- ALIGN_AT_S (R199): At second S the named outputs are re-aligned. -/
  | alignAtS
  /-- LINK_UP (R206): A port's link comes up. -/
  | linkUp (port : Fin 4) (speed : Fin 4) (eee : Bool) (refused : Bool)
  /-- LINK_DOWN (R207): A port's link goes down; queues flushed and paths lost. -/
  | linkDown (port : Fin 4)
  /-- INGRESS_FRAME (R210): A received frame is sized, filtered, classified and policed into the ingress Post. -/
  | ingressFrame (port : Fin 4) (f : FrameIn)
  /-- MEDIA_PACKET_RX (R240): A media packet is judged by the path merger and written to the jitter buffer. -/
  | mediaPacketRx (path : Fin 5) (p : MediaPkt) (at_ : Tai)
  /-- BEST_EFFORT_FRAME_RX (R223): A best-effort frame is delivered to the host receive ring. -/
  | bestEffortFrameRx (port : Fin 4) (len : Nat) (tag : Option (Nat × Nat)) (ptp : Bool) (at_ : Tai) (buf : Nat × Nat)
  /-- PAUSE_FRAME_RX (R214): A PAUSE or PFC frame is honoured or counted. -/
  | pauseFrameRx (port : Fin 4) (pfc : Bool) (en : Nat) (quanta : List Nat)
  /-- PAUSE_EXPIRY (R214): A pause's quanta run out and the queues resume. -/
  | pauseExpiry (port : Fin 4) (queue : Fin 4)
  /-- ESMC_PDU_RX (R167): An ESMC PDU sets the quality level of REF2 or REF3. -/
  | esmcPduRx (port : Fin 2) (ql : Ql)
  /-- ESMC_TIMEOUT (R167): No ESMC PDU for 5 s makes the quality level 15. -/
  | esmcTimeout (port : Fin 2)
  /-- ANNOUNCEMENT_RX (R252): A Caska announcement updates the peer directory. -/
  | announcementRx (port : Fin 4) (data : List Byte)
  /-- PEER_AGE_OUT (R252): An announced peer unseen for three intervals is lost. -/
  | peerAgeOut (dev : Nat)
  /-- ANNOUNCE_ROUND (R274): Each INTERVAL an announcement round is sent. -/
  | announceRound
  /-- EGRESS_FRAME_START (R212): The MAC starts the next frame by strict priority. -/
  | egressFrameStart (port : Fin 4) (at_ : Tai)
  /-- MAC_UNDERRUN (R215): A started DMA frame runs out of bytes and is ended with inverted FCS. -/
  | macUnderrun (port : Fin 4)
  /-- HOST_TX_DESCRIPTOR (R222): The device reads a transmit descriptor, queues the frame and writes status back. -/
  | hostTxDescriptor (port : Fin 4) (desc : List Byte) (frame : List Byte) (at_ : Tai)
  /-- UTILISATION_SECOND (R216): Each second a port's utilisation is recomputed against the step-down test. -/
  | utilisationSecond (meas : List (Nat × Nat))
  /-- STEP_DOWN_DUE (R216): After 60 s below 40 % of the next speed, a speed step down begins. -/
  | stepDownDue (port : Fin 2)
  /-- SECOND_PORT_STEP (R217): The second port begins stepping 100 ms after the first is up. -/
  | secondPortStep (port : Fin 2)
  /-- SPEED_STEP_DONE (R218): The link comes up at the target speed and the step completes. -/
  | speedStepDone (port : Fin 2)
  /-- STEP_TIMEOUT (R218): A step not up within 3 s restores the previous advertisement. -/
  | stepTimeout (port : Fin 2)
  /-- PENDING_STREAM_TIMEOUT (R219): A pending stream whose ports are not up within 3 s has its EN cleared. -/
  | pendingStreamTimeout (tx : Bool) (e : Fin 512)
  /-- LPI_ENTER (R220): Transmit enters low-power idle after 20 µs of empty queues. -/
  | lpiEnter (port : Fin 4)
  /-- LPI_EXIT (R220): Transmit leaves LPI for a queued frame or 30 µs before a timed launch. -/
  | lpiExit (port : Fin 4)
  /-- FD_ESTIMATOR_UPDATE (R248): A foreign-domain estimator loop update, with state changes of Table 10.5. -/
  | fdEstimatorUpdate (k : Fin 64) (adj : Int) (ratio : Int)
  /-- RX_SWAP_AT_TSW (R250): At T_sw the receive table's active bank flips. -/
  | rxSwapAtTsw
  /-- OLD_GROUP_LEAVE (R250): Groups used only by the old bank are left after the largest old span. -/
  | oldGroupLeave
  /-- TX_SWAP_AT_TSW (R272): At T_sw the transmit table's active bank flips. -/
  | txSwapAtTsw
  /-- GRAPH_SWAP_AT_TSW (R322): At T_sw the graph bank flips and releases use the new bank. -/
  | graphSwapAtTsw
  /-- GRAPH_PARAM_APPLY (R317): Live node values apply at their tick boundary. -/
  | graphParamApply
  /-- SHEET_COMPLETE (R287): A Burin finishes a sheet and chooses its next work, lifting where needed. -/
  | sheetComplete (b : Fin 64) (c : Nat)
  /-- BACKING_SLICE_END (R299): A backing slice ends and the Burin chooses its next work. -/
  | backingSliceEnd (b : Fin 64) (c : Nat) (pct : Option Nat)
  /-- BURIN_IDLE_RETRY (R287): An idle Burin retries its search after 0.5 µs. -/
  | burinIdleRetry (b : Fin 64) (c : Nat)
  /-- SHEET_DEADLINE (R17): A sheet not complete at its deadline is abandoned with its dependants. -/
  | sheetDeadline
  /-- BURIN_SELFTEST_DUE (R300): Each second the next Burin's background self-test runs. -/
  | burinSelftestDue (fail : Fin 4)
  /-- DRAM_MR4_CHANGE (R330): The LPDDR4X reports a new refresh rate in MR4. -/
  | dramMr4Change (code : Fin 8) (mult : Fin 3) (derate : Bool)
  /-- RETRAIN_DUE (R336): A live retrain pass starts on its interval or a temperature move. -/
  | retrainDue
  /-- RETRAIN_PASS_END (R336): A live retrain pass completes and may apply new timing. -/
  | retrainPassEnd (margins : List Nat) (widens : Bool)
  /-- SCRUB_PASS_END (R335): A Ream scrub pass ends. -/
  | scrubPassEnd (bad : Nat)
  /-- DDR_PHY_UNLOCK (R339): The DDR PHY loses lock and Ream accesses fail as in an outage. -/
  | ddrPhyUnlock
  /-- DDR_PHY_LOCK (R339): The DDR PHY regains lock and a live retrain starts. -/
  | ddrPhyLock
  /-- BW_SECOND (R333): Each second Ream bandwidth and read latency are measured. -/
  | bwSecond (avg : Nat) (p99 : Nat) (peak : Nat)
  /-- TDM_FRAME_SYNC (R349): A TDM frame sync places a frame, applies pending swaps, grants and tracks phase. -/
  | tdmFrameSync (port : Fin 16) (f : TdmFrame)
  /-- TDM_CLOCK_LOST (R350): No BCLK or frame sync for 2 frame periods loses the slave clock. -/
  | tdmClockLost (port : Fin 16) (cause : Fin 16)
  /-- ZC_TIMEOUT (R354): A zero-crossing wait times out and the change is ramped in. -/
  | zcTimeout (port : Fin 16) (out : Bool) (idx : Fin 32)
  /-- PDM_CLOCK_LOST (R361): Mm_CLK read-back fails for 8 periods and the lane's microphones go to zero. -/
  | pdmClockLost (lane : Fin 8)
  /-- PDM_STUCK (R361): A microphone's data bit constant for 1 ms is marked stuck. -/
  | pdmStuck (lane : Fin 8) (mic : Fin 2) (level : Bool)
  /-- PDM_ZC_TIMEOUT (R360): A PDM microphone's zero-crossing wait times out. -/
  | pdmZcTimeout (lane : Fin 8) (mic : Fin 2)
  /-- AMP_TRIP (R378): A protection trip sets a channel's gates low, classifies it and enters FAULT. -/
  | ampTrip (x : Fin 8) (t : TripIn)
  /-- AMP_BOOTSTRAP_DONE (R374): The 20 µs bootstrap charge of STARTING ends. -/
  | ampBootstrapDone (x : Fin 8)
  /-- AMP_STOP_DONE (R375): 10 ms at zero after a stop crossing, all gates go low and the channel is OFF. -/
  | ampStopDone (x : Fin 8)
  /-- AMP_ZC_TIMEOUT (R375): An amplifier channel's zero-crossing wait times out. -/
  | ampZcTimeout (x : Fin 8)
  /-- AMP_RETRY (R380): A retry interval expires and the channel probes or restarts. -/
  | ampRetry (x : Fin 8)
  /-- AMP_PROBE_END (R380): The 20 ms probe ends in pass or fail. -/
  | ampProbeEnd (x : Fin 8) (r : Nat) (near : Bool) (acted : Bool)
  /-- AMP_BACKOFF_RESET (R378): A channel that has run 60 s since its trip returns its back-off to RETRY. -/
  | ampBackoffReset (x : Fin 8)
  /-- AMP_HOLD_START (R381): A supply, temperature or NTC hold cause begins and stops channels. -/
  | ampHoldStart (c : Fin 11) (v : Int) (hi : Bool)
  /-- AMP_HOLD_CLEAR (R377): A hold cause clears after its release condition and channels restart. -/
  | ampHoldClear (c : Fin 11) (v : Int)
  /-- CLKMUTE_GATES_OFF (R382): After 10 ms at zero in CLKMUTE the gates go low. -/
  | clkmuteGatesOff (x : Fin 8)
  /-- CLKMUTE_RESUME (R382): After 100 ms of valid source and lock the channel resumes. -/
  | clkmuteResume (x : Fin 8)
  /-- AMP_CAL_PASS_END (R383): A live calibration pass moves offset and gain corrections. -/
  | ampCalPassEnd (x : Fin 8) (off : Int) (gain : Int)
  /-- DIAG_OFFLINE_END (R391): The offline sequence ends and results and classes are stored. -/
  | diagOfflineEnd (r : List (Nat × DiagMeas))
  /-- LIVE_TEST_DUE (R393): A scheduled live test falls due on its interval. -/
  | liveTestDue (x : Fin 8)
  /-- LIVE_WINDOW_END (R395): A 2 s pilot correlation window ends and is counted or reopened. -/
  | liveWindowEnd (x : Fin 8) (counted : Bool) (z : Nat) (arg : Int) (rdc : Nat)
  /-- LIVE_DEFER_TIMEOUT (R395): A frequency without a counted window in DEFER_TIME is deferred. -/
  | liveDeferTimeout (x : Fin 8) (rdc : Nat)
  /-- HEARTBEAT_RX (R409): A partner heartbeat restarts the timer and drives negotiation. -/
  | heartbeatRx (h : Heartbeat)
  /-- HEARTBEAT_TX (R405): Every 100 µs a heartbeat is sent on the pair link. -/
  | heartbeatTx
  /-- HEARTBEAT_TIMEOUT (R410): No heartbeat for 300 µs; the unit acts on Table 18.3. -/
  | heartbeatTimeout
  /-- PAIR_LANE_LOCK_LOSS (R410): Pair lane lock is lost and PAIR_LINK_DOWN fires. -/
  | pairLaneLockLoss
  /-- MIRROR_RECORD_RX (R413): A mirror record is applied on the standby at its boundary. -/
  | mirrorRecordRx (seq : Nat) (r : MirrorRec)
  /-- LOCKSTEP_SHARE_RX (R414): Estimator lines, ratios and H_d from the active unit are applied. -/
  | lockstepShareRx (x : ShareIn)
  /-- DIGEST_WINDOW_END (R428): A 16-tick window ends and digests are computed and sent. -/
  | digestWindowEnd
  /-- DIGEST_RX (R429): Partner digests are compared and mismatches judged. -/
  | digestRx (w : Nat) (digests : List Nat) (flagged : Bool)
  /-- HEALTH_REPORT_TX (R432): Every 10 ms the health report is sent. -/
  | healthReportTx
  /-- HEALTH_REPORT_RX (R432): A partner health report is stored. -/
  | healthReportRx (bytes : List Byte)
  /-- REPAIR_REQUEST_RX (R418): The partner's repair request is served from stream history within the rate. -/
  | repairRequestRx (e : Fin 512) (seqs : List Nat) (room : Nat)
  /-- PAIR_TAKE_ASSERT (R421): PAIR_TAKE low for 1 µs triggers a takeover or PAIR_TAKE_IN. -/
  | pairTakeAssert
  /-- HANDOVER_AT_TH (R423): At T_h the pair roles and SPLIT paths exchange. -/
  | handoverAtTh
  /-- CLONE_STAGING_DONE (R425): Clone data is staged and checked, and T_c is fixed. -/
  | cloneStagingDone (c : CloneIn)
  /-- CLONE_APPLY (R425): At T_c the staging replaces the mirrored objects and the unit enters STANDBY_SYNC. -/
  | cloneApply
  /-- CLONE_TIMEOUT (R426): A clone reaching 2.0 s fails. -/
  | cloneTimeout
  /-- CLONE_RETRY (R426): 10 s after a failed clone with the link up, the clone retries. -/
  | cloneRetry
  /-- RING_OSC_SAMPLE (R438): Hourly ring oscillator degradation measurement. -/
  | ringOscSample (deg : List Int)
  /-- REPLICA_SAMPLE (R453): 1 ms replica slack measurement, raising VDD_CORE at once below 30 ps. -/
  | replicaSample (slack : Int) (sens : Nat) (ack : Bool)
  /-- DIE_TEMP_SAMPLE (R439): 10 ms die temperature reading against TEMP_WARN and TEMP_CRIT. -/
  | dieTempSample (t : List Int)
  /-- DAILY_LEDGER (R443): At each day boundary the daily ageing records are written. -/
  | dailyLedger (d : DayIn)
  /-- CALENDER_PERIODIC (R447): PERIOD after LAST_RUN a Calender run starts. -/
  | calenderPeriodic
  /-- CALENDER_RUN_END (R447): A Calender run applies safe values, proposes others and fires CALENDER_REPLAN. -/
  | calenderRunEnd
  /-- NVM_REFRESH_DUE (R455): The non-volatile refresh interval elapses and pages are rewritten. -/
  | nvmRefreshDue
  /-- LOWER_STATE_ENTER (R466): Entry steps end and LISTEN, DOZE or SHELF is entered. -/
  | lowerStateEnter
  /-- WAKE_CAPTURE (R468): A wake source is captured and the timebase restarts from AO_SEC. -/
  | wakeCapture (src : List (Nat × Nat)) (slept : Nat)
  /-- WAKE_COMPLETE (R469): The DOZE wake reaches LISTEN and WAKE fires. -/
  | wakeComplete
  /-- LISTEN_TO_RUN_DONE (R470): LISTEN to RUN completes with the DDR domain and Burins up. -/
  | listenToRunDone
  /-- POWER_ON_RESET_RELEASE (R471): Power-on reset is released and a cold start begins. -/
  | powerOnResetRelease (ao : Bool) (t : StepTwo)
  /-- COLD_START_READY (R471): Step 7 of the cold start makes the device command-ready. -/
  | coldStartReady (c : ColdIn)
  /-- SUPPLY_RECHECK (R472): A cold start waiting at step 2 rechecks supplies every 10 ms. -/
  | supplyRecheck (t : StepTwo)
  /-- REFXO_RETRY (R472): A cold start waiting for REFXO retries every 1 s. -/
  | refxoRetry (t : StepTwo)
  /-- REFXO_LOST (R472): REFXO lost after step 2 resets every domain except AO. -/
  | refxoLost
  /-- XO32_SWITCH (R471): AO_SEC moves to the crystal after 1 s within ±200 ppm. -/
  | xo32Switch
  /-- XO32_FAIL_TIMEOUT (R471): The crystal not running within 3 s fires XO32_FAIL. -/
  | xo32FailTimeout
  /-- RESET_N_ASSERT (R474): RESET_N low for 1 µs resets every domain except AO. -/
  | resetNAssert (t : StepTwo)
  /-- RESET_COMMAND_ACT (R474): 1 ms after RESET replies, the reset takes place. -/
  | resetCommandAct (t : StepTwo)
  /-- PRESENT_N_RISE (R478): Board removal starts the power-fail sequence and releases outputs. -/
  | presentNRise
  /-- PRESENT_N_SETTLED (R478): PRESENT_N low again for 10 ms resets with cause re-insertion. -/
  | presentNSettled (t : StepTwo)
  /-- PERST_N_ASSERT (R479): PERST_N low or PCIe link loss resets the endpoint and stops rings. -/
  | perstNAssert
  /-- PERST_N_RISE (R479): PERST_N rises and the PCIe link retrains. -/
  | perstNRise
  /-- SUPPLY_SAMPLE (R476): Every 1 ms supplies are checked against warning and fail windows. -/
  | supplySample (mv : List Nat)
  /-- PROOF_HOLD_EXPIRY (R490): A proof reaches its hold time and ends. -/
  | proofHoldExpiry (resource : Fin 3)
  /-- PROOF_COMPLETE (R490): A fixed-length proof ends by itself with pass or fail. -/
  | proofComplete (pass : Bool) (v0 : Int) (v1 : Int)
  /-- XO32_CRYSTAL_STOP (R467): The 32.768 kHz crystal stops running, AO_SEC and the always-on controller move to the internal oscillator and XO32_FAIL begins to hold raw. -/
  | xo32CrystalStop
  /-- PDM_CLOCK_RETURN (R361): After 1 ms of good Mm_CLK read-back a lost PDM lane clock returns, its microphones deliver samples again and PDM_CLK_BACK fires. -/
  | pdmClockReturn (lane : Fin 8)
  /-- PDM_STUCK_CLEAR (R361): A stuck microphone whose data has toggled for 1 ms is cleared and delivers samples again. -/
  | pdmStuckClear (lane : Fin 8) (mic : Fin 2)
  /-- SERDES_EYE_SAMPLE (R438): Each second the eye heights of N0 to N3 and the pair lane are measured, driving SERDES_EYE, PAIR_EYE and AGEING_THRESH for monitor 9. -/
  | serdesEyeSample (eyes : List Nat)
  /-- PRE_MASTER_QUALIFICATION_TIMEOUT (R118): A PTP domain in PRE_MASTER completes its IEEE 1588 qualification interval and enters MASTER. -/
  | preMasterQualificationTimeout (d : Fin 2)
  /-- FET_TEMPERATURE_WARNING (R377): TSNSk crosses OTW, which sets PROT.STATUS.OTW and fires AMP_OTW, or falls back below it. -/
  | fetTemperatureWarning (k : Fin 4) (v : Int)
  /-- CYCLE_BY_CYCLE_LIMIT (R377): The shunt voltage crosses ILIM in a switching period, the conducting pair is turned off for the rest of the period, and LIMIT_CYCLES and AMP_ILIMIT are updated. -/
  | cycleByCycleLimit (x : Fin 8)
  /-- UART_REPLY_LINE_SENT (R51): The last character of a UART reply line leaves the pin, so a pending BAUD change takes effect and event lines may follow. -/
  | uartReplyLineSent
  /-- NVM_REFRESH_END (R455): The non-volatile refresh completes its last page, records LAST_REFRESH and the lowest margin, and judges monitor 4. -/
  | nvmRefreshEnd (margin : Nat)
  /-- PAIR_TAKE_RELEASE (R406): PAIR_TAKE returns high, STATUS.TAKE_IN clears and the PAIR_TAKE_IN condition ends. -/
  | pairTakeRelease
  deriving DecidableEq, Repr

end Sys2Proof
end

