-- ==== Sys2Proof/Decode.lean ====
section
/-!
DEFINITION. Decode.lean: the command a word spells by the bits of spec/opcode_table.json. The table gives none of its
rows any bits (every row's list of fields is empty): a command is a packet, a register access, a frame, a pin or a
timer, and its operands are its arguments. So no word spells a command. (The packets of the carriers are read by
the named operations of Machine/, from their bytes.)
-/

namespace Sys2Proof

/-- The command that the bits `w` of a row of `nbits` bits spell: none, since no row of the table has bits. -/
def decodeTableWord (nbits w : Nat) : Option Instr :=
  match nbits, w with
  | _, _ => none

end Sys2Proof
end

