-- ==== Sys2Proof/Config.lean ====
section
/-!
DEFINITION. Config.lean: what an implementation fixes, and the free values. A free value is a constant with no
body: no proof can know what it is, and a claim about it holds whatever it is. The state's counter `draws` is
its argument where a fresh value is taken each time (log entry 3).
-/

namespace Sys2Proof

/-- A 16-bit draw the spec calls random (the first RTP sequence number, R270). -/
opaque Config.random16 : Nat → BitVec 16

/-- A 32-bit draw the spec calls random (RTP synchronisation source, probes of R287). -/
opaque Config.random32 : Nat → BitVec 32

/-- The linear coefficient of a level in 0.01 dB, in 2^-24 units (the spec states the level and not the
rounding of its coefficient; log entry 4). -/
opaque Config.dbCoef : Int → Int

/-- A sample value the spec leaves to the implementation (the interpolation and noise shaping of rate
conversion, limiters and generators; log entry 4). -/
opaque Config.sampleValue : Nat → BitVec 32

/-- A measured or derived quantity the spec names without stating how it is rounded (log entry 4). -/
opaque Config.measured : Nat → BitVec 32

/-- The gain reduction of linked limiter channels in 0.01 dB, by release and node (the spec states the threshold
and the times and not the law; log entry 4). -/
opaque Config.reduction : Nat → Nat → BitVec 16

/-- The RMS magnitude of so many squares' sum over so many samples (its rounding is not stated; log entry 4). -/
opaque Config.rms : Nat → Nat → BitVec 32

/-- The firmware version that INFO reports (R41), by the CRC of the patch in force, 0 for the ROM's: the spec gives no value. -/
opaque Config.firmwareVersion : Nat → BitVec 32

/-- The object of a log entry made by a command that names no object, by opcode (Table 4.6; log entry 14). -/
opaque Config.noObject : Nat → BitVec 32

/-- The low 16 bits of a CRC-32C that a request line of the service UART does not carry (Table 4.6; log entry 14). -/
opaque Config.lineCrc : Nat → BitVec 16

end Sys2Proof
end

