-- ==== Sys2Proof/Machine/Bits.lean ====
section
/-!
DEFINITION. Machine/Bits.lean: bytes and check codes. Little-endian fields of packets and entries (R33, R91),
the CRC-32C of a packet (R33), the CRC-16 of a log entry (R91), HMAC-SHA-256 of an authenticated session
(R48), two's complement views and the rounding helpers the rules name.
-/

namespace Sys2Proof.Machine

/-- The low `k` bytes of `v`, lowest first. -/
def leBytes : Nat → Nat → List Byte
  | 0, _ => []
  | k + 1, v => BitVec.ofNat 8 v :: leBytes k (v / 256)

/-- The number a little-endian byte string spells. -/
def leNat : List Byte → Nat
  | [] => 0
  | b :: l => b.toNat + 256 * leNat l

/-- The number a big-endian byte string spells (R208). -/
def beNat (l : List Byte) : Nat := leNat l.reverse

/-- `k` bytes of `v`, highest first (R208). -/
def beBytes (k v : Nat) : List Byte := (leBytes k v).reverse

/-- The little-endian field of `k` bytes at offset `o`. -/
def leAt (l : List Byte) (o k : Nat) : Nat := leNat ((l.drop o).take k)

/-- The big-endian field of `k` bytes at offset `o`. -/
def beAt (l : List Byte) (o k : Nat) : Nat := beNat ((l.drop o).take k)

/-- Bit `n` of `v`. -/
def bitOf (v n : Nat) : Bool := v.testBit n

/-- Bits [hi:lo] of `v`. -/
def bitsOf (v hi lo : Nat) : Nat := (v / 2 ^ lo) % 2 ^ (hi - lo + 1)

/-- 1 for true. -/
def b2n (b : Bool) : Nat := if b then 1 else 0

/-- The signed reading of a `w`-bit field. -/
def signed (w v : Nat) : Int := if v % 2 ^ w < 2 ^ (w - 1) then (v % 2 ^ w : Nat) else (v % 2 ^ w : Nat) - (2 ^ w : Nat)

/-- The `w`-bit two's complement field of an integer. -/
def unsigned (w : Nat) (v : Int) : Nat := (v % (2 ^ w : Nat)).toNat

/-- An integer saturated to `w` bits signed. -/
def satSigned (w : Nat) (v : Int) : Int :=
  if v < -(2 ^ (w - 1) : Nat) then -(2 ^ (w - 1) : Nat)
  else if v > ((2 ^ (w - 1) : Nat) : Int) - 1 then ((2 ^ (w - 1) : Nat) : Int) - 1 else v

/-- A count saturated to `w` bits. -/
def satNat (w v : Nat) : Nat := if v < 2 ^ w then v else 2 ^ w - 1

/-- Quotient rounded up. -/
def ceilDiv (a b : Nat) : Nat := if b = 0 then 0 else (a + b - 1) / b

/-- Quotient rounded to the nearest integer, halves away from zero. -/
def roundDiv (a : Int) (b : Nat) : Int :=
  if b = 0 then 0 else if a < 0 then -(((-a) * 2 + b) / (2 * b)) else (a * 2 + b) / (2 * b)

/-- One bit of a reflected CRC. -/
def crcBit (poly c : Nat) : Nat := if c % 2 = 1 then Nat.xor (c / 2) poly else c / 2

/-- `n` bits of a reflected CRC. -/
def crcBits (poly : Nat) : Nat → Nat → Nat
  | 0, c => c
  | n + 1, c => crcBits poly n (crcBit poly c)

/-- CRC-32C (Castagnoli) of a byte string (R33). -/
def crc32c (l : List Byte) : Nat :=
  Nat.xor 0xFFFFFFFF (l.foldl (fun c b => crcBits 0x82F63B78 8 (Nat.xor c b.toNat)) 0xFFFFFFFF)

/-- `n` bits of the CRC-16 of polynomial 0x1021. -/
def crc16Bits : Nat → Nat → Nat
  | 0, c => c
  | n + 1, c => crc16Bits n (if c ≥ 32768 then Nat.xor (c * 2 % 65536) 0x1021 else c * 2 % 65536)

/-- CRC-16 of a log entry: polynomial 0x1021, initial 0xFFFF, no reflection, no final inversion (R91). -/
def crc16 (l : List Byte) : Nat :=
  l.foldl (fun c b => crc16Bits 8 (Nat.xor c (b.toNat * 256))) 0xFFFF

/-- The 64 round constants of SHA-256. -/
def shaK : List Nat :=
  [0x428a2f98, 0x71374491, 0xb5c0fbcf, 0xe9b5dba5, 0x3956c25b, 0x59f111f1, 0x923f82a4, 0xab1c5ed5,
   0xd807aa98, 0x12835b01, 0x243185be, 0x550c7dc3, 0x72be5d74, 0x80deb1fe, 0x9bdc06a7, 0xc19bf174,
   0xe49b69c1, 0xefbe4786, 0x0fc19dc6, 0x240ca1cc, 0x2de92c6f, 0x4a7484aa, 0x5cb0a9dc, 0x76f988da,
   0x983e5152, 0xa831c66d, 0xb00327c8, 0xbf597fc7, 0xc6e00bf3, 0xd5a79147, 0x06ca6351, 0x14292967] ++
  [0x27b70a85, 0x2e1b2138, 0x4d2c6dfc, 0x53380d13, 0x650a7354, 0x766a0abb, 0x81c2c92e, 0x92722c85,
   0xa2bfe8a1, 0xa81a664b, 0xc24b8b70, 0xc76c51a3, 0xd192e819, 0xd6990624, 0xf40e3585, 0x106aa070,
   0x19a4c116, 0x1e376c08, 0x2748774c, 0x34b0bcb5, 0x391c0cb3, 0x4ed8aa4a, 0x5b9cca4f, 0x682e6ff3,
   0x748f82ee, 0x78a5636f, 0x84c87814, 0x8cc70208, 0x90befffa, 0xa4506ceb, 0xbef9a3f7, 0xc67178f2]

/-- 32-bit rotate right. -/
def ror32 (x n : Nat) : Nat := (x / 2 ^ n + x * 2 ^ (32 - n)) % 2 ^ 32

/-- The message schedule of one SHA-256 block, extended word by word; the list is newest first. -/
def shaExtend : Nat → List Nat → List Nat
  | 0, w => w
  | n + 1, w =>
    let w15 := w.getD 14 0
    let w2 := w.getD 1 0
    let s0 := Nat.xor (Nat.xor (ror32 w15 7) (ror32 w15 18)) (w15 / 8)
    let s1 := Nat.xor (Nat.xor (ror32 w2 17) (ror32 w2 19)) (w2 / 1024)
    shaExtend n ((w.getD 15 0 + s0 + w.getD 6 0 + s1) % 2 ^ 32 :: w)

/-- The eight working words of SHA-256. -/
structure ShaState where
  a : Nat
  b : Nat
  c : Nat
  d : Nat
  e : Nat
  f : Nat
  g : Nat
  h : Nat
  deriving DecidableEq, Repr

/-- One SHA-256 round. -/
def shaRound (s : ShaState) (k w : Nat) : ShaState :=
  let s1 := Nat.xor (Nat.xor (ror32 s.e 6) (ror32 s.e 11)) (ror32 s.e 25)
  let ch := Nat.xor (Nat.land s.e s.f) (Nat.land (2 ^ 32 - 1 - s.e) s.g)
  let t1 := s.h + s1 + ch + k + w
  let s0 := Nat.xor (Nat.xor (ror32 s.a 2) (ror32 s.a 13)) (ror32 s.a 22)
  let mj := Nat.xor (Nat.xor (Nat.land s.a s.b) (Nat.land s.a s.c)) (Nat.land s.b s.c)
  ⟨(t1 + s0 + mj) % 2 ^ 32, s.a, s.b, s.c, (s.d + t1) % 2 ^ 32, s.e, s.f, s.g⟩

/-- One SHA-256 block. -/
def shaBlock (s : ShaState) (blk : List Byte) : ShaState :=
  let w0 := (List.range 16).foldl (fun acc i => beAt blk (4 * i) 4 :: acc) []
  let w := (shaExtend 48 w0).reverse
  let t := (shaK.zip w).foldl (fun s kw => shaRound s kw.1 kw.2) s
  let p := fun x y : Nat => (x + y) % 2 ^ 32
  ⟨p s.a t.a, p s.b t.b, p s.c t.c, p s.d t.d, p s.e t.e, p s.f t.f, p s.g t.g, p s.h t.h⟩

/-- SHA-256 over `n` blocks of a padded message. -/
def shaBlocks : Nat → ShaState → List Byte → ShaState
  | 0, s, _ => s
  | n + 1, s, m => shaBlocks n (shaBlock s (m.take 64)) (m.drop 64)

/-- SHA-256 of a byte string. -/
def sha256 (m : List Byte) : List Byte :=
  let padLen := (119 - m.length % 64) % 64
  let p := m ++ [0x80#8] ++ List.replicate padLen 0#8 ++ beBytes 8 (m.length * 8)
  let s := shaBlocks (p.length / 64)
    ⟨0x6a09e667, 0xbb67ae85, 0x3c6ef372, 0xa54ff53a, 0x510e527f, 0x9b05688c, 0x1f83d9ab, 0x5be0cd19⟩ p
  beBytes 4 s.a ++ beBytes 4 s.b ++ beBytes 4 s.c ++ beBytes 4 s.d ++
  beBytes 4 s.e ++ beBytes 4 s.f ++ beBytes 4 s.g ++ beBytes 4 s.h

/-- HMAC-SHA-256 with a key of at most 64 bytes. -/
def hmacSha256 (key m : List Byte) : List Byte :=
  let k := key ++ List.replicate (64 - key.length) 0#8
  sha256 (k.map (· ^^^ 0x5c#8) ++ sha256 (k.map (· ^^^ 0x36#8) ++ m))

/-- The tag of an authenticated packet: the first 16 bytes of the HMAC (R48). -/
def sessionTag (key m : List Byte) : List Byte := (hmacSha256 key m).take 16

end Sys2Proof.Machine
end

