-- ==== Sys2Proof/Machine/EventMap.lean ====
section
/-!
DEFINITION. Machine/EventMap.lean: the 256 event sources by mnemonic (R83, Table 4.1). A source is the number
16 g + b of "event g.b".
-/

namespace Sys2Proof.Machine.Ev

/-- Trigger unit k of groups 2 and 3. -/
def TRG (k : Nat) : Nat := 32 + k

def CFG_PARITY : Nat := 0
def BUS_ERR : Nat := 1
def WR_IGNORED : Nat := 2
def BAD_VALUE : Nat := 3
def DENIED : Nat := 4
def BUSY_REJECT : Nat := 5
def XDOM_ABSENT : Nat := 6
def NVM_FAIL : Nat := 7
def NVM_WEAR : Nat := 8
def LOG_WRAP : Nat := 9
def LOG_PFW_DONE : Nat := 10
def CFG_DEFAULT : Nat := 11
def FW_PATCH_FAIL : Nat := 12
def LONG_DONE : Nat := 13
def AUTH_FAIL : Nat := 14
def CARRIER_DISC : Nat := 15
def A_STATE : Nat := 16
def B_STATE : Nat := 17
def A_GM_CHANGE : Nat := 18
def B_GM_CHANGE : Nat := 19
def A_RX_TIMEOUT : Nat := 20
def B_RX_TIMEOUT : Nat := 21
def A_SERVO : Nat := 22
def B_SERVO : Nat := 23
def TIME_STEP : Nat := 24
def ASYM_STEP : Nat := 25
def ASYM_LIMIT : Nat := 26
def LEAP : Nat := 27
def TSQ_OVF_N0 : Nat := 28
def TSQ_OVF_N1 : Nat := 29
def TSQ_OVF_N2 : Nat := 30
def TSQ_OVF_N3 : Nat := 31
def REF_QUALIFY : Nat := 64
def REF_SUSPECT : Nat := 65
def REF_DISQUALIFY : Nat := 66
def REF_FAIL : Nat := 67
def REF_GLITCH : Nat := 68
def WCK_RATE : Nat := 69
def SWITCH_START : Nat := 70
def SWITCH_DONE : Nat := 71
def SWITCH_ABANDON : Nat := 72
def HOLDOVER : Nat := 73
def HOLDOVER_OUT_OF_SPEC : Nat := 74
def FREE_RUN : Nat := 75
def OUTPUTS_MISALIGNED : Nat := 76
def LOCKED : Nat := 77
def MEDIA_PLL_UNLOCK : Nat := 78
def DCO_LIMIT : Nat := 79
def LINK_N0 : Nat := 80
def LINK_N1 : Nat := 81
def LINK_N2 : Nat := 82
def LINK_N3 : Nat := 83
def SPEED_STEP : Nat := 84
def STEP_TIMEOUT : Nat := 85
def MAC_UNDERRUN : Nat := 86
def PAUSE_RX : Nat := 87
def POLICER_DROP : Nat := 88
def OVERSIZE_DROP : Nat := 89
def POST_DROP : Nat := 90
def EGRESS_DROP : Nat := 91
def FCS_ERR : Nat := 92
def MDIO_TIMEOUT : Nat := 93
def LPI_CHANGE : Nat := 94
def SERDES_EYE : Nat := 95
def RX_LOSS : Nat := 96
def RX_RESUME : Nat := 97
def PATH_LOSS : Nat := 98
def PATH_RESTORE : Nat := 99
def BUF_UNDER : Nat := 100
def BUF_OVER : Nat := 101
def RX_LATE : Nat := 102
def RX_CONCEAL : Nat := 103
def FD_LOCK : Nat := 104
def FD_UNLOCK : Nat := 105
def FD_RANGE : Nat := 106
def RX_FORMAT : Nat := 107
def RX_BANK_SWAPPED : Nat := 108
def PEER_NEW : Nat := 109
def PEER_LOST : Nat := 110
def DIR_FULL : Nat := 111
def TX_LATE : Nat := 112
def TX_UNDERRUN : Nat := 113
def TX_BANK_SWAPPED : Nat := 114
def TX_START : Nat := 115
def TX_STOP : Nat := 116
def TX_PATH_DOWN : Nat := 117
def TX_SIZE : Nat := 118
def TX_SEQ_ADOPT : Nat := 119
def TIMED_LATE : Nat := 120
def TIMED_FULL : Nat := 121
def ANNOUNCE_CONFLICT : Nat := 122
def SDP_CHANGE : Nat := 123
def TX_QUEUE_HIGH : Nat := 124
def TX_ZERO : Nat := 125
def MCAST_DUP : Nat := 126
def TX_TS_MISS : Nat := 127
def DEADLINE_MISS : Nat := 128
def ADMIT_REFUSE : Nat := 129
def LIFT_STARVE : Nat := 130
def SELFTEST_FAIL : Nat := 131
def BURIN_OUT : Nat := 132
def DECKLE_CHANGE : Nat := 133
def GRAPH_SWAPPED : Nat := 134
def BACKING_STRETCH : Nat := 135
def LOAD_HIGH : Nat := 136
def SAT_CLIP : Nat := 137
def METER_THRESH : Nat := 138
def LIMIT_ACTIVE : Nat := 139
def CTRL_GRAPH_LATE : Nat := 140
def UCODE_ECC : Nat := 141
def SAMPLE_MEM_ECC : Nat := 142
def ASRC_RANGE : Nat := 143
def ECC_CORR : Nat := 144
def ECC_UNCORR : Nat := 145
def RETRAIN_DONE : Nat := 146
def RETRAIN_FAIL : Nat := 147
def BW_WARN : Nat := 148
def SCRUB_PASS : Nat := 149
def POST_ECC : Nat := 150
def REAM_FULL : Nat := 151
def DRAM_TEMP : Nat := 152
def REFRESH_RATE : Nat := 153
def TRAIN_MARGIN : Nat := 154
def SR_ENTER : Nat := 155
def SR_EXIT : Nat := 156
def DDR_PHY_UNLOCK : Nat := 157
def LOCAL_POST_DROP : Nat := 158
def BW_LIMIT : Nat := 159
def TDM_CLK_LOST : Nat := 160
def TDM_CLK_BACK : Nat := 161
def BANK_SWAPPED : Nat := 162
def ZC_TIMEOUT : Nat := 163
def TDM_FS_ERR : Nat := 164
def TDM_START : Nat := 165
def TDM_STOP : Nat := 166
def TDM_BUS_TAKE : Nat := 167
def TDM_SLIP : Nat := 168
def TDM_MUTE : Nat := 169
def TDM_BCLK_RANGE : Nat := 170
def TDM_CONTENTION : Nat := 171
def TDM_RX_OVF : Nat := 172
def TDM_TX_UNDER : Nat := 173
def TDM_LATE_SWAP : Nat := 174
def TDM_RESYNC : Nat := 175
def PDM_CLK_LOST : Nat := 176
def PDM_CLK_BACK : Nat := 177
def PDM_START : Nat := 178
def PDM_STOP : Nat := 179
def PDM_STUCK : Nat := 180
def PDM_OVERLOAD : Nat := 181
def PDM_DC : Nat := 182
def PDM_ZC_TIMEOUT : Nat := 183
def LANE_M0 : Nat := 184
def LANE_M1 : Nat := 185
def LANE_M2 : Nat := 186
def LANE_M3 : Nat := 187
def LANE_M4 : Nat := 188
def LANE_M5 : Nat := 189
def LANE_M6 : Nat := 190
def LANE_M7 : Nat := 191
def AMP_SHORT : Nat := 192
def AMP_OC : Nat := 193
def AMP_ILIMIT : Nat := 194
def AMP_DC : Nat := 195
def AMP_OTW : Nat := 196
def AMP_OTS : Nat := 197
def PVDD_UV : Nat := 198
def PVDD_OV : Nat := 199
def VGD_UV : Nat := 200
def AMP_CLKMUTE : Nat := 201
def AMP_RETRY : Nat := 202
def AMP_RECOVER : Nat := 203
def AMP_TSNS_OPEN : Nat := 204
def AMP_SAFE : Nat := 205
def AMP_LOOP : Nat := 206
def AMP_CLIP : Nat := 207
def DIAG_DONE : Nat := 208
def DIAG_OPEN : Nat := 209
def DIAG_SHORT : Nat := 210
def DIAG_TWEETER_MISSING : Nat := 211
def DIAG_WOOFER_ONLY : Nat := 212
def DIAG_CHANGED : Nat := 213
def DIAG_DEFERRED : Nat := 214
def DIAG_ABANDON : Nat := 215
def PLATE_STORED : Nat := 216
def PLATE_MISSING : Nat := 217
def CAL_DONE : Nat := 218
def CAL_LIMIT : Nat := 219
def DCR_TREND : Nat := 220
def RDSON_TREND : Nat := 221
def PILOT_START : Nat := 222
def DIAG_REFUSED : Nat := 223
def PAIR_LINK_UP : Nat := 224
def PAIR_LINK_DOWN : Nat := 225
def ROLE_CHANGE : Nat := 226
def TAKEOVER : Nat := 227
def HEARTBEAT_LOST : Nat := 228
def PARTNER_FAIL : Nat := 229
def DIGEST_MISMATCH : Nat := 230
def CLONE_START : Nat := 231
def CLONE_DONE : Nat := 232
def CLONE_FAIL : Nat := 233
def STANDBY_READY : Nat := 234
def REPAIR_RATE : Nat := 235
def PAIR_CLOCK_DIFF : Nat := 236
def PAIR_EYE : Nat := 237
def PAIR_TAKE_IN : Nat := 238
def RATIO_SHARE_MISS : Nat := 239
def AGEING_THRESH : Nat := 240
def CALENDER_REPLAN : Nat := 241
def CALENDER_APPROVAL : Nat := 242
def SUPPLY_WARN : Nat := 243
def SUPPLY_FAIL : Nat := 244
def TEMP_WARN : Nat := 245
def TEMP_CRIT : Nat := 246
def WAKE : Nat := 247
def PFW : Nat := 248
def PFW_END : Nat := 249
def STATE_CHANGE : Nat := 250
def XO32_FAIL : Nat := 251
def REFXO_FAIL : Nat := 252
def VCORE_ADJ : Nat := 253
def HOLDUP_LOW : Nat := 254
def PRESENT_CHG : Nat := 255

/-- The mnemonics of Table 4.1 by group, for the event lines of the UART (R90). -/
def names (g : Nat) : List String :=
  if g == 0 then ["CFG_PARITY", "BUS_ERR", "WR_IGNORED", "BAD_VALUE", "DENIED", "BUSY_REJECT", "XDOM_ABSENT", "NVM_FAIL", "NVM_WEAR", "LOG_WRAP", "LOG_PFW_DONE", "CFG_DEFAULT", "FW_PATCH_FAIL", "LONG_DONE", "AUTH_FAIL", "CARRIER_DISC"]
  else if g == 1 then ["A_STATE", "B_STATE", "A_GM_CHANGE", "B_GM_CHANGE", "A_RX_TIMEOUT", "B_RX_TIMEOUT", "A_SERVO", "B_SERVO", "TIME_STEP", "ASYM_STEP", "ASYM_LIMIT", "LEAP", "TSQ_OVF_N0", "TSQ_OVF_N1", "TSQ_OVF_N2", "TSQ_OVF_N3"]
  else if g == 2 then ["TRG0", "TRG1", "TRG2", "TRG3", "TRG4", "TRG5", "TRG6", "TRG7", "TRG8", "TRG9", "TRG10", "TRG11", "TRG12", "TRG13", "TRG14", "TRG15"]
  else if g == 3 then ["TRG16", "TRG17", "TRG18", "TRG19", "TRG20", "TRG21", "TRG22", "TRG23", "TRG24", "TRG25", "TRG26", "TRG27", "TRG28", "TRG29", "TRG30", "TRG31"]
  else if g == 4 then ["REF_QUALIFY", "REF_SUSPECT", "REF_DISQUALIFY", "REF_FAIL", "REF_GLITCH", "WCK_RATE", "SWITCH_START", "SWITCH_DONE", "SWITCH_ABANDON", "HOLDOVER", "HOLDOVER_OUT_OF_SPEC", "FREE_RUN", "OUTPUTS_MISALIGNED", "LOCKED", "MEDIA_PLL_UNLOCK", "DCO_LIMIT"]
  else if g == 5 then ["LINK_N0", "LINK_N1", "LINK_N2", "LINK_N3", "SPEED_STEP", "STEP_TIMEOUT", "MAC_UNDERRUN", "PAUSE_RX", "POLICER_DROP", "OVERSIZE_DROP", "POST_DROP", "EGRESS_DROP", "FCS_ERR", "MDIO_TIMEOUT", "LPI_CHANGE", "SERDES_EYE"]
  else if g == 6 then ["RX_LOSS", "RX_RESUME", "PATH_LOSS", "PATH_RESTORE", "BUF_UNDER", "BUF_OVER", "RX_LATE", "RX_CONCEAL", "FD_LOCK", "FD_UNLOCK", "FD_RANGE", "RX_FORMAT", "RX_BANK_SWAPPED", "PEER_NEW", "PEER_LOST", "DIR_FULL"]
  else if g == 7 then ["TX_LATE", "TX_UNDERRUN", "TX_BANK_SWAPPED", "TX_START", "TX_STOP", "TX_PATH_DOWN", "TX_SIZE", "TX_SEQ_ADOPT", "TIMED_LATE", "TIMED_FULL", "ANNOUNCE_CONFLICT", "SDP_CHANGE", "TX_QUEUE_HIGH", "TX_ZERO", "MCAST_DUP", "TX_TS_MISS"]
  else if g == 8 then ["DEADLINE_MISS", "ADMIT_REFUSE", "LIFT_STARVE", "SELFTEST_FAIL", "BURIN_OUT", "DECKLE_CHANGE", "GRAPH_SWAPPED", "BACKING_STRETCH", "LOAD_HIGH", "SAT_CLIP", "METER_THRESH", "LIMIT_ACTIVE", "CTRL_GRAPH_LATE", "UCODE_ECC", "SAMPLE_MEM_ECC", "ASRC_RANGE"]
  else if g == 9 then ["ECC_CORR", "ECC_UNCORR", "RETRAIN_DONE", "RETRAIN_FAIL", "BW_WARN", "SCRUB_PASS", "POST_ECC", "REAM_FULL", "DRAM_TEMP", "REFRESH_RATE", "TRAIN_MARGIN", "SR_ENTER", "SR_EXIT", "DDR_PHY_UNLOCK", "LOCAL_POST_DROP", "BW_LIMIT"]
  else if g == 10 then ["TDM_CLK_LOST", "TDM_CLK_BACK", "BANK_SWAPPED", "ZC_TIMEOUT", "TDM_FS_ERR", "TDM_START", "TDM_STOP", "TDM_BUS_TAKE", "TDM_SLIP", "TDM_MUTE", "TDM_BCLK_RANGE", "TDM_CONTENTION", "TDM_RX_OVF", "TDM_TX_UNDER", "TDM_LATE_SWAP", "TDM_RESYNC"]
  else if g == 11 then ["PDM_CLK_LOST", "PDM_CLK_BACK", "PDM_START", "PDM_STOP", "PDM_STUCK", "PDM_OVERLOAD", "PDM_DC", "PDM_ZC_TIMEOUT", "LANE_M0", "LANE_M1", "LANE_M2", "LANE_M3", "LANE_M4", "LANE_M5", "LANE_M6", "LANE_M7"]
  else if g == 12 then ["AMP_SHORT", "AMP_OC", "AMP_ILIMIT", "AMP_DC", "AMP_OTW", "AMP_OTS", "PVDD_UV", "PVDD_OV", "VGD_UV", "AMP_CLKMUTE", "AMP_RETRY", "AMP_RECOVER", "AMP_TSNS_OPEN", "AMP_SAFE", "AMP_LOOP", "AMP_CLIP"]
  else if g == 13 then ["DIAG_DONE", "DIAG_OPEN", "DIAG_SHORT", "DIAG_TWEETER_MISSING", "DIAG_WOOFER_ONLY", "DIAG_CHANGED", "DIAG_DEFERRED", "DIAG_ABANDON", "PLATE_STORED", "PLATE_MISSING", "CAL_DONE", "CAL_LIMIT", "DCR_TREND", "RDSON_TREND", "PILOT_START", "DIAG_REFUSED"]
  else if g == 14 then ["PAIR_LINK_UP", "PAIR_LINK_DOWN", "ROLE_CHANGE", "TAKEOVER", "HEARTBEAT_LOST", "PARTNER_FAIL", "DIGEST_MISMATCH", "CLONE_START", "CLONE_DONE", "CLONE_FAIL", "STANDBY_READY", "REPAIR_RATE", "PAIR_CLOCK_DIFF", "PAIR_EYE", "PAIR_TAKE_IN", "RATIO_SHARE_MISS"]
  else if g == 15 then ["AGEING_THRESH", "CALENDER_REPLAN", "CALENDER_APPROVAL", "SUPPLY_WARN", "SUPPLY_FAIL", "TEMP_WARN", "TEMP_CRIT", "WAKE", "PFW", "PFW_END", "STATE_CHANGE", "XO32_FAIL", "REFXO_FAIL", "VCORE_ADJ", "HOLDUP_LOW", "PRESENT_CHG"]
  else []

/-- The mnemonic of source 16 g + b. -/
def name (src : Nat) : String := (names (src / 16)).getD (src % 16) ""

end Sys2Proof.Machine.Ev
end

