-- ==== Sys2Proof/Machine/KV.lean ====
section
/-!
DEFINITION. Machine/KV.lean: sparse storage. A list of (key, value) pairs with strictly rising keys that
lists no entry equal to what an unlisted key reads as, so that equal contents are equal lists. Registers,
stream entries, graphs, sample buffers and every other keyed store of the state use it.
-/

namespace Sys2Proof.Machine

/-- A sparse store: pairs of a natural key and a value, keys rising. -/
abbrev KV (α : Type) := List (Nat × α)

/-- The value at key `k`, or `d` where the key is not listed. -/
def KV.get {α : Type} (d : α) : KV α → Nat → α
  | [], _ => d
  | (k', v) :: l, k => if k = k' then v else KV.get d l k

/-- The value at key `k` if the key is listed. -/
def KV.find {α : Type} : KV α → Nat → Option α
  | [], _ => none
  | (k', v) :: l, k => if k = k' then some v else KV.find l k

/-- The store without key `k`. -/
def KV.erase {α : Type} : KV α → Nat → KV α
  | [], _ => []
  | (k', v) :: l, k => if k = k' then KV.erase l k else (k', v) :: KV.erase l k

/-- The store with `k` listed at its place, where it was not listed before. -/
def KV.insert {α : Type} : KV α → Nat → α → KV α
  | [], k, v => [(k, v)]
  | (k', v') :: l, k, v => if k < k' then (k, v) :: (k', v') :: l else (k', v') :: KV.insert l k v

/-- The store in which key `k` reads as `v`, `d` being what an unlisted key reads as. -/
def KV.put {α : Type} [DecidableEq α] (d : α) (l : KV α) (k : Nat) (v : α) : KV α :=
  if v = d then KV.erase l k else KV.insert (KV.erase l k) k v

/-- The store in which key `k` is listed with `v`. -/
def KV.set {α : Type} (l : KV α) (k : Nat) (v : α) : KV α :=
  KV.insert (KV.erase l k) k v

/-- Every value of a store changed in its place. -/
def KV.mapV {α β : Type} (f : Nat → α → β) : KV α → KV β
  | [] => []
  | (k, v) :: l => (k, f k v) :: KV.mapV f l

/-- The keys stand in strictly rising order. -/
def KV.rising {α : Type} : KV α → Bool
  | [] => true
  | (k, _) :: l =>
    (match l with
      | [] => true
      | (k', _) :: _ => decide (k < k')) && KV.rising l

/-- The canonical form: rising keys and no entry equal to the default `d` gives its key. -/
def KV.wf {α : Type} [DecidableEq α] (d : Nat → α) (l : KV α) : Bool :=
  KV.rising l && l.all (fun p => decide (p.2 ≠ d p.1))

end Sys2Proof.Machine
end

