-- ==== Sys2Proof/Machine/RegMap.lean ====
section
/-!
DEFINITION. Machine/RegMap.lean: the register map of the block, as the spec's own register tables lay it
out: one row per register with its fields, their access codes (Table 0.4) and their reset values, and one
name per field. A value the tables give as coming from the factory, a bank, the ring or a check stands here
as 0 (log entry 2): the cold start loads it.
-/

namespace Sys2Proof.Machine

/-- Access code of a field (R6, Table 0.4); the privileged codes P, RWP and LP stand as their plain code and
the register's own privileged mark (R69). -/
inductive Acc where
  | rw | l | ro | w1c | wo | sc
  deriving DecidableEq, Repr

/-- One field of a register: lowest bit, width, access code, reset value. -/
structure FieldDesc where
  lo : Nat
  width : Nat
  acc : Acc
  reset : Nat
  deriving DecidableEq, Repr

/-- One register, or `count` registers of one layout `stride` bytes apart: byte offset in the unit block,
place in its multi-word value (`mwIdx` of `mwLen`, R62), whether it is privileged (R69), its fields. Bits that
no field covers are reserved. -/
structure RegDesc where
  off : Nat
  stride : Nat
  count : Nat
  mwIdx : Nat
  mwLen : Nat
  priv : Bool
  fields : List FieldDesc
  deriving DecidableEq, Repr

/-- A named field of one register: the register's address, the field's lowest bit and its width. -/
structure Fld where
  addr : Nat
  lo : Nat
  width : Nat
  deriving DecidableEq, Repr

/-- The key under which the state stores the field. -/
def fieldKey (addr lo : Nat) : Nat := addr * 8 + lo

/-- Registers of the unit class MGT (R2, R72, R77). -/
def rowsMgt0 (_n : Nat) : List RegDesc :=
  [⟨0x0000, 4, 1, 0, 1, false, [⟨0, 32, .ro, 0x409600B1⟩]⟩,
   ⟨0x0020, 4, 1, 0, 1, false, [⟨0, 26, .ro, 0⟩, ⟨31, 1, .ro, 0⟩]⟩,
   ⟨0x0024, 4, 1, 0, 1, false, [⟨0, 32, .ro, 0⟩]⟩,
   ⟨0x0028, 4, 1, 0, 1, false, [⟨0, 8, .ro, 0⟩, ⟨8, 3, .ro, 0⟩, ⟨16, 15, .ro, 0⟩, ⟨31, 1, .ro, 0⟩]⟩,
   ⟨0x002C, 4, 1, 0, 1, false, [⟨0, 1, .wo, 0⟩, ⟨1, 1, .wo, 0⟩]⟩]

/-- Registers of the unit class CAR (R49, R55). -/
def rowsCar (_n : Nat) : List RegDesc :=
  [⟨0x0000, 4, 1, 0, 1, false, [⟨0, 1, .rw, 1⟩, ⟨1, 4, .rw, 12⟩, ⟨5, 1, .rw, 0⟩]⟩,
   ⟨0x0004, 4, 1, 0, 1, false, [⟨0, 16, .rw, 52130⟩]⟩,
   ⟨0x0008, 4, 1, 0, 1, false, [⟨0, 8, .ro, 0⟩, ⟨8, 8, .ro, 0⟩, ⟨16, 16, .ro, 0⟩]⟩,
   ⟨0x0040, 16, 4, 0, 1, false, [⟨0, 32, .ro, 0⟩]⟩,
   ⟨0x0044, 16, 4, 0, 1, false, [⟨0, 32, .ro, 0⟩]⟩,
   ⟨0x0048, 16, 4, 0, 1, false, [⟨0, 32, .ro, 0⟩]⟩,
   ⟨0x004C, 16, 4, 0, 1, false, [⟨0, 32, .ro, 0⟩]⟩]

/-- Registers of the unit class MBX (R44). -/
def rowsMbx (_n : Nat) : List RegDesc :=
  [⟨0x2000, 4, 1, 0, 1, false, [⟨0, 1, .rw, 1⟩, ⟨1, 5, .rw, 0⟩, ⟨6, 1, .l, 0⟩]⟩,
   ⟨0x2004, 4, 1, 0, 1, false, [⟨0, 13, .l, 0⟩]⟩,
   ⟨0x2008, 4, 1, 0, 1, false, [⟨0, 1, .ro, 0⟩, ⟨1, 1, .ro, 0⟩, ⟨2, 1, .w1c, 0⟩, ⟨3, 1, .w1c, 0⟩, ⟨4, 1, .ro, 0⟩]⟩,
   ⟨0x200C, 4, 1, 0, 1, false, [⟨0, 13, .ro, 0⟩]⟩]

/-- Registers of the unit class NVS (R107). -/
def rowsNvs (_n : Nat) : List RegDesc :=
  [⟨0x0000, 4, 1, 0, 1, true, [⟨0, 1, .ro, 1⟩, ⟨1, 1, .l, 0⟩]⟩,
   ⟨0x0004, 4, 1, 0, 1, false, [⟨0, 32, .ro, 0⟩]⟩,
   ⟨0x0008, 4, 1, 0, 1, false, [⟨0, 32, .ro, 0⟩]⟩,
   ⟨0x000C, 4, 1, 0, 1, false, [⟨0, 32, .ro, 0⟩]⟩,
   ⟨0x0010, 4, 1, 0, 1, false, [⟨0, 1, .ro, 0⟩, ⟨1, 1, .ro, 0⟩, ⟨2, 1, .ro, 0⟩, ⟨3, 2, .ro, 0⟩, ⟨5, 1, .ro, 0⟩]⟩,
   ⟨0x0014, 4, 1, 0, 1, false, [⟨0, 32, .ro, 0⟩]⟩,
   ⟨0x0018, 4, 1, 0, 1, false, [⟨0, 32, .ro, 0⟩]⟩]

/-- Registers of the unit class LOG (R99). -/
def rowsLog (_n : Nat) : List RegDesc :=
  [⟨0x0000, 4, 1, 0, 1, false, [⟨0, 1, .ro, 1⟩]⟩,
   ⟨0x0004, 4, 1, 0, 1, false, [⟨0, 32, .ro, 0⟩]⟩,
   ⟨0x0008, 4, 1, 0, 1, false, [⟨0, 32, .ro, 0⟩]⟩,
   ⟨0x000C, 4, 1, 0, 1, false, [⟨0, 32, .ro, 0⟩]⟩,
   ⟨0x0010, 4, 1, 0, 1, false, [⟨0, 13, .ro, 0⟩, ⟨13, 1, .ro, 0⟩, ⟨14, 1, .ro, 0⟩, ⟨16, 16, .ro, 0⟩]⟩,
   ⟨0x0014, 4, 1, 0, 1, false, [⟨0, 16, .ro, 0⟩]⟩]

/-- Registers of the unit class TB (R132). -/
def rowsTb (_n : Nat) : List RegDesc :=
  [⟨0x0000, 4, 1, 0, 1, false, [⟨0, 1, .ro, 1⟩, ⟨1, 2, .l, 0⟩, ⟨3, 1, .l, 0⟩, ⟨4, 2, .l, 2⟩, ⟨6, 3, .l, 3⟩, ⟨9, 2, .l, 1⟩, ⟨11, 1, .sc, 0⟩]⟩,
   ⟨0x0004, 4, 1, 0, 1, false, [⟨0, 1, .ro, 0⟩, ⟨1, 2, .ro, 1⟩, ⟨3, 1, .ro, 0⟩, ⟨4, 1, .ro, 0⟩, ⟨5, 1, .ro, 0⟩, ⟨6, 1, .ro, 0⟩, ⟨7, 1, .ro, 0⟩, ⟨8, 1, .ro, 0⟩, ⟨16, 16, .ro, 0⟩]⟩,
   ⟨0x0010, 4, 1, 0, 7, true, [⟨0, 16, .l, 0⟩]⟩,
   ⟨0x0014, 4, 1, 1, 7, true, [⟨0, 16, .l, 0⟩]⟩,
   ⟨0x0018, 4, 1, 2, 7, true, [⟨0, 16, .l, 0⟩]⟩,
   ⟨0x001C, 4, 1, 3, 7, true, [⟨0, 16, .l, 0⟩]⟩,
   ⟨0x0020, 4, 1, 4, 7, true, [⟨0, 16, .l, 0⟩]⟩,
   ⟨0x0024, 4, 1, 5, 7, true, [⟨0, 16, .l, 0⟩]⟩,
   ⟨0x0028, 4, 1, 6, 7, true, [⟨0, 16, .l, 0⟩]⟩,
   ⟨0x0030, 4, 1, 0, 2, false, [⟨0, 32, .ro, 0⟩]⟩,
   ⟨0x0034, 4, 1, 1, 2, false, [⟨0, 32, .ro, 0⟩]⟩,
   ⟨0x0038, 4, 1, 0, 1, false, [⟨0, 16, .ro, 0⟩]⟩,
   ⟨0x003C, 4, 1, 0, 1, false, [⟨0, 32, .ro, 0⟩]⟩,
   ⟨0x0040, 4, 1, 0, 1, false, [⟨0, 1, .ro, 0⟩, ⟨1, 1, .ro, 0⟩, ⟨2, 1, .ro, 0⟩, ⟨16, 16, .ro, 0⟩]⟩] ++
  [⟨0x0044, 4, 1, 0, 7, false, [⟨0, 16, .ro, 0⟩]⟩,
   ⟨0x0048, 4, 1, 1, 7, false, [⟨0, 16, .ro, 0⟩]⟩,
   ⟨0x004C, 4, 1, 2, 7, false, [⟨0, 16, .ro, 0⟩]⟩,
   ⟨0x0050, 4, 1, 3, 7, false, [⟨0, 16, .ro, 0⟩]⟩,
   ⟨0x0054, 4, 1, 4, 7, false, [⟨0, 16, .ro, 0⟩]⟩,
   ⟨0x0058, 4, 1, 5, 7, false, [⟨0, 16, .ro, 0⟩]⟩,
   ⟨0x005C, 4, 1, 6, 7, false, [⟨0, 16, .ro, 0⟩]⟩,
   ⟨0x0060, 4, 1, 0, 7, false, [⟨0, 16, .ro, 0⟩]⟩,
   ⟨0x0064, 4, 1, 1, 7, false, [⟨0, 16, .ro, 0⟩]⟩,
   ⟨0x0068, 4, 1, 2, 7, false, [⟨0, 16, .ro, 0⟩]⟩,
   ⟨0x006C, 4, 1, 3, 7, false, [⟨0, 16, .ro, 0⟩]⟩,
   ⟨0x0070, 4, 1, 4, 7, false, [⟨0, 16, .ro, 0⟩]⟩,
   ⟨0x0074, 4, 1, 5, 7, false, [⟨0, 16, .ro, 0⟩]⟩,
   ⟨0x0078, 4, 1, 6, 7, false, [⟨0, 16, .ro, 0⟩]⟩] ++
  [⟨0x007C, 4, 1, 0, 7, false, [⟨0, 16, .ro, 0⟩]⟩,
   ⟨0x0080, 4, 1, 1, 7, false, [⟨0, 16, .ro, 0⟩]⟩,
   ⟨0x0084, 4, 1, 2, 7, false, [⟨0, 16, .ro, 0⟩]⟩,
   ⟨0x0088, 4, 1, 3, 7, false, [⟨0, 16, .ro, 0⟩]⟩,
   ⟨0x008C, 4, 1, 4, 7, false, [⟨0, 16, .ro, 0⟩]⟩,
   ⟨0x0090, 4, 1, 5, 7, false, [⟨0, 16, .ro, 0⟩]⟩,
   ⟨0x0094, 4, 1, 6, 7, false, [⟨0, 16, .ro, 0⟩]⟩,
   ⟨0x0098, 4, 4, 0, 1, false, [⟨0, 16, .ro, 0⟩]⟩]

/-- Registers of the unit class D (R133). -/
def rowsDom (n : Nat) : List RegDesc :=
  [⟨0x0000, 4, 1, 0, 1, false, [⟨0, 1, .rw, 0⟩, ⟨1, 2, .rw, n⟩, ⟨3, 3, .rw, 1⟩, ⟨6, 1, .rw, 0⟩, ⟨7, 2, .rw, 0⟩, ⟨9, 1, .rw, 0⟩, ⟨10, 2, .rw, 0⟩]⟩,
   ⟨0x0004, 4, 1, 0, 1, false, [⟨0, 8, .rw, 0⟩, ⟨8, 6, .rw, 46⟩]⟩,
   ⟨0x0008, 4, 1, 0, 1, false, [⟨0, 8, .rw, 128⟩, ⟨8, 8, .rw, 128⟩]⟩,
   ⟨0x000C, 4, 1, 0, 1, false, [⟨0, 8, .rw, 248⟩, ⟨8, 8, .rw, 254⟩]⟩,
   ⟨0x0010, 4, 1, 0, 1, false, [⟨0, 4, .rw, 13⟩, ⟨4, 4, .rw, 1⟩, ⟨8, 4, .rw, 13⟩, ⟨12, 4, .rw, 3⟩]⟩,
   ⟨0x0014, 4, 1, 0, 1, false, [⟨0, 3, .rw, 2⟩, ⟨3, 3, .rw, 4⟩, ⟨6, 4, .rw, 2⟩, ⟨10, 2, .rw, 2⟩]⟩,
   ⟨0x0020, 4, 1, 0, 1, false, [⟨0, 4, .ro, 3⟩, ⟨4, 3, .ro, 0⟩, ⟨7, 1, .ro, (if n == 0 then 1 else 0)⟩, ⟨8, 1, .ro, 0⟩, ⟨16, 16, .ro, 0⟩]⟩,
   ⟨0x0024, 4, 1, 0, 2, false, [⟨0, 32, .ro, 0⟩]⟩,
   ⟨0x0028, 4, 1, 1, 2, false, [⟨0, 32, .ro, 0⟩]⟩,
   ⟨0x002C, 4, 1, 0, 1, false, [⟨0, 8, .ro, 0⟩, ⟨8, 8, .ro, 0⟩, ⟨16, 8, .ro, 0⟩, ⟨24, 8, .ro, 0⟩]⟩,
   ⟨0x0030, 4, 1, 0, 2, false, [⟨0, 32, .ro, 0⟩]⟩,
   ⟨0x0034, 4, 1, 1, 2, false, [⟨0, 32, .ro, 0⟩]⟩,
   ⟨0x0038, 4, 1, 0, 1, false, [⟨0, 32, .ro, 0⟩]⟩,
   ⟨0x003C, 4, 1, 0, 1, false, [⟨0, 16, .ro, 0⟩]⟩] ++
  [⟨0x0050, 4, 1, 0, 1, false, [⟨0, 32, .ro, 0⟩]⟩,
   ⟨0x0054, 4, 1, 0, 1, false, [⟨0, 32, .ro, 0⟩]⟩,
   ⟨0x0058, 4, 1, 0, 1, false, [⟨0, 16, .ro, 0⟩, ⟨16, 16, .ro, 0⟩]⟩,
   ⟨0x005C, 4, 1, 0, 1, false, [⟨0, 16, .ro, 0⟩, ⟨16, 16, .ro, 0⟩]⟩]

/-- Registers of the unit class TSU (R143). -/
def rowsTsu (_n : Nat) : List RegDesc :=
  [⟨0x0000, 4, 1, 0, 1, false, [⟨0, 1, .ro, 1⟩, ⟨1, 1, .l, 0⟩, ⟨2, 1, .l, 0⟩]⟩,
   ⟨0x0004, 4, 1, 0, 1, false, [⟨0, 32, .ro, 0⟩]⟩,
   ⟨0x0008, 4, 1, 0, 1, false, [⟨0, 32, .ro, 0⟩]⟩,
   ⟨0x0010, 16, 4, 0, 2, false, [⟨0, 16, .l, 0⟩]⟩,
   ⟨0x0014, 16, 4, 1, 2, false, [⟨0, 16, .l, 0⟩]⟩,
   ⟨0x0018, 16, 4, 0, 2, false, [⟨0, 16, .l, 0⟩]⟩,
   ⟨0x001C, 16, 4, 1, 2, false, [⟨0, 16, .l, 0⟩]⟩,
   ⟨0x0050, 4, 1, 0, 2, false, [⟨0, 16, .l, 0⟩]⟩,
   ⟨0x0054, 4, 1, 1, 2, false, [⟨0, 16, .l, 0⟩]⟩,
   ⟨0x0058, 4, 1, 0, 1, false, [⟨0, 32, .ro, 0⟩]⟩,
   ⟨0x005C, 4, 1, 0, 1, false, [⟨0, 32, .ro, 0⟩]⟩,
   ⟨0x0060, 4, 1, 0, 1, false, [⟨0, 5, .ro, 0⟩, ⟨16, 16, .ro, 0⟩]⟩,
   ⟨0x0064, 4, 1, 0, 1, false, [⟨0, 7, .ro, 0⟩, ⟨16, 16, .ro, 0⟩]⟩,
   ⟨0x0070, 4, 1, 0, 5, false, [⟨0, 16, .ro, 0⟩, ⟨16, 4, .ro, 0⟩, ⟨20, 1, .ro, 0⟩, ⟨21, 1, .ro, 0⟩, ⟨22, 1, .ro, 0⟩, ⟨23, 1, .ro, 0⟩]⟩] ++
  [⟨0x0074, 4, 1, 1, 5, false, [⟨0, 16, .ro, 0⟩, ⟨16, 16, .ro, 0⟩]⟩,
   ⟨0x0078, 4, 1, 2, 5, false, [⟨0, 32, .ro, 0⟩]⟩,
   ⟨0x007C, 4, 1, 3, 5, false, [⟨0, 32, .ro, 0⟩]⟩,
   ⟨0x0080, 4, 1, 4, 5, false, [⟨0, 32, .ro, 0⟩]⟩]

/-- Registers of the unit class CC (R154). -/
def rowsCc (_n : Nat) : List RegDesc :=
  [⟨0x0000, 4, 1, 0, 1, false, [⟨0, 1, .rw, 0⟩, ⟨1, 5, .rw, 0⟩, ⟨6, 1, .rw, 0⟩, ⟨7, 6, .rw, 0⟩]⟩,
   ⟨0x0004, 4, 1, 0, 2, false, [⟨0, 16, .rw, 38528⟩]⟩,
   ⟨0x0008, 4, 1, 1, 2, false, [⟨0, 16, .rw, 152⟩]⟩,
   ⟨0x000C, 4, 1, 0, 2, false, [⟨0, 16, .rw, 0⟩]⟩,
   ⟨0x0010, 4, 1, 1, 2, false, [⟨0, 16, .rw, 0⟩]⟩,
   ⟨0x0014, 4, 1, 0, 1, false, [⟨0, 16, .rw, 10⟩]⟩,
   ⟨0x0018, 4, 1, 0, 1, false, [⟨0, 1, .ro, 0⟩, ⟨1, 1, .ro, 0⟩]⟩,
   ⟨0x001C, 4, 1, 0, 1, false, [⟨0, 32, .ro, 0⟩]⟩]

/-- Registers of the unit class TRG (R152). -/
def rowsTrg (_n : Nat) : List RegDesc :=
  [⟨0x0000, 4, 1, 0, 1, false, [⟨0, 1, .rw, 1⟩, ⟨1, 2, .l, 0⟩]⟩,
   ⟨0x0004, 4, 1, 0, 2, false, [⟨0, 16, .l, 65535⟩]⟩,
   ⟨0x0008, 4, 1, 1, 2, false, [⟨0, 16, .l, 65535⟩]⟩,
   ⟨0x000C, 4, 1, 0, 1, false, [⟨0, 16, .l, 0⟩]⟩,
   ⟨0x0010, 4, 1, 0, 7, false, [⟨0, 16, .l, 0⟩]⟩,
   ⟨0x0014, 4, 1, 1, 7, false, [⟨0, 16, .l, 0⟩]⟩,
   ⟨0x0018, 4, 1, 2, 7, false, [⟨0, 16, .l, 0⟩]⟩,
   ⟨0x001C, 4, 1, 3, 7, false, [⟨0, 16, .l, 0⟩]⟩,
   ⟨0x0020, 4, 1, 4, 7, false, [⟨0, 16, .l, 0⟩]⟩,
   ⟨0x0024, 4, 1, 5, 7, false, [⟨0, 16, .l, 0⟩]⟩,
   ⟨0x0028, 4, 1, 6, 7, false, [⟨0, 16, .l, 0⟩]⟩,
   ⟨0x002C, 4, 1, 0, 1, false, [⟨0, 1, .sc, 0⟩, ⟨1, 1, .sc, 0⟩]⟩,
   ⟨0x0030, 4, 1, 0, 1, false, [⟨0, 2, .ro, 0⟩, ⟨2, 1, .ro, 0⟩, ⟨3, 1, .ro, 0⟩, ⟨4, 4, .ro, 0⟩]⟩,
   ⟨0x0040, 4, 1, 0, 7, false, [⟨0, 16, .ro, 0⟩]⟩] ++
  [⟨0x0044, 4, 1, 1, 7, false, [⟨0, 16, .ro, 0⟩]⟩,
   ⟨0x0048, 4, 1, 2, 7, false, [⟨0, 16, .ro, 0⟩]⟩,
   ⟨0x004C, 4, 1, 3, 7, false, [⟨0, 16, .ro, 0⟩]⟩,
   ⟨0x0050, 4, 1, 4, 7, false, [⟨0, 16, .ro, 0⟩]⟩,
   ⟨0x0054, 4, 1, 5, 7, false, [⟨0, 16, .ro, 0⟩]⟩,
   ⟨0x0058, 4, 1, 6, 7, false, [⟨0, 16, .ro, 0⟩]⟩,
   ⟨0x005C, 4, 1, 0, 1, false, [⟨0, 16, .ro, 0⟩, ⟨16, 16, .ro, 0⟩]⟩]

/-- Registers of the unit class REF (R182). -/
def rowsRef (n : Nat) : List RegDesc :=
  [⟨0x0000, 4, 1, 0, 1, false, [⟨0, 1, .rw, 0⟩, ⟨1, 4, .l, (n + 1)⟩, ⟨5, 4, .l, 0⟩, ⟨9, 3, .rw, (if n == 4 || n == 5 then 1 else 3)⟩, ⟨12, 1, .rw, (if n == 2 || n == 3 then 1 else 0)⟩]⟩,
   ⟨0x0004, 4, 1, 0, 1, false, [⟨0, 2, .rw, 2⟩, ⟨2, 2, .rw, 2⟩, ⟨4, 2, .rw, 1⟩, ⟨6, 2, .rw, 1⟩, ⟨8, 2, .rw, 1⟩]⟩,
   ⟨0x0010, 4, 1, 0, 1, false, [⟨0, 3, .ro, 0⟩, ⟨3, 4, .ro, 0⟩, ⟨7, 1, .ro, 0⟩, ⟨8, 3, .ro, 0⟩, ⟨16, 16, .ro, 0⟩]⟩,
   ⟨0x0014, 4, 1, 0, 1, false, [⟨0, 32, .ro, 0⟩]⟩,
   ⟨0x0018, 4, 1, 0, 1, false, [⟨0, 32, .ro, 0⟩]⟩,
   ⟨0x001C, 4, 1, 0, 1, false, [⟨0, 32, .ro, 0⟩]⟩,
   ⟨0x0020, 4, 1, 0, 1, false, [⟨0, 32, .ro, 0⟩]⟩,
   ⟨0x0024, 4, 1, 0, 1, false, [⟨0, 32, .ro, 0⟩]⟩,
   ⟨0x0028, 4, 1, 0, 1, false, [⟨0, 1, .w1c, 0⟩, ⟨1, 1, .w1c, 0⟩, ⟨2, 1, .w1c, 0⟩, ⟨3, 1, .w1c, 0⟩, ⟨4, 1, .w1c, 0⟩, ⟨5, 1, .w1c, 0⟩, ⟨6, 1, .w1c, 0⟩, ⟨7, 1, .w1c, 0⟩]⟩,
   ⟨0x002C, 4, 1, 0, 1, false, [⟨0, 16, .ro, 0⟩, ⟨16, 16, .ro, 0⟩]⟩,
   ⟨0x0030, 4, 1, 0, 1, false, [⟨0, 32, .ro, 0⟩]⟩] ++
  (if n == 4 then [⟨0x0008, 4, 1, 0, 1, false, [⟨0, 3, .rw, 0⟩, ⟨3, 1, .rw, 0⟩]⟩] else [])

/-- Registers of the unit class SEL (R183). -/
def rowsSel (_n : Nat) : List RegDesc :=
  [⟨0x0000, 4, 1, 0, 1, false, [⟨0, 1, .rw, 1⟩, ⟨1, 2, .l, 0⟩, ⟨3, 1, .l, 1⟩, ⟨4, 3, .l, 0⟩, ⟨7, 2, .l, 1⟩, ⟨9, 2, .l, 1⟩]⟩,
   ⟨0x0004, 4, 1, 0, 1, false, [⟨0, 3, .ro, 7⟩, ⟨3, 3, .ro, 7⟩, ⟨6, 3, .ro, 0⟩, ⟨9, 2, .ro, 1⟩, ⟨16, 16, .ro, 0⟩]⟩,
   ⟨0x0008, 4, 1, 0, 1, false, [⟨0, 32, .ro, 0⟩]⟩,
   ⟨0x000C, 4, 1, 0, 1, false, [⟨0, 32, .ro, 0⟩]⟩,
   ⟨0x0010, 4, 1, 0, 1, false, [⟨0, 16, .ro, 0⟩, ⟨16, 16, .ro, 0⟩]⟩,
   ⟨0x0014, 4, 1, 0, 1, false, [⟨0, 32, .ro, 0⟩]⟩,
   ⟨0x0018, 4, 1, 0, 1, false, [⟨0, 4, .ro, 0⟩, ⟨8, 7, .ro, 0⟩]⟩]

/-- Registers of the unit class LOOP (R195, R202). -/
def rowsLoop (_n : Nat) : List RegDesc :=
  [⟨0x0000, 4, 1, 0, 1, false, [⟨0, 1, .ro, 1⟩, ⟨1, 4, .l, 6⟩, ⟨5, 4, .l, 8⟩, ⟨9, 4, .l, 8⟩]⟩,
   ⟨0x0004, 4, 1, 0, 1, false, [⟨0, 4, .l, 2⟩, ⟨4, 4, .l, 6⟩]⟩,
   ⟨0x0008, 4, 1, 0, 1, true, [⟨0, 1, .l, 0⟩]⟩,
   ⟨0x000C, 4, 1, 0, 1, true, [⟨0, 1, .l, 0⟩, ⟨1, 1, .ro, 0⟩, ⟨2, 1, .ro, 0⟩]⟩,
   ⟨0x0010, 4, 1, 0, 1, false, [⟨0, 3, .ro, 0⟩, ⟨3, 1, .ro, 0⟩, ⟨4, 1, .ro, 0⟩, ⟨5, 3, .ro, 7⟩, ⟨8, 4, .ro, 0⟩]⟩,
   ⟨0x0014, 4, 1, 0, 1, false, [⟨0, 32, .ro, 0⟩]⟩,
   ⟨0x0018, 4, 1, 0, 1, false, [⟨0, 32, .ro, 0⟩]⟩,
   ⟨0x001C, 4, 1, 0, 1, false, [⟨0, 32, .ro, 0⟩]⟩,
   ⟨0x0020, 4, 1, 0, 1, false, [⟨0, 16, .ro, 0⟩, ⟨16, 16, .ro, 0⟩]⟩,
   ⟨0x0040, 4, 1, 0, 2, true, [⟨0, 16, .l, 0⟩]⟩,
   ⟨0x0044, 4, 1, 1, 2, true, [⟨0, 16, .l, 0⟩]⟩]

/-- Registers of the unit class HOLD (R203). -/
def rowsHold (_n : Nat) : List RegDesc :=
  [⟨0x0000, 4, 1, 0, 1, false, [⟨0, 1, .ro, 1⟩, ⟨1, 2, .l, 0⟩, ⟨3, 3, .l, 2⟩, ⟨6, 3, .l, 3⟩]⟩,
   ⟨0x0004, 4, 1, 0, 1, true, [⟨0, 16, .l, 0⟩]⟩,
   ⟨0x0008, 4, 1, 0, 1, true, [⟨0, 16, .l, 0⟩]⟩,
   ⟨0x000C, 4, 1, 0, 1, true, [⟨0, 1, .l, 0⟩, ⟨1, 1, .l, 0⟩]⟩,
   ⟨0x0020, 4, 1, 0, 1, false, [⟨0, 1, .ro, 0⟩, ⟨1, 1, .ro, 0⟩, ⟨2, 1, .ro, 0⟩, ⟨16, 16, .ro, 0⟩]⟩,
   ⟨0x0024, 4, 1, 0, 1, false, [⟨0, 32, .ro, 0⟩]⟩,
   ⟨0x0028, 4, 1, 0, 1, false, [⟨0, 32, .ro, 0⟩]⟩,
   ⟨0x002C, 4, 1, 0, 1, false, [⟨0, 16, .ro, 0⟩, ⟨16, 16, .ro, 0⟩]⟩,
   ⟨0x0030, 4, 1, 0, 1, false, [⟨0, 32, .ro, 0⟩]⟩,
   ⟨0x0034, 4, 1, 0, 1, false, [⟨0, 32, .ro, 0⟩]⟩]

/-- Registers of the unit class OUT (R204). -/
def rowsOut (_n : Nat) : List RegDesc :=
  [⟨0x0000, 4, 1, 0, 1, false, [⟨0, 1, .rw, 1⟩, ⟨1, 1, .l, 0⟩, ⟨2, 1, .l, 0⟩, ⟨3, 1, .l, 0⟩, ⟨4, 2, .rw, 0⟩, ⟨6, 2, .rw, 0⟩, ⟨8, 2, .rw, 1⟩, ⟨10, 1, .rw, 0⟩]⟩,
   ⟨0x0004, 4, 1, 0, 1, false, [⟨0, 5, .ro, 0⟩, ⟨5, 1, .ro, 0⟩]⟩,
   ⟨0x0008, 4, 1, 0, 2, false, [⟨0, 32, .ro, 0⟩]⟩,
   ⟨0x000C, 4, 1, 1, 2, false, [⟨0, 32, .ro, 0⟩]⟩,
   ⟨0x0010, 4, 1, 0, 1, false, [⟨0, 32, .ro, 0⟩]⟩,
   ⟨0x0014, 4, 1, 0, 1, false, [⟨0, 16, .ro, 0⟩]⟩]

/-- Registers of the unit class MAC (R228). -/
def rowsMac (n : Nat) : List RegDesc :=
  [⟨0x0000, 4, 1, 0, 1, false, [⟨0, 1, .rw, 0⟩, ⟨1, 1, .rw, 0⟩, ⟨2, 2, .rw, 0⟩, ⟨4, 1, .l, (if n < 2 then 1 else 0)⟩, ⟨5, 1, .l, 0⟩, ⟨6, 1, .l, (if n < 2 then 0 else 1)⟩, ⟨7, 1, .l, 0⟩, ⟨8, 1, .l, (if n < 2 then 0 else 1)⟩]⟩,
   ⟨0x0004, 4, 1, 0, 1, false, [⟨0, 14, .rw, 9216⟩]⟩,
   ⟨0x0008, 4, 1, 0, 1, false, [⟨0, 14, .l, 256⟩]⟩,
   ⟨0x0010, 4, 1, 0, 1, false, [⟨0, 1, .ro, 0⟩, ⟨1, 2, .ro, 0⟩, ⟨3, 1, .ro, 0⟩, ⟨4, 1, .ro, 0⟩, ⟨5, 1, .ro, 0⟩, ⟨6, 1, .ro, 0⟩, ⟨7, 1, .ro, 0⟩, ⟨8, 1, .ro, 0⟩, ⟨16, 16, .ro, 0⟩]⟩,
   ⟨0x0014, 4, 1, 0, 2, false, [⟨0, 32, .ro, 0⟩]⟩,
   ⟨0x0018, 4, 1, 1, 2, false, [⟨0, 16, .ro, 0⟩]⟩,
   ⟨0x0020, 4, 1, 0, 4, false, [⟨0, 16, .rw, 0⟩]⟩,
   ⟨0x0024, 4, 1, 1, 4, false, [⟨0, 16, .rw, 0⟩]⟩,
   ⟨0x0028, 4, 1, 2, 4, false, [⟨0, 16, .rw, 0⟩]⟩,
   ⟨0x002C, 4, 1, 3, 4, false, [⟨0, 16, .rw, 0⟩]⟩,
   ⟨0x0030, 4, 1, 0, 1, false, [⟨0, 4, .rw, 4⟩, ⟨4, 5, .rw, 0⟩, ⟨9, 1, .rw, 0⟩, ⟨10, 1, .rw, 0⟩]⟩,
   ⟨0x0034, 4, 1, 0, 1, false, [⟨0, 12, .l, 0⟩]⟩,
   ⟨0x0038, 4, 1, 0, 1, false, [⟨0, 12, .ro, 0⟩]⟩,
   ⟨0x0040, 4, 1, 0, 4, false, [⟨0, 16, .rw, 0⟩]⟩] ++
  [⟨0x0044, 4, 1, 1, 4, false, [⟨0, 16, .rw, 0⟩]⟩,
   ⟨0x0048, 4, 1, 2, 4, false, [⟨0, 16, .rw, 0⟩]⟩,
   ⟨0x004C, 4, 1, 3, 4, false, [⟨0, 16, .rw, 0⟩]⟩,
   ⟨0x0050, 4, 1, 0, 1, false, [⟨0, 4, .rw, 4⟩, ⟨4, 5, .rw, 0⟩, ⟨9, 1, .rw, 0⟩, ⟨10, 1, .rw, 0⟩]⟩,
   ⟨0x0054, 4, 1, 0, 1, false, [⟨0, 12, .l, 0⟩]⟩,
   ⟨0x0058, 4, 1, 0, 1, false, [⟨0, 12, .ro, 0⟩]⟩,
   ⟨0x0080, 4, 1, 0, 1, false, [⟨0, 32, .ro, 0⟩]⟩,
   ⟨0x0084, 4, 1, 0, 1, false, [⟨0, 32, .ro, 0⟩]⟩,
   ⟨0x0088, 4, 1, 0, 1, false, [⟨0, 32, .ro, 0⟩]⟩,
   ⟨0x008C, 4, 1, 0, 1, false, [⟨0, 32, .ro, 0⟩]⟩,
   ⟨0x0090, 4, 1, 0, 1, false, [⟨0, 32, .ro, 0⟩]⟩,
   ⟨0x0094, 4, 1, 0, 1, false, [⟨0, 32, .ro, 0⟩]⟩,
   ⟨0x0098, 4, 1, 0, 1, false, [⟨0, 32, .ro, 0⟩]⟩,
   ⟨0x009C, 4, 1, 0, 1, false, [⟨0, 16, .ro, 0⟩, ⟨16, 16, .ro, 0⟩]⟩] ++
  [⟨0x00A0, 4, 4, 0, 1, false, [⟨0, 32, .ro, 0⟩]⟩,
   ⟨0x00B0, 4, 1, 0, 1, false, [⟨0, 16, .ro, 0⟩, ⟨16, 16, .ro, 0⟩]⟩,
   ⟨0x00B4, 4, 1, 0, 1, false, [⟨0, 16, .ro, 0⟩, ⟨16, 16, .ro, 0⟩]⟩]

/-- Registers of the unit class POL (R229). -/
def rowsPol (_n : Nat) : List RegDesc :=
  [⟨0x0000, 4, 1, 0, 1, false, [⟨0, 1, .ro, 1⟩]⟩,
   ⟨0x0100, 16, 1, 0, 1, false, [⟨0, 16, .l, 10⟩]⟩,
   ⟨0x0104, 16, 1, 0, 1, false, [⟨0, 16, .l, 16⟩]⟩,
   ⟨0x0108, 16, 16, 0, 1, false, [⟨0, 32, .ro, 0⟩]⟩,
   ⟨0x0110, 16, 1, 0, 1, false, [⟨0, 16, .l, 65535⟩]⟩,
   ⟨0x0114, 16, 1, 0, 1, false, [⟨0, 16, .l, 1024⟩]⟩,
   ⟨0x0120, 16, 1, 0, 1, false, [⟨0, 16, .l, 100⟩]⟩,
   ⟨0x0124, 16, 1, 0, 1, false, [⟨0, 16, .l, 64⟩]⟩,
   ⟨0x0130, 16, 1, 0, 1, false, [⟨0, 16, .l, 1000⟩]⟩,
   ⟨0x0134, 16, 1, 0, 1, false, [⟨0, 16, .l, 64⟩]⟩,
   ⟨0x0140, 16, 1, 0, 1, false, [⟨0, 16, .l, 10⟩]⟩,
   ⟨0x0144, 16, 1, 0, 1, false, [⟨0, 16, .l, 16⟩]⟩,
   ⟨0x0150, 16, 1, 0, 1, false, [⟨0, 16, .l, 65535⟩]⟩,
   ⟨0x0154, 16, 1, 0, 1, false, [⟨0, 16, .l, 1024⟩]⟩] ++
  [⟨0x0160, 16, 1, 0, 1, false, [⟨0, 16, .l, 100⟩]⟩,
   ⟨0x0164, 16, 1, 0, 1, false, [⟨0, 16, .l, 64⟩]⟩,
   ⟨0x0170, 16, 1, 0, 1, false, [⟨0, 16, .l, 1000⟩]⟩,
   ⟨0x0174, 16, 1, 0, 1, false, [⟨0, 16, .l, 64⟩]⟩,
   ⟨0x0180, 16, 1, 0, 1, false, [⟨0, 16, .l, 10⟩]⟩,
   ⟨0x0184, 16, 1, 0, 1, false, [⟨0, 16, .l, 16⟩]⟩,
   ⟨0x0190, 16, 1, 0, 1, false, [⟨0, 16, .l, 65535⟩]⟩,
   ⟨0x0194, 16, 1, 0, 1, false, [⟨0, 16, .l, 512⟩]⟩,
   ⟨0x01A0, 16, 1, 0, 1, false, [⟨0, 16, .l, 100⟩]⟩,
   ⟨0x01A4, 16, 1, 0, 1, false, [⟨0, 16, .l, 64⟩]⟩,
   ⟨0x01B0, 16, 1, 0, 1, false, [⟨0, 16, .l, 200⟩]⟩,
   ⟨0x01B4, 16, 1, 0, 1, false, [⟨0, 16, .l, 64⟩]⟩,
   ⟨0x01C0, 16, 1, 0, 1, false, [⟨0, 16, .l, 10⟩]⟩,
   ⟨0x01C4, 16, 1, 0, 1, false, [⟨0, 16, .l, 16⟩]⟩] ++
  [⟨0x01D0, 16, 1, 0, 1, false, [⟨0, 16, .l, 65535⟩]⟩,
   ⟨0x01D4, 16, 1, 0, 1, false, [⟨0, 16, .l, 512⟩]⟩,
   ⟨0x01E0, 16, 1, 0, 1, false, [⟨0, 16, .l, 100⟩]⟩,
   ⟨0x01E4, 16, 1, 0, 1, false, [⟨0, 16, .l, 64⟩]⟩,
   ⟨0x01F0, 16, 1, 0, 1, false, [⟨0, 16, .l, 200⟩]⟩,
   ⟨0x01F4, 16, 1, 0, 1, false, [⟨0, 16, .l, 64⟩]⟩]

/-- Registers of the unit class PHYM (R230). -/
def rowsPhym (_n : Nat) : List RegDesc :=
  [⟨0x0000, 4, 1, 0, 1, false, [⟨0, 1, .rw, 1⟩, ⟨1, 2, .rw, 0⟩, ⟨3, 4, .rw, 3⟩]⟩,
   ⟨0x0004, 4, 1, 0, 1, false, [⟨0, 5, .rw, 0⟩, ⟨8, 5, .rw, 1⟩]⟩,
   ⟨0x0008, 4, 1, 0, 1, false, [⟨0, 5, .rw, 2⟩, ⟨8, 5, .rw, 3⟩]⟩,
   ⟨0x0010, 4, 1, 0, 1, false, [⟨0, 16, .ro, 0⟩, ⟨16, 1, .ro, 0⟩]⟩]

/-- Registers of the unit class RXT (R257). -/
def rowsRxt (_n : Nat) : List RegDesc :=
  [⟨0x0000, 4, 1, 0, 1, false, [⟨0, 1, .rw, 0⟩, ⟨1, 1, .l, 0⟩, ⟨2, 1, .ro, 0⟩]⟩,
   ⟨0x0004, 4, 1, 0, 1, false, [⟨0, 13, .ro, 0⟩, ⟨16, 10, .ro, 0⟩]⟩,
   ⟨0x0008, 4, 1, 0, 1, false, [⟨0, 32, .ro, 0⟩]⟩,
   ⟨0x000C, 4, 1, 0, 1, false, [⟨0, 16, .ro, 0⟩]⟩,
   ⟨0x0010, 4, 1, 0, 1, false, [⟨0, 9, .ro, 0⟩, ⟨15, 1, .w1c, 0⟩]⟩]

/-- Registers of the unit class TXT (R279). -/
def rowsTxt (_n : Nat) : List RegDesc :=
  [⟨0x0000, 4, 1, 0, 1, false, [⟨0, 1, .rw, 0⟩, ⟨1, 1, .l, 0⟩, ⟨2, 1, .ro, 0⟩, ⟨3, 1, .l, 0⟩]⟩,
   ⟨0x0004, 4, 1, 0, 1, false, [⟨0, 2, .l, 1⟩, ⟨2, 4, .l, 3⟩]⟩,
   ⟨0x0008, 4, 1, 0, 1, false, [⟨0, 16, .l, 0⟩]⟩,
   ⟨0x000C, 4, 1, 0, 2, false, [⟨0, 16, .l, 10336⟩]⟩,
   ⟨0x0010, 4, 1, 1, 2, false, [⟨0, 16, .l, 61253⟩]⟩,
   ⟨0x0014, 4, 1, 0, 1, false, [⟨0, 16, .l, 52131⟩]⟩,
   ⟨0x0020, 4, 1, 0, 1, false, [⟨0, 13, .ro, 0⟩, ⟨16, 10, .ro, 0⟩]⟩,
   ⟨0x0024, 4, 1, 0, 1, false, [⟨0, 32, .ro, 0⟩]⟩,
   ⟨0x0028, 4, 1, 0, 1, false, [⟨0, 16, .ro, 0⟩, ⟨16, 16, .ro, 0⟩]⟩,
   ⟨0x002C, 4, 1, 0, 1, false, [⟨0, 9, .ro, 0⟩, ⟨15, 1, .w1c, 0⟩]⟩]

/-- Registers of the unit class MRG (R258). -/
def rowsMrg (_n : Nat) : List RegDesc :=
  [⟨0x0000, 4, 1, 0, 1, false, [⟨0, 1, .ro, 1⟩]⟩,
   ⟨0x0010, 4, 5, 0, 1, false, [⟨0, 32, .ro, 0⟩]⟩,
   ⟨0x0030, 4, 5, 0, 1, false, [⟨0, 32, .ro, 0⟩]⟩,
   ⟨0x0050, 4, 1, 0, 1, false, [⟨0, 32, .ro, 0⟩]⟩,
   ⟨0x0054, 4, 1, 0, 1, false, [⟨0, 32, .ro, 0⟩]⟩,
   ⟨0x0058, 4, 1, 0, 1, false, [⟨0, 32, .ro, 0⟩]⟩,
   ⟨0x005C, 4, 1, 0, 1, false, [⟨0, 32, .ro, 0⟩]⟩,
   ⟨0x0060, 4, 1, 0, 1, false, [⟨0, 32, .ro, 0⟩]⟩,
   ⟨0x0064, 4, 1, 0, 1, false, [⟨0, 16, .ro, 0⟩, ⟨16, 16, .ro, 0⟩]⟩]

/-- Registers of the unit class PLAY (R259). -/
def rowsPlay (_n : Nat) : List RegDesc :=
  [⟨0x0000, 4, 1, 0, 1, false, [⟨0, 1, .ro, 1⟩, ⟨1, 3, .l, 3⟩]⟩,
   ⟨0x0010, 4, 1, 0, 1, false, [⟨0, 32, .ro, 0⟩]⟩,
   ⟨0x0014, 4, 1, 0, 1, false, [⟨0, 32, .ro, 0⟩]⟩,
   ⟨0x0400, 4, 256, 0, 1, false, [⟨0, 16, .w1c, 0⟩]⟩]

/-- Registers of the unit class FD (R260). -/
def rowsFd (_n : Nat) : List RegDesc :=
  [⟨0x0000, 4, 1, 0, 1, false, [⟨0, 1, .ro, 1⟩]⟩,
   ⟨0x0100, 32, 64, 0, 1, false, [⟨0, 1, .rw, 0⟩, ⟨1, 3, .rw, 2⟩, ⟨4, 2, .rw, 2⟩]⟩,
   ⟨0x0104, 32, 64, 0, 1, false, [⟨0, 3, .ro, 0⟩, ⟨3, 1, .ro, 0⟩, ⟨16, 10, .ro, 1023⟩]⟩,
   ⟨0x0108, 32, 64, 0, 1, false, [⟨0, 32, .ro, 0⟩]⟩,
   ⟨0x010C, 32, 64, 0, 1, false, [⟨0, 32, .ro, 0⟩]⟩,
   ⟨0x0110, 32, 64, 0, 1, false, [⟨0, 10, .ro, 0⟩]⟩,
   ⟨0x0114, 32, 64, 0, 1, false, [⟨0, 16, .ro, 0⟩, ⟨16, 16, .ro, 0⟩]⟩]

/-- Registers of the unit class BUR (R303). -/
def rowsBur (_n : Nat) : List RegDesc :=
  [⟨0x0000, 4, 1, 0, 1, false, [⟨0, 1, .rw, 1⟩]⟩,
   ⟨0x0004, 4, 1, 0, 1, false, [⟨0, 3, .ro, 0⟩, ⟨3, 1, .ro, 0⟩, ⟨8, 7, .ro, 0⟩, ⟨16, 5, .ro, 0⟩]⟩,
   ⟨0x0008, 4, 1, 0, 1, false, [⟨0, 32, .ro, 0⟩]⟩,
   ⟨0x000C, 4, 1, 0, 1, false, [⟨0, 32, .ro, 0⟩]⟩,
   ⟨0x0010, 4, 1, 0, 1, false, [⟨0, 32, .ro, 0⟩]⟩,
   ⟨0x0014, 4, 1, 0, 1, false, [⟨0, 32, .ro, 0⟩]⟩,
   ⟨0x0018, 4, 1, 0, 1, false, [⟨0, 16, .ro, 0⟩, ⟨16, 16, .ro, 0⟩]⟩,
   ⟨0x001C, 4, 1, 0, 1, false, [⟨0, 16, .ro, 0⟩, ⟨16, 16, .ro, 0⟩]⟩,
   ⟨0x0020, 4, 1, 0, 1, false, [⟨0, 16, .ro, 0⟩, ⟨16, 16, .ro, 0⟩]⟩,
   ⟨0x0024, 4, 1, 0, 1, false, [⟨0, 32, .ro, 0⟩]⟩]

/-- Registers of the unit class SCHED (R304, R326). -/
def rowsSched (_n : Nat) : List RegDesc :=
  [⟨0x0000, 4, 1, 0, 1, false, [⟨0, 1, .ro, 1⟩, ⟨1, 2, .l, 0⟩, ⟨3, 3, .l, 4⟩]⟩,
   ⟨0x0010, 4, 1, 0, 1, false, [⟨0, 16, .ro, 0⟩, ⟨16, 16, .ro, 0⟩]⟩,
   ⟨0x0014, 4, 1, 0, 1, false, [⟨0, 16, .ro, 0⟩, ⟨16, 16, .ro, 0⟩]⟩,
   ⟨0x0018, 4, 1, 0, 1, false, [⟨0, 32, .ro, 0⟩]⟩,
   ⟨0x001C, 4, 1, 0, 1, false, [⟨0, 32, .ro, 0⟩]⟩,
   ⟨0x0020, 4, 1, 0, 1, false, [⟨0, 16, .ro, 0⟩, ⟨16, 16, .ro, 0⟩]⟩,
   ⟨0x0040, 4, 6, 0, 1, false, [⟨0, 16, .ro, 100⟩]⟩,
   ⟨0x0100, 4, 1, 0, 1, false, [⟨0, 1, .l, 0⟩, ⟨1, 1, .ro, 0⟩]⟩,
   ⟨0x0104, 4, 1, 0, 1, false, [⟨0, 9, .ro, 0⟩]⟩,
   ⟨0x0108, 4, 1, 0, 1, false, [⟨0, 32, .ro, 0⟩]⟩,
   ⟨0x010C, 4, 1, 0, 1, false, [⟨0, 32, .ro, 0⟩]⟩,
   ⟨0x0110, 4, 1, 0, 1, false, [⟨0, 32, .ro, 0⟩]⟩,
   ⟨0x0114, 4, 1, 0, 1, false, [⟨0, 16, .ro, 0⟩]⟩,
   ⟨0x0118, 4, 1, 0, 1, false, [⟨0, 8, .ro, 0⟩, ⟨8, 1, .ro, 0⟩, ⟨15, 1, .w1c, 0⟩]⟩]

/-- Registers of the unit class ADM (R305). -/
def rowsAdm (_n : Nat) : List RegDesc :=
  [⟨0x0000, 4, 1, 0, 1, false, [⟨0, 1, .ro, 1⟩, ⟨1, 3, .l, 4⟩]⟩,
   ⟨0x0010, 4, 1, 0, 1, false, [⟨0, 32, .ro, 2400000⟩]⟩,
   ⟨0x0014, 4, 1, 0, 1, false, [⟨0, 32, .ro, 2304000⟩]⟩,
   ⟨0x0018, 4, 1, 0, 1, false, [⟨0, 32, .ro, 0⟩]⟩,
   ⟨0x001C, 4, 1, 0, 1, false, [⟨0, 32, .ro, 2304000⟩]⟩,
   ⟨0x0020, 4, 1, 0, 1, false, [⟨0, 16, .ro, 0⟩, ⟨16, 7, .ro, 64⟩, ⟨24, 8, .ro, 0⟩]⟩,
   ⟨0x0024, 4, 1, 0, 1, false, [⟨0, 11, .ro, 0⟩]⟩,
   ⟨0x0028, 4, 1, 0, 1, false, [⟨0, 32, .ro, 0⟩]⟩]

/-- Registers of the unit class TDM (R358). -/
def rowsTdm (_n : Nat) : List RegDesc :=
  [⟨0x0000, 4, 1, 0, 1, false, [⟨0, 1, .rw, 0⟩, ⟨1, 1, .rw, 0⟩, ⟨2, 2, .rw, 2⟩, ⟨4, 5, .rw, 7⟩, ⟨9, 2, .rw, 2⟩, ⟨11, 2, .rw, 0⟩, ⟨13, 1, .l, 0⟩, ⟨14, 1, .ro, 0⟩]⟩,
   ⟨0x0004, 4, 1, 0, 1, false, [⟨0, 2, .rw, 0⟩, ⟨2, 1, .rw, 1⟩, ⟨3, 1, .rw, 0⟩, ⟨4, 1, .rw, 0⟩, ⟨5, 1, .rw, 0⟩, ⟨6, 1, .rw, 0⟩, ⟨7, 1, .rw, 0⟩]⟩,
   ⟨0x0010, 4, 1, 0, 2, false, [⟨0, 16, .rw, 0⟩]⟩,
   ⟨0x0014, 4, 1, 1, 2, false, [⟨0, 16, .rw, 0⟩]⟩,
   ⟨0x0018, 4, 1, 0, 2, false, [⟨0, 16, .rw, 0⟩]⟩,
   ⟨0x001C, 4, 1, 1, 2, false, [⟨0, 16, .rw, 0⟩]⟩,
   ⟨0x0020, 4, 1, 0, 2, false, [⟨0, 16, .rw, 0⟩]⟩,
   ⟨0x0024, 4, 1, 1, 2, false, [⟨0, 16, .rw, 0⟩]⟩,
   ⟨0x0028, 4, 1, 0, 2, false, [⟨0, 16, .rw, 0⟩]⟩,
   ⟨0x002C, 4, 1, 1, 2, false, [⟨0, 16, .rw, 0⟩]⟩,
   ⟨0x0030, 4, 1, 0, 1, false, [⟨0, 8, .l, 20⟩]⟩,
   ⟨0x0040, 4, 1, 0, 1, false, [⟨0, 1, .ro, 0⟩, ⟨1, 1, .ro, 0⟩, ⟨2, 1, .ro, 0⟩, ⟨8, 6, .ro, 0⟩, ⟨16, 6, .ro, 0⟩]⟩,
   ⟨0x0044, 4, 1, 0, 1, false, [⟨0, 32, .ro, 0⟩]⟩,
   ⟨0x0048, 4, 1, 0, 1, false, [⟨0, 32, .ro, 0⟩]⟩] ++
  [⟨0x004C, 4, 1, 0, 1, false, [⟨0, 32, .ro, 0⟩]⟩,
   ⟨0x0050, 4, 1, 0, 1, false, [⟨0, 32, .ro, 0⟩]⟩,
   ⟨0x0054, 4, 1, 0, 1, false, [⟨0, 16, .ro, 0⟩, ⟨16, 16, .ro, 0⟩]⟩,
   ⟨0x0058, 4, 1, 0, 1, false, [⟨0, 16, .ro, 0⟩, ⟨16, 16, .ro, 0⟩]⟩,
   ⟨0x005C, 4, 1, 0, 1, false, [⟨0, 16, .ro, 0⟩, ⟨16, 16, .ro, 0⟩]⟩,
   ⟨0x0100, 8, 32, 0, 1, false, [⟨0, 16, .l, 0⟩]⟩,
   ⟨0x0104, 8, 32, 0, 1, false, [⟨0, 1, .l, 0⟩]⟩,
   ⟨0x0200, 8, 32, 0, 1, false, [⟨0, 16, .l, 0⟩]⟩,
   ⟨0x0204, 8, 32, 0, 1, false, [⟨0, 1, .l, 0⟩]⟩]

/-- Registers of the unit class PDM (R363). -/
def rowsPdm (_n : Nat) : List RegDesc :=
  [⟨0x0000, 4, 1, 0, 1, false, [⟨0, 1, .rw, 0⟩, ⟨1, 2, .rw, 2⟩, ⟨3, 2, .rw, 1⟩, ⟨5, 1, .rw, 1⟩, ⟨6, 1, .rw, 1⟩]⟩,
   ⟨0x0004, 4, 1, 0, 1, false, [⟨0, 7, .rw, 20⟩]⟩,
   ⟨0x0008, 4, 1, 0, 1, false, [⟨0, 8, .l, 20⟩]⟩,
   ⟨0x0010, 16, 2, 0, 1, false, [⟨0, 16, .l, 0⟩]⟩,
   ⟨0x0014, 16, 2, 0, 1, false, [⟨0, 1, .l, 0⟩]⟩,
   ⟨0x0018, 16, 2, 0, 1, false, [⟨0, 16, .rw, 0⟩]⟩,
   ⟨0x001C, 16, 2, 0, 1, false, [⟨0, 13, .rw, 0⟩]⟩,
   ⟨0x0040, 4, 1, 0, 1, false, [⟨0, 1, .ro, 0⟩, ⟨1, 1, .ro, 0⟩, ⟨2, 2, .ro, 0⟩, ⟨4, 2, .ro, 0⟩]⟩,
   ⟨0x0044, 4, 1, 0, 1, false, [⟨0, 16, .ro, 0⟩, ⟨16, 16, .ro, 0⟩]⟩,
   ⟨0x0048, 4, 1, 0, 1, false, [⟨0, 16, .ro, 0⟩, ⟨16, 16, .ro, 0⟩]⟩]

/-- Registers of the unit class AMP (R386). -/
def rowsAmp (_n : Nat) : List RegDesc :=
  [⟨0x0000, 4, 1, 0, 1, false, [⟨0, 1, .rw, 0⟩, ⟨1, 1, .rw, 0⟩, ⟨2, 1, .rw, 0⟩, ⟨3, 1, .l, 0⟩, ⟨4, 1, .l, 1⟩]⟩,
   ⟨0x0004, 4, 1, 0, 1, false, [⟨0, 10, .rw, 200⟩]⟩,
   ⟨0x0008, 4, 1, 0, 1, false, [⟨0, 8, .l, 20⟩, ⟨8, 4, .rw, 3⟩, ⟨12, 4, .rw, 8⟩]⟩,
   ⟨0x000C, 4, 1, 0, 1, false, [⟨0, 16, .rw, 5000⟩]⟩,
   ⟨0x0010, 4, 1, 0, 1, false, [⟨0, 14, .rw, 3000⟩]⟩,
   ⟨0x0020, 4, 1, 0, 1, false, [⟨0, 4, .ro, 0⟩, ⟨4, 3, .ro, 0⟩, ⟨7, 1, .ro, 0⟩, ⟨8, 1, .ro, 0⟩, ⟨9, 1, .ro, 0⟩, ⟨16, 16, .ro, 0⟩]⟩,
   ⟨0x0024, 4, 1, 0, 1, false, [⟨0, 16, .ro, 0⟩, ⟨16, 16, .ro, 0⟩]⟩,
   ⟨0x0028, 4, 1, 0, 1, false, [⟨0, 16, .ro, 0⟩, ⟨16, 16, .ro, 0⟩]⟩,
   ⟨0x002C, 4, 1, 0, 1, false, [⟨0, 16, .ro, 0⟩, ⟨16, 16, .ro, 0⟩]⟩,
   ⟨0x0030, 4, 1, 0, 1, false, [⟨0, 16, .ro, 0⟩, ⟨16, 16, .ro, 0⟩]⟩,
   ⟨0x0034, 4, 1, 0, 1, false, [⟨0, 16, .ro, 0⟩, ⟨16, 16, .ro, 0⟩]⟩,
   ⟨0x0038, 4, 1, 0, 1, false, [⟨0, 32, .ro, 0⟩]⟩,
   ⟨0x003C, 4, 1, 0, 1, false, [⟨0, 16, .ro, 0⟩, ⟨16, 16, .ro, 0⟩]⟩]

/-- Registers of the unit class PROT (R387). -/
def rowsProt (_n : Nat) : List RegDesc :=
  [⟨0x0000, 4, 1, 0, 1, false, [⟨0, 1, .rw, 1⟩, ⟨1, 1, .rw, 1⟩]⟩,
   ⟨0x0004, 4, 1, 0, 1, true, [⟨0, 1, .rw, 1⟩, ⟨1, 8, .rw, 20⟩, ⟨9, 1, .rw, 0⟩]⟩,
   ⟨0x0008, 4, 1, 0, 1, true, [⟨0, 8, .rw, 60⟩, ⟨8, 8, .rw, 100⟩]⟩,
   ⟨0x000C, 4, 1, 0, 1, true, [⟨0, 8, .rw, 15⟩, ⟨8, 8, .rw, 20⟩]⟩,
   ⟨0x0010, 4, 1, 0, 1, true, [⟨0, 8, .rw, 100⟩, ⟨8, 8, .rw, 125⟩]⟩,
   ⟨0x0014, 4, 1, 0, 1, true, [⟨0, 10, .rw, 75⟩]⟩,
   ⟨0x0018, 4, 1, 0, 1, true, [⟨0, 10, .rw, 620⟩]⟩,
   ⟨0x001C, 4, 1, 0, 1, true, [⟨0, 8, .rw, 20⟩]⟩,
   ⟨0x0020, 4, 1, 0, 1, false, [⟨0, 14, .rw, 4000⟩]⟩,
   ⟨0x0040, 4, 1, 0, 1, false, [⟨0, 1, .ro, 0⟩, ⟨1, 1, .ro, 0⟩, ⟨2, 1, .ro, 0⟩, ⟨3, 4, .ro, 0⟩, ⟨7, 4, .ro, 0⟩, ⟨11, 4, .ro, 0⟩]⟩,
   ⟨0x0044, 4, 1, 0, 1, false, [⟨0, 16, .ro, 0⟩, ⟨16, 16, .ro, 0⟩]⟩,
   ⟨0x0048, 4, 4, 0, 1, false, [⟨0, 16, .ro, 0⟩]⟩,
   ⟨0x0058, 4, 1, 0, 1, false, [⟨0, 16, .ro, 0⟩, ⟨16, 16, .ro, 0⟩]⟩,
   ⟨0x005C, 4, 1, 0, 1, false, [⟨0, 16, .ro, 0⟩, ⟨16, 16, .ro, 0⟩]⟩]

/-- Registers of the unit class DIAG (R404). -/
def rowsDiag (_n : Nat) : List RegDesc :=
  [⟨0x0000, 4, 1, 0, 1, false, [⟨0, 1, .rw, 1⟩, ⟨1, 3, .l, 0⟩]⟩,
   ⟨0x0004, 4, 1, 0, 1, false, [⟨0, 15, .rw, 1000⟩]⟩,
   ⟨0x0008, 4, 1, 0, 1, false, [⟨0, 15, .rw, 4000⟩]⟩,
   ⟨0x000C, 4, 1, 0, 1, false, [⟨0, 15, .rw, 12000⟩]⟩,
   ⟨0x0010, 4, 1, 0, 1, false, [⟨0, 15, .rw, 18000⟩]⟩,
   ⟨0x0014, 4, 1, 0, 1, false, [⟨0, 8, .rw, 10⟩, ⟨8, 8, .rw, 20⟩]⟩,
   ⟨0x0018, 4, 1, 0, 1, false, [⟨0, 6, .rw, 15⟩, ⟨6, 6, .rw, 10⟩]⟩,
   ⟨0x001C, 4, 1, 0, 1, false, [⟨0, 6, .rw, 20⟩, ⟨6, 6, .rw, 6⟩, ⟨12, 4, .rw, 3⟩]⟩,
   ⟨0x0040, 4, 1, 0, 1, false, [⟨0, 8, .ro, 0⟩, ⟨8, 8, .ro, 0⟩, ⟨16, 8, .ro, 0⟩]⟩,
   ⟨0x0100, 16, 8, 0, 1, false, [⟨0, 3, .ro, 0⟩, ⟨3, 1, .ro, 0⟩, ⟨4, 1, .ro, 0⟩, ⟨5, 4, .ro, 0⟩]⟩,
   ⟨0x0104, 16, 8, 0, 1, false, [⟨0, 32, .ro, 0⟩]⟩,
   ⟨0x0108, 16, 8, 0, 1, false, [⟨0, 16, .ro, 0⟩, ⟨16, 16, .ro, 0⟩]⟩,
   ⟨0x010C, 16, 8, 0, 1, false, [⟨0, 32, .ro, 0⟩]⟩]

/-- Registers of the unit class MEM (R342). -/
def rowsDdr (_n : Nat) : List RegDesc :=
  [⟨0x0000, 4, 1, 0, 1, false, [⟨0, 1, .ro, 1⟩, ⟨1, 3, .l, 3⟩, ⟨4, 2, .l, 1⟩]⟩,
   ⟨0x0004, 4, 1, 0, 1, false, [⟨0, 2, .ro, 3⟩, ⟨2, 1, .ro, 0⟩, ⟨3, 1, .ro, 0⟩, ⟨4, 1, .ro, 0⟩, ⟨5, 1, .ro, 0⟩, ⟨6, 2, .ro, 0⟩, ⟨8, 3, .ro, 0⟩]⟩,
   ⟨0x0008, 4, 1, 0, 1, false, [⟨0, 8, .ro, 0⟩, ⟨8, 8, .ro, 0⟩, ⟨16, 8, .ro, 0⟩, ⟨24, 8, .ro, 0⟩]⟩,
   ⟨0x000C, 4, 1, 0, 1, false, [⟨0, 16, .ro, 0⟩, ⟨16, 16, .ro, 0⟩]⟩,
   ⟨0x0010, 4, 1, 0, 1, false, [⟨0, 32, .ro, 0⟩]⟩]

/-- Registers of the unit class RM (R343). -/
def rowsRm (_n : Nat) : List RegDesc :=
  [⟨0x0000, 4, 1, 0, 1, false, [⟨0, 1, .ro, 1⟩, ⟨1, 2, .l, 1⟩, ⟨3, 3, .l, 3⟩]⟩,
   ⟨0x0004, 4, 1, 0, 1, false, [⟨0, 32, .ro, 0⟩]⟩,
   ⟨0x0008, 4, 1, 0, 1, false, [⟨0, 32, .ro, 0⟩]⟩,
   ⟨0x000C, 4, 1, 0, 1, false, [⟨0, 32, .ro, 0⟩]⟩,
   ⟨0x0010, 4, 1, 0, 1, false, [⟨0, 14, .ro, 0⟩]⟩,
   ⟨0x0014, 4, 1, 0, 1, false, [⟨0, 16, .ro, 0⟩, ⟨16, 16, .ro, 0⟩]⟩,
   ⟨0x0018, 4, 1, 0, 1, false, [⟨0, 32, .ro, 0⟩]⟩,
   ⟨0x001C, 4, 1, 0, 1, false, [⟨0, 16, .ro, 0⟩, ⟨16, 16, .ro, 0⟩]⟩,
   ⟨0x0020, 4, 1, 0, 1, false, [⟨0, 16, .ro, 0⟩, ⟨16, 16, .ro, 0⟩]⟩,
   ⟨0x0024, 4, 1, 0, 1, false, [⟨0, 16, .ro, 0⟩, ⟨16, 16, .ro, 0⟩]⟩]

/-- Registers of the unit class POST (R344). -/
def rowsPost (_n : Nat) : List RegDesc :=
  [⟨0x0000, 4, 1, 0, 1, false, [⟨0, 1, .ro, 1⟩]⟩,
   ⟨0x0010, 4, 1, 0, 1, false, [⟨0, 16, .ro, 0⟩, ⟨16, 16, .ro, 0⟩]⟩,
   ⟨0x0100, 8, 14, 0, 1, false, [⟨0, 32, .ro, 0⟩]⟩,
   ⟨0x0104, 8, 14, 0, 1, false, [⟨0, 32, .ro, 0⟩]⟩]

/-- Registers of the unit class LINK (R435). -/
def rowsLink (_n : Nat) : List RegDesc :=
  [⟨0x0000, 4, 1, 0, 1, false, [⟨0, 1, .rw, 1⟩]⟩,
   ⟨0x0004, 4, 1, 0, 1, false, [⟨0, 1, .ro, 0⟩, ⟨1, 1, .ro, 0⟩, ⟨8, 8, .ro, 0⟩]⟩,
   ⟨0x0008, 4, 1, 0, 1, false, [⟨0, 32, .ro, 0⟩]⟩,
   ⟨0x000C, 4, 1, 0, 1, false, [⟨0, 16, .ro, 0⟩, ⟨16, 16, .ro, 0⟩]⟩,
   ⟨0x0010, 4, 1, 0, 1, false, [⟨0, 32, .ro, 0⟩]⟩,
   ⟨0x0014, 4, 1, 0, 1, false, [⟨0, 32, .ro, 0⟩]⟩,
   ⟨0x0018, 4, 1, 0, 1, false, [⟨0, 32, .ro, 0⟩]⟩,
   ⟨0x001C, 4, 1, 0, 1, false, [⟨0, 32, .ro, 0⟩]⟩]

/-- Registers of the unit class ROLE (R436). -/
def rowsRole (_n : Nat) : List RegDesc :=
  [⟨0x0000, 4, 1, 0, 1, false, [⟨0, 1, .rw, 1⟩, ⟨1, 1, .l, 0⟩, ⟨2, 2, .l, 1⟩, ⟨4, 4, .l, 8⟩, ⟨8, 1, .l, 1⟩]⟩,
   ⟨0x0004, 4, 1, 0, 1, false, [⟨0, 3, .ro, 0⟩, ⟨3, 2, .ro, 0⟩, ⟨5, 2, .ro, 0⟩, ⟨7, 1, .ro, 0⟩, ⟨8, 1, .ro, 0⟩, ⟨9, 1, .ro, 0⟩, ⟨16, 16, .ro, 0⟩]⟩,
   ⟨0x0008, 4, 1, 0, 1, false, [⟨0, 32, .ro, 0⟩]⟩,
   ⟨0x000C, 4, 1, 0, 1, false, [⟨0, 16, .ro, 0⟩]⟩,
   ⟨0x0010, 4, 1, 0, 1, false, [⟨0, 16, .ro, 0⟩, ⟨16, 16, .ro, 0⟩]⟩,
   ⟨0x0014, 4, 1, 0, 1, false, [⟨0, 16, .ro, 0⟩, ⟨16, 16, .ro, 0⟩]⟩]

/-- Registers of the unit class DIG (R437). -/
def rowsDig (_n : Nat) : List RegDesc :=
  [⟨0x0000, 4, 1, 0, 1, false, [⟨0, 1, .rw, 1⟩, ⟨1, 3, .l, 3⟩, ⟨4, 4, .l, 15⟩]⟩,
   ⟨0x0004, 4, 1, 0, 1, false, [⟨0, 16, .ro, 0⟩]⟩,
   ⟨0x0008, 4, 1, 0, 1, false, [⟨0, 32, .ro, 0⟩]⟩,
   ⟨0x000C, 4, 1, 0, 1, false, [⟨0, 32, .ro, 0⟩]⟩,
   ⟨0x0010, 4, 1, 0, 1, false, [⟨0, 32, .ro, 0⟩]⟩,
   ⟨0x0014, 4, 1, 0, 1, false, [⟨0, 32, .ro, 0⟩]⟩]

/-- Registers of the unit class MON (R461). -/
def rowsMon (_n : Nat) : List RegDesc :=
  [⟨0x0000, 4, 1, 0, 1, false, [⟨0, 1, .ro, 1⟩, ⟨1, 3, .l, 3⟩]⟩,
   ⟨0x0004, 4, 1, 0, 1, false, [⟨0, 4, .l, 6⟩, ⟨4, 4, .l, 5⟩, ⟨8, 4, .l, 4⟩, ⟨12, 4, .l, 5⟩]⟩,
   ⟨0x0010, 4, 8, 0, 1, false, [⟨0, 16, .ro, 0⟩]⟩,
   ⟨0x0030, 4, 1, 0, 1, false, [⟨0, 16, .ro, 0⟩, ⟨16, 16, .ro, 0⟩]⟩,
   ⟨0x0034, 4, 1, 0, 1, false, [⟨0, 16, .ro, 0⟩, ⟨16, 16, .ro, 0⟩]⟩,
   ⟨0x0038, 4, 1, 0, 1, false, [⟨0, 32, .ro, 0⟩]⟩,
   ⟨0x003C, 4, 1, 0, 1, false, [⟨0, 32, .ro, 0⟩]⟩,
   ⟨0x0040, 4, 1, 0, 1, false, [⟨0, 8, .ro, 0⟩, ⟨16, 14, .ro, 0⟩]⟩,
   ⟨0x0044, 4, 1, 0, 1, false, [⟨0, 32, .ro, 0⟩]⟩,
   ⟨0x0050, 8, 8, 0, 1, false, [⟨0, 16, .ro, 0⟩, ⟨16, 16, .ro, 0⟩]⟩,
   ⟨0x0054, 8, 8, 0, 1, false, [⟨0, 16, .ro, 0⟩]⟩]

/-- Registers of the unit class CAL (R462). -/
def rowsCal (_n : Nat) : List RegDesc :=
  [⟨0x0000, 4, 1, 0, 1, false, [⟨0, 1, .rw, 1⟩, ⟨1, 1, .sc, 0⟩, ⟨2, 2, .l, 1⟩, ⟨4, 1, .l, 1⟩]⟩,
   ⟨0x0004, 4, 1, 0, 1, true, [⟨0, 7, .l, 0⟩]⟩,
   ⟨0x0008, 4, 1, 0, 1, false, [⟨0, 4, .l, 6⟩, ⟨4, 4, .l, 3⟩, ⟨8, 4, .l, 5⟩]⟩,
   ⟨0x0010, 4, 1, 0, 1, false, [⟨0, 1, .ro, 0⟩, ⟨1, 1, .ro, 0⟩, ⟨2, 1, .ro, 0⟩, ⟨8, 7, .ro, 0⟩, ⟨16, 16, .ro, 0⟩]⟩,
   ⟨0x0014, 4, 1, 0, 1, false, [⟨0, 32, .ro, 0⟩]⟩,
   ⟨0x0018, 4, 1, 0, 1, false, [⟨0, 32, .ro, 0⟩]⟩,
   ⟨0x0020, 8, 7, 0, 1, false, [⟨0, 32, .ro, 0⟩]⟩,
   ⟨0x0024, 8, 7, 0, 1, false, [⟨0, 32, .ro, 0⟩]⟩,
   ⟨0x0060, 4, 1, 0, 1, false, [⟨0, 16, .ro, 0⟩, ⟨16, 16, .ro, 0⟩]⟩,
   ⟨0x0064, 4, 1, 0, 1, false, [⟨0, 32, .ro, 0⟩]⟩]

/-- Registers of the unit class EVT (R85). -/
def rowsEvt (n : Nat) : List RegDesc :=
  [⟨0x0000, 4, 1, 0, 1, false, [⟨0, 1, .rw, 1⟩]⟩,
   ⟨0x0004, 4, 1, 0, 1, false, [⟨0, 16, .ro, 0⟩]⟩,
   ⟨0x0008, 4, 1, 0, 1, false, [⟨0, 16, .w1c, 0⟩]⟩,
   ⟨0x000C, 4, 1, 0, 1, false, [⟨0, 16, .l, (if n == 0 then 1 else 0)⟩]⟩,
   ⟨0x0040, 4, 1, 0, 1, false, [⟨0, 1, .l, (if n == 0 then 1 else 0)⟩, ⟨1, 1, .l, 0⟩, ⟨2, 1, .l, 0⟩, ⟨3, 5, .l, 0⟩, ⟨8, 1, .l, 0⟩, ⟨9, 1, .l, 0⟩, ⟨10, 1, .l, 0⟩]⟩,
   ⟨0x0044, 4, 15, 0, 1, false, [⟨0, 1, .l, 0⟩, ⟨1, 1, .l, 0⟩, ⟨2, 1, .l, 0⟩, ⟨3, 5, .l, 0⟩, ⟨8, 1, .l, 0⟩, ⟨9, 1, .l, 0⟩, ⟨10, 1, .l, 0⟩]⟩,
   ⟨0x0080, 4, 16, 0, 1, false, [⟨0, 32, .ro, 0⟩]⟩] ++
  (if n == 0 then [⟨0x0010, 4, 1, 0, 1, false, [⟨0, 16, .ro, 0⟩]⟩] else [])

/-- Registers of the unit class HST (R368, R485). -/
def rowsHst (_n : Nat) : List RegDesc :=
  [⟨0x0000, 4, 1, 0, 1, false, [⟨0, 1, .rw, 1⟩]⟩,
   ⟨0x0004, 4, 1, 0, 1, false, [⟨0, 1, .ro, 0⟩, ⟨1, 2, .ro, 0⟩, ⟨3, 2, .ro, 0⟩, ⟨5, 1, .ro, 0⟩, ⟨16, 16, .ro, 0⟩]⟩,
   ⟨0x0008, 4, 1, 0, 1, false, [⟨0, 32, .ro, 0⟩]⟩,
   ⟨0x0100, 4, 1, 0, 1, false, [⟨0, 6, .ro, 0⟩]⟩,
   ⟨0x0200, 64, 32, 0, 1, false, [⟨0, 1, .rw, 0⟩, ⟨1, 1, .rw, 0⟩, ⟨2, 2, .rw, 0⟩, ⟨4, 4, .rw, 4⟩, ⟨8, 5, .rw, 0⟩, ⟨13, 3, .rw, 0⟩]⟩,
   ⟨0x0204, 64, 32, 0, 1, false, [⟨0, 10, .rw, 1⟩, ⟨10, 1, .rw, 0⟩]⟩,
   ⟨0x0208, 64, 32, 0, 1, false, [⟨0, 16, .rw, 12288⟩]⟩,
   ⟨0x020C, 64, 32, 0, 4, false, [⟨0, 16, .rw, 0⟩]⟩,
   ⟨0x0210, 64, 32, 1, 4, false, [⟨0, 16, .rw, 0⟩]⟩,
   ⟨0x0214, 64, 32, 2, 4, false, [⟨0, 16, .rw, 0⟩]⟩,
   ⟨0x0218, 64, 32, 3, 4, false, [⟨0, 16, .rw, 0⟩]⟩,
   ⟨0x021C, 64, 32, 0, 1, false, [⟨0, 16, .l, 0⟩]⟩,
   ⟨0x0220, 64, 32, 0, 1, false, [⟨0, 16, .ro, 0⟩]⟩,
   ⟨0x0224, 64, 32, 0, 1, false, [⟨0, 3, .ro, 0⟩]⟩] ++
  [⟨0x0228, 64, 32, 0, 2, false, [⟨0, 32, .ro, 0⟩]⟩,
   ⟨0x022C, 64, 32, 1, 2, false, [⟨0, 32, .ro, 0⟩]⟩,
   ⟨0x0230, 64, 32, 0, 1, false, [⟨0, 32, .ro, 0⟩]⟩,
   ⟨0x0234, 64, 32, 0, 1, false, [⟨0, 32, .ro, 0⟩]⟩,
   ⟨0x0238, 64, 32, 0, 1, false, [⟨0, 16, .ro, 0⟩]⟩]

/-- Registers of the unit class SPI (R47). -/
def rowsSpi (_n : Nat) : List RegDesc :=
  [⟨0x0000, 4, 1, 0, 1, false, [⟨0, 1, .rw, 1⟩, ⟨1, 1, .rw, 0⟩]⟩]

/-- Registers of the unit class UART (R51, R497). -/
def rowsUart (_n : Nat) : List RegDesc :=
  [⟨0x0000, 4, 1, 0, 1, false, [⟨0, 1, .rw, 1⟩, ⟨1, 4, .l, 0⟩]⟩,
   ⟨0x0010, 4, 1, 0, 1, false, [⟨0, 2, .l, 1⟩, ⟨2, 1, .ro, 0⟩, ⟨3, 1, .ro, 0⟩, ⟨4, 1, .ro, 0⟩]⟩,
   ⟨0x0014, 4, 1, 0, 1, false, [⟨0, 8, .ro, 0⟩, ⟨8, 8, .ro, 0⟩]⟩]

/-- Registers of the unit class PWR (R482). -/
def rowsPwr (_n : Nat) : List RegDesc :=
  [⟨0x0000, 4, 1, 0, 1, false, [⟨0, 1, .ro, 1⟩, ⟨1, 2, .l, 2⟩, ⟨3, 1, .l, 1⟩, ⟨4, 2, .l, 0⟩]⟩,
   ⟨0x0004, 4, 1, 0, 1, false, [⟨0, 7, .l, 64⟩]⟩,
   ⟨0x0010, 4, 1, 0, 1, false, [⟨0, 2, .ro, 3⟩, ⟨2, 1, .ro, 0⟩, ⟨3, 2, .ro, 0⟩, ⟨5, 1, .ro, 0⟩, ⟨6, 1, .ro, 0⟩, ⟨7, 1, .ro, 0⟩]⟩,
   ⟨0x0014, 4, 1, 0, 2, false, [⟨0, 32, .ro, 0⟩]⟩,
   ⟨0x0018, 4, 1, 1, 2, false, [⟨0, 32, .ro, 0⟩]⟩,
   ⟨0x001C, 4, 1, 0, 1, false, [⟨0, 16, .ro, 0⟩, ⟨16, 16, .ro, 0⟩]⟩,
   ⟨0x0020, 4, 1, 0, 1, false, [⟨0, 32, .ro, 0⟩]⟩,
   ⟨0x0024, 4, 1, 0, 1, false, [⟨0, 6, .ro, 0⟩]⟩]

/-- Registers of the unit class WK (R483). -/
def rowsWk (_n : Nat) : List RegDesc :=
  [⟨0x0000, 4, 1, 0, 1, false, [⟨0, 1, .ro, 1⟩, ⟨1, 1, .l, 1⟩, ⟨2, 1, .l, 0⟩, ⟨3, 1, .l, 0⟩, ⟨4, 1, .l, 0⟩, ⟨5, 1, .l, 0⟩, ⟨6, 5, .l, 31⟩, ⟨11, 4, .l, 0⟩]⟩,
   ⟨0x0004, 4, 1, 0, 1, false, [⟨0, 16, .l, 0⟩]⟩,
   ⟨0x0008, 4, 1, 0, 1, false, [⟨0, 16, .l, 0⟩]⟩,
   ⟨0x000C, 4, 1, 0, 2, false, [⟨0, 16, .l, 0⟩]⟩,
   ⟨0x0010, 4, 1, 1, 2, false, [⟨0, 16, .l, 0⟩]⟩,
   ⟨0x0020, 4, 1, 0, 1, false, [⟨0, 3, .ro, 0⟩, ⟨16, 16, .ro, 0⟩]⟩]

/-- Registers of the unit class SUP (R484). -/
def rowsSup (_n : Nat) : List RegDesc :=
  [⟨0x0000, 4, 1, 0, 1, false, [⟨0, 1, .ro, 1⟩]⟩,
   ⟨0x0004, 4, 1, 0, 1, false, [⟨0, 10, .ro, 0⟩, ⟨16, 10, .ro, 0⟩]⟩,
   ⟨0x0010, 4, 10, 0, 1, false, [⟨0, 16, .ro, 0⟩]⟩]

/-- The register rows of a unit (R10, Table 1.1); none for a reserved unit (R11). -/
def unitRows (sub u : Nat) : List RegDesc :=
  if sub == 0 && u == 0 then rowsMgt0 (u - 0)
  else if sub == 0 && u == 1 then rowsCar (u - 1)
  else if sub == 0 && u == 2 then rowsMbx (u - 2)
  else if sub == 0 && u == 3 then rowsNvs (u - 3)
  else if sub == 0 && u == 4 then rowsLog (u - 4)
  else if sub == 1 && u == 0 then rowsTb (u - 0)
  else if sub == 1 && 1 ≤ u && u < 3 then rowsDom (u - 1)
  else if sub == 1 && 4 ≤ u && u < 8 then rowsTsu (u - 4)
  else if sub == 1 && 8 ≤ u && u < 12 then rowsCc (u - 8)
  else if sub == 1 && 32 ≤ u && u < 64 then rowsTrg (u - 32)
  else if sub == 2 && u < 7 then rowsRef (u - 0)
  else if sub == 2 && u == 8 then rowsSel (u - 8)
  else if sub == 2 && u == 9 then rowsLoop (u - 9)
  else if sub == 2 && u == 10 then rowsHold (u - 10)
  else if sub == 2 && u == 11 then rowsOut (u - 11)
  else if sub == 3 && u < 4 then rowsMac (u - 0)
  else if sub == 3 && u == 4 then rowsPol (u - 4)
  else if sub == 3 && u == 5 then rowsPhym (u - 5)
  else if sub == 4 && u == 0 then rowsRxt (u - 0)
  else if sub == 4 && u == 1 then rowsTxt (u - 1)
  else if sub == 4 && u == 2 then rowsMrg (u - 2)
  else if sub == 4 && u == 3 then rowsPlay (u - 3)
  else if sub == 4 && u == 4 then rowsFd (u - 4)
  else if sub == 5 && u < 64 then rowsBur (u - 0)
  else if sub == 5 && u == 64 then rowsSched (u - 64)
  else if sub == 5 && u == 65 then rowsAdm (u - 65)
  else if sub == 6 && u < 16 then rowsTdm (u - 0)
  else if sub == 7 && u < 8 then rowsPdm (u - 0)
  else if sub == 8 && u < 8 then rowsAmp (u - 0)
  else if sub == 8 && u == 8 then rowsProt (u - 8)
  else if sub == 8 && u == 9 then rowsDiag (u - 9)
  else if sub == 9 && u == 0 then rowsDdr (u - 0)
  else if sub == 9 && u == 1 then rowsRm (u - 1)
  else if sub == 9 && u == 2 then rowsPost (u - 2)
  else if sub == 10 && u == 0 then rowsLink (u - 0)
  else if sub == 10 && u == 1 then rowsRole (u - 1)
  else if sub == 10 && u == 2 then rowsDig (u - 2)
  else if sub == 11 && u == 0 then rowsMon (u - 0)
  else if sub == 11 && u == 1 then rowsCal (u - 1)
  else if sub == 12 && u < 16 then rowsEvt (u - 0)
  else if sub == 13 && u == 0 then rowsHst (u - 0)
  else if sub == 13 && u == 1 then rowsSpi (u - 1)
  else if sub == 13 && u == 2 then rowsUart (u - 2)
  else if sub == 14 && u == 0 then rowsPwr (u - 0)
  else if sub == 14 && u == 1 then rowsWk (u - 1)
  else if sub == 14 && u == 2 then rowsSup (u - 2)
  else []

namespace F

/-! Fields of MGT (R2, R72, R77). -/
def MGT_CHIP_ID : Fld := ⟨0x00000000, 0, 32⟩
def MGT_PARITY_ADDR_ADDR : Fld := ⟨0x00000020, 0, 26⟩
def MGT_PARITY_ADDR_VALID : Fld := ⟨0x00000020, 31, 1⟩
def MGT_BUS_ERR_ADDR_ADDR : Fld := ⟨0x00000024, 0, 32⟩
def MGT_BUS_ERR_INFO_ORIGIN : Fld := ⟨0x00000028, 0, 8⟩
def MGT_BUS_ERR_INFO_CAUSE : Fld := ⟨0x00000028, 8, 3⟩
def MGT_BUS_ERR_INFO_COUNT : Fld := ⟨0x00000028, 16, 15⟩
def MGT_BUS_ERR_INFO_VALID : Fld := ⟨0x00000028, 31, 1⟩
def MGT_REC_CLR_PARITY_CLR : Fld := ⟨0x0000002C, 0, 1⟩
def MGT_REC_CLR_BUS_ERR_CLR : Fld := ⟨0x0000002C, 1, 1⟩

/-! Fields of CAR (R49, R55). -/
def CAR_CTL_EN : Fld := ⟨0x00010000, 0, 1⟩
def CAR_CTL_NET_PORTS : Fld := ⟨0x00010000, 1, 4⟩
def CAR_CTL_NET_OPEN : Fld := ⟨0x00010000, 5, 1⟩
def CAR_NET_PORT_UDP_PORT : Fld := ⟨0x00010004, 0, 16⟩
def CAR_LONG_OP_OP : Fld := ⟨0x00010008, 0, 8⟩
def CAR_LONG_OP_CARRIER : Fld := ⟨0x00010008, 8, 8⟩
def CAR_LONG_OP_ELAPSED : Fld := ⟨0x00010008, 16, 16⟩
def CAR_RX_OK (i : Nat) : Fld := ⟨0x00010040 + i * 16, 0, 32⟩
def CAR_ERR (i : Nat) : Fld := ⟨0x00010044 + i * 16, 0, 32⟩
def CAR_BUSY_REJ (i : Nat) : Fld := ⟨0x00010048 + i * 16, 0, 32⟩
def CAR_DISCARD (i : Nat) : Fld := ⟨0x0001004C + i * 16, 0, 32⟩

/-! Fields of MBX (R44). -/
def MBX_CTL_EN : Fld := ⟨0x00022000, 0, 1⟩
def MBX_CTL_REPLY_VEC : Fld := ⟨0x00022000, 1, 5⟩
def MBX_CTL_REPLY_MSI : Fld := ⟨0x00022000, 6, 1⟩
def MBX_DOORBELL_LEN : Fld := ⟨0x00022004, 0, 13⟩
def MBX_STATUS_SLOT_FULL : Fld := ⟨0x00022008, 0, 1⟩
def MBX_STATUS_EXECUTING : Fld := ⟨0x00022008, 1, 1⟩
def MBX_STATUS_REPLY_READY : Fld := ⟨0x00022008, 2, 1⟩
def MBX_STATUS_REPLY_OVW : Fld := ⟨0x00022008, 3, 1⟩
def MBX_STATUS_LONG_BUSY : Fld := ⟨0x00022008, 4, 1⟩
def MBX_REPLY_LEN_LEN : Fld := ⟨0x0002200C, 0, 13⟩

/-! Fields of NVS (R107). -/
def NVS_CTL_EN : Fld := ⟨0x00030000, 0, 1⟩
def NVS_CTL_STORE_LOCK : Fld := ⟨0x00030000, 1, 1⟩
def NVS_GEN_A_GEN : Fld := ⟨0x00030004, 0, 32⟩
def NVS_GEN_B_GEN : Fld := ⟨0x00030008, 0, 32⟩
def NVS_RUN_GEN_GEN : Fld := ⟨0x0003000C, 0, 32⟩
def NVS_BANKS_A_VALID : Fld := ⟨0x00030010, 0, 1⟩
def NVS_BANKS_B_VALID : Fld := ⟨0x00030010, 1, 1⟩
def NVS_BANKS_FACT_VALID : Fld := ⟨0x00030010, 2, 1⟩
def NVS_BANKS_SOURCE : Fld := ⟨0x00030010, 3, 2⟩
def NVS_BANKS_MODIFIED : Fld := ⟨0x00030010, 5, 1⟩
def NVS_WEAR_A_STORES : Fld := ⟨0x00030014, 0, 32⟩
def NVS_WEAR_B_STORES : Fld := ⟨0x00030018, 0, 32⟩

/-! Fields of LOG (R99). -/
def LOG_CTL_EN : Fld := ⟨0x00040000, 0, 1⟩
def LOG_NEWEST_SEQ : Fld := ⟨0x00040004, 0, 32⟩
def LOG_COMMITTED_SEQ : Fld := ⟨0x00040008, 0, 32⟩
def LOG_OLDEST_SEQ : Fld := ⟨0x0004000C, 0, 32⟩
def LOG_STATUS_UNCOMMITTED : Fld := ⟨0x00040010, 0, 13⟩
def LOG_STATUS_COMMITTING : Fld := ⟨0x00040010, 13, 1⟩
def LOG_STATUS_PFW_COMMIT : Fld := ⟨0x00040010, 14, 1⟩
def LOG_STATUS_LOST : Fld := ⟨0x00040010, 16, 16⟩
def LOG_BOOT_BAD_CRC : Fld := ⟨0x00040014, 0, 16⟩

/-! Fields of TB (R132). -/
def TB_CTL_EN : Fld := ⟨0x00400000, 0, 1⟩
def TB_CTL_TOD_SRC : Fld := ⟨0x00400000, 1, 2⟩
def TB_CTL_ASYM_TRACK : Fld := ⟨0x00400000, 3, 1⟩
def TB_CTL_ASYM_TAU : Fld := ⟨0x00400000, 4, 2⟩
def TB_CTL_ASYM_LIMIT : Fld := ⟨0x00400000, 6, 3⟩
def TB_CTL_SLEW : Fld := ⟨0x00400000, 9, 2⟩
def TB_CTL_ASYM_CLR : Fld := ⟨0x00400000, 11, 1⟩
def TB_STATUS_SET : Fld := ⟨0x00400004, 0, 1⟩
def TB_STATUS_TOD_ACT : Fld := ⟨0x00400004, 1, 2⟩
def TB_STATUS_UTC_VALID : Fld := ⟨0x00400004, 3, 1⟩
def TB_STATUS_LEAP61 : Fld := ⟨0x00400004, 4, 1⟩
def TB_STATUS_LEAP59 : Fld := ⟨0x00400004, 5, 1⟩
def TB_STATUS_ASYM_ACTIVE : Fld := ⟨0x00400004, 6, 1⟩
def TB_STATUS_ASYM_AT_LIMIT : Fld := ⟨0x00400004, 7, 1⟩
def TB_STATUS_PLL_SOURCE : Fld := ⟨0x00400004, 8, 1⟩
def TB_STATUS_UTC_OFFSET : Fld := ⟨0x00400004, 16, 16⟩
def TB_LOAD (w : Nat) : Fld := ⟨0x00400010 + w * 4, 0, 16⟩
def TB_LAST_STEP_LO : Fld := ⟨0x00400030, 0, 32⟩
def TB_LAST_STEP_HI : Fld := ⟨0x00400034, 0, 32⟩
def TB_STEP_COUNT : Fld := ⟨0x00400038, 0, 16⟩
def TB_ASYM_EST : Fld := ⟨0x0040003C, 0, 32⟩
def TB_SNAP_A_VALID : Fld := ⟨0x00400040, 0, 1⟩
def TB_SNAP_B_VALID : Fld := ⟨0x00400040, 1, 1⟩
def TB_SNAP_SET : Fld := ⟨0x00400040, 2, 1⟩
def TB_SNAP_COUNT : Fld := ⟨0x00400040, 16, 16⟩
def TB_SNAP_TB (w : Nat) : Fld := ⟨0x00400044 + w * 4, 0, 16⟩
def TB_SNAP_A (w : Nat) : Fld := ⟨0x00400060 + w * 4, 0, 16⟩
def TB_SNAP_B (w : Nat) : Fld := ⟨0x0040007C + w * 4, 0, 16⟩
def TB_SNAP_AO (i : Nat) : Fld := ⟨0x00400098 + i * 4, 0, 16⟩

/-! Fields of D (R133). -/
def D_CTL_EN (n : Nat) : Fld := ⟨0x00410000 + n * 0x10000, 0, 1⟩
def D_CTL_PORT (n : Nat) : Fld := ⟨0x00410000 + n * 0x10000, 1, 2⟩
def D_CTL_PROFILE (n : Nat) : Fld := ⟨0x00410000 + n * 0x10000, 3, 3⟩
def D_CTL_DELAY (n : Nat) : Fld := ⟨0x00410000 + n * 0x10000, 6, 1⟩
def D_CTL_TRANSPORT (n : Nat) : Fld := ⟨0x00410000 + n * 0x10000, 7, 2⟩
def D_CTL_SLAVE_ONLY (n : Nat) : Fld := ⟨0x00410000 + n * 0x10000, 9, 1⟩
def D_CTL_STEP_POLICY (n : Nat) : Fld := ⟨0x00410000 + n * 0x10000, 10, 2⟩
def D_ID_DOMAIN_NUM (n : Nat) : Fld := ⟨0x00410004 + n * 0x10000, 0, 8⟩
def D_ID_DSCP (n : Nat) : Fld := ⟨0x00410004 + n * 0x10000, 8, 6⟩
def D_PRIO_PRIORITY1 (n : Nat) : Fld := ⟨0x00410008 + n * 0x10000, 0, 8⟩
def D_PRIO_PRIORITY2 (n : Nat) : Fld := ⟨0x00410008 + n * 0x10000, 8, 8⟩
def D_QUAL_CLOCK_CLASS (n : Nat) : Fld := ⟨0x0041000C + n * 0x10000, 0, 8⟩
def D_QUAL_CLOCK_ACCURACY (n : Nat) : Fld := ⟨0x0041000C + n * 0x10000, 8, 8⟩
def D_INTERVAL_LOG_SYNC (n : Nat) : Fld := ⟨0x00410010 + n * 0x10000, 0, 4⟩
def D_INTERVAL_LOG_ANNOUNCE (n : Nat) : Fld := ⟨0x00410010 + n * 0x10000, 4, 4⟩
def D_INTERVAL_LOG_DELAY (n : Nat) : Fld := ⟨0x00410010 + n * 0x10000, 8, 4⟩
def D_INTERVAL_ANN_TIMEOUT (n : Nat) : Fld := ⟨0x00410010 + n * 0x10000, 12, 4⟩
def D_SERVO_OFFSET_FILT (n : Nat) : Fld := ⟨0x00410014 + n * 0x10000, 0, 3⟩
def D_SERVO_DELAY_FILT (n : Nat) : Fld := ⟨0x00410014 + n * 0x10000, 3, 3⟩
def D_SERVO_STEP_THRESH (n : Nat) : Fld := ⟨0x00410014 + n * 0x10000, 6, 4⟩
def D_SERVO_LOCK_THRESH (n : Nat) : Fld := ⟨0x00410014 + n * 0x10000, 10, 2⟩
def D_STATE_PORT (n : Nat) : Fld := ⟨0x00410020 + n * 0x10000, 0, 4⟩
def D_STATE_SERVO (n : Nat) : Fld := ⟨0x00410020 + n * 0x10000, 4, 3⟩
def D_STATE_TOD (n : Nat) : Fld := ⟨0x00410020 + n * 0x10000, 7, 1⟩
def D_STATE_SAME_GM (n : Nat) : Fld := ⟨0x00410020 + n * 0x10000, 8, 1⟩
def D_STATE_STEPS_REMOVED (n : Nat) : Fld := ⟨0x00410020 + n * 0x10000, 16, 16⟩
def D_GM_ID_LO (n : Nat) : Fld := ⟨0x00410024 + n * 0x10000, 0, 32⟩
def D_GM_ID_HI (n : Nat) : Fld := ⟨0x00410028 + n * 0x10000, 0, 32⟩
def D_GM_QUAL_CLASS (n : Nat) : Fld := ⟨0x0041002C + n * 0x10000, 0, 8⟩
def D_GM_QUAL_ACCURACY (n : Nat) : Fld := ⟨0x0041002C + n * 0x10000, 8, 8⟩
def D_GM_QUAL_PRIORITY1 (n : Nat) : Fld := ⟨0x0041002C + n * 0x10000, 16, 8⟩
def D_GM_QUAL_PRIORITY2 (n : Nat) : Fld := ⟨0x0041002C + n * 0x10000, 24, 8⟩
def D_OFFSET_LO (n : Nat) : Fld := ⟨0x00410030 + n * 0x10000, 0, 32⟩
def D_OFFSET_HI (n : Nat) : Fld := ⟨0x00410034 + n * 0x10000, 0, 32⟩
def D_MPD (n : Nat) : Fld := ⟨0x00410038 + n * 0x10000, 0, 32⟩
def D_ASYM_ADJ (n : Nat) : Fld := ⟨0x0041003C + n * 0x10000, 0, 16⟩
def D_SYNC_RX (n : Nat) : Fld := ⟨0x00410050 + n * 0x10000, 0, 32⟩
def D_ANN_RX (n : Nat) : Fld := ⟨0x00410054 + n * 0x10000, 0, 32⟩
def D_FU_MISS (n : Nat) : Fld := ⟨0x00410058 + n * 0x10000, 0, 16⟩
def D_DLY_MISS (n : Nat) : Fld := ⟨0x00410058 + n * 0x10000, 16, 16⟩
def D_OUTLIERS (n : Nat) : Fld := ⟨0x0041005C + n * 0x10000, 0, 16⟩
def D_DISCARDED (n : Nat) : Fld := ⟨0x0041005C + n * 0x10000, 16, 16⟩

/-! Fields of TSU (R143). -/
def TSU_CTL_EN (n : Nat) : Fld := ⟨0x00440000 + n * 0x10000, 0, 1⟩
def TSU_CTL_EXT_PHY (n : Nat) : Fld := ⟨0x00440000 + n * 0x10000, 1, 1⟩
def TSU_CTL_MIRROR_PTP (n : Nat) : Fld := ⟨0x00440000 + n * 0x10000, 2, 1⟩
def TSU_INT_ING (n : Nat) : Fld := ⟨0x00440004 + n * 0x10000, 0, 32⟩
def TSU_INT_EGR (n : Nat) : Fld := ⟨0x00440008 + n * 0x10000, 0, 32⟩
def TSU_PHY_ING_LO (n i : Nat) : Fld := ⟨0x00440010 + n * 0x10000 + i * 16, 0, 16⟩
def TSU_PHY_ING_HI (n i : Nat) : Fld := ⟨0x00440014 + n * 0x10000 + i * 16, 0, 16⟩
def TSU_PHY_EGR_LO (n i : Nat) : Fld := ⟨0x00440018 + n * 0x10000 + i * 16, 0, 16⟩
def TSU_PHY_EGR_HI (n i : Nat) : Fld := ⟨0x0044001C + n * 0x10000 + i * 16, 0, 16⟩
def TSU_ASYM_LO (n : Nat) : Fld := ⟨0x00440050 + n * 0x10000, 0, 16⟩
def TSU_ASYM_HI (n : Nat) : Fld := ⟨0x00440054 + n * 0x10000, 0, 16⟩
def TSU_EFF_ING (n : Nat) : Fld := ⟨0x00440058 + n * 0x10000, 0, 32⟩
def TSU_EFF_EGR (n : Nat) : Fld := ⟨0x0044005C + n * 0x10000, 0, 32⟩
def TSU_Q_STATUS_LEVEL (n : Nat) : Fld := ⟨0x00440060 + n * 0x10000, 0, 5⟩
def TSU_Q_STATUS_LOST (n : Nat) : Fld := ⟨0x00440060 + n * 0x10000, 16, 16⟩
def TSU_TTQ_STATUS_LEVEL (n : Nat) : Fld := ⟨0x00440064 + n * 0x10000, 0, 7⟩
def TSU_TTQ_STATUS_LATE (n : Nat) : Fld := ⟨0x00440064 + n * 0x10000, 16, 16⟩
def TSU_ENT_0_ID (n : Nat) : Fld := ⟨0x00440070 + n * 0x10000, 0, 16⟩
def TSU_ENT_0_MSGTYPE (n : Nat) : Fld := ⟨0x00440070 + n * 0x10000, 16, 4⟩
def TSU_ENT_0_KIND (n : Nat) : Fld := ⟨0x00440070 + n * 0x10000, 20, 1⟩
def TSU_ENT_0_LATE (n : Nat) : Fld := ⟨0x00440070 + n * 0x10000, 21, 1⟩
def TSU_ENT_0_LOSS (n : Nat) : Fld := ⟨0x00440070 + n * 0x10000, 22, 1⟩
def TSU_ENT_0_VALID (n : Nat) : Fld := ⟨0x00440070 + n * 0x10000, 23, 1⟩
def TSU_ENT_1_LOST_BEFORE (n : Nat) : Fld := ⟨0x00440074 + n * 0x10000, 0, 16⟩
def TSU_ENT_1_FRAC (n : Nat) : Fld := ⟨0x00440074 + n * 0x10000, 16, 16⟩
def TSU_ENT_2_NS (n : Nat) : Fld := ⟨0x00440078 + n * 0x10000, 0, 32⟩
def TSU_ENT_3_SEC_LO (n : Nat) : Fld := ⟨0x0044007C + n * 0x10000, 0, 32⟩
def TSU_ENT_4_SEC_HI (n : Nat) : Fld := ⟨0x00440080 + n * 0x10000, 0, 32⟩

/-! Fields of CC (R154). -/
def CC_CTL_EN (n : Nat) : Fld := ⟨0x00480000 + n * 0x10000, 0, 1⟩
def CC_CTL_GPIO (n : Nat) : Fld := ⟨0x00480000 + n * 0x10000, 1, 5⟩
def CC_CTL_POL (n : Nat) : Fld := ⟨0x00480000 + n * 0x10000, 6, 1⟩
def CC_CTL_EV_TRG (n : Nat) : Fld := ⟨0x00480000 + n * 0x10000, 7, 6⟩
def CC_PERIOD_LO (n : Nat) : Fld := ⟨0x00480004 + n * 0x10000, 0, 16⟩
def CC_PERIOD_HI (n : Nat) : Fld := ⟨0x00480008 + n * 0x10000, 0, 16⟩
def CC_PHASE_LO (n : Nat) : Fld := ⟨0x0048000C + n * 0x10000, 0, 16⟩
def CC_PHASE_HI (n : Nat) : Fld := ⟨0x00480010 + n * 0x10000, 0, 16⟩
def CC_WIDTH (n : Nat) : Fld := ⟨0x00480014 + n * 0x10000, 0, 16⟩
def CC_STATUS_RUNNING (n : Nat) : Fld := ⟨0x00480018 + n * 0x10000, 0, 1⟩
def CC_STATUS_MISALIGNED (n : Nat) : Fld := ⟨0x00480018 + n * 0x10000, 1, 1⟩
def CC_PULSES (n : Nat) : Fld := ⟨0x0048001C + n * 0x10000, 0, 32⟩

/-! Fields of TRG (R152). -/
def TRG_CTL_EN (n : Nat) : Fld := ⟨0x00600000 + n * 0x10000, 0, 1⟩
def TRG_CTL_ACTION (n : Nat) : Fld := ⟨0x00600000 + n * 0x10000, 1, 2⟩
def TRG_TARGET_LO (n : Nat) : Fld := ⟨0x00600004 + n * 0x10000, 0, 16⟩
def TRG_TARGET_HI (n : Nat) : Fld := ⟨0x00600008 + n * 0x10000, 0, 16⟩
def TRG_LATE_WIN (n : Nat) : Fld := ⟨0x0060000C + n * 0x10000, 0, 16⟩
def TRG_TIME (n w : Nat) : Fld := ⟨0x00600010 + n * 0x10000 + w * 4, 0, 16⟩
def TRG_ARM (n : Nat) : Fld := ⟨0x0060002C + n * 0x10000, 0, 1⟩
def TRG_ARM_DISARM (n : Nat) : Fld := ⟨0x0060002C + n * 0x10000, 1, 1⟩
def TRG_STATUS_STATE (n : Nat) : Fld := ⟨0x00600030 + n * 0x10000, 0, 2⟩
def TRG_STATUS_LAST_LATE (n : Nat) : Fld := ⟨0x00600030 + n * 0x10000, 2, 1⟩
def TRG_STATUS_LAST_NOP (n : Nat) : Fld := ⟨0x00600030 + n * 0x10000, 3, 1⟩
def TRG_STATUS_RESULT (n : Nat) : Fld := ⟨0x00600030 + n * 0x10000, 4, 4⟩
def TRG_FIRED (n w : Nat) : Fld := ⟨0x00600040 + n * 0x10000 + w * 4, 0, 16⟩
def TRG_COUNT_FIRES (n : Nat) : Fld := ⟨0x0060005C + n * 0x10000, 0, 16⟩
def TRG_COUNT_LATE (n : Nat) : Fld := ⟨0x0060005C + n * 0x10000, 16, 16⟩

/-! Fields of REF (R182). -/
def REF_CTL_EN (n : Nat) : Fld := ⟨0x00800000 + n * 0x10000, 0, 1⟩
def REF_CTL_PRIORITY (n : Nat) : Fld := ⟨0x00800000 + n * 0x10000, 1, 4⟩
def REF_CTL_QUAL_CFG (n : Nat) : Fld := ⟨0x00800000 + n * 0x10000, 5, 4⟩
def REF_CTL_QUAL_TIME (n : Nat) : Fld := ⟨0x00800000 + n * 0x10000, 9, 3⟩
def REF_CTL_ESMC (n : Nat) : Fld := ⟨0x00800000 + n * 0x10000, 12, 1⟩
def REF_LIMITS_SOFT_FREQ (n : Nat) : Fld := ⟨0x00800004 + n * 0x10000, 0, 2⟩
def REF_LIMITS_SOFT_DRIFT (n : Nat) : Fld := ⟨0x00800004 + n * 0x10000, 2, 2⟩
def REF_LIMITS_HARD (n : Nat) : Fld := ⟨0x00800004 + n * 0x10000, 4, 2⟩
def REF_LIMITS_DWELL (n : Nat) : Fld := ⟨0x00800004 + n * 0x10000, 6, 2⟩
def REF_LIMITS_CLEAR (n : Nat) : Fld := ⟨0x00800004 + n * 0x10000, 8, 2⟩
def REF_WCK_RATE (n : Nat) : Fld := ⟨0x00800008 + n * 0x10000, 0, 3⟩
def REF_WCK_EDGE (n : Nat) : Fld := ⟨0x00800008 + n * 0x10000, 3, 1⟩
def REF_STATUS_STATE (n : Nat) : Fld := ⟨0x00800010 + n * 0x10000, 0, 3⟩
def REF_STATUS_QUALITY (n : Nat) : Fld := ⟨0x00800010 + n * 0x10000, 3, 4⟩
def REF_STATUS_CONS_MEMBER (n : Nat) : Fld := ⟨0x00800010 + n * 0x10000, 7, 1⟩
def REF_STATUS_LAST_CAUSE (n : Nat) : Fld := ⟨0x00800010 + n * 0x10000, 8, 3⟩
def REF_STATUS_QUAL_REMAIN (n : Nat) : Fld := ⟨0x00800010 + n * 0x10000, 16, 16⟩
def REF_FFO_XO (n : Nat) : Fld := ⟨0x00800014 + n * 0x10000, 0, 32⟩
def REF_FFO_DCO (n : Nat) : Fld := ⟨0x00800018 + n * 0x10000, 0, 32⟩
def REF_FFO_CONS (n : Nat) : Fld := ⟨0x0080001C + n * 0x10000, 0, 32⟩
def REF_DRIFT (n : Nat) : Fld := ⟨0x00800020 + n * 0x10000, 0, 32⟩
def REF_PHASE (n : Nat) : Fld := ⟨0x00800024 + n * 0x10000, 0, 32⟩
def REF_HIST_FAILED (n : Nat) : Fld := ⟨0x00800028 + n * 0x10000, 0, 1⟩
def REF_HIST_QUALIFIED (n : Nat) : Fld := ⟨0x00800028 + n * 0x10000, 1, 1⟩
def REF_HIST_SUSPECT (n : Nat) : Fld := ⟨0x00800028 + n * 0x10000, 2, 1⟩
def REF_HIST_DISQUALIFIED (n : Nat) : Fld := ⟨0x00800028 + n * 0x10000, 3, 1⟩
def REF_HIST_GLITCH (n : Nat) : Fld := ⟨0x00800028 + n * 0x10000, 4, 1⟩
def REF_HIST_RATE (n : Nat) : Fld := ⟨0x00800028 + n * 0x10000, 5, 1⟩
def REF_HIST_ACTIVE (n : Nat) : Fld := ⟨0x00800028 + n * 0x10000, 6, 1⟩
def REF_HIST_INELIGIBLE (n : Nat) : Fld := ⟨0x00800028 + n * 0x10000, 7, 1⟩
def REF_GLITCH_CNT (n : Nat) : Fld := ⟨0x0080002C + n * 0x10000, 0, 16⟩
def REF_FAIL_CNT (n : Nat) : Fld := ⟨0x0080002C + n * 0x10000, 16, 16⟩
def REF_WCK_MEAS (n : Nat) : Fld := ⟨0x00800030 + n * 0x10000, 0, 32⟩

/-! Fields of SEL (R183). -/
def SEL_CTL_EN : Fld := ⟨0x00880000, 0, 1⟩
def SEL_CTL_MODE : Fld := ⟨0x00880000, 1, 2⟩
def SEL_CTL_REVERTIVE : Fld := ⟨0x00880000, 3, 1⟩
def SEL_CTL_FORCE_REF : Fld := ⟨0x00880000, 4, 3⟩
def SEL_CTL_HOLDOFF : Fld := ⟨0x00880000, 7, 2⟩
def SEL_CTL_WTR : Fld := ⟨0x00880000, 9, 2⟩
def SEL_STATUS_SEL_REF : Fld := ⟨0x00880004, 0, 3⟩
def SEL_STATUS_TARGET : Fld := ⟨0x00880004, 3, 3⟩
def SEL_STATUS_PHASE : Fld := ⟨0x00880004, 6, 3⟩
def SEL_STATUS_EFF : Fld := ⟨0x00880004, 9, 2⟩
def SEL_STATUS_HOLDOFF_REMAIN : Fld := ⟨0x00880004, 16, 16⟩
def SEL_LAST : Fld := ⟨0x00880008, 0, 32⟩
def SEL_RESID : Fld := ⟨0x0088000C, 0, 32⟩
def SEL_COUNT_SWITCHES : Fld := ⟨0x00880010, 0, 16⟩
def SEL_COUNT_ABANDONS : Fld := ⟨0x00880010, 16, 16⟩
def SEL_CONSENSUS : Fld := ⟨0x00880014, 0, 32⟩
def SEL_CONS_N_COUNT : Fld := ⟨0x00880018, 0, 4⟩
def SEL_CONS_N_MASK : Fld := ⟨0x00880018, 8, 7⟩

/-! Fields of LOOP (R195, R202). -/
def LOOP_CTL_EN : Fld := ⟨0x00890000, 0, 1⟩
def LOOP_CTL_BW_PTP : Fld := ⟨0x00890000, 1, 4⟩
def LOOP_CTL_BW_SYNCE : Fld := ⟨0x00890000, 5, 4⟩
def LOOP_CTL_BW_WCK : Fld := ⟨0x00890000, 9, 4⟩
def LOOP_BW1_BW_PPS : Fld := ⟨0x00890004, 0, 4⟩
def LOOP_BW1_BW_PAIR : Fld := ⟨0x00890004, 4, 4⟩
def LOOP_MAN_MANUAL : Fld := ⟨0x00890008, 0, 1⟩
def LOOP_MEDIA_FAMILY_NEXT : Fld := ⟨0x0089000C, 0, 1⟩
def LOOP_MEDIA_FAMILY : Fld := ⟨0x0089000C, 1, 1⟩
def LOOP_MEDIA_REFXO : Fld := ⟨0x0089000C, 2, 1⟩
def LOOP_STATUS_MODE : Fld := ⟨0x00890010, 0, 3⟩
def LOOP_STATUS_PLL_LOCK : Fld := ⟨0x00890010, 3, 1⟩
def LOOP_STATUS_DCO_SAT : Fld := ⟨0x00890010, 4, 1⟩
def LOOP_STATUS_REF : Fld := ⟨0x00890010, 5, 3⟩
def LOOP_STATUS_BW_EFF : Fld := ⟨0x00890010, 8, 4⟩
def LOOP_OUT : Fld := ⟨0x00890014, 0, 32⟩
def LOOP_DCO_FREQ : Fld := ⟨0x00890018, 0, 32⟩
def LOOP_PHASE_ERR : Fld := ⟨0x0089001C, 0, 32⟩
def LOOP_COUNT_HOLDOVERS : Fld := ⟨0x00890020, 0, 16⟩
def LOOP_COUNT_UNLOCKS : Fld := ⟨0x00890020, 16, 16⟩
def LOOP_STEER_LO : Fld := ⟨0x00890040, 0, 16⟩
def LOOP_STEER_HI : Fld := ⟨0x00890044, 0, 16⟩

/-! Fields of HOLD (R203). -/
def HOLD_CTL_EN : Fld := ⟨0x008A0000, 0, 1⟩
def HOLD_CTL_HO_MODE : Fld := ⟨0x008A0000, 1, 2⟩
def HOLD_CTL_WINDOW : Fld := ⟨0x008A0000, 3, 3⟩
def HOLD_CTL_HO_LIMIT : Fld := ⟨0x008A0000, 6, 3⟩
def HOLD_AGE_OVR : Fld := ⟨0x008A0004, 0, 16⟩
def HOLD_SLOPE_OVR : Fld := ⟨0x008A0008, 0, 16⟩
def HOLD_OVR_EN_AGE : Fld := ⟨0x008A000C, 0, 1⟩
def HOLD_OVR_EN_SLOPE : Fld := ⟨0x008A000C, 1, 1⟩
def HOLD_HO_STATUS_FROZEN : Fld := ⟨0x008A0020, 0, 1⟩
def HOLD_HO_STATUS_SHORT : Fld := ⟨0x008A0020, 1, 1⟩
def HOLD_HO_STATUS_OUT_OF_SPEC : Fld := ⟨0x008A0020, 2, 1⟩
def HOLD_HO_STATUS_HIST_S : Fld := ⟨0x008A0020, 16, 16⟩
def HOLD_FREQ : Fld := ⟨0x008A0024, 0, 32⟩
def HOLD_F0 : Fld := ⟨0x008A0028, 0, 32⟩
def HOLD_AGE_USED : Fld := ⟨0x008A002C, 0, 16⟩
def HOLD_SLOPE_USED : Fld := ⟨0x008A002C, 16, 16⟩
def HOLD_HO_ELAPSED : Fld := ⟨0x008A0030, 0, 32⟩
def HOLD_PRED_ERR : Fld := ⟨0x008A0034, 0, 32⟩

/-! Fields of OUT (R204). -/
def OUT_CTL_EN : Fld := ⟨0x008B0000, 0, 1⟩
def OUT_CTL_PPS_EN : Fld := ⟨0x008B0000, 1, 1⟩
def OUT_CTL_WCK0_EN : Fld := ⟨0x008B0000, 2, 1⟩
def OUT_CTL_WCK1_EN : Fld := ⟨0x008B0000, 3, 1⟩
def OUT_CTL_WCK0_RATE : Fld := ⟨0x008B0000, 4, 2⟩
def OUT_CTL_WCK1_RATE : Fld := ⟨0x008B0000, 6, 2⟩
def OUT_CTL_PPS_WIDTH : Fld := ⟨0x008B0000, 8, 2⟩
def OUT_CTL_PPS_POL : Fld := ⟨0x008B0000, 10, 1⟩
def OUT_MIS_MASK : Fld := ⟨0x008B0004, 0, 5⟩
def OUT_MIS_ALIGN_PEND : Fld := ⟨0x008B0004, 5, 1⟩
def OUT_ALIGN_SEC_LO : Fld := ⟨0x008B0008, 0, 32⟩
def OUT_ALIGN_SEC_HI : Fld := ⟨0x008B000C, 0, 32⟩
def OUT_PPS_OFF : Fld := ⟨0x008B0010, 0, 32⟩
def OUT_ALIGN_CNT : Fld := ⟨0x008B0014, 0, 16⟩

/-! Fields of MAC (R228). -/
def MAC_CTL_EN (n : Nat) : Fld := ⟨0x00C00000 + n * 0x10000, 0, 1⟩
def MAC_CTL_MODE (n : Nat) : Fld := ⟨0x00C00000 + n * 0x10000, 1, 1⟩
def MAC_CTL_SPEED_MAX (n : Nat) : Fld := ⟨0x00C00000 + n * 0x10000, 2, 2⟩
def MAC_CTL_AUTO_STEP (n : Nat) : Fld := ⟨0x00C00000 + n * 0x10000, 4, 1⟩
def MAC_CTL_STEP_UNPROT (n : Nat) : Fld := ⟨0x00C00000 + n * 0x10000, 5, 1⟩
def MAC_CTL_PAUSE_EN (n : Nat) : Fld := ⟨0x00C00000 + n * 0x10000, 6, 1⟩
def MAC_CTL_PFC_EN (n : Nat) : Fld := ⟨0x00C00000 + n * 0x10000, 7, 1⟩
def MAC_CTL_LPI_EN (n : Nat) : Fld := ⟨0x00C00000 + n * 0x10000, 8, 1⟩
def MAC_MTU (n : Nat) : Fld := ⟨0x00C00004 + n * 0x10000, 0, 14⟩
def MAC_TX_START (n : Nat) : Fld := ⟨0x00C00008 + n * 0x10000, 0, 14⟩
def MAC_STATUS_LINK (n : Nat) : Fld := ⟨0x00C00010 + n * 0x10000, 0, 1⟩
def MAC_STATUS_SPEED (n : Nat) : Fld := ⟨0x00C00010 + n * 0x10000, 1, 2⟩
def MAC_STATUS_STEPPING (n : Nat) : Fld := ⟨0x00C00010 + n * 0x10000, 3, 1⟩
def MAC_STATUS_PAUSED_CTRL (n : Nat) : Fld := ⟨0x00C00010 + n * 0x10000, 4, 1⟩
def MAC_STATUS_PAUSED_BE (n : Nat) : Fld := ⟨0x00C00010 + n * 0x10000, 5, 1⟩
def MAC_STATUS_LPI_TX (n : Nat) : Fld := ⟨0x00C00010 + n * 0x10000, 6, 1⟩
def MAC_STATUS_LPI_RX (n : Nat) : Fld := ⟨0x00C00010 + n * 0x10000, 7, 1⟩
def MAC_STATUS_PROTECTED (n : Nat) : Fld := ⟨0x00C00010 + n * 0x10000, 8, 1⟩
def MAC_STATUS_UTIL (n : Nat) : Fld := ⟨0x00C00010 + n * 0x10000, 16, 16⟩
def MAC_ADDR_LO (n : Nat) : Fld := ⟨0x00C00014 + n * 0x10000, 0, 32⟩
def MAC_ADDR_HI (n : Nat) : Fld := ⟨0x00C00018 + n * 0x10000, 0, 16⟩
def MAC_TXR_BASE (n w : Nat) : Fld := ⟨0x00C00020 + n * 0x10000 + w * 4, 0, 16⟩
def MAC_TXR_CFG_SIZE (n : Nat) : Fld := ⟨0x00C00030 + n * 0x10000, 0, 4⟩
def MAC_TXR_CFG_VEC (n : Nat) : Fld := ⟨0x00C00030 + n * 0x10000, 4, 5⟩
def MAC_TXR_CFG_MSI (n : Nat) : Fld := ⟨0x00C00030 + n * 0x10000, 9, 1⟩
def MAC_TXR_CFG_RING_EN (n : Nat) : Fld := ⟨0x00C00030 + n * 0x10000, 10, 1⟩
def MAC_TXR_PROD (n : Nat) : Fld := ⟨0x00C00034 + n * 0x10000, 0, 12⟩
def MAC_TXR_CONS (n : Nat) : Fld := ⟨0x00C00038 + n * 0x10000, 0, 12⟩
def MAC_RXR_BASE (n w : Nat) : Fld := ⟨0x00C00040 + n * 0x10000 + w * 4, 0, 16⟩
def MAC_RXR_CFG_SIZE (n : Nat) : Fld := ⟨0x00C00050 + n * 0x10000, 0, 4⟩
def MAC_RXR_CFG_VEC (n : Nat) : Fld := ⟨0x00C00050 + n * 0x10000, 4, 5⟩
def MAC_RXR_CFG_MSI (n : Nat) : Fld := ⟨0x00C00050 + n * 0x10000, 9, 1⟩
def MAC_RXR_CFG_RING_EN (n : Nat) : Fld := ⟨0x00C00050 + n * 0x10000, 10, 1⟩
def MAC_RXR_PROD (n : Nat) : Fld := ⟨0x00C00054 + n * 0x10000, 0, 12⟩
def MAC_RXR_CONS (n : Nat) : Fld := ⟨0x00C00058 + n * 0x10000, 0, 12⟩
def MAC_RX_OK (n : Nat) : Fld := ⟨0x00C00080 + n * 0x10000, 0, 32⟩
def MAC_TX_OK (n : Nat) : Fld := ⟨0x00C00084 + n * 0x10000, 0, 32⟩
def MAC_FCS_ERR (n : Nat) : Fld := ⟨0x00C00088 + n * 0x10000, 0, 32⟩
def MAC_OVERSIZE (n : Nat) : Fld := ⟨0x00C0008C + n * 0x10000, 0, 32⟩
def MAC_FILTERED (n : Nat) : Fld := ⟨0x00C00090 + n * 0x10000, 0, 32⟩
def MAC_POST_DROP (n : Nat) : Fld := ⟨0x00C00094 + n * 0x10000, 0, 32⟩
def MAC_HOST_RX_DROP (n : Nat) : Fld := ⟨0x00C00098 + n * 0x10000, 0, 32⟩
def MAC_UNDERRUN (n : Nat) : Fld := ⟨0x00C0009C + n * 0x10000, 0, 16⟩
def MAC_PAUSE_RX (n : Nat) : Fld := ⟨0x00C0009C + n * 0x10000, 16, 16⟩
def MAC_EGRESS_DROP (n i : Nat) : Fld := ⟨0x00C000A0 + n * 0x10000 + i * 4, 0, 32⟩
def MAC_STEPS (n : Nat) : Fld := ⟨0x00C000B0 + n * 0x10000, 0, 16⟩
def MAC_STEP_FAIL (n : Nat) : Fld := ⟨0x00C000B0 + n * 0x10000, 16, 16⟩
def MAC_LINK_REFUSED (n : Nat) : Fld := ⟨0x00C000B4 + n * 0x10000, 0, 16⟩
def MAC_LPI_ENTRIES (n : Nat) : Fld := ⟨0x00C000B4 + n * 0x10000, 16, 16⟩

/-! Fields of POL (R229). -/
def POL_CTL_EN : Fld := ⟨0x00C40000, 0, 1⟩
def POL_RATE (i : Nat) : Fld := ⟨0x00C40100 + i * 16, 0, 16⟩
def POL_BURST (i : Nat) : Fld := ⟨0x00C40104 + i * 16, 0, 16⟩
def POL_DROPS (i : Nat) : Fld := ⟨0x00C40108 + i * 16, 0, 32⟩

/-! Fields of PHYM (R230). -/
def PHYM_CTL_EN : Fld := ⟨0x00C50000, 0, 1⟩
def PHYM_CTL_MDC : Fld := ⟨0x00C50000, 1, 2⟩
def PHYM_CTL_C45 : Fld := ⟨0x00C50000, 3, 4⟩
def PHYM_ADDR01_N0 : Fld := ⟨0x00C50004, 0, 5⟩
def PHYM_ADDR01_N1 : Fld := ⟨0x00C50004, 8, 5⟩
def PHYM_ADDR23_N2 : Fld := ⟨0x00C50008, 0, 5⟩
def PHYM_ADDR23_N3 : Fld := ⟨0x00C50008, 8, 5⟩
def PHYM_STATUS_TIMEOUTS : Fld := ⟨0x00C50010, 0, 16⟩
def PHYM_STATUS_BUSY : Fld := ⟨0x00C50010, 16, 1⟩

/-! Fields of RXT (R257). -/
def RXT_CTL_EN : Fld := ⟨0x01000000, 0, 1⟩
def RXT_CTL_SWAP : Fld := ⟨0x01000000, 1, 1⟩
def RXT_CTL_ACT_BANK : Fld := ⟨0x01000000, 2, 1⟩
def RXT_USED_UNITS : Fld := ⟨0x01000004, 0, 13⟩
def RXT_USED_ENTRIES : Fld := ⟨0x01000004, 16, 10⟩
def RXT_REAM_BYTES : Fld := ⟨0x01000008, 0, 32⟩
def RXT_SWAPS : Fld := ⟨0x0100000C, 0, 16⟩
def RXT_PAR_ENTRY_ENTRY : Fld := ⟨0x01000010, 0, 9⟩
def RXT_PAR_ENTRY_VALID : Fld := ⟨0x01000010, 15, 1⟩

/-! Fields of TXT (R279). -/
def TXT_CTL_EN : Fld := ⟨0x01010000, 0, 1⟩
def TXT_CTL_SWAP : Fld := ⟨0x01010000, 1, 1⟩
def TXT_CTL_ACT_BANK : Fld := ⟨0x01010000, 2, 1⟩
def TXT_CTL_ANN_EN : Fld := ⟨0x01010000, 3, 1⟩
def TXT_ANN_INTERVAL : Fld := ⟨0x01010004, 0, 2⟩
def TXT_ANN_PORTS : Fld := ⟨0x01010004, 2, 4⟩
def TXT_DEV_ID : Fld := ⟨0x01010008, 0, 16⟩
def TXT_ANN_GRP_LO : Fld := ⟨0x0101000C, 0, 16⟩
def TXT_ANN_GRP_HI : Fld := ⟨0x01010010, 0, 16⟩
def TXT_ANN_UDP : Fld := ⟨0x01010014, 0, 16⟩
def TXT_USED_UNITS : Fld := ⟨0x01010020, 0, 13⟩
def TXT_USED_ENTRIES : Fld := ⟨0x01010020, 16, 10⟩
def TXT_PACKETS : Fld := ⟨0x01010024, 0, 32⟩
def TXT_SWAPS : Fld := ⟨0x01010028, 0, 16⟩
def TXT_CONFLICTS : Fld := ⟨0x01010028, 16, 16⟩
def TXT_PAR_ENTRY_ENTRY : Fld := ⟨0x0101002C, 0, 9⟩
def TXT_PAR_ENTRY_VALID : Fld := ⟨0x0101002C, 15, 1⟩

/-! Fields of MRG (R258). -/
def MRG_CTL_EN : Fld := ⟨0x01020000, 0, 1⟩
def MRG_ACC (i : Nat) : Fld := ⟨0x01020010 + i * 4, 0, 32⟩
def MRG_DUP (i : Nat) : Fld := ⟨0x01020030 + i * 4, 0, 32⟩
def MRG_LATE : Fld := ⟨0x01020050, 0, 32⟩
def MRG_EARLY : Fld := ⟨0x01020054, 0, 32⟩
def MRG_FORMAT : Fld := ⟨0x01020058, 0, 32⟩
def MRG_SRC_MISMATCH : Fld := ⟨0x0102005C, 0, 32⟩
def MRG_NO_TIME : Fld := ⟨0x01020060, 0, 32⟩
def MRG_RESTARTS : Fld := ⟨0x01020064, 0, 16⟩
def MRG_INACTIVE : Fld := ⟨0x01020064, 16, 16⟩

/-! Fields of PLAY (R259). -/
def PLAY_CTL_EN : Fld := ⟨0x01030000, 0, 1⟩
def PLAY_CTL_MARGIN_WARN : Fld := ⟨0x01030000, 1, 3⟩
def PLAY_CONCEALED : Fld := ⟨0x01030010, 0, 32⟩
def PLAY_SKIPPED : Fld := ⟨0x01030014, 0, 32⟩
def PLAY_CH_CONCEAL (i : Nat) : Fld := ⟨0x01030400 + i * 4, 0, 16⟩

/-! Fields of FD (R260). -/
def FD_CTL_EN : Fld := ⟨0x01040000, 0, 1⟩
def FD_CFG_EN (i : Nat) : Fld := ⟨0x01040100 + i * 32, 0, 1⟩
def FD_CFG_BW (i : Nat) : Fld := ⟨0x01040100 + i * 32, 1, 3⟩
def FD_CFG_LOCK_WIN (i : Nat) : Fld := ⟨0x01040100 + i * 32, 4, 2⟩
def FD_STATUS_STATE (i : Nat) : Fld := ⟨0x01040104 + i * 32, 0, 3⟩
def FD_STATUS_CROSS (i : Nat) : Fld := ⟨0x01040104 + i * 32, 3, 1⟩
def FD_STATUS_LEAD (i : Nat) : Fld := ⟨0x01040104 + i * 32, 16, 10⟩
def FD_RATIO (i : Nat) : Fld := ⟨0x01040108 + i * 32, 0, 32⟩
def FD_ERR_RMS (i : Nat) : Fld := ⟨0x0104010C + i * 32, 0, 32⟩
def FD_BOUND (i : Nat) : Fld := ⟨0x01040110 + i * 32, 0, 10⟩
def FD_LOCKS (i : Nat) : Fld := ⟨0x01040114 + i * 32, 0, 16⟩
def FD_UNLOCKS (i : Nat) : Fld := ⟨0x01040114 + i * 32, 16, 16⟩

/-! Fields of BUR (R303). -/
def BUR_CTL_EN (n : Nat) : Fld := ⟨0x01400000 + n * 0x10000, 0, 1⟩
def BUR_STATUS_STATE (n : Nat) : Fld := ⟨0x01400004 + n * 0x10000, 0, 3⟩
def BUR_STATUS_GATED (n : Nat) : Fld := ⟨0x01400004 + n * 0x10000, 3, 1⟩
def BUR_STATUS_TRAY (n : Nat) : Fld := ⟨0x01400004 + n * 0x10000, 8, 7⟩
def BUR_STATUS_HOMED (n : Nat) : Fld := ⟨0x01400004 + n * 0x10000, 16, 5⟩
def BUR_COMMITTED (n : Nat) : Fld := ⟨0x01400008 + n * 0x10000, 0, 32⟩
def BUR_SHEETS_RUN (n : Nat) : Fld := ⟨0x0140000C + n * 0x10000, 0, 32⟩
def BUR_LIFTED_FROM (n : Nat) : Fld := ⟨0x01400010 + n * 0x10000, 0, 32⟩
def BUR_LIFTED_BY (n : Nat) : Fld := ⟨0x01400014 + n * 0x10000, 0, 32⟩
def BUR_BUSY_DEADLINE (n : Nat) : Fld := ⟨0x01400018 + n * 0x10000, 0, 16⟩
def BUR_BUSY_BACKING (n : Nat) : Fld := ⟨0x01400018 + n * 0x10000, 16, 16⟩
def BUR_ECC_SAMPLE (n : Nat) : Fld := ⟨0x0140001C + n * 0x10000, 0, 16⟩
def BUR_ECC_UCODE (n : Nat) : Fld := ⟨0x0140001C + n * 0x10000, 16, 16⟩
def BUR_TESTS_PASS (n : Nat) : Fld := ⟨0x01400020 + n * 0x10000, 0, 16⟩
def BUR_TESTS_FAIL (n : Nat) : Fld := ⟨0x01400020 + n * 0x10000, 16, 16⟩
def BUR_LAST_TEST (n : Nat) : Fld := ⟨0x01400024 + n * 0x10000, 0, 32⟩

/-! Fields of SCHED (R304, R326). -/
def SCHED_CTL_EN : Fld := ⟨0x01408000, 0, 1⟩
def SCHED_CTL_RING : Fld := ⟨0x01408000, 1, 2⟩
def SCHED_CTL_PROBES : Fld := ⟨0x01408000, 3, 3⟩
def SCHED_QDELAY_P99 : Fld := ⟨0x01408010, 0, 16⟩
def SCHED_QDELAY_MAX : Fld := ⟨0x01408010, 16, 16⟩
def SCHED_PEAK_QDELAY : Fld := ⟨0x01408014, 0, 16⟩
def SCHED_PEAK_COMPLETE : Fld := ⟨0x01408014, 16, 16⟩
def SCHED_MISSES : Fld := ⟨0x01408018, 0, 32⟩
def SCHED_LIFTS : Fld := ⟨0x0140801C, 0, 32⟩
def SCHED_STARVES : Fld := ⟨0x01408020, 0, 16⟩
def SCHED_SPILLS : Fld := ⟨0x01408020, 16, 16⟩
def SCHED_BACKING (i : Nat) : Fld := ⟨0x01408040 + i * 4, 0, 16⟩
def GRT_CTL_SWAP : Fld := ⟨0x01408100, 0, 1⟩
def GRT_CTL_ACT_BANK : Fld := ⟨0x01408100, 1, 1⟩
def GRT_USED_GRAPHS : Fld := ⟨0x01408104, 0, 9⟩
def GRT_XPOINTS : Fld := ⟨0x01408108, 0, 32⟩
def GRT_IMAGE_BYTES : Fld := ⟨0x0140810C, 0, 32⟩
def GRT_DELAY_BYTES : Fld := ⟨0x01408110, 0, 32⟩
def GRT_SWAPS : Fld := ⟨0x01408114, 0, 16⟩
def GRT_PAR_GRAPH_GRAPH : Fld := ⟨0x01408118, 0, 8⟩
def GRT_PAR_GRAPH_BANK : Fld := ⟨0x01408118, 8, 1⟩
def GRT_PAR_GRAPH_VALID : Fld := ⟨0x01408118, 15, 1⟩

/-! Fields of ADM (R305). -/
def ADM_CTL_EN : Fld := ⟨0x01418000, 0, 1⟩
def ADM_CTL_LOAD_HIGH : Fld := ⟨0x01418000, 1, 3⟩
def ADM_CAPACITY : Fld := ⟨0x01418010, 0, 32⟩
def ADM_DECKLE : Fld := ⟨0x01418014, 0, 32⟩
def ADM_COMMITTED : Fld := ⟨0x01418018, 0, 32⟩
def ADM_HEADROOM : Fld := ⟨0x0141801C, 0, 32⟩
def ADM_LOAD : Fld := ⟨0x01418020, 0, 16⟩
def ADM_IN_SERVICE : Fld := ⟨0x01418020, 16, 7⟩
def ADM_GATED : Fld := ⟨0x01418020, 24, 8⟩
def ADM_SHEETS : Fld := ⟨0x01418024, 0, 11⟩
def ADM_REFUSALS : Fld := ⟨0x01418028, 0, 32⟩

/-! Fields of TDM (R358). -/
def TDM_CTL_EN (n : Nat) : Fld := ⟨0x01800000 + n * 0x10000, 0, 1⟩
def TDM_CTL_MASTER (n : Nat) : Fld := ⟨0x01800000 + n * 0x10000, 1, 1⟩
def TDM_CTL_FORMAT (n : Nat) : Fld := ⟨0x01800000 + n * 0x10000, 2, 2⟩
def TDM_CTL_SLOTS (n : Nat) : Fld := ⟨0x01800000 + n * 0x10000, 4, 5⟩
def TDM_CTL_SLOT_W (n : Nat) : Fld := ⟨0x01800000 + n * 0x10000, 9, 2⟩
def TDM_CTL_RATE (n : Nat) : Fld := ⟨0x01800000 + n * 0x10000, 11, 2⟩
def TDM_CTL_SWAP (n : Nat) : Fld := ⟨0x01800000 + n * 0x10000, 13, 1⟩
def TDM_CTL_ACT_BANK (n : Nat) : Fld := ⟨0x01800000 + n * 0x10000, 14, 1⟩
def TDM_FMT_FS_WIDTH (n : Nat) : Fld := ⟨0x01800004 + n * 0x10000, 0, 2⟩
def TDM_FMT_FS_DELAY (n : Nat) : Fld := ⟨0x01800004 + n * 0x10000, 2, 1⟩
def TDM_FMT_FS_POL (n : Nat) : Fld := ⟨0x01800004 + n * 0x10000, 3, 1⟩
def TDM_FMT_BCLK_EDGE (n : Nat) : Fld := ⟨0x01800004 + n * 0x10000, 4, 1⟩
def TDM_FMT_TX_IDLE (n : Nat) : Fld := ⟨0x01800004 + n * 0x10000, 5, 1⟩
def TDM_FMT_BCLK_RUN (n : Nat) : Fld := ⟨0x01800004 + n * 0x10000, 6, 1⟩
def TDM_FMT_BUSSED (n : Nat) : Fld := ⟨0x01800004 + n * 0x10000, 7, 1⟩
def TDM_RX_MASK_A_LO (n : Nat) : Fld := ⟨0x01800010 + n * 0x10000, 0, 16⟩
def TDM_RX_MASK_A_HI (n : Nat) : Fld := ⟨0x01800014 + n * 0x10000, 0, 16⟩
def TDM_RX_MASK_B_LO (n : Nat) : Fld := ⟨0x01800018 + n * 0x10000, 0, 16⟩
def TDM_RX_MASK_B_HI (n : Nat) : Fld := ⟨0x0180001C + n * 0x10000, 0, 16⟩
def TDM_TX_MASK_A_LO (n : Nat) : Fld := ⟨0x01800020 + n * 0x10000, 0, 16⟩
def TDM_TX_MASK_A_HI (n : Nat) : Fld := ⟨0x01800024 + n * 0x10000, 0, 16⟩
def TDM_TX_MASK_B_LO (n : Nat) : Fld := ⟨0x01800028 + n * 0x10000, 0, 16⟩
def TDM_TX_MASK_B_HI (n : Nat) : Fld := ⟨0x0180002C + n * 0x10000, 0, 16⟩
def TDM_ZC_TO (n : Nat) : Fld := ⟨0x01800030 + n * 0x10000, 0, 8⟩
def TDM_STATUS_RUNNING (n : Nat) : Fld := ⟨0x01800040 + n * 0x10000, 0, 1⟩
def TDM_STATUS_CLK_OK (n : Nat) : Fld := ⟨0x01800040 + n * 0x10000, 1, 1⟩
def TDM_STATUS_BUS_DRIVING (n : Nat) : Fld := ⟨0x01800040 + n * 0x10000, 2, 1⟩
def TDM_STATUS_RX_CH (n : Nat) : Fld := ⟨0x01800040 + n * 0x10000, 8, 6⟩
def TDM_STATUS_TX_CH (n : Nat) : Fld := ⟨0x01800040 + n * 0x10000, 16, 6⟩
def TDM_FRAME_CNT (n : Nat) : Fld := ⟨0x01800044 + n * 0x10000, 0, 32⟩
def TDM_SWAP_FRAME (n : Nat) : Fld := ⟨0x01800048 + n * 0x10000, 0, 32⟩
def TDM_PHASE (n : Nat) : Fld := ⟨0x0180004C + n * 0x10000, 0, 32⟩
def TDM_BCLK_MEAS (n : Nat) : Fld := ⟨0x01800050 + n * 0x10000, 0, 32⟩
def TDM_ZC_TIMEOUTS (n : Nat) : Fld := ⟨0x01800054 + n * 0x10000, 0, 16⟩
def TDM_SLIPS (n : Nat) : Fld := ⟨0x01800054 + n * 0x10000, 16, 16⟩
def TDM_CLK_LOSSES (n : Nat) : Fld := ⟨0x01800058 + n * 0x10000, 0, 16⟩
def TDM_FS_ERRS (n : Nat) : Fld := ⟨0x01800058 + n * 0x10000, 16, 16⟩
def TDM_RX_OVF (n : Nat) : Fld := ⟨0x0180005C + n * 0x10000, 0, 16⟩
def TDM_TX_UNDER (n : Nat) : Fld := ⟨0x0180005C + n * 0x10000, 16, 16⟩
def TDM_LEVEL (n d i : Nat) : Fld := ⟨0x01800100 + n * 0x10000 + d * 0x100 + i * 8, 0, 16⟩
def TDM_MUTE (n d i : Nat) : Fld := ⟨0x01800104 + n * 0x10000 + d * 0x100 + i * 8, 0, 1⟩

/-! Fields of PDM (R363). -/
def PDM_CTL_EN (n : Nat) : Fld := ⟨0x01C00000 + n * 0x10000, 0, 1⟩
def PDM_CTL_CLK (n : Nat) : Fld := ⟨0x01C00000 + n * 0x10000, 1, 2⟩
def PDM_CTL_RATE (n : Nat) : Fld := ⟨0x01C00000 + n * 0x10000, 3, 2⟩
def PDM_CTL_MIC0_EN (n : Nat) : Fld := ⟨0x01C00000 + n * 0x10000, 5, 1⟩
def PDM_CTL_MIC1_EN (n : Nat) : Fld := ⟨0x01C00000 + n * 0x10000, 6, 1⟩
def PDM_HPF (n : Nat) : Fld := ⟨0x01C00004 + n * 0x10000, 0, 7⟩
def PDM_ZC_TO (n : Nat) : Fld := ⟨0x01C00008 + n * 0x10000, 0, 8⟩
def PDM_LEVEL (n i : Nat) : Fld := ⟨0x01C00010 + n * 0x10000 + i * 16, 0, 16⟩
def PDM_MUTE (n i : Nat) : Fld := ⟨0x01C00014 + n * 0x10000 + i * 16, 0, 1⟩
def PDM_GAIN_TRIM (n i : Nat) : Fld := ⟨0x01C00018 + n * 0x10000 + i * 16, 0, 16⟩
def PDM_DELAY_TRIM (n i : Nat) : Fld := ⟨0x01C0001C + n * 0x10000 + i * 16, 0, 13⟩
def PDM_STATUS_RUNNING (n : Nat) : Fld := ⟨0x01C00040 + n * 0x10000, 0, 1⟩
def PDM_STATUS_CLK_OK (n : Nat) : Fld := ⟨0x01C00040 + n * 0x10000, 1, 1⟩
def PDM_STATUS_STUCK (n : Nat) : Fld := ⟨0x01C00040 + n * 0x10000, 2, 2⟩
def PDM_STATUS_DC (n : Nat) : Fld := ⟨0x01C00040 + n * 0x10000, 4, 2⟩
def PDM_ZC_TIMEOUTS (n : Nat) : Fld := ⟨0x01C00044 + n * 0x10000, 0, 16⟩
def PDM_OVERLOADS (n : Nat) : Fld := ⟨0x01C00044 + n * 0x10000, 16, 16⟩
def PDM_DENS_0 (n : Nat) : Fld := ⟨0x01C00048 + n * 0x10000, 0, 16⟩
def PDM_DENS_1 (n : Nat) : Fld := ⟨0x01C00048 + n * 0x10000, 16, 16⟩

/-! Fields of AMP (R386). -/
def AMP_CTL_EN (n : Nat) : Fld := ⟨0x02000000 + n * 0x10000, 0, 1⟩
def AMP_CTL_RATE (n : Nat) : Fld := ⟨0x02000000 + n * 0x10000, 1, 1⟩
def AMP_CTL_BRIDGE (n : Nat) : Fld := ⟨0x02000000 + n * 0x10000, 2, 1⟩
def AMP_CTL_MUTE (n : Nat) : Fld := ⟨0x02000000 + n * 0x10000, 3, 1⟩
def AMP_CTL_CAL_EN (n : Nat) : Fld := ⟨0x02000000 + n * 0x10000, 4, 1⟩
def AMP_FS_FS_VOLTS (n : Nat) : Fld := ⟨0x02000004 + n * 0x10000, 0, 10⟩
def AMP_TIMING_ZC_TO (n : Nat) : Fld := ⟨0x02000008 + n * 0x10000, 0, 8⟩
def AMP_TIMING_RETRY (n : Nat) : Fld := ⟨0x02000008 + n * 0x10000, 8, 4⟩
def AMP_TIMING_MUTE_BLOCKS (n : Nat) : Fld := ⟨0x02000008 + n * 0x10000, 12, 4⟩
def AMP_RSHUNT (n : Nat) : Fld := ⟨0x0200000C + n * 0x10000, 0, 16⟩
def AMP_VS_DIV (n : Nat) : Fld := ⟨0x02000010 + n * 0x10000, 0, 14⟩
def AMP_STATUS_STATE (n : Nat) : Fld := ⟨0x02000020 + n * 0x10000, 0, 4⟩
def AMP_STATUS_CLASS (n : Nat) : Fld := ⟨0x02000020 + n * 0x10000, 4, 3⟩
def AMP_STATUS_LIMITING (n : Nat) : Fld := ⟨0x02000020 + n * 0x10000, 7, 1⟩
def AMP_STATUS_CLIPPING (n : Nat) : Fld := ⟨0x02000020 + n * 0x10000, 8, 1⟩
def AMP_STATUS_CAL_HELD (n : Nat) : Fld := ⟨0x02000020 + n * 0x10000, 9, 1⟩
def AMP_STATUS_RETRY_NOW (n : Nat) : Fld := ⟨0x02000020 + n * 0x10000, 16, 16⟩
def AMP_PEAK_V (n : Nat) : Fld := ⟨0x02000024 + n * 0x10000, 0, 16⟩
def AMP_PEAK_I (n : Nat) : Fld := ⟨0x02000024 + n * 0x10000, 16, 16⟩
def AMP_TRIP_V_P (n : Nat) : Fld := ⟨0x02000028 + n * 0x10000, 0, 16⟩
def AMP_TRIP_V_N (n : Nat) : Fld := ⟨0x02000028 + n * 0x10000, 16, 16⟩
def AMP_TRIP_I_I (n : Nat) : Fld := ⟨0x0200002C + n * 0x10000, 0, 16⟩
def AMP_TRIP_I_PROBE_R (n : Nat) : Fld := ⟨0x0200002C + n * 0x10000, 16, 16⟩
def AMP_CAL_OFFSET (n : Nat) : Fld := ⟨0x02000030 + n * 0x10000, 0, 16⟩
def AMP_CAL_GAIN (n : Nat) : Fld := ⟨0x02000030 + n * 0x10000, 16, 16⟩
def AMP_COUNT_TRIPS (n : Nat) : Fld := ⟨0x02000034 + n * 0x10000, 0, 16⟩
def AMP_COUNT_PROBE_FAILS (n : Nat) : Fld := ⟨0x02000034 + n * 0x10000, 16, 16⟩
def AMP_LIMIT_CYCLES (n : Nat) : Fld := ⟨0x02000038 + n * 0x10000, 0, 32⟩
def AMP_CLKMUTES (n : Nat) : Fld := ⟨0x0200003C + n * 0x10000, 0, 16⟩
def AMP_ZC_TIMEOUTS (n : Nat) : Fld := ⟨0x0200003C + n * 0x10000, 16, 16⟩

/-! Fields of PROT (R387). -/
def PROT_CTL_EN : Fld := ⟨0x02080000, 0, 1⟩
def PROT_CTL_FSW : Fld := ⟨0x02080000, 1, 1⟩
def PROT_GATE_GD_TYPE : Fld := ⟨0x02080004, 0, 1⟩
def PROT_GATE_DEAD : Fld := ⟨0x02080004, 1, 8⟩
def PROT_GATE_TSNS_IGNORE : Fld := ⟨0x02080004, 9, 1⟩
def PROT_ILIM : Fld := ⟨0x02080008, 0, 8⟩
def PROT_ILIM_HARD : Fld := ⟨0x02080008, 8, 8⟩
def PROT_VDS_VDS_TRIP : Fld := ⟨0x0208000C, 0, 8⟩
def PROT_VDS_DC_LIM : Fld := ⟨0x0208000C, 8, 8⟩
def PROT_TEMP_OTW : Fld := ⟨0x02080010, 0, 8⟩
def PROT_TEMP_OTS : Fld := ⟨0x02080010, 8, 8⟩
def PROT_PV_UV : Fld := ⟨0x02080014, 0, 10⟩
def PROT_PV_OV : Fld := ⟨0x02080018, 0, 10⟩
def PROT_DC_TIME : Fld := ⟨0x0208001C, 0, 8⟩
def PROT_PV_DIV : Fld := ⟨0x02080020, 0, 14⟩
def PROT_STATUS_PV_UV : Fld := ⟨0x02080040, 0, 1⟩
def PROT_STATUS_PV_OV : Fld := ⟨0x02080040, 1, 1⟩
def PROT_STATUS_VGD : Fld := ⟨0x02080040, 2, 1⟩
def PROT_STATUS_OTS : Fld := ⟨0x02080040, 3, 4⟩
def PROT_STATUS_OTW : Fld := ⟨0x02080040, 7, 4⟩
def PROT_STATUS_TSNS_FAULT : Fld := ⟨0x02080040, 11, 4⟩
def PROT_SUPPLY_PVDD : Fld := ⟨0x02080044, 0, 16⟩
def PROT_SUPPLY_VGD : Fld := ⟨0x02080044, 16, 16⟩
def PROT_TSNS (i : Nat) : Fld := ⟨0x02080048 + i * 4, 0, 16⟩
def PROT_HOLDS_UV : Fld := ⟨0x02080058, 0, 16⟩
def PROT_HOLDS_OV : Fld := ⟨0x02080058, 16, 16⟩
def PROT_HOLDS_VGD : Fld := ⟨0x0208005C, 0, 16⟩
def PROT_HOLDS_TEMP : Fld := ⟨0x0208005C, 16, 16⟩

/-! Fields of DIAG (R404). -/
def DIAG_CTL_EN : Fld := ⟨0x02090000, 0, 1⟩
def DIAG_CTL_LIVE_INT : Fld := ⟨0x02090000, 1, 3⟩
def DIAG_FREQ (w : Nat) : Fld := ⟨0x02090004 + w * 4, 0, 15⟩
def DIAG_LIM1_SHORT_LIM : Fld := ⟨0x02090014, 0, 8⟩
def DIAG_LIM1_OPEN_LIM : Fld := ⟨0x02090014, 8, 8⟩
def DIAG_LIM2_CHANGE_LIM : Fld := ⟨0x02090018, 0, 6⟩
def DIAG_LIM2_TWEET_LIM : Fld := ⟨0x02090018, 6, 6⟩
def DIAG_LIM3_WOOFER_RATIO : Fld := ⟨0x0209001C, 0, 6⟩
def DIAG_LIM3_DEFER_TIME : Fld := ⟨0x0209001C, 6, 6⟩
def DIAG_LIM3_MASK_MARGIN : Fld := ⟨0x0209001C, 12, 4⟩
def DIAG_STATUS_OFFLINE : Fld := ⟨0x02090040, 0, 8⟩
def DIAG_STATUS_LIVE : Fld := ⟨0x02090040, 8, 8⟩
def DIAG_STATUS_PLATE : Fld := ⟨0x02090040, 16, 8⟩
def DIAG_CH_CLASS (i : Nat) : Fld := ⟨0x02090100 + i * 16, 0, 3⟩
def DIAG_CH_LIVE (i : Nat) : Fld := ⟨0x02090100 + i * 16, 3, 1⟩
def DIAG_CH_PARTIAL (i : Nat) : Fld := ⟨0x02090100 + i * 16, 4, 1⟩
def DIAG_CH_DEFERRED (i : Nat) : Fld := ⟨0x02090100 + i * 16, 5, 4⟩
def DIAG_CH_RDC (i : Nat) : Fld := ⟨0x02090104 + i * 16, 0, 32⟩
def DIAG_CH_TESTS (i : Nat) : Fld := ⟨0x02090108 + i * 16, 0, 16⟩
def DIAG_CH_DEFERRALS (i : Nat) : Fld := ⟨0x02090108 + i * 16, 16, 16⟩
def DIAG_CH_LAST_SEC (i : Nat) : Fld := ⟨0x0209010C + i * 16, 0, 32⟩

/-! Fields of MEM (R342). -/
def MEM_DDR_CTL_EN : Fld := ⟨0x02400000, 0, 1⟩
def MEM_DDR_CTL_RETRAIN_INT : Fld := ⟨0x02400000, 1, 3⟩
def MEM_DDR_CTL_TEMP_DELTA : Fld := ⟨0x02400000, 4, 2⟩
def MEM_STATUS_DENSITY : Fld := ⟨0x02400004, 0, 2⟩
def MEM_STATUS_RANKS2 : Fld := ⟨0x02400004, 2, 1⟩
def MEM_STATUS_TRAINED : Fld := ⟨0x02400004, 3, 1⟩
def MEM_STATUS_SELF_REFRESH : Fld := ⟨0x02400004, 4, 1⟩
def MEM_STATUS_PHY_LOCK : Fld := ⟨0x02400004, 5, 1⟩
def MEM_STATUS_REFRESH : Fld := ⟨0x02400004, 6, 2⟩
def MEM_STATUS_MR4 : Fld := ⟨0x02400004, 8, 3⟩
def MEM_MARGIN_MARGIN_0 : Fld := ⟨0x02400008, 0, 8⟩
def MEM_MARGIN_MARGIN_1 : Fld := ⟨0x02400008, 8, 8⟩
def MEM_MARGIN_MARGIN_2 : Fld := ⟨0x02400008, 16, 8⟩
def MEM_MARGIN_MARGIN_3 : Fld := ⟨0x02400008, 24, 8⟩
def MEM_RETRAINS : Fld := ⟨0x0240000C, 0, 16⟩
def MEM_RETRAIN_FAILS : Fld := ⟨0x0240000C, 16, 16⟩
def MEM_LAST_TRAIN : Fld := ⟨0x02400010, 0, 32⟩

/-! Fields of RM (R343). -/
def RM_CTL_EN : Fld := ⟨0x02410000, 0, 1⟩
def RM_CTL_SCRUB_INT : Fld := ⟨0x02410000, 1, 2⟩
def RM_CTL_BW_WARN : Fld := ⟨0x02410000, 3, 3⟩
def RM_POOL_TOTAL : Fld := ⟨0x02410004, 0, 32⟩
def RM_POOL_FREE : Fld := ⟨0x02410008, 0, 32⟩
def RM_DELAY_GRAN : Fld := ⟨0x0241000C, 0, 32⟩
def RM_DELAY_LINES : Fld := ⟨0x02410010, 0, 14⟩
def RM_ECC_CORR : Fld := ⟨0x02410014, 0, 16⟩
def RM_ECC_UNCORR : Fld := ⟨0x02410014, 16, 16⟩
def RM_LAST_ECC : Fld := ⟨0x02410018, 0, 32⟩
def RM_BW_AVG : Fld := ⟨0x0241001C, 0, 16⟩
def RM_BW_PEAK : Fld := ⟨0x0241001C, 16, 16⟩
def RM_READ_P99 : Fld := ⟨0x02410020, 0, 16⟩
def RM_READ_MAX : Fld := ⟨0x02410020, 16, 16⟩
def RM_SCRUB_PASSES : Fld := ⟨0x02410024, 0, 16⟩
def RM_OUTAGES : Fld := ⟨0x02410024, 16, 16⟩

/-! Fields of POST (R344). -/
def POST_CTL_EN : Fld := ⟨0x02420000, 0, 1⟩
def POST_ECC_CORR : Fld := ⟨0x02420010, 0, 16⟩
def POST_ECC_UNCORR : Fld := ⟨0x02420010, 16, 16⟩
def POST_HIGH (i : Nat) : Fld := ⟨0x02420100 + i * 8, 0, 32⟩
def POST_DROPS (i : Nat) : Fld := ⟨0x02420104 + i * 8, 0, 32⟩

/-! Fields of LINK (R435). -/
def LINK_CTL_EN : Fld := ⟨0x02800000, 0, 1⟩
def LINK_STATUS_UP : Fld := ⟨0x02800004, 0, 1⟩
def LINK_STATUS_LOCK : Fld := ⟨0x02800004, 1, 1⟩
def LINK_STATUS_EYE : Fld := ⟨0x02800004, 8, 8⟩
def LINK_HB_RX : Fld := ⟨0x02800008, 0, 32⟩
def LINK_HB_LOST : Fld := ⟨0x0280000C, 0, 16⟩
def LINK_CRC_ERR : Fld := ⟨0x0280000C, 16, 16⟩
def LINK_REPAIR_REQ : Fld := ⟨0x02800010, 0, 32⟩
def LINK_REPAIR_SENT : Fld := ⟨0x02800014, 0, 32⟩
def LINK_REPAIR_DROP : Fld := ⟨0x02800018, 0, 32⟩
def LINK_MIRRORS : Fld := ⟨0x0280001C, 0, 32⟩

/-! Fields of ROLE (R436). -/
def ROLE_CTL_EN : Fld := ⟨0x02810000, 0, 1⟩
def ROLE_CTL_MODE : Fld := ⟨0x02810000, 1, 1⟩
def ROLE_CTL_TDIFF_LIM : Fld := ⟨0x02810000, 2, 2⟩
def ROLE_CTL_REPAIR_MAX : Fld := ⟨0x02810000, 4, 4⟩
def ROLE_CTL_TAKE_PIN_EN : Fld := ⟨0x02810000, 8, 1⟩
def ROLE_STATUS_STATE : Fld := ⟨0x02810004, 0, 3⟩
def ROLE_STATUS_HEALTH : Fld := ⟨0x02810004, 3, 2⟩
def ROLE_STATUS_P_HEALTH : Fld := ⟨0x02810004, 5, 2⟩
def ROLE_STATUS_STRAP : Fld := ⟨0x02810004, 7, 1⟩
def ROLE_STATUS_TAKE_IN : Fld := ⟨0x02810004, 8, 1⟩
def ROLE_STATUS_OK_OUT : Fld := ⟨0x02810004, 9, 1⟩
def ROLE_STATUS_PARTNER_ID : Fld := ⟨0x02810004, 16, 16⟩
def ROLE_TIME_DIFF : Fld := ⟨0x02810008, 0, 32⟩
def ROLE_CAUSES : Fld := ⟨0x0281000C, 0, 16⟩
def ROLE_TAKEOVERS : Fld := ⟨0x02810010, 0, 16⟩
def ROLE_CLONES : Fld := ⟨0x02810010, 16, 16⟩
def ROLE_CLONE_FAILS : Fld := ⟨0x02810014, 0, 16⟩
def ROLE_SHARE_MISSES : Fld := ⟨0x02810014, 16, 16⟩

/-! Fields of DIG (R437). -/
def DIG_CTL_EN : Fld := ⟨0x02820000, 0, 1⟩
def DIG_CTL_MISMATCH_LIM : Fld := ⟨0x02820000, 1, 3⟩
def DIG_CTL_CLASS_EN : Fld := ⟨0x02820000, 4, 4⟩
def DIG_MATCH_RUN : Fld := ⟨0x02820004, 0, 16⟩
def DIG_WINDOWS : Fld := ⟨0x02820008, 0, 32⟩
def DIG_EXPLAINED : Fld := ⟨0x0282000C, 0, 32⟩
def DIG_UNEXPLAINED : Fld := ⟨0x02820010, 0, 32⟩
def DIG_LAST_MISMATCH : Fld := ⟨0x02820014, 0, 32⟩

/-! Fields of MON (R461). -/
def MON_CTL_EN : Fld := ⟨0x02C00000, 0, 1⟩
def MON_CTL_TEMP_WARN : Fld := ⟨0x02C00000, 1, 3⟩
def MON_LIMITS_RO_LIM : Fld := ⟨0x02C00004, 0, 4⟩
def MON_LIMITS_DCR_LIM : Fld := ⟨0x02C00004, 4, 4⟩
def MON_LIMITS_RDSON_LIM : Fld := ⟨0x02C00004, 8, 4⟩
def MON_LIMITS_AGE_DEV : Fld := ⟨0x02C00004, 12, 4⟩
def MON_TEMP (i : Nat) : Fld := ⟨0x02C00010 + i * 4, 0, 16⟩
def MON_RO_MEAN : Fld := ⟨0x02C00030, 0, 16⟩
def MON_RO_MAX : Fld := ⟨0x02C00030, 16, 16⟩
def MON_SLACK : Fld := ⟨0x02C00034, 0, 16⟩
def MON_SENS : Fld := ⟨0x02C00034, 16, 16⟩
def MON_AGE_MEAS : Fld := ⟨0x02C00038, 0, 32⟩
def MON_SLOPE_MEAS : Fld := ⟨0x02C0003C, 0, 32⟩
def MON_NVM_MARGIN : Fld := ⟨0x02C00040, 0, 8⟩
def MON_NVM_RECORDS : Fld := ⟨0x02C00040, 16, 14⟩
def MON_LEDGER_SEQ : Fld := ⟨0x02C00044, 0, 32⟩
def MON_DCR_DRIFT (i : Nat) : Fld := ⟨0x02C00050 + i * 8, 0, 16⟩
def MON_RDSON_DRIFT (i : Nat) : Fld := ⟨0x02C00050 + i * 8, 16, 16⟩
def MON_DEAD_MARGIN (i : Nat) : Fld := ⟨0x02C00054 + i * 8, 0, 16⟩

/-! Fields of CAL (R462). -/
def CAL_CTL_EN : Fld := ⟨0x02C10000, 0, 1⟩
def CAL_CTL_RUN : Fld := ⟨0x02C10000, 1, 1⟩
def CAL_CTL_PERIOD : Fld := ⟨0x02C10000, 2, 2⟩
def CAL_CTL_AUTO : Fld := ⟨0x02C10000, 4, 1⟩
def CAL_APPROVE : Fld := ⟨0x02C10004, 0, 7⟩
def CAL_PLAN_SLACK_TARGET : Fld := ⟨0x02C10008, 0, 4⟩
def CAL_PLAN_DEAD_MARGIN : Fld := ⟨0x02C10008, 4, 4⟩
def CAL_PLAN_ASYM_SIGMA : Fld := ⟨0x02C10008, 8, 4⟩
def CAL_STATUS_RUNNING : Fld := ⟨0x02C10010, 0, 1⟩
def CAL_STATUS_QUEUED : Fld := ⟨0x02C10010, 1, 1⟩
def CAL_STATUS_SUSPENDED : Fld := ⟨0x02C10010, 2, 1⟩
def CAL_STATUS_PENDING : Fld := ⟨0x02C10010, 8, 7⟩
def CAL_STATUS_RUNS : Fld := ⟨0x02C10010, 16, 16⟩
def CAL_LAST_RUN : Fld := ⟨0x02C10014, 0, 32⟩
def CAL_NEXT_RUN : Fld := ⟨0x02C10018, 0, 32⟩
def CAL_PLANNED (i : Nat) : Fld := ⟨0x02C10020 + i * 8, 0, 32⟩
def CAL_PROPOSED (i : Nat) : Fld := ⟨0x02C10024 + i * 8, 0, 32⟩
def CAL_DROPPED : Fld := ⟨0x02C10060, 0, 16⟩
def CAL_APPROVALS : Fld := ⟨0x02C10060, 16, 16⟩
def CAL_LAST_REFRESH : Fld := ⟨0x02C10064, 0, 32⟩

/-! Fields of EVT (R85). -/
def EVT_CTL_EN (n : Nat) : Fld := ⟨0x03000000 + n * 0x10000, 0, 1⟩
def EVT_EV_RAW_RAW (n : Nat) : Fld := ⟨0x03000004 + n * 0x10000, 0, 16⟩
def EVT_EV_STICKY_STICKY (n : Nat) : Fld := ⟨0x03000008 + n * 0x10000, 0, 16⟩
def EVT_EV_EN_EN (n : Nat) : Fld := ⟨0x0300000C + n * 0x10000, 0, 16⟩
def EVT_SUMMARY_PEND (n : Nat) : Fld := ⟨0x03000010 + n * 0x10000, 0, 16⟩
def EVT_EV_ROUTE_IRQ0 (n i : Nat) : Fld := ⟨0x03000040 + n * 0x10000 + i * 4, 0, 1⟩
def EVT_EV_ROUTE_IRQ1 (n i : Nat) : Fld := ⟨0x03000040 + n * 0x10000 + i * 4, 1, 1⟩
def EVT_EV_ROUTE_MSIX (n i : Nat) : Fld := ⟨0x03000040 + n * 0x10000 + i * 4, 2, 1⟩
def EVT_EV_ROUTE_VEC (n i : Nat) : Fld := ⟨0x03000040 + n * 0x10000 + i * 4, 3, 5⟩
def EVT_EV_ROUTE_SPI (n i : Nat) : Fld := ⟨0x03000040 + n * 0x10000 + i * 4, 8, 1⟩
def EVT_EV_ROUTE_NET (n i : Nat) : Fld := ⟨0x03000040 + n * 0x10000 + i * 4, 9, 1⟩
def EVT_EV_ROUTE_UART (n i : Nat) : Fld := ⟨0x03000040 + n * 0x10000 + i * 4, 10, 1⟩
def EVT_EV_COUNT_FIRED (n i : Nat) : Fld := ⟨0x03000080 + n * 0x10000 + i * 4, 0, 32⟩

/-! Fields of HST (R368, R485). -/
def HST_PCIE_CTL_EN : Fld := ⟨0x03400000, 0, 1⟩
def HST_STATUS_LINK_UP : Fld := ⟨0x03400004, 0, 1⟩
def HST_STATUS_SPEED : Fld := ⟨0x03400004, 1, 2⟩
def HST_STATUS_WIDTH : Fld := ⟨0x03400004, 3, 2⟩
def HST_STATUS_PERST : Fld := ⟨0x03400004, 5, 1⟩
def HST_STATUS_LINK_DOWNS : Fld := ⟨0x03400004, 16, 16⟩
def HST_DMA_ABORTS : Fld := ⟨0x03400008, 0, 32⟩
def HRING_CTL_RUNNING : Fld := ⟨0x03400100, 0, 6⟩
def RING_CFG_EN (i : Nat) : Fld := ⟨0x03400200 + i * 64, 0, 1⟩
def RING_CFG_DIR (i : Nat) : Fld := ⟨0x03400200 + i * 64, 1, 1⟩
def RING_CFG_RATE (i : Nat) : Fld := ⟨0x03400200 + i * 64, 2, 2⟩
def RING_CFG_SIZE (i : Nat) : Fld := ⟨0x03400200 + i * 64, 4, 4⟩
def RING_CFG_VEC (i : Nat) : Fld := ⟨0x03400200 + i * 64, 8, 5⟩
def RING_CFG_IRQ_DIV (i : Nat) : Fld := ⟨0x03400200 + i * 64, 13, 3⟩
def RING_CHANNELS (i : Nat) : Fld := ⟨0x03400204 + i * 64, 0, 10⟩
def RING_MSI (i : Nat) : Fld := ⟨0x03400204 + i * 64, 10, 1⟩
def RING_FIRST_PP (i : Nat) : Fld := ⟨0x03400208 + i * 64, 0, 16⟩
def RING_BASE (i w : Nat) : Fld := ⟨0x0340020C + i * 64 + w * 4, 0, 16⟩
def RING_PROD (i : Nat) : Fld := ⟨0x0340021C + i * 64, 0, 16⟩
def RING_CONS (i : Nat) : Fld := ⟨0x03400220 + i * 64, 0, 16⟩
def RING_STATE (i : Nat) : Fld := ⟨0x03400224 + i * 64, 0, 3⟩
def RING_START_SEC_LO (i : Nat) : Fld := ⟨0x03400228 + i * 64, 0, 32⟩
def RING_START_SEC_HI (i : Nat) : Fld := ⟨0x0340022C + i * 64, 0, 32⟩
def RING_START_NS (i : Nat) : Fld := ⟨0x03400230 + i * 64, 0, 32⟩
def RING_UNDERRUN (i : Nat) : Fld := ⟨0x03400234 + i * 64, 0, 32⟩
def RING_DMA_ERR (i : Nat) : Fld := ⟨0x03400238 + i * 64, 0, 16⟩

/-! Fields of SPI (R47). -/
def SPI_CTL_EN : Fld := ⟨0x03410000, 0, 1⟩
def SPI_CTL_QUAD : Fld := ⟨0x03410000, 1, 1⟩

/-! Fields of UART (R51, R497). -/
def UART_CTL_EN : Fld := ⟨0x03420000, 0, 1⟩
def UART_CTL_BAUD : Fld := ⟨0x03420000, 1, 4⟩
def UART_PROOF_HOLD : Fld := ⟨0x03420010, 0, 2⟩
def UART_PROOF_ANA : Fld := ⟨0x03420010, 2, 1⟩
def UART_PROOF_FREQ : Fld := ⟨0x03420010, 3, 1⟩
def UART_PROOF_DRIVE : Fld := ⟨0x03420010, 4, 1⟩
def UART_PROOF_LAST_LAST_G : Fld := ⟨0x03420014, 0, 8⟩
def UART_PROOF_LAST_LAST_I : Fld := ⟨0x03420014, 8, 8⟩

/-! Fields of PWR (R482). -/
def PWR_CTL_EN : Fld := ⟨0x03800000, 0, 1⟩
def PWR_CTL_LISTEN_PORT : Fld := ⟨0x03800000, 1, 2⟩
def PWR_CTL_PFW_AMP_OFF : Fld := ⟨0x03800000, 3, 1⟩
def PWR_CTL_VCORE_IF : Fld := ⟨0x03800000, 4, 2⟩
def PWR_VCORE_PMBUS_ADDR : Fld := ⟨0x03800004, 0, 7⟩
def PWR_STATUS_STATE : Fld := ⟨0x03800010, 0, 2⟩
def PWR_STATUS_ENTERING : Fld := ⟨0x03800010, 2, 1⟩
def PWR_STATUS_TARGET : Fld := ⟨0x03800010, 3, 2⟩
def PWR_STATUS_PFW : Fld := ⟨0x03800010, 5, 1⟩
def PWR_STATUS_PRESENT : Fld := ⟨0x03800010, 6, 1⟩
def PWR_STATUS_XO32_OK : Fld := ⟨0x03800010, 7, 1⟩
def PWR_AO_SEC_LO : Fld := ⟨0x03800014, 0, 32⟩
def PWR_AO_SEC_HI : Fld := ⟨0x03800018, 0, 32⟩
def PWR_BOOT_MS : Fld := ⟨0x0380001C, 0, 16⟩
def PWR_COLD_STARTS : Fld := ⟨0x0380001C, 16, 16⟩
def PWR_DOZE_SEC : Fld := ⟨0x03800020, 0, 32⟩
def PWR_RESET_CAUSE : Fld := ⟨0x03800024, 0, 6⟩

/-! Fields of WK (R483). -/
def WK_CTL_EN : Fld := ⟨0x03810000, 0, 1⟩
def WK_CTL_WAKE_EN : Fld := ⟨0x03810000, 1, 1⟩
def WK_CTL_TIMER_EN : Fld := ⟨0x03810000, 2, 1⟩
def WK_CTL_GPIO_EN : Fld := ⟨0x03810000, 3, 1⟩
def WK_CTL_PHY_EN : Fld := ⟨0x03810000, 4, 1⟩
def WK_CTL_PCIE_EN : Fld := ⟨0x03810000, 5, 1⟩
def WK_CTL_TO_RUN : Fld := ⟨0x03810000, 6, 5⟩
def WK_CTL_PHY_PIN : Fld := ⟨0x03810000, 11, 4⟩
def WK_GPIO_MASK : Fld := ⟨0x03810004, 0, 16⟩
def WK_GPIO_POL : Fld := ⟨0x03810008, 0, 16⟩
def WK_TIMER_LO : Fld := ⟨0x0381000C, 0, 16⟩
def WK_TIMER_HI : Fld := ⟨0x03810010, 0, 16⟩
def WK_LAST_SOURCE : Fld := ⟨0x03810020, 0, 3⟩
def WK_LAST_WAKES : Fld := ⟨0x03810020, 16, 16⟩

/-! Fields of SUP (R484). -/
def SUP_CTL_EN : Fld := ⟨0x03820000, 0, 1⟩
def SUP_STATUS_WARN : Fld := ⟨0x03820004, 0, 10⟩
def SUP_STATUS_FAIL : Fld := ⟨0x03820004, 16, 10⟩
def SUP_MEAS (i : Nat) : Fld := ⟨0x03820010 + i * 4, 0, 16⟩

end F

end Sys2Proof.Machine
end

