-- ==== Sys2Proof/Machine/State.lean ====
section
/-!
DEFINITION. Machine/State.lean: the state of the block, as plain data: the stored register fields, and beside
them everything the spec gives the block that has no register of its own.
-/

namespace Sys2Proof.Machine

/-! ## Carriers -/

/-- A network session (R48, R49): role, event flag, key, replay window, the source of its latest accepted
request, and the sequence of its event reports (R89). -/
structure Session where
  role : Nat := 0
  evFlag : Bool := false
  key : List Byte := []
  last : Nat := 0
  any : Bool := false
  srcAddr : Nat := 0
  srcPort : Nat := 0
  evSeq : Nat := 0
  deriving DecidableEq, Repr

/-- A control datagram being reassembled (R48): its source and the fragments held, by byte offset. -/
structure Reasm where
  srcAddr : Nat
  parts : List (Nat × List Byte) := []
  total : Option Nat := none
  deriving DecidableEq, Repr

/-- The running configuration as STORE writes it and RECALL loads it (R101): register fields, session table,
layer-3 port blocks, stream tables and graphs. -/
structure Saved where
  regs : List (Nat × Nat) := []
  sessions : List (Nat × Session) := []
  l3 : List (Nat × List Byte) := []
  rx : List (Nat × List Byte) := []
  rxEn : List Nat := []
  tx : List (Nat × List Byte) := []
  txEn : List Nat := []
  graphs : List (Nat × List Byte) := []
  graphEn : List Nat := []
  deriving DecidableEq, Repr

/-- A running long operation (R53, Table 2.7): index, the request to answer, what STORE has snapshotted and
where it writes, the sequence LOG_FLUSH waits for, the units the operation works on, and why it must fail. -/
structure LongOp where
  idx : Nat
  req : Req
  snap : Option Saved := none
  bank : Nat := 0
  gen : Nat := 0
  flushTo : Option Nat := none
  failed : Bool := false
  abandoned : Bool := false
  safeHit : Bool := false
  elapsed : Nat := 0
  arg : Nat := 0
  deriving DecidableEq, Repr

/-- The command carriers (R44 to R55, R43). Buffers read 0 where nothing has written them (log entry 5). -/
structure CarState where
  slots : List (Nat × Req) := []
  last : Nat := 3
  mbxReq : KV Nat := []
  mbxRep : KV Nat := []
  mbxReqCrc : Nat := 0
  mbxRspCrc : Nat := 0
  spiReply : Option (List Byte) := none
  spiQuad : Bool := false
  sessions : KV Session := []
  reasm : List Reasm := []
  uartBusy : Bool := false
  uartBaud : Nat := 0
  baudDue : Bool := false
  spiEvSeq : Nat := 0
  uartEvSeq : Nat := 0
  longOp : Option LongOp := none
  executing : Option Carrier := none
  fwStage : KV Nat := []
  fwFresh : Bool := true
  fwBlocks : List (Nat × KV Nat) := []
  fwWritten : List Nat := []
  fwCommitted : Option Nat := none
  deriving DecidableEq, Repr

/-! ## Registers beside their stored fields -/

/-- The common block of a unit (R58) and its safe state (R73). -/
structure UnitCB where
  badValue : Bool := false
  wrIgnored : Bool := false
  parity : Bool := false
  xdom : Bool := false
  denied : Bool := false
  inSafe : Bool := false
  firstOff : Nat := 0
  refused : Nat := 0
  parCnt : Nat := 0
  deriving DecidableEq, Repr

/-- The shadow of a multi-word value (R63): origin and session or partner of its latest write, and its words
by place. -/
structure Shadow where
  code : Nat
  id : Nat
  words : List (Nat × Nat) := []
  deriving DecidableEq, Repr

/-! ## Events -/

/-- One report slot (R88): firings carried, object and detail of the latest, time of the first. -/
structure Report where
  count : Nat := 1
  obj : Nat := 0
  detail : Nat := 0
  sec : Nat := 0
  ns : Nat := 0
  notime : Bool := false
  late : Bool := false
  order : Nat := 0
  deriving DecidableEq, Repr

/-- The event sources (R82, R86 to R90): sticky and raw bits as the sources that have them, firing counts,
the waiting reports of the SPI and UART routes, the sources pending on MSI-X, and the MSI-X table: whether
the function has MSI-X on, which vectors are masked, which pending bits are set. -/
structure EvState where
  sticky : List Nat := []
  raw : List Nat := []
  counts : KV Nat := []
  spi : KV Report := []
  uart : KV Report := []
  order : Nat := 0
  msixPend : List Nat := []
  msixOn : Bool := false
  msixUnmasked : List Nat := []
  msixBits : List Nat := []
  deriving DecidableEq, Repr

/-! ## The Watermark Log and the non-volatile store -/

/-- One entry of the Watermark Log (R91), and whether its stored CRC-16 is bad. -/
structure LogEntry where
  seq : Nat
  sec : Nat
  ns : Nat
  notime : Bool
  origin : Nat
  kind : Nat
  oid : Nat
  addr : Bool
  obj : Nat
  old : Nat
  new : Nat
  crcBad : Bool := false
  deriving DecidableEq, Repr

/-- A running commit (R94): whether it is the power-fail commit, how many of the oldest uncommitted entries it
still covers, how many of those are on its current page, whether that page is being rewritten, whether it ends
with entries left, whether a successor is due, and how many entries a power-fail commit has written. -/
structure Commit where
  pfw : Bool := false
  covers : Nat
  page : Nat
  rewrite : Bool := false
  left : Bool := false
  again : Bool := false
  written : Nat := 0
  deriving DecidableEq, Repr

/-- The Watermark Log (R91 to R99): ring in non-volatile memory, uncommitted entries in RAM (both oldest first),
next sequence number, entries lost, running commit. -/
structure LogState where
  ring : List LogEntry := []
  ram : List LogEntry := []
  next : Nat := 0
  lost : Nat := 0
  commit : Option Commit := none
  pfwLast : Bool := false
  bootBad : Nat := 0
  deriving DecidableEq, Repr

/-- A configuration bank (R101): whether it is valid, its generation, its store count, its payload. -/
structure Bank where
  valid : Bool := false
  gen : Nat := 0
  stores : Nat := 0
  cfg : Saved := {}
  deriving DecidableEq, Repr

/-! ## Time -/

/-- A master in a domain's foreign-master set: its port identity and its latest Announce (R117). -/
structure Foreign where
  src : Nat
  ann : Announce
  deriving DecidableEq, Repr

/-- A PTP domain beside its registers (R117 to R124): own clock identity, foreign masters and the selected one,
the Sync waiting for its Follow_Up, the request waiting for its response, the latest forward difference, the
averages, the runs of offsets and misses, and whether the servo has been LOCKED since EN was set. Times and
offsets are in 2^-16 ns. -/
structure Domain where
  ident : Nat := 0
  foreign : List Foreign := []
  sel : Option Nat := none
  sync : Option (Nat × Nat × Int × Int) := none
  dreq : Option (Nat × Int) := none
  fwd : Option Int := none
  delayKnown : Bool := false
  delay : Int := 0
  filt : Int := 0
  offs : List Int := []
  delays : List Int := []
  outRun : Nat := 0
  lowRun : Nat := 0
  highRun : Nat := 0
  missRun : Nat := 0
  everLocked : Bool := false
  reqSeq : Nat := 0
  deriving DecidableEq, Repr

/-- A whole-tick step waiting for its boundary (R124, R125): ticks to add, first boundary it may act at (in
ticks of the grid), whether a host load or a clone made it. -/
structure StepPend where
  ticks : Int
  due : Nat
  load : Bool := false
  dom : Nat := 0
  deriving DecidableEq, Repr

/-- One reader's TIM.SNAP capture (R132). -/
structure SnapCap where
  aValid : Bool := false
  bValid : Bool := false
  set : Bool := false
  count : Nat := 0
  tb : Nat := 0
  a : Nat := 0
  b : Nat := 0
  ao : Nat := 0
  deriving DecidableEq, Repr

/-- The timebase (R108 to R112): whole seconds and media-clock cycles within the second (log entry 6), whether
the clock stands on a boundary whose tick has not yet been processed, the domains, pending steps and the
pending change of time-of-day domain, whether UTC_OFFSET has been taken since cold start, the captures of each
reader. -/
structure TimeState where
  sec : Nat := 0
  cyc : Nat := 0
  onGrid : Bool := false
  step : Option StepPend := none
  load : Option StepPend := none
  residual : Int := 0
  tod : Option Nat := none
  utcTaken : Bool := false
  domA : Domain := {}
  domB : Domain := {}
  snaps : KV SnapCap := []
  deriving DecidableEq, Repr

/-! ## Timestamps, triggers, control cycles -/

/-- One entry of a transmit timestamp queue (R138, Table 6.2), with a serial number that tells equal entries
apart. -/
structure TsEntry where
  id : Nat := 0
  msgType : Nat := 0
  kind : Nat := 0
  late : Bool := false
  loss : Bool := false
  lostBefore : Nat := 0
  time : Tai := {}
  serial : Nat := 0
  deriving DecidableEq, Repr

/-- One frame of a timed transmit queue (R155): launch time, tag, queue, whether its time had passed,
its bytes. -/
structure TimedFrame where
  launch : Tai
  tag : Nat
  q : Nat := 3
  late : Bool := false
  bytes : List Byte := []
  deriving DecidableEq, Repr

/-- Timestamp queues by port, losses not yet reported, the head each reader has snapshotted, timed frames by
port, and of each armed trigger unit the origin that armed it and the time its boundary may not come before, in 2^-16 ns
(R138 to R157). -/
structure StampState where
  queues : KV (List TsEntry) := []
  pendLoss : KV Nat := []
  headSnap : KV TsEntry := []
  serial : Nat := 0
  timed : KV (List TimedFrame) := []
  armedBy : KV Origin := []
  due : KV Int := []
  deriving DecidableEq, Repr

/-- What production has written into the factory bank beside the factory configuration (R105): serial number,
MAC addresses of N0 to N3, internal latencies in 2^-16 ns (ingress and egress for each interface and speed in
the order of Table 6.1; the typical values stand here, log entry 9), the sensitivity of the replica (R439), and
the domains' clock identities. -/
structure FactoryData where
  serial : Nat := 0
  macs : List Nat := [0, 0, 0, 0]
  latIn : List Nat := [7766016, 15466496, 30818304, 76808192, 8634368, 55214080, 39206912]
  latOut : List Nat := [6291456, 12484608, 24887296, 62095360, 6832128, 42926080, 30916608]
  sens : Nat := 0
  idents : List Nat := [0, 0]
  deriving DecidableEq, Repr
/-! ## References and the loop -/

/-- A reference monitor beside its registers (R160 to R167, R177): sampled activity, timers in milliseconds,
limits exceeded at the last second (bit 0 frequency, bit 1 drift; hard limit), ages of recent glitches, the
last FFO_CONS values newest first, the recognised rate in Hz, the ESMC level, milliseconds spent QUALIFIED. -/
structure RefMon where
  act : Bool := false
  qual : Nat := 0
  dwell : Nat := 0
  clear : Nat := 0
  soft : Nat := 0
  hard : Bool := false
  glitches : List Nat := []
  hist : List Int := []
  rate : Nat := 0
  esmc : Nat := 15
  since : Nat := 0
  deriving DecidableEq, Repr

/-- Selector, switch machine, loop, holdover and outputs beside their registers (R168 to R199). `want` is the
target waiting for its start, `target` that of the running switch (7 none); `meas` counts the ticks to
BUILD-OUT, `acc` sums the target's PHASE readings; `settle` is the elapsed milliseconds and stage of SETTLE;
`frozenBy` the reference whose SUSPECT entry froze the history; `hist` the history newest first. Output
numbers: 0 PPS_OUT, 1 to 4 CC0 to CC3 in `mis` (steps in ticks since alignment); 0 PPS_OUT, 1 and 2 WCK_OUT0/1,
3 to 6 CC0 to CC3 in `outRun` and `outWait` (first second of running). -/
structure ClkState where
  mons : KV RefMon := []
  running : Bool := false
  rebuild : Bool := false
  want : Nat := 7
  target : Nat := 7
  meas : Nat := 0
  acc : Int := 0
  accN : Nat := 0
  betRef : Nat := 7
  betMs : Nat := 0
  lastSel : Nat := 7
  host : Bool := false
  settle : Option (Nat × Nat) := none
  settleRef : Nat := 7
  frozenBy : Option Nat := none
  hist : List Int := []
  integ : Int := 0
  e0 : Nat := 0
  tempAt : Int := 0
  tempSum : Nat := 0
  hoWritten : Bool := false
  calAge : Int := 0
  calSlope : Nat := 0
  mis : KV Int := []
  outRun : List Nat := []
  outWait : KV Nat := []
  alignMask : Nat := 0
  deriving DecidableEq, Repr


/-! ## Power -/

/-- Power and start-up beside their registers (R464 to R481): where the start stands (0 held in power-on reset, 1 under
way past step 2, 2 waiting for supplies, 3 waiting for REFXO, 4 waiting for the board to return, 5 done); command-ready;
the always-on second the start began at; whether the entry into a lower state has stopped what that state leaves
unpowered; AO_SEC at DOZE entry and OFF; the source and target of a wake under way; whether WAKE was captured in SHELF;
the always-on second REFXO was lost at; whether a RESET command is about to act; which VDDIO are 3.3 V; what codes 5 and
6 of LED3 show; the CRC of the firmware patch in force (R43); how many of the oldest uncommitted entries
a failed commit has left for the entry into DOZE or SHELF to lose (R94). -/
structure PowerState where
  boot : Nat := 0
  cmdReady : Bool := false
  coldSec : Nat := 0
  stopped : Bool := false
  dozeAt : Nat := 0
  off : Int := 0
  offSet : Bool := false
  wakeSrc : Nat := 0
  wakeTo : Nat := 0
  shelfWake : Bool := false
  lostAt : Option Nat := none
  resetDue : Bool := false
  vio33 : List Bool := []
  cfgDefault : Bool := false
  patchBad : Bool := false
  fwCrc : Nat := 0
  lose : Nat := 0
  deriving DecidableEq, Repr

/-! ## Field service -/

/-- A proof that holds a resource (R488): group, item, arguments, the hold code its start took, and for 7.2 the
milliseconds it has run and the next source. -/
structure ProofRun where
  g : Nat := 0
  i : Nat := 0
  a1 : Nat := 0
  a2 : Nat := 0
  hold : Nat := 0
  ms : Nat := 0
  next : Nat := 0
  deriving DecidableEq, Repr

/-- The last block of a proof (R487): state, result, the two device values. -/
structure ProofRes where
  st : Nat := 0
  result : Nat := 0
  v0 : Int := 0
  v1 : Int := 0
  deriving DecidableEq, Repr

/-- The proofs (R487 to R494): what holds each resource (0 TP_ANA, 1 TP_FREQ, 2 drive), and the last block of each proof
by group x 256 + item. -/
structure ProofState where
  run : KV ProofRun := []
  last : KV ProofRes := []
  deriving DecidableEq, Repr
/-! ## Network ports -/

/-- What a queued frame holds: a media packet, a UDP datagram of the Klonik core, or a frame copied from the
host. -/
inductive FrameBody where
  | media (e : Nat) (p : MediaPkt)
  | udp (dst : List Byte) (dport : Nat) (payload : List Byte)
  | raw (bytes : List Byte)
  deriving DecidableEq, Repr

/-- A frame of an egress queue (R212): length with FCS, body, the timestamp entry it asks for (identifier, kind,
message type), the end of its launch window in 2^-16 ns for a media packet (R267), whether host DMA fetches it. -/
structure QFrame where
  len : Nat
  body : FrameBody
  ts : Option (Nat × Nat × Nat) := none
  limit : Option Int := none
  dma : Bool := false
  deriving DecidableEq, Repr

/-- A port beside its registers (R205 to R224): queues 0 to 3, the DMA frame in progress, pause quanta of the
control and best-effort queues, policer buckets by class (tokens in 2^-16 ns x Mb/s, time of the last refill),
measured PTP and control rates in bits per second, seconds below the step-down test, seconds a step down is
barred, the speed a step aims at and the speed before it, whether EEE is resolved, the groups joined and the
groups still held for a bank swapped out. -/
structure PortState where
  q0 : List QFrame := []
  q1 : List QFrame := []
  q2 : List QFrame := []
  q3 : List QFrame := []
  dma : Option QFrame := none
  pauseC : Nat := 0
  pauseB : Nat := 0
  tokens : KV (Nat × Int) := []
  rxRate : Nat := 0
  txRate : Nat := 0
  under : Nat := 0
  barred : Nat := 0
  target : Option Nat := none
  prevSpeed : Nat := 0
  eee : Bool := false
  groups : List Nat := []
  oldGroups : List Nat := []
  deriving DecidableEq, Repr

/-! ## Streams -/

/-- A packet in a jitter buffer (R240 to R244): presentation index of its first sample, sequence number, the
paths that have delivered it, its samples (one list of channel values each). -/
structure RxPkt where
  first : Int
  seq : Nat
  paths : Nat
  data : List (List Int)
  deriving DecidableEq, Repr

/-- An enabled receive entry (R235 to R246): state code, lost paths, slips, margins of this and of the last whole
second, counters, the sequence window (highest accepted, accepted numbers, run of older packets), buffered
packets, ticks concealed in a row, in LOST, and per path without supply, samples to repeat after a move of H_d,
the last played sample, ticks of a ramp left, whether the smallest margin is below MARGIN_WARN, whether its
estimator muted the last tick, the packets accepted in the last 20 ms (stream history, Table 14.1). -/
structure RxRun where
  st : Nat := 2
  lost : Nat := 0
  slips : Nat := 0
  minM : Option Int := none
  maxM : Option Int := none
  lastMin : Int := 0
  lastMax : Int := 0
  acc : List Nat := [0, 0, 0, 0, 0]
  dup : List Nat := [0, 0, 0, 0, 0]
  late : Nat := 0
  early : Nat := 0
  fmt : Nat := 0
  srcMis : Nat := 0
  noTime : Nat := 0
  conceal : Nat := 0
  losts : Nat := 0
  restarts : Nat := 0
  sec : Nat := 0
  ns : Nat := 0
  high : Option Nat := none
  seen : List Nat := []
  oldRun : Nat := 0
  buf : List RxPkt := []
  lossT : Nat := 0
  lostT : Nat := 0
  pathT : List Nat := [0, 0, 0, 0]
  fill : Nat := 0
  last : List Int := []
  ramp : Nat := 0
  under : Bool := false
  muted : Bool := false
  hist : List (Int × MediaPkt) := []
  deriving DecidableEq, Repr

/-- An enabled transmit entry (R264 to R273): state code, paths down, paths that have been up since enable,
counters, start and stop times in 2^-16 ns, the block that governs packets before the stop, samples of past
ticks newest first (tick and one list of samples per channel), last packet queued, whether TX_START has fired,
whether the entry still waits for the active unit's SEQ_OFFSET. -/
structure TxRun where
  st : Nat := 2
  down : Nat := 0
  wasUp : Nat := 0
  built : List Nat := [0, 0, 0, 0]
  underrun : List Nat := [0, 0, 0, 0]
  late : Nat := 0
  size : Nat := 0
  downs : Nat := 0
  skipped : Nat := 0
  repeated : Nat := 0
  sec : Nat := 0
  ns : Nat := 0
  start : Int := 0
  stop : Option Int := none
  blk : List Byte := []
  hist : List (Nat × List (List Int)) := []
  lastK : Option Nat := none
  adopt : Bool := false
  deriving DecidableEq, Repr

/-- A pending bank swap (R250, R272, R322): its tick, and who asked for it. -/
structure SwapPend where
  tick : Nat
  origin : Origin
  deriving DecidableEq, Repr

/-- A foreign-domain estimator beside its registers (R247, R248): the line through (timestamp, time in 2^-16 ns),
the rate and offset of the stream it
was laid through, packets of the lead stream not yet taken by the loop, sequence numbers used, times in 2^-16 ns of entry to
ACQUIRE and of the last error outside LOCK_WIN, the run of large errors, the second's errors. -/
structure FdState where
  lineR : Nat := 0
  lineT : Int := 0
  lineHz : Nat := 48000
  lineOff : Nat := 0
  feed : List (Nat × Int) := []
  used : List Nat := []
  acqT : Int := 0
  badT : Int := 0
  badRun : Nat := 0
  sumSq : Nat := 0
  cnt : Nat := 0
  deriving DecidableEq, Repr

/-- A peer of the directory (R252, Table 10.6) with its descriptors by index. -/
structure Peer where
  mac : List Byte := []
  ip4 : List Byte := []
  ip6 : List Byte := []
  imported : Bool := false
  sec : Nat := 0
  interval : Nat := 0
  descs : KV (List Byte) := []
  deriving DecidableEq, Repr

/-- Stream tables, ports and directory: entry blocks and enable flags by bank x 512 + entry, the running
entries, the entries a pending receive swap brings in, the transmit entries that still send up to their stop, the
first tick not yet played and the tick played last, pending swaps, H_d of each domain (absent before its domain first reached SLAVE), descriptor versions,
announcement round, the last grandmaster each domain named, the domains in the condition of
TX_TS_MISS, the ports whose media queue is high. -/
structure StreamState where
  ports : KV PortState := []
  l3 : KV (List Byte) := []
  rxBlk : KV (List Byte) := []
  rxFlag : List Nat := []
  rx : KV RxRun := []
  rxNext : KV RxRun := []
  playTo : Nat := 0
  lastTick : Option Nat := none
  rxBad : List Nat := []
  rxSwap : Option SwapPend := none
  leaveAt : Option Nat := none
  hShift : KV Int := []
  hInit : List Nat := []
  fd : KV FdState := []
  peers : KV Peer := []
  txBlk : KV (List Byte) := []
  txFlag : List Nat := []
  tx : KV TxRun := []
  txOld : KV TxRun := []
  txBad : List Nat := []
  txSwap : Option SwapPend := none
  txVer : KV Nat := []
  txZero : List Nat := []
  lastGm : KV Nat := []
  tsMiss : List Nat := []
  /-- Domains that have just left SLAVE and MASTER, not yet looked at for TX_TS_MISS (R277). -/
  tsLeft : List Nat := []
  round : Nat := 0
  queueHigh : List Nat := []
  deriving DecidableEq, Repr

/-! ## The Ream -/

/-- The Ream beside its registers (R336, R337): whether a live retrain pass runs, whether an offline retrain
makes it unavailable. -/
structure MemState where
  live : Bool := false
  offline : Bool := false
  deriving DecidableEq, Repr

/-! ## Processing -/

/-- A block (R307): one tick of one channel, and its valid flag. -/
structure Blk where
  v : List Int := []
  ok : Bool := false
  deriving DecidableEq, Repr

/-- A compiled sheet (R283, R318): slices (node, first channel, channels), cost in cycles, predecessors, home
Burin, bytes of memory homed with it, the streams, ports and rings it reads. -/
structure SheetC where
  slices : List (Nat × Nat × Nat)
  cost : Nat
  preds : List Nat := []
  home : Nat := 0
  mem : Nat := 0
  aff : List Nat := []
  deriving DecidableEq, Repr

/-- A compiled owner (R285, R318): its sheets, the generator and the releases a tick of a control graph, the
critical path, crosspoints, delay lines with their bytes and granules. -/
structure OwnerC where
  sheets : List SheetC := []
  cc : Option Nat := none
  r : Nat := 1
  crit : Nat := 0
  xpoints : Nat := 0
  lines : Nat := 0
  gran : Nat := 0
  bytes : Nat := 0
  deriving DecidableEq, Repr

/-- A sheet of a release: the tray it stands in, its state (0 waiting for a predecessor, 1 running, 2 complete,
3 abandoned, 4 ready), the 600 MHz cycle at which it became ready. -/
structure SheetRun where
  home : Nat
  st : Nat := 0
  ready : Nat := 0
  deriving DecidableEq, Repr

/-- A release (R284): number, owner (graph n, or 0x200 + e for a receive entry), the key of its node state, tick, the
600 MHz cycle of its release, its compiled form and image as they stood, sheets, the input blocks read at the
release by patch point x 8 + rate, the output patch points whose rate is the node's, node and channel of delay lines that
met a memory error, node results by node x 512 + channel, saturated nodes, whether a limiter was active. -/
structure Release where
  id : Nat
  owner : Nat
  sk : Nat := 0
  tick : Nat
  at_ : Nat := 0
  comp : OwnerC
  img : List Byte := []
  sheets : List SheetRun := []
  ins : KV Blk := []
  outs : List Nat := []
  ecc : List Nat := []
  res : KV Blk := []
  sat : List Nat := []
  lim : Bool := false
  deriving DecidableEq, Repr

/-- An enabled owner's run (R306, R321, Table 13.10): state code, first tick, first omitted tick, ticks with
saturation and with a limiter active, misses, sheets abandoned, sheets lifted in this and the last second, time
of the last miss, ramp ticks left in SAFE, which of its two state keys it uses. -/
structure OwnerRun where
  st : Nat := 1
  start : Nat := 0
  stop : Option Nat := none
  satTicks : Nat := 0
  limTicks : Nat := 0
  misses : Nat := 0
  abandoned : Nat := 0
  lifted : Nat := 0
  liftedLast : Nat := 0
  missSec : Nat := 0
  missNs : Nat := 0
  ramp : Nat := 0
  gen : Nat := 0
  deriving DecidableEq, Repr

/-- What a Burin runs: a sheet of a release, or a slice of a backing class. -/
inductive Job where
  | sheet (rel idx : Nat)
  | backing (c : Nat)
  deriving DecidableEq, Repr

/-- Live values waiting for their tick (R317). -/
structure ParamPend where
  tick : Nat
  graph : Nat
  node : Nat
  off : Nat
  data : List Byte
  deriving DecidableEq, Repr

/-- The processing side (R280 to R326): graph images and enable flags by bank x 256 + graph, compiled owners,
their runs, releases in flight, what each Burin runs, node state by (state key x 1024 + node) x 512 + channel, delay
lines under the same keys (newest block first), input blocks of the tick and of the tick before, output blocks by the tick they are
presented in, blocks presented now, pending live values and swap, owners compiled for a pending swap of any table, graphs with bad parity, queueing delays of the
second in 10 ns, cycles each Burin has spent on sheets and on slices in the second, the next backing class, the
next Burin to test, nodes in the conditions of LIMIT_ACTIVE and METER_THRESH. -/
structure DspState where
  img : KV (List Byte) := []
  flag : List Nat := []
  comp : KV OwnerC := []
  run : KV OwnerRun := []
  rels : List Release := []
  nextRel : Nat := 0
  busy : KV Job := []
  nst : KV (List Int) := []
  lines : KV (List Blk) := []
  inBlk : KV Blk := []
  inPrev : KV Blk := []
  outq : KV (KV Blk) := []
  present : KV Blk := []
  params : List ParamPend := []
  swap : Option SwapPend := none
  next : KV OwnerC := []
  bad : List Nat := []
  qd : List Nat := []
  busyD : KV Nat := []
  busyB : KV Nat := []
  backNext : Nat := 0
  testNext : Nat := 0
  limiting : List Nat := []
  metering : List Nat := []
  deriving DecidableEq, Repr


/-! ## Local ports -/

/-- A channel's zero-crossing logic (R353, R354, R360, R375): whether its signal passes, the level and mute in
effect, the changes that wait (bit 0 start, 1 stop, 2 level, 3 mute), samples of a ramp left, the latest sample. -/
structure ZcCh where
  on : Bool := false
  level : Int := 0
  mute : Bool := false
  wait : Nat := 0
  ramp : Nat := 0
  prev : Int := 0
  deriving DecidableEq, Repr

/-- A TDM port beside its registers (R347 to R355): frames of the block being received and of the block complete
in its Post, each the values by slot-order index, output frames of the tick and the last one sent, the tick its
frames start at, good frames in a row and frames lost, read-back runs, the origin of a pending swap and whether
it skips a sync, whether the first frame is still to come. -/
structure TdmRun where
  cur : List (List (Nat × Int)) := []
  stage : List (List (Nat × Int)) := []
  out : List (List Int) := []
  lastOut : List Int := []
  startTick : Option Nat := none
  good : Nat := 0
  lost : Nat := 0
  agree : Nat := 0
  differ : Nat := 0
  swap : Option Origin := none
  skip : Bool := false
  first : Bool := false
  deriving DecidableEq, Repr

/-- A host media ring's run (R366, R367): the tick slot 0 serves, and whether the slots of the next ticks were
found available (nearest first). -/
structure RingRun where
  start : Nat := 0
  avail : List Bool := []
  deriving DecidableEq, Repr

/-- Local ports: zero-crossing channels (TDM port x 64 + direction x 32 + index; 1024 + microphone; 1040 +
amplifier channel), TDM ports, first ticks of PDM lanes, host rings. -/
structure LocalState where
  zc : KV ZcCh := []
  tdm : KV TdmRun := []
  pdmStart : KV Nat := []
  rings : KV RingRun := []
  deriving DecidableEq, Repr


/-! ## Power stage and line diagnostics -/

/-- An amplifier channel beside its registers (R374 to R383): the sample number of its start boundary, whether the
bootstraps are charged, whether the gates switch, whether a start waits for OFF, whether it recovers from a fault
and with which probe resistance, whether a fault waits behind a hold and its retry is due, the retry interval in ms
and whether it stands at RETRY, whether a class 5 or 6 restart has run less than 60 s, invalid blocks in a row,
ticks since the limit acted and since it clipped, the corrections last logged, the class of the pending fault, the
causes of a clock-error mute (bit 0 PLL, bit 1 source), whether it resumes from one. -/
structure AmpRun where
  start : Nat := 0
  boot : Bool := false
  gates : Bool := false
  pend : Bool := false
  recover : Option Nat := none
  fault : Bool := false
  due : Bool := false
  backoff : Nat := 0
  fresh : Bool := true
  restart : Bool := false
  bad : Nat := 0
  limT : Nat := 0
  clipT : Nat := 0
  logOff : Int := 0
  logGain : Int := 0
  mute : Nat := 0
  resume : Bool := false
  deriving DecidableEq, Repr

/-- A result record (Table 17.5). -/
structure DiagRec where
  cls : Nat := 0
  flags : Nat := 0
  deferred : Nat := 0
  sec : Nat := 0
  rdc : Nat := 0
  z : List Nat := []
  arg : List Int := []
  f : List Nat := []
  pvdd : Nat := 0
  deriving DecidableEq, Repr

/-- A live test (R395): the frequency in turn, magnitudes and phases found so far, frequencies deferred. -/
structure LiveRun where
  k : Nat := 0
  z : List Nat := []
  arg : List Int := []
  deferred : Nat := 0
  deriving DecidableEq, Repr

/-- The power stage: channels, last results, Plates, running live tests, channels under offline test and whether
with DC only, and the R_DC results of the day by channel, for the ledger. -/
structure AmpState where
  ch : KV AmpRun := []
  last : KV DiagRec := []
  plate : KV DiagRec := []
  live : KV LiveRun := []
  offline : List Nat := []
  dcOnly : Bool := false
  dcr : KV (List Nat) := []
  deriving DecidableEq, Repr


/-! ## The pair -/

/-- A register write of a mirrored object that waits for its tick (R413): tick, origin, address, data word. -/
structure MirrorReg where
  tick : Nat
  origin : Origin
  addr : Nat
  data : Nat
  deriving DecidableEq, Repr

/-- The pair beside its registers (R405 to R432): the partner's state and mode as its heartbeats carry them, its MAC
addresses; whether the heartbeat timer runs, whether negotiation has ranked this unit higher, whether a takeover waits
for the partner to leave ACTIVE; the last share, shares that wait for their tick, misses and arrivals in a row, equal
windows since the last change of state, whether misses bar STANDBY_READY; the time of a change of the sending paths with the paths sent before it (0 all, 1 all but N1, 2 N1,
3 none); a pending hand-over (tick, cause); whether the unit holds bussed ports from a time on, and the opposite before
it; the partner's last report; sequence of the last mirror record; the request time of the mirrored command that
executes; mirrored register writes that wait; digests of this unit and of the partner not yet compared (window,
digests, flagged); output blocks of the latest ticks; whether the window is flagged, and receive patch points concealed
in it; times of unexplained mismatches; Burins to test for them, and whether one failed; milliseconds the media PLL has
been out of lock; a clone in progress; the staging, and the records that arrived for it. -/
structure PairState where
  pState : Nat := 0
  pMode : Nat := 0
  pMacs : List Nat := []
  timing : Bool := false
  lead : Option Bool := none
  took : Bool := false
  share : Option ShareIn := none
  inbox : List ShareIn := []
  missRun : Nat := 0
  gotRun : Nat := 0
  syncRun : Nat := 0
  barred : Bool := false
  cut : Option (Int × Nat) := none
  hand : Option (Nat × Nat) := none
  bus : Bool := true
  busFrom : Int := 0
  report : Option (List Byte) := none
  mirSeq : Nat := 0
  reqAt : Option Int := none
  regQ : List MirrorReg := []
  own : List (Nat × List Nat × Bool) := []
  theirs : List (Nat × List Nat × Bool) := []
  win : List (Nat × KV Blk) := []
  flag : Bool := false
  flagPps : List Nat := []
  mism : List Int := []
  test : List Nat := []
  burinFail : Bool := false
  pllMs : Nat := 0
  cloning : Bool := false
  stage : Option CloneIn := none
  stageQ : List MirrorRec := []
  deriving DecidableEq, Repr

/-! ## Ageing -/

/-- A record of the ageing ledger (Table 19.2). -/
structure LedgerRec where
  seq : Nat
  sec : Nat
  notime : Bool
  kind : Nat
  inst : Nat
  v : List Int
  deriving DecidableEq, Repr

/-- Ageing monitors, ledger and Calender beside their registers (R438 to R457): the ledger, oldest record first, and the
next sequence; what the day has gathered (ring oscillators, worst slack and hottest site, loop output over LOCKED
seconds with the seconds spent on each reference, site 0, time above TEMP_WARN in ms, DRAM passes, eyes, whether the
non-volatile monitor measured); the worst slack of the running second; the latest 7 daily values and the first 30 of a
baseline by kind x 64 + channel x 4 + FET; trends above their limits; monitors above their thresholds by monitor + 16 x
channel; the dead-time margins of the last 7 days (least of all channels); the minutes of the running hour of
asymmetry estimates and the hourly means, in 2^-16 ns; ports with a low eye; the plan of the running run (item, value,
whether it was in the safe direction); the values in force of items 0, 4 and 6 and the dead time the Calender has
applied; whether a supply request waits for its acknowledgement; whether a refresh runs. The values in force on an
empty ledger are the model's (log entry 2). -/
structure HealthState where
  ledger : List LedgerRec := []
  next : Nat := 0
  ro : Option (List Int) := none
  slack : Option Int := none
  hot : Option (Int × Nat) := none
  osc : Int × Nat := (0, 0)
  refSec : KV Nat := []
  t0 : Int × Nat := (0, 0)
  warnMs : Nat := 0
  passes : Nat := 0
  eyes : List Nat := []
  nvDay : Bool := false
  slackNow : Option Int := none
  last7 : KV (List Int) := []
  base : KV (List Int) := []
  overs : List Nat := []
  above : List Nat := []
  margins : List Int := []
  asymMin : List Int := []
  asymHr : List Int := []
  eyeLow : List Nat := []
  plan : List (Nat × Int × Bool) := []
  vcore : Nat := 850
  refresh : Nat := 90
  trust : Nat := 7
  dead : Option Nat := none
  vsent : Bool := false
  refreshing : Bool := false
  deriving DecidableEq, Repr

/-! ## What a command sends to the outside -/

/-- Something the block sends, drives or answers within one command: register read data, the bytes of an SPI
frame, a PCIe completion or message, a control datagram, a UART line, an MSI-X message, a PTP message of a
domain, a frame on a port, an MDIO frame, a message to the pair partner, samples on a local output, a PMBus
request, a pulse, a host memory write. -/
inductive Emit where
  | readData (d : List Nat)
  | spi (bytes : List Byte)
  | pcieUr (nonFatal : Bool)
  | datagram (session addr port : Nat) (bytes : List Byte)
  | uart (line : String)
  | msix (v : Nat)
  | ptp (d : Nat) (msgType : Nat) (sec ns : Nat) (ann : Option Announce)
  | frame (port q : Nat) (body : FrameBody)
  | mdio (port : Nat) (write : Bool) (phy reg data : Nat)
  | pair (kind : Nat) (payload : List Nat)
  | samples (patch : Nat) (v : List Int)
  | pmbus (addr mv : Nat)
  | voutMode (addr : Nat)
  | pulse (what : Nat) (at_ : Tai)
  | hostWrite (addr : Nat) (data : List Nat)
  | igmp (port : Nat) (group : Nat) (join : Bool)
  deriving DecidableEq, Repr

/-- What an LED shows (Table 21.3): off, on, a square wave of some frequency in Hz, a 50 ms flash every 4 s, a fault code. -/
inductive Led where
  | off
  | on
  | blink (hz : Nat)
  | flash
  | code (n : Nat)
  deriving DecidableEq, Repr

/-- The pins the block drives that follow its state (IRQ0_N, IRQ1_N and HOST_BUSY as true when asserted; LED0
to LED3), whether every output is high-impedance, and the input levels it has sampled. -/
structure Pins where
  irq0 : Bool := false
  irq1 : Bool := false
  hostBusy : Bool := true
  pairOk : Bool := false
  svcEn : Bool := false
  pfwLow : Bool := false
  takeLow : Bool := false
  leds : List Led := []
  outputsOff : Bool := false
  deriving DecidableEq, Repr

/-! ## The state -/

/-- The state of the block. `regs` holds every stored field of every register that differs from its reset
value; the other fields hold what has no register of its own, one part per chapter of the spec; `pending` is
the queue of waiting commands, first in, first out; `out` is what the last command sent; `draws` counts free
values taken. -/
structure State where
  regs : KV Nat := []
  units : KV UnitCB := []
  shadows : KV Shadow := []
  readSnaps : KV (List Nat) := []
  bad : KV Nat := []
  ev : EvState := {}
  log : LogState := {}
  bankA : Bank := {}
  bankB : Bank := {}
  factory : Bank := { valid := true }
  car : CarState := {}
  time : TimeState := {}
  pwr : PowerState := {}
  prf : ProofState := {}
  fact : FactoryData := {}
  stamps : StampState := {}
  clk : ClkState := {}
  str : StreamState := {}
  dsp : DspState := {}
  mem : MemState := {}
  pair : PairState := {}
  loc : LocalState := {}
  amp : AmpState := {}
  hlt : HealthState := {}
  pins : Pins := {}
  out : List Emit := []
  draws : Nat := 0
  pending : List Instr := []
  deriving DecidableEq, Repr

/-- The block right after power-on reset: every register at the reset value of its table or, where the tables
give none, at the value its log entry names; nothing queued. -/
def State.reset : State := {}

/-- Why the block would stop. The spec gives the block no stop of its own: every rejected command answers a
status and the block goes on (R26, R30). No meaning raises this; it stands for the interface. -/
inductive Fault where
  /-- Raised by nothing: an access the spec says does not exist is answered as a bus error (R77). Safe. -/
  | stuck
  deriving DecidableEq, Repr

/-- Why the model would refuse a command. -/
inductive Refusal where
  /-- Raised by an arm of the dispatch whose command has no meaning yet. Safe: nothing is claimed of it. -/
  | notModelled (mnemonic : String)
  deriving DecidableEq, Repr

end Sys2Proof.Machine
end

