-- ==== Sys2Proof/Machine/Ops.lean ====
section
/-!
DEFINITION. Machine/Ops.lean: the named operations over the state that every family shares: register fields,
the common unit block, the time stamp, event firing (R82 to R90), the Watermark Log (R91 to R96), and emission
to the outside.
-/

namespace Sys2Proof.Machine

/-! ## Addresses -/

/-- Subsystem, unit and byte offset that an address names (R4, R12). -/
def addrUnit (a : Nat) : Nat × Nat × Nat :=
  let sub := a / 2 ^ 22 % 16
  let hi := a / 2 ^ 15 % 2
  (sub, a / 2 ^ 16 % 64 + 64 * hi, a % 2 ^ 15)

/-- Base address of a unit block (R12). -/
def unitBase (sub u : Nat) : Nat :=
  sub * 2 ^ 22 + (u % 64) * 2 ^ 16 + (if u ≥ 64 then 2 ^ 15 else 0)

/-- A unit's number among all units: subsystem and unit (R9, R10). -/
def unitKey (sub u : Nat) : Nat := sub * 256 + u

/-- The 32-bit object ID of a unit or element (R7). -/
def objId (sub u e : Nat) : Nat := sub * 2 ^ 24 + u * 2 ^ 16 + e

/-- The units of a subsystem (Table 1.1). -/
def subUnits (sub : Nat) : List Nat :=
  if sub == 0 then List.range 5
  else if sub == 1 then [0, 1, 2, 4, 5, 6, 7, 8, 9, 10, 11] ++ (List.range 32).map (· + 32)
  else if sub == 2 then List.range 7 ++ [8, 9, 10, 11]
  else if sub == 3 then List.range 6
  else if sub == 4 then List.range 5
  else if sub == 5 then List.range 66
  else if sub == 6 then List.range 16
  else if sub == 7 then List.range 8
  else if sub == 8 then List.range 10
  else if sub == 9 then List.range 3
  else if sub == 10 then List.range 3
  else if sub == 11 then List.range 2
  else if sub == 12 then List.range 16
  else if sub == 13 then List.range 3
  else if sub == 14 then List.range 3
  else []

/-- Whether Table 1.1 names the unit (R11). -/
def unitExists (sub u : Nat) : Bool := (subUnits sub).contains u

/-- The row of the register map that covers byte offset `off`, with the index within a repeated row. -/
def findRow : List RegDesc → Nat → Option (RegDesc × Nat)
  | [], _ => none
  | r :: l, off =>
    if r.off ≤ off && off < r.off + r.stride * r.count && (off - r.off) % r.stride == 0 then
      some (r, (off - r.off) / r.stride)
    else findRow l off

/-- The register at an address, if the map defines one (R57). -/
def findReg (a : Nat) : Option RegDesc :=
  let (sub, u, off) := addrUnit a
  (findRow (unitRows sub u) off).map (·.1)

/-- The reset value of the field of the register at `addr` whose lowest bit is `lo`. -/
def resetAt (addr lo : Nat) : Nat :=
  match findReg addr with
  | some r => (match r.fields.find? (fun f => f.lo == lo) with
    | some f => f.reset
    | none => 0)
  | none => 0

/-- The key of a named field. -/
def Fld.key (f : Fld) : Nat := fieldKey f.addr f.lo

/-! ## Register fields -/

/-- The stored value of a field. -/
def State.getF (s : State) (f : Fld) : Nat := KV.get (resetAt f.addr f.lo) s.regs f.key

/-- The state in which a field holds `v`, cut to the field's width. -/
def State.setF (s : State) (f : Fld) (v : Nat) : State :=
  { s with regs := KV.put (resetAt f.addr f.lo) s.regs f.key (v % 2 ^ f.width) }

/-- Whether a one-bit field is set. -/
def State.on (s : State) (f : Fld) : Bool := s.getF f == 1

/-- The signed value of a field. -/
def State.getI (s : State) (f : Fld) : Int := signed f.width (s.getF f)

/-- A field set to the two's complement of an integer that fits it. -/
def State.setI (s : State) (f : Fld) (v : Int) : State := s.setF f (unsigned f.width v)

/-- A field set to an integer saturated to its signed range. -/
def State.setISat (s : State) (f : Fld) (v : Int) : State := s.setF f (unsigned f.width (satSigned f.width v))

/-- A field set to a count saturated to its width. -/
def State.setSat (s : State) (f : Fld) (v : Nat) : State := s.setF f (satNat f.width v)

/-- A saturating counter moved on by `n`. -/
def State.addSat (s : State) (f : Fld) (n : Nat) : State := s.setF f (satNat f.width (s.getF f + n))

/-- A saturating counter moved on by one. -/
def State.incSat (s : State) (f : Fld) : State := s.addSat f 1

/-- A 64-bit value held in two 32-bit registers. -/
def State.get64 (s : State) (lo hi : Fld) : Nat := s.getF lo + 2 ^ 32 * s.getF hi

/-- Two 32-bit registers set to a 64-bit value. -/
def State.set64 (s : State) (lo hi : Fld) (v : Nat) : State := (s.setF lo v).setF hi (v / 2 ^ 32)

/-- A value held in `n` 16-bit words, lowest first (R62). -/
def State.getWords (s : State) (f : Nat → Fld) : Nat → Nat
  | 0 => 0
  | n + 1 => State.getWords s f n + s.getF (f n) * 2 ^ (16 * n)

/-- `n` 16-bit words set to a value, lowest first. -/
def State.setWords (s : State) (f : Nat → Fld) (v : Nat) : Nat → State
  | 0 => s
  | n + 1 => (State.setWords s f v n).setF (f n) (v / 2 ^ (16 * n))

/-- A free value taken: the counter's reading, and the state with the counter moved on (log entry 3). -/
def State.draw (s : State) : Nat × State := (s.draws, { s with draws := s.draws + 1 })

/-- The data the stored fields of a register spell. -/
def State.regData (s : State) (addr : Nat) : Nat :=
  match findReg addr with
  | some r => r.fields.foldl (fun a f => a + s.getF ⟨addr, f.lo, f.width⟩ * 2 ^ f.lo) 0
  | none => 0

/-! ## Common unit block -/

/-- The common block of a unit (R58). -/
def State.unit (s : State) (k : Nat) : UnitCB := KV.get {} s.units k

/-- The state with a unit's common block changed. -/
def State.setUnit (s : State) (k : Nat) (u : UnitCB) : State := { s with units := KV.put {} s.units k u }

/-- Whether a unit is in its safe state (R73). -/
def State.inSafe (s : State) (sub u : Nat) : Bool := (s.unit (unitKey sub u)).inSafe

/-! ## Emission -/

/-- The state with one more thing sent to the outside. -/
def State.emit (s : State) (e : Emit) : State := { s with out := s.out ++ [e] }

/-! ## Time -/

/-- Media-clock cycles of one second in the running rate family (R109). -/
def State.rate (s : State) : Nat := if s.on F.LOOP_MEDIA_FAMILY then 45158400 else 49152000

/-- Ticks of one second (R13): a tick is 3,072 cycles in either family. -/
def State.tps (s : State) : Nat := s.rate / 3072

/-- The timebase (R108). -/
def State.now (s : State) : Tai :=
  let n := s.time.cyc * 1000000000
  { sec := s.time.sec % 2 ^ 64, ns := n / s.rate, frac := (n % s.rate) * 65536 / s.rate }

/-- A time in units of 2^-16 ns. -/
def Tai.units (t : Tai) : Int := ((t.sec * 1000000000 + t.ns) * 65536 + t.frac : Nat)

/-- A time from units of 2^-16 ns. -/
def Tai.ofUnits (v : Int) : Tai :=
  let n := v.toNat
  { sec := n / 65536000000000 % 2 ^ 64, ns := n / 65536 % 1000000000, frac := n % 65536 }

/-- A 112-bit time as one number (Table 5.1). -/
def Tai.bits (t : Tai) : Nat := t.frac + 65536 * (t.ns + 2 ^ 32 * t.sec)

/-- The 112-bit time a number spells. -/
def Tai.ofBits (v : Nat) : Tai := { sec := v / 2 ^ 48 % 2 ^ 64, ns := v / 65536 % 2 ^ 32, frac := v % 65536 }

/-- The tick grid position: ticks since the epoch, of the boundary at or before now. -/
def State.gridTick (s : State) : Nat := s.time.sec * s.tps + s.time.cyc / 3072

/-- The 64-bit always-on seconds (R112, R467). -/
def State.aoSec (s : State) : Nat := s.get64 F.PWR_AO_SEC_LO F.PWR_AO_SEC_HI

/-- The stamp of an entry or report: seconds, nanoseconds, NOTIME (R93). -/
def State.stamp (s : State) : Nat × Nat × Bool :=
  if s.on F.TB_STATUS_SET then (s.now.sec % 2 ^ 48, s.now.ns, false)
  else ((s.aoSec - s.pwr.coldSec) % 2 ^ 48, 0, true)

/-! ## Events (R82 to R90) -/

/-- The EN bit of an event group; its reset value while the group's unit is in its safe state (Table 3.4). -/
def State.evGroupOn (s : State) (g : Nat) : Bool := s.inSafe 12 g || s.on (F.EVT_CTL_EN g)

/-- The enable bit of a source, as its group's state has it. -/
def State.evEnabled (s : State) (src : Nat) : Bool :=
  if s.inSafe 12 (src / 16) then src == 0
  else (s.getF (F.EVT_EV_EN_EN (src / 16))).testBit (src % 16)

/-- A bit of a source's route register, as its group's state has it; `r` is the field of the route. -/
def State.evRoute (s : State) (src : Nat) (r : Nat → Nat → Fld) : Bool :=
  if s.inSafe 12 (src / 16) then src == 0 && (r 0 0).lo == 0
  else s.on (r (src / 16) (src % 16))

/-- Whether a source is pending on a route (R86). -/
def State.evPending (s : State) (r : Nat → Nat → Fld) (src : Nat) : Bool :=
  s.ev.sticky.contains src && s.evEnabled src && s.evGroupOn (src / 16) && s.evRoute src r

/-- The 24 parameter bytes of an event report (R89, Table 4.3). -/
def Report.bytes (r : Report) (src : Nat) : List Byte :=
  leBytes 1 (src % 16) ++ leBytes 1 (src / 16) ++ leBytes 2 r.count ++ leBytes 4 r.obj ++ leBytes 6 r.sec ++
  leBytes 4 r.ns ++ leBytes 4 r.detail ++ leBytes 2 (b2n r.notime + 2 * b2n r.late)

/-- A packet with its CRC-32C (R33): flags, sequence, opcode, session, status word, parameters. -/
def packetBytes (flags seq opcode session status : Nat) (params : List Byte) : List Byte :=
  let h := leBytes 2 0x4BC5 ++ leBytes 1 2 ++ leBytes 1 flags ++ leBytes 2 seq ++ leBytes 2 opcode ++
    leBytes 2 params.length ++ leBytes 2 session ++ leBytes 2 status ++ leBytes 2 0 ++ params
  h ++ leBytes 4 (crc32c h)

/-- The packet of an event report (R89): EVENT flag, opcode 0x0C10, status 0. -/
def reportPacket (r : Report) (src seq session : Nat) : List Byte :=
  packetBytes 2 seq 0x0C10 session 0 (r.bytes src)

/-- A session's packet with its tag, where the session is authenticated (R48). -/
def tagged (ss : Session) (session : Nat) (p : List Byte) : List Byte :=
  if session = 0 then p else p ++ sessionTag ss.key p

/-- Whether a session receives event reports (R90). -/
def Session.takesEvents (ss : Session) : Bool := ss.evFlag && ss.role != 0 && ss.any

/-- An event report sent at once to every session that takes event packets (R90, NET). -/
def State.sendNetReport (s : State) (r : Report) (src : Nat) : State :=
  let s := s.car.sessions.foldl (fun (s : State) p =>
    if p.2.takesEvents then
      s.emit (.datagram p.1 p.2.srcAddr p.2.srcPort (tagged p.2 p.1 (reportPacket r src (p.2.evSeq % 65536) p.1)))
    else s) s
  { s with car := { s.car with
      sessions := KV.mapV (fun _ x => if x.takesEvents then { x with evSeq := (x.evSeq + 1) % 65536 } else x) s.car.sessions } }

/-- One more firing in a report slot (R88). -/
def mergeReport (slots : KV Report) (src : Nat) (r : Report) : KV Report :=
  match KV.find slots src with
  | some o => KV.set slots src { o with count := satNat 16 (o.count + 1), obj := r.obj, detail := r.detail, late := r.late }
  | none => KV.set slots src r

/-- A source fires (R82, R88): sticky bit, count, and the report slots of the routes that carry it. -/
def State.fireWith (s : State) (src obj detail : Nat) (late : Bool) : State :=
  let deliver := s.evEnabled src && s.evGroupOn (src / 16)
  let (sec, ns, notime) := s.stamp
  let r : Report := { obj := obj % 2 ^ 32, detail := detail % 2 ^ 32, sec := sec, ns := ns, notime := notime,
                      late := late, order := s.ev.order }
  let toSpi := deliver && s.evRoute src F.EVT_EV_ROUTE_SPI && s.on F.SPI_CTL_EN
  let toUart := deliver && s.evRoute src F.EVT_EV_ROUTE_UART && s.on F.UART_CTL_EN
  let toNet := deliver && s.evRoute src F.EVT_EV_ROUTE_NET
  let s := { s with ev := { s.ev with
      sticky := if s.ev.sticky.contains src then s.ev.sticky else src :: s.ev.sticky
      counts := KV.put 0 s.ev.counts src (satNat 32 (KV.get 0 s.ev.counts src + 1))
      spi := if toSpi then mergeReport s.ev.spi src r else s.ev.spi
      uart := if toUart then mergeReport s.ev.uart src r else s.ev.uart
      order := s.ev.order + 1 } }
  if toNet then s.sendNetReport r src else s

/-- A source fires for a unit's object with a detail word. -/
def State.fire (s : State) (src obj detail : Nat) : State := s.fireWith src obj detail false

/-- The raw bit of a condition source (R82). -/
def State.setRaw (s : State) (src : Nat) (on : Bool) : State :=
  { s with ev := { s.ev with
      raw := if on then (if s.ev.raw.contains src then s.ev.raw else src :: s.ev.raw)
             else s.ev.raw.filter (· ≠ src) } }

/-- A condition begins: its raw bit rises and the source fires, unless it already holds (R82). -/
def State.raise (s : State) (src obj detail : Nat) : State :=
  if s.ev.raw.contains src then s else (s.setRaw src true).fire src obj detail

/-- The window of digests is flagged (R429). -/
def State.flagWindow (s : State) : State := { s with pair := { s.pair with flag := true } }

/-- The object ID of an event no unit applies to (R89). -/
def noUnit : Nat := 0xFFFFFFFF

/-! ## The Watermark Log (R91 to R96) -/

/-- How many entries at the head of `l` stand on one page: consecutive sequence numbers, at most `n`. -/
def pageRun : Nat → List LogEntry → Nat
  | 0, _ => 0
  | _, [] => 0
  | n + 1, e :: l =>
    match l with
    | [] => 1
    | e' :: _ => if e'.seq = (e.seq + 1) % 2 ^ 32 then 1 + pageRun n l else 1

/-- A commit starts with the oldest uncommitted entry, or is merged into the running one (R94). Nothing starts
where nothing is uncommitted, or between the fall and the rise of PFW_N (R97). -/
def State.startCommit (s : State) : State :=
  match s.log.commit with
  | some c => { s with log := { s.log with commit := some { c with again := true } } }
  | none =>
    if s.log.ram.isEmpty || s.pins.pfwLow then s
    else { s with log := { s.log with
        commit := some { covers := s.log.ram.length, page := pageRun 64 s.log.ram }
        pfwLast := false } }

/-- The list without its element at place `n`. -/
def dropAt {α : Type} : Nat → List α → List α
  | _, [] => []
  | 0, _ :: l => l
  | n + 1, a :: l => a :: dropAt n l

/-- Room for one more entry: with 4,096 uncommitted, the oldest one that is not on the page of a running commit
is overwritten, LOST counts and LOG_WRAP fires (R95). -/
def State.logRoom (s : State) : State :=
  if s.log.ram.length < 4096 then s
  else
    let k := match s.log.commit with
      | some c => c.page
      | none => 0
    let cm := s.log.commit.map (fun c => { c with covers := if k < c.covers then c.covers - 1 else c.covers })
    ({ s with log := { s.log with ram := dropAt k s.log.ram, lost := satNat 16 (s.log.lost + 1), commit := cm } }).fire
      Ev.LOG_WRAP (objId 0 4 0) 1

/-- Kinds of entries (Table 4.4). -/
def kREG : Nat := 1
def kCMD : Nat := 2
def kSTATE : Nat := 3
def kDENIED : Nat := 4

/-- One Watermark Log entry (R91): room is made, the entry takes the next sequence number, and 2,048
uncommitted entries start a commit (R94). -/
def State.logE (s : State) (origin oid kind : Nat) (addr : Bool) (obj old new : Nat) : State :=
  let s := s.logRoom
  let (sec, ns, notime) := s.stamp
  let e : LogEntry := { seq := s.log.next, sec := sec, ns := ns, notime := notime, origin := origin, kind := kind,
                        oid := oid, addr := addr, obj := obj % 2 ^ 32, old := old % 65536, new := new % 65536 }
  let s := { s with log := { s.log with ram := s.log.ram ++ [e], next := (s.log.next + 1) % 2 ^ 32 } }
  if s.log.ram.length ≥ 2048 && s.log.commit.isNone then s.startCommit else s

/-- A STATE entry of an autonomous change, on an object. -/
def State.logState (s : State) (origin obj old new : Nat) : State := s.logE origin 0 kSTATE false obj old new

/-- The running configuration has changed since the last load or STORE (R107). -/
def State.modified (s : State) : State := s.setF F.NVS_BANKS_MODIFIED 1

/-- A REG entry (R61), which also marks the configuration as modified since the last load or STORE (R107). -/
def State.logReg (s : State) (o : Origin) (addr old new : Nat) : State :=
  (s.logE o.code o.id kREG true addr old new).modified

/-- A DENIED entry (R28, R54): a register write has no opcode and carries its attempted data. -/
def State.logDenied (s : State) (o : Origin) (addr : Bool) (obj opcode data : Nat) : State :=
  s.logE o.code o.id kDENIED addr obj opcode data

/-- The 32 bytes of an entry (Table 4.4); an entry whose stored CRC is bad returns a CRC that does not match. -/
def LogEntry.bytes (e : LogEntry) : List Byte :=
  let b := leBytes 4 e.seq ++ leBytes 6 e.sec ++ leBytes 4 e.ns ++ leBytes 1 e.origin ++ leBytes 1 e.kind ++
    leBytes 2 e.oid ++ leBytes 2 (b2n e.notime + 2 * b2n e.addr) ++ leBytes 4 e.obj ++ leBytes 2 e.old ++
    leBytes 2 e.new ++ leBytes 2 0
  b ++ leBytes 2 (if e.crcBad then Nat.xor (crc16 b) 1 else crc16 b)

/-- The entries held, oldest first: the ring and then RAM (R98). -/
def State.logHeld (s : State) : List LogEntry := s.log.ring ++ s.log.ram

/-! ## Origins -/

/-- Origin codes of autonomous changes (Table 4.5). -/
def orgSelector : Nat := 0x10
def orgCalender : Nat := 0x11
def orgProtection : Nat := 0x12
def orgBoot : Nat := 0x13
def orgPtp : Nat := 0x14
def orgPower : Nat := 0x15
def orgIntegrity : Nat := 0x16

/-- Origin and privilege of a register access by its way in (R54, R56, Table 2.8). -/
def Via.origin : Via → Origin
  | .bar0 => { code := 1 }
  | .bar4 => { code := 2, priv := true }
  | .spi false => { code := 3 }
  | .spi true => { code := 4, priv := true }

/-- The carrier number a register access counts on (R55). -/
def Via.carrier : Via → Nat
  | .bar0 => 0
  | .bar4 => 0
  | .spi _ => 1

/-- The snapshot reader of a register access (R64). -/
def Via.reader : Via → Reader
  | .bar0 => .bar0
  | .bar4 => .bar4
  | .spi _ => .spi

/-- A reader's number. -/
def Reader.idx : Reader → Nat
  | .bar0 => 0
  | .bar4 => 1
  | .spi => 2
  | .interp => 3

end Sys2Proof.Machine
end

