-- ==== Sys2Proof/Machine/Operands.lean ====
section
/-!
DEFINITION. Machine/Operands.lean: the operand forms of a request: parsing a framed packet (R33, R36), the
parameter forms the operations share (object IDs, patch points, R7, R8, R11), the outcome of an operation and
the writing of its reply on its carrier (R34, R35, R44, R45, R48, R50).
-/

namespace Sys2Proof.Machine

/-! ## Status codes (R37, Table 2.3) -/

def stOK : Nat := 0
def stBUSY : Nat := 1
def stBAD_CRC : Nat := 2
def stBAD_LENGTH : Nat := 3
def stBAD_OPCODE : Nat := 4
def stBAD_PARAM : Nat := 5
def stBAD_STATE : Nat := 6
def stDENIED : Nat := 7
def stBAD_ADDR : Nat := 8
def stTIME_PAST : Nat := 9
def stNO_RESOURCE : Nat := 10
def stNOT_FOUND : Nat := 11
def stNVM_FAIL : Nat := 12
def stTIMEOUT : Nat := 13
def stPARTNER : Nat := 14
def stLOW_POWER : Nat := 15

/-- The name of a status (Table 2.3), as the UART answers it. -/
def stName (st : Nat) : String :=
  ["OK", "BUSY", "BAD_CRC", "BAD_LENGTH", "BAD_OPCODE", "BAD_PARAM", "BAD_STATE", "DENIED", "BAD_ADDR",
   "TIME_PAST", "NO_RESOURCE", "NOT_FOUND", "NVM_FAIL", "TIMEOUT", "PARTNER", "LOW_POWER"].getD st ""

/-! ## Framed packets (R33, R36) -/

/-- A packet's header fields, parameters and CRC word, as framed. -/
structure Packet where
  flags : Nat
  version : Nat
  seq : Nat
  opcode : Nat
  plen : Nat
  session : Nat
  reserved : Nat
  params : List Byte
  crc : Nat
  crcOk : Bool
  deriving DecidableEq, Repr

/-- Step 1 of Table 2.2 on a unit whose header and parameters are `h`: at least 16 bytes, sync 0xC5 0x4B. -/
def frameOk (h : List Byte) : Bool := decide (16 ≤ h.length) && leAt h 0 2 == 0x4BC5

/-- The packet of header and parameter bytes `h` and a CRC word. -/
def parsePacket (h : List Byte) (crc : Nat) : Packet :=
  { flags := leAt h 3 1, version := leAt h 2 1, seq := leAt h 4 2, opcode := leAt h 6 2, plen := leAt h 8 2,
    session := leAt h 10 2, reserved := leAt h 12 4, params := h.drop 16, crc := crc,
    crcOk := crc32c h == crc }

/-- Step 2 of Table 2.2: the parameter length is at most 4,080 and equals the framed parameter bytes. -/
def Packet.lengthOk (p : Packet) : Bool := decide (p.plen ≤ 4080) && p.plen == p.params.length

/-- Step 5 of Table 2.2; answers the offset of the first byte at fault. -/
def Packet.headerFault (p : Packet) (net : Bool) : Option Nat :=
  if p.version != 2 then some 2
  else if p.flags % 4 != 0 || p.flags ≥ 8 then some 3
  else if !net && p.session != 0 then some 10
  else if p.reserved != 0 then
    some (12 + ((List.range 4).find? (fun i => p.reserved / 256 ^ i % 256 != 0)).getD 0)
  else none

/-! ## Objects and patch points -/

/-- The parts of an object ID (R7): subsystem, unit, element. -/
def objParts (o : Nat) : Nat × Nat × Nat := (o / 2 ^ 24 % 256, o / 2 ^ 16 % 256, o % 65536)

/-- Whether a patch point is valid (R8, Table 0.5). -/
def patchValid (p : Nat) : Bool :=
  decide (p < 0x2400) || (decide (0x2400 ≤ p) && decide (p ≤ 0x240F)) ||
  (decide (0x2500 ≤ p) && decide (p ≤ 0x2507)) || (decide (0x3000 ≤ p) && decide (p ≤ 0x4FFF)) ||
  (decide (0x5000 ≤ p) && decide (p ≤ 0x53FF)) || (decide (0x6000 ≤ p) && decide (p ≤ 0x603F)) ||
  p == 0xFFFF

/-- A request parameter of `k` bytes at parameter offset `o`. -/
def Req.field (q : Req) (o k : Nat) : Nat := leAt q.params o k

/-- The packet offset of the first byte of a reserved parameter field that is not 0 (R34, log entry 13). -/
def Req.firstSet (q : Req) (o k : Nat) : Nat := 16 + o + ((List.range k).find? (fun i => q.field (o + i) 1 != 0)).getD 0

/-- The object ID a request names first. -/
def Req.obj (q : Req) : Nat := q.field 0 4

/-! ## Outcomes of an operation -/

/-- What an operation answers: done, with its reply parameters and the object its CMD entry names where it
changed state (R40); failed with a status, the offset of the byte at fault and a detail word (R34), nothing
changed; failed with the traces that the failure leaves; denied on an object (R28, R54); or begun as a long
operation (R53). -/
inductive OpOut where
  | done (s : State) (params : List Byte) (log : Option Nat)
  | fail (status off detail : Nat)
  | failWith (s : State) (status off detail : Nat)
  | denied (obj : Nat)
  | long (s : State)
  deriving DecidableEq, Repr

/-- Failure with no single byte at fault. -/
def OpOut.err (status : Nat) : OpOut := .fail status 0xFFFF 0

/-- BAD_PARAM at a request byte. -/
def OpOut.bad (off : Nat) : OpOut := .fail stBAD_PARAM off 0

/-- An operation's fault when its parameter length does not fit (R34): BAD_PARAM at the length field. -/
def badLen : OpOut := .fail stBAD_PARAM 8 0

/-- Object-ID checks shared by every command that names one: the opcode's subsystem, a unit of Table 1.1, and
0xFF only where allowed (R11, R38, R39). Answers the offset at fault. -/
def objFault (sub : Nat) (allowAll : Bool) (o : Nat) : Option Nat :=
  let (s, u, _) := objParts o
  if s != sub then some 16
  else if u == 0xFF then (if allowAll then none else some 16)
  else if unitExists s u then none else some 16

/-! ## Text of the service UART (R50) -/

/-- One hexadecimal digit. -/
def hexDigit (n : Nat) : String := ["0", "1", "2", "3", "4", "5", "6", "7", "8", "9", "A", "B", "C", "D", "E", "F"].getD n "0"

/-- `k` hexadecimal digits of `v`, highest first. -/
def hexN : Nat → Nat → String
  | 0, _ => ""
  | k + 1, v => hexN k (v / 16) ++ hexDigit (v % 16)

/-- A 32-bit value as eight digits in two groups. -/
def hex32 (v : Nat) : String := hexN 4 (v / 65536) ++ "_" ++ hexN 4 v

/-- Tokens separated by single spaces. -/
def spaced : List String → String
  | [] => ""
  | [a] => a
  | a :: l => a ++ " " ++ spaced l

/-- Reply parameters as 32-bit words, `n` of them, and the rest as bytes. -/
def wordTokens : Nat → List Byte → List String
  | 0, l => l.map (fun b => hexN 2 b.toNat)
  | n + 1, l => if l.length < 4 then l.map (fun b => hexN 2 b.toNat)
                else hex32 (leNat (l.take 4)) :: wordTokens n (l.drop 4)

/-- The tokens of an OK reply: a management operation's words field by field, every other operation's block as
bytes (R50, Example 2.2; log entry 7). -/
def replyTokens (opcode : Nat) (params : List Byte) : List String :=
  if opcode == 0x0010 || opcode == 0x0011 || opcode == 0x0040 then wordTokens 1 params
  else if opcode == 0x0030 then wordTokens 64 params
  else if opcode == 0x0060 then wordTokens 3 params
  else wordTokens 0 params

/-- The reply line of a UART request. -/
def uartReply (status opcode : Nat) (params : List Byte) : String :=
  if status = 0 then spaced (["OK", "0000", "OK"] ++ replyTokens opcode params)
  else spaced ["ERR", hexN 4 status, stName status]

/-! ## Replies -/

/-- Consecutive 32-bit words of a buffer written from bytes, from word `i` on. -/
def putWords : Nat → KV Nat → Nat → List Byte → KV Nat
  | 0, m, _, _ => m
  | n + 1, m, i, l => if l.isEmpty then m else putWords n (KV.put 0 m i (leNat (l.take 4))) (i + 1) (l.drop 4)

/-- A request for an MSI-X vector (R87): sent at once where the vector is unmasked, else its pending bit is set.
Nothing is requested while MSI-X is off or the endpoint's messages are stopped (R485). -/
def State.msixRequest (s : State) (v : Nat) : State :=
  if !s.ev.msixOn || !s.on F.HST_PCIE_CTL_EN then s
  else if s.ev.msixUnmasked.contains v then s.emit (.msix v)
  else { s with ev := { s.ev with msixBits := if s.ev.msixBits.contains v then s.ev.msixBits else v :: s.ev.msixBits } }

/-- The reply packet of a request (R33, R34): REPLY flag, sequence, opcode and session copied. -/
def Req.replyPacket (q : Req) (status : Nat) (params : List Byte) : List Byte :=
  packetBytes 1 q.seq q.opcode q.session status params

/-- The bytes of a reply before its CRC. -/
def Req.replyBody (q : Req) (status : Nat) (params : List Byte) : List Byte :=
  let p := q.replyPacket status params
  p.take (p.length - 4)

/-- The mailbox's reply area, length and CRC written (R44). -/
def State.mbxFill (s : State) (body : List Byte) : State :=
  ({ s with car := { s.car with mbxRep := putWords 1024 s.car.mbxRep 0 body, mbxRspCrc := crc32c body } }).setF
    F.MBX_REPLY_LEN_LEN body.length

/-- REPLY_READY rises (REPLY_OVW where a reply was still held), with its MSI-X vector (R35, R44). -/
def State.mbxReady (s : State) : State :=
  let s := if s.on F.MBX_STATUS_REPLY_READY then s.setF F.MBX_STATUS_REPLY_OVW 1 else s
  let s := s.setF F.MBX_STATUS_REPLY_READY 1
  if s.on F.MBX_CTL_REPLY_MSI then s.msixRequest (s.getF F.MBX_CTL_REPLY_VEC) else s

/-- A reply written on its carrier (R35, R44, R45, R48, R50): the mailbox's reply area; the SPI's held reply; a datagram to the
request's source; a UART line. NOREPLY writes none, but on the UART. -/
def State.reply (s : State) (q : Req) (status : Nat) (params : List Byte) : State :=
  let pkt := q.replyPacket status params
  match q.carrier with
  | .mailbox => if q.noreply then s else (s.mbxFill (q.replyBody status params)).mbxReady
  | .spi => if q.noreply then s else { s with car := { s.car with spiReply := some pkt } }
  | .net =>
    if q.noreply then s
    else s.emit (.datagram q.session q.srcAddr q.srcPort (tagged (KV.get {} s.car.sessions q.session) q.session pkt))
  | .uart => { (s.emit (.uart (uartReply status q.opcode params))) with car := { s.car with uartBusy := true } }

/-- The four parameter bytes of a reply with a status other than OK (R34). -/
def errParams (off detail : Nat) : List Byte := leBytes 2 off ++ leBytes 2 detail

/-- A request answered with a status other than OK or BUSY: counted, then replied (R35, R55). -/
def State.replyErr (s : State) (q : Req) (status off detail : Nat) : State :=
  (s.incSat (F.CAR_ERR q.carrier.idx)).reply q status (errParams off detail)

/-- A request answered BUSY (R52, R53): counted as BUSY_REJ, BUSY_REJECT fires with carrier and operation. -/
def State.replyBusy (s : State) (q : Req) (index : Nat) : State :=
  ((s.incSat (F.CAR_BUSY_REJ q.carrier.idx)).fire Ev.BUSY_REJECT (objId 0 1 0) (q.carrier.idx + 256 * index)).reply q
    stBUSY (errParams 0xFFFF index)

/-- The object of an entry made by a command that names none: the spec states no value (Table 4.6, log entry 14). -/
def noObject (op : Nat) : Nat := (Config.noObject op).toNat

/-- A privileged operation refused (R28, R54): logged as DENIED with the command's object, and DENIED fires for its unit. -/
def State.denyCommand (s : State) (q : Req) (obj : Nat) : State :=
  let s := s.logDenied q.origin false obj q.opcode 0
  s.fire Ev.DENIED (obj / 65536 * 65536) obj

/-- What follows an operation (R26, R34, R40, R55): its CMD entry where it changed state, its counter, its
reply; a long operation replies when it ends. -/
def State.finish (q : Req) (s0 : State) : OpOut → State
  | .done s params log =>
    let s := match log with
      | some obj => s.logE q.origin.code q.origin.id kCMD false obj q.opcode q.crc
      | none => s
    (s.incSat (F.CAR_RX_OK q.carrier.idx)).reply q stOK params
  | .fail st off d => s0.replyErr q st off d
  | .failWith s st off d => s.replyErr q st off d
  | .denied obj => (s0.denyCommand q obj).replyErr q stDENIED 0xFFFF 0
  | .long s => s

/-- Requests that wait in slots when a long operation begins are answered BUSY (R53). -/
def State.answerWaiting (s : State) (idx : Nat) : State :=
  s.car.slots.foldl (fun s p => s.replyBusy p.2 idx) { s with car := { s.car with slots := [] } }

/-- A long operation begins (R53). -/
def State.beginLong (s : State) (l : LongOp) : State :=
  ({ s with car := { s.car with longOp := some l } }).answerWaiting l.idx

/-- The status an outcome answers. -/
def OpOut.status : OpOut → Nat
  | .done _ _ _ => stOK
  | .fail st _ _ => st
  | .failWith _ st _ _ => st
  | .denied _ => stDENIED
  | .long _ => stOK

/-- A long operation ends: busy ends, its reply is written as any other, and LONG_DONE fires (R53, Table 4.2). -/
def State.endLong (s : State) (l : LongOp) (f : State → OpOut) : State :=
  let s := { s with car := { s.car with longOp := none, executing := none } }
  let o := f s
  (State.finish l.req s o).fire Ev.LONG_DONE (objId 0 1 0) (l.idx + 256 * l.req.carrier.idx + 65536 * o.status)

end Sys2Proof.Machine
end

