-- ==== Sys2Proof/Machine/Flags.lean ====
section
/-!
DEFINITION. Machine/Flags.lean: every flag the block derives from its state: what is pending on a route and the
pins that follow it (R86), MSI-X requests at each transition into pending (R87), HOST_BUSY (R53) and PAIR_OK
(R406).
-/

namespace Sys2Proof.Machine

/-- Whether any source is pending on a route (R86). -/
def State.anyPending (s : State) (r : Nat → Nat → Fld) : Bool := s.ev.sticky.any (s.evPending r)

/-- Whether a source is pending on route IRQ0, IRQ1 or MSI-X, or has a report waiting (EVT.G0.SUMMARY, R85). -/
def State.pendAnyRoute (s : State) (src : Nat) : Bool :=
  s.evPending F.EVT_EV_ROUTE_IRQ0 src || s.evPending F.EVT_EV_ROUTE_IRQ1 src ||
  s.evPending F.EVT_EV_ROUTE_MSIX src || s.evPending F.EVT_EV_ROUTE_SPI src ||
  s.evPending F.EVT_EV_ROUTE_NET src || s.evPending F.EVT_EV_ROUTE_UART src

/-- EVT.G0.SUMMARY: bit g for a group with a source pending on any route (R85). -/
def State.summary (s : State) : Nat :=
  (List.range 16).foldl (fun a g =>
    a + (if s.ev.sticky.any (fun src => src / 16 == g && s.pendAnyRoute src) then 2 ^ g else 0)) 0

/-- The level of IRQ0_N: true while it is driven low (R86). -/
def State.irq0Level (s : State) : Bool := s.anyPending F.EVT_EV_ROUTE_IRQ0

/-- The level of IRQ1_N: true while it is driven low (R86). -/
def State.irq1Level (s : State) : Bool := s.anyPending F.EVT_EV_ROUTE_IRQ1

/-- The level of HOST_BUSY: from power-on reset until command-ready, and while a long operation runs (R53). -/
def State.busyLevel (s : State) : Bool := s.car.longOp.isSome || !s.pwr.cmdReady

/-- The level of PAIR_OK (R406): high while the role logic reports it. -/
def State.pairOkLevel (s : State) : Bool := s.on F.ROLE_STATUS_OK_OUT

/-- The sources pending on MSI-X now. -/
def State.msixPending (s : State) : List Nat := s.ev.sticky.filter (s.evPending F.EVT_EV_ROUTE_MSIX)

/-- The MSI-X requests of sources that have become pending since the last settling (R87). -/
def State.settleMsix (s : State) : State :=
  let now := s.msixPending
  let fresh := now.filter (fun src => !s.ev.msixPend.contains src)
  let s := fresh.foldl (fun s src => s.msixRequest (s.getF (F.EVT_EV_ROUTE_VEC (src / 16) (src % 16)))) s
  { s with ev := { s.ev with msixPend := now } }

/-- The pins that follow the state, brought in line with it. -/
def State.settlePins (s : State) : State :=
  { s with pins := { s.pins with
      irq0 := s.irq0Level, irq1 := s.irq1Level, hostBusy := s.busyLevel, pairOk := s.pairOkLevel } }

end Sys2Proof.Machine
end

