-- ==== Sys2Proof/Machine/Time.lean ====
section
/-!
DEFINITION. Machine/Time.lean: the timebase and the two PTP domains (chapter 5, R108 to R133).
-/

namespace Sys2Proof.Machine

/-! ## Domains -/

/-- Domain A is 0, Domain B is 1. -/
def State.dom (s : State) (d : Nat) : Domain := if d = 0 then s.time.domA else s.time.domB

/-- The state with a domain changed. -/
def State.setDom (s : State) (d : Nat) (x : Domain) : State :=
  if d = 0 then { s with time := { s.time with domA := x } } else { s with time := { s.time with domB := x } }

/-- PTP port state codes (R118). -/
def psFAULTY : Nat := 2
def psDISABLED : Nat := 3
def psLISTENING : Nat := 4
def psPRE_MASTER : Nat := 5
def psMASTER : Nat := 6
def psPASSIVE : Nat := 7
def psUNCALIBRATED : Nat := 8
def psSLAVE : Nat := 9

/-- Servo state codes (R122, Table 5.4). -/
def svOFF : Nat := 0
def svACQUIRE : Nat := 1
def svLOCKED : Nat := 2
def svHOLD : Nat := 3

/-- A domain's port state and servo state. -/
def State.ptpPort (s : State) (d : Nat) : Nat := s.getF (F.D_STATE_PORT d)
def State.ptpServo (s : State) (d : Nat) : Nat := s.getF (F.D_STATE_SERVO d)

/-- Whether a domain is the active time-of-day source (R126). -/
def State.isTod (s : State) (d : Nat) : Bool := s.getF F.TB_STATUS_TOD_ACT == d + 1

/-- Whether a MAC port runs: enabled, link up, powered in the present state (R118): RUN, or LISTEN on the
LISTEN port. -/
def State.portRuns (s : State) (p : Nat) : Bool :=
  s.on (F.MAC_CTL_EN p) && s.on (F.MAC_STATUS_LINK p) &&
  (s.getF F.PWR_STATUS_STATE == 3 || (s.getF F.PWR_STATUS_STATE == 2 && s.getF F.PWR_CTL_LISTEN_PORT == p))

/-- LOCK_THRESH in 2^-16 ns (R133). -/
def State.lockThresh (s : State) (d : Nat) : Int :=
  65536 * ([100, 250, 1000, 10000].getD (s.getF (F.D_SERVO_LOCK_THRESH d)) 0 : Nat)

/-- STEP_THRESH in 2^-16 ns (R133). -/
def State.stepThresh (s : State) (d : Nat) : Int :=
  65536 * (10 ^ (3 + s.getF (F.D_SERVO_STEP_THRESH d)) : Nat)

/-- The servo state of a domain changes (R122): event, STATE entry; ACQUIRE starts its runs anew. -/
def State.setServo (s : State) (d v : Nat) : State :=
  let old := s.ptpServo d
  if old = v then s
  else
    let s := s.setF (F.D_STATE_SERVO d) v
    let s := s.fire (Ev.A_SERVO + d) (objId 1 (d + 1) 0) (v + 16 * old)
    let s := s.logState orgPtp (objId 1 (d + 1) 1) old v
    s.setDom d { s.dom d with lowRun := 0, highRun := 0, outRun := 0 }

/-- The port state of a domain changes (R118, R122): event, STATE entry; outside SLAVE and UNCALIBRATED the
servo is OFF, and entering UNCALIBRATED acquires. -/
def State.setPtpPort (s : State) (d v : Nat) : State :=
  let old := s.ptpPort d
  if old = v then s
  else
    let s := s.setF (F.D_STATE_PORT d) v
    let s := s.fire (Ev.A_STATE + d) (objId 1 (d + 1) 0) (v + 16 * old)
    let s := s.logState orgPtp (objId 1 (d + 1) 0) old v
    let left := (old == psSLAVE || old == psMASTER) && v != psSLAVE && v != psMASTER
    let s := if left then { s with str := { s.str with tsLeft := d :: s.str.tsLeft.filter (· != d) } } else s
    if v = psUNCALIBRATED then s.setServo d svACQUIRE
    else if v = psSLAVE then s
    else s.setServo d svOFF

/-- Both averages of a domain restart (R121, R124). -/
def State.restartAverages (s : State) (d : Nat) : State :=
  s.setDom d { s.dom d with offs := [], delays := [], outRun := 0, lowRun := 0, highRun := 0 }

/-- The grandmaster a domain's selected master announces changes (R121, R122, Table 5.5): its registers, the
event with the new identity, the STATE entry, new averages, and ACQUIRE where the servo runs. -/
def State.setGm (s : State) (d : Nat) (a : Option Announce) : State :=
  let old := s.get64 (F.D_GM_ID_LO d) (F.D_GM_ID_HI d)
  let gm := match a with
    | some x => x.gm
    | none => 0
  let x := a.getD { gm := 0, prio1 := 0, cls := 0, acc := 0, variance := 0, prio2 := 0 }
  let s := s.set64 (F.D_GM_ID_LO d) (F.D_GM_ID_HI d) gm
  let s := s.setF (F.D_GM_QUAL_CLASS d) x.cls
  let s := s.setF (F.D_GM_QUAL_ACCURACY d) x.acc
  let s := s.setF (F.D_GM_QUAL_PRIORITY1 d) x.prio1
  let s := s.setF (F.D_GM_QUAL_PRIORITY2 d) x.prio2
  let s := s.setF (F.D_STATE_STEPS_REMOVED d) x.steps
  let same := s.get64 (F.D_GM_ID_LO 0) (F.D_GM_ID_HI 0) == s.get64 (F.D_GM_ID_LO 1) (F.D_GM_ID_HI 1) &&
    s.get64 (F.D_GM_ID_LO 0) (F.D_GM_ID_HI 0) != 0
  let s := (s.setF (F.D_STATE_SAME_GM 0) (b2n same)).setF (F.D_STATE_SAME_GM 1) (b2n same)
  if old = gm then s
  else
    let s := s.fire (Ev.A_GM_CHANGE + d) (objId 1 (d + 1) 0) (gm % 2 ^ 32)
    let s := s.logState orgPtp (objId 1 (d + 1) 2) (old % 65536) (gm % 65536)
    let s := s.restartAverages d
    if s.ptpServo d = svOFF then s else s.setServo d svACQUIRE

/-! ## The best-master algorithm (R117) -/

/-- The order of two number lists, first difference first. -/
def lexLt : List Nat → List Nat → Bool
  | [], [] => false
  | [], _ :: _ => true
  | _ :: _, [] => false
  | a :: l, b :: m => a < b || (a == b && lexLt l m)

/-- Whether a clock's data set is better than another's: by quality and identity, or by distance where both name
one grandmaster (IEEE 1588-2019). -/
def annBetter (a : Announce) (srcA : Nat) (b : Announce) (srcB : Nat) : Bool :=
  if a.gm = b.gm then lexLt [a.steps, srcA] [b.steps, srcB]
  else lexLt [a.prio1, a.cls, a.acc, a.variance, a.prio2, a.gm] [b.prio1, b.cls, b.acc, b.variance, b.prio2, b.gm]

/-- What a domain advertises of itself (R117): clockClass 255 with SLAVE_ONLY. -/
def State.ownAnnounce (s : State) (d : Nat) : Announce :=
  { gm := (s.dom d).ident, prio1 := s.getF (F.D_PRIO_PRIORITY1 d)
    cls := if s.on (F.D_CTL_SLAVE_ONLY d) then 255 else s.getF (F.D_QUAL_CLOCK_CLASS d)
    acc := s.getF (F.D_QUAL_CLOCK_ACCURACY d), variance := 0xFFFF, prio2 := s.getF (F.D_PRIO_PRIORITY2 d) }

/-- The best foreign master of a set. -/
def bestForeign : List Foreign → Option Foreign
  | [] => none
  | f :: l => match bestForeign l with
    | none => some f
    | some g => if annBetter g.ann g.src f.ann f.src then some g else some f

/-- A domain follows a master: its grandmaster's data, and UNCALIBRATED where it did not follow it before. -/
def State.followMaster (s : State) (d : Nat) (f : Foreign) : State :=
  let again := (s.dom d).sel == some f.src && (s.ptpPort d == psUNCALIBRATED || s.ptpPort d == psSLAVE)
  let s := s.setDom d { s.dom d with sel := some f.src }
  let s := if again then s else s.setPtpPort d psUNCALIBRATED
  s.setGm d (some f.ann)

/-- A domain follows no master and takes port state `v`. -/
def State.followNone (s : State) (d v : Nat) : State :=
  let s := s.setDom d { s.dom d with sel := none, sync := none, dreq := none, fwd := none }
  (s.setPtpPort d v).setGm d none

/-- The best-master decision of a domain (R117): slave of the best foreign master, candidate master through
PRE_MASTER, or PASSIVE with a clockClass of 1 to 127 that is not the best. With no foreign master a LISTENING
domain stays so. -/
def State.bmca (s : State) (d : Nat) : State :=
  let st := s.ptpPort d
  if st = psFAULTY || st = psDISABLED then s
  else
    let own := s.ownAnnounce d
    let master := fun (s : State) =>
      if st = psMASTER || st = psPRE_MASTER then s else s.followNone d psPRE_MASTER
    match bestForeign (s.dom d).foreign with
    | none =>
      if st = psLISTENING then s
      else if s.on (F.D_CTL_SLAVE_ONLY d) then s.followNone d psLISTENING
      else master s
    | some f =>
      if s.on (F.D_CTL_SLAVE_ONLY d) then s.followMaster d f
      else if annBetter own own.gm f.ann f.src then master s
      else if decide (1 ≤ own.cls) && decide (own.cls ≤ 127) then
        (if st = psPASSIVE then s else s.followNone d psPASSIVE)
      else s.followMaster d f

/-! ## Steps of the timebase (R124, R125) -/

/-- A difference in 2^-16 ns as whole ticks, ties towards zero (R124). -/
def State.wholeTicks (s : State) (v : Int) : Int :=
  let n := v.natAbs * s.tps
  let q := (2 * n + 65536000000000 - 1) / (2 * 65536000000000)
  if v < 0 then -(q : Int) else q

/-- Whole ticks in 2^-16 ns. -/
def State.ticksUnits (s : State) (t : Int) : Int := roundDiv (t * 65536000000000) s.tps

/-- Whole ticks in nanoseconds. -/
def State.ticksNs (s : State) (t : Int) : Int := roundDiv (t * 1000000000) s.tps

/-- The first grid tick at least one tick after now (R124). -/
def State.stepDue (s : State) : Nat :=
  let c := s.time.sec * s.rate + s.time.cyc
  (c + 3072 + 3071) / 3072

/-- The clock moved to grid position `t` ticks plus its place within the tick. -/
def State.setGrid (s : State) (cycles : Nat) : State :=
  { s with time := { s.time with sec := cycles / s.rate, cyc := cycles % s.rate } }

/-- The always-on seconds moved on (R112). -/
def State.aoTick (s : State) (n : Nat) : State :=
  s.set64 F.PWR_AO_SEC_LO F.PWR_AO_SEC_HI (s.aoSec + n)

/-- The clock moved on to the next tick boundary, unless it already stands on one not yet processed. A second
that passes moves the always-on seconds (log entry 6). -/
def State.toBoundary (s : State) : State :=
  if s.time.onGrid then s
  else
    let sec0 := s.time.sec
    let s1 := s.setGrid ((s.gridTick + 1) * 3072)
    let s2 := { s1 with time := { s1.time with onGrid := true } }
    if s2.time.sec > sec0 then s2.aoTick (s2.time.sec - sec0) else s2

/-- A step of whole ticks is applied (R124): the count moves, TIME_STEP fires, LAST_STEP and STEP_COUNT take it,
SET becomes 1, and both domains restart their averages. -/
def State.applyStep (s : State) (ticks : Int) : State :=
  let c : Int := (s.time.sec * s.rate + s.time.cyc : Nat)
  let s := s.setGrid (c + ticks * 3072).toNat
  let ns := s.ticksNs ticks
  let s := s.setF F.TB_STATUS_SET 1
  let s := s.fire Ev.TIME_STEP (objId 1 0 0) (unsigned 32 (satSigned 32 ns))
  let s := s.set64 F.TB_LAST_STEP_LO F.TB_LAST_STEP_HI (unsigned 64 ns)
  let s := s.incSat F.TB_STEP_COUNT
  (s.restartAverages 0).restartAverages 1

/-- The time-of-day domain's correction (R124): a step is set pending where the timebase is unset, or where the
filtered offset exceeds STEP_THRESH and STEP_POLICY allows it; anything else is slewed by the loop. -/
def State.correct (s : State) (d : Nat) (first : Int) : State :=
  if !s.isTod d || s.time.step.isSome then s
  else
    let filt := (s.dom d).filt
    let set := s.on F.TB_STATUS_SET
    let pol := s.getF (F.D_CTL_STEP_POLICY d)
    let off := if set then filt else first
    let allowed := !set || (decide ((filt.natAbs : Int) > s.stepThresh d) &&
      (pol == 1 || (pol == 0 && !(s.dom d).everLocked)))
    let t := s.wholeTicks (-off)
    if allowed && t != 0 then
      { s with time := { s.time with
          step := some { ticks := t, due := s.stepDue, dom := d }
          residual := -off - s.ticksUnits t } }
    else { s with time := { s.time with residual := -off } }

/-! ## Offsets and delays (R120, R121) -/

/-- The average of a list of values, rounded towards minus infinity (log entry 8). -/
def avg (l : List Int) : Int := if l.isEmpty then 0 else l.foldl (· + ·) 0 / l.length

/-- One offset of a domain (R121, R122): the outlier rule while LOCKED, the moving average, the registers, the
servo's transitions, and the correction where it is the time-of-day domain. -/
def State.takeOffset (s : State) (d : Nat) (o : Int) : State :=
  let x := s.dom d
  let lt := s.lockThresh d
  let outlier := s.ptpServo d == svLOCKED && decide ((o - x.filt).natAbs > 8 * lt)
  let s := s.incSat (F.D_SYNC_RX d)
  if outlier && x.outRun < 4 then
    (s.setDom d { x with outRun := x.outRun + 1 }).incSat (F.D_OUTLIERS d)
  else
    let offs := (o :: (if outlier then [] else x.offs)).take (2 ^ s.getF (F.D_SERVO_OFFSET_FILT d))
    let filt := avg offs
    let low := decide ((filt.natAbs : Int) < lt)
    let high := decide ((filt.natAbs : Int) ≥ 4 * lt)
    let s := if s.ptpServo d = svHOLD then s.setServo d svACQUIRE else s
    let x := s.dom d
    let lowRun := if low then x.lowRun + 1 else 0
    let highRun := if high then x.highRun + 1 else 0
    let s := s.setDom d { x with offs := offs, filt := filt, outRun := 0, lowRun := lowRun, highRun := highRun }
    let s := s.set64 (F.D_OFFSET_LO d) (F.D_OFFSET_HI d) (unsigned 64 filt)
    let s :=
      if s.ptpServo d = svACQUIRE && 16 ≤ lowRun then
        let s := s.setServo d svLOCKED
        let s := s.setDom d { s.dom d with everLocked := true }
        if s.ptpPort d = psUNCALIBRATED then s.setPtpPort d psSLAVE else s
      else if s.ptpServo d = svLOCKED && 4 ≤ highRun then s.setServo d svACQUIRE
      else s
    s.correct d o

/-- One path or link delay sample of a domain (R121). -/
def State.takeDelay (s : State) (d : Nat) (v : Int) : State :=
  let x := s.dom d
  let l := (v :: x.delays).take (2 ^ s.getF (F.D_SERVO_DELAY_FILT d))
  let f := avg l
  let s := s.setDom d { x with delays := l, delay := f, delayKnown := true, missRun := 0, dreq := none }
  s.setF (F.D_MPD d) (if f < 0 then 0 else satNat 32 f.toNat)

/-- Total asymmetry α in 2^-16 ns (R120): the port's value and the domain's tracked correction. -/
def State.alpha (s : State) (d : Nat) : Int :=
  let p := s.getF (F.D_CTL_PORT d)
  signed 32 (s.getF (F.TSU_ASYM_LO p) + 65536 * s.getF (F.TSU_ASYM_HI p)) + 65536 * s.getI (F.D_ASYM_ADJ d)

/-- A complete Sync (R120): the forward difference is kept for the next delay sample, and an offset results once
a delay is known. -/
def State.takeSync (s : State) (d : Nat) (t1 t2 corr : Int) : State :=
  let f := t2 - t1 - corr
  let s := s.setDom d { s.dom d with fwd := some f, sync := none }
  if (s.dom d).delayKnown then s.takeOffset d (f - (s.dom d).delay - s.alpha d) else s

/-- The device's seconds L of R111. -/
def State.wireL (s : State) : Nat := if s.on F.TB_STATUS_SET then s.now.sec else 0

/-- The 64-bit seconds of a 48-bit wire value (R111). -/
def extendSec (l w : Nat) : Nat :=
  let r : Int := (l / 2 ^ 48 * 2 ^ 48 + w % 2 ^ 48 : Nat)
  let r := if r > (l : Int) + 2 ^ 47 then r - 2 ^ 48 else if r < (l : Int) - 2 ^ 47 then r + 2 ^ 48 else r
  r.toNat

/-- The time a message carries, in 2^-16 ns, with its seconds extended. -/
def State.msgTime (s : State) (m : PtpMsg) : Int :=
  ({ sec := extendSec s.wireL m.sec, ns := m.ns } : Tai).units

/-- The enabled domain a message on a port belongs to: its port binding and domain number (R114). -/
def State.domainOf (s : State) (port dom : Nat) : Option Nat :=
  [0, 1].find? (fun d => s.on (F.D_CTL_EN d) && s.getF (F.D_CTL_PORT d) == port && s.getF (F.D_ID_DOMAIN_NUM d) == dom)

/-- A message judged (R114): the domain it belongs to, and whether it is of version 2 and of the type expected;
one that is not is counted as discarded. -/
def State.judgePtp (s : State) (port : Nat) (m : PtpMsg) (types : List Nat) : Option Nat × State :=
  match s.domainOf port m.dom with
  | none => (none, s)
  | some d =>
    if m.version = 2 && types.contains m.msgType then (some d, s)
    else (none, s.incSat (F.D_DISCARDED d))

/-- Whether a domain takes times from a message's sender: it is the selected master, and the port is
UNCALIBRATED or SLAVE. -/
def State.fromMaster (s : State) (d : Nat) (m : PtpMsg) : Bool :=
  (s.dom d).sel == some m.src && (s.ptpPort d == psUNCALIBRATED || s.ptpPort d == psSLAVE)

/-- Ingress time at the reference plane (R120). -/
def State.planeIn (s : State) (port : Nat) (raw : Tai) : Int := raw.units - s.getF (F.TSU_EFF_ING port)

/-- Egress time at the reference plane (R120). -/
def State.planeOut (s : State) (port : Nat) (raw : Tai) : Int := raw.units + s.getF (F.TSU_EFF_EGR port)

/-- PTP_SYNC_RX (R120): a one-step Sync yields an offset, a two-step one waits for its Follow_Up. -/
def ptpSyncRx (port : Fin 4) (m : PtpMsg) (raw : Tai) (s : State) : State :=
  match s.judgePtp port m [0] with
  | (none, s) => s
  | (some d, s) =>
    if !s.fromMaster d m then s
    else
      let t2 := s.planeIn port raw
      if m.twoStep then s.setDom d { s.dom d with sync := some (m.seq, m.src, t2, m.corr) }
      else s.takeSync d (s.msgTime m) t2 m.corr

/-- PTP_FOLLOW_UP_RX (R120): completes the Sync of its sequence. -/
def ptpFollowUpRx (port : Fin 4) (m : PtpMsg) (s : State) : State :=
  match s.judgePtp port m [8] with
  | (none, s) => s
  | (some d, s) =>
    match (s.dom d).sync with
    | some (seq, src, t2, c) =>
      if seq = m.seq && src = m.src && s.fromMaster d m then s.takeSync d (s.msgTime m) t2 (c + m.corr) else s
    | none => s

/-- PTP_DELAY_RESP_RX (R120): the answer to the domain's own request gives t4 and one path delay sample. -/
def ptpDelayRespRx (port : Fin 4) (m : PtpMsg) (s : State) : State :=
  match s.judgePtp port m [9] with
  | (none, s) => s
  | (some d, s) =>
    match (s.dom d).dreq, (s.dom d).fwd with
    | some (seq, t3), some f =>
      if seq = m.seq && m.reqSrc = (s.dom d).ident && s.fromMaster d m && !s.on (F.D_CTL_DELAY d) then
        s.takeDelay d ((f + (s.msgTime m - t3 - m.corr)) / 2)
      else s
    | _, _ => s

/-- PTP_PDELAY_RESP_RX (R120): the peer's receive time and, in its Follow_Up, its send time give the link delay. -/
def ptpPdelayRespRx (port : Fin 4) (m fu : PtpMsg) (raw : Tai) (s : State) : State :=
  match s.judgePtp port m [3] with
  | (none, s) => s
  | (some d, s) =>
    match (s.dom d).dreq with
    | some (seq, t1) =>
      if seq = m.seq && fu.seq = seq && m.reqSrc = (s.dom d).ident && s.on (F.D_CTL_DELAY d) then
        let t4 := s.planeIn port raw
        s.takeDelay d (((t4 - t1) - (s.msgTime fu - s.msgTime m) - m.corr - fu.corr) / 2)
      else s
    | none => s

/-! ## Announce (R113, R117) -/

/-- UTC_OFFSET takes a value (R113, Table 5.5, Table 5.6): LEAP and an entry, but for the first after a cold
start. -/
def State.takeUtc (s : State) (v : Int) : State :=
  let old := s.getF F.TB_STATUS_UTC_OFFSET
  let new := unsigned 16 v
  let s := s.setF F.TB_STATUS_UTC_VALID 1
  let s := s.setF F.TB_STATUS_UTC_OFFSET new
  if !s.time.utcTaken then { s with time := { s.time with utcTaken := true } }
  else if old = new then s
  else (s.fire Ev.LEAP (objId 1 0 0) new).logState orgPtp (objId 1 0 2) old new

/-- What the time-of-day domain's master announces of UTC (R113). -/
def State.takeAnnounceUtc (s : State) (a : Announce) : State :=
  let s := s.setF F.TB_STATUS_LEAP61 (b2n a.leap61)
  let s := s.setF F.TB_STATUS_LEAP59 (b2n a.leap59)
  if a.utcValid then s.takeUtc a.utc else s

/-- The foreign-master set with a master's latest Announce. -/
def putForeign (l : List Foreign) (f : Foreign) : List Foreign := f :: l.filter (fun g => g.src ≠ f.src)

/-- PTP_ANNOUNCE_RX (R117, R113): the Announce enters the foreign-master set, the best-master algorithm runs, and
the selected master's UTC data are taken by the time-of-day domain. -/
def ptpAnnounceRx (port : Fin 4) (m : PtpMsg) (a : Announce) (s : State) : State :=
  match s.judgePtp port m [11] with
  | (none, s) => s
  | (some d, s) =>
    if s.ptpPort d = psFAULTY || s.ptpPort d = psDISABLED then s
    else
      let s := s.incSat (F.D_ANN_RX d)
      let s := s.setDom d { s.dom d with foreign := putForeign (s.dom d).foreign { src := m.src, ann := a } }
      let s := s.bmca d
      if s.isTod d && (s.dom d).sel == some m.src then s.takeAnnounceUtc a else s

/-! ## As a master, requests, timers (R117, R119) -/

/-- PTP_DELAY_REQ_RX (R117): a domain in MASTER answers with the receive time at the reference plane. -/
def ptpDelayReqRx (port : Fin 4) (m : PtpMsg) (raw : Tai) (s : State) : State :=
  match s.judgePtp port m [1, 2] with
  | (none, s) => s
  | (some d, s) =>
    if s.ptpPort d ≠ psMASTER then s
    else
      let t := Tai.ofUnits (s.planeIn port raw)
      s.emit (.ptp d (if m.msgType = 1 then 9 else 3) (t.sec % 2 ^ 48) t.ns none)

/-- PTP_MASTER_TX_INTERVAL (R117): Announce, or a two-step Sync with its Follow_Up, by a domain in MASTER. -/
def ptpMasterTx (d : Fin 2) (announce : Bool) (s : State) : State :=
  if s.ptpPort d ≠ psMASTER then s
  else if announce then
    let a := { s.ownAnnounce d with
      utc := s.getI F.TB_STATUS_UTC_OFFSET, utcValid := s.on F.TB_STATUS_UTC_VALID
      leap59 := s.on F.TB_STATUS_LEAP59, leap61 := s.on F.TB_STATUS_LEAP61 }
    s.emit (.ptp d 11 0 0 (some a))
  else
    let t := s.now
    (s.emit (.ptp d 0 0 0 none)).emit (.ptp d 8 (t.sec % 2 ^ 48) t.ns none)

/-- PTP_DELAY_REQ_TX_INTERVAL (R119, R120): a slave sends Delay_Req, or any running domain of the peer-to-peer
mechanism Pdelay_Req, and keeps the send time at the reference plane. -/
def ptpDelayReqTx (d : Fin 2) (raw : Tai) (s : State) : State :=
  let p2p := s.on (F.D_CTL_DELAY d)
  let st := s.ptpPort d
  if st = psUNCALIBRATED || st = psSLAVE || (p2p && st ≠ psFAULTY && st ≠ psDISABLED) then
    let seq := ((s.dom d).reqSeq + 1) % 65536
    let t := s.planeOut (s.getF (F.D_CTL_PORT d)) raw
    (s.setDom d { s.dom d with reqSeq := seq, dreq := some (seq, t) }).emit (.ptp d (if p2p then 2 else 1) 0 0 none)
  else s

/-- ANNOUNCE_RECEIPT_TIMEOUT (R119, Table 5.3). -/
def announceTimeout (d : Fin 2) (s : State) : State :=
  match (s.dom d).sel with
  | none => s
  | some m =>
    let s := s.fire (Ev.A_RX_TIMEOUT + d) (objId 1 (d + 1) 0) 1
    let s := s.setDom d { s.dom d with foreign := (s.dom d).foreign.filter (fun f => f.src ≠ m), sel := none }
    s.bmca d

/-- SYNC_RECEIPT_TIMEOUT (R119, R122): the servo goes to HOLD. -/
def syncTimeout (d : Fin 2) (s : State) : State :=
  if s.ptpServo d = svACQUIRE || s.ptpServo d = svLOCKED then
    (s.setServo d svHOLD).fire (Ev.A_RX_TIMEOUT + d) (objId 1 (d + 1) 0) 2
  else s

/-- FOLLOW_UP_TIMEOUT (R119): the Sync is discarded and FU_MISS counts. -/
def followUpTimeout (d : Fin 2) (s : State) : State :=
  if (s.dom d).sync.isNone then s
  else (s.setDom d { s.dom d with sync := none }).incSat (F.D_FU_MISS d)

/-- DELAY_RESPONSE_TIMEOUT (R119): DLY_MISS counts, and the eighth miss in a row fires the event. -/
def delayTimeout (d : Fin 2) (s : State) : State :=
  if (s.dom d).dreq.isNone then s
  else
    let run := (s.dom d).missRun + 1
    let s := (s.setDom d { s.dom d with dreq := none, missRun := run }).incSat (F.D_DLY_MISS d)
    if run = 8 then s.fire (Ev.A_RX_TIMEOUT + d) (objId 1 (d + 1) 0) 4 else s

/-- PRE_MASTER_QUALIFICATION_TIMEOUT (R118): PRE_MASTER becomes MASTER. -/
def preMasterTimeout (d : Fin 2) (s : State) : State :=
  if s.ptpPort d = psPRE_MASTER then s.setPtpPort d psMASTER else s

/-- LEAP_DAY_END (R113): UTC_OFFSET moves by the announced leap, LEAP fires and the change is logged. -/
def leapDayEnd (s : State) : State :=
  let v := s.getI F.TB_STATUS_UTC_OFFSET
  let move := fun (s : State) (n : Int) =>
    let old := s.getF F.TB_STATUS_UTC_OFFSET
    let new := unsigned 16 n
    ((s.setF F.TB_STATUS_UTC_OFFSET new).fire Ev.LEAP (objId 1 0 0) new).logState orgPtp (objId 1 0 2) old new
  if s.on F.TB_STATUS_LEAP61 then move s (v + 1)
  else if s.on F.TB_STATUS_LEAP59 then move s (v - 1)
  else s

/-! ## Time of day (R126, R127) -/

/-- The active time-of-day domain is to become `d` at the next boundary (R126, R127). -/
def State.wantTod (s : State) (d : Nat) : State :=
  if s.isTod d then { s with time := { s.time with tod := none } }
  else { s with time := { s.time with tod := some d } }

/-- TOD_CHANGE (R127): at the boundary the new domain becomes active, and a step the old one decided is
discarded. Under AUTO the change is logged (Table 5.6). -/
def todChange (s : State) : State :=
  match s.time.tod with
  | none => s
  | some d =>
    let s := s.toBoundary
    let old := s.getF F.TB_STATUS_TOD_ACT
    let s := { s with time := { s.time with tod := none, step := none } }
    let s := s.setF F.TB_STATUS_TOD_ACT (d + 1)
    let s := (s.setF (F.D_STATE_TOD 0) (b2n (d == 0))).setF (F.D_STATE_TOD 1) (b2n (d == 1))
    if s.getF F.TB_CTL_TOD_SRC = 0 then s.logState orgSelector (objId 1 0 1) old (d + 1) else s

/-! ## Asymmetry tracking (R128, R129) -/

/-- The conditions of R128. -/
def State.asymActive (s : State) : Bool :=
  s.on F.TB_CTL_ASYM_TRACK && s.ptpPort 0 == psSLAVE && s.ptpPort 1 == psSLAVE &&
  s.ptpServo 0 == svLOCKED && s.ptpServo 1 == svLOCKED && s.on (F.D_STATE_SAME_GM 0) &&
  s.getF (F.D_CTL_PORT 0) != s.getF (F.D_CTL_PORT 1)

/-- ASYM_LIMIT in nanoseconds (R132), or the lower limit the Calender has put in effect (R454). -/
def State.asymLimitNs (s : State) : Nat :=
  [10, 30, 100, 300, 1000, 3000, 10000].getD (s.getF F.TB_CTL_ASYM_LIMIT) 0

/-- ASYM_TRACK_PERIOD (R129): 60 s of tracking end with the estimate `est` in 2^-16 ns. At 1 ns or more the
domain that is not the time-of-day source moves its correction by 1 ns towards a smaller estimate, or is
withheld at the limit. -/
def asymTrackPeriod (limitNs : Nat) (est : Int) (s : State) : State :=
  if !s.asymActive then s
  else
    let s := s.setISat F.TB_ASYM_EST est
    if est.natAbs < 65536 then s
    else
      let d := if s.isTod 0 then 1 else 0
      let old := s.getI (F.D_ASYM_ADJ d)
      let new := if est > 0 then old + 1 else old - 1
      if new.natAbs > limitNs then
        (s.setF F.TB_STATUS_ASYM_AT_LIMIT 1).raise Ev.ASYM_LIMIT (objId 1 0 0)
          (unsigned 32 (satSigned 32 (est / 65536)))
      else
        let s := (s.setF F.TB_STATUS_ASYM_AT_LIMIT 0).setRaw Ev.ASYM_LIMIT false
        let s := s.setI (F.D_ASYM_ADJ d) new
        let s := s.fire Ev.ASYM_STEP (objId 1 (d + 1) 0) (unsigned 16 new + 65536 * d)
        s.logState orgPtp (objId 1 (d + 1) 3) (unsigned 16 old) (unsigned 16 new)

/-- The effect of writing ASYM_CLR (R129): both corrections become 0. -/
def State.asymClear (s : State) : State := (s.setF (F.D_ASYM_ADJ 0) 0).setF (F.D_ASYM_ADJ 1) 0

/-! ## Enabling a domain, links, captures -/

/-- A domain begins or resumes listening, or is faulty while its port does not run (R118). -/
def State.domRefresh (s : State) (d : Nat) : State :=
  if !s.on (F.D_CTL_EN d) then s
  else if s.portRuns (s.getF (F.D_CTL_PORT d)) then
    (if s.ptpPort d = psFAULTY || s.ptpPort d = psDISABLED then s.setPtpPort d psLISTENING else s)
  else if s.ptpPort d = psFAULTY then s
  else (s.setDom d { s.dom d with foreign := [] }).followNone d psFAULTY

/-- EN of a domain becomes 1 (R118, R124). -/
def State.domEnable (s : State) (d : Nat) : State :=
  (s.setDom d { ident := (s.dom d).ident }).domRefresh d

/-- EN of a domain becomes 0: DISABLED, servo OFF, no master (R118). -/
def State.domDisable (s : State) (d : Nat) : State :=
  (s.setDom d { s.dom d with foreign := [] }).followNone d psDISABLED

/-- The two domains after a change of ports or power (R118). -/
def State.domsRefresh (s : State) : State := (s.domRefresh 0).domRefresh 1

/-- One reader's capture (R132): the timebase, each domain's time where it is in SLAVE, the always-on seconds. -/
def State.captureSnap (s : State) (r : Reader) : State :=
  let old := KV.get {} s.time.snaps r.idx
  let t := s.now
  let domT := fun d => (Tai.ofUnits (t.units - (s.dom d).filt)).bits
  let a := s.ptpPort 0 == psSLAVE
  let b := s.ptpPort 1 == psSLAVE
  let cap : SnapCap := { aValid := a, bValid := b, set := s.on F.TB_STATUS_SET, count := (old.count + 1) % 65536, tb := t.bits, a := if a then domT 0 else 0, b := if b then domT 1 else 0, ao := s.aoSec }
  { s with time := { s.time with snaps := KV.put {} s.time.snaps r.idx cap } }

/-! ## Legal values (R116, R132, R133) -/

/-- The settings Table 5.2 allows for a profile. -/
def profileOk (prof delay transport : Nat) (logSync logAnn logDelay : Int) (port : Nat) : Bool :=
  let inr := fun (v lo hi : Int) => decide (lo ≤ v) && decide (v ≤ hi)
  if prof = 0 then inr logSync (-7) 4 && inr logAnn (-3) 4 && inr logDelay (-7) 6
  else if prof = 1 then transport != 2 && inr logSync (-4) 1 && inr logAnn (-3) 4 && inr logDelay (-7) 6
  else if prof = 2 then transport != 2 && inr logSync (-7) (-1) && inr logAnn (-3) 1 && inr logDelay (-7) (-1)
  else if prof = 3 then delay == 1 && transport == 2 && inr logSync (-7) 0 && inr logAnn (-3) 0 &&
    inr logDelay (-7) 3 && decide (2 ≤ port)
  else false

/-- A domain's whole stored configuration, judged when EN is set (R116). -/
def State.domConfigOk (s : State) (d : Nat) : Bool :=
  let port := s.getF (F.D_CTL_PORT d)
  let e := 1 - d
  profileOk (s.getF (F.D_CTL_PROFILE d)) (s.getF (F.D_CTL_DELAY d)) (s.getF (F.D_CTL_TRANSPORT d))
    (s.getI (F.D_INTERVAL_LOG_SYNC d)) (s.getI (F.D_INTERVAL_LOG_ANNOUNCE d)) (s.getI (F.D_INTERVAL_LOG_DELAY d)) port &&
  decide (2 ≤ s.getF (F.D_INTERVAL_ANN_TIMEOUT d)) && decide (s.getF (F.D_INTERVAL_ANN_TIMEOUT d) ≤ 10) &&
  decide (s.getF (F.D_ID_DOMAIN_NUM d) ≤ 127) &&
  s.getF (F.D_CTL_TRANSPORT d) != 3 && s.getF (F.D_CTL_STEP_POLICY d) != 3 &&
  !(s.on (F.D_CTL_EN e) && s.getF (F.D_CTL_PORT e) == port && s.getF (F.D_ID_DOMAIN_NUM e) == s.getF (F.D_ID_DOMAIN_NUM d))

/-- Legal data of the timebase unit's registers. -/
def legalTb (off v : Nat) : Bool :=
  if off = 0 then bitsOf v 2 1 != 3 && bitsOf v 8 6 != 7 else true

/-- Legal data of a domain's registers. -/
def legalDom (off v : Nat) : Bool :=
  if off = 0 then decide (bitsOf v 5 3 ≤ 3) && bitsOf v 8 7 != 3 && bitsOf v 11 10 != 3
  else if off = 4 then decide (bitsOf v 7 0 ≤ 127)
  else if off = 0x10 then decide (2 ≤ bitsOf v 15 12) && decide (bitsOf v 15 12 ≤ 10)
  else if off = 0x14 then decide (bitsOf v 9 6 ≤ 6)
  else true

/-- Whether a committed TB_LOAD value is legal (R125): nanoseconds below a second, and the active domain's servo
not LOCKED. -/
def State.tbLoadOk (s : State) (v : Nat) : Bool :=
  let d := if s.isTod 0 then 0 else 1
  decide ((Tai.ofBits v).ns ≤ 999999999) && s.ptpServo d != svLOCKED

/-- A load of the timebase becomes due (R125): the difference in whole ticks waits for its boundary, the rest is
slewed; a second load before it is applied replaces it. -/
def State.loadTimebase (s : State) (v : Nat) : State :=
  let diff := (Tai.ofBits v).units - s.now.units
  let t := s.wholeTicks diff
  { s with time := { s.time with
      load := some { ticks := t, due := s.stepDue, load := true }
      residual := diff - s.ticksUnits t } }

/-- The pending load or step that is due is applied at its boundary (R124, R125): a load displaces a domain's
step, and one that rounds to zero ticks only sets SET. -/
def State.dueStep (s : State) : Option Int × State :=
  let next := if s.time.onGrid then s.gridTick else s.gridTick + 1
  match s.time.load, s.time.step with
  | some l, _ =>
    if l.due ≤ next then
      let s := s.toBoundary
      let s := { s with time := { s.time with load := none, step := none } }
      if l.ticks = 0 then (none, s.setF F.TB_STATUS_SET 1)
      else (some l.ticks, s.applyStep l.ticks)
    else (none, s)
  | none, some p =>
    if p.due ≤ next then
      let s := s.toBoundary
      let s := { s with time := { s.time with step := none } }
      let s := s.applyStep p.ticks
      (some p.ticks, s.logState orgPtp (objId 1 0 0) 0 (if p.ticks < 0 then 0xFFFF else 1))
    else (none, s)
  | none, none => (none, s)

end Sys2Proof.Machine
end

