-- ==== Sys2Proof/Machine/Stamps.lean ====
section
/-!
DEFINITION. Machine/Stamps.lean: the timestamp units (chapter 6, R134 to R143) and the configuration and grid of
the control-cycle generators (R153, R154).
-/

namespace Sys2Proof.Machine

/-! ## Latencies (R135, R137, R143) -/

/-- The row of Table 6.1 a port uses: interface mode and speed. -/
def State.latRow (s : State) (p : Nat) : Nat :=
  if p < 2 then (if s.on (F.MAC_CTL_MODE p) then 4 else s.getF (F.MAC_STATUS_SPEED p))
  else if s.on (F.MAC_CTL_MODE p) then 6 else 5

/-- A committed 32-bit value in a LO and a HI register. -/
def State.pair32 (s : State) (lo hi : Fld) : Nat := s.getF lo + 65536 * s.getF hi

/-- The latencies in use brought in line with mode, speed and configuration (R135). -/
def State.refreshLatency (s : State) (p : Nat) : State :=
  let row := s.latRow p
  let i := s.fact.latIn.getD row 0
  let e := s.fact.latOut.getD row 0
  let sp := s.getF (F.MAC_STATUS_SPEED p)
  let ext := s.on (F.TSU_CTL_EXT_PHY p)
  let ei := i + (if ext then s.pair32 (F.TSU_PHY_ING_LO p sp) (F.TSU_PHY_ING_HI p sp) else 0)
  let ee := e + (if ext then s.pair32 (F.TSU_PHY_EGR_LO p sp) (F.TSU_PHY_EGR_HI p sp) else 0)
  (((s.setF (F.TSU_INT_ING p) i).setF (F.TSU_INT_EGR p) e).setF (F.TSU_EFF_ING p) ei).setF (F.TSU_EFF_EGR p) ee

/-- The domains bound to a port restart their averages (R137). -/
def State.restartPort (s : State) (p : Nat) : State :=
  [0, 1].foldl (fun s d => if s.getF (F.D_CTL_PORT d) = p then s.restartAverages d else s) s

/-- What follows a change that may move a port's latencies: the values in use, and new averages where one
moved (R137). -/
def State.latencyChanged (s : State) (p : Nat) : State :=
  let t := s.refreshLatency p
  if t.getF (F.TSU_EFF_ING p) = s.getF (F.TSU_EFF_ING p) && t.getF (F.TSU_EFF_EGR p) = s.getF (F.TSU_EFF_EGR p) then t
  else t.restartPort p

/-- A legal committed latency (R143): at most 10,000 ns. -/
def legalLatency (v : Nat) : Bool := decide (v ≤ 10000 * 65536)

/-- A legal committed asymmetry (R143): at most 1,000 ns in magnitude. -/
def legalAsym (v : Nat) : Bool := decide ((signed 32 v).natAbs ≤ 1000 * 65536)

/-! ## The transmit timestamp queue (R138 to R142) -/

/-- A port's queue. -/
def State.tsq (s : State) (p : Nat) : List TsEntry := KV.get [] s.stamps.queues p

/-- The state with a port's queue replaced, and its level. -/
def State.setTsq (s : State) (p : Nat) (l : List TsEntry) : State :=
  { s with stamps := { s.stamps with queues := KV.put [] s.stamps.queues p l } }.setF (F.TSU_Q_STATUS_LEVEL p) l.length

/-- A frame that makes an entry is sent (R138, R139): the entry is stored with the losses before it, or the full
queue discards it, LOST and the pending losses count, and TSQ_OVF fires. -/
def State.pushTs (s : State) (p : Nat) (e : TsEntry) : State :=
  let q := s.tsq p
  let pl := KV.get 0 s.stamps.pendLoss p
  if q.length ≥ 16 then
    let s := s.incSat (F.TSU_Q_STATUS_LOST p)
    let s := { s with stamps := { s.stamps with pendLoss := KV.put 0 s.stamps.pendLoss p (satNat 16 (pl + 1)) } }
    s.fire (Ev.TSQ_OVF_N0 + p) (objId 1 (4 + p) 0) (e.id + 65536 * e.kind)
  else
    let e := { e with loss := decide (pl > 0), lostBefore := pl, serial := s.stamps.serial }
    let s := { s with stamps := { s.stamps with
        pendLoss := KV.put 0 s.stamps.pendLoss p 0
        serial := s.stamps.serial + 1 } }
    s.setTsq p (q ++ [e])

/-- A time rounded to the nearest quarter nanosecond, ties up (R110, R136). -/
def Tai.quarter (t : Tai) : Tai := Tai.ofUnits ((t.units + 8192) / 16384 * 16384)

/-- The words of ENT_0 to ENT_4 for an entry (R140, Table 6.3); no entry reads VALID = 0. -/
def tsWords : Option TsEntry → List Nat
  | none => [0, 0, 0, 0, 0]
  | some e =>
    [e.id + 65536 * e.msgType + 2 ^ 20 * e.kind + 2 ^ 21 * b2n e.late + 2 ^ 22 * b2n e.loss + 2 ^ 23,
     e.lostBefore + 65536 * e.time.frac, e.time.ns, e.time.sec % 2 ^ 32, e.time.sec / 2 ^ 32]

/-- Key of a reader's snapshot of a port's head. -/
def headKey (r : Reader) (p : Nat) : Nat := r.idx * 4 + p

/-- A reader snapshots a port's head entry (R140). -/
def State.snapHead (s : State) (r : Reader) (p : Nat) : State :=
  { s with stamps := { s.stamps with headSnap :=
      match (s.tsq p).head? with
      | some e => KV.set s.stamps.headSnap (headKey r p) e
      | none => KV.erase s.stamps.headSnap (headKey r p) } }

/-- A reader's read of ENT_4 (R140): the word of its snapshot, and the entry removed where it is still the
head. -/
def State.readEnt4 (s : State) (r : Reader) (p : Nat) : Nat × State :=
  match KV.find s.stamps.headSnap (headKey r p) with
  | none => (0, s)
  | some e =>
    let w := e.time.sec / 2 ^ 32
    match s.tsq p with
    | h :: l => if h = e then (w, s.setTsq p l) else (w, s)
    | [] => (w, s)

/-- The 24 bytes of an entry in TSQ_READ (Table 6.2). -/
def TsEntry.bytes (e : TsEntry) : List Byte :=
  leBytes 2 e.id ++ leBytes 2 (e.msgType + 16 * e.kind + 32 * b2n e.late + 64 * b2n e.loss) ++
  leBytes 2 e.lostBefore ++ leBytes 2 e.time.frac ++ leBytes 4 e.time.ns ++ leBytes 8 e.time.sec ++ leBytes 4 0

/-- TSQ_READ (R141): up to a maximum of entries removed from the head and returned. -/
def opTsqRead (q : Req) (s : State) : OpOut :=
  if q.params.length ≠ 8 then badLen
  else
    let (sub, u, e) := objParts q.obj
    if sub ≠ 1 || u < 4 || u > 7 || e ≠ 0 then .bad 16
    else
      let n := q.field 4 2
      if n < 1 || n > 16 then .bad 20
      else if q.field 6 2 ≠ 0 then .bad (q.firstSet 6 2)
      else
        let p := u - 4
        let l := (s.tsq p).take n
        .done (s.setTsq p ((s.tsq p).drop n))
          (leBytes 2 l.length ++ leBytes 2 0 ++ l.flatMap TsEntry.bytes) none

/-! ## Control cycles (R153, R154) -/

/-- A generator's PERIOD and PHASE in nanoseconds. -/
def State.ccPeriod (s : State) (n : Nat) : Nat := s.pair32 (F.CC_PERIOD_LO n) (F.CC_PERIOD_HI n)
def State.ccPhase (s : State) (n : Nat) : Nat := s.pair32 (F.CC_PHASE_LO n) (F.CC_PHASE_HI n)

/-- A generator's whole configuration, judged when EN is set (R153, R154, R182). -/
def State.ccConfigOk (s : State) (n : Nat) : Bool :=
  let p := s.ccPeriod n
  decide (62500 ≤ p) && decide (p ≤ 1000000000) && 1000000000 % p == 0 && decide (s.ccPhase n < p) &&
  decide (1 ≤ s.getF (F.CC_WIDTH n)) && decide (s.getF (F.CC_WIDTH n) ≤ p / 2000)

/-- Whether some generator other than `n` lends or could lend trigger unit k's source: the generators whose
EV_TRG names it. -/
def State.lentTo (s : State) (k : Nat) : Option Nat :=
  [0, 1, 2, 3].find? (fun n => s.getF (F.CC_CTL_EV_TRG n) == k + 1)

/-- Legal data of CC.CTL (R154, R182): defined pins and units, an EV_TRG that is not ARMED, and G15 not while
REF5 is enabled. -/
def State.legalCc (s : State) (off v : Nat) : Bool :=
  if off = 0 then
    let g := bitsOf v 5 1
    let t := bitsOf v 12 7
    decide (g ≤ 16) && decide (t ≤ 32) && !(g == 16 && s.on (F.REF_CTL_EN 5)) &&
    !(decide (1 ≤ t) && (s.getF (F.TRG_STATUS_STATE (t - 1)) == 1 || s.getF (F.TRG_STATUS_STATE (t - 1)) == 2))
  else true

/-- The LENT state of the trigger units follows the generators' EV_TRG (R154). -/
def State.syncLent (s : State) : State :=
  (List.range 32).foldl (fun s k =>
    let st := s.getF (F.TRG_STATUS_STATE k)
    match s.lentTo k with
    | some _ => if st = 0 then s.setF (F.TRG_STATUS_STATE k) 3 else s
    | none => if st = 3 then s.setF (F.TRG_STATUS_STATE k) 0 else s) s

/-- EN of a generator becomes 1 (R153): its grid is fixed on the timebase and pulses are counted from 0. -/
def State.ccEnable (s : State) (n : Nat) : State :=
  ((s.setF (F.CC_STATUS_RUNNING n) 1).setF (F.CC_STATUS_MISALIGNED n) 0).setF (F.CC_PULSES n) 0

/-- EN of a generator becomes 0. -/
def State.ccDisable (s : State) (n : Nat) : State :=
  (s.setF (F.CC_STATUS_RUNNING n) 0).setF (F.CC_STATUS_MISALIGNED n) 0

/-- The pulse, count and lent event of a grid point (R153, R154). -/
def State.ccPulse (s : State) (n : Nat) : State :=
  let s := s.setF (F.CC_PULSES n) (s.getF (F.CC_PULSES n) + 1)
  let s := s.emit (.pulse n s.now)
  let t := s.getF (F.CC_CTL_EV_TRG n)
  if t = 0 then s else s.fire (Ev.TRG (t - 1)) (objId 1 (8 + n) 0) 32

/-- The detail of the lent source: action 0, CC_PULSE (R150). -/
def ccPulseDetail : Nat := 32

end Sys2Proof.Machine
end

