-- ==== Sys2Proof/Machine/Clock.lean ====
section
/-!
DEFINITION. Machine/Clock.lean: the loop and its modes, holdover, steering, media PLL lock and the clock outputs
(chapter 8, R184 to R204). A measurement the loop's filter makes continuously (its output while LOCKED) enters as
an operand (log entry 10).
-/

namespace Sys2Proof.Machine

/-! ## References as the loop sees them -/

/-- A reference's monitor. -/
def State.mon (s : State) (n : Nat) : RefMon := KV.get {} s.clk.mons n

/-- The state with a monitor changed. -/
def State.setMon (s : State) (n : Nat) (m : RefMon) : State :=
  { s with clk := { s.clk with mons := KV.put {} s.clk.mons n m } }

/-- Reference state codes (Table 7.3). -/
def rsDISABLED : Nat := 0
def rsFAILED : Nat := 1
def rsQUALIFYING : Nat := 2
def rsQUALIFIED : Nat := 3
def rsSUSPECT : Nat := 4
def rsACTIVE : Nat := 5

/-- A reference's state. -/
def State.refSt (s : State) (n : Nat) : Nat := s.getF (F.REF_STATUS_STATE n)

/-- A reference's PHASE in 2^-16 ns: for REF0 and REF1 the domain's filtered offset (Table 7.2). -/
def State.refPhase (s : State) (n : Nat) : Int := if n < 2 then (s.dom n).filt else s.getI (F.REF_PHASE n)

/-! ## Loop modes (R184, R185) -/

/-- Loop mode codes (Table 8.1). -/
def lmFREE : Nat := 0
def lmLOCKED : Nat := 1
def lmHOLDOVER : Nat := 2
def lmMANUAL : Nat := 3

/-- The loop's mode. -/
def State.loopMode (s : State) : Nat := s.getF F.LOOP_STATUS_MODE

/-- The steering value in ppt (R191). -/
def State.steer (s : State) : Int := signed 32 (s.pair32 F.LOOP_STEER_LO F.LOOP_STEER_HI)

/-- DCO_FREQ brought in line with loop output and steering, saturating (R184, R193). -/
def State.updateDco (s : State) : State :=
  let raw := s.getI F.LOOP_OUT + (if s.loopMode = lmLOCKED then 0 else s.steer)
  let sat := decide (raw > 500000000) || decide (raw < -500000000)
  let f := if raw > 500000000 then 500000000 else if raw < -500000000 then -500000000 else raw
  let s := (s.setI F.LOOP_DCO_FREQ f).setF F.LOOP_STATUS_DCO_SAT (b2n sat)
  if sat then s.raise Ev.DCO_LIMIT (objId 2 9 0) (b2n (decide (raw < 0))) else s.setRaw Ev.DCO_LIMIT false

/-- The loop's output takes a value. -/
def State.setLoopOut (s : State) (v : Int) : State := (s.setISat F.LOOP_OUT v).updateDco

/-- The integrator takes a value; outside LOCKED it is the loop output (R184). -/
def State.setInteg (s : State) (v : Int) : State := { s with clk := { s.clk with integ := v } }.setLoopOut v

/-- The loop changes mode (R184, R200, R201): STATE entry, and the condition of the new mode, with its detail. -/
def State.setLoopMode (s : State) (m detail : Nat) : State :=
  let old := s.loopMode
  if old = m then s
  else
    let s := s.setF F.LOOP_STATUS_MODE m
    let s := s.logState orgSelector (objId 2 9 0) old m
    let s := if m = lmLOCKED then s else s.setF F.LOOP_STATUS_REF 7
    let s := if m = lmHOLDOVER then s.raise Ev.HOLDOVER (objId 2 10 0) detail else s.setRaw Ev.HOLDOVER false
    let s := if m = lmFREE then s.raise Ev.FREE_RUN (objId 2 9 0) detail else s.setRaw Ev.FREE_RUN false
    if m = lmLOCKED then s.raise Ev.LOCKED (objId 2 9 0) detail else s.setRaw Ev.LOCKED false

/-- The configured bandwidth code of a reference's class (R188): at a recognised 1 Hz on REF4 at most 3. -/
def State.bwCode (s : State) (n : Nat) : Nat :=
  if n < 2 then s.getF F.LOOP_CTL_BW_PTP
  else if n < 4 then s.getF F.LOOP_CTL_BW_SYNCE
  else if n = 4 then
    (if (s.mon 4).rate = 1 then min (s.getF F.LOOP_CTL_BW_WCK) 3 else s.getF F.LOOP_CTL_BW_WCK)
  else if n = 5 then s.getF F.LOOP_BW1_BW_PPS
  else s.getF F.LOOP_BW1_BW_PAIR

/-! ## Holdover (R189, R190) -/

/-- The WINDOW in seconds (R203). -/
def State.windowS (s : State) : Nat := [100, 300, 1000, 3000, 10000, 30000].getD (s.getF F.HOLD_CTL_WINDOW) 1000

/-- HO_LIMIT in nanoseconds (R203). -/
def State.hoLimit (s : State) : Nat :=
  [100, 250, 500, 1000, 3000, 10000, 100000].getD (s.getF F.HOLD_CTL_HO_LIMIT) 1000

/-- The mean of a list rounded to the nearest (log entry 8). -/
def meanOf (l : List Int) : Int := roundDiv (l.foldl (· + ·) 0) l.length

/-- The history that counts now: the most recent WINDOW seconds. -/
def State.window (s : State) : List Int := s.clk.hist.take s.windowS

/-- The history freezes or is released (R176, R201). -/
def State.setFrozen (s : State) (by_ : Option Nat) : State :=
  let old := s.clk.frozenBy
  let s := { s with clk := { s.clk with frozenBy := by_ } }
  if old.isSome = by_.isSome then s
  else (s.setF F.HOLD_HO_STATUS_FROZEN (b2n by_.isSome)).logState orgSelector (objId 2 10 1)
    (b2n old.isSome) (b2n by_.isSome)

/-- The loop enters HOLDOVER (R185, R189, R190, R200): the frequency is `freq` where given, else the mean of the
window, else, with under 10 s of history, the integrator's value. -/
def State.enterHoldover (s : State) (lost e0 : Nat) (freq : Option Int) : State :=
  let w := s.window
  let short := decide (w.length < 10)
  let frozen := freq.isNone && !short && s.clk.frozenBy.isSome
  let f := match freq with
    | some v => v
    | none => if short then s.clk.integ else meanOf w
  let f0 := if w.isEmpty then 0 else (meanOf (w.take 64) - meanOf w).natAbs
  let s := s.setF F.HOLD_HO_STATUS_SHORT (b2n short)
  let s := (s.setF F.HOLD_HO_STATUS_OUT_OF_SPEC 0).setRaw Ev.HOLDOVER_OUT_OF_SPEC false
  let s := ((s.setISat F.HOLD_FREQ f).setSat F.HOLD_F0 f0).setF F.HOLD_HO_ELAPSED 0
  let s := (s.setF F.HOLD_PRED_ERR 0).incSat F.LOOP_COUNT_HOLDOVERS
  let s := { s with clk := { s.clk with e0 := e0, tempAt := s.getI (F.MON_TEMP 0), tempSum := 0, hoWritten := false } }
  (s.setLoopMode lmHOLDOVER (lost + 16 * b2n frozen + 32 * b2n short)).setInteg f

/-- The selected reference is deselected (R171, R185): a LOCKED loop enters HOLDOVER. -/
def State.loopDeselect (s : State) (n : Nat) : State :=
  if s.loopMode = lmLOCKED then s.enterHoldover n (s.refPhase n).natAbs none else s

/-- HO_MODE with no switch target (R185, R186): FREE_RUN at once, or where the prediction is out of
specification under HOLD_THEN_FREE. -/
def State.hoApply (s : State) : State :=
  let written := s.clk.hoWritten
  let s := { s with clk := { s.clk with hoWritten := false } }
  if s.loopMode ≠ lmHOLDOVER || s.clk.running || s.clk.want ≠ 7 then s
  else
    let m := s.getF F.HOLD_CTL_HO_MODE
    if m = 1 then (s.setLoopMode lmFREE (if written then 3 else 1)).setInteg 0
    else if m = 2 && s.on F.HOLD_HO_STATUS_OUT_OF_SPEC then
      (s.setLoopMode lmFREE (if written then 3 else 2)).setInteg 0
    else s

/-- The ageing rate and temperature slope in use: an enabled override, or the values kept current by the
Calender (R190, R203). -/
def State.ageUsed (s : State) : Int := if s.on F.HOLD_OVR_EN_AGE then s.getI F.HOLD_AGE_OVR else s.clk.calAge
def State.slopeUsed (s : State) : Nat := if s.on F.HOLD_OVR_EN_SLOPE then s.getF F.HOLD_SLOPE_OVR else s.clk.calSlope

/-- Denominator of the predicted error. -/
def predDen : Nat := 65536 * 172800000

/-- The predicted error times `predDen`, in ns (R190): e0 in 2^-16 ns, f0 in ppt, the temperature sum in 0.1 °C. -/
def State.predNum (s : State) (t : Nat) : Int :=
  (s.clk.e0 * 172800000 : Nat) + (s.getF F.HOLD_F0 * t * 172800 * 65536 : Nat) +
  s.ageUsed * (t * t * 65536 : Nat) + (s.slopeUsed * s.clk.tempSum * 17280 * 65536 : Nat)

/-- HOLDOVER_SECOND (R189, R190): LOCKED with no SETTLE and no freeze the second's average enters the history;
in HOLDOVER the error is predicted, and at its first passing of HO_LIMIT reported. -/
def holdoverSecond (avg : Int) (s : State) : State :=
  let s := (s.setF F.HOLD_AGE_USED (unsigned 16 s.ageUsed)).setF F.HOLD_SLOPE_USED s.slopeUsed
  if s.loopMode = lmLOCKED && s.clk.settle.isNone && s.clk.frozenBy.isNone then
    let h := (avg :: s.clk.hist).take 30000
    { s with clk := { s.clk with hist := h } }.setF F.HOLD_HO_STATUS_HIST_S h.length
  else if s.loopMode = lmHOLDOVER then
    let d := (s.getI (F.MON_TEMP 0) - s.clk.tempAt).natAbs
    let s := { s with clk := { s.clk with tempSum := s.clk.tempSum + d } }
    let t := satNat 32 (s.getF F.HOLD_HO_ELAPSED + 1)
    let s := s.setF F.HOLD_HO_ELAPSED t
    let e : Int := s.predNum t
    let s := s.setF F.HOLD_PRED_ERR (satNat 32 (e / (predDen : Int)).toNat)
    if decide (e > ((s.hoLimit * predDen : Nat) : Int)) && !s.on F.HOLD_HO_STATUS_OUT_OF_SPEC then
      ((s.setF F.HOLD_HO_STATUS_OUT_OF_SPEC 1).raise Ev.HOLDOVER_OUT_OF_SPEC (objId 2 10 0) t).logState
        orgSelector (objId 2 10 0) 0 1 |>.hoApply
    else s
  else s

/-- The history is emptied (R189). -/
def State.emptyHistory (s : State) : State :=
  { s with clk := { s.clk with hist := [] } }.setF F.HOLD_HO_STATUS_HIST_S 0

/-! ## BUILD-OUT as the loop sees it (R173, R176, R186, R192) -/

/-- Steering is folded into the integrator (R192). -/
def State.foldSteer (s : State) : State :=
  let v := s.steer
  if v = 0 then s
  else
    let lo := s.getF F.LOOP_STEER_LO
    let hi := s.getF F.LOOP_STEER_HI
    let o : Origin := { code := orgSelector }
    let s := { s with clk := { s.clk with integ := s.clk.integ + v } }
    let s := (s.setF F.LOOP_STEER_LO 0).logReg o F.LOOP_STEER_LO.addr lo 0
    (s.setF F.LOOP_STEER_HI 0).logReg o F.LOOP_STEER_HI.addr hi 0

/-- The loop moves to reference `n` (R173, R185): in MANUAL or in the unit's safe state it does not use it. -/
def State.loopBuildOut (s : State) (n : Nat) (fromSuspect : Bool) : State :=
  if s.loopMode = lmMANUAL || s.inSafe 2 9 then s
  else
    let w := s.window
    let s := if fromSuspect && s.clk.frozenBy.isSome && 10 ≤ w.length then
        { s with clk := { s.clk with integ := meanOf w } } else s
    let s := s.foldSteer
    let s := s.setF F.LOOP_STATUS_REF n
    (s.setLoopMode lmLOCKED n).setInteg s.clk.integ

/-! ## MANUAL, steering (R185, R186, R191) -/

/-- Whether a committed steering value is legal (R191). -/
def legalSteer (v : Nat) : Bool := decide ((signed 32 v).natAbs ≤ 500000000)

/-- MANUAL is set: the loop output is held (R185). -/
def State.manualSet (s : State) : State :=
  if s.loopMode = lmMANUAL then s else (s.setLoopMode lmMANUAL 0).setInteg (s.getI F.LOOP_OUT)

/-- A rebuild to the selected reference begins where no switch runs (R186); without a selected reference
HO_MODE applies. -/
def State.rebuildStart (s : State) : State :=
  let n := s.getF F.SEL_STATUS_SEL_REF
  if s.clk.running then s
  else if n = 7 then s.hoApply
  else
    let m := if n = 0 || n = 1 || n = 5 then 1 else 64
    let s := { s with clk := { s.clk with running := true, rebuild := true, target := n, meas := m + 1, acc := 0, accN := 0 } }
    (s.setF F.SEL_STATUS_TARGET n).setF F.SEL_STATUS_PHASE 1

/-- MANUAL is cleared (R185, R186): HOLDOVER at the held frequency. -/
def State.manualClear (s : State) : State :=
  if s.loopMode ≠ lmMANUAL then s
  else (s.enterHoldover 7 0 (some (s.getI F.LOOP_OUT))).rebuildStart

/-- The loop unit enters its safe state (Table 3.4, R186). -/
def State.loopSafe (s : State) : State :=
  if s.loopMode = lmLOCKED then
    let n := s.getF F.LOOP_STATUS_REF
    (s.enterHoldover n (s.refPhase n).natAbs none).hoApply
  else s

/-- The loop unit leaves its safe state (R186). -/
def State.loopUnsafe (s : State) : State := if s.loopMode = lmHOLDOVER then s.rebuildStart else s

/-! ## Clock outputs (R194, R196 to R199) -/

/-- Whether output `o` is enabled: 0 PPS_OUT, 1 and 2 WCK_OUT0/1, 3 to 6 CC0 to CC3. -/
def State.outEnabled (s : State) (o : Nat) : Bool :=
  if o = 0 then s.on F.OUT_CTL_EN && s.on F.OUT_CTL_PPS_EN
  else if o = 1 then s.on F.OUT_CTL_EN && s.on F.OUT_CTL_WCK0_EN
  else if o = 2 then s.on F.OUT_CTL_EN && s.on F.OUT_CTL_WCK1_EN
  else s.on (F.CC_CTL_EN (o - 3))

/-- The first TAI second boundary at least `ns` nanoseconds later. -/
def State.secondAfter (s : State) (ns : Nat) : Nat :=
  let u := s.now.units.toNat + ns * 65536
  (u + 65535999999999) / 65536000000000

/-- Output numbers in the misaligned mask (R198): bit 0 PPS_OUT, bits 4 to 1 CC0 to CC3. -/
def maskOutput (b : Nat) : Nat := if b = 0 then 0 else b + 2

/-- The period of a masked output in nanoseconds. -/
def State.maskPeriod (s : State) (b : Nat) : Nat := if b = 0 then 1000000000 else s.ccPeriod (b - 1)

/-- Whether the output of mask bit `b` is off its grid: the steps since alignment, in ticks of `1/tps` second,
are not a whole number of periods (R198). -/
def State.misaligned (s : State) (b : Nat) : Bool :=
  let p := s.maskPeriod b * s.tps
  let n := (KV.get 0 s.clk.mis b).natAbs * 1000000000
  p != 0 && n % p != 0

/-- PPS_OUT's offset in nanoseconds, from -500,000,000 to 499,999,999. -/
def State.ppsOff (s : State) : Int :=
  let n := s.ticksNs (KV.get 0 s.clk.mis 0 % s.tps) % 1000000000
  if n ≥ 500000000 then n - 1000000000 else n

/-- MIS.MASK, the generators' MISALIGNED bits and PPS_OFF follow the offsets; OUTPUTS_MISALIGNED holds raw while
an output is misaligned. -/
def State.refreshMis (s : State) : State :=
  let m := (List.range 5).foldl (fun a b => a + (if s.misaligned b then 2 ^ b else 0)) 0
  let s := (s.setF F.OUT_MIS_MASK m).setI F.OUT_PPS_OFF s.ppsOff
  let s := (List.range 4).foldl (fun s n => s.setF (F.CC_STATUS_MISALIGNED n) (b2n (m.testBit (n + 1)))) s
  if m = 0 then s.setRaw Ev.OUTPUTS_MISALIGNED false else s

/-- An output's offset becomes 0 (alignment, disable, restart). -/
def State.alignOut (s : State) (b : Nat) : State :=
  { s with clk := { s.clk with mis := KV.erase s.clk.mis b } }

/-- A step of the timebase moves the grids of running outputs (R198). -/
def State.stepOutputs (s : State) (ticks : Int) : State :=
  let before := s.getF F.OUT_MIS_MASK
  let s := (List.range 5).foldl (fun s b =>
    if s.clk.outRun.contains (maskOutput b) then
      { s with clk := { s.clk with mis := KV.put 0 s.clk.mis b (KV.get 0 s.clk.mis b + ticks) } }
    else s) s
  let s := s.refreshMis
  let m := s.getF F.OUT_MIS_MASK
  if (List.range 5).any (fun b => m.testBit b && !before.testBit b) then
    (s.setRaw Ev.OUTPUTS_MISALIGNED true).fire Ev.OUTPUTS_MISALIGNED (objId 2 11 0) m
  else s

/-- An output starts at the first second boundary at least 1 ms later, aligned (R194, R196). -/
def State.outStart (s : State) (o : Nat) : State :=
  { s with clk := { s.clk with outWait := KV.set s.clk.outWait o (s.secondAfter 1000000) } }

/-- An output stops; its misaligned bit clears (R198). -/
def State.outStop (s : State) (o : Nat) : State :=
  let s := { s with clk := { s.clk with
    outRun := s.clk.outRun.filter (· ≠ o), outWait := KV.erase s.clk.outWait o } }
  if o = 1 || o = 2 then s else (s.alignOut (if o = 0 then 0 else o - 2)).refreshMis

/-- The outputs after a change of their enables: newly enabled ones wait for their second, disabled ones stop. -/
def State.refreshOutputs (s : State) : State :=
  (List.range 7).foldl (fun s o =>
    let here := s.clk.outRun.contains o || (KV.find s.clk.outWait o).isSome
    if s.outEnabled o then (if here || !s.on F.LOOP_STATUS_PLL_LOCK then s else s.outStart o)
    else if here then s.outStop o else s) s

/-- The outputs whose second has come run from now on, on their grid. -/
def State.startDue (s : State) : State :=
  let due : List (Nat × Nat) := s.clk.outWait.filter (fun p => decide (p.2 ≤ s.now.sec))
  if due.isEmpty then s
  else
    let s := { s with clk := { s.clk with
      outRun := s.clk.outRun ++ due.map (·.1)
      outWait := s.clk.outWait.filter (fun p => decide (s.now.sec < p.2)) } }
    (due.foldl (fun (s : State) p => if p.1 = 1 || p.1 = 2 then s else s.alignOut (if p.1 = 0 then 0 else p.1 - 2)) s).refreshMis

/-- The media PLL loses lock (R194): outputs go inactive. -/
def State.pllUnlock (s : State) : State :=
  if !s.on F.LOOP_STATUS_PLL_LOCK then s
  else
    let s := (s.setF F.LOOP_STATUS_PLL_LOCK 0).incSat F.LOOP_COUNT_UNLOCKS
    let s := (List.range 7).foldl (fun s o => s.outStop o) s
    (s.raise Ev.MEDIA_PLL_UNLOCK (objId 2 9 0) 0).logState orgSelector (objId 2 9 1) 1 0

/-- The media PLL is back in lock (R194): the outputs wait for their second. -/
def State.pllLock (s : State) : State :=
  if s.on F.LOOP_STATUS_PLL_LOCK then s
  else
    let s := (s.setF F.LOOP_STATUS_PLL_LOCK 1).setRaw Ev.MEDIA_PLL_UNLOCK false
    (s.logState orgSelector (objId 2 9 1) 0 1).refreshOutputs

/-- ALIGN (R199). -/
def opAlign (q : Req) (s : State) : OpOut :=
  if q.params.length ≠ 16 then badLen
  else if q.obj ≠ objId 2 11 0 then .bad 16
  else
    let m := q.field 4 4
    let sec := q.field 8 8
    if m ≥ 32 then .bad 20
    else if sec > s.now.sec + 3600 then .bad 24
    else if s.on F.OUT_MIS_ALIGN_PEND then .err stBAD_STATE
    else if sec ≠ 0 && ({ sec := sec } : Tai).units < s.now.units + 10000000 * 65536 then .err stTIME_PAST
    else if Nat.land m (s.getF F.OUT_MIS_MASK) = 0 then .done s (leBytes 8 0) none
    else
      let at_ := if sec = 0 then s.secondAfter 10000000 else sec
      let s := (s.setF F.OUT_MIS_ALIGN_PEND 1).set64 F.OUT_ALIGN_SEC_LO F.OUT_ALIGN_SEC_HI at_
      .done { s with clk := { s.clk with alignMask := m } } (leBytes 8 at_) (some q.obj)

/-- ALIGN_AT_S (R199): at its second on the timebase as it stands, each named output that is misaligned is put
back on its grid. -/
def alignAtS (s : State) : State :=
  if !s.on F.OUT_MIS_ALIGN_PEND || s.now.sec < s.get64 F.OUT_ALIGN_SEC_LO F.OUT_ALIGN_SEC_HI then s
  else
    let before := s.getF F.OUT_MIS_MASK
    let m := s.clk.alignMask
    let s := (List.range 5).foldl (fun s b =>
      if m.testBit b && before.testBit b then s.alignOut b else s) s
    let s := s.refreshMis
    let s := (s.setF F.OUT_MIS_ALIGN_PEND 0).set64 F.OUT_ALIGN_SEC_LO F.OUT_ALIGN_SEC_HI 0
    let s := { s with clk := { s.clk with alignMask := 0 } }
    (s.incSat F.OUT_ALIGN_CNT).logState orgSelector (objId 2 11 0) before (s.getF F.OUT_MIS_MASK)

/-! ## Legal values (R188, R202, R203) -/

/-- Legal data of the loop's registers. -/
def legalLoop (off v : Nat) : Bool :=
  if off = 0 then decide (bitsOf v 4 1 ≤ 8) && decide (bitsOf v 8 5 ≤ 10) && decide (bitsOf v 12 9 ≤ 14)
  else if off = 4 then decide (bitsOf v 3 0 ≤ 3) && decide (bitsOf v 7 4 ≤ 10)
  else true

/-- Legal data of the holdover unit's registers. -/
def legalHold (off v : Nat) : Bool :=
  if off = 0 then bitsOf v 2 1 != 3 && decide (bitsOf v 5 3 ≤ 5) && bitsOf v 8 6 != 7 else true

end Sys2Proof.Machine
end

