-- ==== Sys2Proof/Machine/Refs.lean ====
section
/-!
DEFINITION. Machine/Refs.lean: the reference monitors, the consensus, the selector and the switch machine
(chapter 7, R158 to R183). A 1 ms tick is REF_TICK; an expiry that falls in it (REF_QUALIFY, REF_DWELL_EXPIRY,
REF_CLEAR_EXPIRY, SWITCH_START, BUILD_OUT, SETTLE_STEP) is a row of its own that completes the same tick, and one
not commanded before the next REF_TICK is taken at that REF_TICK's beginning (log entry 11).
-/

namespace Sys2Proof.Machine

/-! ## States and quality (R163, R166, R167, R181) -/

/-- A reference's object ID. -/
def refObj (n : Nat) : Nat := objId 2 n 0

/-- The selector's object ID. -/
def selObj (e : Nat) : Nat := objId 2 8 e

/-- A reference changes state (R163, R166, R181): history bit, STATE entry. -/
def State.setRef (s : State) (n v : Nat) : State :=
  let old := s.refSt n
  if old = v then s
  else
    let s := s.setF (F.REF_STATUS_STATE n) v
    let s := if v = rsFAILED then (s.setF (F.REF_HIST_FAILED n) 1).incSat (F.REF_FAIL_CNT n)
      else if v = rsQUALIFIED then s.setF (F.REF_HIST_QUALIFIED n) 1
      else if v = rsSUSPECT then s.setF (F.REF_HIST_SUSPECT n) 1
      else if v = rsACTIVE then s.setF (F.REF_HIST_ACTIVE n) 1 else s
    let s := s.setMon n { s.mon n with since := 0 }
    s.logState orgSelector (refObj n) old v

/-- QUAL_TIME in milliseconds (R182). -/
def State.qualFull (s : State) (n : Nat) : Nat :=
  1000 * [1, 2, 5, 10, 30, 60, 120].getD (s.getF (F.REF_CTL_QUAL_TIME n)) 10

/-- DWELL and CLEAR in milliseconds (R165). -/
def State.dwellFull (s : State) (n : Nat) : Nat := 1000 * [10, 30, 60, 120].getD (s.getF (F.REF_LIMITS_DWELL n)) 30
def State.clearFull (s : State) (n : Nat) : Nat := 1000 * [5, 10, 30, 60].getD (s.getF (F.REF_LIMITS_CLEAR n)) 10

/-- A reference becomes QUALIFYING with its timer full. -/
def State.toQualifying (s : State) (n : Nat) : State :=
  let s := s.setRef n rsQUALIFYING
  s.setMon n { s.mon n with qual := s.qualFull n }

/-- A reference is disqualified (Table 7.4). -/
def State.disqualify (s : State) (n cause : Nat) : State :=
  let s := s.toQualifying n
  let s := (s.setF (F.REF_STATUS_LAST_CAUSE n) cause).setF (F.REF_HIST_DISQUALIFIED n) 1
  let s := s.setMon n { s.mon n with glitches := [] }
  s.fire Ev.REF_DISQUALIFY (refObj n) (n + 256 * cause)

/-- A reference loses activity (Table 7.4, cause 1). -/
def State.refFail (s : State) (n : Nat) : State :=
  let s := (s.setRef n rsFAILED).setF (F.REF_STATUS_LAST_CAUSE n) 1
  let m := s.mon n
  let s := s.setMon n { m with glitches := [], hist := [], soft := 0, hard := false, rate := 0, qual := 0 }
  s.fire Ev.REF_FAIL (refObj n) (n + 256)

/-- Whether the power state keeps a reference's source powered (R158). -/
def State.refPowered (s : State) (n : Nat) : Bool :=
  let p := s.getF F.PWR_STATUS_STATE
  p == 3 || (p == 2 && n != 6 && (!(n == 2 || n == 3) || s.getF F.PWR_CTL_LISTEN_PORT == n - 2))

/-- Activity (R158, Table 7.1); none in the safe state (Table 3.4). -/
def State.refActive (s : State) (n : Nat) : Bool :=
  !s.inSafe 2 n && s.refPowered n &&
  (if n < 2 then
      (s.ptpPort n == psSLAVE || s.ptpPort n == psUNCALIBRATED) &&
      (s.ptpServo n == svACQUIRE || s.ptpServo n == svLOCKED)
   else if n < 4 then s.on (F.MAC_STATUS_LINK (n - 2)) && (s.mon n).act
   else if n < 6 then (s.mon n).act
   else s.on F.LINK_STATUS_UP)

/-- The level of an ESMC quality level (Table 7.5). -/
def Ql.level : Ql → Nat
  | .ePRTC => 1
  | .prtc => 1
  | .prc => 1
  | .ssuA => 2
  | .ssuB => 3
  | .sec => 4
  | .eec1 => 4
  | .dnu => 15
  | .other => 15

/-- A PTP grandmaster's level (Table 7.5). -/
def ptpLevel (cls acc : Nat) : Nat :=
  if cls = 6 || cls = 13 then (if 0x20 ≤ acc && acc ≤ 0x22 then 1 else 2)
  else if cls = 7 || cls = 14 then 3
  else if cls = 52 || cls = 58 || cls = 187 || cls = 193 then 4
  else if cls = 248 then 5
  else 15

/-- A reference's quality level (R167). -/
def State.refQuality (s : State) (n : Nat) : Nat :=
  if n < 2 then ptpLevel (s.getF (F.D_GM_QUAL_CLASS n)) (s.getF (F.D_GM_QUAL_ACCURACY n))
  else if (n = 2 || n = 3) && s.on (F.REF_CTL_ESMC n) then (s.mon n).esmc
  else s.getF (F.REF_CTL_QUAL_CFG n)

/-- The quality register follows; level 15 leaves its history bit. -/
def State.refreshQuality (s : State) (n : Nat) : State :=
  let q := s.refQuality n
  let s := s.setF (F.REF_STATUS_QUALITY n) q
  if q = 15 then s.setF (F.REF_HIST_INELIGIBLE n) 1 else s

/-! ## Rates of WCK_IN and the PPS (R177 to R179) -/

/-- The rates a reference accepts, in Hz (R177). -/
def State.refAccepted (s : State) (n : Nat) : List Nat :=
  let b := if s.on F.LOOP_MEDIA_FAMILY then 44100 else 48000
  if n = 5 then [1]
  else [[b, 2 * b, 10000000, 1], [b], [2 * b], [10000000], [1]].getD (s.getF (F.REF_WCK_RATE 4)) []

/-- Whether a measurement in 2^-4 Hz lies within ±1,000 ppm of a rate in Hz. -/
def nearRate (meas r : Nat) : Bool := decide (((meas : Int) - 16 * r).natAbs * 1000 ≤ 16 * r)

/-- A 100 ms measurement is judged (R178, R179): a departure from the recognised rate, or a newly measured rate
that cannot be recognised, is reported. Answers whether the rate changed. -/
def State.judgeRate (s : State) (n meas : Nat) : Bool × State :=
  let r := (s.mon n).rate
  let held := s.getF (F.REF_WCK_MEAS n)
  let report := fun (s : State) =>
    ((s.setSat (F.REF_WCK_MEAS n) meas).setF (F.REF_HIST_RATE n) 1).fire Ev.WCK_RATE (refObj n) (meas / 16)
  if r ≠ 0 then
    if nearRate meas r then (false, s)
    else (true, (report s).setMon n { s.mon n with rate := 0 })
  else if (s.refAccepted n).any (nearRate meas) then (false, s)
  else if held ≠ 0 && nearRate meas (held / 16) then (false, s)
  else (false, report s)

/-! ## Measurements and consensus (R160, R161) -/

/-- Insertion into a rising list. -/
def insertInt (v : Int) : List Int → List Int
  | [] => [v]
  | a :: l => if v ≤ a then v :: a :: l else a :: insertInt v l

/-- The median of a list, the mean of the two middle values where their count is even (rounded down, log
entry 8). -/
def median (l : List Int) : Int :=
  let t := l.foldr insertInt []
  let k := t.length
  if k = 0 then 0
  else if k % 2 = 1 then t.getD (k / 2) 0
  else (t.getD (k / 2 - 1) 0 + t.getD (k / 2) 0) / 2

/-- The references with their numbers, and the weighted sum of a list with rising indices. -/
def slopeSum : Nat → List Int → Int
  | _, [] => 0
  | i, v :: l => (i : Int) * v + slopeSum (i + 1) l

/-- Least-squares slope per second of values one second apart, newest first, rounded to the nearest (R160). -/
def slopeOf (newestFirst : List Int) : Int :=
  let l := newestFirst.reverse
  let k := l.length
  if k < 2 then 0
  else
    let sx := k * (k - 1) / 2
    let sxx := (k - 1) * k * (2 * k - 1) / 6
    let sum := l.foldl (· + ·) 0
    roundDiv (k * slopeSum 0 l - sx * sum) (k * sxx - sx * sx)

/-- Steps 1 and 2 of a second for the measurements (R161): consensus, members, FFO_CONS, DRIFT, limits. -/
def State.consensusSecond (s : State) : State :=
  let mem := (List.range 7).filter (fun n => s.refSt n == rsQUALIFIED || s.refSt n == rsACTIVE)
  let real := decide (3 ≤ mem.length)
  let cons := if real then median (mem.map (fun n => s.getI (F.REF_FFO_XO n))) else 0
  let mem := if real then mem else []
  let s := s.setISat F.SEL_CONSENSUS cons
  let s := s.setF F.SEL_CONS_N_COUNT mem.length
  let s := s.setF F.SEL_CONS_N_MASK (mem.foldl (fun a n => a + 2 ^ n) 0)
  (List.range 7).foldl (fun s n =>
    let s := s.setF (F.REF_STATUS_CONS_MEMBER n) (b2n (mem.contains n))
    if s.refSt n = rsDISABLED || s.refSt n = rsFAILED then s
    else
      let m := s.mon n
      let fc := satSigned 32 (s.getI (F.REF_FFO_XO n) - cons)
      let hist := (fc :: m.hist).take 10
      let dr := satSigned 32 (slopeOf hist)
      let softF := 1000000 * [1, 2, 5, 10].getD (s.getF (F.REF_LIMITS_SOFT_FREQ n)) 5
      let softD := [100000, 200000, 500000, 1000000].getD (s.getF (F.REF_LIMITS_SOFT_DRIFT n)) 500000
      let hardF := 1000000 * [10, 20, 50, 100].getD (s.getF (F.REF_LIMITS_HARD n)) 20
      let soft := b2n (decide (fc.natAbs > softF)) + 2 * b2n (decide (dr.natAbs > softD))
      let s := (s.setI (F.REF_FFO_CONS n) fc).setI (F.REF_DRIFT n) dr
      s.setMon n { m with hist := hist, soft := soft, hard := decide (fc.natAbs > hardF) }) s

/-- Step 1 of a tick for one monitor: captures, and the second's frequencies. -/
def State.refCapture (s : State) (n : Nat) (i : RefIn) (second : Bool) : State :=
  if !s.on (F.REF_CTL_EN n) then s
  else
    let m := s.mon n
    let act := if n = 4 || n = 5 then m.act || i.act else i.act
    let s := s.setMon n { m with
      act := act
      since := m.since + 1
      glitches := (m.glitches.map (· + 1)).filter (decide <| · < 1000) }
    let s := if n < 2 then s.setISat (F.REF_PHASE n) (s.dom n).filt else s.setISat (F.REF_PHASE n) i.phase
    if second && s.refSt n ≠ rsFAILED then (s.setISat (F.REF_FFO_XO n) i.ffoXo).setISat (F.REF_FFO_DCO n) i.ffoDco
    else s

/-! ## A monitor's state in a tick (R163 to R165) -/

/-- A glitch is masked (R178). -/
def State.refGlitch (s : State) (n : Nat) : State :=
  let s := (s.incSat (F.REF_GLITCH_CNT n)).setF (F.REF_HIST_GLITCH n) 1
  let s := s.setMon n { s.mon n with glitches := 0 :: (s.mon n).glitches }
  s.fire Ev.REF_GLITCH (refObj n) n

/-- Entry to SUSPECT (R165, R176). -/
def State.toSuspect (s : State) (n : Nat) : State :=
  let soft := (s.mon n).soft
  let active := s.refSt n == rsACTIVE
  let s := s.setRef n rsSUSPECT
  let s := s.setMon n { s.mon n with dwell := s.dwellFull n, clear := s.clearFull n }
  let s := s.fire Ev.REF_SUSPECT (refObj n) (n + 16 * soft)
  if active && s.clk.frozenBy.isNone then s.setFrozen (some n) else s

/-- QUAL_REMAIN in 10 ms (Table 7.11). -/
def State.showRemain (s : State) (n : Nat) : State :=
  s.setSat (F.REF_STATUS_QUAL_REMAIN n) (if s.refSt n = rsQUALIFYING then (s.mon n).qual / 10 else 0)

/-- Step 2 of a tick for one monitor: activity, rate, glitches, limits, timers. A timer that reaches zero leaves
its expiry due. -/
def State.refJudge (s : State) (n : Nat) (i : RefIn) (second : Bool) : State :=
  if !s.on (F.REF_CTL_EN n) then s
  else
    let st0 := s.refSt n
    let act := s.refActive n
    let s := if !act && s.refSt n ≠ rsFAILED then s.refFail n
      else if act && s.refSt n = rsFAILED then s.toQualifying n else s
    let s := s.refreshQuality n
    let wck := n = 4 || n = 5
    let (chg, s) := match i.rate with
      | some meas => if wck && s.refSt n ≠ rsFAILED then s.judgeRate n meas else (false, s)
      | none => (false, s)
    let glitch := wck && i.glitch && s.refSt n ≠ rsFAILED
    let s := if glitch then s.refGlitch n else s
    let m := s.mon n
    let st := s.refSt n
    let s :=
      if st = rsQUALIFIED || st = rsSUSPECT || st = rsACTIVE then
        if m.hard then s.disqualify n 2
        else if decide (4 ≤ m.glitches.length) && glitch then s.disqualify n 4
        else if chg then s.disqualify n 5
        else if st = rsSUSPECT then
          s.setMon n { m with
            dwell := m.dwell - 1
            clear := if second && m.soft ≠ 0 then s.clearFull n else m.clear - 1 }
        else if m.soft ≠ 0 then s.toSuspect n
        else s
      else if st = rsQUALIFYING then
        let hold := glitch || m.soft ≠ 0 || (decide (n < 2) && s.ptpServo n != svLOCKED) || (wck && m.rate == 0)
        let q := if hold then s.qualFull n else if st0 = rsQUALIFYING then m.qual - 1 else m.qual
        s.setMon n { m with qual := q }
      else s
    s.showRemain n

/-- Whether an expiry of a monitor is due. -/
def State.qualDue (s : State) (n : Nat) : Bool := s.refSt n == rsQUALIFYING && (s.mon n).qual == 0
def State.clearDue (s : State) (n : Nat) : Bool := s.refSt n == rsSUSPECT && (s.mon n).clear == 0
def State.dwellDue (s : State) (n : Nat) : Bool :=
  s.refSt n == rsSUSPECT && (s.mon n).dwell == 0 && (s.mon n).clear != 0
def State.refDue (s : State) (n : Nat) : Bool := s.qualDue n || s.clearDue n || s.dwellDue n

/-- QUALIFYING becomes QUALIFIED. -/
def State.takeQualify (s : State) (n : Nat) : State :=
  ((s.setRef n rsQUALIFIED).showRemain n).fire Ev.REF_QUALIFY (refObj n) n

/-- SUSPECT clears (R165, R176). -/
def State.takeClear (s : State) (n : Nat) : State :=
  let s := s.setRef n (if s.getF F.SEL_STATUS_SEL_REF = n then rsACTIVE else rsQUALIFIED)
  if s.clk.frozenBy = some n then s.setFrozen none else s

/-- SUSPECT ends by its dwell timer (R165). -/
def State.takeDwell (s : State) (n : Nat) : State := (s.disqualify n 3).showRemain n

/-! ## The selector (R168 to R171) -/

/-- The selector's mode and its forced reference. -/
def State.selMode (s : State) : Nat := s.getF F.SEL_CTL_MODE
def State.selRef (s : State) : Nat := s.getF F.SEL_STATUS_SEL_REF

/-- Whether a reference is eligible (R168). -/
def State.eligible (s : State) (n : Nat) : Bool :=
  (s.refSt n == rsQUALIFIED || s.refSt n == rsACTIVE) && s.getF (F.REF_STATUS_QUALITY n) != 15 &&
  (if s.selMode = 2 then s.getF F.SEL_CTL_FORCE_REF == n else s.getF (F.REF_CTL_PRIORITY n) != 0)

/-- The ranking in use (R168): 0 quality, 1 priority, 2 forced. -/
def State.ranking (s : State) : Nat :=
  if s.selMode = 2 then 2
  else if s.selMode = 0 && (List.range 7).any (fun n => s.eligible n &&
      decide (1 ≤ s.getF (F.REF_STATUS_QUALITY n)) && decide (s.getF (F.REF_STATUS_QUALITY n) ≤ 5)) then 0
  else 1

/-- A reference's key under the ranking in use (R168). -/
def State.selKey (s : State) (n : Nat) : List Nat :=
  let q := s.getF (F.REF_STATUS_QUALITY n)
  let p := s.getF (F.REF_CTL_PRIORITY n)
  if s.getF F.SEL_STATUS_EFF = 0 then [if q = 0 then 6 else q, p, n] else [p, n]

/-- Whether a reference is strictly better than another. -/
def State.better (s : State) (a b : Nat) : Bool := lexLt (s.selKey a) (s.selKey b)

/-- The best eligible reference; 7 none. -/
def State.best (s : State) : Nat :=
  ((List.range 7).filter s.eligible).foldl (fun b n => if b = 7 || s.better n b then n else b) 7

/-- HOLDOFF and WTR in milliseconds (R183). -/
def State.holdoffMs (s : State) : Nat := [500, 1000, 2000, 5000].getD (s.getF F.SEL_CTL_HOLDOFF) 1000
def State.wtrMs (s : State) : Nat := [0, 5000, 60000, 300000].getD (s.getF F.SEL_CTL_WTR) 5000

/-- The selected reference is deselected (R171). -/
def State.deselect (s : State) : State :=
  let n := s.selRef
  if n = 7 then s
  else
    let s := s.setF F.SEL_STATUS_SEL_REF 7
    let s := if s.refSt n = rsACTIVE then s.setRef n rsQUALIFIED else s
    (s.logState orgSelector (selObj 0) n 7).loopDeselect n

/-- Whether the selected reference is lost (Table 7.6). -/
def State.selLost (s : State) : Bool :=
  let n := s.selRef
  n != 7 && (s.refSt n == rsDISABLED || s.refSt n == rsFAILED || s.refSt n == rsQUALIFYING ||
    s.getF (F.REF_STATUS_QUALITY n) == 15 ||
    (if s.selMode = 2 then s.getF F.SEL_CTL_FORCE_REF != n else s.getF (F.REF_CTL_PRIORITY n) == 0))

/-- The choice of Table 7.6 with its continuity conditions left aside: the reference that should be a target; 7
none. -/
def State.choice (s : State) : Nat :=
  let b := s.best
  let n := s.selRef
  if n = 7 || s.refSt n = rsSUSPECT then b
  else if b = 7 || b = n then 7
  else if s.selMode = 2 then b
  else if !s.better b n then 7
  else if s.getF F.SEL_STATUS_EFF = 1 && !s.on F.SEL_CTL_REVERTIVE then 7
  else b

/-- The target Table 7.6 decides on, its continuity conditions kept; 7 none. -/
def State.decide_ (s : State) : Nat × State :=
  let c := s.choice
  let n := s.selRef
  let free := n = 7 || s.refSt n = rsSUSPECT || s.selMode = 2
  let s := if c ≠ 7 && s.clk.betRef = c then s
    else { s with clk := { s.clk with betRef := c, betMs := 0 } }
  if c = 7 || free then (c, s)
  else if s.clk.betMs < s.holdoffMs then (7, s)
  else if s.getF F.SEL_STATUS_EFF = 1 && (s.mon c).since < s.wtrMs then (7, s)
  else (c, s)

/-- The TARGET and PHASE registers follow the switch machine. -/
def State.showSwitch (s : State) : State :=
  let t := if s.clk.running then s.clk.target else s.clk.want
  let ph := if s.clk.running then s.getF F.SEL_STATUS_PHASE else if s.clk.settle.isSome then 4 else 0
  (s.setF F.SEL_STATUS_TARGET t).setF F.SEL_STATUS_PHASE ph

/-- SELECT of a target (Table 7.7): MEASURE takes 1 tick for REF0, REF1 and REF5 and 64 for the others. -/
def State.selectTarget (s : State) (n : Nat) : State :=
  let m := if n = 0 || n = 1 || n = 5 then 1 else 64
  { s with clk := { s.clk with running := true, rebuild := false, target := n, want := 7, meas := m + 1, acc := 0, accN := 0 } }.setF
    F.SEL_STATUS_PHASE 1

/-- A running switch is abandoned for a new target, or for none (R174, R175). -/
def State.abandon (s : State) (cause new : Nat) : State :=
  let old := s.clk.target
  let s := s.fire Ev.SWITCH_ABANDON (selObj 0) (old + 16 * new + 256 * cause)
  let s := (s.incSat F.SEL_COUNT_ABANDONS).logState orgSelector (selObj 1) old new
  if new = 7 then { s with clk := { s.clk with running := false, target := 7, want := 7 } } else s.selectTarget new

/-- A rebuild is dropped (R186). -/
def State.dropRebuild (s : State) : State :=
  { s with clk := { s.clk with running := false, rebuild := false, target := 7 } }

/-- Whether a start is due: a target waits and the spacing allows it (R169). -/
def State.startDueSw (s : State) : Bool :=
  s.clk.want != 7 && (!s.clk.running || s.clk.rebuild) && s.getF F.SEL_STATUS_HOLDOFF_REMAIN == 0

/-- Step 3 of a tick: ranking, deselection, retargeting and abandonment of a running switch, the target of the
next one. -/
def State.selectorStep (s : State) : State :=
  let eff := s.ranking
  let old := s.getF F.SEL_STATUS_EFF
  let s := if eff = old then s else (s.setF F.SEL_STATUS_EFF eff).logState orgSelector (selObj 2) old eff
  let host := s.clk.host
  let s := { s with clk := { s.clk with host := false } }
  if !s.on F.SEL_CTL_EN || s.inSafe 2 8 then
    let s := if !s.clk.running then s else if s.clk.rebuild then s.dropRebuild else s.abandon 4 7
    let s := { s with clk := { s.clk with want := 7, betRef := 7, betMs := 0 } }
    s.deselect.showSwitch
  else
    let s := if s.selLost then s.deselect else s
    let s := if s.clk.running && s.clk.rebuild && s.selRef ≠ s.clk.target then s.dropRebuild else s
    if s.clk.running && !s.clk.rebuild then
      let t := s.clk.target
      let b := s.best
      let s :=
        if host && (s.refSt t == rsQUALIFIED || s.refSt t == rsACTIVE) && s.choice ≠ t then s.abandon 3 s.choice
        else if !s.eligible t then s.abandon 2 b
        else if b ≠ t && s.better b t then s.abandon 1 b
        else s
      s.showSwitch
    else
      let (w, s) := s.decide_
      { s with clk := { s.clk with want := w } }.showSwitch

/-- The rest of a tick once no expiry of a monitor is due: selector and mode of the loop (R170). -/
def State.afterMonitors (s : State) : State :=
  if (List.range 7).any s.refDue then s else s.selectorStep.hoApply

/-! ## The switch machine (R172, R173, R176) -/

/-- SWITCH_START (R169, R180): the waiting target is fixed, the spacing restarts; a rebuild is abandoned. -/
def switchStart (s : State) : State :=
  if !s.startDueSw then s
  else
    let n := s.clk.want
    let s := s.fire Ev.SWITCH_START (selObj 0) (s.clk.lastSel + 16 * n)
    let s := s.logState orgSelector (selObj 1) 7 n
    let s := s.setF F.SEL_STATUS_HOLDOFF_REMAIN s.holdoffMs
    (s.selectTarget n).showSwitch

/-- Whether BUILD-OUT is due: MEASURE has ended. -/
def State.buildDue (s : State) : Bool := s.clk.running && s.clk.meas == 0

/-- BUILD_OUT (R173, R126): the measured phase, with what the frequency difference adds to the instant, is
absorbed; `resid` is the residual in 2^-16 ns, at most 1 ns. -/
def buildOut (drift resid : Int) (s : State) : State :=
  if !s.buildDue then s
  else
    let n := s.clk.target
    let prev := s.selRef
    let rebuild := s.clk.rebuild
    let fromSus := prev ≠ 7 && s.refSt prev == rsSUSPECT
    let resid := if resid > 65536 then 65536 else if resid < -65536 then -65536 else resid
    let phase := roundDiv s.clk.acc s.clk.accN + drift
    let s := { s with clk := { s.clk with
      running := false, rebuild := false, target := 7, want := 7, lastSel := n
      settle := some (0, 0), settleRef := n, betRef := 7, betMs := 0 } }
    let s :=
      if rebuild then s
      else
        let s := s.setRef n rsACTIVE
        let s := if prev ≠ 7 && prev ≠ n && s.refSt prev = rsACTIVE then s.setRef prev rsQUALIFIED else s
        (s.setF F.SEL_STATUS_SEL_REF n).logState orgSelector (selObj 0) prev n
    let s := ((s.setISat F.SEL_LAST phase).setISat F.SEL_RESID resid).incSat F.SEL_COUNT_SWITCHES
    let s := s.fire Ev.SWITCH_DONE (selObj 0)
      (n + 256 * unsigned 8 (satSigned 8 (resid / 4096)) + 65536 * unsigned 16 (satSigned 16 (roundDiv phase 65536)))
    let s := s.loopBuildOut n (fromSus && prev ≠ n)
    let s := s.setF F.LOOP_STATUS_BW_EFF (s.bwCode n - 2)
    let s := if n < 2 && s.getF F.TB_CTL_TOD_SRC = 0 && s.on (F.D_CTL_EN n) then s.wantTod n else s
    s.showSwitch

/-- Whether a step of SETTLE is due. -/
def State.settleDue (s : State) : Bool :=
  match s.clk.settle with
  | some (ms, stage) => decide (2000 * (stage + 1) ≤ ms)
  | none => false

/-- SETTLE_STEP (R173, R176, R188): the bandwidth code rises towards the configured one; the second step ends
SETTLE, and releases the history where another reference froze it. -/
def settleStep (s : State) : State :=
  match s.clk.settle with
  | none => s
  | some (ms, stage) =>
    if !s.settleDue then s
    else
      let c := s.bwCode s.clk.settleRef
      if stage = 0 then
        { s with clk := { s.clk with settle := some (ms, 1) } }.setF F.LOOP_STATUS_BW_EFF (c - 1)
      else
        let s := { s with clk := { s.clk with settle := none } }.setF F.LOOP_STATUS_BW_EFF c
        let s := match s.clk.frozenBy with
          | some f => if f ≠ s.clk.settleRef then s.setFrozen none else s
          | none => s
        s.showSwitch

/-! ## Rows -/

/-- What a tick left due, taken (R170). -/
def State.flushTick (s : State) : State :=
  let s := if (List.range 7).any s.refDue then
      ((List.range 7).foldl (fun (s : State) n =>
        if s.qualDue n then s.takeQualify n
        else if s.clearDue n then s.takeClear n
        else if s.dwellDue n then s.takeDwell n
        else s) s).afterMonitors
    else s
  let s := if s.startDueSw then switchStart s else s
  let s := if s.buildDue then buildOut 0 0 s else s
  if s.settleDue then settleStep s else s

/-- Step 4's counting: spacing, SETTLE, MEASURE with its readings, and the bandwidth outside SETTLE (R188). -/
def State.switchCount (s : State) (loopOut : Int) : State :=
  let s := s.setF F.SEL_STATUS_HOLDOFF_REMAIN (s.getF F.SEL_STATUS_HOLDOFF_REMAIN - 1)
  let s := { s with clk := { s.clk with
    betMs := if s.clk.betRef = 7 then 0 else s.clk.betMs + 1
    settle := s.clk.settle.map (fun p => (p.1 + 1, p.2)) } }
  let s :=
    if !s.clk.running then s
    else
      let k := s.clk.meas - 1
      let s := { s with clk := { s.clk with meas := k } }
      if k = 0 then s.setF F.SEL_STATUS_PHASE 3
      else
        let s := { s with clk := { s.clk with acc := s.clk.acc + s.refPhase s.clk.target, accN := s.clk.accN + 1 } }
        s.setF F.SEL_STATUS_PHASE 2
  if s.loopMode = lmLOCKED then
    let r := s.getF F.LOOP_STATUS_REF
    let s := if s.clk.settle.isNone then s.setF F.LOOP_STATUS_BW_EFF (s.bwCode r) else s
    let s := s.setISat F.LOOP_PHASE_ERR (s.refPhase r)
    { s with clk := { s.clk with integ := loopOut } }.setLoopOut loopOut
  else s

/-- REF_TICK (R170): captures and measurements, consensus, monitors, selector, switch machine. -/
def refTick (inp : RefTickIn) (s : State) : State :=
  let s := s.flushTick
  let at_ := fun n => inp.refs.getD n {}
  let s := (List.range 7).foldl (fun s n => s.refCapture n (at_ n) inp.second) s
  let s := if inp.second then s.consensusSecond else s
  let s := (List.range 7).foldl (fun s n => s.refJudge n (at_ n) inp.second) s
  (s.switchCount inp.loopOut).afterMonitors

/-- REF_QUALIFY (R163). -/
def refQualify (n : Nat) (s : State) : State :=
  if s.qualDue n then (s.takeQualify n).afterMonitors else s

/-- REF_DWELL_EXPIRY (R165). -/
def refDwellExpiry (n : Nat) (s : State) : State :=
  if s.dwellDue n then (s.takeDwell n).afterMonitors else s

/-- REF_CLEAR_EXPIRY (R165). -/
def refClearExpiry (n : Nat) (s : State) : State :=
  if s.clearDue n then (s.takeClear n).afterMonitors else s

/-- WCK_STOP_DETECT (R178): no edge for two periods of a recognised rate. -/
def wckStop (n : Nat) (s : State) : State :=
  if !s.on (F.REF_CTL_EN n) || s.refSt n = rsFAILED || (s.mon n).rate = 0 then s
  else ((s.setMon n { s.mon n with act := false }).refFail n).showRemain n |>.afterMonitors

/-- WCK_RATE_RECOGNISED (R177). -/
def wckRecognised (n meas : Nat) (s : State) : State :=
  if !s.on (F.REF_CTL_EN n) || s.refSt n = rsFAILED || (s.mon n).rate ≠ 0 then s
  else match (s.refAccepted n).find? (nearRate meas) with
    | some r => (s.setMon n { s.mon n with rate := r }).setSat (F.REF_WCK_MEAS n) meas
    | none => s

/-- ESMC_PDU_RX and ESMC_TIMEOUT (R167): the level of REF2 or REF3 from the next tick on. -/
def esmcLevel (port level : Nat) (s : State) : State := s.setMon (2 + port) { s.mon (2 + port) with esmc := level }

/-! ## Enables and legal values (R163, R182, R183) -/

/-- EN of a monitor becomes 1. -/
def State.refEnable (s : State) (n : Nat) : State :=
  let m := s.mon n
  let s := s.setMon n { esmc := m.esmc, act := m.act }
  if s.refActive n then (s.toQualifying n).showRemain n else s.setRef n rsFAILED

/-- EN of a monitor becomes 0: nothing is measured. -/
def State.refDisable (s : State) (n : Nat) : State :=
  let s := s.setRef n rsDISABLED
  let s := s.setMon n { esmc := (s.mon n).esmc, act := (s.mon n).act }
  ((s.setF (F.REF_STATUS_QUALITY n) 0).setF (F.REF_STATUS_CONS_MEMBER n) 0).showRemain n

/-- A host write to MODE, FORCE_REF, PRIORITY or QUAL_CFG is seen at the next tick (R175). -/
def State.refHostChange (s : State) : State := { s with clk := { s.clk with host := true } }

/-- Legal data of a monitor's registers (R182). -/
def legalRef (n off v : Nat) : Bool :=
  if off = 0 then
    let q := bitsOf v 8 5
    (decide (q ≤ 5) || q == 15) && !(decide (n < 2) && q != 0) && bitsOf v 11 9 != 7 &&
    !(bitOf v 12 && !(n == 2 || n == 3))
  else if off = 4 then !(bitsOf v 5 4 == 0 && bitsOf v 1 0 == 3)
  else if off = 8 then decide (bitsOf v 2 0 ≤ 4)
  else true

/-- Whether a monitor may be enabled (R182): REF5 not while a generator selects G15. -/
def State.refConfigOk (s : State) (n : Nat) : Bool :=
  n != 5 || !(List.range 4).any (fun c => s.getF (F.CC_CTL_GPIO c) == 16)

/-- Legal data of the selector's register (R183). -/
def legalSel (off v : Nat) : Bool := off != 0 || (bitsOf v 2 1 != 3 && bitsOf v 6 4 != 7)

end Sys2Proof.Machine
end

