-- ==== Sys2Proof/Machine/StreamTab.lean ====
section
/-!
DEFINITION. Machine/StreamTab.lean: what receive, transmit and network ports share: the fields of stream blocks
(Table 10.1, Table 11.1), packet and frame sizes, committed wire rates (R216), layer-3 blocks (R208) and the
multicast groups of a port (R209).
-/

namespace Sys2Proof.Machine

/-! ## Block fields -/

/-- A field of a block; a block that was never written reads all zeros. -/
def bf (b : List Byte) (off k : Nat) : Nat := leAt b off k

/-- Stream rates (Table 10.1). -/
def rateHz (code : Nat) : Nat :=
  [48000, 96000, 192000, 384000, 44100, 88200, 176400, 352800].getD code 48000

/-- The rate multiple of a code. -/
def rateMul (code : Nat) : Nat := 2 ^ (code % 4)

/-- The rate family of a code: 0 48 kHz, 1 44.1 kHz. -/
def rateFam (code : Nat) : Nat := code / 4

/-- Common fields of both kinds of block. -/
def bFormat (b : List Byte) : Nat := bf b 0 1
def bRate (b : List Byte) : Nat := bf b 1 1
def bChannels (b : List Byte) : Nat := bf b 2 2
def bPtime (b : List Byte) : Nat := bf b 4 1
def bBind (b : List Byte) : Nat := bf b 5 1
def bPaths (b : List Byte) : Nat := bf b 7 1
def bFirst (b : List Byte) : Nat := bf b 8 2
def bPt (b : List Byte) : Nat := bf b 10 1
def bFlags (b : List Byte) : Nat := bf b 11 1
def bPort (b : List Byte) : Nat := bf b 12 2
def bDst (b : List Byte) : List Byte := (b.drop 32).take 16

/-- Samples a packet at the stream rate. -/
def bSpp (b : List Byte) : Nat := [3, 6, 12, 16, 48, 192].getD (bPtime b) 3 * rateMul (bRate b)

/-- Bytes a sample of a format. -/
def sampleBytes (f : Nat) : Nat := [2, 3, 4].getD f 4

/-- Payload bytes of a packet. -/
def bPayload (b : List Byte) : Nat := bChannels b * sampleBytes (bFormat b) * bSpp b

/-- Channel units (step 5 of Table 10.2). -/
def bUnits (b : List Byte) : Nat := bChannels b * rateMul (bRate b)

/-- Whether a receive or transmit block uses IPv6. -/
def rxV6 (b : List Byte) : Bool := bitOf (bFlags b) 4
def txV6 (b : List Byte) : Bool := bitOf (bFlags b) 1

/-- The IP address a 16-byte field holds: four bytes, or sixteen with IPv6. -/
def ipOf (field : List Byte) (v6 : Bool) : List Byte := if v6 then field else field.take 4

/-! ## Ports -/

/-- A port's state. -/
def State.port (s : State) (p : Nat) : PortState := KV.get {} s.str.ports p

/-- The state with a port changed. -/
def State.setPort (s : State) (p : Nat) (x : PortState) : State :=
  { s with str := { s.str with ports := KV.put {} s.str.ports p x } }

/-- A port's layer-3 block (Table 9.2). -/
def State.l3 (s : State) (p : Nat) : List Byte := KV.get [] s.str.l3 p

/-- A port's VLAN ID; 0 untagged. -/
def State.vlan (s : State) (p : Nat) : Nat := bf (s.l3 p) 6 2

/-- A port's PCP of a class (0 PTP, 1 media, 2 control, 3 best effort). -/
def State.pcp (s : State) (p c : Nat) : Nat := bf (s.l3 p) 12 2 / 8 ^ c % 8

/-- A port's MAC address. -/
def State.portMac (s : State) (p : Nat) : Nat := s.getF (F.MAC_ADDR_LO p) + 2 ^ 32 * s.getF (F.MAC_ADDR_HI p)

/-- Frame length of a media packet on a port (step 3 of Table 10.2). -/
def State.frameLen (s : State) (p : Nat) (b : List Byte) (v6 : Bool) : Nat :=
  bPayload b + (if v6 then 78 else 58) + (if s.vlan p = 0 then 0 else 4)

/-- Committed wire rate of a stream on a port, in bits per second (R216): preamble and gap included. -/
def State.wireRate (s : State) (p : Nat) (b : List Byte) (v6 : Bool) : Nat :=
  (s.frameLen p b v6 + 20) * 8 * rateHz (bRate b) / bSpp b

/-- Whether a block's PATHS names a path. -/
def onPath (b : List Byte) (p : Nat) : Bool := bitOf (bPaths b) p

/-! ## Entries -/

/-- Active banks. -/
def State.rxBank (s : State) : Nat := s.getF F.RXT_CTL_ACT_BANK
def State.txBank (s : State) : Nat := s.getF F.TXT_CTL_ACT_BANK

/-- An entry's block in a bank. -/
def State.rxBlkAt (s : State) (bank e : Nat) : List Byte := KV.get [] s.str.rxBlk (bank * 512 + e)
def State.txBlkAt (s : State) (bank e : Nat) : List Byte := KV.get [] s.str.txBlk (bank * 512 + e)

/-- An active entry's block. -/
def State.rxB (s : State) (e : Nat) : List Byte := s.rxBlkAt s.rxBank e
def State.txB (s : State) (e : Nat) : List Byte := s.txBlkAt s.txBank e

/-- An entry's enable flag in a bank. -/
def State.rxOn (s : State) (bank e : Nat) : Bool := s.str.rxFlag.contains (bank * 512 + e)
def State.txOn (s : State) (bank e : Nat) : Bool := s.str.txFlag.contains (bank * 512 + e)

/-- The enabled entries of the active banks. -/
def State.rxEnabled (s : State) : List Nat := (List.range 512).filter (s.rxOn s.rxBank)
def State.txEnabled (s : State) : List Nat := (List.range 512).filter (s.txOn s.txBank)

/-- The running receive entries, and one of them. -/
def State.rxRuns (s : State) : KV RxRun := s.str.rx
def State.rxRun (s : State) (e : Nat) : RxRun := KV.get {} s.str.rx e

/-- The state with a running entry changed. -/
def State.setRx (s : State) (e : Nat) (x : RxRun) : State := { s with str := { s.str with rx := KV.set s.str.rx e x } }
def State.setTx (s : State) (e : Nat) (x : TxRun) : State := { s with str := { s.str with tx := KV.set s.str.tx e x } }
def State.txRun (s : State) (e : Nat) : TxRun := KV.get {} s.str.tx e

/-- A list of numbers without one, and with one. -/
def without (l : List Nat) (n : Nat) : List Nat := l.filter (· ≠ n)
def withN (l : List Nat) (n : Nat) : List Nat := if l.contains n then l else n :: l

/-- Object IDs of entries. -/
def rxObj (e : Nat) : Nat := objId 4 0 e
def txObj (e : Nat) : Nat := objId 4 1 e

/-! ## Utilisation (R216) -/

/-- Bits per second of a speed code. -/
def speedBits (c : Nat) : Nat := [10000000000, 5000000000, 2500000000, 1000000000].getD c 1000000000

/-- Committed receive and transmit rates of a port. -/
def State.rxCommitted (s : State) (p : Nat) : Nat :=
  s.str.rx.foldl (fun a q => a + (if onPath (s.rxB q.1) p then s.wireRate p (s.rxB q.1) (rxV6 (s.rxB q.1)) else 0)) 0
def State.txCommitted (s : State) (p : Nat) : Nat :=
  s.str.tx.foldl (fun a q => a + (if onPath (s.txB q.1) p then s.wireRate p (s.txB q.1) (txV6 (s.txB q.1)) else 0)) 0

/-- A port's utilisation with more committed in each direction. -/
def State.utilWith (s : State) (p rx tx : Nat) : Nat :=
  max (s.rxCommitted p + (s.port p).rxRate + rx) (s.txCommitted p + (s.port p).txRate + tx)

/-! ## Multicast groups (R209) -/

/-- A group's number from an address in network order: IPv4 as its value, IPv6 with 2^128 added. -/
def groupOf (a : List Byte) : Nat := if a.length = 16 then 2 ^ 128 + beNat a else beNat a

/-- A layer-2 group's number. -/
def l2Group (mac : Nat) : Nat := 2 ^ 129 + mac

/-- Whether an address is multicast. -/
def isMulticast (a : List Byte) : Bool :=
  if a.length = 16 then beNat (a.take 1) == 0xFF else beNat (a.take 1) / 16 == 14

/-- The MAC address frames of a group carry. -/
def groupMac (g : Nat) : Nat :=
  if g ≥ 2 ^ 129 then g - 2 ^ 129
  else if g ≥ 2 ^ 128 then 0x333300000000 + g % 2 ^ 32
  else 0x01005E000000 + g % 2 ^ 23

/-- The groups of an enabled domain on its port (IEEE 1588-2019; log entry 12). -/
def State.ptpGroups (s : State) (d : Nat) : List Nat :=
  let t := s.getF (F.D_CTL_TRANSPORT d)
  if t = 0 then [0xE0000181, 0xE000006B]
  else if t = 1 then [2 ^ 128 + 0xFF0E0000000000000000000000000181, 2 ^ 128 + 0xFF02000000000000000000000000006B]
  else [l2Group 0x011B19000000, l2Group 0x0180C200000E]

/-- The announcement group as a port joins it: IPv4 where the port has an IPv4 address, else ff05::4096. -/
def State.annGroup (s : State) (p : Nat) : Nat :=
  if bf (s.l3 p) 4 1 = 0 then 2 ^ 128 + 0xFF050000000000000000000000004096
  else s.pair32 F.TXT_ANN_GRP_LO F.TXT_ANN_GRP_HI

/-- A list without repeats. -/
def dedupN : List Nat → List Nat
  | [] => []
  | a :: l => if l.contains a then dedupN l else a :: dedupN l

/-- The groups a port needs now, with further receive blocks joined (R209, R250). -/
def State.groupsWith (s : State) (p : Nat) (more : List (List Byte)) : List Nat :=
  if !s.on (F.MAC_CTL_EN p) then []
  else
    let blks := s.str.rx.map (fun q => s.rxB q.1) ++ more
    let streams := (blks.filter (fun b => onPath b p)).filterMap (fun b =>
      let a := ipOf (bDst b) (rxV6 b)
      if isMulticast a then some (groupOf a) else none)
    let ptp := [0, 1].flatMap (fun d => if s.on (F.D_CTL_EN d) && s.getF (F.D_CTL_PORT d) = p then s.ptpGroups d else [])
    dedupN (s.annGroup p :: ptp ++ streams)

/-- The blocks a pending swap brings in. -/
def State.rxIncoming (s : State) : List (List Byte) :=
  if s.str.rxSwap.isNone then []
  else (List.range 512).filterMap (fun e =>
    if s.rxOn (1 - s.rxBank) e then some (s.rxBlkAt (1 - s.rxBank) e) else none)

/-- The joined groups of every port brought in line: joins and leaves are sent. -/
def State.syncGroups (s : State) : State :=
  (List.range 4).foldl (fun s p =>
    let old := (s.port p).groups
    let new := dedupN (s.groupsWith p s.rxIncoming ++ (if s.on (F.MAC_CTL_EN p) then (s.port p).oldGroups else []))
    let s := (new.filter (fun g => !old.contains g)).foldl (fun s g => s.emit (.igmp p g true)) s
    let s := (old.filter (fun g => !new.contains g)).foldl (fun s g => s.emit (.igmp p g false)) s
    s.setPort p { s.port p with groups := new }) s

/-! ## Ticks and times -/

/-- A time's tick on the grid: ticks since the epoch of the boundary at or before it. -/
def State.tickOf (s : State) (u : Int) : Int := u * s.tps / 65536000000000

/-- The time of a tick boundary in 2^-16 ns, rounded down. -/
def State.tickUnits (s : State) (t : Int) : Int := t * 65536000000000 / s.tps

/-- The time of the request in execution: 2 ms ahead for a mirrored one (R413). -/
def State.reqUnits (s : State) : Int := s.pair.reqAt.getD s.now.units

/-- The first tick boundary at least `n` ticks after the request's time (R250, R270): where that is a boundary, exactly
`n` later. -/
def State.ticksAhead (s : State) (n : Nat) : Nat :=
  match s.pair.reqAt with
  | some u => ((u * s.tps + 65535999999999) / 65536000000000).toNat + n
  | none =>
    let c := s.time.sec * s.rate + s.time.cyc
    (c + 3071) / 3072 + n

/-- The state at the next tick boundary, if that boundary is tick `t` or later (a happening fixed to a tick). -/
def State.atTick (s : State) (t : Nat) (f : State → State) : State :=
  let b := s.toBoundary
  if t ≤ b.gridTick then f b else s

/-- Base sample rate of the device's family. -/
def State.baseHz (s : State) : Nat := if s.on F.LOOP_MEDIA_FAMILY then 44100 else 48000

/-- First failing offset of a list of checks in offset order. -/
def firstBad : List (Nat × Bool) → Option Nat
  | [] => none
  | (o, ok) :: l => if ok then firstBad l else some o

/-- Whether a slice of a block is all zero. -/
def zeroAt (b : List Byte) (off k : Nat) : Bool := bf b off k == 0

end Sys2Proof.Machine
end

