-- ==== Sys2Proof/Machine/Mem.lean ====
section
/-!
DEFINITION. Machine/Mem.lean: the LPDDR4X controller, the Ream's sample pool and the Posts (chapter 14, R327 to
R344).
-/

namespace Sys2Proof.Machine

/-! ## The sample pool (R331, R332) -/

/-- Granules of 4 KiB that so many bytes take. -/
def granules (bytes : Nat) : Nat := (bytes + 4095) / 4096

/-- Granules of the sample pool by density code. -/
def poolTotal (density : Nat) : Nat := [194560, 423936, 882688].getD density 0

/-- A receive entry's span in ticks (R243). -/
def State.spanTicks (s : State) (b : List Byte) : Nat :=
  let hz := rateHz (bRate b)
  let slack := [1, 2, 5, 10, 100, 1000].getD (bf b 16 1) 1
  ceilDiv (((bf b 20 4 + bSpp b) * 1000 + slack * hz) * s.baseHz) (3000 * hz)

/-- Bytes of a receive entry's jitter buffer (R243). -/
def State.jitterBytes (s : State) (b : List Byte) : Nat :=
  bChannels b * (s.spanTicks b * 3 * rateMul (bRate b)) * 4

/-- Granules held by jitter buffers and by delay lines, and the lines' number and bytes. -/
def State.jitterGran (s : State) : Nat := s.rxEnabled.foldl (fun a e => a + granules (s.jitterBytes (s.rxB e))) 0
def State.delayGran (s : State) : Nat := s.dsp.comp.foldl (fun a q => a + q.2.gran) 0
def State.delayLines (s : State) : Nat := s.dsp.comp.foldl (fun a q => a + q.2.lines) 0
def State.delayBytes (s : State) : Nat := s.dsp.comp.foldl (fun a q => a + q.2.bytes) 0

/-- Whether the Ream has been trained and its density is known. -/
def State.trained (s : State) : Bool := s.on F.MEM_STATUS_TRAINED

/-- The pool in granules. -/
def State.pool (s : State) : Nat := poolTotal (s.getF F.MEM_STATUS_DENSITY)

/-- Whether so many granules of jitter buffer and of delay lines fit in all (R328, R332). -/
def State.reamFits (s : State) (jit del lines : Nat) : Bool :=
  s.trained && decide (jit + del ≤ s.pool) && decide (del ≤ min 262144 s.pool) && decide (lines ≤ 8192)

/-- The Ream manager's registers follow its owners. -/
def State.refreshReam (s : State) : State :=
  let j := s.jitterGran
  let d := s.delayGran
  let s := (s.setF F.RM_POOL_TOTAL s.pool).setF F.RM_POOL_FREE (s.pool - j - d)
  let s := (s.setF F.RM_DELAY_GRAN d).setF F.RM_DELAY_LINES s.delayLines
  let s := s.setF F.GRT_DELAY_BYTES s.delayBytes
  s.setF F.RXT_REAM_BYTES (s.rxEnabled.foldl (fun a e => a + s.jitterBytes (s.rxB e)) 0)

/-- An allocation fails (R332). -/
def State.reamFull (s : State) (gran : Nat) : State := s.fire Ev.REAM_FULL (objId 9 1 0) gran

/-- Whether the Ream answers no access: PHY unlocked, in self-refresh, or an offline retrain (R337, R339). -/
def State.reamDown (s : State) : Bool := s.mem.offline || !s.on F.MEM_STATUS_PHY_LOCK

/-! ## Training (R328, R329, R336, R337) -/

/-- The margin field of a lane. -/
def memMargin (k : Nat) : Fld :=
  [F.MEM_MARGIN_MARGIN_0, F.MEM_MARGIN_MARGIN_1, F.MEM_MARGIN_MARGIN_2].getD k F.MEM_MARGIN_MARGIN_3

/-- The four margins and the worst of them. -/
def State.setMargins (s : State) (m : List Nat) : State :=
  (List.range 4).foldl (fun s k => s.setSat (memMargin k) (m.getD k 0)) s
def worstMargin (m : List Nat) : Nat := (List.range 4).foldl (fun a k => min a (m.getD k 0)) 255

/-- The lane of the worst margin. -/
def worstLane (m : List Nat) : Nat :=
  (List.range 4).foldl (fun a k => if m.getD k 0 < m.getD a 0 then k else a) 0

/-- A training or retrain result takes effect (R328, R329): TRAINED, margins, events. `flags` holds bits 8 and 9
of the failure detail. -/
def State.trainResult (s : State) (m : List Nat) (pass : Bool) (flags : Nat) : State :=
  let old := (List.range 4).foldl (fun a k => min a (s.getF (memMargin k))) 255
  let w := worstMargin m
  let s := (s.setMargins m).setF F.MEM_STATUS_TRAINED (b2n pass)
  let s := s.setF F.MEM_LAST_TRAIN s.now.sec
  let s := if w < 35 && (35 ≤ old || old = 0) then
      s.fire Ev.TRAIN_MARGIN (objId 9 0 0) (w + 256 * worstLane m) else s
  if pass then s
  else (s.incSat F.MEM_RETRAIN_FAILS).fire Ev.RETRAIN_FAIL (objId 9 0 0) (worstLane m + flags)

/-- A live retrain starts unless the device is in LISTEN or self-refresh (R336). -/
def State.startLive (s : State) : State :=
  if s.on F.MEM_STATUS_SELF_REFRESH || s.getF F.PWR_STATUS_STATE ≠ 3 then s
  else { s with mem := { s.mem with live := true } }

/-- RETRAIN_DUE (R336): the interval, or a move of the temperature band; nothing with both off. -/
def retrainDue (s : State) : State :=
  if s.getF F.MEM_DDR_CTL_RETRAIN_INT = 0 && s.getF F.MEM_DDR_CTL_TEMP_DELTA = 3 then s else s.startLive

/-- RETRAIN_PASS_END (R336, R341): a pass completes; a timing that widens the worst-lane eye is applied and
logged. -/
def retrainPassEnd (margins : List Nat) (widens : Bool) (s : State) : State :=
  if !s.mem.live then s
  else
    let s := { s with mem := { s.mem with live := false } }
    let old := (List.range 4).foldl (fun a k => min a (s.getF (memMargin k))) 255
    let w := worstMargin margins
    let pass := decide (25 ≤ w)
    let s := s.trainResult margins pass 0
    let s := (s.incSat F.MEM_RETRAINS).fire Ev.RETRAIN_DONE (objId 9 0 0) w
    if widens && old < w then s.logState orgCalender (objId 9 0 1) old w else s

/-- MEM_RETRAIN begins (R337): BAD_STATE without FORCE while an entry plays or a delay line is held. -/
def opMemRetrain (q : Req) (s : State) : OpOut :=
  if q.params.length ≠ 8 then badLen
  else if q.obj ≠ objId 9 0 0 then .bad 16
  else if q.field 4 4 > 1 then .bad 20
  else if q.field 4 4 = 0 && (s.str.rx.any (fun p => p.2.st == 3) || s.delayLines != 0) then .err stBAD_STATE
  else .long { s with mem := { s.mem with live := false, offline := true } }

/-- MEM_RETRAIN ends (R337): its result, and the reply parameters. -/
def State.memRetrainEnd (s : State) (ok : Bool) (m : List Nat) : List Byte × State :=
  let pass := ok && decide (25 ≤ worstMargin m)
  let s := { s with mem := { s.mem with offline := false } }.incSat F.RM_OUTAGES
  let w := worstMargin m
  if pass then
    let s := (s.trainResult m true 256).incSat F.MEM_RETRAINS
    (leBytes 1 0 ++ leBytes 1 w ++ leBytes 2 0, s.fire Ev.RETRAIN_DONE (objId 9 0 0) (w + 256))
  else
    let s := s.incSat F.MEM_RETRAIN_FAILS
    (leBytes 1 1 ++ leBytes 1 w ++ leBytes 2 0, s.fire Ev.RETRAIN_FAIL (objId 9 0 0) (worstLane m + 256))

/-! ## Refresh, PHY, scrub, bandwidth (R330, R333, R335, R339) -/

/-- DRAM_MR4_CHANGE (R330): `mult` is 0, 1 or 2 for 1x, 2x or 4x. -/
def dramMr4 (code mult : Nat) (derate : Bool) (s : State) : State :=
  let old := s.getF F.MEM_STATUS_REFRESH
  let s := (s.setF F.MEM_STATUS_MR4 code).setF F.MEM_STATUS_REFRESH mult
  let s := if old = mult then s else s.fire Ev.REFRESH_RATE (objId 9 0 0) (2 ^ mult)
  if derate then s.raise Ev.DRAM_TEMP (objId 9 0 0) code else s.setRaw Ev.DRAM_TEMP false

/-- Self-refresh entered or left (R330). -/
def State.selfRefresh (s : State) (on : Bool) : State :=
  if s.on F.MEM_STATUS_SELF_REFRESH = on then s
  else (s.setF F.MEM_STATUS_SELF_REFRESH (b2n on)).fire (if on then Ev.SR_ENTER else Ev.SR_EXIT) (objId 9 0 0) 0

/-- DDR_PHY_UNLOCK (R339). -/
def ddrUnlock (s : State) : State :=
  if !s.on F.MEM_STATUS_PHY_LOCK then s
  else ((s.setF F.MEM_STATUS_PHY_LOCK 0).incSat F.RM_OUTAGES).raise Ev.DDR_PHY_UNLOCK (objId 9 0 0) 0

/-- DDR_PHY_LOCK (R339): a live retrain starts at once. -/
def ddrLock (s : State) : State :=
  if s.on F.MEM_STATUS_PHY_LOCK then s
  else ((s.setF F.MEM_STATUS_PHY_LOCK 1).setRaw Ev.DDR_PHY_UNLOCK false).startLive

/-- SCRUB_PASS_END (R335): `bad` uncorrectable words were found. -/
def scrubEnd (bad : Nat) (s : State) : State :=
  if s.getF F.RM_CTL_SCRUB_INT = 3 then s
  else ((s.incSat F.RM_SCRUB_PASSES).addSat F.RM_ECC_UNCORR bad).fire Ev.SCRUB_PASS (objId 9 1 0) bad

/-- BW_WARN in MB/s (R343); 0 off. -/
def State.bwWarn (s : State) : Nat := [0, 6000, 8000, 9000, 10000, 12000].getD (s.getF F.RM_CTL_BW_WARN) 0

/-- BW_SECOND (R333): average traffic in MB/s, p99 and largest read latency of the second in 10 ns. -/
def bwSecond (avg p99 peak : Nat) (s : State) : State :=
  let s := (s.setSat F.RM_BW_AVG avg).setSat F.RM_READ_P99 p99
  let s := if avg > s.getF F.RM_BW_PEAK then s.setSat F.RM_BW_PEAK avg else s
  let s := if peak > s.getF F.RM_READ_MAX then s.setSat F.RM_READ_MAX peak else s
  let s := if s.bwWarn ≠ 0 && avg > s.bwWarn then s.raise Ev.BW_WARN (objId 9 1 0) avg else s.setRaw Ev.BW_WARN false
  if p99 > 200 then s.raise Ev.BW_LIMIT (objId 9 1 0) p99 else s.setRaw Ev.BW_LIMIT false

/-- A memory error met in a tick, as far as the Ream and the Posts count it (R334, R338). -/
def State.memError (s : State) (off : Nat) (a : EccAt) : State :=
  match a with
  | .corrected =>
    ((s.incSat F.RM_ECC_CORR).setF F.RM_LAST_ECC off).fire Ev.ECC_CORR (objId 9 1 0) off
  | .post i unc =>
    let s := if unc then s.flagWindow.incSat F.POST_ECC_UNCORR else s.incSat F.POST_ECC_CORR
    s.fire Ev.POST_ECC (objId 9 2 0) (i + 256 * b2n unc)
  | .postDrop i u => (s.incSat (F.POST_DROPS i)).fire Ev.LOCAL_POST_DROP (objId 9 2 0) (i + 256 * u)
  | .sample _ _ | .ucode _ _ => s
  | .jitter _ _ | .delay _ _ _ | .history | .peer _ | .store =>
    (((s.flagWindow.incSat F.RM_ECC_UNCORR).setF F.RM_LAST_ECC off).fire Ev.ECC_UNCORR (objId 9 1 0) off).startLive

/-- Legal data of the memory units' registers (R342, R343). -/
def legalMem (u off v : Nat) : Bool :=
  if u = 0 && off = 0 then decide (bitsOf v 3 1 ≤ 4)
  else if u = 1 && off = 0 then decide (bitsOf v 5 3 ≤ 5)
  else true

end Sys2Proof.Machine
end

