-- ==== Sys2Proof/Machine/Rx.lean ====
section
/-!
DEFINITION. Machine/Rx.lean: receiving streams (chapter 10): presentation times, the path merger, playout, the
applied shifts H_d and the foreign-domain estimators (R235 to R249, R251).
-/

namespace Sys2Proof.Machine

/-! ## Small helpers -/

/-- A list with one element changed. -/
def setAt {α : Type} : List α → Nat → α → List α
  | [], _, _ => []
  | _ :: l, 0, v => v :: l
  | a :: l, n + 1, v => a :: setAt l n v

/-- A saturating 32-bit counter of a list moved on. -/
def bump (l : List Nat) (i : Nat) : List Nat := setAt l i (satNat 32 (l.getD i 0 + 1))

/-- A saturating 32-bit counter moved on. -/
def inc32 (n : Nat) : Nat := satNat 32 (n + 1)
def inc16 (n : Nat) : Nat := satNat 16 (n + 1)

/-- A bit set in a mask, and cleared. -/
def withBit (m b : Nat) : Nat := if bitOf m b then m else m + 2 ^ b
def noBit (m b : Nat) : Nat := if bitOf m b then m - 2 ^ b else m

/-- Units of 2^-16 ns in a second. -/
def unitsSec : Nat := 65536000000000

/-- The time of stream sample `i` of a rate, in 2^-16 ns. -/
def sampleUnits (hz : Nat) (i : Int) : Int := i * unitsSec / hz

/-- The tick whose block holds stream sample `i` of a rate (R238). -/
def State.sampleTick (s : State) (hz : Nat) (i : Int) : Int := i * s.tps / hz

/-- Receive fields of a block (Table 10.1). -/
def bFd (b : List Byte) : Nat := bf b 6 1
def bLoss (b : List Byte) : Nat := bf b 14 2
def bLink (b : List Byte) : Nat := bf b 20 4
def bRtpOff (b : List Byte) : Nat := bf b 24 4
def bSsrc (b : List Byte) : Nat := bf b 28 4
def bSrc (b : List Byte) : List Byte := (b.drop 48).take 16

/-! ## The pair's share of receive and transmit -/

/-- Whether the pair link carries packets (R245). -/
def State.pairLinkUp (s : State) : Bool := s.on F.LINK_STATUS_UP

/-- The condition bits of group 6 follow the entries and estimators (R255). -/
def State.refreshRxRaw (s : State) : State :=
  let s := s.setRaw Ev.RX_LOSS (s.str.rx.any (fun q => q.2.st == 4))
  let s := s.setRaw Ev.PATH_LOSS (s.str.rx.any (fun q => q.2.lost != 0))
  let s := s.setRaw Ev.BUF_UNDER (s.str.rx.any (fun q => q.2.under))
  s.setRaw Ev.FD_RANGE ((List.range 64).any (fun k => s.getF (F.FD_STATUS_STATE k) == 4))

/-- Units and entries of the receive table in use (Table 10.9). -/
def State.refreshRxt (s : State) : State :=
  let l := s.rxEnabled
  let u := l.foldl (fun a e => a + bUnits (s.rxB e)) 0
  ((s.setF F.RXT_USED_UNITS u).setF F.RXT_USED_ENTRIES l.length).refreshReam

/-! ## Foreign-domain estimators (R247, R248) -/

def fdIDLE : Nat := 0
def fdACQUIRE : Nat := 1
def fdLOCKED : Nat := 2
def fdHOLD : Nat := 3
def fdRANGE : Nat := 4

/-- An estimator, and the state with it changed. -/
def State.fdEst (s : State) (k : Nat) : FdState := KV.get {} s.str.fd k
def State.setFd (s : State) (k : Nat) (x : FdState) : State := { s with str := { s.str with fd := KV.put {} s.str.fd k x } }

/-- The estimator's state, and its object. -/
def State.fdSt (s : State) (k : Nat) : Nat := s.getF (F.FD_STATUS_STATE k)
def fdObj (k : Nat) : Nat := objId 4 4 k

/-- The running entries bound to an estimator. -/
def State.fdBound (s : State) (k : Nat) : List (Nat × RxRun) :=
  s.str.rx.filter (fun q => bBind (s.rxB q.1) == 2 && bFd (s.rxB q.1) == k)

/-- The lead stream's entry (R247). -/
def State.fdLead (s : State) (k : Nat) : Option Nat :=
  ((s.fdBound k).find? (fun q => q.2.st != 4 && q.2.st != 5)).map (·.1)

/-- LOCK_WIN in 2^-16 ns. -/
def State.lockWin (s : State) (k : Nat) : Int :=
  65536000 * ([50, 100, 250, 1000].getD (s.getF (F.FD_CFG_LOCK_WIN k)) 250 : Nat)

/-- The predicted arrival time of RTP timestamp `ts` of a stream of rate `hz` and offset `off` (R247): the line's
anchor carried to that stream's count, then the count since it at the sender's ratio. -/
def linePred (lineR : Nat) (lineT : Int) (lineHz lineOff : Nat) (ratio : Int) (hz off ts : Nat) : Int :=
  let anchor : Int := (((lineR + 2 ^ 32 - lineOff) % 2 ^ 32 * hz / (if lineHz = 0 then 1 else lineHz) + off : Nat) : Int)
  let n := signed 32 (unsigned 32 ((ts : Int) - anchor))
  lineT + n * unitsSec * 10 ^ 12 / (hz * (10 ^ 12 + ratio))
def State.fdPred (s : State) (k hz off ts : Nat) : Int :=
  let x := s.fdEst k
  linePred x.lineR x.lineT x.lineHz x.lineOff (s.getI (F.FD_RATIO k)) hz off ts

/-- The share a standby applies in place of its own values (R414). -/
def State.shareUsed (s : State) : Option ShareIn :=
  let st := s.getF F.ROLE_STATUS_STATE
  if st = 2 || st = 3 then s.pair.share else none

/-- The estimator's state, and its prediction, as streams use them: a standby's are the shared ones. -/
def State.fdStUsed (s : State) (k : Nat) : Nat :=
  match s.shareUsed with
  | some x => ((x.fd.find? (fun f => f.k == k)).map (·.st)).getD fdIDLE
  | none => s.fdSt k
def State.fdPredUsed (s : State) (k hz off ts : Nat) : Int :=
  match s.shareUsed with
  | some x => (match x.fd.find? (fun f => f.k == k) with
    | some f => linePred f.lineR f.lineT f.lineHz f.lineOff f.ratio hz off ts
    | none => s.fdPred k hz off ts)
  | none => s.fdPred k hz off ts

/-- The line laid through one packet. -/
def State.fdAnchor (s : State) (k hz off ts : Nat) (at_ : Int) : State :=
  s.setFd k { s.fdEst k with lineR := ts, lineT := at_, lineHz := hz, lineOff := off, feed := [] }

/-- An unlock is counted and fires (Table 10.5). -/
def State.fdUnlock (s : State) (k cause : Nat) : State :=
  (s.incSat (F.FD_UNLOCKS k)).fire Ev.FD_UNLOCK (fdObj k) (k + 256 * cause)

/-- An estimator begins to acquire. -/
def State.fdAcquire (s : State) (k : Nat) (at_ : Int) : State :=
  let s := s.setF (F.FD_STATUS_STATE k) fdACQUIRE
  s.setFd k { s.fdEst k with acqT := at_, badT := at_ - 1, badRun := 0 }

/-- What follows a change of an estimator's entries: its lead and bound count, and HOLD where every bound entry
is LOST or disabled (Table 10.5). -/
def State.fdRefresh (s : State) (k : Nat) : State :=
  let l := s.fdBound k
  let st := s.fdSt k
  let s := if (st = fdACQUIRE || st = fdLOCKED || st = fdRANGE) && l.all (fun q => q.2.st == 4) then
      let s := s.setF (F.FD_STATUS_STATE k) fdHOLD
      if st = fdACQUIRE then s else s.fdUnlock k 2
    else s
  let lead := s.fdLead k
  let cross := match lead with
    | some e => rateFam (bRate (s.rxB e)) != s.getF F.LOOP_MEDIA_FAMILY
    | none => false
  ((s.setF (F.FD_STATUS_LEAD k) (lead.getD 0x3FF)).setF (F.FD_STATUS_CROSS k) (b2n cross)).setF (F.FD_BOUND k) l.length

/-- The estimators after a change of entry `e`'s state. -/
def State.fdAfter (s : State) (b : List Byte) : State := if bBind b = 2 then s.fdRefresh (bFd b) else s

/-- A packet of entry `e` that passed steps 1 and 2 reaches its estimator (R247, Table 10.5): it starts or resumes
acquisition, and a number of the lead stream not used before feeds the fit. -/
def State.fdFeed (s : State) (e : Nat) (b : List Byte) (p : MediaPkt) (at_ : Int) : State :=
  let k := bFd b
  let st := s.fdSt k
  let hz := rateHz (bRate b)
  if !s.on (F.FD_CFG_EN k) then s
  else if st = fdIDLE || st = fdHOLD then
    let s := if st = fdIDLE then s.setI (F.FD_RATIO k) 0 else s
    let s := (s.fdAnchor k hz (bRtpOff b) p.ts at_).fdAcquire k at_
    s.setFd k { s.fdEst k with used := [p.seq] }
  else if s.fdLead k == some e && !(s.fdEst k).used.contains p.seq then
    let x := s.fdEst k
    s.setFd k { x with feed := x.feed ++ [(p.ts, at_)], used := (p.seq :: x.used).take 1024 }
  else s

/-- One packet of the feed judged by the loop: its error, and the runs and sums that follow it. A sixteenth large
error in a row while LOCKED or RANGE acquires anew through that packet. -/
def State.fdError (s : State) (k hz off : Nat) (q : Nat × Int) : State :=
  let x := s.fdEst k
  let err := q.2 - s.fdPred k hz off q.1
  let win := s.lockWin k
  let ns := (err / 65536).natAbs
  let large := decide ((err.natAbs : Int) ≥ 4 * win)
  let st := s.fdSt k
  let run := if large then x.badRun + 1 else 0
  let s := s.setFd k { x with
    badRun := run, sumSq := x.sumSq + ns * ns, cnt := x.cnt + 1
    badT := if decide ((err.natAbs : Int) ≥ win) then q.2 else x.badT }
  if run ≥ 16 && (st = fdLOCKED || st = fdRANGE) then
    ((s.fdAnchor k hz off q.1 q.2).fdAcquire k q.2).fdUnlock k 1
  else s

/-- FD_ESTIMATOR_UPDATE (R248, Table 10.5): the loop takes the packets fed since its last update, moves its line by
`adj` (2^-16 ns) and its ratio to `ratio` (ppt), clamped, and changes state. -/
def fdUpdate (k : Nat) (adj ratio : Int) (s : State) : State :=
  let x := s.fdEst k
  if x.feed.isEmpty then s
  else
    let at_ := (x.feed.getLastD (0, 0)).2
    let hz := x.lineHz
    let off := x.lineOff
    let l := x.feed
    let s := s.setFd k { x with feed := [] }
    let s := l.foldl (fun s q => s.fdError k hz off q) s
    let x := s.fdEst k
    let r := if ratio > 1100000000 then 1100000000 else if ratio < -1100000000 then -1100000000 else ratio
    let s := (s.setFd k { x with lineT := x.lineT + adj }).setI (F.FD_RATIO k) r
    let st := s.fdSt k
    let sec : Int := unitsSec
    let s :=
      if st = fdACQUIRE && decide (at_ - x.acqT ≥ 2 * sec) && decide (at_ - x.badT ≥ sec) then
        ((s.setF (F.FD_STATUS_STATE k) fdLOCKED).incSat (F.FD_LOCKS k)).fire Ev.FD_LOCK (fdObj k) k
      else if st = fdLOCKED && r.natAbs > 1000000000 then
        (s.setF (F.FD_STATUS_STATE k) fdRANGE).fire Ev.FD_RANGE (fdObj k)
          (k + 65536 * unsigned 16 (roundDiv r 1000000))
      else if st = fdRANGE && r.natAbs ≤ 990000000 then
        (s.setF (F.FD_STATUS_STATE k) fdLOCKED).incSat (F.FD_LOCKS k)
      else s
    s.refreshRxRaw

/-- Clearing an estimator's EN (Table 10.5). -/
def State.fdDisable (s : State) (k : Nat) : State :=
  let st := s.fdSt k
  let s := (s.setF (F.FD_STATUS_STATE k) fdIDLE).setFd k {}
  if st = fdLOCKED || st = fdRANGE then s.fdUnlock k 3 else s

/-- A second of an estimator ends: the RMS of its errors (Table 10.13). -/
def State.fdSecond (s : State) (k : Nat) : State :=
  let x := s.fdEst k
  if x.cnt = 0 then s
  else (s.setSat (F.FD_ERR_RMS k) (Nat.sqrt (x.sumSq / x.cnt))).setFd k { x with sumSq := 0, cnt := 0 }

/-! ## Applied shifts (R237) -/

/-- A run whose presentation moves by `d` base-rate samples: buffered samples move, a later shift repeats samples,
and the move counts as a slip. -/
def RxRun.shift (x : RxRun) (mul : Nat) (d : Int) : RxRun :=
  { x with slips := inc16 x.slips, fill := if d > 0 then x.fill + mul else x.fill
           buf := x.buf.map (fun q => { q with first := q.first + d * mul }) }

/-- H_d of a domain takes value `h`, and the streams bound to it move. -/
def State.moveH (s : State) (d : Nat) (delta : Int) : State :=
  let h := KV.get 0 s.str.hShift d
  let bank := s.rxBank
  let move := fun (bk : Nat) (l : KV RxRun) => KV.mapV (fun e (x : RxRun) =>
    let b := s.rxBlkAt bk e
    if bBind b = d then x.shift (rateMul (bRate b)) delta else x) l
  { s with str := { s.str with
      hShift := KV.put 0 s.str.hShift d (h + delta)
      rx := move bank s.str.rx, rxNext := move (1 - bank) s.str.rxNext } }

/-- The applied shift of a domain follows its filtered offset (R237): set when the domain first reaches SLAVE,
then moved by one sample where they differ by more than one. A standby's follows the shared one instead (R414). -/
def State.updateH (s : State) (d : Nat) : State :=
  if s.ptpPort d ≠ psSLAVE || (s.shareUsed.any (fun x => x.h.any (fun q => q.1 == d))) then s
  else
    let v := (s.dom d).filt * s.baseHz
    if !s.str.hInit.contains d then
      { s with str := { s.str with hShift := KV.put 0 s.str.hShift d (roundDiv v unitsSec), hInit := d :: s.str.hInit } }
    else
      let h := KV.get 0 s.str.hShift d
      let diff := v - h * unitsSec
      if diff > unitsSec then s.moveH d 1 else if diff < -(unitsSec : Int) then s.moveH d (-1) else s

/-- Both applied shifts. -/
def State.updateHs (s : State) : State := (s.updateH 0).updateH 1

/-! ## Presentation times (R236 to R239, R247) -/

/-- Whether packets of a block have a time (R237, Table 10.4 step 3). -/
def State.rxTimed (s : State) (b : List Byte) : Bool :=
  if bBind b = 2 then s.fdStUsed (bFd b) == fdLOCKED || s.fdStUsed (bFd b) == fdRANGE
  else s.on F.TB_STATUS_SET && s.str.hInit.contains (bBind b)

/-- The count on the timebase of a packet's first sample as presented (R236, R238, R247). -/
def State.rxFirst (s : State) (b : List Byte) (ts : Nat) (at_ : Int) : Int :=
  let hz := rateHz (bRate b)
  if bBind b = 2 then
    (s.fdPredUsed (bFd b) hz (bRtpOff b) ts) * hz / unitsSec + bLink b
  else
    let d := bBind b
    let now := (at_ - (s.dom d).filt) * hz / unitsSec
    let n : Int := ts - bRtpOff b
    now + signed 32 (unsigned 32 (n - now)) + KV.get 0 s.str.hShift d * rateMul (bRate b) + bLink b

/-- A packet's margin in 2^-16 ns (R239). -/
def State.rxMargin (s : State) (b : List Byte) (first at_ : Int) : Int :=
  s.tickUnits (s.sampleTick (rateHz (bRate b)) first - 1) - 655360000 - at_

/-- Whether a packet is too early (R239). -/
def State.rxEarly (s : State) (b : List Byte) (first at_ : Int) : Bool :=
  decide ((first + bSpp b - 1) * s.tps ≥ (s.tickOf at_ + s.spanTicks b) * rateHz (bRate b))

/-! ## The path merger (R240 to R242) -/

/-- A big-endian sample of a payload in Q1.31 (R244). -/
def rxSample (f : Nat) (l : List Byte) : Int :=
  if f = 0 then signed 32 (beAt l 0 2 * 65536)
  else if f = 1 then signed 32 (beAt l 0 3 * 256)
  else signed 32 (beAt l 1 3 * 256 + beAt l 0 1)

/-- `n` samples of `w` bytes from a payload. -/
def takeSamples (f w : Nat) : Nat → List Byte → List Int
  | 0, _ => []
  | n + 1, l => rxSample f l :: takeSamples f w n (l.drop w)

/-- A payload as sample instants of channel values. -/
def payloadData (f ch : Nat) : Nat → List Byte → List (List Int)
  | 0, _ => []
  | n + 1, l => takeSamples f (sampleBytes f) ch l :: payloadData f ch n (l.drop (sampleBytes f * ch))

/-- A run of the merger: the active bank's, or one a pending swap brings in. -/
def State.getRun (s : State) (next : Bool) (e : Nat) : RxRun :=
  if next then KV.get {} s.str.rxNext e else s.rxRun e
def State.putRun (s : State) (next : Bool) (e : Nat) (x : RxRun) : State :=
  if next then { s with str := { s.str with rxNext := KV.set s.str.rxNext e x } } else s.setRx e x

/-- A path delivers a packet that reaches step 5 or 7: a lost path is restored (R245). -/
def State.restorePath (s : State) (next : Bool) (e path : Nat) : State :=
  let x := s.getRun next e
  if bitOf x.lost path then
    ((s.putRun next e { x with lost := noBit x.lost path, pathT := setAt x.pathT path 0 }).fire Ev.PATH_RESTORE (rxObj e)
      (e + 1024 * path)).refreshRxRaw
  else s

/-- MARGIN_WARN in nanoseconds (R259); 0 off. -/
def State.marginWarn (s : State) : Int :=
  ([0, 50000, 100000, 250000, 500000, 1000000].getD (s.getF F.PLAY_CTL_MARGIN_WARN) 0 : Nat)

/-- The margin of an accepted first copy is kept (R239). -/
def State.keepMargin (s : State) (next : Bool) (e : Nat) (m : Int) : State :=
  let x := s.getRun next e
  let ns := m / 65536
  let lo := match x.minM with
    | some a => min a ns
    | none => ns
  let hi := match x.maxM with
    | some a => max a ns
    | none => ns
  let w := s.marginWarn
  let below := w != 0 && decide (lo < w)
  let s := s.putRun next e { x with minM := some lo, maxM := some hi, under := x.under || below }
  if below && !x.under then
    (s.fire Ev.BUF_UNDER (rxObj e) (e + 65536 * unsigned 16 (satSigned 16 (lo / 1000)))).refreshRxRaw
  else s

/-- A packet late or older than the window (R239, R240). -/
def State.rxLate (s : State) (next : Bool) (e path : Nat) : State :=
  let x := s.getRun next e
  ((s.putRun next e { x with late := inc32 x.late }).incSat F.MRG_LATE).fire Ev.RX_LATE (rxObj e) (e + 1024 * path)

/-- A packet too early. -/
def State.rxTooEarly (s : State) (next : Bool) (e path : Nat) : State :=
  let x := s.getRun next e
  ((s.putRun next e { x with early := inc32 x.early }).incSat F.MRG_EARLY).fire Ev.BUF_OVER (rxObj e) (e + 1024 * path)

/-- The window after an accepted number (R241). -/
def RxRun.accept (x : RxRun) (seq : Nat) (restart : Bool) : RxRun :=
  if restart then { x with high := some seq, seen := [seq], oldRun := 0 }
  else
    match x.high with
    | none => { x with high := some seq, seen := [seq], oldRun := 0 }
    | some h =>
      let d := signed 16 (unsigned 16 ((seq : Int) - h))
      let h' := if d > 0 then seq else h
      { x with high := some h', oldRun := 0
               seen := seq :: x.seen.filter (fun a => decide (signed 16 (unsigned 16 ((h' : Int) - a)) ≤ 1023)) }

/-- Accepted packets kept for the partner's repairs: those of the last 20 ms (Table 14.1). -/
def keepHist (l : List (Int × MediaPkt)) (at_ : Int) (p : MediaPkt) : List (Int × MediaPkt) :=
  (at_, p) :: l.filter (fun q => decide (at_ - q.1 ≤ 1310720000000))

/-- Numbers skipped between the highest accepted and a new one are requested from the partner (R418). -/
def State.askRepair (s : State) (e : Nat) (b : List Byte) (high : Option Nat) (seq : Nat) : State :=
  match high with
  | none => s
  | some h =>
    let d := signed 16 (unsigned 16 ((seq : Int) - h))
    if d > 1 && onPath b 4 && s.pairLinkUp then
      (s.addSat F.LINK_REPAIR_REQ (d - 1).toNat).emit (.pair 6 ([e] ++ (List.range (d - 1).toNat).map (fun i => (h + 1 + i) % 65536)))
    else s

/-- Step 7 of Table 10.4. -/
def State.rxAccept (s : State) (next : Bool) (e path : Nat) (b : List Byte) (p : MediaPkt) (at_ first m : Int)
    (restart counted : Bool) : State :=
  let s := s.askRepair e b (s.getRun next e).high p.seq
  let x := (s.getRun next e).accept p.seq restart
  let x := { x with hist := keepHist x.hist at_ p }
  let pkt : RxPkt := { first := first, seq := p.seq, paths := 2 ^ path,
                       data := payloadData (bFormat b) (bChannels b) (bSpp b) p.payload }
  let x := { x with acc := bump x.acc path, buf := pkt :: x.buf
                    restarts := if counted then inc16 x.restarts else x.restarts }
  let s := (s.putRun next e x).incSat (F.MRG_ACC path)
  let s := if counted then s.incSat F.MRG_RESTARTS else s
  (s.restorePath next e path).keepMargin next e m

/-- Steps 4 to 7 of Table 10.4 (R241). -/
def State.rxWindow (s : State) (next : Bool) (e path : Nat) (b : List Byte) (p : MediaPkt) (at_ : Int) : State :=
  let x := s.getRun next e
  let first := s.rxFirst b p.ts at_
  let m := s.rxMargin b first at_
  let early := s.rxEarly b first at_
  let ok := decide (0 ≤ m) && !early
  let late := fun (s : State) => if m < 0 then s.rxLate next e path else s.rxTooEarly next e path
  match x.high with
  | none =>
    if ok then s.rxAccept next e path b p at_ first m true false else late (s.putRun next e { x with oldRun := 0 })
  | some h =>
    let d := signed 16 (unsigned 16 ((p.seq : Int) - h))
    if d ≤ -1024 then
      if ok && x.oldRun ≥ 3 then s.rxAccept next e path b p at_ first m true true
      else (s.putRun next e { x with oldRun := if ok then x.oldRun + 1 else 0 }).rxLate next e path
    else if d ≤ 0 && x.seen.contains p.seq then
      let x := { x with oldRun := 0, dup := bump x.dup path
                        buf := x.buf.map (fun q => if q.seq = p.seq then { q with paths := withBit q.paths path } else q) }
      ((s.putRun next e x).incSat (F.MRG_DUP path)).restorePath next e path
    else
      let s := s.putRun next e { x with oldRun := 0 }
      if ok then s.rxAccept next e path b p at_ first m (decide (d ≥ 1024)) (decide (d ≥ 1024)) else late s

/-- The detail code of a format failure (Table 10.8); 0 where the format fits. -/
def formatFault (b : List Byte) (p : MediaPkt) : Nat :=
  if p.ver ≠ 2 then 1
  else if bPt b ≠ 0xFF && p.pt ≠ bPt b then 2
  else if bitOf (bFlags b) 1 && p.ssrc ≠ bSsrc b then 3
  else if p.payload.length ≠ bPayload b then 4
  else 0

/-- The path merger judges one packet for one entry (Table 10.4). -/
def State.rxJudge (s : State) (next : Bool) (e path : Nat) (b : List Byte) (p : MediaPkt) (at_ : Int) : State :=
  let x := s.getRun next e
  if s.getF F.PWR_STATUS_STATE = 2 || x.st = 5 then s.incSat F.MRG_INACTIVE
  else if bitOf (bFlags b) 2 && p.src ≠ ipOf (bSrc b) (rxV6 b) then
    (s.putRun next e { x with srcMis := inc32 x.srcMis }).incSat F.MRG_SRC_MISMATCH
  else
    let f := formatFault b p
    if f ≠ 0 then
      ((s.putRun next e { x with fmt := inc32 x.fmt }).incSat F.MRG_FORMAT).fire Ev.RX_FORMAT (rxObj e) (e + 4096 * f)
    else
      let s := if bBind b = 2 && path < 4 then s.fdFeed e b p at_ else s
      if !s.rxTimed b then
        let x := s.getRun next e
        (s.putRun next e { x with noTime := inc32 x.noTime }).incSat F.MRG_NO_TIME
      else s.rxWindow next e path b p at_

/-- Whether a packet from a path is for a block: its destination address and UDP port, on a port it names. -/
def rxMatches (b : List Byte) (path : Nat) (p : MediaPkt) : Bool :=
  onPath b path && bPort b == p.dport && ipOf (bDst b) (rxV6 b) == p.dst

/-- The bank that governs a packet while a swap is pending (R250): the old one where the old block places its first
sample before T_sw. -/
def State.oldGoverns (s : State) (b : List Byte) (p : MediaPkt) (at_ : Int) (t : Nat) : Bool :=
  !s.rxTimed b || decide (s.rxFirst b p.ts at_ * s.tps < (t : Int) * rateHz (bRate b))

/-- MEDIA_PACKET_RX (R240, R250): the packet is judged for each entry it is for. -/
def mediaPacketRx (path : Nat) (p : MediaPkt) (at_ : Tai) (s : State) : State :=
  let u := at_.units
  let old := (s.str.rx.filter (fun q => q.2.st != 1 && rxMatches (s.rxB q.1) path p)).map (·.1)
  match s.str.rxSwap with
  | none => old.foldl (fun s e => s.rxJudge false e path (s.rxB e) p u) s
  | some w =>
    let bank := s.rxBank
    let new := (s.str.rxNext.filter (fun q => rxMatches (s.rxBlkAt (1 - bank) q.1) path p)).map (·.1)
    let same := fun e => s.rxOn (1 - bank) e && decide (s.rxBlkAt (1 - bank) e = s.rxB e)
    let gov := fun e => decide (e ∈ old) && (same e || s.oldGoverns (s.rxB e) p u w.tick)
    let s := (old.filter gov).foldl (fun s e => s.rxJudge false e path (s.rxB e) p u) s
    (new.filter (fun e => !gov e)).foldl (fun s e => s.rxJudge true e path (s.rxBlkAt (1 - bank) e) p u) s

/-! ## Playout (R244 to R246, R249) -/

/-- The packet of a buffer that supplies sample `i`, with the values of its channels. -/
def supplyOf (spp : Nat) (buf : List RxPkt) (i : Int) : Option (Nat × List Int) :=
  match buf.find? (fun q => decide (q.first ≤ i) && decide (i < q.first + spp)) with
  | some q => some (q.paths, q.data.getD (i - q.first).toNat [])
  | none => none

/-- Concealment by repetition (R244): the sample a whole number of packet times earlier, at most four. -/
def repeatOf (spp : Nat) (buf : List RxPkt) (i : Int) : Nat → Nat → Option (List Int)
  | 0, _ => none
  | n + 1, k =>
    match supplyOf spp buf (i - k * spp) with
    | some (_, v) => some v
    | none => repeatOf spp buf i n (k + 1)

/-- What one block of an entry holds: its values by instant, the paths that supplied some of it, whether a packet
supplied any sample, whether one had to be concealed, the samples still to repeat, the last values. -/
structure PlayBlk where
  rows : List (List Int) := []
  paths : Nat := 0
  any : Bool := false
  missing : Bool := false
  fill : Nat := 0
  last : List Int := []
  deriving DecidableEq, Repr

/-- One sample of a block. -/
def playSample (spp : Nat) (rep : Bool) (buf : List RxPkt) (i : Int) (a : PlayBlk) : PlayBlk :=
  match supplyOf spp buf i with
  | some (p, v) => { a with rows := a.rows ++ [v], paths := Nat.lor a.paths p, any := true, last := v }
  | none =>
    if a.fill > 0 then { a with rows := a.rows ++ [a.last], fill := a.fill - 1 }
    else
      let v := if rep then (repeatOf spp buf i 4 1).getD [] else []
      { a with rows := a.rows ++ [v], missing := true, last := v }

/-- `n` samples of a block from sample `i` on. -/
def playSamples (spp : Nat) (rep : Bool) (buf : List RxPkt) : Nat → Int → PlayBlk → PlayBlk
  | 0, _, a => a
  | n + 1, i, a => playSamples spp rep buf n (i + 1) (playSample spp rep buf i a)

/-- The stream samples of a tick: its first and how many; a foreign stream is read 32 samples behind its
presentation (R247). -/
def State.tickSamples (s : State) (b : List Byte) (t : Nat) : Int × Nat :=
  let hz := rateHz (bRate b)
  if bBind b = 2 then
    let a : Int := (t * hz / s.tps : Nat)
    (a - 32, ((t + 1) * hz / s.tps - t * hz / s.tps))
  else ((t * 3 * rateMul (bRate b) : Nat), 3 * rateMul (bRate b))

/-- Whether ticks in a row cover a number of milliseconds. -/
def State.covers (s : State) (ticks ms : Nat) : Bool := decide (ticks * 1000 ≥ ms * s.tps)

/-- Bits of CH_CONCEAL set for patch points from `pp` on. -/
def State.markConceal (s : State) (pp : Nat) : Nat → State
  | 0 => s
  | n + 1 =>
    let s := State.markConceal s pp n
    let f := F.PLAY_CH_CONCEAL ((pp + n) / 16)
    s.setF f (withBit (s.getF f) ((pp + n) % 16))

/-- A path supplied nothing for LOSS ms of an entry in PLAYING (R245). -/
def State.judgePaths (s : State) (e : Nat) (b : List Byte) (paths : Nat) : State :=
  (List.range 4).foldl (fun s p =>
    if !onPath b p then s
    else
      let x := s.rxRun e
      if bitOf paths p then s.setRx e { x with pathT := setAt x.pathT p 0 }
      else
        let n := x.pathT.getD p 0 + 1
        let s := s.setRx e { x with pathT := setAt x.pathT p n }
        if s.covers n (bLoss b) && !bitOf x.lost p then
          ((s.setRx e { s.rxRun e with lost := withBit x.lost p }).fire Ev.PATH_LOSS (rxObj e) (e + 1024 * p)).refreshRxRaw
        else s) s

/-- A receive patch point's block of the tick. -/
def State.setIn (s : State) (pp : Nat) (v : Blk) : State := { s with dsp := { s.dsp with inBlk := KV.put {} s.dsp.inBlk pp v } }

/-- Silence on an entry's channels from `c` down. -/
def State.silence (s : State) (b : List Byte) (n : Nat) : Nat → State
  | 0 => s
  | c + 1 => (State.silence s b n c).setIn (bFirst b + c) { v := List.replicate n 0 }

/-- A block of an entry's channels set from its sample instants; a foreign entry's values are those its rate
conversion delivers for the tick (R247). -/
def State.placeBlock (s : State) (b : List Byte) (t n : Nat) (rows : List (List Int)) (ok : Bool) (bad : List Nat) :
    Nat → State
  | 0 => s
  | c + 1 =>
    let s := State.placeBlock s b t n rows ok bad c
    let pp := bFirst b + c
    if bad.contains c then s.setIn pp { v := List.replicate n 0 }
    else if bBind b = 2 then
      let o := KV.get {} (KV.get [] s.dsp.outq t) pp
      s.setIn pp (if o.ok then { o with ok := ok } else { v := List.replicate n 0 })
    else s.setIn pp { v := rows.map (fun r => r.getD c 0), ok := ok }

/-- A concealed tick is counted and fires (R244). -/
def State.concealTick (s : State) (e : Nat) (b : List Byte) : State :=
  let x := s.rxRun e
  let s := s.setRx e { x with conceal := inc32 x.conceal }
  let s := { s with pair := { s.pair with
      flagPps := ((List.range (bChannels b)).map (bFirst b + ·)).foldl (fun (l : List Nat) p => if l.contains p then l else p :: l) s.pair.flagPps } }
  ((s.incSat F.PLAY_CONCEALED).fire Ev.RX_CONCEAL (rxObj e) e).markConceal (bFirst b) (bChannels b)

/-- Packets a block can no longer use are released (R244). -/
def RxRun.prune (x : RxRun) (spp : Nat) (start : Int) : RxRun :=
  { x with buf := x.buf.filter (fun q => decide (q.first + 5 * spp > start)) }

/-- A converter that resumes after its estimator acquired anew re-centres where the read position has left the jitter
buffer (R319): ASRC_RANGE fires for each channel. -/
def State.recentre (s : State) (e : Nat) (b : List Byte) (x : RxRun) (outside : Bool) : State :=
  if bBind b = 2 && outside && !x.buf.isEmpty && (x.st == 3 || x.st == 4) then
    (List.range (bChannels b)).foldl (fun s c => s.fire Ev.ASRC_RANGE (rxObj e) (0x200 + e + 65536 * c)) s
  else s

/-- Playout of one entry for tick `t` (R244, R245, R246, R249); `bad` lists channels whose buffer met an
uncorrectable error (R334). -/
def State.playEntry (s : State) (t : Nat) (bad : List Nat) (e : Nat) : State :=
  let b := s.rxB e
  let x := s.rxRun e
  let m := 3 * rateMul (bRate b)
  let spp := bSpp b
  let (i0, n) := s.tickSamples b t
  let muted := bBind b == 2 && s.fdStUsed (bFd b) != fdLOCKED
  if x.st = 1 then s.silence b m (bChannels b)
  else if x.st = 5 then (s.setRx e { x with ramp := x.ramp - 1 }).silence b m (bChannels b)
  else if muted || s.getF F.PWR_STATUS_STATE = 2 then
    (s.setRx e { x.prune spp (i0 + n) with muted := muted || x.muted }).silence b m (bChannels b)
  else
    let s := if x.muted then s.recentre e b x (supplyOf spp x.buf i0).isNone else s
    let x := { x with muted := false }
    let p := playSamples spp (bitOf (bFlags b) 3) x.buf n i0 { fill := x.fill, last := x.last }
    let x' := { x.prune spp (i0 + n) with fill := p.fill, last := p.last }
    if p.any then
      let now := Tai.ofUnits (s.tickUnits t)
      let resumed := x.st == 4
      let s := s.setRx e { x' with st := 3, lossT := 0, lostT := 0, sec := now.sec % 2 ^ 32, ns := now.ns }
      let s := if resumed then
          ((s.fire Ev.RX_RESUME (rxObj e) (e + 65536 * satNat 16 x.lostT)).fdAfter b).refreshRxRaw
        else s
      let hit := p.missing || !bad.isEmpty
      let s := if hit then s.concealTick e b else s
      (s.judgePaths e b p.paths).placeBlock b t m p.rows (!p.missing) bad (bChannels b)
    else if t < s.str.playTo then (s.setRx e x').silence b m (bChannels b)
    else if x.st = 3 then
      let s := (s.setRx e { x' with lossT := x.lossT + 1 }).concealTick e b
      let s := s.judgePaths e b 0
      let s := s.placeBlock b t m p.rows false bad (bChannels b)
      if s.covers (x.lossT + 1) (bLoss b) then
        let x := s.rxRun e
        let s := s.setRx e { x with st := 4, losts := inc16 x.losts, lostT := 0 }
        ((s.fire Ev.RX_LOSS (rxObj e) e).fdAfter b).refreshRxRaw
      else s
    else
      (s.setRx e { x' with lostT := if x.st = 4 then x.lostT + 1 else 0 }).silence b m (bChannels b)

/-- Playout of every entry for tick `t`. -/
def State.playTick (s : State) (t : Nat) (ecc : List (Nat × Nat)) : State :=
  let s := s.str.rx.foldl (fun s q => s.playEntry t ((ecc.filter (fun a => a.1 == q.1)).map (·.2)) q.1) s
  { s with str := { s.str with playTo := max s.str.playTo (t + 1) } }

/-- A whole second ends: margins of the second, BUF_UNDER where one stayed above the limit, estimator errors. -/
def State.rxSecond (s : State) : State :=
  let w := s.marginWarn
  let s := { s with str := { s.str with rx := KV.mapV (fun _ (x : RxRun) =>
      let lo := x.minM.getD 0
      { x with lastMin := lo, lastMax := x.maxM.getD 0, minM := none, maxM := none
               under := x.under && w != 0 && (x.minM.isNone || decide (lo < w)) }) s.str.rx } }
  ((List.range 64).foldl (fun s k => s.fdSecond k) s).refreshRxRaw

/-- The distinct ticks of a skipped span for which a buffer holds samples. -/
def State.skippedTicks (s : State) (b : List Byte) (buf : List RxPkt) (lo hi : Int) : Nat :=
  let hz := rateHz (bRate b)
  let ts := buf.flatMap (fun q =>
    let a := s.sampleTick hz q.first
    let z := s.sampleTick hz (q.first + bSpp b - 1)
    (List.range (z - a + 1).toNat).filterMap (fun (j : Nat) =>
      let t := a + (j : Int)
      if decide (lo ≤ t) && decide (t < hi) then some t.toNat else none))
  (dedupN ts).length

/-- A step of the timebase by `ticks`, from grid tick `old` (R246): blocks skipped forward are counted; ticks lived
again find none; estimator lines move with the step. -/
def State.rxStep (s : State) (old : Nat) (ticks : Int) : State :=
  let s := { s with str := { s.str with fd := KV.mapV (fun _ (x : FdState) =>
      let d := s.ticksUnits ticks
      { x with lineT := x.lineT + d, acqT := x.acqT + d, badT := x.badT + d
               feed := x.feed.map (fun (p : Nat × Int) => (p.1, p.2 + d)) }) s.str.fd } }
  if ticks > 0 then
    let n := s.str.rx.foldl (fun (a : Nat) (q : Nat × RxRun) => a + s.skippedTicks (s.rxB q.1) q.2.buf old (old + ticks)) 0
    s.addSat F.PLAY_SKIPPED n
  else
    { s with str := { s.str with rx := KV.mapV (fun e (x : RxRun) =>
        let lim : Int := (s.str.playTo * rateHz (bRate (s.rxB e)) / s.tps : Nat)
        { x with buf := x.buf.filter (fun p => decide (p.first ≥ lim)) }) s.str.rx } }

/-! ## Starting and stopping entries, links, the safe state -/

/-- The paths of a block that are down now: ports not running with link up, and a pair link without partner. -/
def State.downPaths (s : State) (b : List Byte) : Nat :=
  (List.range 5).foldl (fun a p =>
    if !onPath b p then a
    else if p < 4 then (if s.on (F.MAC_CTL_EN p) && s.on (F.MAC_STATUS_LINK p) && !s.on (F.MAC_STATUS_STEPPING p) then a else a + 2 ^ p)
    else if s.pairLinkUp then a else a + 2 ^ p) 0

/-- An entry starts to run (R235, R245): its counters are clear and its down paths read lost. -/
def State.rxStart (s : State) (e : Nat) (pend : Bool) : State :=
  let s := s.setRx e { st := if pend then 1 else 2, lost := s.downPaths (s.rxB e) }
  (((s.fdAfter (s.rxB e)).refreshRxt).refreshRxRaw).syncGroups

/-- An entry stops and its jitter buffer is freed. -/
def State.rxStop (s : State) (e : Nat) : State :=
  let b := s.rxB e
  let s := { s with str := { s.str with rx := KV.erase s.str.rx e } }
  (((s.silence b 3 (bChannels b)).fdAfter b).refreshRxt.refreshRxRaw).syncGroups

/-- A port's link, or the pair link, goes down: the path is lost in the same clock (R245). -/
def State.rxPathDown (s : State) (p : Nat) : State :=
  let s := s.str.rx.foldl (fun s q =>
    if onPath (s.rxB q.1) p && !bitOf q.2.lost p then
      (s.setRx q.1 { s.rxRun q.1 with lost := withBit q.2.lost p }).fire Ev.PATH_LOSS (rxObj q.1) (q.1 + 1024 * p)
    else s) s
  s.refreshRxRaw

/-- An entry enters SAFE (R251, R256): ramped to zero over 1 ms. -/
def State.rxToSafe (s : State) (e : Nat) : State :=
  let x := s.rxRun e
  if (KV.find s.str.rx e).isNone || x.st = 5 then s
  else
    let s := s.setRx e { x with st := 5, ramp := (s.tps + 999) / 1000, buf := [] }
    ((s.logState orgIntegrity (rxObj e) x.st 5).fdAfter (s.rxB e)).refreshRxRaw

/-- Every running entry enters SAFE: a merger, playout or estimator register failed its check (R251). -/
def State.rxAllSafe (s : State) : State := s.str.rx.foldl (fun s q => s.rxToSafe q.1) s

/-- The status block of an entry (Table 10.10). -/
def State.rxStatus (s : State) (e : Nat) : List Byte :=
  match KV.find s.str.rx e with
  | none => List.replicate 88 0
  | some x =>
    let st := if s.getF F.PWR_STATUS_STATE = 2 then 2 else x.st
    leBytes 1 st ++ leBytes 1 x.lost ++ leBytes 2 x.slips ++ leBytes 4 (unsigned 32 (satSigned 32 x.lastMin)) ++
    leBytes 4 (unsigned 32 (satSigned 32 x.lastMax)) ++ x.acc.flatMap (leBytes 4) ++ x.dup.flatMap (leBytes 4) ++
    leBytes 4 x.late ++ leBytes 4 x.early ++ leBytes 4 x.fmt ++ leBytes 4 x.srcMis ++ leBytes 4 x.noTime ++
    leBytes 4 x.conceal ++ leBytes 2 x.losts ++ leBytes 2 x.restarts ++ leBytes 4 x.sec ++ leBytes 4 x.ns

/-- Legal data of an estimator element's CFG (R260). -/
def legalFd (off v : Nat) : Bool :=
  if 0x100 ≤ off && (off - 0x100) % 0x20 = 0 then decide (bitsOf v 3 1 ≤ 4) else true

/-- Legal data of the playout unit (R259). -/
def legalPlay (off v : Nat) : Bool := if off = 0 then decide (bitsOf v 3 1 ≤ 5) else true

end Sys2Proof.Machine
end

