-- ==== Sys2Proof/Machine/Tx.lean ====
section
/-!
DEFINITION. Machine/Tx.lean: egress queues (R212, Table 9.4) and transmitting streams (chapter 11): the packet
grid, the per-path order, start and stop, steps, TX_TS_MISS (R261 to R273, R277).
-/

namespace Sys2Proof.Machine

/-! ## Egress queues (R212) -/

/-- A queue of a port. -/
def PortState.queue (x : PortState) (q : Nat) : List QFrame :=
  if q = 0 then x.q0 else if q = 1 then x.q1 else if q = 2 then x.q2 else x.q3

/-- A port with a queue replaced. -/
def PortState.setQueue (x : PortState) (q : Nat) (l : List QFrame) : PortState :=
  if q = 0 then { x with q0 := l } else if q = 1 then { x with q1 := l }
  else if q = 2 then { x with q2 := l } else { x with q3 := l }

/-- A queue's share of the transmit Post in bytes (Table 9.4). -/
def queueShare (p q : Nat) : Nat :=
  1024 * (if p < 2 then [32, 640, 128, 224].getD q 0 else [16, 256, 96, 144].getD q 0)

/-- Bytes a queue holds. -/
def queueBytes (l : List QFrame) : Nat := l.foldl (fun a f => a + f.len) 0

/-- Whether a queue has room for a frame. -/
def State.queueRoom (s : State) (p q len : Nat) : Bool :=
  decide (queueBytes ((s.port p).queue q) + len ≤ queueShare p q)

/-- NET port object. -/
def portObj (p : Nat) : Nat := objId 3 p 0

/-- TX_QUEUE_HIGH follows the media queues (R277). -/
def State.refreshQueueHigh (s : State) (p : Nat) : State :=
  let high := decide (queueBytes (s.port p).q1 * 4 > queueShare p 1 * 3)
  let was := s.str.queueHigh.contains p
  let s := { s with str := { s.str with queueHigh := if high then withN s.str.queueHigh p else without s.str.queueHigh p } }
  let s := s.setRaw Ev.TX_QUEUE_HIGH (!s.str.queueHigh.isEmpty)
  if high && !was then s.fire Ev.TX_QUEUE_HIGH (portObj p) p else s

/-- A port leaves low-power idle for a queued frame (R220). -/
def State.lpiWake (s : State) (p : Nat) : State := s.setF (F.MAC_STATUS_LPI_TX p) 0

/-- A frame enters a queue that has room. -/
def State.enqueue (s : State) (p q : Nat) (f : QFrame) : State :=
  let x := s.port p
  ((s.setPort p (x.setQueue q (x.queue q ++ [f]))).lpiWake p).refreshQueueHigh p

/-- A frame of a queue is dropped (R212, Table 9.7). -/
def State.egressDrop (s : State) (p q : Nat) : State :=
  (s.incSat (F.MAC_EGRESS_DROP p q)).fire Ev.EGRESS_DROP (portObj p) (p + 4 * q)

/-- A frame offered to a queue other than media: queued, or tail-dropped at a full queue; with the link down it is
dropped. -/
def State.offer (s : State) (p q : Nat) (f : QFrame) : State :=
  if s.on (F.MAC_STATUS_LINK p) && s.queueRoom p q f.len then s.enqueue p q f else s.egressDrop p q

/-- Length on the wire of a UDP datagram sent from a port, with FCS, padded to 64 bytes. -/
def State.udpLen (s : State) (p : Nat) (v6 : Bool) (payload : Nat) : Nat :=
  max 64 (payload + (if v6 then 66 else 46) + (if s.vlan p = 0 then 0 else 4))

/-! ## Fields of a transmit block (Table 11.1) -/

def bDscp (b : List Byte) : Nat := bf b 6 1
def bSrcPort (b : List Byte) : Nat := if bf b 14 2 = 0 then bPort b else bf b 14 2
def bTtl (b : List Byte) : Nat := bf b 16 1
def bTxOff (b : List Byte) : Nat := bf b 20 4
def bTxSsrc (b : List Byte) : Nat := bf b 24 4
def bSeqOff (b : List Byte) : Nat := bf b 28 2

/-- A port's IPv6 link-local address, formed from its MAC address (R208). -/
def linkLocal (mac : Nat) : List Byte :=
  let m := beBytes 6 mac
  [0xFE#8, 0x80#8, 0#8, 0#8, 0#8, 0#8, 0#8, 0#8, m.getD 0 0#8 ^^^ 2#8, m.getD 1 0#8, m.getD 2 0#8, 0xFF#8, 0xFE#8,
   m.getD 3 0#8, m.getD 4 0#8, m.getD 5 0#8]

/-- A port's own address in a family. -/
def State.ownIp (s : State) (p : Nat) (v6 : Bool) : List Byte :=
  if v6 then (if bf (s.l3 p) 5 1 = 0 then linkLocal (s.portMac p) else (((s.l3 p).drop 16).take 16))
  else if bf (s.l3 p) 4 1 = 0 then List.replicate 4 0#8 else (s.l3 p).take 4

/-! ## The packet grid (R265 to R267) -/

/-- Packets of a block complete by the end of tick `t`: packets 0 to that number less one. -/
def packetsBy (b : List Byte) (t : Int) : Nat := ((t + 1) * (3 * rateMul (bRate b) : Nat) / bSpp b).toNat

/-- The presentation time of packet k's first sample in 2^-16 ns. -/
def packetTime (b : List Byte) (k : Nat) : Int := sampleUnits (rateHz (bRate b)) (k * bSpp b)

/-- The first packet whose first sample is presented at or after a time. -/
def firstPacket (b : List Byte) (u : Int) : Nat :=
  let hz := rateHz (bRate b)
  ceilDiv (u.toNat * hz) (unitsSec * bSpp b)

/-- The value of a channel at a sample of the past ticks; zero where no tick holds it. -/
def histSample (hist : List (Nat × List (List Int))) (m c i : Nat) : Int :=
  match hist.find? (fun q => q.1 == i / m) with
  | some q => (q.2.getD c []).getD (i % m) 0
  | none => 0

/-- A sample on the wire (R266). -/
def txSample (f : Nat) (v : Int) : List Byte :=
  let u := unsigned 32 v
  if f = 0 then beBytes 2 (u / 65536)
  else if f = 1 then beBytes 3 (u / 256)
  else beBytes 1 (u % 256) ++ beBytes 3 (u / 256)

/-- The payload of packet k. -/
def txPayload (b : List Byte) (hist : List (Nat × List (List Int))) (k : Nat) (zero : Bool) : List Byte :=
  let m := 3 * rateMul (bRate b)
  (List.range (bSpp b)).flatMap (fun j =>
    (List.range (bChannels b)).flatMap (fun c =>
      txSample (bFormat b) (if zero then 0 else histSample hist m c (k * bSpp b + j))))

/-- Sequence number and RTP timestamp of packet k (R265). -/
def txSeq (b : List Byte) (k : Nat) : Nat := (k + bSeqOff b) % 65536
def txTs (b : List Byte) (k : Nat) : Nat := (k * bSpp b + bTxOff b) % 2 ^ 32

/-- Packet k of a block as a port sends it (R262, R265). -/
def State.txPacket (s : State) (p : Nat) (b : List Byte) (k : Nat) (payload : List Byte) : MediaPkt :=
  { src := s.ownIp p (txV6 b), dst := ipOf (bDst b) (txV6 b), sport := bSrcPort b, dport := bPort b, ttl := bTtl b
    dscp := bDscp b, pt := bPt b, ssrc := bTxSsrc b, seq := txSeq b k, ts := txTs b k, payload := payload }

/-! ## Pairs (R264, R271, R416) -/

/-- Whether the unit may send at all: ALONE, ACTIVE or STANDBY_READY, or until a change of paths takes place. -/
def State.unitSends (s : State) : Bool :=
  let st := s.getF F.ROLE_STATUS_STATE
  st == 0 || st == 3 || st == 4 || s.pair.cut.isSome

/-- The paths a unit sends by its role (R271, R416): 0 all, 1 all but N1, 2 N1 alone, 3 none. -/
def State.pathRole (s : State) : Nat :=
  let st := s.getF F.ROLE_STATUS_STATE
  if st = 3 then (if s.pair.pMode = 1 then 0 else 2)
  else if st = 4 then (if s.getF F.ROLE_CTL_MODE = 1 || s.pair.pState ≠ 3 then 0 else 1)
  else if st = 0 then 0 else 3

/-- Whether this unit sends path `p` of a packet whose first sample lies at `at_`: before the time fixed for a change,
by the role it had (R416). -/
def State.sendsPath (s : State) (p : Nat) (at_ : Int) : Bool :=
  let r := match s.pair.cut with
    | some (t, old) => if at_ < t then old else s.pathRole
    | none => s.pathRole
  r == 0 || (r == 1 && p != 1) || (r == 2 && p == 1)

/-- Whether transmit entries may send (R264). -/
def State.txAllowed (s : State) : Bool :=
  s.on F.TB_STATUS_SET && s.getF F.PWR_STATUS_STATE == 3 && s.unitSends

/-! ## Entries -/

/-- TX_PATH_DOWN and TX_ZERO follow the entries (R277). -/
def State.refreshTxRaw (s : State) : State :=
  let s := s.setRaw Ev.TX_PATH_DOWN (s.str.tx.any (fun q => Nat.land q.2.down q.2.wasUp != 0))
  s.setRaw Ev.TX_ZERO (s.str.tx.any (fun q => q.2.st == 4))

/-- TX_TS_MISS (R277, Table 11.7): a domain bound by an enabled entry leaves SLAVE and MASTER; the condition lasts until the
domain is back or no enabled entry binds it. -/
def State.refreshTsMiss (s : State) : State :=
  let s := [0, 1].foldl (fun s d =>
    let n := (s.str.tx.filter (fun q => bBind (s.txB q.1) == d)).length
    let miss := n != 0 && s.ptpPort d != psSLAVE && s.ptpPort d != psMASTER
    let was := s.str.tsMiss.contains d
    let miss := miss && (was || s.str.tsLeft.contains d)
    let s := { s with
      str := { s.str with tsMiss := if miss then withN s.str.tsMiss d else without s.str.tsMiss d, tsLeft := without s.str.tsLeft d } }
    if miss && !was then s.fire Ev.TX_TS_MISS noUnit (d + 65536 * n) else s) s
  s.setRaw Ev.TX_TS_MISS (!s.str.tsMiss.isEmpty)

/-- Units and entries of the transmit table in use (Table 11.8). -/
def State.refreshTxt (s : State) : State :=
  let l := s.txEnabled
  (s.setF F.TXT_USED_UNITS (l.foldl (fun a e => a + bUnits (s.txB e)) 0)).setF F.TXT_USED_ENTRIES l.length

/-- The paths of a transmit block that are up (Table 11.4, step 1). -/
def State.txUp (s : State) (p : Nat) : Bool :=
  s.on (F.MAC_CTL_EN p) && s.on (F.MAC_STATUS_LINK p) && !s.on (F.MAC_STATUS_STEPPING p)
def State.txUpMask (s : State) (b : List Byte) : Nat :=
  (List.range 4).foldl (fun a p => if onPath b p && s.txUp p then a + 2 ^ p else a) 0

/-- A time so many ticks after now, in 2^-16 ns. -/
def State.afterTicks (s : State) (n : Nat) : Int := s.reqUnits + s.ticksUnits n

/-- A random SEQ_OFFSET is drawn, written and logged; an active unit sends it to its partner (R270, R271, R278). -/
def State.drawSeq (s : State) (o : Origin) (e : Nat) : State :=
  let b := s.txB e
  if bitOf (bFlags b) 3 && s.getF F.ROLE_STATUS_STATE != 1 && s.getF F.ROLE_STATUS_STATE != 2 && s.getF F.ROLE_STATUS_STATE != 3 then
    let (n, s) := s.draw
    let v := (Config.random16 n).toNat
    let b' := b.take 28 ++ leBytes 2 v ++ b.drop 30
    let s := { s with str := { s.str with txBlk := KV.set s.str.txBlk (s.txBank * 512 + e) b' } }
    let s := if s.getF F.ROLE_STATUS_STATE = 4 then s.emit (.pair 8 [e, v]) else s
    s.logE o.code o.id kSTATE false (txObj e) (bSeqOff b) v
  else s

/-- An entry starts to run at a time (R270). -/
def State.txStart (s : State) (e : Nat) (pend : Bool) (start : Int) : State :=
  let b := s.txB e
  let up := s.txUpMask b
  let all := (List.range 4).foldl (fun a p => if onPath b p then a + 2 ^ p else a) 0
  let standby := s.getF F.ROLE_STATUS_STATE == 2 || s.getF F.ROLE_STATUS_STATE == 3
  let s := s.setTx e { st := if pend then 1 else 2, down := all - up, wasUp := up, start := start
                       adopt := standby && bitOf (bFlags b) 3 }
  s.refreshTxt.refreshTxRaw.refreshTsMiss

/-- An entry stops at a time (R270): one that has sent goes on with its old block up to then; one that has not
sends nothing. -/
def State.txStop (s : State) (e : Nat) (stop : Int) : State :=
  let x := s.txRun e
  let b := s.txB e
  let s := { s with str := { s.str with tx := KV.erase s.str.tx e } }
  let s := if x.lastK.isSome then
      { s with str := { s.str with txOld := KV.set s.str.txOld e { x with stop := some stop, blk := b } } }
    else s
  s.refreshTxt.refreshTxRaw.refreshTsMiss

/-- An entry enters SAFE (R273, R278). -/
def State.txToSafe (s : State) (e : Nat) : State :=
  let x := s.txRun e
  if (KV.find s.str.tx e).isNone || x.st = 4 then s
  else
    let s := s.setTx e { x with st := 4 }
    let s := s.logState orgIntegrity (txObj e) x.st 4
    (s.fire Ev.TX_ZERO (txObj e) e).refreshTxRaw

/-- Every running entry enters SAFE (R273). -/
def State.txAllSafe (s : State) : State := s.str.tx.foldl (fun s q => s.txToSafe q.1) s

/-- A port came up: the condition of its paths ends (R277). -/
def State.txPathUp (s : State) (p : Nat) : State :=
  ({ s with str := { s.str with tx := KV.mapV (fun e (x : TxRun) =>
      if onPath (s.txB e) p then { x with down := noBit x.down p, wasUp := withBit x.wasUp p } else x) s.str.tx } }).refreshTxRaw

/-! ## Packets (R267 to R269) -/

/-- One path of one packet (Table 11.4); the run is read and written through `old`, the entries past their stop. -/
def State.getTx (s : State) (old : Bool) (e : Nat) : TxRun := if old then KV.get {} s.str.txOld e else s.txRun e
def State.putTx (s : State) (old : Bool) (e : Nat) (x : TxRun) : State :=
  if old then { s with str := { s.str with txOld := KV.set s.str.txOld e x } } else s.setTx e x

/-- Table 11.4 for one port; answers whether a copy was queued. -/
def State.txPath (s : State) (old : Bool) (e p : Nat) (b : List Byte) (k : Nat) (payload : List Byte) (limit : Int) : State :=
  let x := s.getTx old e
  let det := e + 1024 * p
  if !s.txUp p then
    let newly := !bitOf x.down p && bitOf x.wasUp p
    let s := (s.putTx old e { x with downs := inc32 x.downs, down := withBit x.down p }).refreshTxRaw
    if newly then s.fire Ev.TX_PATH_DOWN (txObj e) det else s
  else
    let x := { x with down := noBit x.down p, wasUp := withBit x.wasUp p }
    let s := (s.putTx old e x).refreshTxRaw
    if !s.sendsPath p (packetTime b k) then s
    else
      let len := s.frameLen p b (txV6 b)
      if len > s.getF (F.MAC_MTU p) then (s.putTx old e { x with size := inc32 x.size }).fire Ev.TX_SIZE (txObj e) det
      else if !s.queueRoom p 1 len then
        (s.putTx old e { x with underrun := bump x.underrun p }).fire Ev.TX_UNDERRUN (txObj e) det
      else
        let now := s.now
        let s := s.putTx old e { x with built := bump x.built p, sec := now.sec % 2 ^ 32, ns := now.ns }
        (s.enqueue p 1 { len := len, body := .media e (s.txPacket p b k payload), limit := some limit }).incSat F.TXT_PACKETS

/-- Packet k of an entry falls due at tick `t` (R267, R268, R269): TX_START where the entry enters SENDING. -/
def State.txDue (s : State) (old : Bool) (e : Nat) (b : List Byte) (t k : Nat) : State :=
  let x := s.getTx old e
  let s := if x.st = 2 then
      (s.putTx old e { x with st := 3 }).fire Ev.TX_START (txObj e) (e + 65536 * txSeq b k)
    else s
  let x := s.getTx old e
  let again := match x.lastK with
    | some j => decide (k ≤ j)
    | none => false
  let s := s.putTx old e { x with lastK := some k, repeated := if again then inc16 x.repeated else x.repeated }
  let pay := txPayload b x.hist k (x.st == 4)
  let limit := s.tickUnits (t + 1)
  (List.range 4).foldl (fun s p => if onPath b p then s.txPath old e p b k pay limit else s) s

/-- The packets of a block that fall due at tick `t`, the tick before having been `prev` (R267, R269), and how many
were skipped. -/
def packetsDue (b : List Byte) (prev : Option Nat) (t : Nat) : List Nat × Nat :=
  let n1 := packetsBy b t
  let last := if packetsBy b ((t : Int) - 1) < n1 then [n1 - 1] else []
  match prev with
  | none => (last, 0)
  | some lt =>
    if t ≤ lt + 1 then (last, 0)
    else
      let n0 := packetsBy b lt
      let cut := if n0 < n1 && n0 * bSpp b / (3 * rateMul (bRate b)) ≤ lt && !last.contains n0 then [n0] else []
      (cut ++ last, n1 - n0 - (cut ++ last).length)

/-- The samples of a tick kept for an entry's packets: 66 ticks hold the longest packet. -/
def State.txKeep (s : State) (b : List Byte) (x : TxRun) (t : Nat) : TxRun :=
  let row := (List.range (bChannels b)).map (fun c => (KV.get {} s.dsp.present (bFirst b + c)).v)
  { x with hist := ((t, row) :: x.hist).take 66 }

/-- One running entry at tick `t` (R264, R267, R269). -/
def State.txEntry (s : State) (t : Nat) (e : Nat) : State :=
  let b := s.txB e
  let s := s.setTx e (s.txKeep b (s.txRun e) t)
  let x := s.txRun e
  if x.st = 1 then s
  else if !s.txAllowed then (if x.st = 3 then s.setTx e { x with st := 2 } else s)
  else if x.adopt then s
  else
    let (due, skip) := packetsDue b s.str.lastTick t
    let s := if x.st = 3 && skip > 0 then s.setTx e { x with skipped := satNat 16 (x.skipped + skip) } else s
    due.foldl (fun s k => if packetTime b k ≥ x.start then s.txDue false e b t k else s) s

/-- One entry past its disable at tick `t` (R270): packets before the stop are sent, then TX_STOP fires. -/
def State.txOldEntry (s : State) (t : Nat) (e : Nat) : State :=
  let x := KV.get {} s.str.txOld e
  let b := x.blk
  let stop := x.stop.getD 0
  let s := s.putTx true e (s.txKeep b x t)
  let (due, _) := packetsDue b s.str.lastTick t
  let s := if s.txAllowed then
      due.foldl (fun s k => if packetTime b k ≥ x.start && packetTime b k < stop then s.txDue true e b t k else s) s
    else s
  if packetTime b (packetsBy b t) ≥ stop then
    let k := (s.getTx true e).lastK.getD 0
    let s := { s with str := { s.str with txOld := KV.erase s.str.txOld e } }
    s.fire Ev.TX_STOP (txObj e) (e + 65536 * txSeq b k)
  else s

/-- The packetiser at tick `t`: entries in number order, one past its stop before the run that follows it. -/
def State.txTick (s : State) (t : Nat) : State :=
  (List.range 512).foldl (fun s e =>
    let s := if (KV.find s.str.txOld e).isSome then s.txOldEntry t e else s
    if (KV.find s.str.tx e).isSome then s.txEntry t e else s) s

/-- The status block of an entry (Table 11.9). -/
def State.txStatus (s : State) (e : Nat) : List Byte :=
  match KV.find s.str.tx e with
  | none => List.replicate 64 0
  | some x =>
    let b := s.txB e
    let k := max (packetsBy b s.gridTick) (firstPacket b x.start)
    leBytes 1 x.st ++ leBytes 1 x.down ++ leBytes 2 (txSeq b k) ++ leBytes 4 (txTs b k) ++
    x.built.flatMap (leBytes 4) ++ x.underrun.flatMap (leBytes 4) ++ leBytes 4 x.late ++ leBytes 4 x.size ++
    leBytes 4 x.downs ++ leBytes 2 x.skipped ++ leBytes 2 x.repeated ++ leBytes 4 x.sec ++ leBytes 4 x.ns

/-- Legal data of the transmit table's registers (R279). -/
def State.legalTxt (s : State) (off v : Nat) : Bool :=
  let badId := fun n => n = 0 || n = 0xFFFF
  if off = 0 then !(bitOf v 3 && badId (s.getF F.TXT_DEV_ID))
  else if off = 8 then !(badId (v % 65536) && s.on F.TXT_CTL_ANN_EN)
  else if off = 0x14 then v % 65536 != 0
  else true

/-- A legal committed ANN_GRP (R279). -/
def legalAnnGrp (v : Nat) : Bool := v / 2 ^ 28 == 14 && v / 256 != 0xE00000

end Sys2Proof.Machine
end

