-- ==== Sys2Proof/Machine/Net.lean ====
section
/-!
DEFINITION. Machine/Net.lean: the network ports (chapter 9, R205 to R230) and the timed transmit queues (R155 to
R157).
-/

namespace Sys2Proof.Machine

/-! ## Links (R205 to R207) -/

/-- An event source of a port. -/
def State.fireLink (s : State) (p : Nat) : State :=
  let up := s.on (F.MAC_STATUS_LINK p)
  (s.setRaw (Ev.LINK_N0 + p) up).fire (Ev.LINK_N0 + p) (portObj p) (b2n up + 2 * s.getF (F.MAC_STATUS_SPEED p))

/-- EEE resolved or ended on a port (Table 9.7). -/
def State.setEee (s : State) (p : Nat) (on : Bool) : State :=
  if (s.port p).eee = on then s
  else
    let s := s.setPort p { s.port p with eee := on }
    let s := if on then s else s.setF (F.MAC_STATUS_LPI_TX p) 0
    (s.setRaw Ev.LPI_CHANGE ((List.range 4).any (fun n => (s.port n).eee))).fire Ev.LPI_CHANGE (portObj p) p

/-- Every pause of a port ends. -/
def State.endPauses (s : State) (p : Nat) : State :=
  ((s.setPort p { s.port p with pauseC := 0, pauseB := 0 }).setF (F.MAC_STATUS_PAUSED_CTRL p) 0).setF (F.MAC_STATUS_PAUSED_BE p) 0

/-- The frames of every queue are flushed and counted (R207). -/
def State.flushQueues (s : State) (p : Nat) : State :=
  let s := [0, 1, 2, 3].foldl (fun s q => ((s.port p).queue q).foldl (fun s _ => s.egressDrop p q) s) s
  (s.setPort p { s.port p with q0 := [], q1 := [], q2 := [], q3 := [], dma := none }).refreshQueueHigh p

/-- A link goes down (R207). -/
def State.linkLost (s : State) (p : Nat) : State :=
  if !s.on (F.MAC_STATUS_LINK p) then s
  else
    let s := (s.flushQueues p).endPauses p
    let s := (s.setF (F.MAC_STATUS_LINK p) 0).fireLink p
    (((s.setEee p false).domsRefresh).refreshTsMiss).rxPathDown p

/-- LINK_DOWN. -/
def linkDown (p : Nat) (s : State) : State := s.linkLost p

/-- Speed codes a port may come up at (R205, R206): a link in any other is refused. -/
def State.speedAllowed (s : State) (p speed : Nat) : Bool :=
  if p ≥ 2 then speed == 3
  else if s.on (F.MAC_CTL_MODE p) then speed == 0
  else decide (s.getF (F.MAC_CTL_SPEED_MAX p) ≤ speed) && decide (speed ≤ 3)

/-- A step of a port completes (R218, R227): latencies, counters, event and entry. -/
def State.stepDone (s : State) (p : Nat) : State :=
  let old := (s.port p).prevSpeed
  let new := s.getF (F.MAC_STATUS_SPEED p)
  let s := (s.setF (F.MAC_STATUS_STEPPING p) 0).setPort p { s.port p with target := none, under := 0 }
  let s := (s.incSat (F.MAC_STEPS p)).fire Ev.SPEED_STEP (portObj p)
    (p + 4 * old + 16 * new + 64 * b2n (decide (new < old)))
  (s.logState orgPower (objId 3 p 1) old new).txPathUp p

/-- LINK_UP (R206): at a refused mode or speed it is only counted. -/
def linkUp (p speed : Nat) (eee refused : Bool) (s : State) : State :=
  if !s.on (F.MAC_CTL_EN p) then s
  else if refused || !s.speedAllowed p speed then s.incSat (F.MAC_LINK_REFUSED p)
  else
    let was := s.on (F.MAC_STATUS_LINK p)
    let s := (s.setF (F.MAC_STATUS_LINK p) 1).setF (F.MAC_STATUS_SPEED p) speed
    let s := s.latencyChanged p
    let s := if was then s else s.fireLink p
    let s := s.setEee p (eee && decide (2 ≤ p) && s.on (F.MAC_CTL_LPI_EN p) && !s.on (F.MAC_CTL_MODE p))
    let s := s.domsRefresh.refreshTsMiss
    if s.on (F.MAC_STATUS_STEPPING p) then
      (if (s.port p).target == some speed then s.stepDone p else s)
    else s.txPathUp p

/-- A port's EN becomes 0: it stops as when its link goes down. -/
def State.portDisable (s : State) (p : Nat) : State :=
  let s := s.linkLost p
  ((s.setF (F.MAC_STATUS_STEPPING p) 0).setPort p { s.port p with target := none, under := 0, tokens := [] }).domsRefresh.refreshTsMiss.syncGroups

/-- A port's EN becomes 1. -/
def State.portEnable (s : State) (p : Nat) : State := (s.latencyChanged p).syncGroups

/-! ## Ingress (R210, R211) -/

/-- Addresses every port takes besides its own and its groups: broadcast, and the reserved addresses of MAC
Control, slow protocols and the PTP peer delay (Table 9.3, step 3). -/
def reservedDst (d : Nat) : Bool :=
  d == 0xFFFFFFFFFFFF || d == 0x0180C2000001 || d == 0x0180C2000002 || d == 0x0180C200000E

/-- Whether a UDP frame is media for an enabled entry bound to the port, in either bank while a swap is pending. -/
def State.isMedia (s : State) (p : Nat) (dst : List Byte) (port : Nat) : Bool :=
  let hit := fun (b : List Byte) => onPath b p && bPort b == port && ipOf (bDst b) (rxV6 b) == dst
  s.str.rx.any (fun q => hit (s.rxB q.1)) || s.str.rxNext.any (fun q => hit (s.rxBlkAt (1 - s.rxBank) q.1))

/-- A frame's class (Table 9.3, step 6): 0 PTP, 1 media, 2 control, 3 best effort. -/
def State.frameClass (s : State) (p : Nat) : FrameKind → Nat
  | .macControl => 3
  | .ptp _ => 0
  | .udp dst port =>
    if port = 319 || port = 320 then 0
    else if s.isMedia p dst port then 1
    else if port = s.getF F.CAR_NET_PORT_UDP_PORT && bitOf (s.getF F.CAR_CTL_NET_PORTS) p then 2
    else if port = s.getF F.TXT_ANN_UDP && groupOf dst = s.annGroup p then 2
    else 3
  | .klonik => 2
  | .other => 3

/-- The policer of a port's class (R211): whether a frame of that length passes at a time, and the state with its
tokens taken. Tokens are bits x 65,536,000, the unit in which a rate in Mb/s adds once per 2^-16 ns. -/
def State.police (s : State) (p k len : Nat) (at_ : Int) : Bool × State :=
  let rate := s.getF (F.POL_RATE (p * 4 + k))
  if rate = 0xFFFF then (true, s)
  else if rate = 0 then (false, s)
  else
    let cap : Nat := s.getF (F.POL_BURST (p * 4 + k)) * 1024 * 8 * 65536000
    let x := s.port p
    let (tok, last) := match KV.find x.tokens k with
      | some q => q
      | none => (cap, at_)
    let have_ := min cap (tok + rate * (at_ - last).toNat)
    let cost := (len + 20) * 8 * 65536000
    let ok := decide (cost ≤ have_)
    let left := if ok then have_ - cost else have_
    (ok, s.setPort p { x with tokens := KV.set x.tokens k (left, at_) })

/-- INGRESS_FRAME (R210): the checks of Table 9.3 in order. -/
def ingressFrame (p : Nat) (f : FrameIn) (s : State) : State :=
  if !s.on (F.MAC_CTL_EN p) || !s.on (F.MAC_STATUS_LINK p) then s
  else if f.len < 64 || !f.fcsOk then (s.incSat (F.MAC_FCS_ERR p)).fire Ev.FCS_ERR (portObj p) p
  else if f.len > s.getF (F.MAC_MTU p) || f.len > 9216 then
    (s.incSat (F.MAC_OVERSIZE p)).fire Ev.OVERSIZE_DROP (portObj p) (satNat 16 f.len)
  else if !(f.dst == s.portMac p || reservedDst f.dst || (s.port p).groups.any (fun g => groupMac g == f.dst)) then
    s.incSat (F.MAC_FILTERED p)
  else if !(match f.tag with
    | none => true
    | some (_, vid) => vid == 0 || vid == s.vlan p) then s.incSat (F.MAC_FILTERED p)
  else if f.kind = .macControl then s
  else
    let k := s.frameClass p f.kind
    let (ok, s) := s.police p k f.len f.at_.units
    if !ok then (s.incSat (F.POL_DROPS (p * 4 + k))).fire Ev.POLICER_DROP (portObj p) (p + 4 * k)
    else if !f.room then (s.incSat (F.MAC_POST_DROP p)).fire Ev.POST_DROP (portObj p) (p + 4 * k)
    else s.incSat (F.MAC_RX_OK p)

/-! ## PAUSE (R214) -/

/-- A pause of the control queue (2) or the best-effort queue (3) takes effect; 0 quanta end it. -/
def State.pauseQueue (s : State) (p q quanta : Nat) : State :=
  if q = 2 then (s.setPort p { s.port p with pauseC := quanta }).setF (F.MAC_STATUS_PAUSED_CTRL p) (b2n (quanta != 0))
  else (s.setPort p { s.port p with pauseB := quanta }).setF (F.MAC_STATUS_PAUSED_BE p) (b2n (quanta != 0))

/-- PAUSE_FRAME_RX (R214): `quanta` holds one value, or one per priority for PFC with the enable mask `en`. -/
def pauseRx (p : Nat) (pfc : Bool) (en : Nat) (quanta : List Nat) (s : State) : State :=
  if !s.on (F.MAC_CTL_EN p) || !s.on (F.MAC_STATUS_LINK p) then s
  else
    let hon := if pfc then s.on (F.MAC_CTL_PFC_EN p) else s.on (F.MAC_CTL_PAUSE_EN p)
    let big := quanta.foldl max 0
    let s := (s.incSat (F.MAC_PAUSE_RX p)).fire Ev.PAUSE_RX (portObj p) (b2n hon + 2 * b2n pfc + 65536 * satNat 16 big)
    if !hon then s
    else if pfc then
      [2, 3].foldl (fun s q =>
        let prio := s.pcp p q
        if bitOf en prio then s.pauseQueue p q (quanta.getD prio 0) else s) s
    else (s.pauseQueue p 2 (quanta.getD 0 0)).pauseQueue p 3 (quanta.getD 0 0)

/-- PAUSE_EXPIRY (R214). -/
def pauseExpiry (p q : Nat) (s : State) : State := if q = 2 || q = 3 then s.pauseQueue p q 0 else s

/-! ## Egress (R212, R155 to R157, R215) -/

/-- The time a frame of so many bytes takes at a port's speed, in 2^-16 ns: preamble and gap included. -/
def State.wireTime (s : State) (p len : Nat) : Nat :=
  let sp := if p < 2 then s.getF (F.MAC_STATUS_SPEED p) else 3
  (len + 20) * 8 * unitsSec / speedBits sp

/-- A port's timed queue in launch order, frames already late first (R155, R157). -/
def State.timedQ (s : State) (p : Nat) : List TimedFrame := KV.get [] s.stamps.timed p
def State.setTimed (s : State) (p : Nat) (l : List TimedFrame) : State :=
  { s with stamps := { s.stamps with timed := KV.put [] s.stamps.timed p l } }.setF (F.TSU_TTQ_STATUS_LEVEL p) l.length

/-- A timed frame put in its place. -/
def insertTimed (f : TimedFrame) : List TimedFrame → List TimedFrame
  | [] => [f]
  | g :: l =>
    if f.late && !g.late then f :: g :: l
    else if f.late == g.late && decide (f.launch.units < g.launch.units) && !f.late then f :: g :: l
    else g :: insertTimed f l

/-- Whether a frame of so many bytes may start at a time ahead of the timed frames (R156). -/
def State.timedWindow (s : State) (p len : Nat) (at_ : Int) : Bool :=
  match s.timedQ p with
  | [] => true
  | f :: _ =>
    let l := f.launch.units
    f.late || decide (at_ < l - (s.wireTime p 9216 : Nat)) || decide (at_ + (s.wireTime p len : Nat) ≤ l)

/-- The timestamp entry a sent frame asks for (R138). -/
def State.stampFrame (s : State) (p : Nat) (ts : Option (Nat × Nat × Nat)) (late : Bool) (at_ : Tai) : State :=
  match ts with
  | none => s
  | some (id, kind, mt) =>
    s.pushTs p { id := id, kind := kind, msgType := mt, late := late, time := (Tai.ofUnits (s.planeOut p at_)).quarter }

/-- Queues a port may serve, in priority order. -/
def State.openQueues (s : State) (p : Nat) : List Nat :=
  [0, 1] ++ (if (s.port p).pauseC = 0 then [2] else []) ++ (if (s.port p).pauseB = 0 then [3] else [])

/-- EGRESS_FRAME_START (R212, R267): the frame before has ended; the next starts by strict priority. -/
def egressStart (p : Nat) (at_ : Tai) (s : State) : State :=
  if !s.on (F.MAC_CTL_EN p) || !s.on (F.MAC_STATUS_LINK p) || s.on (F.MAC_STATUS_LPI_TX p) then s
  else
    let s := match (s.port p).dma with
      | some _ => (s.incSat (F.MAC_TX_OK p)).setPort p { s.port p with dma := none }
      | none => s
    let u := at_.units
    let ok := fun q => match ((s.port p).queue q).head? with
      | some f => s.timedWindow p f.len u
      | none => false
    match (s.openQueues p).find? ok with
    | none => s
    | some q =>
      match (s.port p).queue q with
      | [] => s
      | f :: l =>
        let s := ((s.setPort p ((s.port p).setQueue q l)).refreshQueueHigh p).emit (.frame p q f.body)
        let s := match f.body, f.limit with
          | .media e _, some lim =>
            if s.planeOut p at_ > lim then
              let old := (KV.find s.str.tx e).isNone
              let x := s.getTx old e
              let s := if (KV.find s.str.txOld e).isSome || !old then s.putTx old e { x with late := inc32 x.late } else s
              s.fire Ev.TX_LATE (txObj e) (e + 1024 * p)
            else s
          | _, _ => s
        let s := s.stampFrame p f.ts false at_
        if f.dma then s.setPort p { s.port p with dma := some f } else s.incSat (F.MAC_TX_OK p)

/-- MAC_UNDERRUN (R215): the frame in progress is ended, TX_START doubles, and the change is logged. -/
def macUnderrun (p : Nat) (s : State) : State :=
  match (s.port p).dma with
  | none => s
  | some _ =>
    let s := (s.setPort p { s.port p with dma := none }).incSat (F.MAC_UNDERRUN p)
    let old := s.getF (F.MAC_TX_START p)
    let new := min 9216 (old * 2)
    let s := (s.setF (F.MAC_TX_START p) new).fire Ev.MAC_UNDERRUN (portObj p) new
    s.logReg { code := orgPower } (F.MAC_TX_START p).addr old new

/-- TIMED_FRAME_LAUNCH (R156, R157): the first timed frame leaves at its launch time, or at once if late; one whose
queue is paused is held and becomes late (R214). -/
def timedLaunch (p : Nat) (at_ : Tai) (s : State) : State :=
  match s.timedQ p with
  | [] => s
  | f :: l =>
    let u := at_.units
    if !f.late && decide (u < f.launch.units - 524288) then s
    else if !(s.openQueues p).contains f.q then s.setTimed p ({ f with late := true } :: l)
    else if !s.on (F.MAC_STATUS_LINK p) then (s.setTimed p l).egressDrop p f.q
    else
      let late := f.late || decide (u > f.launch.units + 524288)
      let s := (s.setTimed p l).emit (.frame p f.q (.raw f.bytes))
      let s := (s.lpiWake p).incSat (F.MAC_TX_OK p)
      let s := if late then
          (s.incSat (F.TSU_TTQ_STATUS_LATE p)).fire Ev.TIMED_LATE (objId 1 (4 + p) 0) f.tag
        else s
      s.stampFrame p (some (f.tag, 0, 0)) late at_

/-- A step overtakes timed frames (R157, R148). -/
def State.timedOvertaken (s : State) : State :=
  let now := s.now.units
  [2, 3].foldl (fun s p =>
    let l := s.timedQ p
    let (past, rest) := l.partition (fun f => f.late || decide (f.launch.units < now))
    s.setTimed p (past.map (fun f => { f with late := true }) ++ rest)) s

/-! ## Host frame rings (R221 to R223) -/

/-- A 64-bit ring base. -/
def State.ringBase (s : State) (f : Nat → Fld) : Nat := s.getWords f 4

/-- Entries of a ring. -/
def ringSize (log2 : Nat) : Nat := 2 ^ log2

/-- A PTP event message in a host frame (R138): its messageType and sequenceId. -/
def ptpEventOf (f : List Byte) : Option (Nat × Nat) :=
  let o := if beAt f 12 2 = 0x8100 then 16 else 12
  let at_ := fun (i : Nat) =>
    let mt := leAt f i 1 % 16
    if mt < 4 && i + 34 ≤ f.length then some (mt, beAt f (i + 30) 2) else none
  if beAt f o 2 = 0x88F7 then at_ (o + 2)
  else if beAt f o 2 = 0x0800 then
    let ihl := 4 * (leAt f (o + 2) 1 % 16)
    if leAt f (o + 11) 1 = 17 && beAt f (o + 2 + ihl + 2) 2 = 319 then at_ (o + 2 + ihl + 8) else none
  else if beAt f o 2 = 0x86DD then
    (if leAt f (o + 8) 1 = 17 && beAt f (o + 44) 2 = 319 then at_ (o + 50) else none)
  else none

/-- HOST_TX_DESCRIPTOR's judgement (R222): the status written back, and the state with the frame queued. -/
def State.judgeDescriptor (s : State) (p : Nat) (d frame : List Byte) : Nat × State :=
  let len := leAt d 8 2
  let fl := leAt d 10 2
  let q := fl % 4
  let tag := leAt d 12 2
  let timed := bitOf fl 3
  let launch : Tai := { frac := leAt d 16 2, ns := leAt d 18 4, sec := leAt d 22 8 }
  let bytes := frame.take len
  if len < 14 || len + 4 > s.getF (F.MAC_MTU p) || q = 1 || (timed && p < 2) || fl ≥ 16 || leAt d 30 2 ≠ 0 ||
      (timed && decide (launch.units > s.now.units + 10 * unitsSec)) then (stBAD_PARAM, s)
  else
    let flen := max 64 (len + 4)
    if timed then
      if (s.timedQ p).length ≥ 64 then (stNO_RESOURCE, s.fire Ev.TIMED_FULL (objId 1 (4 + p) 0) tag)
      else if !s.on (F.MAC_STATUS_LINK p) then (stBAD_STATE, s)
      else
        let late := decide (launch.units < s.now.units)
        (stOK, s.setTimed p (insertTimed { launch := launch, tag := tag, q := q, late := late, bytes := bytes } (s.timedQ p)))
    else if !s.queueRoom p q flen then (stNO_RESOURCE, s.egressDrop p q)
    else if !s.on (F.MAC_STATUS_LINK p) then (stBAD_STATE, s)
    else
      let ts := match ptpEventOf bytes with
        | some (mt, seq) => some (seq, 1, mt)
        | none => if bitOf fl 2 then some (tag, 0, 0) else none
      (stOK, s.enqueue p q { len := flen, body := .raw bytes, ts := ts, dma := true })

/-- HOST_TX_DESCRIPTOR (R222): the next descriptor of a running ring is read, its frame queued, its status written
back, and CONS advances. -/
def hostTxDescriptor (p : Nat) (d frame : List Byte) (_at : Tai) (s : State) : State :=
  let cons := s.getF (F.MAC_TXR_CONS p)
  if !s.on (F.MAC_CTL_EN p) || !s.on (F.MAC_TXR_CFG_RING_EN p) || !s.on F.HST_PCIE_CTL_EN ||
      cons = s.getF (F.MAC_TXR_PROD p) then s
  else
    let (st, s) := s.judgeDescriptor p d frame
    let n := ringSize (s.getF (F.MAC_TXR_CFG_SIZE p))
    let s := s.emit (.hostWrite (s.ringBase (F.MAC_TXR_BASE p) + cons * 32 + 14) [st])
    let s := s.setF (F.MAC_TXR_CONS p) ((cons + 1) % n)
    if s.on (F.MAC_TXR_CFG_MSI p) then s.msixRequest (s.getF (F.MAC_TXR_CFG_VEC p)) else s

/-- BEST_EFFORT_FRAME_RX (R223): a frame of `len` bytes without FCS and tag is written into the next posted buffer,
whose address and length the descriptor gives, or dropped. -/
def bestEffortRx (p len : Nat) (tag : Option (Nat × Nat)) (ptp : Bool) (at_ : Tai) (buf : Nat × Nat) (s : State) : State :=
  let cons := s.getF (F.MAC_RXR_CONS p)
  let drop := s.incSat (F.MAC_HOST_RX_DROP p)
  if !s.on (F.MAC_CTL_EN p) then s
  else if !s.on (F.MAC_RXR_CFG_RING_EN p) || !s.on F.HST_PCIE_CTL_EN || cons = s.getF (F.MAC_RXR_PROD p) || len > buf.2 then drop
  else
    let n := ringSize (s.getF (F.MAC_RXR_CFG_SIZE p))
    let t := (Tai.ofUnits (s.planeIn p at_)).quarter
    let (pcp, vid) := tag.getD (0, 0)
    let flags := b2n tag.isSome + 2 * pcp + 16 * b2n ptp
    let s := s.emit (.hostWrite buf.1 [len])
    let s := s.emit (.hostWrite (s.ringBase (F.MAC_RXR_BASE p) + cons * 32 + 8) [len, flags, vid, t.frac, t.ns, t.sec])
    let s := s.setF (F.MAC_RXR_CONS p) ((cons + 1) % n)
    if s.on (F.MAC_RXR_CFG_MSI p) then s.msixRequest (s.getF (F.MAC_RXR_CFG_VEC p)) else s

/-! ## Speed stepping (R216 to R219) -/

/-- A port's speed in bits per second. -/
def State.portBits (s : State) (p : Nat) : Nat := speedBits (if p < 2 then s.getF (F.MAC_STATUS_SPEED p) else 3)

/-- Whether the other media port carries a stream that port `p` carries (R217). -/
def State.otherCarries (s : State) (p : Nat) (b : List Byte) : Bool :=
  let o := 1 - p
  onPath b o && s.on (F.MAC_CTL_EN o) && s.on (F.MAC_STATUS_LINK o) && !s.on (F.MAC_STATUS_STEPPING o) &&
  decide (s.utilWith o 0 0 ≤ s.portBits o)

/-- Whether a stream on port `p` is protected (R217). -/
def State.streamProtected (s : State) (p : Nat) (b : List Byte) : Bool :=
  s.otherCarries p b ||
  (s.pairLinkUp && (s.pair.pState == 3 || s.pair.pState == 4) && onPath b (1 - p))

/-- Whether every enabled stream on a media port is protected. -/
def State.protected_ (s : State) (p : Nat) : Bool :=
  s.str.rx.all (fun q => !onPath (s.rxB q.1) p || s.streamProtected p (s.rxB q.1)) &&
  s.str.tx.all (fun q => !onPath (s.txB q.1) p || s.streamProtected p (s.txB q.1))

/-- Utilisation and protection of a port as reported. -/
def State.refreshUtil (s : State) (p : Nat) : State :=
  let s := s.setSat (F.MAC_STATUS_UTIL p) (s.utilWith p 0 0 / 1000000)
  s.setF (F.MAC_STATUS_PROTECTED p) (b2n (p < 2 && s.protected_ p))

/-- UTILISATION_SECOND (R216): measured PTP and control rates of each port in bits per second. -/
def utilSecond (meas : List (Nat × Nat)) (s : State) : State :=
  (List.range 4).foldl (fun s p =>
    let (r, t) := meas.getD p (0, 0)
    let s := s.setPort p { s.port p with rxRate := r, txRate := t }
    let sp := s.getF (F.MAC_STATUS_SPEED p)
    let low := p < 2 && s.on (F.MAC_STATUS_LINK p) && sp < 3 &&
      decide (s.utilWith p 0 0 * 10 < 4 * speedBits (sp + 1))
    let x := s.port p
    (s.setPort p { x with under := if low then x.under + 1 else 0, barred := x.barred - 1 }).refreshUtil p) s

/-- The PHY address of a port (R230). -/
def State.phyAddr (s : State) (p : Nat) : Nat :=
  s.getF ([F.PHYM_ADDR01_N0, F.PHYM_ADDR01_N1, F.PHYM_ADDR23_N2].getD p F.PHYM_ADDR23_N3)

/-- PHY management issues frames: enabled and not in its safe state (R224). -/
def State.mdioOk (s : State) : Bool := s.on F.PHYM_CTL_EN && !s.inSafe 3 5

/-- The advertisement of a port's PHY is written and auto-negotiation restarted (R218); the data word stands for the
only speed code offered, 4 for all. -/
def State.advertise (s : State) (p code : Nat) : State :=
  if s.mdioOk then s.emit (.mdio p true (s.phyAddr p) 0x70020 code) else s

/-- A step of a port begins (R218). -/
def State.startStep (s : State) (p target : Nat) : State :=
  let prev := s.getF (F.MAC_STATUS_SPEED p)
  let s := s.setPort p { s.port p with target := some target, prevSpeed := prev }
  (((s.setF (F.MAC_STATUS_STEPPING p) 1).rxPathDown p).advertise p target).refreshUtil (1 - p)

/-- Whether a media port may be stepped at all now (R216 to R218). -/
def State.mayStep (s : State) (p : Nat) : Bool :=
  s.on (F.MAC_CTL_EN p) && !s.on (F.MAC_CTL_MODE p) && s.on (F.MAC_CTL_AUTO_STEP p) && s.on (F.MAC_STATUS_LINK p) &&
  !s.on (F.MAC_STATUS_STEPPING p) && !s.on (F.MAC_STATUS_STEPPING (1 - p)) && s.mdioOk &&
  (s.on (F.MAC_CTL_STEP_UNPROT p) || s.protected_ p)

/-- Whether a step down of a port is due (R216, R218). -/
def State.downDue (s : State) (p : Nat) : Bool :=
  s.mayStep p && decide (60 ≤ (s.port p).under) && (s.port p).barred == 0 && (s.port p).target.isNone &&
  decide (s.getF (F.MAC_STATUS_SPEED p) < 3)

/-- Whether a port's PTP domain is the time-of-day domain. -/
def State.portIsTod (s : State) (p : Nat) : Bool :=
  [0, 1].any (fun d => s.on (F.D_CTL_EN d) && s.isTod d && s.getF (F.D_CTL_PORT d) == p)

/-- The port that steps first where both are due (R217). -/
def State.firstPort (s : State) : Nat := if s.portIsTod 1 && !s.portIsTod 0 then 0 else 1

/-- STEP_DOWN_DUE (R216, R217). -/
def stepDownDue (p : Nat) (s : State) : State :=
  if !s.downDue p || (s.downDue (1 - p) && s.firstPort ≠ p) then s
  else s.startStep p (s.getF (F.MAC_STATUS_SPEED p) + 1)

/-- SECOND_PORT_STEP (R217): a waiting step up, or a step down that is due, begins. -/
def secondPortStep (p : Nat) (s : State) : State :=
  if s.on (F.MAC_STATUS_STEPPING p) || s.on (F.MAC_STATUS_STEPPING (1 - p)) then s
  else match (s.port p).target with
    | some t => s.startStep p t
    | none => if s.downDue p then s.startStep p (s.getF (F.MAC_STATUS_SPEED p) + 1) else s

/-- SPEED_STEP_DONE (R218): the link comes up at the target speed. -/
def speedStepDone (p : Nat) (s : State) : State :=
  match (s.port p).target with
  | none => s
  | some t =>
    if !s.on (F.MAC_STATUS_STEPPING p) then s
    else linkUp p t false false s

/-- STEP_TIMEOUT (R218): the previous advertisement is restored and no step down is made for 3,600 s. -/
def stepTimeout (p : Nat) (s : State) : State :=
  match (s.port p).target with
  | none => s
  | some t =>
    if !s.on (F.MAC_STATUS_STEPPING p) then s
    else
      let s := (s.advertise p 4).setF (F.MAC_STATUS_STEPPING p) 0
      let s := s.setPort p { s.port p with target := none, barred := 3600 }
      let s := (s.incSat (F.MAC_STEP_FAIL p)).fire Ev.STEP_TIMEOUT (portObj p) (p + 16 * t)
      if s.on (F.MAC_STATUS_LINK p) then s.txPathUp p else s

/-- What an admission finds at a port (R219): it fits, or needs a step up to a speed, or is refused. -/
inductive PortFit where
  | fits
  | step (code : Nat)
  | refuse
  deriving DecidableEq, Repr

/-- A port judged for more committed rate in each direction (R219); a port that is down or disabled fits (R234,
R263). -/
def State.portFit (s : State) (p rx tx : Nat) : PortFit :=
  if !s.on (F.MAC_CTL_EN p) || !s.on (F.MAC_STATUS_LINK p) then .fits
  else
    let u := s.utilWith p rx tx
    let code := match (s.port p).target with
      | some t => t
      | none => s.getF (F.MAC_STATUS_SPEED p)
    let bits := if p < 2 then speedBits code else speedBits 3
    if u * 10 ≤ 7 * bits then .fits
    else if p ≥ 2 || s.on (F.MAC_CTL_MODE p) || !s.on (F.MAC_CTL_AUTO_STEP p) then .refuse
    else
      let cand := [3, 2, 1, 0].filter (fun c => decide (c < code) && decide (s.getF (F.MAC_CTL_SPEED_MAX p) ≤ c) && decide (u * 10 ≤ 7 * speedBits c))
      match cand with
      | [] => .refuse
      | c :: _ => if s.on (F.MAC_CTL_STEP_UNPROT p) || s.protected_ p then .step c else .refuse

/-- The ports an admission steps up begin in turn (R217, R219); one that is stepping aims at the new speed. -/
def State.stepUps (s : State) (l : List (Nat × Nat)) : State :=
  let s := l.foldl (fun s q =>
    if s.on (F.MAC_STATUS_STEPPING q.1) then (s.setPort q.1 { s.port q.1 with target := some q.2 }).advertise q.1 q.2
    else s.setPort q.1 { s.port q.1 with target := some q.2 }) s
  let idle := l.filter (fun q => !s.on (F.MAC_STATUS_STEPPING q.1))
  if s.on (F.MAC_STATUS_STEPPING 0) || s.on (F.MAC_STATUS_STEPPING 1) then s
  else
    match idle.find? (fun q => q.1 == s.firstPort) with
    | some q => s.startStep q.1 q.2
    | none => match idle with
      | q :: _ => s.startStep q.1 q.2
      | [] => s

/-- Whether every port a pending stream uses is up at sufficient speed (R219). -/
def State.portsReady (s : State) (b : List Byte) : Bool :=
  (List.range 4).all (fun p => !onPath b p || !s.on (F.MAC_CTL_EN p) || !s.on (F.MAC_STATUS_LINK p) && (s.port p).target.isNone ||
    (s.on (F.MAC_STATUS_LINK p) && !s.on (F.MAC_STATUS_STEPPING p) && (s.port p).target.isNone &&
      decide (s.utilWith p 0 0 * 10 ≤ 7 * s.portBits p)))

/-- The entries that waited for steps start once their ports are ready (R219, R270). -/
def State.releasePending (s : State) : State :=
  let s := s.str.rx.foldl (fun s q =>
    if q.2.st = 1 && s.portsReady (s.rxB q.1) then s.setRx q.1 { s.rxRun q.1 with st := 2 } else s) s
  s.str.tx.foldl (fun s q =>
    if q.2.st = 1 && s.portsReady (s.txB q.1) then
      s.setTx q.1 { s.txRun q.1 with st := 2, start := s.afterTicks 2 } else s) s

/-- The first port of a block that still aims at a speed, with that speed. -/
def State.missingPort (s : State) (b : List Byte) : Nat × Nat :=
  match (List.range 4).find? (fun p => onPath b p && (s.port p).target.isSome) with
  | some p => (p, (s.port p).target.getD 0)
  | none => (0, 0)

/-! ## Low-power idle (R220) -/

/-- LPI_ENTER. -/
def lpiEnter (p : Nat) (s : State) : State :=
  let x := s.port p
  let due := match s.timedQ p with
    | [] => false
    | f :: _ => f.late || decide (f.launch.units < s.now.units + 6553600000)
  if p ≥ 2 && x.eee && s.on (F.MAC_STATUS_LINK p) && s.on (F.MAC_CTL_LPI_EN p) && !s.on (F.MAC_STATUS_LPI_TX p) &&
      x.q0.isEmpty && x.q1.isEmpty && x.q2.isEmpty && x.q3.isEmpty &&
      !s.str.tx.any (fun q => onPath (s.txB q.1) p) && !due then
    (s.setF (F.MAC_STATUS_LPI_TX p) 1).incSat (F.MAC_LPI_ENTRIES p)
  else s

/-- LPI_EXIT. -/
def lpiExit (p : Nat) (s : State) : State := s.lpiWake p

/-! ## Layer-3 settings, PHY registers, legal values (R208, R225, R228 to R230) -/

/-- The first failing byte of a port parameter block (Table 9.2). -/
def l3Fault (b : List Byte) : Option Nat :=
  let n := bf b 4 1
  let gw := beAt b 8 4
  let ip := beAt b 0 4
  firstBad [(4, decide (n ≤ 32)), (5, decide (bf b 5 1 ≤ 128)), (6, decide (bf b 6 2 ≤ 4094)),
    (8, n == 0 || gw == 0 || (n ≤ 32 && gw / 2 ^ (32 - n) == ip / 2 ^ (32 - n))), (12, decide (bf b 12 2 < 4096)),
    (14, zeroAt b 14 1), (15, zeroAt b 15 1)] <|> firstBad ((List.range 16).map (fun i => (48 + i, zeroAt b (48 + i) 1)))

/-- A port's layer-3 block in place, groups brought in line. -/
def State.setL3 (s : State) (p : Nat) (b : List Byte) : State :=
  ({ s with str := { s.str with l3 := if b.all (· == 0#8) then KV.erase s.str.l3 p else KV.set s.str.l3 p b } }).syncGroups

/-- NET_PORT_SET (R208). -/
def opNetPortSet (q : Req) (s : State) : OpOut :=
  if q.params.length ≠ 68 then badLen
  else
    let (sub, p, e) := objParts q.obj
    if sub ≠ 3 || p > 3 || e ≠ 0 then .bad 16
    else
      let b := q.params.drop 4
      match l3Fault b with
      | some o => .bad (20 + o)
      | none => if s.on (F.MAC_CTL_EN p) then .err stBAD_STATE else .done (s.setL3 p b) [] (some q.obj)

/-- The object of PHY management. -/
def phyObj : Nat := objId 3 5 0

/-- MDIO_RW (R225); `answer` is what the PHY drives, none where it does not answer. -/
def opMdio (answer : Option Nat) (q : Req) (s : State) : OpOut :=
  if q.params.length ≠ 8 then badLen
  else
    let p := q.field 0 1
    let op := q.field 1 1
    let dev := q.field 2 1
    let reg := q.field 4 2
    let c45 := decide (op ≥ 2)
    match firstBad [(16, decide (p ≤ 3)), (17, decide (op ≤ 3)), (18, if c45 then decide (dev ≤ 31) else dev == 0),
      (19, q.field 3 1 == 0), (20, c45 || decide (reg ≤ 31))] with
    | some o => .bad o
    | none =>
      if op % 2 = 1 && !q.origin.priv then .denied phyObj
      else if s.on (F.MAC_STATUS_STEPPING p) || !s.mdioOk then .err stBAD_STATE
      else
        let phy := s.phyAddr p
        let full := dev * 65536 + reg
        if op % 2 = 1 then .done (s.emit (.mdio p true phy full (q.field 6 2))) [] (some phyObj)
        else
          let s := s.emit (.mdio p false phy full 0)
          match answer with
          | some v => .done s (leBytes 2 v ++ leBytes 2 0) none
          | none =>
            .failWith ((s.incSat F.PHYM_STATUS_TIMEOUTS).fire Ev.MDIO_TIMEOUT phyObj (phy + 65536 * reg)) stTIMEOUT 0xFFFF 0

/-- Legal data of a port's registers (R228); `v` is the register's merged value. -/
def legalMac (p off v : Nat) : Bool :=
  if off = 0 then
    let mode := bitOf v 1
    (bitsOf v 3 2 == 0 || (p < 2 && !mode)) && (!bitOf v 4 || (p < 2 && !mode)) && (!bitOf v 8 || (2 ≤ p && !mode))
  else if off = 4 then decide (1518 ≤ bitsOf v 13 0) && decide (bitsOf v 13 0 ≤ 9216)
  else if off = 8 then decide (64 ≤ bitsOf v 13 0) && decide (bitsOf v 13 0 ≤ 9216)
  else if off = 0x30 || off = 0x50 then decide (4 ≤ bitsOf v 3 0) && decide (bitsOf v 3 0 ≤ 12)
  else true

/-- A legal committed ring base (R228). -/
def legalRing (v : Nat) : Bool := v % 4096 == 0

/-- A legal producer index (R228). -/
def State.legalProd (s : State) (size : Fld) (v : Nat) : Bool := decide (v < ringSize (s.getF size))

/-- Legal data of a policer element (R229). -/
def legalPol (off v : Nat) : Bool :=
  let i := (off - 0x100) / 16
  if off < 0x100 then true
  else if off % 16 = 0 then v == 0xFFFF || decide (v ≤ if i < 8 then 10000 else 1000)
  else if off % 16 = 4 then decide (1 ≤ v) && decide (v ≤ if i < 8 then 2048 else 512)
  else true

/-- Legal data of PHY management (R224, R230): EN not while a generator uses G10 or G11. -/
def State.legalPhy (s : State) (off v : Nat) : Bool :=
  if off = 0 then
    bitsOf v 2 1 != 3 &&
    !(bitOf v 0 && !s.on F.PHYM_CTL_EN && (List.range 4).any (fun n => s.getF (F.CC_CTL_GPIO n) == 11 || s.getF (F.CC_CTL_GPIO n) == 12))
  else true

end Sys2Proof.Machine
end

