-- ==== Sys2Proof/Machine/Sdp.lean ====
section
/-!
DEFINITION. Machine/Sdp.lean: the legal values of stream blocks (Table 10.1, Table 11.1), session descriptions
(R254, R275), announcements (R274) and the peer directory (R252, R253).
-/

namespace Sys2Proof.Machine

/-! ## Legal values -/

/-- Checks that bytes `a` to `a + n - 1` of a block are zero, in offset order. -/
def zeroBytes (b : List Byte) (a n : Nat) : List (Nat × Bool) := (List.range n).map (fun i => (a + i, zeroAt b (a + i) 1))

/-- The bytes of an address field beyond an IPv4 address. -/
def restZero (b : List Byte) (off : Nat) (v6 : Bool) : List (Nat × Bool) := if v6 then [] else zeroBytes b (off + 4) 12

/-- The first failing byte of a receive block (Table 10.1). -/
def rxFault (b : List Byte) : Option Nat :=
  let native := bitOf (bFlags b) 0
  let hz := rateHz (bRate b)
  let ch := bChannels b
  let slack := [1, 2, 5, 10, 100, 1000].getD (bf b 16 1) 1
  firstBad ([(0, decide (bFormat b ≤ 2)), (1, decide (bRate b ≤ 7)),
    (2, decide (1 ≤ ch) && decide (ch ≤ if native then 512 else 64)),
    (4, decide (bPtime b ≤ 5) && (native || bPtime b != 0)), (5, decide (bBind b ≤ 2)),
    (6, if bBind b = 2 then decide (bFd b ≤ 63) else bFd b == 0), (7, decide (bPaths b < 32) && bPaths b % 16 != 0),
    (8, decide (bFirst b + ch ≤ 0x1000)), (10, bPt b == 0xFF || (decide (96 ≤ bPt b) && decide (bPt b ≤ 127))),
    (11, decide (bFlags b < 32)), (12, bPort b != 0),
    (14, decide (1 ≤ bLoss b) && decide (bLoss b ≤ 1000) && decide (bLoss b * hz ≥ 2000 * bSpp b)),
    (16, decide (bf b 16 1 ≤ 5))] ++ zeroBytes b 17 3 ++
    [(20, decide (3 * rateMul (bRate b) ≤ bLink b) && decide (bLink b ≤ hz) &&
      decide ((bLink b + bSpp b) * 1000 + slack * hz ≤ 2000 * hz))] ++
    restZero b 32 (rxV6 b) ++ restZero b 48 (rxV6 b))

/-- The first failing byte of a transmit block (Table 11.1). -/
def txFault (b : List Byte) : Option Nat :=
  let native := bitOf (bFlags b) 0
  let ch := bChannels b
  let d := beAt b 32 4
  firstBad ([(0, decide (bFormat b ≤ 2)), (1, decide (bRate b ≤ 7)),
    (2, decide (1 ≤ ch) && decide (ch ≤ if native then 512 else 64)),
    (4, decide (bPtime b ≤ 5) && (native || bPtime b != 0)), (5, decide (bBind b ≤ 1)), (6, decide (bDscp b ≤ 63)),
    (7, decide (bPaths b < 16) && bPaths b != 0), (8, decide (0x1000 ≤ bFirst b) && decide (bFirst b + ch ≤ 0x2000)),
    (10, decide (96 ≤ bPt b) && decide (bPt b ≤ 127)), (11, decide (bFlags b < 16)), (12, bPort b != 0),
    (16, bTtl b != 0)] ++ zeroBytes b 17 3 ++ zeroBytes b 30 2 ++
    [(32, if txV6 b then d / 2 ^ 24 == 0xFF && decide (2 ≤ d / 2 ^ 16 % 16) else d / 2 ^ 28 == 14 && d / 256 != 0xE00000)] ++
    restZero b 32 (txV6 b) ++ zeroBytes b 52 12)

/-! ## Text -/

/-- The bytes of a text. -/
def asc (t : String) : List Byte := t.toList.map (fun c => BitVec.ofNat 8 c.toNat)

/-- Decimal digits of a number, with fuel. -/
def decN : Nat → Nat → List Byte
  | 0, _ => []
  | f + 1, n => (if n < 10 then [] else decN f (n / 10)) ++ [BitVec.ofNat 8 (48 + n % 10)]
def dec (n : Nat) : List Byte := decN 24 n

/-- One hexadecimal digit, lower case. -/
def hexLow (n : Nat) : Byte := BitVec.ofNat 8 (if n < 10 then 48 + n else 87 + n)

/-- Four hexadecimal digits of a group. -/
def hexGroup (n : Nat) : List Byte := [hexLow (n / 4096 % 16), hexLow (n / 256 % 16), hexLow (n / 16 % 16), hexLow (n % 16)]

/-- Texts joined by a separator. -/
def joinB (sep : List Byte) : List (List Byte) → List Byte
  | [] => []
  | [a] => a
  | a :: l => a ++ sep ++ joinB sep l

/-- An address as text: dotted decimal, or eight hexadecimal groups. -/
def ipText (a : List Byte) : List Byte :=
  if a.length = 16 then joinB (asc ":") ((List.range 8).map (fun i => hexGroup (beAt a (2 * i) 2)))
  else joinB (asc ".") ((List.range 4).map (fun i => dec (beAt a i 1)))

/-- A clock identity as text: eight pairs of digits. -/
def gmText (g : Nat) : List Byte :=
  joinB (asc "-") ((List.range 8).map (fun i =>
    let v := g / 2 ^ (8 * (7 - i)) % 256
    [hexLow (v / 16), hexLow (v % 16)]))

/-- Names of formats and packet times (Table 11.6). -/
def formatName (f : Nat) : List Byte := asc (["L16", "L24", "AM824"].getD f "AM824")
def ptimeName (c : Nat) : List Byte := asc (["0.0625", "0.125", "0.25", "0.33", "1", "4"].getD c "4")

/-! ## Export (R275) -/

/-- The description version of an entry; it starts at 1. -/
def State.txVersion (s : State) (e : Nat) : Nat := KV.get 1 s.str.txVer e

/-- The version of an entry rises (R275). -/
def State.bumpVersion (s : State) (e : Nat) : State :=
  let s := { s with str := { s.str with txVer := KV.put 1 s.str.txVer e (s.txVersion e + 1) } }
  if (KV.find s.str.tx e).isSome && bitOf (bFlags (s.txB e)) 2 then s.fire Ev.SDP_CHANGE (txObj e) e else s

/-- The grandmaster a description of a domain names (Table 11.6). -/
def State.sdpGm (s : State) (d : Nat) : Nat :=
  if s.ptpPort d = psMASTER then (s.dom d).ident
  else
    let gm := s.get64 (F.D_GM_ID_LO d) (F.D_GM_ID_HI d)
    if gm = 0 then KV.get 0 s.str.lastGm d else gm

/-- A domain's grandmaster has changed: the entries bound to it take a new version. -/
def State.refreshGm (s : State) : State :=
  [0, 1].foldl (fun s d =>
    let gm := s.get64 (F.D_GM_ID_LO d) (F.D_GM_ID_HI d)
    let old := KV.get 0 s.str.lastGm d
    if gm = 0 || gm = old then s
    else
      let s := { s with str := { s.str with lastGm := KV.put 0 s.str.lastGm d gm } }
      if old = 0 then s
      else (List.range 512).foldl (fun s e =>
        if bChannels (s.txB e) != 0 && bBind (s.txB e) == d then s.bumpVersion e else s) s) s

/-- The lowest port a block names. -/
def lowPort (b : List Byte) : Nat := ((List.range 4).find? (onPath b)).getD 0

/-- The session description of a block (Table 11.6). -/
def State.sdpText (s : State) (e : Nat) (b : List Byte) : List Byte :=
  let v6 := txV6 b
  let fam := asc (if v6 then "IP6" else "IP4")
  let dst := ipText (ipOf (bDst b) v6)
  let nl := [13#8, 10#8]
  let line := fun (l : List (List Byte)) => l.flatten ++ nl
  line [asc "v=0"] ++
  line [asc "o=- ", dec (bf b 48 4), asc " ", dec (s.txVersion e), asc " IN ", fam, asc " ", ipText (s.ownIp (lowPort b) v6)] ++
  line [asc "s=CK4096 dev ", dec (s.getF F.TXT_DEV_ID), asc " tx ", dec e] ++
  line ([asc "c=IN ", fam, asc " ", dst] ++ (if v6 then [] else [asc "/", dec (bTtl b)])) ++
  line [asc "t=0 0"] ++
  line [asc "m=audio ", dec (bPort b), asc " RTP/AVP ", dec (bPt b)] ++
  line [asc "a=rtpmap:", dec (bPt b), asc " ", formatName (bFormat b), asc "/", dec (rateHz (bRate b)), asc "/", dec (bChannels b)] ++
  line [asc "a=ptime:", ptimeName (bPtime b)] ++
  line [asc "a=framecount:", dec (bSpp b)] ++
  line [asc "a=mediaclk:direct=", dec (bTxOff b)] ++
  line [asc "a=ts-refclk:ptp=IEEE1588-2008:", gmText (s.sdpGm (bBind b)), asc ":", dec (s.getF (F.D_ID_DOMAIN_NUM (bBind b)))] ++
  line [asc "a=recvonly"]

/-- An entry an object ID names: bank and number (R231, R261). -/
def entryOf (active e : Nat) : Option (Nat × Nat) :=
  if e < 512 then some (active, e)
  else if 0x4000 ≤ e && e < 0x4200 then some (1 - active, e - 0x4000)
  else none

/-- SDP_EXPORT (R275). -/
def opSdpExport (q : Req) (s : State) : OpOut :=
  if q.params.length ≠ 4 then badLen
  else
    let (sub, u, el) := objParts q.obj
    if sub ≠ 4 || u ≠ 1 then .bad 16
    else match entryOf s.txBank el with
      | none => .bad 16
      | some (bank, e) =>
        let b := s.txBlkAt bank e
        if bChannels b = 0 then .fail stNOT_FOUND 16 0
        else
          let t := s.sdpText e b
          .done s (leBytes 4 (s.txVersion e) ++ leBytes 2 t.length ++ leBytes 2 0 ++ t) none

/-! ## Parsing (R254) -/

/-- A text with a prefix taken off. -/
def afterPrefix : List Byte → List Byte → Option (List Byte)
  | [], l => some l
  | _ :: _, [] => none
  | p :: ps, c :: cs => if p = c then afterPrefix ps cs else none

/-- A text cut at every separator. -/
def splitB (sep : Byte) : List Byte → List (List Byte)
  | [] => [[]]
  | c :: l =>
    match splitB sep l with
    | [] => [[c]]
    | a :: r => if c = sep then [] :: a :: r else (c :: a) :: r

/-- A decimal number. -/
def parseDec (l : List Byte) : Option Nat :=
  if l.isEmpty || l.length > 20 then none
  else l.foldl (fun a c => match a with
    | none => none
    | some v => if 48 ≤ c.toNat && c.toNat ≤ 57 then some (v * 10 + (c.toNat - 48)) else none) (some 0)

/-- A hexadecimal digit's value. -/
def hexVal (c : Nat) : Option Nat :=
  if 48 ≤ c && c ≤ 57 then some (c - 48) else if 97 ≤ c && c ≤ 102 then some (c - 87)
  else if 65 ≤ c && c ≤ 70 then some (c - 55) else none

/-- A hexadecimal number of at most `n` digits. -/
def parseHex (n : Nat) (l : List Byte) : Option Nat :=
  if l.isEmpty || l.length > n then none
  else l.foldl (fun a c => match a, hexVal c.toNat with
    | some v, some d => some (v * 16 + d)
    | _, _ => none) (some 0)

/-- All the values of a list of options. -/
def allSome {α : Type} : List (Option α) → Option (List α)
  | [] => some []
  | some a :: l => (allSome l).map (a :: ·)
  | none :: _ => none

/-- A dotted-decimal address. -/
def parseIp4 (l : List Byte) : Option (List Byte) :=
  match allSome ((splitB 46#8 l).map parseDec) with
  | some v => if v.length = 4 && v.all (· < 256) then some (v.map (BitVec.ofNat 8)) else none
  | none => none

/-- Groups of an IPv6 address, two bytes each. -/
def ip6Groups (l : List (List Byte)) : Option (List Byte) :=
  (allSome (l.map (parseHex 4))).map (fun v => v.flatMap (beBytes 2))

/-- An IPv6 address, with at most one run of zero groups left out. -/
def parseIp6 (l : List Byte) : Option (List Byte) :=
  let g := splitB 58#8 l
  let k := (g.drop 1).dropLast.findIdx? (·.isEmpty)
  match k with
  | none => match ip6Groups g with
    | some b => if b.length = 16 then some b else none
    | none => none
  | some i =>
    let left := (g.take (i + 1)).filter (fun x => !x.isEmpty)
    let right := (g.drop (i + 2)).filter (fun x => !x.isEmpty)
    match ip6Groups left, ip6Groups right with
    | some a, some b => if a.length + b.length < 16 then some (a ++ List.replicate (16 - a.length - b.length) 0#8 ++ b) else none
    | _, _ => none

/-- The lines of a text with their offsets, line ends removed. -/
def textLines (t : List Byte) : List (Nat × List Byte) :=
  ((splitB 10#8 t).foldl (fun (a : Nat × List (Nat × List Byte)) l =>
    (a.1 + l.length + 1, a.2 ++ [(a.1, if l.getLast? = some 13#8 then l.dropLast else l)])) (0, [])).2.filter (fun q => !q.2.isEmpty)

/-- The bytes of an RFC 2974 header. -/
def sapSkip (t : List Byte) : Nat :=
  let h := 4 + (if bitOf (leAt t 0 1) 4 then 16 else 4) + 4 * leAt t 1 1
  let r := t.drop h
  if (afterPrefix (asc "v=0") r).isSome then h else h + ((r.findIdx? (· == 0#8)).map (· + 1)).getD 0

/-- What a session description maps to (Table 10.7), as far as its lines have been read. -/
structure SdpMap where
  dst : Option (List Byte) := none
  port : Option (Nat × Nat) := none
  map : Option (Nat × Nat × Nat) := none
  frames : Option (Nat × Nat) := none
  ptime : Option Nat := none
  off : Nat := 0
  bind : Option Nat := none
  src : Option (List Byte) := none
  deriving DecidableEq, Repr

/-- An address after IN IP4 or IN IP6, cut at a slash. -/
def parseConn (l : List Byte) : Option (List Byte) :=
  match splitB 32#8 l with
  | [net, fam, a] =>
    let a := (splitB 47#8 a).headD []
    if net ≠ asc "IN" then none
    else if fam = asc "IP4" then parseIp4 a else if fam = asc "IP6" then parseIp6 a else none
  | _ => none

/-- Formats and rates by name. -/
def formatCode (l : List Byte) : Option Nat := ([0, 1, 2] : List Nat).find? (fun f => formatName f == l)
def rateCode (hz : Nat) : Option Nat := (List.range 8).find? (fun c => rateHz c == hz)

/-- BIND of a ts-refclk value: the domain with that number and grandmaster, else a foreign domain. -/
def State.bindOf (s : State) (v : List Byte) : Option Nat :=
  if (afterPrefix (asc "localmac") v).isSome then some 2
  else
    let rest := match afterPrefix (asc "ptp=IEEE1588-2008:") v with
      | some r => some r
      | none => afterPrefix (asc "ptp=IEEE1588-2019:") v
    match rest with
    | none => none
    | some r => match splitB 58#8 r with
      | [gm, dom] =>
        match allSome ((splitB 45#8 gm).map (parseHex 2)), parseDec dom with
        | some g, some n =>
          if g.length ≠ 8 then none
          else
            let id := g.foldl (fun a x => a * 256 + x) 0
            let hit := fun d => s.getF (F.D_ID_DOMAIN_NUM d) == n && s.get64 (F.D_GM_ID_LO d) (F.D_GM_ID_HI d) == id
            some (if hit 0 then 0 else if hit 1 then 1 else 2)
        | _, _ => none
      | _ => none

/-- One line read; none where it uses what Table 10.7 does not have. -/
def State.sdpLine (s : State) (m : SdpMap) (l : List Byte) : Option SdpMap :=
  let pre := fun (p : String) => afterPrefix (asc p) l
  match pre "c=" with
  | some r => (parseConn r).map (fun a => { m with dst := some a })
  | none =>
  match pre "m=audio " with
  | some r => (match splitB 32#8 r with
    | [port, av, pt] =>
      match parseDec port, parseDec pt with
      | some p, some t => if av = asc "RTP/AVP" && t < 128 then some { m with port := some (p, t) } else none
      | _, _ => none
    | _ => none)
  | none =>
  match pre "a=rtpmap:" with
  | some r => (match splitB 32#8 r with
    | [pt, enc] =>
      match splitB 47#8 enc with
      | name :: rate :: rest =>
        match formatCode name, (parseDec rate).bind rateCode, parseDec pt, (if rest.isEmpty then some 1 else parseDec (rest.headD [])) with
        | some f, some c, some p, some ch =>
          if rest.length ≤ 1 && (m.port.map (·.2)) == some p then some { m with map := some (f, c, ch) } else none
        | _, _, _, _ => none
      | _ => none
    | _ => none)
  | none =>
  match pre "a=framecount:" with
  | some r => (parseDec r).map (fun n => { m with frames := some (n, 0) })
  | none =>
  match pre "a=ptime:" with
  | some r => (match (List.range 6).find? (fun c => ptimeName c == r) with
    | some c => some { m with ptime := some c }
    | none => none)
  | none =>
  match pre "a=mediaclk:" with
  | some r => (match (afterPrefix (asc "direct=") r).bind parseDec with
    | some n => if n < 2 ^ 32 then some { m with off := n } else none
    | none => none)
  | none =>
  match pre "a=ts-refclk:" with
  | some r => (s.bindOf r).map (fun b => { m with bind := some b })
  | none =>
  match pre "a=source-filter: incl " with
  | some r => (match splitB 32#8 r with
    | [net, fam, _, src] => (parseConn (joinB [32#8] [net, fam, src])).map (fun a => { m with src := some a })
    | _ => none)
  | none => some m

/-- The lines read in turn; a line at fault answers its offset. -/
def State.sdpLines (s : State) : SdpMap → List (Nat × List Byte) → Nat ⊕ SdpMap
  | m, [] => .inr m
  | m, (o, l) :: rest =>
    match s.sdpLine m l with
    | some m' => State.sdpLines s m' rest
    | none => .inl o

/-- The session part and the first m=audio description of a text. -/
def firstAudio (l : List (Nat × List Byte)) : List (Nat × List Byte) :=
  let isM := fun (q : Nat × List Byte) => (afterPrefix (asc "m=") q.2).isSome
  let isA := fun (q : Nat × List Byte) => (afterPrefix (asc "m=audio ") q.2).isSome
  let head := l.takeWhile (fun q => !isM q)
  match l.dropWhile (fun q => !isA q) with
  | [] => head
  | a :: rest => head ++ [a] ++ rest.takeWhile (fun q => !isM q)

/-- An address field of 16 bytes. -/
def addrField (a : List Byte) : List Byte := a ++ List.replicate (16 - a.length) 0#8

/-- The block a description gives an entry (Table 10.7), or the offset of the line at fault. -/
def State.sdpBlock (s : State) (b : List Byte) (fd : Nat) (text : List Byte) : Nat ⊕ List Byte :=
  let b := if b.length = 64 then b else b ++ List.replicate (64 - b.length) 0#8
  match s.sdpLines {} (firstAudio (textLines text)) with
  | .inl o => .inl o
  | .inr m =>
    match m.dst, m.port, m.map with
    | some dst, some (port, pt), some (f, rc, ch) =>
      let code := match m.frames with
        | some (n, _) => (List.range 6).find? (fun c => [3, 6, 12, 16, 48, 192].getD c 3 * rateMul rc == n)
        | none => match m.ptime with
          | some c => some c
          | none => some (bPtime b)
      match code with
      | none => .inl 0xFFFF
      | some pc =>
        let v6 := dst.length == 16
        let native := decide (ch > 64) || pc == 0
        let fl := bFlags b
        let fl := (fl / 2 * 2 % 16) + b2n native + 16 * b2n v6
        let fl := if m.src.isSome then (if bitOf fl 2 then fl else fl + 4) else fl
        let bind := m.bind.getD (bBind b)
        let fdv := if bind = 2 then (if m.bind.isSome then fd else bFd b) else 0
        .inr (leBytes 1 f ++ leBytes 1 rc ++ leBytes 2 ch ++ leBytes 1 pc ++ leBytes 1 bind ++ leBytes 1 fdv ++
          leBytes 1 (bPaths b) ++ leBytes 2 (bFirst b) ++ leBytes 1 pt ++ leBytes 1 fl ++ leBytes 2 port ++
          (b.drop 14).take 10 ++ leBytes 4 m.off ++ (b.drop 28).take 4 ++ addrField dst ++
          (match m.src with
            | some a => addrField a
            | none => bSrc b))
    | _, _, _ => .inl 0xFFFF

/-- Whether this unit is a standby, which refuses changes of mirrored objects (Table 2.3, R412). -/
def State.isStandby (s : State) : Bool :=
  let st := s.getF F.ROLE_STATUS_STATE
  st == 2 || st == 3

/-- A receive block written into a bank. -/
def State.putRxBlk (s : State) (bank e : Nat) (b : List Byte) : State :=
  { s with str := { s.str with rxBlk := KV.set s.str.rxBlk (bank * 512 + e) b
                               rxBad := without s.str.rxBad (bank * 512 + e) } }

/-- Whether an entry's block may be written (R65, R68, R233). -/
def State.rxFrozen (s : State) (bank e : Nat) : Bool :=
  if bank = s.rxBank then s.rxOn bank e else s.str.rxSwap.isSome

/-- SDP_IMPORT (R254). -/
def opSdpImport (q : Req) (s : State) : OpOut :=
  if q.params.length < 8 then badLen
  else
    let (sub, u, el) := objParts q.obj
    if sub ≠ 4 || u ≠ 0 then .bad 16
    else match entryOf s.rxBank el with
      | none => .bad 16
      | some (bank, e) =>
        let fl := q.field 4 2
        if fl ≥ 128 then .bad 20
        else if q.field 6 2 ≠ 0 then .bad (q.firstSet 6 2)
        else if s.rxFrozen bank e then .err stBAD_STATE
        else
          let t := q.params.drop 8
          let skip := if bitOf fl 0 then sapSkip t else 0
          match s.sdpBlock (s.rxBlkAt bank e) (fl / 2) (t.drop skip) with
          | .inl o => .bad (if o = 0xFFFF then o else 24 + skip + o)
          | .inr b =>
            match rxFault b with
            | some _ => .bad 0xFFFF
            | none => .done (s.putRxBlk bank e b) b (some q.obj)

/-! ## The peer directory (R252 to R254) -/

/-- Descriptors held in all. -/
def State.descCount (s : State) : Nat := s.str.peers.foldl (fun a q => a + q.2.descs.length) 0

/-- A peer of the directory replaced. -/
def State.putPeer (s : State) (dev : Nat) (x : Peer) : State := { s with str := { s.str with peers := KV.set s.str.peers dev x } }

/-- A peer found, or added with PEER_NEW. -/
def State.touchPeer (s : State) (dev : Nat) : State :=
  if (KV.find s.str.peers dev).isSome then s
  else (s.putPeer dev {}).fire Ev.PEER_NEW noUnit dev

/-- Multicast address and port a description names. -/
def State.sdpDest (s : State) (t : List Byte) : Option (List Byte × Nat) :=
  match s.sdpLines {} ((firstAudio (textLines t)).filter (fun q =>
      (afterPrefix (asc "c=") q.2).isSome || (afterPrefix (asc "m=") q.2).isSome)) with
  | .inr m => match m.dst, m.port with
    | some d, some (p, _) => some (d, p)
    | _, _ => none
  | .inl _ => none

/-- MCAST_DUP for a descriptor of another peer (Table 11.7). -/
def State.checkDup (s : State) (dev : Nat) (t : List Byte) : State :=
  match s.sdpDest t with
  | none => s
  | some (d, p) => s.str.tx.foldl (fun s q =>
      let b := s.txB q.1
      if ipOf (bDst b) (txV6 b) == d && bPort b == p && dev != s.getF F.TXT_DEV_ID then
        s.fire Ev.MCAST_DUP (txObj q.1) (q.1 + 65536 * dev)
      else s) s

/-- A descriptor filed under a peer; answers whether it was stored. -/
def State.fileDesc (s : State) (dev idx : Nat) (t : List Byte) : Bool × State :=
  let x := KV.get {} s.str.peers dev
  if (KV.find x.descs idx).isNone && s.descCount ≥ 32768 then (false, s.fire Ev.DIR_FULL noUnit (dev + 65536))
  else (true, (s.putPeer dev { x with descs := KV.set x.descs idx t }).checkDup dev t)

/-- The descriptors of an announcement datagram (R274). -/
def State.fileDescs (s : State) (dev : Nat) : Nat → List Byte → State
  | 0, _ => s
  | n + 1, l =>
    let len := leAt l 2 2
    if l.length < 4 + len then s
    else
      let s := (s.fileDesc dev (leAt l 0 2) ((l.drop 4).take len)).2
      State.fileDescs s dev n (l.drop (4 + (len + 3) / 4 * 4))

/-- ANNOUNCEMENT_RX (R252, Table 11.5): a datagram on the announcement group and port. -/
def announcementRx (port : Nat) (d : List Byte) (s : State) : State :=
  if d.length < 44 || leAt d 0 4 ≠ 0x4E414B43 || leAt d 4 1 ≠ 1 || !s.on (F.MAC_CTL_EN port) then s
  else
    let mac := beAt d 16 6
    if (List.range 4).any (fun p => s.portMac p == mac) || s.pair.pMacs.contains mac then s
    else
      let dev := leAt d 8 2
      let s := if dev = s.getF F.TXT_DEV_ID && s.getF F.TXT_DEV_ID ≠ 0 then
          (s.incSat F.TXT_CONFLICTS).fire Ev.ANNOUNCE_CONFLICT noUnit dev
        else s
      let s := s.touchPeer dev
      let x := KV.get {} s.str.peers dev
      let s := s.putPeer dev { x with mac := (d.drop 16).take 6, ip4 := (d.drop 24).take 4, ip6 := (d.drop 28).take 16
                                      imported := false, sec := s.now.sec % 2 ^ 32, interval := leAt d 12 4 }
      s.fileDescs dev (leAt d 6 2) (d.drop 44)

/-- PEER_AGE_OUT (R252): an announced peer is lost; an imported one never ages. -/
def peerAgeOut (dev : Nat) (s : State) : State :=
  match KV.find s.str.peers dev with
  | none => s
  | some x => if x.imported then s
    else ({ s with str := { s.str with peers := KV.erase s.str.peers dev } }).fire Ev.PEER_LOST noUnit dev

/-- A directory entry (Table 10.6). -/
def Peer.bytes (x : Peer) (dev : Nat) : List Byte :=
  let z4 := x.ip4.all (· == 0#8)
  let z6 := x.ip6.all (· == 0#8)
  leBytes 2 dev ++ leBytes 2 (b2n (!z4) + 2 * b2n (!z6) + 4 * b2n x.imported) ++
  (x.mac ++ List.replicate (6 - x.mac.length) 0#8) ++ leBytes 2 x.descs.length ++
  (x.ip4 ++ List.replicate (4 - x.ip4.length) 0#8) ++ addrField x.ip6 ++
  leBytes 4 x.sec ++ leBytes 4 (if x.imported then 0 else x.interval) ++ leBytes 8 0

/-- DIR_READ (R253). -/
def opDirRead (q : Req) (s : State) : OpOut :=
  if q.params.length ≠ 8 then badLen
  else
    let n := q.field 2 2
    if n < 1 || n > 84 then .bad 18
    else if q.field 4 4 ≠ 0 then .bad (q.firstSet 4 4)
    else
      let l := (s.str.peers.filter (fun p => decide (q.field 0 2 ≤ p.1))).take n
      .done s (leBytes 2 ((l.head?.map (·.1)).getD 0) ++ leBytes 2 l.length ++ l.flatMap (fun p => p.2.bytes p.1)) none

/-- DIR_STREAM (R253). -/
def opDirStream (q : Req) (s : State) : OpOut :=
  if q.params.length ≠ 8 then badLen
  else if q.field 4 4 ≠ 0 then .bad (q.firstSet 4 4)
  else match (KV.find s.str.peers (q.field 0 2)).bind (fun x => KV.find x.descs (q.field 2 2)) with
    | some t => .done s t none
    | none => .fail stNOT_FOUND (if (KV.find s.str.peers (q.field 0 2)).isNone then 16 else 18) 0

/-- DIR_IMPORT (R254): a description filed by the host; its peer never ages. -/
def opDirImport (q : Req) (s : State) : OpOut :=
  if q.params.length < 8 then badLen
  else
    let fl := q.field 4 2
    if fl ≥ 128 then .bad 20
    else if q.field 6 2 ≠ 0 then .bad (q.firstSet 6 2)
    else
      let dev := q.field 0 2
      let t := q.params.drop 8
      let t := if bitOf fl 0 then t.drop (sapSkip t) else t
      let new := (KV.find s.str.peers dev).isNone
      let s := s.touchPeer dev
      let x := KV.get {} s.str.peers dev
      let s := s.putPeer dev { x with imported := x.imported || new, sec := s.now.sec % 2 ^ 32 }
      let (ok, s) := s.fileDesc dev (q.field 2 2) t
      if ok then .done s [] none else .failWith s stNO_RESOURCE 0xFFFF 0

/-! ## Announcements (R274) -/

/-- The descriptor of an entry in a datagram. -/
def State.annDesc (s : State) (e : Nat) : List Byte :=
  let t := s.sdpText e (s.txB e)
  leBytes 2 e ++ leBytes 2 t.length ++ t ++ List.replicate ((4 - t.length % 4) % 4) 0#8

/-- Descriptors gathered into datagrams of at most 1,400 bytes. -/
def packDescs : List (List Byte) → List (List Byte) → List (List (List Byte))
  | cur, [] => [cur]
  | cur, d :: l =>
    if 44 + (cur.flatten.length + d.length) ≤ 1400 || cur.isEmpty then packDescs (cur ++ [d]) l
    else cur :: packDescs [d] l

/-- INTERVAL in milliseconds. -/
def State.annMs (s : State) : Nat := [250, 1000, 5000, 30000].getD (s.getF F.TXT_ANN_INTERVAL) 1000

/-- One datagram of a round (Table 11.5). -/
def State.annDatagram (s : State) (p : Nat) (last : Bool) (l : List (List Byte)) : List Byte :=
  leBytes 4 0x4E414B43 ++ leBytes 1 1 ++ leBytes 1 (b2n last) ++ leBytes 2 l.length ++ leBytes 2 (s.getF F.TXT_DEV_ID) ++
  leBytes 2 s.str.round ++ leBytes 4 s.annMs ++ beBytes 6 (s.portMac p) ++ leBytes 2 0 ++ s.ownIp p false ++
  s.ownIp p true ++ l.flatten

/-- The announcement group's address as a port sends to it. -/
def State.annDst (s : State) (p : Nat) : List Byte :=
  let g := s.annGroup p
  if g ≥ 2 ^ 128 then beBytes 16 (g - 2 ^ 128) else beBytes 4 g

/-- ANNOUNCE_ROUND (R274). -/
def announceRound (s : State) : State :=
  if !s.on F.TXT_CTL_ANN_EN || (s.getF F.ROLE_STATUS_STATE != 0 && s.getF F.ROLE_STATUS_STATE != 4) then s
  else
    let es := (s.str.tx.filter (fun q => bitOf (bFlags (s.txB q.1)) 2)).map (·.1)
    let grams := packDescs [] (es.map s.annDesc)
    let send := fun (s : State) (p : Nat) =>
      (List.range grams.length).foldl (fun s i =>
        let pay := s.annDatagram p (i + 1 == grams.length) (grams.getD i [])
        let dst := s.annDst p
        s.offer p 2 { len := s.udpLen p (dst.length == 16) pay.length, body := .udp dst (s.getF F.TXT_ANN_UDP) pay }) s
    let s := (List.range 4).foldl (fun s p =>
      if bitOf (s.getF F.TXT_ANN_PORTS) p && s.on (F.MAC_CTL_EN p) && s.on (F.MAC_STATUS_LINK p) then send s p else s) s
    { s with str := { s.str with round := (s.str.round + 1) % 65536 } }

end Sys2Proof.Machine
end

