-- ==== Sys2Proof/Machine/Local.lean ====
section
/-!
DEFINITION. Machine/Local.lean: TDM ports, PDM microphones and host media rings (chapter 15, R345 to R368).
-/

namespace Sys2Proof.Machine

/-! ## Samples and levels (R308, R353, R354) -/

/-- A product of a sample and a coefficient of `w` fractional bits, rounded to 31 fractional bits (R308). -/
def mulQ (v c : Int) (w : Nat) : Int := (v * c + 2 ^ (w - 1)) / 2 ^ w

/-- A value saturated to Q1.31. -/
def sat31 (v : Int) : Int := satSigned 32 v

/-- A sample at a level in 0.01 dB: unchanged at 0 dB, zero when muted. -/
def atLevel (level : Int) (mute : Bool) (v : Int) : Int :=
  if mute then 0 else if level = 0 then v else sat31 (mulQ v (Config.dbCoef level) 24)

/-- A sample whose value the spec leaves open. -/
def State.freeSample (s : State) : Int × State :=
  let (n, s) := s.draw
  (signed 32 (Config.sampleValue n).toNat, s)

/-- A channel of the zero-crossing logic, and the state with it changed. -/
def State.zc (s : State) (k : Nat) : ZcCh := KV.get {} s.loc.zc k
def State.setZc (s : State) (k : Nat) (x : ZcCh) : State := { s with loc := { s.loc with zc := KV.put {} s.loc.zc k x } }

/-- Keys of channels. -/
def zcTdm (t d i : Nat) : Nat := t * 64 + d * 32 + i
def zcPdm (mic : Nat) : Nat := 1024 + mic
def zcAmp (k : Nat) : Nat := 1040 + k

/-- Whether a sample is a crossing after the one before (R353). -/
def crosses (prev v : Int) : Bool := v == 0 || (decide (prev < 0) && decide (v > 0)) || (decide (prev > 0) && decide (v < 0))

/-- The waiting changes take effect. -/
def ZcCh.apply (x : ZcCh) (level : Int) (mute : Bool) : ZcCh :=
  { x with on := if bitOf x.wait 1 then false else if bitOf x.wait 0 then true else x.on
           level := if bitOf x.wait 2 || bitOf x.wait 0 then level else x.level
           mute := if bitOf x.wait 3 || bitOf x.wait 0 then mute else x.mute, wait := 0 }

/-- One sample of a channel (R353): a crossing applies the waiting changes from that sample; within a ramp its
value is open. -/
def State.zcSample (s : State) (k : Nat) (level : Int) (mute : Bool) (v : Int) : Int × State :=
  let x := s.zc k
  let x := if x.wait != 0 && crosses x.prev v then x.apply level mute else x
  if x.ramp > 0 then
    let (r, s) := s.freeSample
    (r, s.setZc k { x with ramp := x.ramp - 1, prev := v })
  else (if x.on then atLevel x.level x.mute v else 0, s.setZc k { x with prev := v })

/-- Samples of a channel in order. -/
def State.zcSamples (s : State) (k : Nat) (level : Int) (mute : Bool) : List Int → List Int × State
  | [] => ([], s)
  | v :: l =>
    let (a, s) := s.zcSample k level mute v
    let (r, s) := State.zcSamples s k level mute l
    (a :: r, s)

/-- A change of a channel falls due (R353, R354): it waits; a stop withdraws a waiting start. -/
def State.zcDue (s : State) (k : Nat) (what : Nat) : State :=
  let x := s.zc k
  if what = 1 && bitOf x.wait 0 && !x.on then s.setZc k { x with wait := noBit x.wait 0 }
  else if what = 0 then s.setZc k { x with wait := withBit (noBit x.wait 1) 0 }
  else s.setZc k { x with wait := withBit x.wait what }

/-- The lowest waiting change of a channel: 0 start, 1 stop, 2 level, 3 mute. -/
def ZcCh.kind (x : ZcCh) : Nat := ([0, 1, 2, 3].find? (fun b => bitOf x.wait b)).getD 0

/-- A wait times out (R354): the changes are applied along a ramp of 1 ms. -/
def State.zcForce (s : State) (k : Nat) (level : Int) (mute : Bool) (hz : Nat) : State :=
  s.setZc k { (s.zc k).apply level mute with ramp := hz / 1000 }

/-! ## TDM ports (R345 to R358) -/

/-- A port's run, and the state with it changed; its object. -/
def State.tdm (s : State) (t : Nat) : TdmRun := KV.get {} s.loc.tdm t
def State.setTdm (s : State) (t : Nat) (x : TdmRun) : State := { s with loc := { s.loc with tdm := KV.put {} s.loc.tdm t x } }
def tdmObj (t : Nat) : Nat := objId 6 t 0

/-- An event of a port. -/
def State.fireTdm (s : State) (src t detail : Nat) : State := s.fire src (tdmObj t) detail

/-- Conditions of group 10 by port: the raw bit holds while any port is in the condition, and each entry fires. -/
def State.tdmMult (s : State) (t : Nat) : Nat := 2 ^ s.getF (F.TDM_CTL_RATE t)

/-- A port's frame rate in Hz. -/
def State.tdmHz (s : State) (t : Nat) : Nat := s.baseHz * s.tdmMult t

/-- BCLK periods of a frame. -/
def State.tdmFrameBits (s : State) (t : Nat) : Nat :=
  (s.getF (F.TDM_CTL_SLOTS t) + 1) * [16, 24, 32].getD (s.getF (F.TDM_CTL_SLOT_W t)) 32

/-- Expected BCLK in kHz. -/
def State.tdmBclk (s : State) (t : Nat) : Nat := s.tdmFrameBits t * s.tdmHz t / 1000

/-- The frame period in nanoseconds, times the frame rate. -/
def State.tdmFrameNs (s : State) (t : Nat) : Int := (1000000000 / s.tdmHz t : Nat)

/-- The slot mask of a direction (0 input, 1 output) in a bank. -/
def State.tdmMask (s : State) (t d bank : Nat) : Nat :=
  let p := fun (lo hi : Nat → Fld) => s.pair32 (lo t) (hi t)
  if d = 0 then (if bank = 0 then p F.TDM_RX_MASK_A_LO F.TDM_RX_MASK_A_HI else p F.TDM_RX_MASK_B_LO F.TDM_RX_MASK_B_HI)
  else (if bank = 0 then p F.TDM_TX_MASK_A_LO F.TDM_TX_MASK_A_HI else p F.TDM_TX_MASK_B_LO F.TDM_TX_MASK_B_HI)

/-- The active slots of a mask in slot order (R351). -/
def slotsOf (mask : Nat) : List Nat := (List.range 32).filter (bitOf mask)

/-- A direction's active slots now. -/
def State.tdmSlots (s : State) (t d : Nat) : List Nat := slotsOf (s.tdmMask t d (s.getF (F.TDM_CTL_ACT_BANK t)))

/-- Active channels as reported. -/
def State.refreshTdmCh (s : State) (t : Nat) : State :=
  (s.setF (F.TDM_STATUS_RX_CH t) (s.tdmSlots t 0).length).setF (F.TDM_STATUS_TX_CH t) (s.tdmSlots t 1).length

/-- A port's whole configuration, judged when EN is set (R346, Table 15.2). -/
def State.tdmConfigOk (s : State) (t : Nat) : Bool :=
  let slots := s.getF (F.TDM_CTL_SLOTS t) + 1
  let fmt := s.getF (F.TDM_CTL_FORMAT t)
  let w := s.getF (F.TDM_FMT_FS_WIDTH t)
  let dl := s.getF (F.TDM_FMT_FS_DELAY t)
  let pol := s.getF (F.TDM_FMT_FS_POL t)
  fmt != 3 && s.getF (F.TDM_CTL_SLOT_W t) != 3 && s.getF (F.TDM_CTL_RATE t) != 3 && w != 3 &&
  decide (slots ≤ 32 / s.tdmMult t) &&
  [0, 1].all (fun d => [0, 1].all (fun b => decide (s.tdmMask t d b < 2 ^ slots))) &&
  (fmt != 0 || (slots == 2 && w == 2 && dl == 1 && pol == 1)) &&
  (fmt != 1 || (slots == 2 && w == 2 && dl == 0 && pol == 0)) &&
  !(s.on (F.TDM_FMT_BUSSED t) && s.on (F.TDM_CTL_MASTER t))

/-- Whether the media PLL is locked. -/
def State.pllOk (s : State) : Bool := s.on F.LOOP_STATUS_PLL_LOCK

/-- Whether the role logic grants a bussed port its bus (R355, R419): from the time of the last move on, as that move
left it. -/
def State.busWanted (s : State) (t : Nat) : Bool :=
  s.on (F.TDM_FMT_BUSSED t) && s.on (F.TDM_CTL_EN t) && (s.pair.bus == decide (s.pair.busFrom ≤ s.now.units))

/-- The raw bits of group 10 follow the ports. -/
def State.refreshTdmRaw (s : State) : State :=
  let any := fun (f : Nat → Bool) => (List.range 16).any f
  let lost := fun t => s.getF (F.TDM_CLK_LOSSES t) != 0 && !s.on (F.TDM_STATUS_CLK_OK t)
  let s := s.setRaw Ev.TDM_CLK_LOST (any lost)
  s.setRaw Ev.TDM_MUTE (any (fun t => (s.on (F.TDM_CTL_EN t) && lost t) || s.inSafe 6 t))

/-- Every channel of a port begins a wait. -/
def State.tdmAll (s : State) (t what : Nat) : State :=
  [0, 1].foldl (fun s d => (List.range 32).foldl (fun s i => s.zcDue (zcTdm t d i) what) s) s

/-- A port's clock is lost (R347, R350); `cause` is the detail word. -/
def State.tdmLoss (s : State) (t cause : Nat) : State :=
  if !s.on (F.TDM_STATUS_CLK_OK t) && (s.tdm t).lost > 0 then s
  else
    let s := s.setF (F.TDM_STATUS_CLK_OK t) 0
    let s := s.setTdm t { s.tdm t with good := 0, lost := 1, cur := [], out := [] }
    let s := (s.incSat (F.TDM_CLK_LOSSES t)).fireTdm Ev.TDM_CLK_LOST t cause
    let s := if bitOf cause 3 then (s.setRaw Ev.TDM_BCLK_RANGE true).fireTdm Ev.TDM_BCLK_RANGE t (s.getF (F.TDM_BCLK_MEAS t)) else s
    let s := if s.on (F.TDM_CTL_EN t) && !s.inSafe 6 t then s.fireTdm Ev.TDM_MUTE t 0 else s
    s.refreshTdmRaw

/-- TDM_CLOCK_LOST (R350): a slave's clock. -/
def tdmClockLost (t cause : Nat) (s : State) : State :=
  if s.on (F.TDM_CTL_MASTER t) then s else s.tdmLoss t (cause / 2 * 2)

/-- A port's clock returns. -/
def State.tdmBack (s : State) (t : Nat) : State :=
  let n := (s.tdm t).lost - 1
  let s := (s.setF (F.TDM_STATUS_CLK_OK t) 1).setTdm t { s.tdm t with lost := 0 }
  (s.fireTdm Ev.TDM_CLK_BACK t (satNat 32 n)).refreshTdmRaw

/-- Media PLL unlock and lock at the master ports (R347). -/
def State.tdmPllLost (s : State) : State :=
  (List.range 16).foldl (fun s t =>
    if s.on (F.TDM_CTL_EN t) && s.on (F.TDM_CTL_MASTER t) then
      (s.tdmLoss t 1).setTdm t { (s.tdmLoss t 1).tdm t with startTick := none }
    else s) s
def State.tdmPllBack (s : State) : State :=
  (List.range 16).foldl (fun s t =>
    if s.on (F.TDM_CTL_EN t) && s.on (F.TDM_CTL_MASTER t) then
      s.setTdm t { s.tdm t with startTick := some (s.secondAfter 1000000 * s.tps) }
    else s) s

/-- EN of a port becomes 1 (R347, R353): a master's frames start at least two ticks later, or at `at_`. -/
def State.tdmEnable (s : State) (t : Nat) (at_ : Option Nat) : State :=
  let master := s.on (F.TDM_CTL_MASTER t)
  let x := s.tdm t
  let start := if master then some (at_.getD (s.ticksAhead 2)) else at_
  let s := s.setTdm t { lost := if master then (if s.pllOk then 0 else 1) else x.lost, good := x.good, startTick := start, first := true }
  let s := (s.setF (F.TDM_FRAME_CNT t) 0).setF (F.TDM_STATUS_BUS_DRIVING t) 0
  let s := if master then (s.setF (F.TDM_STATUS_CLK_OK t) (b2n s.pllOk)).setF (F.TDM_PHASE t) 0 else s
  let s := [0, 1].foldl (fun s d => (List.range 32).foldl (fun s i => s.setZc (zcTdm t d i) { wait := 1 }) s) s
  (s.refreshTdmCh t).refreshTdmRaw

/-- EN of a port becomes 0 (R345, R352, R353): a pending swap is discarded and every channel stops. -/
def State.tdmStop (s : State) (t : Nat) : State :=
  let ran := s.on (F.TDM_STATUS_RUNNING t)
  let s := ((s.setF (F.TDM_STATUS_RUNNING t) 0).setF (F.TDM_CTL_SWAP t) 0).setF (F.TDM_STATUS_BUS_DRIVING t) 0
  let s := s.setTdm t { good := (s.tdm t).good, lost := (s.tdm t).lost }
  let s := s.tdmAll t 1
  let s := if ran then s.fireTdm Ev.TDM_STOP t (s.getF (F.TDM_FRAME_CNT t)) else s
  s.refreshTdmRaw

/-- A swap takes effect at a frame sync (R352). -/
def State.tdmSwapNow (s : State) (t : Nat) (o : Origin) (event : Bool) : State :=
  let old := s.getF (F.TDM_CTL_ACT_BANK t)
  let n := s.getF (F.TDM_FRAME_CNT t)
  let s := ((s.setF (F.TDM_CTL_ACT_BANK t) (1 - old)).setF (F.TDM_CTL_SWAP t) 0).setF (F.TDM_SWAP_FRAME t) n
  let s := if event then s.fireTdm Ev.BANK_SWAPPED t n else s
  (s.modified.logE o.code o.id kSTATE false (tdmObj t) old (1 - old)).refreshTdmCh t

/-- Whether now lies within the last 2 BCLK periods before a frame sync (R352). -/
def State.tdmLate (s : State) (t : Nat) : Bool :=
  let fp : Int := (s.rate / s.tdmHz t : Nat)
  let phi := s.getI (F.TDM_PHASE t) * s.rate / 1000000000
  let pos := ((s.time.cyc : Int) - phi) % fp
  decide ((fp - pos) * s.tdmFrameBits t ≤ 2 * fp)

/-- A swap is requested (R352, R68). -/
def State.tdmSwapReq (s : State) (t : Nat) (o : Origin) : State :=
  if !s.on (F.TDM_CTL_EN t) then s.tdmSwapNow t o false
  else
    let late := s.tdmLate t
    let s := (s.setF (F.TDM_CTL_SWAP t) 1).setTdm t { s.tdm t with swap := some o, skip := late }
    if late then s.fireTdm Ev.TDM_LATE_SWAP t (s.getF (F.TDM_FRAME_CNT t)) else s

/-- A slave's clock judged at a sync (R350): a bad frame is counted; sixteen good frames in a row bring a lost clock
back with its phase measured. -/
def State.tdmJudge (s : State) (t : Nat) (f : TdmFrame) : State :=
  if s.on (F.TDM_CTL_MASTER t) then s
  else
    let s := s.setSat (F.TDM_BCLK_MEAS t) f.khz
    let exp := s.tdmBclk t
    let inRange := decide (((f.khz : Int) - exp).natAbs * 100 ≤ exp)
    let bad := f.bclks ≠ s.tdmFrameBits t
    let s := if bad then (s.incSat (F.TDM_FS_ERRS t)).fireTdm Ev.TDM_FS_ERR t f.bclks else s
    let s := if inRange then s.setRaw Ev.TDM_BCLK_RANGE false else s.tdmLoss t 8
    if s.on (F.TDM_STATUS_CLK_OK t) then s
    else
      let x := s.tdm t
      let good := if bad || !inRange then 0 else x.good + 1
      let s := s.setTdm t { x with good := good, lost := x.lost + 1 }
      if good ≥ 16 then
        let phi := f.drift % s.tdmFrameNs t
        let had := decide (x.lost > 0)
        let s := (s.setTdm t { s.tdm t with good := 0 }).setI (F.TDM_PHASE t) phi
        let s := if had then s.tdmBack t else s.setF (F.TDM_STATUS_CLK_OK t) 1
        s.fireTdm Ev.TDM_RESYNC t (unsigned 32 phi)
      else s

/-- The phase of a slave moves (R349): 0 no slip, 1 fell, 2 rose. -/
def State.tdmTrack (s : State) (t : Nat) (drift : Int) : Nat × State :=
  if s.on (F.TDM_CTL_MASTER t) then (0, s)
  else
    let fr := s.tdmFrameNs t
    let phi := s.getI (F.TDM_PHASE t) + drift
    if phi * 4 < -fr then
      (1, ((s.setI (F.TDM_PHASE t) (phi + fr)).incSat (F.TDM_SLIPS t)).fireTdm Ev.TDM_SLIP t (65536 * unsigned 16 (phi + fr)))
    else if phi * 4 ≥ 5 * fr then
      (2, ((s.setI (F.TDM_PHASE t) (phi - fr)).incSat (F.TDM_SLIPS t)).fireTdm Ev.TDM_SLIP t (1 + 65536 * unsigned 16 (phi - fr)))
    else (0, s.setI (F.TDM_PHASE t) phi)

/-- The bus grant and the read-back of a bussed port (R355). -/
def State.tdmBus (s : State) (t : Nat) (agree : Bool) : State :=
  let want := s.busWanted t
  let has := s.on (F.TDM_STATUS_BUS_DRIVING t)
  let s := s.setF (F.TDM_STATUS_BUS_DRIVING t) (b2n want)
  let s := if want && !has then s.fireTdm Ev.TDM_BUS_TAKE t (s.getF (F.TDM_FRAME_CNT t)) else s
  if !has || !want then s
  else
    let x := s.tdm t
    let x := if agree then { x with agree := x.agree + 1, differ := 0 } else { x with agree := 0, differ := x.differ + 1 }
    let s := s.setTdm t x
    if x.differ = 4 then (s.setRaw Ev.TDM_CONTENTION true).fireTdm Ev.TDM_CONTENTION t (s.getF (F.TDM_FRAME_CNT t))
    else if x.agree = 16 then s.setRaw Ev.TDM_CONTENTION false
    else s

/-- A slot's sample as it enters: its top SLOT_W bits (R346). -/
def State.slotCut (s : State) (t : Nat) (v : Int) : Int :=
  let k := 2 ^ (32 - [16, 24, 32].getD (s.getF (F.TDM_CTL_SLOT_W t)) 32)
  v / k * k

/-- The input values of a frame by slot-order index, through level and mute. -/
def State.tdmFrameIn (s : State) (t : Nat) (f : TdmFrame) : List (Nat × Int) × State :=
  let slots := s.tdmSlots t 0
  (List.range slots.length).foldl (fun (a : List (Nat × Int) × State) i =>
    let (v, s) := a.2.zcSample (zcTdm t 0 i) (a.2.getI (F.TDM_LEVEL t 0 i)) (a.2.on (F.TDM_MUTE t 0 i))
      (a.2.slotCut t (f.slots.getD (slots.getD i 0) 0))
    (a.1 ++ [(i, v)], s)) ([], s)

/-- The next output frame of a port (R348, R356): none left at the first frame of a tick counts as absent. -/
def State.tdmNextOut (s : State) (t : Nat) : List Int × State :=
  let x := s.tdm t
  match x.out with
  | v :: l => (v, s.setTdm t { x with out := l, lastOut := v })
  | [] =>
    let n := 3 * s.tdmMult t
    let s := s.setTdm t { x with out := List.replicate (n - 1) [], lastOut := [] }
    ([], (s.incSat (F.TDM_TX_UNDER t)).fireTdm Ev.TDM_TX_UNDER t (s.getF (F.TDM_FRAME_CNT t)))

/-- The slot values of an output frame, through level and mute, and their sending where the port drives its pin. -/
def State.tdmFrameOut (s : State) (t : Nat) (vals : List Int) : State :=
  let slots := s.tdmSlots t 1
  let zero := s.getF F.PWR_STATUS_STATE == 2 || s.inSafe 6 t || !s.on (F.TDM_STATUS_CLK_OK t)
  let (l, s) := (List.range slots.length).foldl (fun (a : List Int × State) i =>
    let (v, s) := a.2.zcSample (zcTdm t 1 i) (a.2.getI (F.TDM_LEVEL t 1 i)) (a.2.on (F.TDM_MUTE t 1 i)) (vals.getD i 0)
    (a.1 ++ [a.2.slotCut t (if zero then 0 else v)], s)) ([], s)
  let drive := !s.on (F.TDM_FMT_BUSSED t) || s.on (F.TDM_STATUS_BUS_DRIVING t)
  if drive && !slots.isEmpty then s.emit (.samples (0x2200 + t * 32) l) else s

/-- TDM_FRAME_SYNC (R347 to R355). -/
def tdmFrameSync (t : Nat) (f : TdmFrame) (s : State) : State :=
  let s := s.tdmJudge t f
  if !s.on (F.TDM_CTL_EN t) || !s.on (F.TDM_STATUS_CLK_OK t) then s
  else if (match (s.tdm t).startTick with
    | some k => decide (s.gridTick < k)
    | none => s.on (F.TDM_CTL_MASTER t)) then s
  else
    let first := (s.tdm t).first
    let (slip, s) := if first then (0, s) else s.tdmTrack t f.drift
    let s := if first && !s.on (F.TDM_CTL_MASTER t) then s.setI (F.TDM_PHASE t) (f.drift % s.tdmFrameNs t) else s
    let s := (s.setF (F.TDM_FRAME_CNT t) (s.getF (F.TDM_FRAME_CNT t) + 1)).setF (F.TDM_STATUS_RUNNING t) 1
    let s := if first then (s.setTdm t { s.tdm t with first := false }).fireTdm Ev.TDM_START t (s.getF (F.TDM_FRAME_CNT t)) else s
    let s := match (s.tdm t).swap with
      | some o => if (s.tdm t).skip then s.setTdm t { s.tdm t with skip := false }
        else (s.setTdm t { s.tdm t with swap := none }).tdmSwapNow t o true
      | none => s
    let s := s.tdmBus t f.agree
    let (fr, s) := s.tdmFrameIn t f
    let x := s.tdm t
    let s := s.setTdm t { x with cur := if slip = 1 then x.cur else if slip = 2 then x.cur ++ [fr, fr] else x.cur ++ [fr] }
    let s := if slip = 2 then (s.tdmNextOut t).2 else s
    let (v, s) := if slip = 1 then ((s.tdm t).lastOut, s) else s.tdmNextOut t
    s.tdmFrameOut t v

/-- The block of an input index from the frames of a tick. -/
def tdmBlk (n : Nat) (frames : List (List (Nat × Int))) (i : Nat) : Blk :=
  let vs := (List.range n).map (fun j => ((frames.getD j []).find? (fun q => q.1 == i)).map (·.2))
  { v := vs.map (fun o => o.getD 0), ok := vs.all (fun o => o.isSome) }

/-- The TDM inputs of a tick (R348, R356): the block complete one tick ago is presented, the one just received
stands in the Post. `drop` lists ports whose Post had no room. -/
def State.tdmTickIn (s : State) (drop : List Nat) : State :=
  (List.range 16).foldl (fun s t =>
    if !s.on (F.TDM_CTL_EN t) then s
    else
      let x := s.tdm t
      let n := 3 * s.tdmMult t
      let dead := s.getF F.PWR_STATUS_STATE == 2 || s.inSafe 6 t || !s.on (F.TDM_STATUS_CLK_OK t)
      let s := (List.range 32).foldl (fun s i =>
        s.setIn (0x2000 + t * 32 + i) (if dead then { v := List.replicate n 0 } else tdmBlk n x.stage i)) s
      let full := drop.contains t
      let s := s.setTdm t { x with stage := if full then [] else x.cur, cur := [] }
      if full then (s.incSat (F.TDM_RX_OVF t)).fireTdm Ev.TDM_RX_OVF t (s.getF (F.TDM_FRAME_CNT t)) else s) s

/-- The TDM outputs of a tick (R348): the frames of the tick from the blocks presented. A master whose clock
restarts does so here (R347). -/
def State.tdmTickOut (s : State) (tick : Nat) : State :=
  (List.range 16).foldl (fun s t =>
    if !s.on (F.TDM_CTL_EN t) then s
    else
      let n := 3 * s.tdmMult t
      let frame := fun j => (List.range 32).map (fun i =>
        let b := KV.get {} s.dsp.present (0x2200 + t * 32 + i)
        if b.v.length = n then b.v.getD j 0 else 0)
      let s := s.setTdm t { s.tdm t with out := (List.range n).map frame }
      if s.on (F.TDM_CTL_MASTER t) && !s.on (F.TDM_STATUS_CLK_OK t) && s.pllOk && (s.tdm t).startTick.any (· ≤ tick) then
        s.tdmBack t
      else s) s

/-- ZC_TIMEOUT (R354). -/
def zcTimeout (t d i : Nat) (s : State) : State :=
  let k := zcTdm t d i
  let x := s.zc k
  if x.wait = 0 then s
  else
    let det := i + 32 * d + 64 * x.kind
    let s := s.zcForce k (s.getI (F.TDM_LEVEL t d i)) (s.on (F.TDM_MUTE t d i)) (s.tdmHz t)
    (s.incSat (F.TDM_ZC_TIMEOUTS t)).fireTdm Ev.ZC_TIMEOUT t det

/-- A port enters its safe state (R356). -/
def State.tdmSafe (s : State) (t : Nat) : State := (s.fireTdm Ev.TDM_MUTE t 1).refreshTdmRaw

/-- The status block of a port (Table 15.1). -/
def State.tdmStatusBlock (s : State) (t : Nat) : List Byte :=
  let ok := s.getF (F.TDM_STATUS_CLK_OK t)
  let stale := b2n (s.on (F.TDM_CTL_EN t) && !s.on (F.TDM_CTL_MASTER t) && ok == 0)
  leBytes 1 (s.getF (F.TDM_STATUS_RUNNING t) + 2 * ok + 4 * stale + 8 * s.getF (F.TDM_STATUS_BUS_DRIVING t)) ++
  leBytes 1 (s.getF (F.TDM_STATUS_RX_CH t)) ++ leBytes 1 (s.getF (F.TDM_STATUS_TX_CH t)) ++ leBytes 1 0 ++
  leBytes 4 (s.getF (F.TDM_FRAME_CNT t)) ++ leBytes 4 (s.getF (F.TDM_PHASE t)) ++ leBytes 4 (s.getF (F.TDM_BCLK_MEAS t)) ++
  leBytes 4 (s.getF (F.TDM_ZC_TIMEOUTS t) + 65536 * s.getF (F.TDM_SLIPS t)) ++
  leBytes 4 (s.getF (F.TDM_CLK_LOSSES t) + 65536 * s.getF (F.TDM_FS_ERRS t)) ++
  leBytes 4 (s.getF (F.TDM_RX_OVF t) + 65536 * s.getF (F.TDM_TX_UNDER t)) ++ leBytes 4 0

/-- A level in 0.01 dB within bounds. -/
def levelIn (v : Nat) (lo hi : Int) : Bool := decide (lo ≤ signed 16 v) && decide (signed 16 v ≤ hi)

/-- Legal data of a TDM port's registers (R358). -/
def legalTdm (off v : Nat) : Bool :=
  if off = 0 then bitsOf v 3 2 != 3 && bitsOf v 10 9 != 3 && bitsOf v 12 11 != 3
  else if off = 4 then bitsOf v 1 0 != 3
  else if off = 0x30 then decide (1 ≤ v) && decide (v ≤ 200)
  else if 0x100 ≤ off && off < 0x300 && off % 8 = 0 then levelIn v (-12000) 2400
  else true

/-- A write of LEVEL or MUTE of an index falls due (R353). -/
def State.tdmChange (s : State) (t off : Nat) : State :=
  if 0x100 ≤ off && off < 0x300 then
    let d := (off - 0x100) / 0x100
    let i := off % 0x100 / 8
    s.zcDue (zcTdm t d i) (if off % 8 = 0 then 2 else 3)
  else s

/-! ## PDM lanes (R359 to R363) -/

def pdmObj (m : Nat) : Nat := objId 7 m 0

/-- An event of a lane, with its LANE source (R362). -/
def State.firePdm (s : State) (src m detail : Nat) : State :=
  (s.fire src (pdmObj m) detail).fire (Ev.LANE_M0 + m) (pdmObj m) detail

/-- A lane's output rate in Hz. -/
def State.pdmHz (s : State) (m : Nat) : Nat :=
  let r := s.getF (F.PDM_CTL_RATE m)
  if r = 0 then s.baseHz / 3 else s.baseHz * 2 ^ (r - 1)

/-- Samples of a lane's block. -/
def State.pdmBlkLen (s : State) (m : Nat) : Nat := [1, 3, 6].getD (s.getF (F.PDM_CTL_RATE m)) 3

/-- The raw bits of group 11 follow the lanes. -/
def State.refreshPdmRaw (s : State) : State :=
  let any := fun (f : Nat → Bool) => (List.range 8).any f
  let s := s.setRaw Ev.PDM_CLK_LOST (any (fun m => s.on (F.PDM_CTL_EN m) && !s.on (F.PDM_STATUS_CLK_OK m)))
  let s := s.setRaw Ev.PDM_STUCK (any (fun m => s.getF (F.PDM_STATUS_STUCK m) != 0))
  s.setRaw Ev.PDM_DC (any (fun m => s.getF (F.PDM_STATUS_DC m) != 0))

/-- A lane's clock and rate (Table 15.7), judged when EN is set. -/
def State.pdmConfigOk (s : State) (m : Nat) : Bool :=
  let r := s.getF (F.PDM_CTL_RATE m)
  r != 3 && (r == 0 || decide (2 ≤ s.getF (F.PDM_CTL_CLK m)))

/-- Whether a microphone is enabled. -/
def State.micOn (s : State) (m e : Nat) : Bool := if e = 0 then s.on (F.PDM_CTL_MIC0_EN m) else s.on (F.PDM_CTL_MIC1_EN m)

/-- EN of a lane becomes 1 (R360). -/
def State.pdmEnable (s : State) (m : Nat) (at_ : Option Nat) : State :=
  let s := s.setF (F.PDM_STATUS_CLK_OK m) (b2n s.pllOk)
  let s := { s with loc := { s.loc with pdmStart := KV.set s.loc.pdmStart m (at_.getD (s.ticksAhead 2)) } }
  let s := [0, 1].foldl (fun s e => s.setZc (zcPdm (2 * m + e)) { wait := 1 }) s
  let s := if s.pllOk then s else s.firePdm Ev.PDM_CLK_LOST m 1
  s.refreshPdmRaw

/-- EN of a lane becomes 0. -/
def State.pdmStop (s : State) (m : Nat) : State :=
  let ran := s.on (F.PDM_STATUS_RUNNING m)
  let s := ((s.setF (F.PDM_STATUS_RUNNING m) 0).setF (F.PDM_STATUS_STUCK m) 0).setF (F.PDM_STATUS_CLK_OK m) 0
  let s := { s with loc := { s.loc with pdmStart := KV.erase s.loc.pdmStart m } }
  let s := [0, 1].foldl (fun s e =>
    let s := s.zcDue (zcPdm (2 * m + e)) 1
    if ran && s.micOn m e then s.firePdm Ev.PDM_STOP m e else s) s
  s.refreshPdmRaw

/-- A lane's clock is lost: bit 0 of the detail the media PLL, bit 1 the read-back (Table 15.8). -/
def State.pdmLoss (s : State) (m cause : Nat) : State :=
  if !s.on (F.PDM_CTL_EN m) || !s.on (F.PDM_STATUS_CLK_OK m) then s
  else ((s.setF (F.PDM_STATUS_CLK_OK m) 0).firePdm Ev.PDM_CLK_LOST m cause).refreshPdmRaw

/-- A lane's clock returns. -/
def State.pdmBack (s : State) (m : Nat) : State :=
  if !s.on (F.PDM_CTL_EN m) || s.on (F.PDM_STATUS_CLK_OK m) || !s.pllOk then s
  else ((s.setF (F.PDM_STATUS_CLK_OK m) 1).firePdm Ev.PDM_CLK_BACK m 0).refreshPdmRaw

/-- Media PLL unlock at the lanes. -/
def State.pdmPllLost (s : State) : State := (List.range 8).foldl (fun s m => s.pdmLoss m 1) s

/-- PDM_STUCK and PDM_STUCK_CLEAR (R361). -/
def pdmStuck (m e : Nat) (level : Bool) (s : State) : State :=
  let v := s.getF (F.PDM_STATUS_STUCK m)
  if !s.on (F.PDM_CTL_EN m) || bitOf v e then s
  else ((s.setF (F.PDM_STATUS_STUCK m) (withBit v e)).firePdm Ev.PDM_STUCK m (e + 2 * b2n level)).refreshPdmRaw
def pdmStuckClear (m e : Nat) (s : State) : State :=
  (s.setF (F.PDM_STATUS_STUCK m) (noBit (s.getF (F.PDM_STATUS_STUCK m)) e)).refreshPdmRaw

/-- PDM_ZC_TIMEOUT (R360). -/
def pdmZcTimeout (m e : Nat) (s : State) : State :=
  let k := zcPdm (2 * m + e)
  let x := s.zc k
  if x.wait = 0 then s
  else
    let s' := s.zcForce k (s.getI (F.PDM_LEVEL m e)) (s.on (F.PDM_MUTE m e)) (s.pdmHz m)
    (s'.incSat (F.PDM_ZC_TIMEOUTS m)).firePdm Ev.PDM_ZC_TIMEOUT m (e + 64 * x.kind)

/-- One microphone's block of a tick. -/
def State.pdmMic (s : State) (m e : Nat) (inp : List (Nat × List Int)) : State :=
  let n := s.pdmBlkLen m
  let pp := 0x2400 + 2 * m + e
  let dead := !s.micOn m e || !s.on (F.PDM_STATUS_CLK_OK m) || bitOf (s.getF (F.PDM_STATUS_STUCK m)) e ||
    s.getF F.PWR_STATUS_STATE == 2 || s.inSafe 7 m
  match inp.find? (fun q => q.1 == 2 * m + e) with
  | none => s.setIn pp { v := List.replicate n 0 }
  | some (_, v) =>
    if dead then s.setIn pp { v := List.replicate n 0 }
    else
      let v := (v ++ List.replicate n 0).take n
      let loud := v.any (fun a => decide (a ≥ 2 ^ 31 - 1) || decide (a ≤ -(2 ^ 31)))
      let s := if loud then (s.incSat (F.PDM_OVERLOADS m)).firePdm Ev.PDM_OVERLOAD m e else s
      let (w, s) := s.zcSamples (zcPdm (2 * m + e)) (s.getI (F.PDM_LEVEL m e)) (s.on (F.PDM_MUTE m e)) (v.map sat31)
      s.setIn pp { v := w, ok := true }

/-- The PDM inputs of a tick (R360): a lane runs from its first tick. -/
def State.pdmTick (s : State) (tick : Nat) (inp : List (Nat × List Int)) : State :=
  (List.range 8).foldl (fun s m =>
    if !s.on (F.PDM_CTL_EN m) || !(KV.find s.loc.pdmStart m).any (· ≤ tick) then s
    else
      let s := if s.on (F.PDM_STATUS_RUNNING m) then s
        else [0, 1].foldl (fun s e => if s.micOn m e then s.firePdm Ev.PDM_START m e else s) (s.setF (F.PDM_STATUS_RUNNING m) 1)
      (s.pdmMic m 0 inp).pdmMic m 1 inp) s

/-- Means and densities at a second's end (Table 15.8, R363): DC above -20 dBFS until below -26 dBFS. -/
def State.pdmSecond (s : State) (mics : List (Int × Nat)) : State :=
  ((List.range 16).foldl (fun s i =>
    match mics[i]? with
    | none => s
    | some (dc, dens) =>
      let m := i / 2
      let e := i % 2
      let s := s.setSat (if e = 0 then F.PDM_DENS_0 m else F.PDM_DENS_1 m) dens
      let v := s.getF (F.PDM_STATUS_DC m)
      if dc > -2000 && !bitOf v e then
        (s.setF (F.PDM_STATUS_DC m) (withBit v e)).firePdm Ev.PDM_DC m (e + 65536 * unsigned 16 (satSigned 16 dc))
      else if dc < -2600 then s.setF (F.PDM_STATUS_DC m) (noBit v e)
      else s) s).refreshPdmRaw

/-- Legal data of a lane's registers (R363). -/
def legalPdm (off v : Nat) : Bool :=
  if off = 0 then bitsOf v 4 3 != 3
  else if off = 4 then decide (v ≤ 100)
  else if off = 8 then decide (1 ≤ v) && decide (v ≤ 200)
  else if off = 0x10 || off = 0x20 then levelIn v (-12000) 2400
  else if off = 0x18 || off = 0x28 then levelIn v (-1200) 1200
  else true

/-- A write of LEVEL or MUTE of a microphone falls due. -/
def State.pdmChange (s : State) (m off : Nat) : State :=
  if off = 0x10 || off = 0x20 then s.zcDue (zcPdm (2 * m + (off - 0x10) / 16)) 2
  else if off = 0x14 || off = 0x24 then s.zcDue (zcPdm (2 * m + (off - 0x10) / 16)) 3
  else s

/-! ## Host media rings (R364 to R368) -/

/-- Patch points of a ring: first and number; units of channels. -/
def State.ringFirst (s : State) (r : Nat) : Nat := s.getF (F.RING_FIRST_PP r)
def State.ringCh (s : State) (r : Nat) : Nat := s.getF (F.RING_CHANNELS r)
def State.ringMult (s : State) (r : Nat) : Nat := 2 ^ s.getF (F.RING_CFG_RATE r)
def State.ringUnits (s : State) (r : Nat) : Nat := s.ringCh r * s.ringMult r

/-- Whether setting a ring's EN is legal (R364); the ring's own fields are as they will be. -/
def State.ringConfigOk (s : State) (r : Nat) : Bool :=
  let dir := s.getF (F.RING_CFG_DIR r)
  let a := s.ringFirst r
  let n := s.ringCh r
  let lo := if dir = 0 then 0x3000 else 0x4000
  let others := (List.range 32).filter (fun q => q != r && s.on (F.RING_CFG_EN q))
  let units := others.foldl (fun u q => u + (if s.getF (F.RING_CFG_DIR q) = dir then s.ringUnits q else 0)) (s.ringUnits r)
  decide (lo ≤ a) && decide (a + n ≤ lo + 0x1000) &&
  others.all (fun q => decide (s.ringFirst q + s.ringCh q ≤ a) || decide (a + n ≤ s.ringFirst q)) &&
  decide (units ≤ 4096)

/-- Rings running (R368). -/
def State.refreshRings (s : State) : State :=
  s.setF F.HRING_CTL_RUNNING ((List.range 32).filter (fun r => s.getF (F.RING_STATE r) == 2)).length

/-- A ring starts, or starts again: CONS 0, slot 0 serving the first boundary at least 4 ticks later (R367). -/
def State.ringStart (s : State) (r : Nat) : State :=
  let t := s.ticksAhead 4
  let at_ := Tai.ofUnits (s.tickUnits t)
  let s := { s with loc := { s.loc with rings := KV.set s.loc.rings r { start := t } } }
  let s := ((s.setF (F.RING_CONS r) 0).setF (F.RING_STATE r) 1).setF (F.RING_START_NS r) at_.ns
  (s.set64 (F.RING_START_SEC_LO r) (F.RING_START_SEC_HI r) at_.sec).refreshRings

/-- EN of a ring becomes 1: its counters are clear (R367, R368). -/
def State.ringEnable (s : State) (r : Nat) : State :=
  ((s.setF (F.RING_UNDERRUN r) 0).setF (F.RING_DMA_ERR r) 0).ringStart r

/-- A ring stops. -/
def State.ringStop (s : State) (r : Nat) (state : Nat) : State :=
  ({ s with loc := { s.loc with rings := KV.erase s.loc.rings r } }.setF (F.RING_STATE r) state).refreshRings

/-- Whether the slot of index `n` is available (R366). -/
def State.ringAvail (s : State) (r n : Nat) : Bool :=
  decide (signed 16 (unsigned 16 ((s.getF (F.RING_PROD r) : Int) - n)) ≥ 1)

/-- Stride of a ring's slots (R365). -/
def State.ringStride (s : State) (r : Nat) : Nat :=
  let h := if s.getF (F.RING_CFG_DIR r) = 0 then 0 else 128
  (h + s.ringCh r * 3 * s.ringMult r * 4 + 63) / 64 * 64

/-- Address of the slot of index `n`. -/
def State.ringSlot (s : State) (r n : Nat) : Nat :=
  s.ringBase (F.RING_BASE r) + n % 2 ^ s.getF (F.RING_CFG_SIZE r) * s.ringStride r

/-- A host-to-device slot enters processing (R366). -/
def State.ringIn (s : State) (r : Nat) (ok : Bool) (inp : List (Nat × List Int)) : State :=
  let n := 3 * s.ringMult r
  let ch := s.ringCh r
  let silent := fun (s : State) => (List.range ch).foldl (fun s c => s.setIn (s.ringFirst r + c) { v := List.replicate n 0 }) s
  if !ok then (silent s).incSat (F.RING_UNDERRUN r)
  else match (if s.on F.HST_STATUS_LINK_UP then inp.find? (fun q => q.1 == r) else none) with
    | none => ((silent s).incSat (F.RING_UNDERRUN r)).incSat (F.RING_DMA_ERR r)
    | some (_, w) => (List.range ch).foldl (fun s c =>
        s.setIn (s.ringFirst r + c) { v := (List.range n).map (fun j => w.getD (j * ch + c) 0), ok := true }) s

/-- A device-to-host slot is written (R365, R366). -/
def State.ringOut (s : State) (r tick n : Nat) (ok : Bool) : State :=
  if !ok then s.incSat (F.RING_UNDERRUN r)
  else if !s.on F.HST_STATUS_LINK_UP then (s.incSat (F.RING_UNDERRUN r)).incSat (F.RING_DMA_ERR r)
  else
    let m := 3 * s.ringMult r
    let ch := s.ringCh r
    let blk := fun c =>
      let b := KV.get {} s.dsp.present (s.ringFirst r + c)
      if b.v.length = m then b else { v := List.replicate m 0 }
    let flags := (List.range ch).foldl (fun a c => if (blk c).ok then a + 2 ^ c else a) 0
    let all := (List.range ch).all (fun c => (blk c).ok)
    let t := Tai.ofUnits (s.tickUnits tick)
    s.emit (.hostWrite (s.ringSlot r n) ([t.sec, t.ns, n % 65536, b2n all, flags] ++
      (List.range m).flatMap (fun j => (List.range ch).map (fun c => unsigned 32 ((blk c).v.getD j 0)))))

/-- One ring at tick `tick` (R366): the slot judged two ticks ago is served, CONS advances, and the slot due in two
ticks is judged. -/
def State.ringTick (s : State) (tick : Nat) (inp : List (Nat × List Int)) (out : Bool) (r : Nat) : State :=
  match KV.find s.loc.rings r with
  | none => s
  | some x =>
    if (s.getF (F.RING_CFG_DIR r) == 1) != out || s.getF F.PWR_STATUS_STATE == 2 then s
    else
      let s := if tick ≥ x.start then
          let n := tick - x.start
          let ok := x.avail.headD false
          let s := if s.getF (F.RING_STATE r) = 1 then (s.setF (F.RING_STATE r) 2).refreshRings else s
          let s := if out then s.ringOut r tick n ok else s.ringIn r ok inp
          let s := s.setF (F.RING_CONS r) (n + 1)
          if s.on (F.RING_MSI r) && (n + 1) % 2 ^ s.getF (F.RING_CFG_IRQ_DIV r) = 0 then
            s.msixRequest (s.getF (F.RING_CFG_VEC r))
          else s
        else s
      let av := if tick ≥ x.start then x.avail.drop 1 else x.avail
      let av := if tick + 2 ≥ x.start then av ++ [s.ringAvail r (tick + 2 - x.start)] else av
      { s with loc := { s.loc with rings := KV.set s.loc.rings r { x with avail := av } } }

/-- Every ring of a direction at a tick. -/
def State.ringsTick (s : State) (tick : Nat) (inp : List (Nat × List Int)) (out : Bool) : State :=
  (List.range 32).foldl (fun s r => s.ringTick tick inp out r) s

/-- Entry to LISTEN suspends every running ring; the return to RUN restarts it (R367). -/
def State.ringsSuspend (s : State) : State :=
  s.loc.rings.foldl (fun s q => s.ringStop q.1 4) s
def State.ringsResume (s : State) : State :=
  (List.range 32).foldl (fun s r =>
    if s.getF (F.RING_STATE r) = 4 && s.on (F.RING_CFG_EN r) then
      (s.ringStart r).logState orgPower (objId 13 0 r) 4 1
    else s) s

/-- Legal data of a ring's registers (R368). -/
def legalRingReg (off v : Nat) : Bool :=
  if off < 0x200 then true
  else
    let o := (off - 0x200) % 0x40
    if o = 0 then decide (2 ≤ bitsOf v 7 4) && decide (bitsOf v 7 4 ≤ 10) && bitsOf v 15 13 != 7
    else if o = 4 then decide (1 ≤ bitsOf v 9 0) && decide (bitsOf v 9 0 ≤ 512)
    else true

end Sys2Proof.Machine
end

