-- ==== Sys2Proof/Machine/Nodes.lean ====
section
/-!
DEFINITION. Machine/Nodes.lean: graph images and the primitives (chapter 13, R307 to R317): rates of patch points,
node records and their checks, live fields, and what each primitive does to a block.
-/

namespace Sys2Proof.Machine

/-! ## Rates of patch points (R307) -/

/-- The rate multiple a rate code is charged and stored at (R314); one third counts as 1. -/
def codeM (r : Nat) : Nat := [1, 1, 2, 4, 8].getD r 1

/-- Samples of a block at a rate code. -/
def codeLen (r : Nat) : Nat := [1, 3, 6, 12, 24].getD r 3

/-- Sample rate of a code in the device's family. -/
def State.codeHz (s : State) (r : Nat) : Nat := if r = 0 then s.baseHz / 3 else s.baseHz * 2 ^ (r - 1)

/-- Whether a run of patch points from `a` holds `p`. -/
def inRun (a n p : Nat) : Bool := decide (a ≤ p) && decide (p < a + n)

/-- The running receive entry that delivers a patch point, and the running transmit entry that reads one. -/
def State.rxAtPp (s : State) (p : Nat) : Option Nat :=
  (s.str.rx.find? (fun q => inRun (bFirst (s.rxB q.1)) (bChannels (s.rxB q.1)) p)).map (·.1)
def State.txAtPp (s : State) (p : Nat) : Option Nat :=
  (s.str.tx.find? (fun q => inRun (bFirst (s.txB q.1)) (bChannels (s.txB q.1)) p)).map (·.1)

/-- The ring that holds a patch point. -/
def State.ringAtPp (s : State) (p : Nat) : Option Nat :=
  (List.range 32).find? (fun r => s.on (F.RING_CFG_EN r) && inRun (s.ringFirst r) (s.ringCh r) p)

/-- The configured rate code of a patch point outside the graphs; none where it has none. -/
def State.ppRate (s : State) (p : Nat) : Option Nat :=
  if p < 0x1000 then (s.rxAtPp p).map (fun e => bRate (s.rxB e) % 4 + 1)
  else if p < 0x2000 then (s.txAtPp p).map (fun e => bRate (s.txB e) % 4 + 1)
  else if p < 0x2400 then
    let t := p % 0x200 / 32
    if s.on (F.TDM_CTL_EN t) then some (s.getF (F.TDM_CTL_RATE t) + 1) else none
  else if p < 0x2410 then
    if s.on (F.PDM_CTL_EN ((p - 0x2400) / 2)) then some (s.getF (F.PDM_CTL_RATE ((p - 0x2400) / 2))) else none
  else if 0x2500 ≤ p && p ≤ 0x2507 then
    if s.on (F.AMP_CTL_EN (p - 0x2500)) then some (s.getF (F.AMP_CTL_RATE (p - 0x2500)) + 1) else none
  else if 0x3000 ≤ p && p < 0x5000 then (s.ringAtPp p).map (fun r => s.getF (F.RING_CFG_RATE r) + 1)
  else none

/-! ## Node records (R311, Table 13.2) -/

/-- A node record as written: type, flags, length in words, channels, output, references, rate, reserved byte, the
references themselves, the parameters. -/
structure Node where
  ty : Nat := 0
  flags : Nat := 0
  len : Nat := 0
  ch : Nat := 0
  outPp : Nat := 0
  nIn : Nat := 0
  rate : Nat := 0
  rsv : Nat := 0
  refs : List Nat := []
  par : List Byte := []
  deriving DecidableEq, Repr

/-- Types (Table 13.3). -/
def tyGAIN : Nat := 1
def tyMIX : Nat := 2
def tyDELAY : Nat := 3
def tyBIQUAD : Nat := 4
def tyFIR : Nat := 5
def tyASRC : Nat := 6
def tyLIMIT : Nat := 7
def tyMETER : Nat := 8
def tyROUTE : Nat := 9
def tyTONE : Nat := 10
def tyPILOT : Nat := 11

/-- The record at an offset of an image. -/
def nodeAt (img : List Byte) (off : Nat) : Node :=
  let r := img.drop off
  let n := leAt r 8 2
  let len := leAt r 2 2
  { ty := leAt r 0 1, flags := leAt r 1 1, len := len, ch := leAt r 4 2, outPp := leAt r 6 2, nIn := n,
    rate := leAt r 10 1, rsv := leAt r 11 1, refs := (List.range n).map (fun i => leAt r (12 + 4 * i) 4)
    par := (r.take (4 * len)).drop (12 + 4 * n) }

/-- `n` records from an offset on, each with its offset. -/
def nodesFrom (img : List Byte) : Nat → Nat → List (Nat × Node)
  | 0, _ => []
  | n + 1, off => (off, nodeAt img off) :: nodesFrom img n (off + 4 * (nodeAt img off).len)

/-- Header fields (Table 13.1). -/
def gMagic (img : List Byte) : Nat := leAt img 0 4
def gKind (img : List Byte) : Nat := leAt img 4 1
def gCc (img : List Byte) : Nat := leAt img 5 1
def gNodes (img : List Byte) : Nat := leAt img 6 2
def gLen (img : List Byte) : Nat := leAt img 8 4

/-- The nodes of an image. -/
def imgNodes (img : List Byte) : List (Nat × Node) := nodesFrom img (gNodes img) 16
def imgNodeList (img : List Byte) : List Node := (imgNodes img).map (·.2)

/-- Whether the single reference names consecutive sources. -/
def Node.range (d : Node) : Bool := d.flags == 1

/-- The source references a node reads, in order. -/
def Node.srcs (d : Node) : List Nat := if d.range then (List.range d.ch).map (d.refs.headD 0 + ·) else d.refs

/-- The rate of a node's inputs: IN_RATE for ASRC. -/
def Node.inRate (d : Node) : Nat := if d.ty = tyASRC then leAt d.par 0 1 else d.rate

/-- Parameter helpers: a level in 0.01 dB, and whether it mutes. -/
def parI16 (l : List Byte) (o : Nat) : Int := signed 16 (leAt l o 2)
def parI32 (l : List Byte) (o : Nat) : Int := signed 32 (leAt l o 4)
def muteLevel : Int := -32768

/-- MIX: crosspoints of bus `b`, offset of the crosspoints, number of crosspoints of the first `b` buses. -/
def Node.mixCount (d : Node) (b : Nat) : Nat := leAt d.par (2 * b) 2
def Node.mixBase (d : Node) : Nat := (2 * d.ch + 3) / 4 * 4
def Node.mixBefore (d : Node) : Nat → Nat
  | 0 => 0
  | b + 1 => d.mixBefore b + d.mixCount b

/-- The crosspoints of bus `b`: source index and level. -/
def Node.mixPoints (d : Node) (b : Nat) : List (Nat × Int) :=
  (List.range (d.mixCount b)).map (fun i =>
    let o := d.mixBase + 4 * (d.mixBefore b + i)
    (leAt d.par o 2, parI16 d.par (o + 2)))

/-- Crosspoints of a node. -/
def Node.xpoints (d : Node) : Nat := if d.ty = tyMIX then d.mixBefore d.ch else 0

/-- BIQUAD sections, FIR taps, DELAY maximum. -/
def Node.sections (d : Node) : Nat := leAt d.par 0 1
def Node.taps (d : Node) : Nat := leAt d.par 0 2
def Node.maxDelay (d : Node) : Nat := leAt d.par 0 4

/-- Bytes the parameters of a type take (Table 13.4). -/
def Node.parLen (d : Node) : Nat :=
  if d.ty = tyGAIN then 4 * d.ch
  else if d.ty = tyMIX then d.mixBase + 4 * d.mixBefore d.ch
  else if d.ty = tyDELAY then 4 + 4 * d.ch
  else if d.ty = tyBIQUAD then 4 + 20 * d.sections * d.ch
  else if d.ty = tyFIR then 4 + 4 * d.taps
  else if d.ty = tyASRC then 4
  else if d.ty = tyLIMIT then 8
  else if d.ty = tyMETER then 4
  else if d.ty = tyTONE then 8 * d.ch
  else 0

/-! ## Values of live fields (Table 13.4) -/

/-- Whether a 16-bit value is a legal LEVEL of GAIN and MIX. -/
def levelLegal (v : Nat) : Bool := levelIn v (-12000) 2400 || v == 0x8000

/-- The width of the live field of a node that starts at parameter offset `o`, if one does (R315). A test
generator's WAVE is written with its reserved byte. -/
def Node.liveAt (d : Node) (o : Nat) : Option Nat :=
  if d.ty = tyGAIN then (if o < 4 * d.ch && o % 2 == 0 then some 2 else none)
  else if d.ty = tyMIX then
    (if d.mixBase ≤ o && o < d.parLen && (o - d.mixBase) % 4 == 2 then some 2 else none)
  else if d.ty = tyDELAY || d.ty = tyBIQUAD || d.ty = tyFIR then
    (if 4 ≤ o && o < d.parLen && o % 4 == 0 then some 4 else none)
  else if d.ty = tyLIMIT then (if o < 6 && o % 2 == 0 then some 2 else none)
  else if d.ty = tyMETER then (if o < 4 && o % 2 == 0 then some 2 else none)
  else if d.ty = tyTONE then
    (if o < 8 * d.ch then (if o % 8 == 0 || o % 8 == 2 then some 2 else if o % 8 == 4 then some 4 else none) else none)
  else none

/-- Whether a value is legal in the live field at parameter offset `o` (Table 13.4). -/
def State.liveLegal (s : State) (d : Node) (o v : Nat) : Bool :=
  if d.ty = tyGAIN then (if o % 4 = 0 then levelLegal v else decide (v ≤ 10000))
  else if d.ty = tyMIX then levelLegal v
  else if d.ty = tyDELAY then decide (v ≤ 64 * d.maxDelay)
  else if d.ty = tyLIMIT then
    (if o = 0 then levelIn v (-6000) 0 else if o = 2 then decide (v ≤ 500) else decide (10 ≤ v) && decide (v ≤ 5000))
  else if d.ty = tyMETER then
    (if o = 0 then decide (10 ≤ v) && decide (v ≤ 10000) else levelIn v (-12000) 0)
  else if d.ty = tyTONE then
    (if o % 8 = 0 then decide (v ≤ 3)
     else if o % 8 = 2 then levelIn v (-12000) 0
     else decide (1000 ≤ v) && decide (v ≤ 45 * s.codeHz d.rate))
  else true

/-- The live fields that data from parameter offset `o` covers, each with its offset in the data; none where the data
is not whole live fields (R317). `fuel` bounds their number. -/
def Node.liveSpan (d : Node) : Nat → Nat → Nat → Nat → Option (List (Nat × Nat × Nat))
  | 0, _, _, n => if n = 0 then some [] else none
  | fuel + 1, o, at_, n =>
    if n = 0 then some []
    else match d.liveAt o with
      | none => none
      | some w =>
        if n < w then none
        else (d.liveSpan fuel (o + w) (at_ + w) (n - w)).map (fun l => (o, at_, w) :: l)

/-- Whether every live field of a node's parameters holds a legal value. -/
def State.liveAllLegal (s : State) (d : Node) : Bool :=
  (List.range d.par.length).all (fun o =>
    match d.liveAt o with
    | some w => s.liveLegal d o (leAt d.par o w)
    | none => true)

/-- An image with its live fields cleared: what two images share whose structure is identical (R322). -/
def maskLive (img : List Byte) : List Byte :=
  (imgNodes img).foldl (fun im q =>
    let p := q.1 + 12 + 4 * q.2.nIn
    (List.range q.2.par.length).foldl (fun im o =>
      match q.2.liveAt o with
      | some w => im.take (p + o) ++ List.replicate w 0#8 ++ im.drop (p + o + w)
      | none => im) im) img

/-! ## Checks of an image (R312, R315, Table 13.6) -/

/-- Whether a header is well formed (Table 13.1). -/
def headerLegal (img : List Byte) : Bool :=
  gMagic img == 0x48505247 && decide (gKind img ≤ 1) && (if gKind img = 1 then decide (gCc img ≤ 3) else gCc img == 0) &&
  decide (1 ≤ gNodes img) && decide (gNodes img ≤ 1024) && decide (16 ≤ gLen img) && decide (gLen img ≤ 262144) &&
  gLen img % 4 == 0 && leAt img 12 4 == 0

/-- Whether a record has the right shape for its type (Tables 13.2 to 13.4). -/
def Node.shapeOk (d : Node) (off len : Nat) : Bool :=
  decide (1 ≤ d.ty) && decide (d.ty ≤ 11) && decide (d.flags ≤ 1) && decide (3 ≤ d.len) && decide (d.len ≤ 65532) &&
  decide (off + 4 * d.len ≤ len) && decide (1 ≤ d.ch) && decide (d.ch ≤ 512) && decide (d.nIn ≤ 4096) &&
  decide (d.rate ≤ 4) && d.rsv == 0 &&
  (if d.ty = tyMIX then !d.range
   else if d.ty = tyTONE then !d.range && d.nIn == 0
   else if d.range then d.nIn == 1 else d.nIn == d.ch) &&
  4 * d.len == 12 + 4 * d.nIn + d.parLen

/-- Whether a node's fixed parameters are legal (Table 13.4). -/
def State.fixedLegal (s : State) (d : Node) : Bool :=
  if d.ty = tyMIX then
    (List.range d.ch).all (fun b => decide (d.mixCount b ≤ 4096) && (d.mixPoints b).all (fun p => decide (p.1 < d.nIn))) &&
    zeroAt d.par (2 * d.ch) (d.mixBase - 2 * d.ch)
  else if d.ty = tyDELAY then decide (1 ≤ d.maxDelay) && decide (d.maxDelay ≤ 2 * s.codeHz d.rate)
  else if d.ty = tyBIQUAD then decide (1 ≤ d.sections) && decide (d.sections ≤ 16) && zeroAt d.par 1 3
  else if d.ty = tyFIR then decide (1 ≤ d.taps) && decide (d.taps ≤ 1024) && zeroAt d.par 2 2
  else if d.ty = tyASRC then decide (leAt d.par 0 1 ≤ 4) && leAt d.par 0 1 != d.rate && zeroAt d.par 1 3
  else if d.ty = tyLIMIT then decide (leAt d.par 6 1 ≤ 1) && zeroAt d.par 7 1
  else true

/-- The earlier node of a graph that writes a mix bus or test generator. -/
def busWriter (nodes : List Node) (k p : Nat) : Option Nat :=
  (List.range k).find? (fun j =>
    let d := nodes.getD j {}
    (d.ty == tyMIX || d.ty == tyTONE) && d.outPp != 0xFFFF && inRun d.outPp d.ch p)

/-- Whether a patch point is a mix bus or a test generator. -/
def isBus (p : Nat) : Bool := inRun 0x5000 0x400 p || inRun 0x6000 0x40 p

/-- The node and channel a reference of node `k` reads within its graph. -/
def nodeRef (nodes : List Node) (k ref : Nat) : Option (Nat × Nat) :=
  if ref ≥ 65536 then some (ref / 65536 - 1, ref % 65536)
  else if isBus ref then (busWriter nodes k ref).map (fun j => (j, ref - (nodes.getD j {}).outPp))
  else none

/-- Whether a source reference of node `k` is legal (R312): a patch point that samples come from, or a channel of an
earlier node that is no METER, at the node's input rate. -/
def refLegal (nodes : List Node) (k : Nat) (d : Node) (ref : Nat) : Bool :=
  match nodeRef nodes k ref with
  | some (j, c) =>
    let x := nodes.getD j {}
    decide (j < k) && decide (c < x.ch) && x.ty != tyMETER && x.rate == d.inRate
  | none =>
    decide (ref < 65536) && (decide (ref < 0x1000) || inRun 0x2000 0x200 ref || inRun 0x2400 0x10 ref ||
      inRun 0x3000 0x1000 ref || ref == 0xFFFF)

/-- Whether a node's output is legal (R312, Table 13.4). -/
def Node.outLegal (d : Node) : Bool :=
  let run := fun a n => decide (a ≤ d.outPp) && decide (d.outPp + d.ch ≤ a + n)
  if d.ty = tyPILOT then run 0x2500 8
  else d.outPp == 0xFFFF ||
    (if d.ty = tyMIX then run 0x5000 0x400
     else if d.ty = tyMETER then false
     else run 0x1000 0x1000 || run 0x2200 0x200 || run 0x2500 8 || run 0x4000 0x1000 ||
       (d.ty == tyTONE && run 0x6000 0x40))

/-- Whether a node may stand in a control graph (R312). -/
def Node.controlOk (d : Node) : Bool :=
  (d.ty == tyROUTE || d.ty == tyGAIN || d.ty == tyBIQUAD || d.ty == tyFIR || d.ty == tyMETER) && d.outPp == 0xFFFF

/-- Step 1 of Table 13.6 on node `k`. -/
def State.nodeLegal (s : State) (img : List Byte) (nodes : List Node) (k off : Nat) (d : Node) : Bool :=
  d.shapeOk off (gLen img) && s.fixedLegal d && s.liveAllLegal d && d.outLegal &&
  (if d.range then decide (d.refs.headD 0 % 65536 + d.ch ≤ 65536) || d.ch == 1 else true) &&
  d.srcs.all (refLegal nodes k d) && (gKind img == 0 || d.controlOk)

/-- The first node of a list that fails a test, by index. -/
def firstNode (test : Nat → Node → Bool) : Nat → List Node → Option Nat
  | _, [] => none
  | k, d :: l => if test k d then firstNode test (k + 1) l else some k

/-- Step 1 of Table 13.6 on an image: none where it passes, the node at fault, or 0xFFFF for the header. -/
def State.imgFault (s : State) (img : List Byte) : Option Nat :=
  if !headerLegal img then some 0xFFFF
  else
    let l := imgNodes img
    let nodes := l.map (·.2)
    firstNode (fun k d => s.nodeLegal img nodes k ((l.getD k (0, {})).1) d) 0 nodes

/-- Step 2 of Table 13.6: every configured patch point runs at its node's rate. -/
def State.rateFault (s : State) (nodes : List Node) : Option Nat :=
  let fits := fun p r => match s.ppRate p with
    | some x => x == r
    | none => true
  firstNode (fun _ d =>
    d.srcs.all (fun r => r ≥ 65536 || fits r d.inRate) &&
    (d.outPp == 0xFFFF || (List.range d.ch).all (fun c => fits (d.outPp + c) d.rate))) 0 nodes

/-- The output patch points of a list of nodes. -/
def outPps (nodes : List Node) : List Nat :=
  nodes.flatMap (fun d => if d.outPp = 0xFFFF then [] else (List.range d.ch).map (d.outPp + ·))

/-- Step 3 of Table 13.6 against patch points written elsewhere, and within the graph. -/
def overlapFault (taken : List Nat) (nodes : List Node) : Option Nat :=
  firstNode (fun k d => d.outPp == 0xFFFF || (List.range d.ch).all (fun c =>
    !taken.contains (d.outPp + c) && !(outPps (nodes.take k)).contains (d.outPp + c))) 0 nodes

/-! ## The primitives (R308, R309, R313, R315) -/

/-- A channel's result: block, state, whether a sample saturated, reduction in 0.01 dB of a limiter, and the peak of
a window that ended. -/
structure NodeOut where
  blk : Blk := {}
  st : List Int := []
  sat : Bool := false
  red : Nat := 0
  window : Option Nat := none
  deriving DecidableEq, Repr

/-- A block's samples, `n` of them. -/
def Blk.take (b : Blk) (n : Nat) : List Int := (List.range n).map (fun i => b.v.getD i 0)

/-- A sample the spec leaves open, unless silence makes it zero. -/
def State.openSample (s : State) (silent : Bool) : Int × State := if silent then (0, s) else s.freeSample

/-- Open samples along a list of inputs. -/
def State.openSamples (s : State) : List Bool → List Int × State
  | [] => ([], s)
  | z :: l =>
    let (v, s) := s.openSample z
    let (r, s) := State.openSamples s l
    (v :: r, s)

/-- A sample at a level before saturation. -/
def rawLevel (level : Int) (v : Int) : Int :=
  if level = muteLevel then 0 else if level = 0 then v else mulQ v (Config.dbCoef level) 24

/-- GAIN on a channel's samples: `left` samples of a ramp are open, the others stand at `level` (R315). -/
def State.gainRun (s : State) (level : Int) : Nat → List Int → List Int × Bool × State
  | _, [] => ([], false, s)
  | 0, v :: l =>
    let x := rawLevel level v
    let (r, sat, s) := State.gainRun s level 0 l
    (sat31 x :: r, sat || sat31 x != x, s)
  | n + 1, v :: l =>
    let (x, s) := s.openSample (v == 0)
    let (r, sat, s) := State.gainRun s level n l
    (x :: r, sat, s)

/-- GAIN (R315): state is the level aimed at and the samples of ramp left. -/
def State.evalGain (s : State) (d : Node) (c : Nat) (st : List Int) (b : Blk) : NodeOut × State :=
  let level := parI16 d.par (4 * c)
  let ramp := (roundDiv (leAt d.par (4 * c + 2) 2 * s.codeHz d.rate : Nat) 1000).toNat
  let left := if st.isEmpty then 0 else if st.headD 0 = level then (st.getD 1 0).toNat else ramp
  let n := codeLen d.rate
  let (v, sat, s) := s.gainRun level left (b.take n)
  ({ blk := { v := v, ok := b.ok }, st := [level, ((left - n : Nat) : Int)], sat := sat }, s)

/-- MIX (R308, R313): bus `c` sums its crosspoints. -/
def evalMix (d : Node) (c : Nat) (src : Nat → Blk) : NodeOut :=
  let n := codeLen d.rate
  let pts := d.mixPoints c
  let sums := (List.range n).map (fun i => pts.foldl (fun a p => a + rawLevel p.2 ((src p.1).v.getD i 0)) (0 : Int))
  { blk := { v := sums.map sat31, ok := pts.any (fun p => p.2 != muteLevel && (src p.1).ok) }
    sat := sums.any (fun x => sat31 x != x) }

/-- The sample `k` samples before sample `i` of the newest block of a delay line, and its block's flag. -/
def lineAt (line : List Blk) (n : Nat) (i k : Nat) : Int × Bool :=
  let back := if k ≤ i then 0 else (k - i + n - 1) / n
  let b := line.getD back {}
  (b.v.getD (back * n + i - k) 0, b.ok)

/-- The samples a read of `time` (1/64 sample) at sample `i` uses: one, or four for a fraction. -/
def linePoints (line : List Blk) (n time i : Nat) : List (Int × Bool) :=
  if time % 64 = 0 then [lineAt line n i (time / 64)]
  else [lineAt line n i (time / 64 - 1), lineAt line n i (time / 64), lineAt line n i (time / 64 + 1), lineAt line n i (time / 64 + 2)]

/-- DELAY along the samples of a block: a single whole read passes its sample, any other is open. -/
def State.delayRun (s : State) : List (List (Int × Bool)) → List Int × Bool × State
  | [] => ([], true, s)
  | p :: l =>
    let (v, s) := match p with
      | [x] => (x.1, s)
      | ps => s.openSample (ps.all (fun x => x.1 == 0))
    let (r, ok, s) := State.delayRun s l
    (v :: r, p.all (·.2) && ok, s)

/-- DELAY (R315): state is the present time, the time of a running cross-fade and its ticks left. -/
def State.evalDelay (s : State) (d : Node) (c : Nat) (st : List Int) (line : List Blk) : NodeOut × State :=
  let want := leAt d.par (4 + 4 * c) 4
  let n := codeLen d.rate
  let cur := if st.isEmpty then want else (st.headD 0).toNat
  let left := if st.isEmpty then 0 else (st.getD 2 0).toNat
  let next := if left > 0 then (st.getD 1 0).toNat else want
  let left := if left > 0 then left else if want = cur then 0 else 8
  let pts := (List.range n).map (fun i =>
    linePoints line n cur i ++ (if left = 0 then [] else linePoints line n next i))
  let (v, ok, s) := s.delayRun pts
  let st := if left = 0 then [(cur : Int), cur, 0] else if left = 1 then [(next : Int), next, 0] else [(cur : Int), next, ((left - 1 : Nat) : Int)]
  ({ blk := { v := v, ok := ok }, st := st }, s)

/-- One section of a BIQUAD on one sample (R315): coefficients, state x1 x2 y1 y2; answers state, output, saturated. -/
def biquadStep (co st : List Int) (x : Int) : List Int × Int × Bool :=
  let m := fun k v => mulQ v (co.getD k 0) 29
  let y := m 0 x + m 1 (st.getD 0 0) + m 2 (st.getD 1 0) - m 3 (st.getD 2 0) - m 4 (st.getD 3 0)
  ([x, st.getD 0 0, sat31 y, st.getD 2 0], sat31 y, sat31 y != y)

/-- One section along a block. -/
def biquadRun (co : List Int) : List Int → List Int → List Int × List Int × Bool
  | st, [] => (st, [], false)
  | st, x :: l =>
    let (st, y, a) := biquadStep co st x
    let (st, r, b) := biquadRun co st l
    (st, y :: r, a || b)

/-- The sections of a BIQUAD in order, from section `k`, `n` of them left. -/
def biquadAll (d : Node) (c : Nat) (st : List Int) : Nat → Nat → List Int → List Int × List Int × Bool
  | 0, _, v => ([], v, false)
  | n + 1, k, v =>
    let co := (List.range 5).map (fun i => parI32 d.par (4 + 20 * (c * d.sections + k) + 4 * i))
    let (st1, v, a) := biquadRun co ((st.drop (4 * k)).take 4) v
    let (r, v, b) := biquadAll d c st n (k + 1) v
    ((List.range 4).map (fun i => st1.getD i 0) ++ r, v, a || b)

/-- BIQUAD (R315). -/
def evalBiquad (d : Node) (c : Nat) (st : List Int) (b : Blk) : NodeOut :=
  let (st, v, sat) := biquadAll d c st d.sections 0 (b.take (codeLen d.rate))
  { blk := { v := v, ok := b.ok }, st := st, sat := sat }

/-- FIR along a block (R315): history newest first. -/
def firRun (co : List Int) : List Int → List Int → List Int × List Int × Bool
  | h, [] => (h, [], false)
  | h, x :: l =>
    let h := (x :: h).take co.length
    let y := (co.zip h).foldl (fun a p => a + mulQ p.2 p.1 30) 0
    let (h, r, sat) := firRun co h l
    (h, sat31 y :: r, sat || sat31 y != y)

/-- FIR (R315). -/
def evalFir (d : Node) (st : List Int) (b : Blk) : NodeOut :=
  let co := (List.range d.taps).map (fun i => parI32 d.par (4 + 4 * i))
  let (h, v, sat) := firRun co st (b.take (codeLen d.rate))
  { blk := { v := v, ok := b.ok }, st := h, sat := sat }

/-- ASRC (R313, R315): the values are open unless every contributing block is silent; state holds, newest first, a
number for each earlier block: 1 for its flag, 2 for silence. -/
def State.evalAsrc (s : State) (d : Node) (st : List Int) (b : Blk) : NodeOut × State :=
  let hi := max (codeLen d.rate) (codeLen d.inRate)
  let keep := (64 + hi - 1) / hi
  let silent := (b.take (codeLen d.inRate)).all (· == 0)
  let hist := ((b2n b.ok + 2 * b2n silent : Nat) : Int) :: st.take keep
  let ok := decide (hist.length = keep + 1) && hist.all (fun x => x % 2 == 1)
  let zero := hist.all (fun x => x ≥ 2)
  let (v, s) := s.openSamples (List.replicate (codeLen d.rate) zero)
  ({ blk := { v := v, ok := ok }, st := hist.take keep }, s)

/-- Whether a block exceeds a level in 0.01 dBFS. -/
def exceeds (thresh : Int) (v : List Int) : Bool :=
  v.any (fun x => x != 0 && decide ((x.natAbs : Int) * 2 ^ 24 > Config.dbCoef thresh * 2 ^ 31))

/-- LIMIT (R315): below THRESH with no reduction the block passes; otherwise values and reduction are open. State is
the reduction in 0.01 dB; `hot` says whether THRESH is exceeded, `red` is the reduction of linked channels. -/
def State.evalLimit (s : State) (d : Node) (st : List Int) (b : Blk) (hot : Bool) (red : Option Nat) : NodeOut × State :=
  let v := b.take (codeLen d.rate)
  if !hot && st.headD 0 = 0 then ({ blk := { v := v, ok := b.ok }, st := [0] }, s)
  else
    let (r, s) := match red with
      | some r => (r, s)
      | none =>
        let (n, s) := s.draw
        ((Config.measured n).toNat % 16384, s)
    let (o, s) := s.openSamples (v.map (· == 0))
    ({ blk := { v := o, ok := b.ok }, st := [(r : Int)], red := r }, s)

/-- METER along a block: state is samples of the window, peak, sum of squares, and the last window's peak and RMS. -/
def meterRun (len : Nat) : List Int → Option Nat → List Int → List Int × Option Nat
  | st, w, [] => (st, w)
  | st, w, x :: l =>
    let n := st.getD 0 0 + 1
    let p := max (st.getD 1 0) x.natAbs
    let q := st.getD 2 0 + x * x
    if n ≥ (len : Int) then meterRun len [0, 0, 0, p, ((Config.rms q.toNat n.toNat).toNat : Int)] (some p.toNat) l
    else meterRun len [n, p, q, st.getD 3 0, st.getD 4 0] w l

/-- METER (R315, R316). -/
def State.evalMeter (s : State) (d : Node) (st : List Int) (b : Blk) : NodeOut :=
  let len := leAt d.par 0 2 * s.codeHz d.rate / 1000
  let (st, w) := meterRun len st none (b.take (codeLen d.rate))
  { st := st, window := w }

/-- TONE (R313, R315): silence is zero; the other waves are open. -/
def State.evalTone (s : State) (d : Node) (c : Nat) : NodeOut × State :=
  let (v, s) := s.openSamples (List.replicate (codeLen d.rate) (leAt d.par (8 * c) 1 == 0))
  ({ blk := { v := v, ok := true } }, s)

/-- One channel of a node on its sources. ROUTE and PILOT pass their input (R309, R394). -/
def State.evalNode (s : State) (rel k c : Nat) (d : Node) (src : Nat → Blk) (st : List Int) (line : List Blk) :
    NodeOut × State :=
  let b := src c
  if d.ty = tyGAIN then s.evalGain d c st b
  else if d.ty = tyMIX then (evalMix d c src, s)
  else if d.ty = tyDELAY then s.evalDelay d c st (b :: line)
  else if d.ty = tyBIQUAD then (evalBiquad d c st b, s)
  else if d.ty = tyFIR then (evalFir d st b, s)
  else if d.ty = tyASRC then s.evalAsrc d st b
  else if d.ty = tyLIMIT then
    let n := codeLen d.rate
    if leAt d.par 6 1 = 0 then s.evalLimit d st b (exceeds (parI16 d.par 0) (b.take n)) none
    else
      let hot := (List.range d.ch).any (fun i => exceeds (parI16 d.par 0) ((src i).take n))
      s.evalLimit d st b hot (some ((Config.reduction rel k).toNat % 16384))
  else if d.ty = tyMETER then (s.evalMeter d st b, s)
  else if d.ty = tyTONE then s.evalTone d c
  else ({ blk := { v := b.take (codeLen d.rate), ok := b.ok } }, s)

end Sys2Proof.Machine
end

