-- ==== Sys2Proof/Machine/Burin.lean ====
section
/-!
DEFINITION. Machine/Burin.lean: the Burins (chapter 12, R280 to R306): compiling graphs into sheets, admission and
the deckle, releases, the search for work, deadline misses, Burins leaving and returning, and parity records (R72).
-/

namespace Sys2Proof.Machine

/-! ## Parity records (R72) -/

/-- Steps 1 to 4 of R72 for a unit: CFG_PARITY, MGT.PARITY_ADDR, the unit's sticky bit and count, the STATE entry. -/
def State.parityReport (s : State) (sub u addr old : Nat) : State :=
  let s := s.fire Ev.CFG_PARITY (objId sub u 0) addr
  let s := if s.on F.MGT_PARITY_ADDR_VALID then s
    else (s.setF F.MGT_PARITY_ADDR_ADDR addr).setF F.MGT_PARITY_ADDR_VALID 1
  let x := s.unit (unitKey sub u)
  let s := s.setUnit (unitKey sub u) { x with parity := true, parCnt := satNat 16 (x.parCnt + 1) }
  s.logE orgIntegrity 0 kSTATE true addr old 0

/-! ## Compiling (R283, R314, R318) -/

/-- Cycles of channel `c` of a node. -/
def Node.chanCost (d : Node) (c : Nat) : Nat :=
  codeM d.rate *
    (if d.ty = tyGAIN then 18 else if d.ty = tyMIX then 12 + 4 * d.mixCount c else if d.ty = tyDELAY then 36
     else if d.ty = tyBIQUAD then 12 * d.sections else if d.ty = tyFIR then 24 + (3 * d.taps + 1) / 2
     else if d.ty = tyASRC then 160 else if d.ty = tyLIMIT then 45 else if d.ty = tyMETER then 15
     else if d.ty = tyROUTE then 6 else if d.ty = tyTONE then 24 else 60)

/-- Cycles of a slice of `n` channels from `f` on. -/
def Node.sliceCost (d : Node) (f n : Nat) : Nat :=
  (List.range n).foldl (fun a i => a + d.chanCost (f + i)) (if d.ty = tyDELAY then 1200 else 40)

/-- The channels of a node in `k` slices of equal count, the last possibly smaller. -/
def equalSlices (ch k : Nat) : List (Nat × Nat) :=
  let size := ceilDiv ch k
  (List.range (ceilDiv ch size)).map (fun j => (j * size, min size (ch - j * size)))

/-- The fewest slices whose cost stays within 11,600 cycles, if there are any. -/
def cutNode (cost : Nat → Nat → Nat) (ch : Nat) : Option (List (Nat × Nat)) :=
  (((List.range ch).map (fun k => equalSlices ch (k + 1))).find? (fun l => l.all (fun q => decide (cost q.1 q.2 ≤ 11600))))

/-- State bytes of a slice, and of its output blocks (R318). -/
def Node.sliceMem (d : Node) (f n : Nat) : Nat :=
  let st := if d.ty = tyGAIN then 8 * n
    else if d.ty = tyMIX then 4 * (d.mixBefore (f + n) - d.mixBefore f)
    else if d.ty = tyDELAY || d.ty = tyMETER || d.ty = tyTONE then 16 * n
    else if d.ty = tyBIQUAD then 36 * d.sections * n
    else if d.ty = tyFIR then 4 * d.taps + 4 * d.taps * n
    else if d.ty = tyASRC then 256 * n
    else if d.ty = tyLIMIT || d.ty = tyPILOT then 64 * n
    else 0
  st + (if d.ty = tyMETER then 0 else 48 * codeM d.rate * n)

/-- The sources a slice reads. -/
def Node.sliceRefs (d : Node) (f n : Nat) : List Nat :=
  let at_ := fun i => d.srcs.getD i 0xFFFF
  if d.ty = tyMIX then (List.range n).flatMap (fun b => (d.mixPoints (f + b)).map (fun p => at_ p.1))
  else if d.ty = tyTONE then []
  else if d.ty = tyLIMIT && leAt d.par 6 1 == 1 then d.srcs
  else (List.range n).map (fun i => at_ (f + i))

/-- One slice of a compiled owner: node, first channel, channels, cycles. -/
abbrev Slice := Nat × Nat × Nat × Nat

/-- Slices filled into sheets in order (R318): a sheet is closed when the next slice would take it past 12,000
cycles, its 400 included. -/
def fillSheets : List Slice → List Slice → Nat → List (List Slice × Nat)
  | [], cur, cost => if cur.isEmpty then [] else [(cur, cost)]
  | x :: l, cur, cost =>
    if !cur.isEmpty && cost + x.2.2.2 > 12000 then (cur, cost) :: fillSheets l [x] (400 + x.2.2.2)
    else fillSheets l (cur ++ [x]) (cost + x.2.2.2)

/-- The sheet that holds a node's channel. -/
def sheetOf (sheets : List (List Slice × Nat)) (k c : Nat) : Option Nat :=
  (List.range sheets.length).find? (fun i =>
    ((sheets.getD i ([], 0)).1).any (fun q => q.1 == k && inRun q.2.1 q.2.2.1 c))

/-- The streams, ports and rings behind a source patch point, as keys of R286. -/
def State.affinity (s : State) (p : Nat) : Option Nat :=
  if p < 0x1000 then (s.rxAtPp p).map (0x1000 + ·)
  else if inRun 0x2000 0x200 p then some (0x2000 + p % 0x200 / 32)
  else if inRun 0x3000 0x1000 p then (s.ringAtPp p).map (0x3000 + ·)
  else none

/-- Sheets of slices: predecessors, memory, affinities. -/
def State.buildSheets (s : State) (nodes : List Node) (l : List (List Slice × Nat)) : List SheetC :=
  (List.range l.length).map (fun i =>
    let (sl, cost) := l.getD i ([], 0)
    let refs := sl.flatMap (fun q => (((nodes.getD q.1 {}).sliceRefs q.2.1 q.2.2.1).map (fun r => (q.1, r))))
    let preds := refs.filterMap (fun (q : Nat × Nat) => match nodeRef nodes q.1 q.2 with
      | some (j, c) => match sheetOf l j c with
        | some x => if x = i then none else some x
        | none => none
      | none => none)
    { slices := sl.map (fun q => (q.1, q.2.1, q.2.2.1)), cost := cost, preds := dedupN preds
      mem := sl.foldl (fun a q => a + (nodes.getD q.1 {}).sliceMem q.2.1 q.2.2.1) 0
      aff := dedupN (refs.filterMap (fun (q : Nat × Nat) => if q.2 < 65536 && !isBus q.2 then s.affinity q.2 else none)) })

/-- The longest chain of predecessors that ends in each sheet, in cycles. -/
def chains (l : List SheetC) : List Nat :=
  l.foldl (fun acc x => acc ++ [x.cost + x.preds.foldl (fun m p => max m (acc.getD p 0)) 0]) []

/-- rem of each sheet (R284): its cycles and the largest rem of its successors. -/
def remains (l : List SheetC) : List Nat :=
  let n := l.length
  (List.range n).foldl (fun acc j =>
    let i := n - 1 - j
    let x := l.getD i { slices := [], cost := 0 }
    let m := (List.range n).foldl (fun m q =>
      if i < q && (l.getD q { slices := [], cost := 0 }).preds.contains i then max m (acc.getD (q - i - 1) 0) else m) 0
    (x.cost + m) :: acc) []

/-- An owner's sheets and critical path. -/
def OwnerC.ofSheets (l : List SheetC) : OwnerC := { sheets := l, crit := (chains l).foldl max 0 }

/-- Cost of one release of an owner, and its charge and sheets a tick (R285). -/
def OwnerC.cost (o : OwnerC) : Nat := o.sheets.foldl (fun a x => a + x.cost) 0
def OwnerC.charge (o : OwnerC) : Nat := o.cost * o.r
def OwnerC.perTick (o : OwnerC) : Nat := o.sheets.length * o.r

/-- Bytes of a delay line of a node (R320). -/
def Node.lineBytes (d : Node) : Nat := (ceilDiv d.maxDelay (codeLen d.rate) + 2) * (4 * codeLen d.rate + 1)

/-- Releases a tick of a control graph bound to generator `n` (R285). -/
def State.ccPerTick (s : State) (n : Nat) : Nat := if s.ccPeriod n * s.tps < 1000000000 then 2 else 1

/-- A graph compiled (R318), with the charge it stands for; the flag is clear where a node cannot be sliced. -/
def State.compileGraph (s : State) (img : List Byte) : Bool × OwnerC :=
  let nodes := imgNodeList img
  let cuts := nodes.map (fun d => (d, cutNode d.sliceCost d.ch))
  let ok := cuts.all (fun q => q.2.isSome)
  let slices := (List.range nodes.length).flatMap (fun k =>
    let (d, c) := cuts.getD k ({}, none)
    (c.getD (equalSlices d.ch d.ch)).map (fun q => ((k, q.1, q.2, d.sliceCost q.1 q.2) : Slice)))
  let o := OwnerC.ofSheets (s.buildSheets nodes (fillSheets slices [] 400))
  let delays := nodes.filter (fun d => d.ty == tyDELAY)
  let cc := if gKind img = 1 then some (gCc img) else none
  (ok, { o with
    cc := cc, r := match cc with
      | some n => s.ccPerTick n
      | none => 1
    xpoints := nodes.foldl (fun a d => a + d.xpoints) 0
    lines := delays.foldl (fun a d => a + d.ch) 0
    bytes := delays.foldl (fun a d => a + d.ch * d.lineBytes) 0
    gran := delays.foldl (fun a d => a + d.ch * granules d.lineBytes) 0 })

/-- The rate-conversion sheets of a receive block with BIND 2 (R319). -/
def compileEntry (e : Nat) (b : List Byte) : OwnerC :=
  let m := rateMul (bRate b)
  let cost := fun (_ n : Nat) => 40 + 160 * m * n
  let slices := ((cutNode cost (bChannels b)).getD []).map (fun q => ((0, q.1, q.2, cost q.1 q.2) : Slice))
  OwnerC.ofSheets ((fillSheets slices [] 400).map (fun q =>
    { slices := q.1.map (fun x => (x.1, x.2.1, x.2.2.1)), cost := q.2
      mem := q.1.foldl (fun a x => a + (256 + 48 * m) * x.2.2.1) 0, aff := [0x1000 + e] }))

/-! ## Capacity and homes (R286, R290) -/

/-- Whether a Burin is in service, and how many are. -/
def State.inService (s : State) (b : Nat) : Bool := s.getF (F.BUR_STATUS_STATE b) == 0
def State.servants (s : State) : List Nat := (List.range 64).filter s.inService
def State.deckle (s : State) : Nat := 36000 * s.servants.length

/-- Whether a Burin runs now: in service, and one of the first eight in LISTEN (R295). -/
def State.burinRuns (s : State) (b : Nat) : Bool := s.inService b && (s.getF F.PWR_STATUS_STATE != 2 || decide (b < 8))

/-- Committed load and sheets a tick of owners. -/
def chargeOf (l : List OwnerC) : Nat := l.foldl (fun a o => a + o.charge) 0
def sheetsOf (l : List OwnerC) : Nat := l.foldl (fun a o => a + o.perTick) 0

/-- Sheets a tick, bytes and cycles homed on a Burin by owners. -/
def homedOn (l : List OwnerC) (b : Nat) : Nat × Nat × Nat :=
  l.foldl (fun a o => o.sheets.foldl (fun (a : Nat × Nat × Nat) x =>
    if x.home = b then (a.1 + o.r, a.2.1 + x.mem, a.2.2 + x.cost * o.r) else a) a) (0, 0, 0)

/-- Whether a Burin has room for a sheet of an owner (Table 12.1, R318). -/
def State.homeRoom (s : State) (l : List OwnerC) (r : Nat) (x : SheetC) (b : Nat) : Bool :=
  let (n, m, _) := homedOn l b
  s.inService b && decide (n + r ≤ 16) && decide (m + x.mem ≤ 57344)

/-- The home R286 gives a sheet: a Burin that already homes a sheet reading the same stream, port or ring, else the
in-service Burin with the least committed cycles. -/
def State.homeOf (s : State) (l : List OwnerC) (r : Nat) (x : SheetC) : Option Nat :=
  let kin := l.flatMap (fun o => (o.sheets.filter (fun y => y.aff.any (x.aff.contains ·))).map (·.home))
  match kin.find? (s.homeRoom l r x) with
  | some b => some b
  | none => ((List.range 64).filter (s.homeRoom l r x)).foldl (fun best b =>
      match best with
      | none => some b
      | some a => if (homedOn l b).2.2 < (homedOn l a).2.2 then some b else some a) none

/-- Homes for the sheets of an owner, placed one after another beside `l`. -/
def State.placeOwner (s : State) (l : List OwnerC) (o : OwnerC) : Option OwnerC :=
  (o.sheets.foldl (fun acc x => match acc with
    | none => none
    | some (done : List SheetC) =>
      match s.homeOf (l ++ [{ o with sheets := done }]) o.r x with
      | some b => some (done ++ [{ x with home := b }])
      | none => none) (some [])).map (fun done => { o with sheets := done })

/-- Owners placed in turn. -/
def State.placeAll (s : State) : List OwnerC → List (Nat × OwnerC) → Option (List (Nat × OwnerC))
  | _, [] => some []
  | l, (k, o) :: rest =>
    match s.placeOwner l o with
    | none => none
    | some o => (s.placeAll (l ++ [o]) rest).map (fun r => (k, o) :: r)

/-- Registers of the admission unit, and LOAD_HIGH, brought in line (R301, R305). -/
def State.refreshAdm (s : State) : State :=
  let l := s.dsp.comp.map (·.2)
  let n := s.servants.length
  let c := chargeOf l
  let d := 36000 * n
  let load := if d = 0 then (if c = 0 then 0 else 65535) else satNat 16 (roundDiv (c * 10000 : Nat) d).toNat
  let s := ((s.setF F.ADM_CAPACITY (37500 * n)).setF F.ADM_DECKLE d).setF F.ADM_COMMITTED c
  let s := ((s.setI F.ADM_HEADROOM ((d : Int) - c)).setF F.ADM_LOAD load).setF F.ADM_IN_SERVICE n
  let gated := (List.range 8).foldl (fun a g =>
    if (List.range 8).any (fun i => s.inService (8 * g + i)) then a else a + 2 ^ g) 0
  let s := (s.setF F.ADM_GATED gated).setSat F.ADM_SHEETS (sheetsOf l)
  let s := (List.range 64).foldl (fun s b =>
    let (h, _, cy) := homedOn l b
    ((s.setSat (F.BUR_STATUS_HOMED b) h).setF (F.BUR_COMMITTED b) cy).setF (F.BUR_STATUS_GATED b) (b2n (bitOf gated (b / 8)))) s
  let lim := [0, 7500, 8000, 8500, 9000, 9500, 9900].getD (s.getF F.ADM_CTL_LOAD_HIGH) 0
  if lim ≠ 0 && load ≥ lim then s.raise Ev.LOAD_HIGH (objId 5 65 0) load else s.setRaw Ev.LOAD_HIGH false

/-! ## Admission (R291, Table 12.3) -/

/-- What admission answers: the owners with their homes, or a status. -/
inductive Admit where
  | ok (l : List (Nat × OwnerC))
  | refuse (status : Nat)
  deriving DecidableEq, Repr

/-- Table 12.3 for a set of new owners beside those of `base`; `good` says whether each could be compiled. -/
def State.admission (s : State) (base : List OwnerC) (l : List (Nat × OwnerC)) (good : Bool) : Admit :=
  if l.isEmpty then .ok []
  else if s.inSafe 5 65 || s.inSafe 5 64 then .refuse stNO_RESOURCE
  else if !good || l.any (fun q => decide (q.2.crit > 60000) || q.2.sheets.any (fun x => decide (x.cost > 12000))) then
    .refuse stBAD_PARAM
  else
    let new := l.map (·.2)
    if sheetsOf base + sheetsOf new > 16 * s.servants.length then .refuse stNO_RESOURCE
    else match s.placeAll base l with
      | none => .refuse stNO_RESOURCE
      | some r => if chargeOf base + chargeOf new > s.deckle then .refuse stNO_RESOURCE else .ok r

/-- A refused charge leaves its traces (R291, Table 12.7). -/
def State.admitRefused (s : State) (charge : Nat) : State :=
  (s.incSat F.ADM_REFUSALS).fire Ev.ADMIT_REFUSE (objId 5 65 0) (satNat 32 charge)

/-- Owners take effect: compiled forms stored. -/
def State.commitOwners (s : State) (l : List (Nat × OwnerC)) : State :=
  ({ s with dsp := { s.dsp with comp := l.foldl (fun (m : KV OwnerC) (q : Nat × OwnerC) => KV.set m q.1 q.2) s.dsp.comp } }).refreshAdm.refreshReam

/-- An owner's charge and delay lines are freed. -/
def State.freeOwner (s : State) (o : Nat) : State :=
  ({ s with dsp := { s.dsp with comp := KV.erase s.dsp.comp o } }).refreshAdm.refreshReam

/-! ## Owners -/

/-- The object ID of an owner, and its run. -/
def ownerObj (o : Nat) : Nat := if o < 256 then objId 5 64 o else rxObj (o - 0x200)
def State.ownerRun (s : State) (o : Nat) : OwnerRun := KV.get {} s.dsp.run o
def State.setOwner (s : State) (o : Nat) (x : OwnerRun) : State := { s with dsp := { s.dsp with run := KV.set s.dsp.run o x } }

/-- Active bank of the graphs, and images. -/
def State.gBank (s : State) : Nat := s.getF F.GRT_CTL_ACT_BANK
def State.gImgAt (s : State) (bank n : Nat) : List Byte := KV.get [] s.dsp.img (bank * 256 + n)
def State.gImg (s : State) (n : Nat) : List Byte := s.gImgAt s.gBank n
def State.gOn (s : State) (bank n : Nat) : Bool := s.dsp.flag.contains (bank * 256 + n)

/-- The key of node state of an owner's present run. -/
def State.stateKey (s : State) (o : Nat) : Nat := o + 1024 * (s.ownerRun o).gen

/-- Node state and delay lines under a state key cleared. -/
def State.clearKey (s : State) (sk : Nat) : State :=
  let keep := fun (k : Nat) => k / 524288 != sk
  { s with dsp := { s.dsp with nst := s.dsp.nst.filter (fun q => keep q.1), lines := s.dsp.lines.filter (fun q => keep q.1) } }

/-- Key of a node's channel under a state key. -/
def nodeKey (sk k c : Nat) : Nat := (sk * 1024 + k) * 512 + c

/-- 600 MHz cycles at a tick boundary, and at a moment `c` cycles after the last one. -/
def State.cyc600 (s : State) (tick : Nat) : Nat := tick * 600000000 / s.tps
def State.nowCyc (s : State) (c : Nat) : Nat := s.cyc600 s.gridTick + c

/-- Releases changed in place. -/
def State.mapRels (s : State) (f : Release → Release) : State := { s with dsp := { s.dsp with rels := s.dsp.rels.map f } }

/-- Raw bits of the limiters and meters. -/
def State.refreshNodeRaw (s : State) : State :=
  (s.setRaw Ev.LIMIT_ACTIVE (!s.dsp.limiting.isEmpty)).setRaw Ev.METER_THRESH (!s.dsp.metering.isEmpty)

/-- A graph's nodes leave every condition. -/
def State.clearConds (s : State) (n : Nat) : State :=
  let keep := fun (k : Nat) => k / 524288 != n
  { s with dsp := { s.dsp with limiting := s.dsp.limiting.filter keep, metering := s.dsp.metering.filter keep } }.refreshNodeRaw

/-! ## Releases (R284 to R286, R298) -/

/-- Whether a sheet may run: its predecessors in the release are complete, and the same sheet of every earlier
release of the owner is done. -/
def State.sheetReady (s : State) (r : Release) (i : Nat) : Bool :=
  let x := r.comp.sheets.getD i { slices := [], cost := 0 }
  let done := fun (n : Nat) => n == 2 || n == 3
  x.preds.all (fun p => (r.sheets.getD p { home := 0 }).st == 2) &&
  s.dsp.rels.all (fun q => q.owner != r.owner || q.sk != r.sk || decide (q.id ≥ r.id) ||
    done (q.sheets.getD i { home := 0, st := 2 }).st)

/-- Waiting sheets that have become ready are so from cycle `now` on. -/
def State.readySheets (s : State) (now : Nat) : State :=
  s.mapRels (fun r => { r with sheets := (List.range r.sheets.length).map (fun i =>
    let x := r.sheets.getD i { home := 0 }
    if x.st = 0 && s.sheetReady r i then { x with st := 4, ready := now } else x) })

/-- Sheets in a tray. -/
def State.trayLen (s : State) (b : Nat) : Nat :=
  s.dsp.rels.foldl (fun a r => r.sheets.foldl (fun a x => if x.home = b && (x.st == 0 || x.st == 4) then a + 1 else a) a) 0

/-- The tray a released sheet is placed in: its home, or the in-service tray with the most room where that is
full; the flag says it was spilled (R286). -/
def State.trayFor (s : State) (home : Nat) : Nat × Bool :=
  if s.trayLen home < 64 then (home, false)
  else (s.servants.foldl (fun a b => if s.trayLen b < s.trayLen a then b else a) (s.servants.headD home), true)

/-- A release of an owner (R284): its sheets placed in trays, its inputs read. -/
def State.release (s : State) (o : Nat) (comp : OwnerC) (img : List Byte) (tick at_ : Nat) (blks : KV Blk) (ecc : List Nat) :
    State :=
  let nodes := imgNodeList img
  let fits := fun p r => s.ppRate p == some r
  let ins := nodes.foldl (fun m d => d.srcs.foldl (fun (m : KV Blk) p =>
    if p < 65535 && !isBus p && fits p d.inRate then KV.set m (p * 8 + d.inRate) (KV.get {} blks p) else m) m) []
  let outs := nodes.flatMap (fun d => if d.outPp = 0xFFFF then []
    else (List.range d.ch).filterMap (fun c => if fits (d.outPp + c) d.rate then some (d.outPp + c) else none))
  let (sheets, spills) := comp.sheets.foldl (fun (a : List SheetRun × Nat) x =>
    let (t, sp) := s.trayFor x.home
    (a.1 ++ [{ home := t }], a.2 + b2n sp)) ([], 0)
  let r : Release := { id := s.dsp.nextRel, owner := o, sk := s.stateKey o, tick := tick, at_ := at_, comp := comp, img := img
                       sheets := sheets, ins := ins, outs := outs, ecc := ecc }
  let s := { s with dsp := { s.dsp with rels := s.dsp.rels ++ [r], nextRel := s.dsp.nextRel + 1 } }
  (s.addSat F.SCHED_SPILLS spills).readySheets at_

/-- The block a source reference of node `k` reads (R312, R313). -/
def Release.src (r : Release) (nodes : List Node) (k : Nat) (d : Node) (ref : Nat) : Blk :=
  match nodeRef nodes k ref with
  | some (j, c) => KV.get {} r.res (j * 512 + c)
  | none => if ref = 0xFFFF then {} else KV.get {} r.ins (ref * 8 + d.inRate)

/-- A block sent to an output patch point (R14): presented five ticks after the release. -/
def State.putOut (s : State) (tick p : Nat) (b : Blk) : State :=
  { s with dsp := { s.dsp with outq := KV.set s.dsp.outq (tick + 5) (KV.put {} (KV.get [] s.dsp.outq (tick + 5)) p b) } }

/-- A limiter's channel enters or leaves LIMIT_ACTIVE (R324). -/
def State.limitCond (s : State) (n k c red : Nat) : State :=
  let key := nodeKey n k c
  if red > 10 then
    let first := !s.dsp.limiting.any (fun x => x / 512 == key / 512)
    let s := { s with dsp := { s.dsp with limiting := withN s.dsp.limiting key } }
    (if first then s.fire Ev.LIMIT_ACTIVE (objId 5 64 n) (n + 256 * k + 2 ^ 18 * min red 16383) else s).refreshNodeRaw
  else { s with dsp := { s.dsp with limiting := without s.dsp.limiting key } }.refreshNodeRaw

/-- A meter's completed window enters or leaves METER_THRESH (R315, R324). -/
def State.meterCond (s : State) (n k c : Nat) (above : Bool) : State :=
  let key := nodeKey n k c
  if above then
    if s.dsp.metering.contains key then s
    else ({ s with dsp := { s.dsp with metering := key :: s.dsp.metering } }.fire Ev.METER_THRESH (objId 5 64 n)
      (n + 256 * k + 2 ^ 18 * c)).refreshNodeRaw
  else { s with dsp := { s.dsp with metering := without s.dsp.metering key } }.refreshNodeRaw

/-- The release of a number. -/
def State.rel (s : State) (id : Nat) : Option Release := s.dsp.rels.find? (fun r => r.id == id)

/-- One channel of a node runs within a sheet. -/
def State.runChan (s : State) (id k c : Nat) (nodes : List Node) : State :=
  match s.rel id with
  | none => s
  | some r =>
    let d := nodes.getD k {}
    let key := nodeKey r.sk k c
    let line := KV.get [] s.dsp.lines key
    let src := fun i => r.src nodes k d (d.srcs.getD i 0xFFFF)
    let (o, s) := s.evalNode id k c d src (KV.get [] s.dsp.nst key) line
    let blk := if r.ecc.contains (k * 512 + c) then { v := List.replicate (codeLen d.rate) 0 } else o.blk
    let keep := ceilDiv d.maxDelay (codeLen d.rate) + 2
    let s := { s with dsp := { s.dsp with
        nst := KV.put [] s.dsp.nst key o.st
        lines := if d.ty = tyDELAY then KV.set s.dsp.lines key ((src c :: line).take keep) else s.dsp.lines } }
    let newSat := o.sat && !r.sat.contains k
    let s := s.mapRels (fun q => if q.id = id then { q with
        res := KV.set q.res (k * 512 + c) blk, sat := if o.sat then withN q.sat k else q.sat
        lim := q.lim || decide (o.red > 10) } else q)
    let s := if newSat then s.fire Ev.SAT_CLIP (ownerObj r.owner) (r.owner + 65536 * k) else s
    let s := if d.ty = tyLIMIT then s.limitCond r.owner k c o.red else s
    let s := match o.window with
      | some p => s.meterCond r.owner k c (exceeds (parI16 d.par 2) [(p : Int)])
      | none => s
    if d.outPp = 0xFFFF || isBus d.outPp || !r.outs.contains (d.outPp + c) then s
    else s.putOut r.tick (d.outPp + c) blk

/-- The sheets of a rate conversion run: the converted blocks, whose values the spec leaves open (R319). -/
def State.runConvert (s : State) (r : Release) (x : SheetC) : State :=
  let e := r.owner - 0x200
  let b := s.rxB e
  x.slices.foldl (fun s q => (List.range q.2.2).foldl (fun s i =>
    let (v, s) := s.openSamples (List.replicate (3 * rateMul (bRate b)) false)
    s.putOut r.tick (bFirst b + q.2.1 + i) { v := v, ok := true }) s) s

/-- A sheet's state changed. -/
def State.setSheet (s : State) (id i st : Nat) : State :=
  s.mapRels (fun r => if r.id = id then { r with sheets := setAt r.sheets i { r.sheets.getD i { home := 0 } with st := st } } else r)

/-- An owner that has stopped and has no release left frees its charge (R321). -/
def State.sweepOwner (s : State) (o : Nat) : State :=
  if (KV.find s.dsp.run o).isNone && !s.dsp.rels.any (fun r => r.owner == o) then s.freeOwner o else s

/-- A release whose sheets are all complete or abandoned ends (R298, R326). -/
def State.endRelease (s : State) (id : Nat) : State :=
  match s.rel id with
  | none => s
  | some r =>
    if r.sheets.any (fun x => x.st == 0 || x.st == 1 || x.st == 4) then s
    else
      let lost := (r.sheets.filter (fun x => x.st == 3)).length
      let s := { s with dsp := { s.dsp with rels := s.dsp.rels.filter (fun q => q.id != id) } }
      let s := match KV.find s.dsp.run r.owner with
        | none => s
        | some x => s.setOwner r.owner { x with
            satTicks := if r.sat.isEmpty then x.satTicks else inc32 x.satTicks
            limTicks := if r.lim then inc32 x.limTicks else x.limTicks
            misses := if lost = 0 then x.misses else inc32 x.misses
            abandoned := satNat 32 (x.abandoned + lost)
            missSec := if lost = 0 then x.missSec else s.now.sec % 2 ^ 32
            missNs := if lost = 0 then x.missNs else s.now.ns }
      let s := if lost = 0 then s
        else (s.flagWindow.incSat F.SCHED_MISSES).fire Ev.DEADLINE_MISS (ownerObj r.owner)
          (r.owner + 1024 * b2n r.comp.cc.isSome + 65536 * lost)
      s.sweepOwner r.owner

/-- Sheets that depend on a sheet, directly or through others, with it. -/
def dependents (l : List SheetC) (i : Nat) : List Nat :=
  (List.range l.length).foldl (fun acc j =>
    if j = i || (l.getD j { slices := [], cost := 0 }).preds.any (acc.contains ·) then acc ++ [j] else acc) []

/-- A Burin's job, and the Burin idle. -/
def State.job (s : State) (b : Nat) : Option Job := KV.find s.dsp.busy b
def State.idle (s : State) (b : Nat) : State := { s with dsp := { s.dsp with busy := KV.erase s.dsp.busy b } }
def State.setJob (s : State) (b : Nat) (j : Job) : State := { s with dsp := { s.dsp with busy := KV.set s.dsp.busy b j } }

/-- A sheet is abandoned (R17, R298): its DELAY lines write zero for the tick, and a Burin that runs it stops. -/
def State.dropSheet (s : State) (id i : Nat) : State :=
  match s.rel id with
  | none => s
  | some r =>
    let x := r.sheets.getD i { home := 0 }
    if x.st = 2 || x.st = 3 then s
    else
      let nodes := imgNodeList r.img
      let c := r.comp.sheets.getD i { slices := [], cost := 0 }
      let s := if r.owner ≥ 0x200 then s
        else c.slices.foldl (fun s q =>
          let d := nodes.getD q.1 {}
          if d.ty = tyDELAY then (List.range q.2.2).foldl (fun s j =>
            let key := nodeKey r.sk q.1 (q.2.1 + j)
            let keep := ceilDiv d.maxDelay (codeLen d.rate) + 2
            let line := (({ v := List.replicate (codeLen d.rate) 0 } : Blk) :: KV.get [] s.dsp.lines key).take keep
            { s with dsp := { s.dsp with lines := KV.set s.dsp.lines key line } }) s
          else s) s
      let s := s.setSheet id i 3
      (List.range 64).foldl (fun s b => if s.job b = some (.sheet id i) then s.idle b else s) s

/-- A sheet and its dependents are abandoned. -/
def State.dropFrom (s : State) (id i : Nat) : State :=
  match s.rel id with
  | none => s
  | some r => ((dependents r.comp.sheets i).foldl (fun s j => s.dropSheet id j) s).endRelease id

/-! ## The search for work (R287 to R289) -/

/-- A ready sheet as the search orders it: latest start, release, home, number; and where it is. -/
def State.readyIn (s : State) (b : Nat) : List (Int × Nat × Nat × Nat) :=
  s.dsp.rels.flatMap (fun r =>
    let rem := remains r.comp.sheets
    (List.range r.sheets.length).filterMap (fun i =>
      let x := r.sheets.getD i { home := 0 }
      if x.home = b && x.st = 4 then
        some ((r.at_ : Int) + 150000 - (rem.getD i 0 : Nat), r.id, (r.comp.sheets.getD i { slices := [], cost := 0 }).home, i)
      else none))

/-- Whether one ready sheet comes before another (R287, Ties). -/
def sooner (a b : Int × Nat × Nat × Nat) : Bool :=
  decide (a.1 < b.1) || (a.1 == b.1 && (decide (a.2.1 < b.2.1) || (a.2.1 == b.2.1 && (decide (a.2.2.1 < b.2.2.1) ||
    (a.2.2.1 == b.2.2.1 && decide (a.2.2.2 < b.2.2.2))))))

/-- The first of the ready sheets in a list of trays. -/
def State.bestOf (s : State) (trays : List Nat) : Option (Int × Nat × Nat × Nat) :=
  (trays.flatMap s.readyIn).foldl (fun best x => match best with
    | none => some x
    | some a => if sooner x a then some x else some a) none

/-- The in-service ring neighbours of a Burin to the depth of RING. -/
def State.neighbours (s : State) (b : Nat) : List Nat :=
  let depth := [1, 2, 4].getD (s.getF F.SCHED_CTL_RING) 4
  let up := ((List.range 63).map (fun i => (b + 1 + i) % 64)).filter s.inService
  let down := ((List.range 63).map (fun i => (b + 63 - i) % 64)).filter s.inService
  up.take depth ++ down.take depth

/-- `n` trays of the Burin's own pseudo-random sequence: open values. -/
def State.probes (s : State) : Nat → List Nat × State
  | 0 => ([], s)
  | n + 1 =>
    let (d, s) := s.draw
    let (l, s) := State.probes s n
    ((Config.random32 d).toNat % 64 :: l, s)

/-- A Burin starts a sheet at cycle `now`: waits, lifts and late starts are counted (R289, R297). -/
def State.startSheet (s : State) (b now : Nat) (c : Int × Nat × Nat × Nat) : State :=
  let id := c.2.1
  let i := c.2.2.2
  match s.rel id with
  | none => s
  | some r =>
    let x := r.sheets.getD i { home := 0 }
    let s := (s.setSheet id i 1).setJob b (.sheet id i)
    let wait := (now - x.ready) / 6
    let s := { s with dsp := { s.dsp with qd := wait :: s.dsp.qd } }
    let s := if wait > s.getF F.SCHED_PEAK_QDELAY then s.setSat F.SCHED_PEAK_QDELAY wait else s
    let s := if x.home = b then s
      else
        let s := ((s.incSat F.SCHED_LIFTS).incSat (F.BUR_LIFTED_FROM x.home)).incSat (F.BUR_LIFTED_BY b)
        match KV.find s.dsp.run r.owner with
        | some o => s.setOwner r.owner { o with lifted := inc32 o.lifted }
        | none => s
    if (now : Int) > c.1 then
      (s.incSat F.SCHED_STARVES).fire Ev.LIFT_STARVE (ownerObj r.owner)
        (c.2.2.1 + 65536 * satNat 16 (((now : Int) - c.1).toNat / 6))
    else s

/-- The backing class served next, from the one after the last (R295, R299): in LISTEN only the classes that need
no Ream; the slices of a SELFTEST, and of tests that mismatches ask for, go first (R300, R429). -/
def State.nextClass (s : State) : Nat :=
  let ok := fun c => s.getF F.PWR_STATUS_STATE != 2 || (c != 1 && c != 2)
  let testing := match s.car.longOp with
    | some l => l.idx == 6
    | none => false
  if testing || !s.pair.test.isEmpty then 0
  else ((List.range 6).map (fun i => (s.dsp.backNext + i) % 6)).find? ok |>.getD 0

/-- A Burin searches for work at cycle `now` (R287). -/
def State.search (s : State) (b now : Nat) : State :=
  if !s.burinRuns b then s.idle b
  else match s.bestOf [b] with
    | some c => s.startSheet b now c
    | none => match s.bestOf (s.neighbours b) with
      | some c => s.startSheet b now c
      | none =>
        let (l, s) := s.probes (s.getF F.SCHED_CTL_PROBES)
        match s.bestOf l with
        | some c => s.startSheet b now c
        | none =>
          let c := s.nextClass
          let s := { s with dsp := { s.dsp with backNext := (c + 1) % 6 } }
          s.setJob b (.backing c)

/-- SHEET_COMPLETE (R284, R287): the sheet Burin `b` runs completes `c` cycles after the last tick boundary; what it
computed takes effect, and the Burin searches again. -/
def sheetComplete (b c : Nat) (s : State) : State :=
  match s.job b with
  | some (.sheet id i) =>
    match s.rel id with
    | none => s.idle b
    | some r =>
      let now := s.nowCyc c
      let x := r.comp.sheets.getD i { slices := [], cost := 0 }
      let nodes := imgNodeList r.img
      let s := s.idle b
      let s := if r.owner ≥ 0x200 then s.runConvert r x
        else x.slices.foldl (fun s q => (List.range q.2.2).foldl (fun s j => s.runChan id q.1 (q.2.1 + j) nodes) s) s
      let s := (s.setSheet id i 2).incSat (F.BUR_SHEETS_RUN b)
      let s := { s with dsp := { s.dsp with busyD := KV.put 0 s.dsp.busyD b (KV.get 0 s.dsp.busyD b + x.cost) } }
      let took := (now - r.at_) / 6
      let s := if took > s.getF F.SCHED_PEAK_COMPLETE then s.setSat F.SCHED_PEAK_COMPLETE took else s
      ((s.readySheets now).endRelease id).search b now
  | _ => s

/-- BURIN_IDLE_RETRY (R287): an idle Burin searches again. -/
def burinIdleRetry (b c : Nat) (s : State) : State :=
  match s.job b with
  | none => s.search b (s.nowCyc c)
  | some _ => s

/-- The field of a class's interval. -/
def State.backingPct (s : State) (c : Nat) : Nat := s.getF (F.SCHED_BACKING c)

/-- BACKING_SLICE_END (R299): the slice ends; where it ends a round of its class, `pct` is the round's interval in
per cent of nominal. -/
def backingSliceEnd (b c : Nat) (pct : Option Nat) (s : State) : State :=
  match s.job b with
  | some (.backing k) =>
    let s := s.idle b
    let s := { s with dsp := { s.dsp with busyB := KV.put 0 s.dsp.busyB b (KV.get 0 s.dsp.busyB b + 3000) } }
    let s := match pct with
      | none => s
      | some p =>
        let was := s.backingPct k
        let s := s.setSat (F.SCHED_BACKING k) p
        let s := if p > 200 && was ≤ 200 then s.fire Ev.BACKING_STRETCH (objId 5 b 0) k else s
        s.setRaw Ev.BACKING_STRETCH ((List.range 6).any (fun i => decide (s.backingPct i > 200)))
    s.search b (s.nowCyc c)
  | _ => s

/-- SHEET_DEADLINE (R17, R298): the sheets of every release whose deadline has come and that are not complete are
abandoned; control graphs have no deadline of a tick. -/
def State.deadlines (s : State) (now : Nat) : State :=
  let due := s.dsp.rels.filter (fun r => r.comp.cc.isNone && decide (r.tick + 4 ≤ now))
  due.foldl (fun s r => ((List.range r.sheets.length).foldl (fun s i => s.dropSheet r.id i) s).endRelease r.id) s
def sheetDeadline (s : State) : State :=
  let due := s.dsp.rels.filter (fun r => r.comp.cc.isNone)
  match due.map (fun r => r.tick + 4) with
  | [] => s
  | t :: l => s.atTick (l.foldl min t) (fun s => s.deadlines s.gridTick)

/-! ## Burins leaving and returning (R292 to R295, R300) -/

/-- Capacity and deckle are recomputed (R290, R301, R302). -/
def State.deckleChanged (s : State) (old : Nat) : State :=
  let s := s.refreshAdm
  let n := s.servants.length
  let k := s.deckle / 1000
  (s.fire Ev.DECKLE_CHANGE (objId 5 65 0) (k + 65536 * n)).logState orgPower (objId 5 65 0) (old / 1000) k

/-- A Burin leaves service (R292, R293, R302). -/
def State.burinOut (s : State) (b cause : Nat) : State :=
  if !s.inService b then s
  else
    let old := s.deckle
    let s := match s.job b with
      | some (.sheet id i) => (s.idle b).dropFrom id i
      | some (.backing _) => s.idle b
      | none => s
    let s := (s.setF (F.BUR_STATUS_STATE b) cause).setRaw Ev.BURIN_OUT true
    let s := (s.fire Ev.BURIN_OUT (objId 5 b 0) (b + 256 * cause)).logState orgPower (objId 5 b 0) 0 cause
    s.deckleChanged old

/-- A Burin returns to service (R294, R302). -/
def State.burinIn (s : State) (b : Nat) : State :=
  if s.inService b then s
  else
    let old := s.deckle
    let was := s.getF (F.BUR_STATUS_STATE b)
    let s := (s.setF (F.BUR_STATUS_STATE b) 0).logState orgPower (objId 5 b 0) was 0
    let s := s.setRaw Ev.BURIN_OUT (s.servants.length != 64)
    s.deckleChanged old

/-- One self-test of a Burin (R294, R300): `part` is the part that fails, 0 where none does. -/
def State.burinTest (s : State) (b part : Nat) : State :=
  let s := s.setF (F.BUR_LAST_TEST b) s.now.sec
  if part = 0 then
    let s := s.incSat (F.BUR_TESTS_PASS b)
    let st := s.getF (F.BUR_STATUS_STATE b)
    if (st = 1 || st = 2) && s.on (F.BUR_CTL_EN b) then s.burinIn b else s
  else
    let s := (s.incSat (F.BUR_TESTS_FAIL b)).fire Ev.SELFTEST_FAIL (objId 5 b 0) (b + 256 * part)
    s.burinOut b 1

/-- BURIN_SELFTEST_DUE (R300, R429): the next running Burin in number order is tested; Burins to test after mismatches
come first, and a failure of one holds health cause 4. -/
def burinSelftestDue (part : Nat) (s : State) : State :=
  match s.pair.test with
  | b :: l =>
    { s with pair := { s.pair with test := l, burinFail := s.pair.burinFail || part != 0 } }.burinTest b part
  | [] => match ((List.range 64).map (fun i => (s.dsp.testNext + i) % 64)).find? s.burinRuns with
  | none => s
  | some b => { s with dsp := { s.dsp with testNext := (b + 1) % 64 } }.burinTest b part

/-- A memory error in a Burin (R282). -/
def State.burinEcc (s : State) (a : EccAt) : State :=
  let stop := fun (s : State) b => match s.job b with
    | some (.sheet id i) => (s.idle b).dropFrom id i
    | _ => s
  match a with
  | .sample b unc =>
    let s := if unc then stop s b else s.incSat (F.BUR_ECC_SAMPLE b)
    s.fire Ev.SAMPLE_MEM_ECC (objId 5 b 0) (b + 256 * b2n unc)
  | .ucode b unc =>
    let s := if unc then s.burinOut b 2 else s.incSat (F.BUR_ECC_UCODE b)
    s.fire Ev.UCODE_ECC (objId 5 b 0) (b + 256 * b2n unc)
  | _ => s

/-- Sheets homed on a Burin out of service move to others, at the boundary after it left (R293). -/
def State.rehome (s : State) : State :=
  let move := s.dsp.comp.any (fun q => q.2.sheets.any (fun x => !s.inService x.home))
  if !move || s.servants.isEmpty then s
  else
    let comp := s.dsp.comp.foldl (fun (m : KV OwnerC) q =>
      let o := KV.get {} m q.1
      KV.set m q.1 { o with sheets := (List.range o.sheets.length).foldl (fun l i =>
        let x := l.getD i { slices := [], cost := 0 }
        if s.inService x.home then l
        else
          let others := (KV.erase m q.1).map (·.2) ++ [{ o with sheets := dropAt i l }]
          let h := (s.homeOf others o.r x).getD (s.servants.foldl (fun a b =>
            if (homedOn others b).2.2 < (homedOn others a).2.2 then b else a) (s.servants.headD 0))
          setAt l i { x with home := h }) o.sheets }) s.dsp.comp
    { s with dsp := { s.dsp with comp := comp } }.refreshAdm

/-- A list in rising order. -/
def putSorted (n : Nat) : List Nat → List Nat
  | [] => [n]
  | a :: l => if n ≤ a then n :: a :: l else a :: putSorted n l
def sorted (l : List Nat) : List Nat := l.foldl (fun acc n => putSorted n acc) []

/-- p99 of a list of numbers by nearest rank. -/
def p99 (l : List Nat) : Nat :=
  let s := sorted l
  s.getD ((l.length * 99 + 99) / 100 - 1) 0

/-- The second of the scheduler and the Burins ends (R303, R304, R306). -/
def State.burinSecond (s : State) : State :=
  let s := (s.setSat F.SCHED_QDELAY_P99 (p99 s.dsp.qd)).setSat F.SCHED_QDELAY_MAX (s.dsp.qd.foldl max 0)
  let s := (List.range 64).foldl (fun s b =>
    (s.setSat (F.BUR_BUSY_DEADLINE b) (KV.get 0 s.dsp.busyD b / 60000)).setSat (F.BUR_BUSY_BACKING b) (KV.get 0 s.dsp.busyB b / 60000)) s
  { s with dsp := { s.dsp with
      qd := [], busyD := [], busyB := []
      run := KV.mapV (fun _ (x : OwnerRun) => { x with liftedLast := x.lifted, lifted := 0 }) s.dsp.run } }

end Sys2Proof.Machine
end

