-- ==== Sys2Proof/Machine/Graph.lean ====
section
/-!
DEFINITION. Machine/Graph.lean: graphs and their commands (R306, R310 to R326): images, enabling, live parameters,
bank swaps, the safe state, and what a tick boundary releases.
-/

namespace Sys2Proof.Machine

/-! ## Objects and images (R310, R311) -/

/-- The object ID of the graph table. -/
def graphTable : Nat := 0x0540FFFF

/-- The graph an object names: whether it is of the inactive bank, and its number. -/
def graphOf (obj : Nat) : Option (Bool × Nat) :=
  let (sub, u, e) := objParts obj
  if sub = 5 && u = 64 then
    (if e < 256 then some (false, e) else if 0x4000 ≤ e && e < 0x4100 then some (true, e - 0x4000) else none)
  else none

/-- The key of a graph in images and flags. -/
def State.gKey (s : State) (g : Bool × Nat) : Nat := (if g.1 then 1 - s.gBank else s.gBank) * 256 + g.2

/-- An image's bytes from an offset on, zeros where nothing was written. -/
def imgBytes (img : List Byte) (off n : Nat) : List Byte := (List.range n).map (fun i => img.getD (off + i) 0#8)

/-- An image with bytes written at an offset, held to its length. -/
def putImg (img : List Byte) (off : Nat) (data : List Byte) : List Byte :=
  let base := if img.length < off then img ++ List.replicate (off - img.length) 0#8 else img
  let new := base.take off ++ data ++ base.drop (off + data.length)
  new.take (max 16 (gLen new))

/-- Whether a graph is configured: its header is not all zeros. -/
def configured (img : List Byte) : Bool := (img.take 16).any (· != 0#8)

/-- Image bytes of configured graphs in both banks. -/
def imageTotal (m : KV (List Byte)) : Nat := m.foldl (fun a q => a + (if configured q.2 then gLen q.2 else 0)) 0

/-- The graph table's counts follow its graphs (Table 13.9). -/
def State.refreshGrt (s : State) : State :=
  let on := (List.range 256).filter (s.gOn s.gBank)
  let s := s.setF F.GRT_USED_GRAPHS on.length
  let s := s.setF F.GRT_XPOINTS (on.foldl (fun a n => a + (KV.get {} s.dsp.comp n).xpoints) 0)
  s.setSat F.GRT_IMAGE_BYTES (imageTotal s.dsp.img)

/-- An image stored, with new parity. -/
def State.storeImg (s : State) (key : Nat) (img : List Byte) : State :=
  { s with dsp := { s.dsp with
      img := if configured img then KV.set s.dsp.img key img else KV.erase s.dsp.img key
      bad := without s.dsp.bad key } }.refreshGrt

/-- Whether a graph's image may be written (R311): of the inactive bank with no swap pending, or of the active bank
with its flag clear. -/
def State.imgFree (s : State) (g : Bool × Nat) : Bool :=
  if g.1 then s.dsp.swap.isNone else !s.dsp.flag.contains (s.gKey g)

/-- An image write checked and stored (R311). -/
def State.writeImg (s : State) (q : Req) (g : Bool × Nat) (off : Nat) (data : List Byte) (lenAt : Nat) : OpOut :=
  if !s.imgFree g then .err stBAD_STATE
  else
    let key := s.gKey g
    let new := putImg (KV.get [] s.dsp.img key) off data
    if configured new && (gLen new > 262144 || gLen new % 4 ≠ 0) then .bad lenAt
    else if off + data.length > max 16 (gLen new) then .bad 20
    else if imageTotal (KV.set s.dsp.img key new) > 327680 then .err stNO_RESOURCE
    else .done (s.storeImg key new) [] (some q.obj)

/-- SET of a graph header (R310). -/
def opGraphSet (q : Req) (s : State) : OpOut :=
  match graphOf q.obj with
  | none => .bad 16
  | some g => if q.params.length ≠ 20 then badLen else s.writeImg q g 0 (q.params.drop 4) 28

/-- GET of a graph header. -/
def opGraphGet (q : Req) (s : State) : OpOut :=
  match graphOf q.obj with
  | none => .bad 16
  | some g => if q.params.length ≠ 4 then badLen else .done s (imgBytes (KV.get [] s.dsp.img (s.gKey g)) 0 16) none

/-- GRAPH_LOAD (R311). -/
def opGraphLoad (q : Req) (s : State) : OpOut :=
  let n := q.params.length - 8
  if q.params.length < 12 || n > 4072 || n % 4 ≠ 0 then badLen
  else match graphOf q.obj with
    | none => .bad 16
    | some g =>
      let off := q.field 4 4
      if off % 4 ≠ 0 || off ≥ 262144 then .bad 20
      else s.writeImg q g off (q.params.drop 8) (if off ≤ 8 then 32 - off else 20)

/-- GRAPH_READ (R311). -/
def opGraphRead (q : Req) (s : State) : OpOut :=
  if q.params.length ≠ 16 then badLen
  else match graphOf q.obj with
    | none => .bad 16
    | some g =>
      let img := KV.get [] s.dsp.img (s.gKey g)
      let off := q.field 4 4
      let n := q.field 8 4
      if n < 4 || n > 4072 then .bad 24
      else if off + n > gLen img then .bad 20
      else if q.field 12 4 ≠ 0 then .bad (q.firstSet 12 4)
      else .done s (imgBytes img off n) none

/-! ## Enabling and disabling (R320, R321) -/

/-- The owners charged now but those of a list of keys. -/
def State.othersOf (s : State) (keys : List Nat) : List OwnerC := (s.dsp.comp.filter (fun q => !keys.contains q.1)).map (·.2)

/-- Committed load once the pending swaps have taken place. -/
def State.loadAfterSwaps (s : State) : Nat :=
  chargeOf ((s.dsp.comp.filter (fun q =>
    if q.1 < 256 then s.dsp.swap.isNone else s.str.rxSwap.isNone)).map (·.2)) + chargeOf (s.dsp.next.map (·.2))

/-- Admission of owners beside those charged now, and beside those a pending swap brings in where the owners outlast
it (R290, R291). -/
def State.admitNow (s : State) (l : List (Nat × OwnerC)) (good outlasts : Bool) : Admit :=
  match s.admission (s.othersOf (l.map (·.1))) l good with
  | .refuse st => .refuse st
  | .ok r =>
    if outlasts && !s.dsp.next.isEmpty && decide (s.loadAfterSwaps + chargeOf (l.map (·.2)) > s.deckle) then .refuse stNO_RESOURCE
    else .ok r

/-- The outputs of the enabled graphs of the active bank but one. -/
def State.takenOutputs (s : State) (n : Nat) : List Nat :=
  ((List.range 256).filter (fun i => i != n && s.gOn s.gBank i)).flatMap (fun i => outPps (imgNodeList (s.gImg i)))

/-- The nodes of an image checked against steps 1 to 3 of Table 13.6; answers the node at fault. -/
def State.graphFault (s : State) (img : List Byte) (taken : List Nat) : Option Nat :=
  match s.imgFault img with
  | some k => some k
  | none =>
    let nodes := imgNodeList img
    match s.rateFault nodes with
    | some k => some k
    | none => overlapFault taken nodes

/-- The checks of Table 13.6 for one graph of the active bank: admitted with its homes, or refused with the status,
the detail and the traces. -/
def State.graphCheck (s : State) (n : Nat) : OpOut ⊕ List (Nat × OwnerC) :=
  let img := s.gImg n
  match s.graphFault img (s.takenOutputs n) with
  | some k => .inl (.fail stBAD_PARAM 0xFFFF k)
  | none =>
    let (good, o) := s.compileGraph img
    let xp := ((List.range 256).filter (fun i => i != n && s.gOn s.gBank i)).foldl (fun a i => a + (KV.get {} s.dsp.comp i).xpoints) o.xpoints
    if xp > 65536 then .inl (.err stNO_RESOURCE)
    else if o.lines > 0 && !s.reamFits s.jitterGran (s.delayGran + o.gran) (s.delayLines + o.lines) then
      .inl (.failWith (s.reamFull o.gran) stNO_RESOURCE 0xFFFF 0)
    else match s.admitNow [(n, o)] good false with
      | .refuse st => .inl (.failWith (s.admitRefused o.charge) st 0xFFFF (if st = stBAD_PARAM then 0xFFFF else 0))
      | .ok l => .inr l

/-- A graph whose checks have passed starts: released from tick `start` on, from zero state. -/
def State.graphStart (s : State) (n : Nat) (l : List (Nat × OwnerC)) (start : Nat) : State :=
  let gen := 1 - (s.ownerRun n).gen
  let s := { s with dsp := { s.dsp with flag := withN s.dsp.flag (s.gBank * 256 + n) } }
  let s := s.clearKey (n + 1024 * gen)
  let bad := s.dsp.bad.contains (s.gBank * 256 + n)
  ((s.setOwner n { st := if bad then 3 else 1, start := start, gen := gen }).commitOwners l).refreshGrt

/-- A graph's flag is cleared: no release from tick `stop` on (R321). -/
def State.graphStop (s : State) (n stop : Nat) : State :=
  let s := { s with dsp := { s.dsp with flag := without s.dsp.flag (s.gBank * 256 + n) } }
  let s := match KV.find s.dsp.run n with
    | some x => s.setOwner n { x with stop := some stop }
    | none => s
  s.refreshGrt

/-- ENABLE of a graph (R310, R320). -/
def opGraphEnable (q : Req) (s : State) : OpOut :=
  if q.params.length ≠ 4 then badLen
  else match graphOf q.obj with
    | none => .bad 16
    | some g =>
      let key := s.gKey g
      if !configured (KV.get [] s.dsp.img key) then .fail stNOT_FOUND 16 0
      else if s.dsp.flag.contains key then .done s [] none
      else if g.1 then
        if s.dsp.swap.isSome then .err stBAD_STATE
        else .done ({ s with dsp := { s.dsp with flag := withN s.dsp.flag key } }) [] (some q.obj)
      else match s.graphCheck g.2 with
        | .inl f => f
        | .inr l => .done (s.graphStart g.2 l (s.ticksAhead 2)) [] (some q.obj)

/-- DISABLE of a graph (R321). -/
def opGraphDisable (q : Req) (s : State) : OpOut :=
  if q.params.length ≠ 4 then badLen
  else match graphOf q.obj with
    | none => .bad 16
    | some g =>
      let key := s.gKey g
      if !s.dsp.flag.contains key then .done s [] none
      else if g.1 then
        if s.dsp.swap.isSome then .err stBAD_STATE
        else .done ({ s with dsp := { s.dsp with flag := without s.dsp.flag key } }) [] (some q.obj)
      else .done (s.graphStop g.2 (s.ticksAhead 2)) [] (some q.obj)

/-- A graph's state code (Table 13.7). -/
def State.graphState (s : State) (n : Nat) : Nat := if s.gOn s.gBank n then (s.ownerRun n).st else 0

/-- STATUS of a graph (Table 13.10). -/
def opGraphStatus (q : Req) (s : State) : OpOut :=
  if q.params.length ≠ 4 then badLen
  else match graphOf q.obj with
    | none => .bad 16
    | some g =>
      let img := KV.get [] s.dsp.img (s.gKey g)
      let x := if g.1 then {} else s.ownerRun g.2
      let c : OwnerC := if g.1 then {} else KV.get {} s.dsp.comp g.2
      .done s (leBytes 1 (if g.1 then 0 else s.graphState g.2) ++ leBytes 1 (gKind img) ++ leBytes 2 (gNodes img) ++
        leBytes 4 (gLen img) ++ leBytes 4 ((imgNodeList img).foldl (fun a d => a + d.xpoints) 0) ++ leBytes 4 c.bytes ++
        leBytes 4 x.satTicks ++ leBytes 4 x.limTicks) none

/-- GRAPH_SCHED (R306, Table 12.11). -/
def opGraphSched (q : Req) (s : State) : OpOut :=
  if q.params.length ≠ 4 then badLen
  else
    let (sub, u, e) := objParts q.obj
    let block := fun (o kind : Nat) =>
      let c : OwnerC := KV.get {} s.dsp.comp o
      let x := s.ownerRun o
      let st := if (KV.find s.dsp.comp o).isNone then 0 else if s.getF F.PWR_STATUS_STATE = 2 then 2 else 1
      OpOut.done s (leBytes 1 st ++ leBytes 1 kind ++ leBytes 2 c.perTick ++ leBytes 4 c.charge ++ leBytes 4 c.crit ++
        leBytes 4 x.misses ++ leBytes 4 x.abandoned ++ leBytes 4 x.liftedLast ++ leBytes 4 x.missSec ++ leBytes 4 x.missNs) none
    if sub = 5 && u = 64 && e < 256 then
      if configured (s.gImg e) then block e (gKind (s.gImg e)) else .fail stNOT_FOUND 16 0
    else if sub = 4 && u = 0 && e < 512 then
      if (s.rxB e).all (· == 0#8) then .fail stNOT_FOUND 16 0
      else if bBind (s.rxB e) = 2 then block (0x200 + e) 2 else .bad 16
    else .bad 16

/-- METER_READ (R316). -/
def opMeterRead (q : Req) (s : State) : OpOut :=
  if q.params.length ≠ 12 then badLen
  else match graphOf q.obj with
    | none => .bad 16
    | some g =>
      let nodes := imgNodeList (KV.get [] s.dsp.img (s.gKey g))
      let k := q.field 4 2
      let f := q.field 6 2
      let n := q.field 8 2
      match nodes[k]? with
      | none => .bad 20
      | some d =>
        if d.ty ≠ tyMETER then .bad 20
        else if f ≥ d.ch then .bad 22
        else if n < 1 || n > 256 || f + n > d.ch then .bad 24
        else if q.field 10 2 ≠ 0 then .bad (q.firstSet 10 2)
        else
          let cell := fun c i => if g.1 then 0 else
            ((KV.get [] s.dsp.nst (nodeKey (s.stateKey g.2) k c)).getD i 0).toNat
          .done s (leBytes 2 n ++ leBytes 2 0 ++
            (List.range n).flatMap (fun i => leBytes 4 (cell (f + i) 3) ++ leBytes 4 (cell (f + i) 4))) none

/-! ## Live changes (R317) -/

/-- GRAPH_PARAM (R317). -/
def opGraphParam (q : Req) (s : State) : OpOut :=
  let n := q.params.length - 12
  if q.params.length < 14 || n > 4068 || n % 2 ≠ 0 then badLen
  else match graphOf q.obj with
    | none => .bad 16
    | some g =>
      let key := s.gKey g
      let img := KV.get [] s.dsp.img key
      let k := q.field 4 2
      let off := q.field 8 4
      let data := q.params.drop 12
      if g.1 && s.dsp.swap.isSome then .err stBAD_STATE
      else match (imgNodes img)[k]? with
        | none => .bad 20
        | some (at_, d) =>
          if d.ty = tyPILOT then .bad 20
          else if q.field 6 2 ≠ 0 then .bad (q.firstSet 6 2)
          else if off + n > 4 * d.len then .bad 24
          else if !s.dsp.flag.contains key || g.1 then
            .done (s.storeImg key (putImg img (at_ + off) data)) [] (some q.obj)
          else
            let p := 12 + 4 * d.nIn
            if off < p then .bad 24
            else match d.liveSpan n (off - p) 0 n with
              | none => .bad 24
              | some l =>
                match l.find? (fun f => !s.liveLegal d f.1 (leAt data f.2.1 f.2.2)) with
                | some f => .bad (28 + f.2.1)
                | none =>
                  let t := s.ticksAhead 1
                  if (match s.dsp.swap with
                      | some w => decide (t ≥ w.tick)
                      | none => false) then .err stBAD_STATE
                  else .done { s with dsp := { s.dsp with params := s.dsp.params ++
                      [{ tick := t, graph := g.2, node := k, off := at_ + off, data := data }] } } [] (some q.obj)

/-- Live values whose boundary has come apply, in execution order. -/
def State.applyParams (s : State) (now : Nat) : State :=
  let due := s.dsp.params.filter (fun p => decide (p.tick ≤ now))
  let s := { s with dsp := { s.dsp with params := s.dsp.params.filter (fun p => !decide (p.tick ≤ now)) } }
  due.foldl (fun s p =>
    let key := s.gBank * 256 + p.graph
    let img := KV.get [] s.dsp.img key
    if configured img then { s with dsp := { s.dsp with img := KV.set s.dsp.img key (putImg img p.off p.data) } } else s) s

/-- GRAPH_PARAM_APPLY (R317): the boundary of the earliest waiting values. -/
def graphParamApply (s : State) : State :=
  match s.dsp.params.map (·.tick) with
  | [] => s
  | t :: l => s.atTick (l.foldl min t) (fun s => s.applyParams s.gridTick)

/-! ## Bank swaps (R322) -/

/-- Whether a graph is enabled in both banks with identical structure. -/
def State.sameGraph (s : State) (n : Nat) : Bool :=
  s.gOn 0 n && s.gOn 1 n && decide (maskLive (s.gImgAt 0 n) = maskLive (s.gImgAt 1 n))

/-- Whether a graph differs between the banks. -/
def State.graphDiffers (s : State) (n : Nat) : Bool :=
  (s.gOn 0 n || s.gOn 1 n) && !(s.gOn 0 n && s.gOn 1 n && decide (s.gImgAt 0 n = s.gImgAt 1 n))

/-- Steps 1 to 3 of Table 13.6 on a set of graphs of a bank, in number order. -/
def State.setFault (s : State) (bank : Nat) : List Nat → List Nat → Option Nat
  | [], _ => none
  | n :: l, taken =>
    let img := s.gImgAt bank n
    match s.graphFault img taken with
    | some k => some k
    | none => s.setFault bank l (taken ++ outPps (imgNodeList img))

/-- The checks of a graph swap: the graphs of the inactive bank as one set. -/
def State.graphSwapCheck (s : State) : OpOut ⊕ List (Nat × OwnerC) :=
  let bank := 1 - s.gBank
  let l := (List.range 256).filter (s.gOn bank)
  if l.any (fun n => !configured (s.gImgAt bank n)) then .inl (.err stNOT_FOUND)
  else match s.setFault bank l [] with
    | some k => .inl (.fail stBAD_PARAM 0xFFFF k)
    | none =>
      let cs := l.map (fun n => (n, s.compileGraph (s.gImgAt bank n)))
      let os := cs.map (fun q => (q.1, q.2.2))
      let fresh := os.filter (fun q => !s.sameGraph q.1)
      let gran := fresh.foldl (fun a q => a + q.2.gran) 0
      let lines := fresh.foldl (fun a q => a + q.2.lines) 0
      if os.foldl (fun a q => a + q.2.xpoints) 0 > 65536 then .inl (.err stNO_RESOURCE)
      else if lines > 0 && !s.reamFits s.jitterGran (s.delayGran + gran) (s.delayLines + lines) then
        .inl (.failWith (s.reamFull gran) stNO_RESOURCE 0xFFFF 0)
      else
        let charge := chargeOf (os.map (·.2))
        match s.admission (s.othersOf (List.range 256)) os (cs.all (fun q => q.2.1)) with
        | .refuse st => .inl (.failWith (s.admitRefused charge) st 0xFFFF (if st = stBAD_PARAM then 0xFFFF else 0))
        | .ok r =>
          let entries := chargeOf ((s.dsp.next.filter (fun q => q.1 ≥ 256)).map (·.2))
          if s.str.rxSwap.isSome && decide (entries + charge > s.deckle) then .inl (.failWith (s.admitRefused charge) stNO_RESOURCE 0xFFFF 0)
          else .inr r

/-- A swap request that has passed waits for its boundary. -/
def State.graphSwapSet (s : State) (o : Origin) (l : List (Nat × OwnerC)) : State :=
  { s with dsp := { s.dsp with
      swap := some { tick := s.ticksAhead 2, origin := o }
      next := l.foldl (fun (m : KV OwnerC) (q : Nat × OwnerC) => KV.set m q.1 q.2) s.dsp.next } }.setF F.GRT_CTL_SWAP 1

/-- GRAPH_SWAP (R322). -/
def opGraphSwap (q : Req) (s : State) : OpOut :=
  if q.params.length ≠ 4 then badLen
  else if q.obj ≠ graphTable then .bad 16
  else if s.dsp.swap.isSome then .err stBAD_STATE
  else match s.graphSwapCheck with
    | .inl f => f
    | .inr l => .done (s.graphSwapSet q.origin l) [] (some q.obj)

/-- The swap takes place at its tick (R322, R325). -/
def State.graphSwapNow (s : State) : State :=
  match s.dsp.swap with
  | none => s
  | some w =>
    let old := s.gBank
    let t := s.gridTick
    let changed := ((List.range 256).filter s.graphDiffers).length
    let runs := (List.range 256).filterMap (fun n =>
      if !s.gOn (1 - old) n then none
      else
        let x := s.ownerRun n
        let bad := s.dsp.bad.contains ((1 - old) * 256 + n)
        some (n, s.sameGraph n, if s.sameGraph n && x.st != 3 then x
          else { st := if bad then 3 else 2, start := t, gen := 1 - x.gen }))
    let s := (List.range 256).foldl (fun s n => if s.sameGraph n then s else s.clearConds n) s
    let s := runs.foldl (fun s q => if q.2.1 then s else s.clearKey (q.1 + 1024 * q.2.2.gen)) s
    let s := { s with dsp := { s.dsp with
        run := runs.foldl (fun (m : KV OwnerRun) (q : Nat × Bool × OwnerRun) => KV.set m q.1 q.2.2) (s.dsp.run.filter (fun q => q.1 ≥ 256))
        comp := (s.dsp.next.filter (fun (q : Nat × OwnerC) => decide (q.1 < 256))).foldl (fun (m : KV OwnerC) (q : Nat × OwnerC) => KV.set m q.1 q.2) (s.dsp.comp.filter (fun (q : Nat × OwnerC) => decide (q.1 ≥ 256)))
        next := s.dsp.next.filter (fun q => q.1 ≥ 256)
        swap := none } }
    let s := ((s.modified.setF F.GRT_CTL_ACT_BANK (1 - old)).setF F.GRT_CTL_SWAP 0).incSat F.GRT_SWAPS
    let s := (s.refreshAdm.refreshReam).refreshGrt
    let s := s.logE w.origin.code w.origin.id kSTATE false graphTable old (1 - old)
    s.fire Ev.GRAPH_SWAPPED graphTable changed

/-- GRAPH_SWAP_AT_TSW. -/
def graphSwapAt (s : State) : State :=
  match s.dsp.swap with
  | none => s
  | some w => s.atTick w.tick State.graphSwapNow

/-! ## The safe state (R323) -/

/-- A graph enters SAFE: its outputs ramp to zero over 1 ms. -/
def State.graphToSafe (s : State) (n : Nat) : State :=
  match KV.find s.dsp.run n with
  | none => s
  | some x =>
    if x.st = 3 then s
    else
      let s := s.setOwner n { x with st := 3, ramp := ceilDiv s.tps 1000 }
      (s.clearConds n).logState orgIntegrity (objId 5 64 n) x.st 3

/-- A parity mismatch of a graph image (R323). -/
def State.graphParity (s : State) (bank n : Nat) : State :=
  let key := bank * 256 + n
  if s.dsp.bad.contains key || !configured (s.gImgAt bank n) then s
  else
    let s := { s with dsp := { s.dsp with bad := key :: s.dsp.bad } }
    let s := if s.on F.GRT_PAR_GRAPH_VALID then s
      else ((s.setF F.GRT_PAR_GRAPH_GRAPH n).setF F.GRT_PAR_GRAPH_BANK bank).setF F.GRT_PAR_GRAPH_VALID 1
    let s := s.parityReport 5 64 F.GRT_PAR_GRAPH_GRAPH.addr (n + 256 * bank)
    if bank = s.gBank then s.graphToSafe n else s

/-! ## What a tick boundary releases (R284, R285, R321) -/

/-- A graph in SAFE drives its ramp, then nothing (R323). -/
def State.safeRamp (s : State) (n tick : Nat) : State :=
  let x := s.ownerRun n
  if x.ramp = 0 then s
  else
    let nodes := imgNodeList (s.gImg n)
    let s := nodes.foldl (fun s d =>
      if d.outPp = 0xFFFF || isBus d.outPp then s
      else (List.range d.ch).foldl (fun s c =>
        if s.ppRate (d.outPp + c) = some d.rate then
          let (v, s) := s.openSamples (List.replicate (codeLen d.rate) false)
          s.putOut tick (d.outPp + c) { v := v }
        else s) s) s
    s.setOwner n { x with ramp := x.ramp - 1 }

/-- A graph's run at a boundary: it stops, starts, or is in SAFE; answers whether it is released. -/
def State.graphTurn (s : State) (n tick : Nat) : Bool × State :=
  let x := s.ownerRun n
  if (match x.stop with
      | some t => decide (t ≤ tick)
      | none => false) then
    (false, (({ s with dsp := { s.dsp with run := KV.erase s.dsp.run n } }.clearConds n).sweepOwner n))
  else if x.st = 3 then (false, s.safeRamp n tick)
  else if x.st = 1 && x.start > tick then (false, s)
  else (true, s.setOwner n { x with st := 2 })

/-- The releases of a tick boundary: media graphs and rate conversions, in owner order; `ecc` holds the delay lines
that met a memory error. None in a state other than RUN (R295), or while CLONING (Table 18.6). -/
def State.releaseTick (s : State) (tick : Nat) (ecc : List (Nat × Nat × Nat)) : State :=
  if s.getF F.PWR_STATUS_STATE ≠ 3 || s.getF F.ROLE_STATUS_STATE = 1 then s
  else
    let s := s.rehome
    let at_ := s.cyc600 tick
    let hit := fun n => (ecc.filter (fun e => e.1 == n)).map (fun e => e.2.1 * 512 + e.2.2)
    let s := (s.dsp.run.filter (fun q => q.1 < 256)).foldl (fun s q =>
      let (go, s) := s.graphTurn q.1 tick
      let c := KV.get {} s.dsp.comp q.1
      if go && c.cc.isNone then s.release q.1 c (s.gImg q.1) tick at_ s.dsp.inBlk (hit q.1) else s) s
    (s.dsp.comp.filter (fun q => q.1 ≥ 256)).foldl (fun s q =>
      if (KV.find s.dsp.run q.1).isSome then s.release q.1 q.2 [] tick at_ [] [] else s) s

/-- The control graphs a grid point of a generator releases (R285, R312). -/
def State.releaseControl (s : State) (gen : Nat) : State :=
  if s.getF F.PWR_STATUS_STATE ≠ 3 || s.getF F.ROLE_STATUS_STATE = 1 then s
  else
    let c := s.time.sec * s.rate + s.time.cyc
    let now := c * 600000000 / s.rate
    let blks := if s.str.lastTick = some s.gridTick then s.dsp.inPrev else s.dsp.inBlk
    (s.dsp.comp.filter (fun q => q.2.cc == some gen)).foldl (fun s q =>
      let x := s.ownerRun q.1
      if x.st ≠ 2 || (KV.find s.dsp.run q.1).isNone then s
      else if s.dsp.rels.any (fun r => r.owner == q.1) then
        s.fire Ev.CTRL_GRAPH_LATE (objId 5 64 q.1) (q.1 + 256 * gen)
      else s.release q.1 q.2 (s.gImg q.1) s.gridTick now blks []) s

/-- CC_GRID_POINT (R153, R285): the pulse, the lent event, the control graphs. -/
def ccGridPoint (n : Nat) (s : State) : State :=
  if s.on (F.CC_STATUS_RUNNING n) then (s.ccPulse n).releaseControl n else s

/-- A receive entry with BIND 2 begins or ends its rate conversion (R285, R319). -/
def State.convertStart (s : State) (e : Nat) : State :=
  let o := 0x200 + e
  let gen := 1 - (s.ownerRun o).gen
  s.setOwner o { st := 2, gen := gen }
def State.convertStop (s : State) (e : Nat) : State :=
  ({ s with dsp := { s.dsp with run := KV.erase s.dsp.run (0x200 + e) } }).sweepOwner (0x200 + e)

/-- Blocks of a tick taken over: those presented now, and the input blocks of the tick before. -/
def State.presentTick (s : State) (tick : Nat) : State :=
  { s with dsp := { s.dsp with
      present := KV.get [] s.dsp.outq tick
      outq := s.dsp.outq.filter (fun q => decide (q.1 > tick)) } }
def State.freshInputs (s : State) : State := { s with dsp := { s.dsp with inPrev := s.dsp.inBlk, inBlk := [] } }

/-- A step of the timebase by `ticks`: what is in flight moves with the grid (R246, R124). -/
def State.dspStep (s : State) (ticks : Int) : State :=
  let mv := fun (t : Nat) => ((t : Int) + ticks).toNat
  let cy := ticks * 600000000 / s.tps
  { s with dsp := { s.dsp with
      rels := s.dsp.rels.map (fun r => { r with
        tick := mv r.tick, at_ := ((r.at_ : Int) + cy).toNat
        sheets := r.sheets.map (fun x => { x with ready := ((x.ready : Int) + cy).toNat }) })
      run := KV.mapV (fun _ (x : OwnerRun) => { x with start := mv x.start, stop := x.stop.map mv }) s.dsp.run
      params := s.dsp.params.map (fun p => { p with tick := mv p.tick })
      outq := s.dsp.outq.map (fun q => (mv q.1, q.2)) } }

/-- What is in flight is given up: the Burins fall idle (R295). -/
def State.dspFlush (s : State) : State :=
  let s := { s with dsp := { s.dsp with rels := [], outq := [], present := [], inBlk := [], inPrev := [] } }
  let s := { s with dsp := { s.dsp with busy := s.dsp.busy.filter (fun q => match q.2 with
    | .sheet _ _ => false
    | .backing _ => decide (q.1 < 8)) } }
  (s.dsp.comp.map (·.1)).foldl (fun s o => s.sweepOwner o) s

end Sys2Proof.Machine
end

