-- ==== Sys2Proof/Machine/Admit.lean ====
section
/-!
DEFINITION. Machine/Admit.lean: admitting stream entries (Tables 10.2 and 11.2), their commands, bank swaps
(R250, R272) and pending entries (R219).
-/

namespace Sys2Proof.Machine

/-! ## Checks shared by both tables -/

/-- The first check of a list that fails, with what it answers. -/
def firstFail {α : Type} : List (Bool × α) → Option α
  | [] => none
  | (ok, a) :: l => if ok then firstFail l else some a

/-- Whether a frame of a block fits every port of its paths that runs with link up (step 3 of Table 10.2). -/
def State.framesFit (s : State) (b : List Byte) (v6 : Bool) : Bool :=
  (List.range 4).all (fun p => !onPath b p || !s.on (F.MAC_CTL_EN p) || !s.on (F.MAC_STATUS_LINK p) ||
    decide (s.frameLen p b v6 ≤ s.getF (F.MAC_MTU p)))

/-- Whether the patch points of a block overlap those of others. -/
def ppOverlap (b : List Byte) (l : List (List Byte)) : Bool :=
  l.any (fun x => decide (bFirst b < bFirst x + bChannels x) && decide (bFirst x < bFirst b + bChannels b))

/-- Ports judged for new rates (R219): none where one refuses, else the ports that step up and their speeds. -/
def State.portsFit (s : State) (rx tx : Nat → Nat) : Option (List (Nat × Nat)) :=
  (List.range 4).foldl (fun acc p => match acc with
    | none => none
    | some l => if rx p = 0 && tx p = 0 then some l
      else match s.portFit p (rx p) (tx p) with
        | .fits => some l
        | .step c => some (l ++ [(p, c)])
        | .refuse => none) (some [])

/-- Wire rates of blocks on a port. -/
def State.rxRates (s : State) (l : List (List Byte)) (p : Nat) : Nat :=
  l.foldl (fun a b => a + (if onPath b p then s.wireRate p b (rxV6 b) else 0)) 0
def State.txRates (s : State) (l : List (List Byte)) (p : Nat) : Nat :=
  l.foldl (fun a b => a + (if onPath b p then s.wireRate p b (txV6 b) else 0)) 0

/-- What the checks of an admission answer: a refusal with its traces, or the ports that step up and the owners
admitted. -/
abbrev Admission := OpOut ⊕ (List (Nat × Nat) × List (Nat × OwnerC))

/-! ## Receive entries (R231 to R235) -/

/-- Steps 1 to 4 of Table 10.2 for a block beside others. -/
def State.rxStatic (s : State) (b : List Byte) (others : List (List Byte)) : Option Nat :=
  firstFail [(bBind b != 2 || s.on (F.FD_CFG_EN (bFd b)), stBAD_STATE),
    (bBind b == 2 || rateFam (bRate b) == s.getF F.LOOP_MEDIA_FAMILY, stBAD_PARAM),
    (s.framesFit b (rxV6 b), stBAD_PARAM), (!ppOverlap b others, stBAD_PARAM)]

/-- Whether the multicast filters have room for blocks beside the groups joined (R209). -/
def State.filterRoom (s : State) (l : List (List Byte)) : Bool :=
  (List.range 4).all (fun p => decide ((dedupN (s.groupsWith p (s.rxIncoming ++ l) ++ (s.port p).oldGroups)).length ≤ 1024))

/-- Channel units of blocks. -/
def unitsOf (l : List (List Byte)) : Nat := l.foldl (fun a b => a + bUnits b) 0

/-- Table 10.2 for one entry beside the other enabled entries of the active bank. -/
def State.rxCheck (s : State) (e : Nat) : Admission :=
  let b := s.rxB e
  let others := (s.rxEnabled.filter (· ≠ e)).map s.rxB
  match s.rxStatic b others with
  | some st => .inl (.err st)
  | none =>
    let g := granules (s.jitterBytes b)
    if unitsOf (b :: others) > 4096 then .inl (.err stNO_RESOURCE)
    else if !s.reamFits (s.jitterGran + g) s.delayGran s.delayLines then .inl (.failWith (s.reamFull g) stNO_RESOURCE 0xFFFF 0)
    else if !s.filterRoom [b] then .inl (.err stNO_RESOURCE)
    else
      let o := compileEntry e b
      match (if bBind b = 2 then s.admitNow [(0x200 + e, o)] true true else .ok []) with
      | .refuse _ => .inl (.failWith (s.admitRefused o.charge) stNO_RESOURCE 0xFFFF 0)
      | .ok owners => match s.portsFit (s.rxRates [b]) (fun _ => 0) with
        | none => .inl (.err stNO_RESOURCE)
        | some steps => .inr (steps, owners)

/-- An admitted entry's flag is set; it runs while the table's EN is 1, pending where ports step up first. -/
def State.rxAdmit (s : State) (e : Nat) (a : List (Nat × Nat) × List (Nat × OwnerC)) : State :=
  let s := { s with str := { s.str with rxFlag := withN s.str.rxFlag (s.rxBank * 512 + e) } }
  let s := s.commitOwners a.2
  if !s.on F.RXT_CTL_EN then s.refreshRxt
  else
    let s := s.rxStart e (!a.1.isEmpty)
    let s := if a.2.isEmpty then s else s.convertStart e
    if a.1.isEmpty then s else s.stepUps a.1

/-- An entry's flag is cleared: it stops, its buffer and its charge are freed. -/
def State.rxRemove (s : State) (e : Nat) : State :=
  let s := { s with str := { s.str with rxFlag := without s.str.rxFlag (s.rxBank * 512 + e) } }
  let s := if (KV.find s.str.rx e).isSome then s.rxStop e else s.refreshRxt
  s.convertStop e

/-- ENABLE of a receive entry (R231, R233, R234). -/
def opRxEnable (q : Req) (s : State) : OpOut :=
  if q.params.length ≠ 4 then badLen
  else match entryOf s.rxBank (q.obj % 65536) with
    | none => .bad 16
    | some (bank, e) =>
      if bChannels (s.rxBlkAt bank e) = 0 then .fail stNOT_FOUND 16 0
      else if s.rxOn bank e then .done s [] none
      else if bank ≠ s.rxBank then
        if s.str.rxSwap.isSome then .err stBAD_STATE
        else .done { s with str := { s.str with rxFlag := withN s.str.rxFlag (bank * 512 + e) } } [] (some q.obj)
      else match s.rxCheck e with
        | .inl f => f
        | .inr a => .done (s.rxAdmit e a) [] (some q.obj)

/-- DISABLE of a receive entry. -/
def opRxDisable (q : Req) (s : State) : OpOut :=
  if q.params.length ≠ 4 then badLen
  else match entryOf s.rxBank (q.obj % 65536) with
    | none => .bad 16
    | some (bank, e) =>
      if !s.rxOn bank e then .done s [] none
      else if bank ≠ s.rxBank then
        if s.str.rxSwap.isSome then .err stBAD_STATE
        else .done { s with str := { s.str with rxFlag := without s.str.rxFlag (bank * 512 + e) } } [] (some q.obj)
      else .done (s.rxRemove e) [] (some q.obj)

/-- SET of a receive entry (R232, R233). -/
def opRxSet (q : Req) (s : State) : OpOut :=
  if q.params.length ≠ 68 then badLen
  else match entryOf s.rxBank (q.obj % 65536) with
    | none => .bad 16
    | some (bank, e) =>
      let b := q.params.drop 4
      match rxFault b with
      | some o => .bad (20 + o)
      | none =>
        if s.rxFrozen bank e then .err stBAD_STATE
        else .done (s.putRxBlk bank e b) [] (some q.obj)

/-- A block as GET returns it: 64 bytes. -/
def block64 (b : List Byte) : List Byte := if b.isEmpty then List.replicate 64 0 else b

/-- GET and STATUS of a receive entry (R231, Table 10.10). -/
def opRxGet (q : Req) (s : State) : OpOut :=
  match entryOf s.rxBank (q.obj % 65536) with
  | none => .bad 16
  | some (bank, e) => if q.params.length ≠ 4 then badLen else .done s (block64 (s.rxBlkAt bank e)) none
def opRxStatus (q : Req) (s : State) : OpOut :=
  match entryOf s.rxBank (q.obj % 65536) with
  | none => .bad 16
  | some (bank, e) =>
    if q.params.length ≠ 4 then badLen
    else .done s (if bank = s.rxBank then s.rxStatus e else List.replicate 88 0) none

/-- Static checks of a set of blocks, each beside those before it. -/
def State.rxSetFault (s : State) : List (List Byte) → List (List Byte) → Option Nat
  | [], _ => none
  | b :: l, done => match s.rxStatic b done with
    | some st => some st
    | none => s.rxSetFault l (b :: done)

/-- The rate conversions the enabled entries need and do not hold. -/
def State.rxMissing (s : State) : List (Nat × OwnerC) :=
  (s.rxEnabled.filter (fun e => bBind (s.rxB e) == 2 && (KV.find s.dsp.comp (0x200 + e)).isNone)).map (fun e =>
    (0x200 + e, compileEntry e (s.rxB e)))

/-- Whether the receive table's EN may become 1: its enabled entries pass the checks of Table 10.2 as a set, which a
swap made while EN was 0 has not run (R68, R233). -/
def State.rxTableOk (s : State) : Bool :=
  let blks := s.rxEnabled.map s.rxB
  (s.rxSetFault blks []).isNone && decide (unitsOf blks ≤ 4096) &&
  (s.rxEnabled.isEmpty || s.reamFits s.jitterGran s.delayGran s.delayLines) &&
  (match s.admitNow s.rxMissing true true with
    | .ok _ => true
    | .refuse _ => false)

/-- The receive table's EN becomes 1: its enabled entries run; it becomes 0: they stop and a pending swap is
withdrawn (R233, R25). -/
def State.rxTableOn (s : State) : State :=
  let s := match s.admitNow s.rxMissing true true with
    | .ok l => s.commitOwners l
    | .refuse _ => s
  s.rxEnabled.foldl (fun s e =>
    let s := s.rxStart e false
    if bBind (s.rxB e) = 2 then s.convertStart e else s) s
def State.rxTableOff (s : State) : State :=
  let s := (s.str.rx.map (·.1)).foldl (fun s e =>
    let s := s.rxStop e
    { s with dsp := { s.dsp with run := KV.erase s.dsp.run (0x200 + e) } }) s
  let s := { s with str := { s.str with rxSwap := none, rxNext := [] }
                    dsp := { s.dsp with next := s.dsp.next.filter (fun (q : Nat × OwnerC) => decide (q.1 < 256)) } }
  (s.setF F.RXT_CTL_SWAP 0).syncGroups

/-! ## Receive bank swaps (R250) -/

/-- Whether an entry is enabled in both banks with identical blocks. -/
def State.rxSame (s : State) (e : Nat) : Bool := s.rxOn 0 e && s.rxOn 1 e && decide (s.rxBlkAt 0 e = s.rxBlkAt 1 e)

/-- Whether an entry differs between the banks. -/
def State.rxDiffers (s : State) (e : Nat) : Bool := (s.rxOn 0 e || s.rxOn 1 e) && !s.rxSame e

/-- Table 10.2 on every enabled entry of the inactive bank as one set. -/
def State.rxSwapCheck (s : State) : Admission :=
  let bank := 1 - s.rxBank
  let es := (List.range 512).filter (s.rxOn bank)
  let blks := es.map (s.rxBlkAt bank)
  let fresh := (es.filter (fun e => !s.rxSame e)).map (s.rxBlkAt bank)
  if blks.any (fun b => bChannels b == 0) then .inl (.err stNOT_FOUND)
  else match s.rxSetFault blks [] with
    | some st => .inl (.err st)
    | none =>
      let g := fresh.foldl (fun a b => a + granules (s.jitterBytes b)) 0
      if unitsOf blks > 4096 then .inl (.err stNO_RESOURCE)
      else if g > 0 && !s.reamFits (s.jitterGran + g) s.delayGran s.delayLines then .inl (.failWith (s.reamFull g) stNO_RESOURCE 0xFFFF 0)
      else if !s.filterRoom blks then .inl (.err stNO_RESOURCE)
      else
        let os := (es.filter (fun e => bBind (s.rxBlkAt bank e) == 2)).map (fun e => (0x200 + e, compileEntry e (s.rxBlkAt bank e)))
        let charge := chargeOf (os.map (·.2))
        let graphs := chargeOf ((s.dsp.next.filter (fun q => decide (q.1 < 256))).map (·.2))
        match s.admission ((s.dsp.comp.filter (fun q => decide (q.1 < 256))).map (·.2)) os true with
        | .refuse _ => .inl (.failWith (s.admitRefused charge) stNO_RESOURCE 0xFFFF 0)
        | .ok owners =>
          if s.dsp.swap.isSome && decide (graphs + charge > s.deckle) then .inl (.failWith (s.admitRefused charge) stNO_RESOURCE 0xFFFF 0)
          else match s.portsFit (fun p => s.rxRates blks p - s.rxCommitted p) (fun _ => 0) with
            | none => .inl (.err stNO_RESOURCE)
            | some steps => .inr (steps, owners)

/-- The swap takes place (R250, R256); `event` is clear where the table stood disabled (R68). -/
def State.rxSwapNow (s : State) (o : Origin) (event : Bool) : State :=
  let old := s.rxBank
  let same := (List.range 512).filter s.rxSame
  let changed := ((List.range 512).filter s.rxDiffers).length
  let span := s.str.rx.foldl (fun a q => max a (s.spanTicks (s.rxB q.1))) 0
  let keep := fun (e : Nat) => same.contains e
  let gone := (s.str.rx.map (·.1)).filter (fun e => !keep e)
  let held := s.str.ports.map (fun q => (q.1, q.2.groups))
  let s := gone.foldl (fun s e => s.rxStop e) s
  let s := { s with str := { s.str with
      rx := (s.str.rxNext.filter (fun (q : Nat × RxRun) => !keep q.1)).foldl (fun (m : KV RxRun) (q : Nat × RxRun) => KV.set m q.1 q.2) s.str.rx
      rxNext := [], rxSwap := none, leaveAt := if event then some (s.gridTick + span) else none } }
  let s := ((s.modified.setF F.RXT_CTL_ACT_BANK (1 - old)).setF F.RXT_CTL_SWAP 0).incSat F.RXT_SWAPS
  let next := s.dsp.next.filter (fun q => decide (q.1 ≥ 256))
  let stay := fun (k : Nat) => k < 256 || (keep (k - 0x200) && (KV.find next k).isSome)
  let s := { s with dsp := { s.dsp with
      comp := next.foldl (fun (m : KV OwnerC) (q : Nat × OwnerC) => KV.set m q.1 q.2) (s.dsp.comp.filter (fun (q : Nat × OwnerC) => stay q.1))
      run := s.dsp.run.filter (fun (q : Nat × OwnerRun) => stay q.1)
      next := s.dsp.next.filter (fun (q : Nat × OwnerC) => decide (q.1 < 256)) } }
  let s := next.foldl (fun s q => if event && (KV.find s.dsp.run q.1).isNone then s.convertStart (q.1 - 0x200) else s) s
  let s := if event then held.foldl (fun s q => s.setPort q.1 { s.port q.1 with oldGroups := q.2 }) s else s
  let s := ((s.refreshAdm.refreshRxt).refreshRxRaw).syncGroups
  let s := (List.range 64).foldl (fun s k => s.fdRefresh k) s
  let s := s.logE o.code o.id kSTATE false 0x0400FFFF old (1 - old)
  if event then s.fire Ev.RX_BANK_SWAPPED 0x0400FFFF changed else s

/-- A request that has passed waits for its boundary: the merger matches both banks, the new bank's groups are
joined (R250). -/
def State.rxSwapSet (s : State) (o : Origin) (a : List (Nat × Nat) × List (Nat × OwnerC)) : State :=
  let bank := 1 - s.rxBank
  let es := (List.range 512).filter (fun e => s.rxOn bank e && !s.rxSame e)
  let pend := fun e => a.1.any (fun q => onPath (s.rxBlkAt bank e) q.1)
  let runs := es.map (fun e => (e, ({ st := if pend e then 1 else 2, lost := s.downPaths (s.rxBlkAt bank e) } : RxRun)))
  let s := { s with
      str := { s.str with rxSwap := some { tick := s.ticksAhead 2, origin := o }, rxNext := runs }
      dsp := { s.dsp with next := a.2.foldl (fun (m : KV OwnerC) (q : Nat × OwnerC) => KV.set m q.1 q.2) s.dsp.next } }
  let s := (s.setF F.RXT_CTL_SWAP 1).syncGroups
  if a.1.isEmpty then s else s.stepUps a.1

/-- RX_SWAP (R250). -/
def opRxSwap (q : Req) (s : State) : OpOut :=
  if q.params.length ≠ 4 then badLen
  else if q.obj ≠ 0x0400FFFF then .bad 16
  else if !s.on F.RXT_CTL_EN then .done (s.rxSwapNow q.origin false) [] (some q.obj)
  else if s.str.rxSwap.isSome then .err stBAD_STATE
  else match s.rxSwapCheck with
    | .inl f => f
    | .inr a => .done (s.rxSwapSet q.origin a) [] (some q.obj)

/-- RX_SWAP_AT_TSW. -/
def rxSwapAt (s : State) : State :=
  match s.str.rxSwap with
  | none => s
  | some w => s.atTick w.tick (fun s => s.rxSwapNow w.origin true)

/-- OLD_GROUP_LEAVE (R250): groups used only by the old bank are left. -/
def State.leaveOld (s : State) : State :=
  let s := { s with str := { s.str with leaveAt := none, ports := KV.mapV (fun _ (x : PortState) => { x with oldGroups := [] }) s.str.ports } }
  s.syncGroups
def oldGroupLeave (s : State) : State :=
  match s.str.leaveAt with
  | none => s
  | some t => s.atTick t State.leaveOld

/-! ## Transmit entries (R261 to R264, R270) -/

/-- Steps 1 to 4 of Table 11.2 for a block beside others. -/
def State.txStatic (s : State) (b : List Byte) (others : List (List Byte)) : Option Nat :=
  firstFail [(rateFam (bRate b) == s.getF F.LOOP_MEDIA_FAMILY, stBAD_PARAM), (s.framesFit b (txV6 b), stBAD_PARAM),
    (!ppOverlap b others, stBAD_PARAM),
    (!others.any (fun x => bDst x == bDst b && txV6 x == txV6 b && bPort x == bPort b), stBAD_PARAM)]

/-- Table 11.2 for one entry beside the other enabled entries of the active bank. -/
def State.txCheck (s : State) (e : Nat) : OpOut ⊕ List (Nat × Nat) :=
  let b := s.txB e
  let others := (s.txEnabled.filter (· ≠ e)).map s.txB
  match s.txStatic b others with
  | some st => .inl (.err st)
  | none =>
    if unitsOf (b :: others) > 4096 then .inl (.err stNO_RESOURCE)
    else match s.portsFit (fun _ => 0) (s.txRates [b]) with
      | none => .inl (.err stNO_RESOURCE)
      | some steps => .inr steps

/-- An admitted entry's flag is set and its SEQ_OFFSET drawn; it runs from a time while the table's EN is 1. -/
def State.txAdmit (s : State) (o : Origin) (e : Nat) (steps : List (Nat × Nat)) (start : Int) : State :=
  let s := { s with str := { s.str with txFlag := withN s.str.txFlag (s.txBank * 512 + e) } }
  let s := s.drawSeq o e
  if !s.on F.TXT_CTL_EN then s.refreshTxt
  else
    let s := s.txStart e (!steps.isEmpty) start
    if steps.isEmpty then s else s.stepUps steps

/-- An entry's flag is cleared: it stops at a time. -/
def State.txRemove (s : State) (e : Nat) (stop : Int) : State :=
  let s := { s with str := { s.str with txFlag := without s.str.txFlag (s.txBank * 512 + e) } }
  if (KV.find s.str.tx e).isSome then s.txStop e stop else s.refreshTxt

/-- Whether a transmit entry's block may be written. -/
def State.txFrozen (s : State) (bank e : Nat) : Bool :=
  if bank = s.txBank then s.txOn bank e else s.str.txSwap.isSome

/-- ENABLE of a transmit entry (R261, R263, R270). -/
def opTxEnable (q : Req) (s : State) : OpOut :=
  if q.params.length ≠ 4 then badLen
  else match entryOf s.txBank (q.obj % 65536) with
    | none => .bad 16
    | some (bank, e) =>
      if bChannels (s.txBlkAt bank e) = 0 then .fail stNOT_FOUND 16 0
      else if s.txOn bank e then .done s [] none
      else if bank ≠ s.txBank then
        if s.str.txSwap.isSome then .err stBAD_STATE
        else .done { s with str := { s.str with txFlag := withN s.str.txFlag (bank * 512 + e) } } [] (some q.obj)
      else match s.txCheck e with
        | .inl f => f
        | .inr steps => .done (s.txAdmit q.origin e steps (s.afterTicks 2)) [] (some q.obj)

/-- DISABLE of a transmit entry (R270). -/
def opTxDisable (q : Req) (s : State) : OpOut :=
  if q.params.length ≠ 4 then badLen
  else match entryOf s.txBank (q.obj % 65536) with
    | none => .bad 16
    | some (bank, e) =>
      if !s.txOn bank e then .done s [] none
      else if bank ≠ s.txBank then
        if s.str.txSwap.isSome then .err stBAD_STATE
        else .done { s with str := { s.str with txFlag := without s.str.txFlag (bank * 512 + e) } } [] (some q.obj)
      else .done (s.txRemove e (s.afterTicks 2)) [] (some q.obj)

/-- SET of a transmit entry (R262, R275). -/
def opTxSet (q : Req) (s : State) : OpOut :=
  if q.params.length ≠ 68 then badLen
  else match entryOf s.txBank (q.obj % 65536) with
    | none => .bad 16
    | some (bank, e) =>
      let b := q.params.drop 4
      match txFault b with
      | some o => .bad (20 + o)
      | none =>
        if s.txFrozen bank e then .err stBAD_STATE
        else
          let s := { s with str := { s.str with txBlk := KV.set s.str.txBlk (bank * 512 + e) b
                                                txBad := without s.str.txBad (bank * 512 + e) } }
          .done (if bank = s.txBank then s.bumpVersion e else s) [] (some q.obj)

/-- GET and STATUS of a transmit entry. -/
def opTxGet (q : Req) (s : State) : OpOut :=
  match entryOf s.txBank (q.obj % 65536) with
  | none => .bad 16
  | some (bank, e) => if q.params.length ≠ 4 then badLen else .done s (block64 (s.txBlkAt bank e)) none
def opTxStatus (q : Req) (s : State) : OpOut :=
  match entryOf s.txBank (q.obj % 65536) with
  | none => .bad 16
  | some (bank, e) =>
    if q.params.length ≠ 4 then badLen
    else .done s (if bank = s.txBank then s.txStatus e else List.replicate (s.txStatus e).length 0) none

/-- The transmit table's EN becomes 1, and 0 (R264). -/
def State.txTableOn (s : State) : State := s.txEnabled.foldl (fun s e => s.txStart e false (s.afterTicks 2)) s
def State.txTableOff (s : State) : State :=
  let s := (s.str.tx.map (·.1)).foldl (fun s e => s.txStop e (s.afterTicks 2)) s
  { s with str := { s.str with txSwap := none } }.setF F.TXT_CTL_SWAP 0

/-! ## Transmit bank swaps (R272) -/

/-- Whether an entry is enabled in both banks with identical blocks, and whether it differs. -/
def State.txSame (s : State) (e : Nat) : Bool := s.txOn 0 e && s.txOn 1 e && decide (s.txBlkAt 0 e = s.txBlkAt 1 e)
def State.txDiffers (s : State) (e : Nat) : Bool := (s.txOn 0 e || s.txOn 1 e) && !s.txSame e

/-- Static checks of a set of blocks. -/
def State.txSetFault (s : State) : List (List Byte) → List (List Byte) → Option Nat
  | [], _ => none
  | b :: l, done => match s.txStatic b done with
    | some st => some st
    | none => s.txSetFault l (b :: done)

/-- Table 11.2 on every enabled entry of the inactive bank as one set. -/
def State.txSwapCheck (s : State) : OpOut ⊕ List (Nat × Nat) :=
  let bank := 1 - s.txBank
  let blks := ((List.range 512).filter (s.txOn bank)).map (s.txBlkAt bank)
  if blks.any (fun b => bChannels b == 0) then .inl (.err stNOT_FOUND)
  else match s.txSetFault blks [] with
    | some st => .inl (.err st)
    | none =>
      if unitsOf blks > 4096 then .inl (.err stNO_RESOURCE)
      else match s.portsFit (fun _ => 0) (fun p => s.txRates blks p - s.txCommitted p) with
        | none => .inl (.err stNO_RESOURCE)
        | some steps => .inr steps

/-- The swap takes place (R272, R275, R278). -/
def State.txSwapNow (s : State) (o : Origin) (event : Bool) : State :=
  let old := s.txBank
  let changed := (List.range 512).filter s.txDiffers
  let at_ := s.now.units
  let s := changed.foldl (fun s e => if (KV.find s.str.tx e).isSome then s.txStop e at_ else s) s
  let s := { s with str := { s.str with txSwap := none } }
  let s := ((s.modified.setF F.TXT_CTL_ACT_BANK (1 - old)).setF F.TXT_CTL_SWAP 0).incSat F.TXT_SWAPS
  let s := if event then changed.foldl (fun s e => if s.txOn (1 - old) e then s.txStart e false at_ else s) s else s
  let s := changed.foldl (fun s e => s.bumpVersion e) s
  let s := s.refreshTxt.refreshTxRaw
  let s := s.logE o.code o.id kSTATE false 0x0401FFFF old (1 - old)
  if event then s.fire Ev.TX_BANK_SWAPPED 0x0401FFFF changed.length else s

/-- A request that has passed waits for its boundary. -/
def State.txSwapSet (s : State) (o : Origin) (steps : List (Nat × Nat)) : State :=
  let s := { s with str := { s.str with txSwap := some { tick := s.ticksAhead 2, origin := o } } }.setF F.TXT_CTL_SWAP 1
  if steps.isEmpty then s else s.stepUps steps

/-- TX_SWAP (R272). -/
def opTxSwap (q : Req) (s : State) : OpOut :=
  if q.params.length ≠ 4 then badLen
  else if q.obj ≠ 0x0401FFFF then .bad 16
  else if !s.on F.TXT_CTL_EN then .done (s.txSwapNow q.origin false) [] (some q.obj)
  else if s.str.txSwap.isSome then .err stBAD_STATE
  else match s.txSwapCheck with
    | .inl f => f
    | .inr steps => .done (s.txSwapSet q.origin steps) [] (some q.obj)

/-- TX_SWAP_AT_TSW. -/
def txSwapAt (s : State) : State :=
  match s.str.txSwap with
  | none => s
  | some w => s.atTick w.tick (fun s => s.txSwapNow w.origin true)

/-! ## Pending entries (R219) -/

/-- PENDING_STREAM_TIMEOUT: the ports of a pending entry did not all come up within 3 s: its EN is cleared. -/
def pendingTimeout (tx : Bool) (e : Nat) (s : State) : State :=
  let st := if tx then (KV.find s.str.tx e).map (·.st) else (KV.find s.str.rx e).map (·.st)
  if st ≠ some 1 then s
  else
    let (p, t) := s.missingPort (if tx then s.txB e else s.rxB e)
    let s := if tx then s.txRemove e s.now.units else s.rxRemove e
    let s := s.modified.logState orgPower (if tx then txObj e else rxObj e) 1 0
    s.fire Ev.STEP_TIMEOUT (portObj p) (p + 16 * t + 256)

/-! ## Parity of entry blocks (R251, R273) -/

/-- A parity mismatch of a receive block. -/
def State.rxParity (s : State) (bank e : Nat) : State :=
  let key := bank * 512 + e
  if s.str.rxBad.contains key then s
  else
    let s := { s with str := { s.str with rxBad := key :: s.str.rxBad } }
    let s := if s.on F.RXT_PAR_ENTRY_VALID then s
      else (s.setF F.RXT_PAR_ENTRY_ENTRY e).setF F.RXT_PAR_ENTRY_VALID 1
    let s := s.parityReport 4 0 F.RXT_PAR_ENTRY_ENTRY.addr e
    if bank = s.rxBank then s.rxToSafe e else s

/-- A parity mismatch of a transmit block. -/
def State.txParity (s : State) (bank e : Nat) : State :=
  let key := bank * 512 + e
  if s.str.txBad.contains key then s
  else
    let s := { s with str := { s.str with txBad := key :: s.str.txBad } }
    let s := if s.on F.TXT_PAR_ENTRY_VALID then s
      else (s.setF F.TXT_PAR_ENTRY_ENTRY e).setF F.TXT_PAR_ENTRY_VALID 1
    let s := s.parityReport 4 1 F.TXT_PAR_ENTRY_ENTRY.addr e
    if bank = s.txBank then s.txToSafe e else s

end Sys2Proof.Machine
end

