-- ==== Sys2Proof/Machine/Amp.lean ====
section
/-!
DEFINITION. Machine/Amp.lean: the class-D power stage and loudspeaker line diagnostics (chapters 16 and 17, R369 to
R404).
-/

namespace Sys2Proof.Machine

/-! ## Channels and results -/

/-- A channel's run, and the state with it changed; objects of a channel, the protection and the diagnostics unit. -/
def State.ampCh (s : State) (x : Nat) : AmpRun := KV.get {} s.amp.ch x
def State.setCh (s : State) (x : Nat) (r : AmpRun) : State := { s with amp := { s.amp with ch := KV.put {} s.amp.ch x r } }
def ampObj (x : Nat) : Nat := objId 8 x 0
def protObj : Nat := objId 8 8 0
def diagObj : Nat := objId 8 9 0

/-- States (Table 16.4). -/
def aOFF : Nat := 0
def aSTARTING : Nat := 1
def aRUN : Nat := 2
def aSTOPPING : Nat := 3
def aCLKMUTE : Nat := 4
def aFAULT : Nat := 5
def aPROBE : Nat := 6
def aLOCKOUT : Nat := 7
def aHOLD : Nat := 8
def aSAFE : Nat := 9
def aBRIDGED : Nat := 10
def State.ampSt (s : State) (x : Nat) : Nat := s.getF (F.AMP_STATUS_STATE x)

/-- Rate of a channel in Hz, and samples of its block. -/
def State.ampHz (s : State) (x : Nat) : Nat := s.baseHz * 2 ^ s.getF (F.AMP_CTL_RATE x)
def State.ampLen (s : State) (x : Nat) : Nat := 3 * 2 ^ s.getF (F.AMP_CTL_RATE x)

/-! ## Line diagnostics: tests and their end (R392, R397) -/

/-- The diagnostics unit's STATUS follows its tests and Plates. -/
def State.refreshDiag (s : State) : State :=
  let mask := fun (l : List Nat) => (List.range 8).foldl (fun a x => if l.contains x then a + 2 ^ x else a) 0
  let s := (s.setF F.DIAG_STATUS_OFFLINE (mask s.amp.offline)).setF F.DIAG_STATUS_LIVE (mask (s.amp.live.map (·.1)))
  s.setF F.DIAG_STATUS_PLATE (mask (s.amp.plate.map (·.1)))

/-- A live test is abandoned (Table 17.3). -/
def State.liveAbandon (s : State) (x cause : Nat) : State :=
  if (KV.find s.amp.live x).isNone then s
  else
    let s := { s with amp := { s.amp with live := KV.erase s.amp.live x } }.refreshDiag
    s.fire Ev.DIAG_ABANDON (ampObj x) (x + 256 * cause)

/-- A channel's offline test is abandoned. -/
def State.offlineAbandon (s : State) (x cause : Nat) : State :=
  if !s.amp.offline.contains x then s
  else
    let s := { s with amp := { s.amp with offline := without s.amp.offline x } }.refreshDiag
    s.fire Ev.DIAG_ABANDON (ampObj x) (x + 256 * cause)

/-- Every test is abandoned: EN is cleared, or the unit enters its safe state (R392, R404). A running offline
operation will reply BAD_STATE. -/
def State.diagAbandon (s : State) : State :=
  let s := (List.range 8).foldl (fun s x => (s.liveAbandon x 5).offlineAbandon x 5) s
  match s.car.longOp with
  | some l => if l.idx = 7 then { s with car := { s.car with longOp := some { l with abandoned := true, safeHit := true } } } else s
  | none => s

/-- Whether an enabled graph of the active bank has a PILOT node on a channel (R393). -/
def State.hasPilot (s : State) (x : Nat) : Bool :=
  (List.range 256).any (fun n => s.gOn s.gBank n &&
    (imgNodeList (s.gImg n)).any (fun d => d.ty == tyPILOT && inRun d.outPp d.ch (0x2500 + x)))

/-- Live tests whose PILOT node is gone are abandoned. -/
def State.diagPilots (s : State) : State :=
  (s.amp.live.map (·.1)).foldl (fun s x => if s.hasPilot x then s else s.liveAbandon x 3) s

/-! ## Channel states (R374, R375, R385) -/

/-- Whether a state drives the gates. -/
def ampSwitches (st : Nat) : Bool := st == aSTARTING || st == aRUN || st == aSTOPPING || st == aCLKMUTE || st == aPROBE

/-- Raw bits that follow the channels. -/
def State.refreshAmpRaw (s : State) : State :=
  let any := fun (f : Nat → Bool) => (List.range 8).any f
  let s := s.setRaw Ev.AMP_CLKMUTE (any (fun x => s.ampSt x == aCLKMUTE))
  let s := s.setRaw Ev.AMP_ILIMIT (any (fun x => s.on (F.AMP_STATUS_LIMITING x)))
  let s := s.setRaw Ev.AMP_CLIP (any (fun x => s.on (F.AMP_STATUS_CLIPPING x)))
  s.setRaw Ev.CAL_LIMIT (any (fun x => s.on (F.AMP_STATUS_CAL_HELD x)))

/-- A channel changes state: the change is logged; gates fall in the states without drive; leaving RUN ends a live
test. -/
def State.setAmp (s : State) (x new : Nat) : State :=
  let old := s.ampSt x
  if old = new then s
  else
    let s := (s.setF (F.AMP_STATUS_STATE x) new).logState orgProtection (ampObj x) old new
    let s := if ampSwitches new then s else
      let s := s.setCh x { s.ampCh x with gates := false, boot := false, start := 0, resume := false }
      s.setZc (zcAmp x) {}
    let s := if old = aRUN then s.liveAbandon x 2 else s
    s.refreshAmpRaw

/-- A channel's back-off set, and RETRY_NOW with it. -/
def State.setBackoff (s : State) (x ms : Nat) (fresh : Bool) : State :=
  (s.setCh x { s.ampCh x with backoff := ms, fresh := fresh }).setF (F.AMP_STATUS_RETRY_NOW x) (ms / 10)

/-- RETRY in ms; none for NEVER (R386). -/
def State.retryMs (s : State) (x : Nat) : Option Nat :=
  [50, 100, 200, 500, 1000, 2000, 5000, 10000][s.getF (F.AMP_TIMING_RETRY x)]?

/-- The back-off at RETRY. -/
def State.backoffReset (s : State) (x : Nat) : State := s.setBackoff x ((s.retryMs x).getD 0) true

/-- Whether a hold cause acts on a channel now (R381): a supply, PROT.CTL.EN, its pair's temperature or NTC. -/
def State.ampHeld (s : State) (x : Nat) : Bool :=
  let k := x / 2
  let ntc := bitOf (s.getF F.PROT_STATUS_TSNS_FAULT) k
  let ign := s.on F.PROT_GATE_TSNS_IGNORE
  !s.on F.PROT_CTL_EN || s.on F.PROT_STATUS_PV_UV || s.on F.PROT_STATUS_PV_OV || s.on F.PROT_STATUS_VGD ||
  (bitOf (s.getF F.PROT_STATUS_OTS) k && !(ign && ntc)) || (ntc && !ign)

/-- A channel starts: the bootstraps charge, and its start boundary is a sample number (R374, R375). -/
def State.ampStarting (s : State) (x start : Nat) : State :=
  let s := s.setAmp x aSTARTING
  (s.setCh x { s.ampCh x with start := start, boot := false, gates := true, bad := 0, mute := 0, resume := false }).setZc (zcAmp x) {}

/-- The sample number at a tick boundary, and at a time (R145). -/
def State.ampSampleAt (s : State) (x tick : Nat) : Nat := tick * s.ampLen x
def State.ampSampleFrom (s : State) (x : Nat) (u : Int) : Nat :=
  ((u * s.ampHz x + unitsSec - 1) / unitsSec).toNat

/-- A start with its boundary at a sample number, or HOLD where a hold cause is present. -/
def State.ampBegin (s : State) (x start : Nat) : State :=
  if s.ampHeld x then s.setAmp x aHOLD else s.ampStarting x start

/-- EN of a channel becomes 1 (R375, R381, R392): `start` is the sample number of the boundary of a trigger. -/
def State.ampEnable (s : State) (x : Nat) (start : Option Nat) : State :=
  let s := s.offlineAbandon x 1
  let at_ := start.getD (s.ampSampleAt x (s.ticksAhead 2))
  let st := s.ampSt x
  if st = aSTOPPING then s.setCh x { s.ampCh x with pend := true }
  else if st = aBRIDGED then s
  else s.ampBegin x at_

/-- EN of a channel becomes 0 (R375). -/
def State.ampStop (s : State) (x : Nat) : State :=
  let st := s.ampSt x
  let s := s.setCh x { s.ampCh x with pend := false, fault := false, due := false, recover := none, restart := false }
  if st = aRUN then (s.setAmp x aSTOPPING).zcDue (zcAmp x) 1
  else if st = aSTARTING then (s.setAmp x aSTOPPING).setZc (zcAmp x) {}
  else if st = aFAULT || st = aPROBE || st = aLOCKOUT || st = aHOLD || st = aCLKMUTE then (s.setAmp x aOFF).backoffReset x
  else s

/-- AMP_BOOTSTRAP_DONE (R374): a channel that resumes or recovers waits for its crossing from here. -/
def ampBootstrapDone (x : Nat) (s : State) : State :=
  let r := s.ampCh x
  let st := s.ampSt x
  if st = aSTARTING && !r.boot then
    let s := s.setCh x { r with boot := true }
    if r.recover.isSome then s.zcDue (zcAmp x) 0 else s
  else if st = aCLKMUTE && r.resume && !r.boot then (s.setCh x { r with boot := true, gates := true }).zcDue (zcAmp x) 0
  else s

/-- AMP_STOP_DONE (R375): OFF; a start that waited for it begins at the next sample period. -/
def ampStopDone (x : Nat) (s : State) : State :=
  if s.ampSt x ≠ aSTOPPING || (s.zc (zcAmp x)).on then s
  else
    let pend := (s.ampCh x).pend
    let s := s.setAmp x aOFF
    if pend then (s.setCh x { s.ampCh x with pend := false }).ampBegin x (s.ampSampleFrom x s.now.units + 1) else s

/-- AMP_ZC_TIMEOUT (R375). -/
def ampZcTimeout (x : Nat) (s : State) : State :=
  if (s.zc (zcAmp x)).wait = 0 then s
  else (s.zcForce (zcAmp x) 0 (s.on (F.AMP_CTL_MUTE x)) (s.ampHz x)).incSat (F.AMP_ZC_TIMEOUTS x)

/-- RUN is reached (R380): a channel that recovers reports it. -/
def State.ampRuns (s : State) (x : Nat) : State :=
  let r := s.ampCh x
  let s := s.setAmp x aRUN
  match r.recover with
  | some p => (s.setCh x { s.ampCh x with recover := none }).fire Ev.AMP_RECOVER (ampObj x) (x + 65536 * p)
  | none => s

/-! ## Trips and retries (R376 to R380) -/

/-- The class of a trip (Table 16.6). -/
def State.tripClass (s : State) (t : TripIn) : Nat :=
  let pv : Int := s.getF F.PROT_SUPPLY_PVDD
  let term := fun (h : Fin 2) => if h = 0 then t.vp else t.vn
  if t.kind = 2 then 5
  else if t.kind = 3 then 6
  else if t.high.any (fun h => decide (term h * 10 < pv)) then 1
  else if t.low.any (fun h => decide (term h * 10 > pv * 9)) then 2
  else if 20 * (t.vp - t.vn).natAbs < t.cur.natAbs then 3
  else 4

/-- The event of a trip (Table 16.7). -/
def State.tripEvent (s : State) (x cls : Nat) (t : TripIn) : State :=
  let hard := 256 * b2n (decide (t.kind = 1))
  if cls ≤ 3 then s.fire Ev.AMP_SHORT (ampObj x) (x + 16 * cls + hard)
  else if cls = 4 then s.fire Ev.AMP_OC (ampObj x) (x + hard)
  else if cls = 5 then s.fire Ev.AMP_DC (ampObj x) (x + 65536 * unsigned 16 (satSigned 16 t.mean))
  else s.fire Ev.AMP_LOOP (ampObj x) x

/-- The interval after a failed attempt (R380). -/
def doubled (ms : Nat) : Nat := min (2 * ms) 60000

/-- A failed attempt: the interval doubles and the channel returns to FAULT. -/
def State.ampFail (s : State) (x : Nat) : State :=
  ((s.incSat (F.AMP_COUNT_PROBE_FAILS x)).setBackoff x (doubled (s.ampCh x).backoff) false).setAmp x aFAULT

/-- The record of a trip (R378): class, voltages, current, count, event. -/
def State.tripRecord (s : State) (x : Nat) (t : TripIn) : State :=
  let cls := s.tripClass t
  let s := (s.setF (F.AMP_STATUS_CLASS x) cls).incSat (F.AMP_COUNT_TRIPS x)
  let s := (s.setF (F.AMP_TRIP_V_P x) (unsigned 16 t.vp)).setF (F.AMP_TRIP_V_N x) (unsigned 16 t.vn)
  (s.setISat (F.AMP_TRIP_I_I x) t.cur).tripEvent x cls t

/-- The result record of a test stored (R391, R398 to R403), and the events of its class. -/
def State.storeResult (s : State) (x : Nat) (r : DiagRec) (detail : Nat) : State :=
  let old := s.getF (F.DIAG_CH_CLASS x)
  let live := bitOf r.flags 0
  let s := { s with amp := { s.amp with last := KV.set s.amp.last x r } }
  let s := ((s.setF (F.DIAG_CH_CLASS x) r.cls).setF (F.DIAG_CH_LIVE x) (b2n live)).setF (F.DIAG_CH_PARTIAL x) (b2n (bitOf r.flags 2))
  let s := ((s.setSat (F.DIAG_CH_RDC x) r.rdc).incSat (F.DIAG_CH_TESTS x)).setF (F.DIAG_CH_LAST_SEC x) r.sec
  let s := s.fire Ev.DIAG_DONE (ampObj x) (x + 16 * r.cls + 256 * b2n live + 512 * b2n (bitOf r.flags 2))
  let s := if old = r.cls then s else s.logState orgProtection (diagObj + x) old r.cls
  let ev := [0, 0, Ev.DIAG_OPEN, Ev.DIAG_SHORT, Ev.DIAG_TWEETER_MISSING, Ev.DIAG_WOOFER_ONLY, Ev.DIAG_CHANGED].getD r.cls 0
  if r.cls ≤ 1 then s else s.fire ev (ampObj x) (x + 65536 * satNat 16 detail)

/-- The test frequencies. -/
def State.diagFreqs (s : State) : List Nat := (List.range 4).map (fun k => s.getF (F.DIAG_FREQ k))

/-- The running long operation's mask of channels that ended with a result, marked (R390). -/
def State.longMark (s : State) (x : Nat) : State :=
  match s.car.longOp with
  | some l => { s with car := { s.car with longOp := some { l with arg := withBit l.arg x } } }
  | none => s

/-- A trip of a channel under offline test (R392): the test ends, SHORT with TRIPPED. -/
def State.tripOffline (s : State) (x : Nat) : State :=
  let s := ({ s with amp := { s.amp with offline := without s.amp.offline x } }.refreshDiag).longMark x
  s.storeResult x { cls := 3, flags := 8 + 16 * b2n s.amp.dcOnly, sec := s.now.sec % 2 ^ 32, z := [0, 0, 0, 0], arg := [0, 0, 0, 0]
                    f := s.diagFreqs, pvdd := s.getF F.PROT_SUPPLY_PVDD } 0

/-- The channel that answers for a bridge: the even one of a bridged pair (R372). -/
def State.ampHead (s : State) (x : Nat) : Nat := if s.ampSt x = aBRIDGED then x - 1 else x

/-- AMP_TRIP (R378): gates low, class, values, FAULT or LOCKOUT. -/
def ampTrip (x0 : Nat) (t : TripIn) (s : State) : State :=
  let x := s.ampHead x0
  let st := s.ampSt x
  if s.amp.offline.contains x then (s.tripRecord x t).tripOffline x
  else if st = aPROBE then s.ampFail x
  else if st = aSTARTING || st = aRUN || st = aSTOPPING || (st = aCLKMUTE && (s.ampCh x).gates) then
    let s := s.tripRecord x t
    let r := s.ampCh x
    match s.retryMs x with
    | none => (s.setCh x { r with pend := false, recover := none }).setAmp x aLOCKOUT
    | some ms =>
      let s := if r.fresh then s.setBackoff x ms false else s.setBackoff x (doubled r.backoff) false
      let s := if r.restart then s.incSat (F.AMP_COUNT_PROBE_FAILS x) else s
      (s.setCh x { s.ampCh x with pend := false, recover := none, restart := false }).setAmp x aFAULT
  else s

/-- An attempt begins (R380): a probe for classes 1 to 4, a restart for DC and LOOP. -/
def State.ampAttempt (s : State) (x : Nat) : State :=
  if s.getF (F.AMP_STATUS_CLASS x) ≤ 4 then s.setAmp x aPROBE
  else
    let s := s.ampStarting x 0
    s.setCh x { s.ampCh x with recover := some 0, restart := true }

/-- AMP_RETRY (R376, R380): a retry interval expires; behind a hold the attempt waits. -/
def ampRetry (x : Nat) (s : State) : State :=
  let r := s.ampCh x
  let fire := fun (s : State) => s.fire Ev.AMP_RETRY (ampObj x) (x + 65536 * (doubled r.backoff / 10))
  if s.ampSt x = aFAULT then (fire s).ampAttempt x
  else if s.ampSt x = aHOLD && r.fault && !r.due then (fire s).setCh x { r with due := true }
  else s

/-- Whether a clock-error cause holds (R376, R382). -/
def State.ampClockBad (s : State) (x : Nat) : Bool :=
  !s.pllOk || decide ((s.ampCh x).bad ≥ s.getF (F.AMP_TIMING_MUTE_BLOCKS x))

/-- A channel enters CLKMUTE (R382): cause bit 0 the PLL, bit 1 the source. -/
def State.ampClkMute (s : State) (x cause : Nat) : State :=
  let s := s.setAmp x aCLKMUTE
  let z := s.zc (zcAmp x)
  let s := s.setZc (zcAmp x) { z with on := false, wait := 0, ramp := if z.on then 64 else 0 }
  let s := s.setCh x { s.ampCh x with mute := cause, resume := false, gates := true }
  (s.incSat (F.AMP_CLKMUTES x)).fire Ev.AMP_CLKMUTE (ampObj x) (x + 256 * cause)

/-- AMP_PROBE_END (R380): passes at 1.0 ohm or more with each terminal near its drive and nothing acting. -/
def ampProbeEnd (x r : Nat) (near acted : Bool) (s : State) : State :=
  if s.ampSt x ≠ aPROBE then s
  else
    let s := s.setSat (F.AMP_TRIP_I_PROBE_R x) r
    if 100 ≤ r && near && !acted then
      if s.ampClockBad x then
        let s := s.ampClkMute x (b2n (!s.pllOk) + 2 * b2n (decide ((s.ampCh x).bad ≥ s.getF (F.AMP_TIMING_MUTE_BLOCKS x))))
        s.setCh x { s.ampCh x with recover := some (satNat 16 r) }
      else
        let s := s.ampStarting x 0
        s.setCh x { s.ampCh x with recover := some (satNat 16 r) }
    else s.ampFail x

/-- AMP_BACKOFF_RESET (R378, R380): 60 s of running since the trip. -/
def ampBackoffReset (x : Nat) (s : State) : State :=
  let r := s.ampCh x
  if s.ampSt x = aRUN && !r.fresh then (s.setCh x { r with restart := false }).backoffReset x else s

/-! ## Holds (R377, R381) -/

/-- PROT.STATUS bits [14:0]. -/
def State.protBits (s : State) : Nat :=
  s.getF F.PROT_STATUS_PV_UV + 2 * s.getF F.PROT_STATUS_PV_OV + 4 * s.getF F.PROT_STATUS_VGD + 8 * s.getF F.PROT_STATUS_OTS +
  128 * s.getF F.PROT_STATUS_OTW + 2048 * s.getF F.PROT_STATUS_TSNS_FAULT

/-- A hold begins for the channels its causes act on (R381). -/
def State.ampHolds (s : State) : State :=
  (List.range 8).foldl (fun s x =>
    let st := s.ampSt x
    let s := if s.ampHeld x then s.offlineAbandon x 4 else s
    if !s.ampHeld x || st = aOFF || st = aLOCKOUT || st = aSAFE || st = aBRIDGED || st = aHOLD then s
    else if st = aSTOPPING then s.setAmp x aOFF
    else (s.setCh x { s.ampCh x with fault := st == aFAULT || st == aPROBE, due := st == aPROBE, recover := none }).setAmp x aHOLD) s

/-- Held channels whose last cause has ended go on (R376, R381). -/
def State.ampReleases (s : State) : State :=
  (List.range 8).foldl (fun s x =>
    if s.ampSt x ≠ aHOLD || s.ampHeld x then s
    else
      let r := s.ampCh x
      let s := s.setCh x { r with fault := false, due := false }
      if r.fault && r.due then (s.setAmp x aFAULT).ampAttempt x
      else if r.fault then s.setAmp x aFAULT
      else s.ampStarting x (s.ampSampleAt x (s.ticksAhead 2))) s

/-- The supply and temperature readings a cause carries: PVDD in 0.1 V, VGD in 10 mV, a pair's 0.1 degree. -/
def State.protReading (s : State) (c : Nat) (v : Int) : State :=
  if c ≤ 1 then s.setF F.PROT_SUPPLY_PVDD v.toNat
  else if c = 2 then s.setF F.PROT_SUPPLY_VGD v.toNat
  else s.setISat (F.PROT_TSNS ((c - 3) % 4)) v

/-- The status bit of a cause: 0 PV_UV, 1 PV_OV, 2 VGD, 3 to 6 OTS of a pair, 7 to 10 NTC of a pair. -/
def protBit (c : Nat) : Fld :=
  if c = 0 then F.PROT_STATUS_PV_UV else if c = 1 then F.PROT_STATUS_PV_OV else if c = 2 then F.PROT_STATUS_VGD
  else ⟨0x02080040, if c < 7 then c else c + 4, 1⟩

/-- A bit of PROT.STATUS written: the pair bits lie in the fields OTS and TSNS_FAULT. -/
def State.setProt (s : State) (c : Nat) (on : Bool) : State :=
  if c ≤ 2 then s.setF (protBit c) (b2n on)
  else
    let f := if c < 7 then F.PROT_STATUS_OTS else F.PROT_STATUS_TSNS_FAULT
    let k := (c - 3) % 4
    s.setF f (if on then withBit (s.getF f) k else noBit (s.getF f) k)
def State.protOn (s : State) (c : Nat) : Bool := bitOf (s.protBits) (if c < 7 then c else c + 4)

/-- Raw bits of the protections. -/
def State.refreshProtRaw (s : State) : State :=
  let s := (s.setRaw Ev.PVDD_UV (s.protOn 0)).setRaw Ev.PVDD_OV (s.protOn 1)
  let s := (s.setRaw Ev.VGD_UV (s.protOn 2)).setRaw Ev.AMP_OTS (s.getF F.PROT_STATUS_OTS != 0)
  (s.setRaw Ev.AMP_OTW (s.getF F.PROT_STATUS_OTW != 0)).setRaw Ev.AMP_TSNS_OPEN (s.getF F.PROT_STATUS_TSNS_FAULT != 0)

/-- AMP_HOLD_START (R377, R381, R384, R385): `hi` marks VGD above its range and an NTC short. -/
def ampHoldStart (c : Nat) (v : Int) (hi : Bool) (s : State) : State :=
  let s := s.protReading c v
  if s.protOn c then s
  else
    let old := s.protBits
    let s := s.setProt c true
    let s := s.logState orgProtection protObj old s.protBits
    let k := (c - 3) % 4
    let t := 65536 * unsigned 16 v
    let s := if c = 0 then (s.incSat F.PROT_HOLDS_UV).fire Ev.PVDD_UV protObj v.toNat
      else if c = 1 then (s.incSat F.PROT_HOLDS_OV).fire Ev.PVDD_OV protObj v.toNat
      else if c = 2 then (s.incSat F.PROT_HOLDS_VGD).fire Ev.VGD_UV protObj (b2n hi + t)
      else if c < 7 then (s.incSat F.PROT_HOLDS_TEMP).fire Ev.AMP_OTS protObj (k + t)
      else
        let s := if s.on F.PROT_GATE_TSNS_IGNORE then s else s.incSat F.PROT_HOLDS_TEMP
        s.fire Ev.AMP_TSNS_OPEN protObj (k + 4 * b2n hi)
    s.refreshProtRaw.ampHolds

/-- AMP_HOLD_CLEAR (R381): a cause ends after its release condition. -/
def ampHoldClear (c : Nat) (v : Int) (s : State) : State :=
  let s := s.protReading c v
  if !s.protOn c then s
  else
    let old := s.protBits
    let s := s.setProt c false
    (s.logState orgProtection protObj old s.protBits).refreshProtRaw.ampReleases

/-- PROT.CTL.EN becomes 0, and 1 (R381, R387). -/
def State.protDisable (s : State) : State := (s.logState orgProtection protObj s.protBits s.protBits).ampHolds
def State.protEnable (s : State) : State := (s.logState orgProtection protObj s.protBits s.protBits).ampReleases

/-- FET_TEMPERATURE_WARNING (R377): the reading crosses OTW either way. -/
def fetWarning (k : Nat) (v : Int) (s : State) : State :=
  let s := s.setISat (F.PROT_TSNS k) v
  let old := bitOf (s.getF F.PROT_STATUS_OTW) k
  let now := decide (v > 10 * (s.getF F.PROT_TEMP_OTW : Nat)) &&
    !(s.on F.PROT_GATE_TSNS_IGNORE && bitOf (s.getF F.PROT_STATUS_TSNS_FAULT) k)
  if old = now then s
  else
    let m := s.getF F.PROT_STATUS_OTW
    let s := s.setF F.PROT_STATUS_OTW (if now then withBit m k else noBit m k)
    (if now then s.fire Ev.AMP_OTW protObj (k + 65536 * unsigned 16 v) else s).refreshProtRaw

/-- CYCLE_BY_CYCLE_LIMIT (R377, R378). -/
def cycleLimit (x0 : Nat) (s : State) : State :=
  let x := s.ampHead x0
  if !ampSwitches (s.ampSt x) then s
  else
    let s := s.incSat (F.AMP_LIMIT_CYCLES x)
    let first := !s.on (F.AMP_STATUS_LIMITING x)
    let s := (s.setF (F.AMP_STATUS_LIMITING x) 1).setCh x { s.ampCh x with limT := 0 }
    (if first then s.fire Ev.AMP_ILIMIT (ampObj x) x else s).refreshAmpRaw

/-! ## Clock-error mute (R382) -/

/-- CLKMUTE_GATES_OFF: 10 ms at zero. -/
def clkmuteGatesOff (x : Nat) (s : State) : State :=
  if s.ampSt x = aCLKMUTE && !(s.ampCh x).resume then s.setCh x { s.ampCh x with gates := false, boot := false } else s

/-- CLKMUTE_RESUME: the source and the PLL have been good for 100 ms; a bootstrap charge comes first where the gates
were low. -/
def clkmuteResume (x : Nat) (s : State) : State :=
  let r := s.ampCh x
  if s.ampSt x ≠ aCLKMUTE || !s.pllOk || r.bad ≠ 0 || r.resume then s
  else
    let s := s.setCh x { r with resume := true, boot := r.gates }
    if r.gates then s.zcDue (zcAmp x) 0 else s

/-- The media PLL loses lock: channels in RUN mute (R382, R194). -/
def State.ampPllLost (s : State) : State :=
  (List.range 8).foldl (fun s x => if s.ampSt x = aRUN then s.ampClkMute x 1 else s) s

/-! ## Calibration (R383) -/

/-- A correction moved towards its estimate by at most a step and held within its limit. -/
def calMove (cur est : Int) (step lim : Int) : Int :=
  let d := est - cur
  let d := if d > step then step else if d < -step then -step else d
  let v := cur + d
  if v > lim then lim else if v < -lim then -lim else v

/-- AMP_CAL_PASS_END (R383, R385): the pass's estimates of offset (10 uV) and gain (0.001 dB). -/
def ampCalEnd (x : Nat) (off gain : Int) (s : State) : State :=
  if s.ampSt x ≠ aRUN || !s.on (F.AMP_CTL_CAL_EN x) then s
  else
    let o := calMove (s.getI (F.AMP_CAL_OFFSET x)) off 100 5000
    let g := calMove (s.getI (F.AMP_CAL_GAIN x)) gain 10 500
    let ho := decide (off.natAbs > 5000) && o.natAbs == 5000
    let hg := decide (gain.natAbs > 500) && g.natAbs == 500
    let was := s.on (F.AMP_STATUS_CAL_HELD x)
    let s := (s.setI (F.AMP_CAL_OFFSET x) o).setI (F.AMP_CAL_GAIN x) g
    let r := s.ampCh x
    let s := if (o - r.logOff).natAbs ≥ 500 then
        (s.setCh x { s.ampCh x with logOff := o }).logE orgCalender 0 kSTATE false (ampObj x + 1) (unsigned 16 r.logOff) (unsigned 16 o)
      else s
    let s := if (g - r.logGain).natAbs ≥ 50 then
        (s.setCh x { s.ampCh x with logGain := g }).logE orgCalender 0 kSTATE false (ampObj x + 2) (unsigned 16 r.logGain) (unsigned 16 g)
      else s
    let s := (s.fire Ev.CAL_DONE (ampObj x) x).setF (F.AMP_STATUS_CAL_HELD x) (b2n (ho || hg))
    (if (ho || hg) && !was then s.fire Ev.CAL_LIMIT (ampObj x) (x + 256 * b2n (hg && !ho)) else s).refreshAmpRaw

/-! ## What a tick plays (R371, R375, R382) -/

/-- A demand clipped to the available peak, 0.95 x PVDD (R371), and whether it was. -/
def State.ampClip (s : State) (x : Nat) (v : Int) : Int × Bool :=
  let fs := s.getF (F.AMP_FS_FS_VOLTS x)
  let pv := s.getF F.PROT_SUPPLY_PVDD
  if v.natAbs * fs * 20 > 19 * pv * 2 ^ 31 then
    let lim : Int := (19 * pv * 2 ^ 31 / (20 * (if fs = 0 then 1 else fs)) : Nat)
    (if v < 0 then -lim else lim, true)
  else (v, false)

/-- One sample of a channel: from the start boundary it waits for its crossing; samples of a live test or a ramp are
open. -/
def State.ampSample (s : State) (x : Nat) (v : Int) : Int × State :=
  let (a, s) := s.zcSamples (zcAmp x) 0 (s.on (F.AMP_CTL_MUTE x)) [v]
  let a := a.headD 0
  if s.ampSt x = aRUN && (KV.find s.amp.live x).isSome then s.freeSample else (a, s)

/-- The samples of a block in order, from sample number `n` on. -/
def State.ampSamples (s : State) (x : Nat) : Nat → List Int → List Int × State
  | _, [] => ([], s)
  | n, v :: l =>
    let r := s.ampCh x
    let s := if s.ampSt x = aSTARTING && r.boot && r.recover.isNone && n ≥ r.start then (s.ampRuns x).zcDue (zcAmp x) 0 else s
    let (a, s) := s.ampSample x v
    let z := s.zc (zcAmp x)
    let r := s.ampCh x
    let s := if z.on && ((s.ampSt x = aSTARTING && r.recover.isSome) || (s.ampSt x = aCLKMUTE && r.resume)) then
        (s.setCh x { r with resume := false, mute := 0 }).ampRuns x else s
    let (r, s) := State.ampSamples s x (n + 1) l
    (a :: r, s)

/-- One channel at tick `tick`; `drop` says its block was dropped at its Post (R338). While the unit is CLONING it idles
at zero (R420). -/
def State.ampTickOne (s : State) (tick : Nat) (drop : List Nat) (x : Nat) : State :=
  let st := s.ampSt x
  if !ampSwitches st || st = aPROBE then s
  else
    let n := s.ampLen x
    let cloning := s.getF F.ROLE_STATUS_STATE = 1
    let b := KV.get {} s.dsp.present (0x2500 + x)
    let b : Blk := if cloning then { v := List.replicate n 0, ok := true } else if drop.contains x then {} else b
    let s := s.setCh x { s.ampCh x with bad := if b.ok then 0 else (s.ampCh x).bad + 1 }
    let (v, s) := s.ampSamples x (tick * n) (b.take n)
    let c := v.map (s.ampClip x)
    let s := s.emit (.samples (0x2500 + x) (c.map (·.1)))
    let s := if c.any (·.2) then
        let first := !s.on (F.AMP_STATUS_CLIPPING x)
        let s := (s.setF (F.AMP_STATUS_CLIPPING x) 1).setCh x { s.ampCh x with clipT := 0 }
        if first then s.fire Ev.AMP_CLIP (ampObj x) x else s
      else s
    if s.ampSt x = aRUN && (s.ampCh x).bad ≥ s.getF (F.AMP_TIMING_MUTE_BLOCKS x) then s.ampClkMute x 2 else s

/-- LIMITING and CLIPPING end 1 ms after the last action. -/
def State.ampAge (s : State) (x : Nat) : State :=
  let r := s.ampCh x
  let ms := ceilDiv s.tps 1000
  let s := s.setCh x { r with limT := if s.on (F.AMP_STATUS_LIMITING x) then r.limT + 1 else 0
                              clipT := if s.on (F.AMP_STATUS_CLIPPING x) then r.clipT + 1 else 0 }
  let s := if (s.ampCh x).limT > ms then s.setF (F.AMP_STATUS_LIMITING x) 0 else s
  if (s.ampCh x).clipT > ms then s.setF (F.AMP_STATUS_CLIPPING x) 0 else s

/-- Every channel at a tick. -/
def State.ampTick (s : State) (tick : Nat) (drop : List Nat) : State :=
  ((List.range 8).foldl (fun s x => (s.ampTickOne tick drop x).ampAge x) s).refreshAmpRaw

/-- The peaks of a second (Table 16.8): load voltage in 0.1 V, current in 10 mA. -/
def State.ampSecond (s : State) (l : List (Nat × Nat)) : State :=
  (List.range 8).foldl (fun s x => match l[x]? with
    | some (v, i) => (s.setSat (F.AMP_PEAK_V x) v).setSat (F.AMP_PEAK_I x) i
    | none => s) s

/-! ## Safe state, LISTEN, register hooks (R372, R375, R386, R387) -/

/-- A channel enters its safe state (Table 3.4). -/
def State.ampSafe (s : State) (x : Nat) : State :=
  if s.ampSt x = aSAFE then s
  else (((s.offlineAbandon x 4).setCh x { (s.offlineAbandon x 4).ampCh x with fault := false, due := false, recover := none, pend := false }).setAmp x aSAFE).fire
    Ev.AMP_SAFE (ampObj x) x

/-- The protection unit enters its safe state: every channel does. -/
def State.protSafe (s : State) : State :=
  ((List.range 8).foldl (fun s x => s.ampSafe x) s).fire Ev.AMP_SAFE protObj 8

/-- A channel leaves its safe state (R74): it starts as on an enable. -/
def State.ampUnsafe (s : State) (x : Nat) : State :=
  let s := if s.ampSt x = aSAFE then s.setAmp x aOFF else s
  if s.on (F.AMP_CTL_EN x) then s.ampEnable x none else s

/-- LISTEN is entered: every channel that switches ramps down and its gates go low (R375). -/
def State.ampListen (s : State) : State :=
  (List.range 8).foldl (fun s x => if ampSwitches (s.ampSt x) then s.setAmp x aOFF else s) s

/-- RUN is entered: each channel with EN = 1 starts as on a host enable. -/
def State.ampResume (s : State) : State :=
  (List.range 8).foldl (fun s x => if s.on (F.AMP_CTL_EN x) && s.ampSt x = aOFF then s.ampEnable x none else s) s

/-- A step of the timebase moves the start boundaries. -/
def State.ampStep (s : State) (ticks : Int) : State :=
  { s with amp := { s.amp with ch := KV.mapV (fun x (r : AmpRun) =>
      if r.start = 0 then r else { r with start := ((r.start : Int) + ticks * s.ampLen x).toNat }) s.amp.ch } }

/-- BRIDGE of an even channel has changed (R372). -/
def State.bridgeChange (s : State) (x : Nat) : State :=
  if s.on (F.AMP_CTL_BRIDGE x) then s.setAmp (x + 1) aBRIDGED
  else if s.ampSt (x + 1) = aBRIDGED then s.setAmp (x + 1) aOFF else s

/-- MUTE of a channel has changed. -/
def State.ampMuteChange (s : State) (x : Nat) : State :=
  if ampSwitches (s.ampSt x) then s.zcDue (zcAmp x) 3 else s

/-- Legal data of a channel's registers (R372, R386). -/
def State.legalAmp (s : State) (x off v : Nat) : Bool :=
  if off = 0 then
    !(bitOf v 2 && (x % 2 == 1 || s.on (F.AMP_CTL_EN (x + 1)))) && !(bitOf v 0 && x % 2 == 1 && s.on (F.AMP_CTL_BRIDGE (x - 1)))
  else if off = 4 then decide (10 ≤ bitsOf v 9 0) && decide (bitsOf v 9 0 ≤ 570)
  else if off = 8 then
    decide (1 ≤ bitsOf v 7 0) && decide (bitsOf v 7 0 ≤ 200) && decide (bitsOf v 11 8 ≤ 8) && bitsOf v 15 12 != 0
  else if off = 0xC then decide (500 ≤ v) && decide (v ≤ 50000)
  else if off = 0x10 then decide (100 ≤ bitsOf v 13 0) && decide (bitsOf v 13 0 ≤ 10000)
  else true

/-- Legal data of the protection unit's registers (Table 16.9). -/
def legalProt (off v : Nat) : Bool :=
  let lo := bitsOf v 7 0
  let hi := bitsOf v 15 8
  if off = 8 then decide (10 ≤ lo) && decide (lo ≤ 180) && decide (hi ≤ 200)
  else if off = 0xC then decide (5 ≤ lo) && decide (lo ≤ 30) && decide (5 ≤ hi) && decide (hi ≤ 100)
  else if off = 0x10 then decide (60 ≤ lo) && decide (lo ≤ 140) && decide (hi ≤ 150)
  else if off = 0x14 then decide (70 ≤ bitsOf v 9 0) && decide (bitsOf v 9 0 ≤ 580)
  else if off = 0x18 then decide (bitsOf v 9 0 ≤ 660)
  else if off = 0x1C then decide (5 ≤ lo) && decide (lo ≤ 100)
  else if off = 0x20 then decide (100 ≤ bitsOf v 13 0) && decide (bitsOf v 13 0 ≤ 10000)
  else true

/-- The dead time against its gate-drive type (Table 16.3). -/
def State.deadOk (s : State) : Bool :=
  let d := s.getF F.PROT_GATE_DEAD
  if s.on F.PROT_GATE_GD_TYPE then decide (10 ≤ d) && decide (d ≤ 255) else decide (2 ≤ d) && decide (d ≤ 50)

/-- The protection unit's whole configuration, judged when EN is set (R387). -/
def State.protConfigOk (s : State) : Bool :=
  decide (s.getF F.PROT_ILIM + 10 ≤ s.getF F.PROT_ILIM_HARD) && decide (s.getF F.PROT_TEMP_OTW + 5 ≤ s.getF F.PROT_TEMP_OTS) &&
  decide (s.getF F.PROT_PV_UV + 20 ≤ s.getF F.PROT_PV_OV) && s.deadOk

/-- STATUS of a channel (R386): offsets 0x0020 to 0x003C. -/
def State.ampStatusBlock (s : State) (x : Nat) : List Byte :=
  let w := fun (l h : Fld) => leBytes 4 (s.getF l + 65536 * s.getF h)
  leBytes 4 (s.getF (F.AMP_STATUS_STATE x) + 16 * s.getF (F.AMP_STATUS_CLASS x) + 128 * s.getF (F.AMP_STATUS_LIMITING x) +
    256 * s.getF (F.AMP_STATUS_CLIPPING x) + 512 * s.getF (F.AMP_STATUS_CAL_HELD x) + 65536 * s.getF (F.AMP_STATUS_RETRY_NOW x)) ++
  w (F.AMP_PEAK_V x) (F.AMP_PEAK_I x) ++ w (F.AMP_TRIP_V_P x) (F.AMP_TRIP_V_N x) ++ w (F.AMP_TRIP_I_I x) (F.AMP_TRIP_I_PROBE_R x) ++
  w (F.AMP_CAL_OFFSET x) (F.AMP_CAL_GAIN x) ++ w (F.AMP_COUNT_TRIPS x) (F.AMP_COUNT_PROBE_FAILS x) ++
  leBytes 4 (s.getF (F.AMP_LIMIT_CYCLES x)) ++ w (F.AMP_CLKMUTES x) (F.AMP_ZC_TIMEOUTS x)

end Sys2Proof.Machine
end

