-- ==== Sys2Proof/Machine/Diag.lean ====
section
/-!
DEFINITION. Machine/Diag.lean: the commands, tests, classes and Plates of the loudspeaker line diagnostics (chapter
17, R388 to R404).
-/

namespace Sys2Proof.Machine

/-! ## Classification (R398, R399) -/

/-- The Plate that a test may use: one whose frequencies equal the current ones. -/
def State.plateFor (s : State) (x : Nat) : Option DiagRec :=
  match KV.find s.amp.plate x with
  | some p => if p.f = s.diagFreqs then some p else none
  | none => none

/-- Whether a measured value deviates from a Plate's by more than `lim` per cent. -/
def deviates (m p lim : Nat) : Bool := decide (100 * ((m : Int) - p).natAbs > lim * p)

/-- A deviation in 0.1 per cent. -/
def deviation (m p : Nat) : Nat := (roundDiv (1000 * (((m : Int) - p).natAbs : Int)) p).toNat

/-- What a classification reads: R_DC, magnitudes, phases, deferred frequencies, and whether the result is live. -/
structure DiagIn where
  rdc : Nat
  z : List Nat
  arg : List Int
  deferred : Nat
  live : Bool
  dcOnly : Bool
  deriving DecidableEq, Repr

/-- Whether frequency `k` was measured. -/
def DiagIn.has (d : DiagIn) (k : Nat) : Bool := !d.dcOnly && !bitOf d.deferred k
def DiagIn.zk (d : DiagIn) (k : Nat) : Nat := d.z.getD k 0

/-- R_DC outside its limit against a Plate: a rise of a live test is judged against twice the limit. -/
def DiagIn.rdcOff (d : DiagIn) (p : DiagRec) (lim : Nat) : Bool :=
  deviates d.rdc p.rdc (if d.live && decide (d.rdc > p.rdc) then 2 * lim else lim)

/-- Whether the magnitude, or the phase, at frequency `k` has changed from a Plate's. -/
def DiagIn.zOff (d : DiagIn) (p : DiagRec) (lim k : Nat) : Bool := d.has k && deviates (d.zk k) (p.z.getD k 0) lim
def DiagIn.argOff (d : DiagIn) (p : DiagRec) (k : Nat) : Bool :=
  d.has k && decide ((d.arg.getD k 0 - p.arg.getD k 0).natAbs > 200)

/-- The class of Table 17.4 and the detail value of its event (Table 17.6). -/
def State.classify (s : State) (plate : Option DiagRec) (d : DiagIn) : Nat × Nat :=
  let lim := s.getF F.DIAG_LIM2_CHANGE_LIM
  let tw := s.getF F.DIAG_LIM2_TWEET_LIM
  let open_ := s.getF F.DIAG_LIM1_OPEN_LIM * 10000
  let lo := d.zk 0
  let hi := d.zk 3
  let tenths := (roundDiv d.rdc 100).toNat
  if d.rdc < s.getF F.DIAG_LIM1_SHORT_LIM * 100 then (3, tenths)
  else if d.rdc > open_ && (d.dcOnly || (d.has 0 && decide (lo > open_))) then (2, tenths)
  else match plate with
    | some p =>
      let plo := p.z.getD 0 0
      let phi := p.z.getD 3 0
      if !d.rdcOff p lim && d.has 0 && !deviates lo plo lim && d.has 3 && 100 * hi * plo > (100 + tw) * lo * phi then
        (4, (roundDiv (1000 * ((hi * plo : Nat) - (lo * phi : Nat) : Int)) (lo * phi)).toNat)
      else if d.rdcOff p lim || (List.range 4).any (fun k => d.zOff p lim k || d.argOff p k) then
        (6, (List.range 4).foldl (fun a k => if d.has k then max a (deviation (d.zk k) (p.z.getD k 0)) else a) (deviation d.rdc p.rdc))
      else (1, 0)
    | none =>
      if d.has 0 && d.has 3 && 10 * hi ≥ s.getF F.DIAG_LIM3_WOOFER_RATIO * lo then (5, (roundDiv (100 * hi : Nat) lo).toNat)
      else (1, 0)

/-- A result enters the day's R_DC values of its channel (R396, R441). -/
def State.dayRdc (s : State) (x rdc : Nat) : State :=
  { s with amp := { s.amp with dcr := KV.put [] s.amp.dcr x (rdc :: KV.get [] s.amp.dcr x) } }

/-- A test's measurements are classified and stored (R396, R398, R399). -/
def State.testResult (s : State) (x : Nat) (d : DiagIn) : State :=
  let plate := s.plateFor x
  let (cls, detail) := s.classify plate d
  let s := if plate.isNone then s.fire Ev.PLATE_MISSING (ampObj x) (x + 256 * b2n (KV.find s.amp.plate x).isSome) else s
  let flags := b2n d.live + 2 * b2n plate.isSome + 4 * b2n (d.live && d.deferred != 0) + 16 * b2n d.dcOnly
  (s.storeResult x { cls := cls, flags := flags, deferred := d.deferred, sec := s.now.sec % 2 ^ 32, rdc := satNat 32 d.rdc,
                     z := d.z.map (satNat 32), arg := d.arg, f := s.diagFreqs, pvdd := s.getF F.PROT_SUPPLY_PVDD } detail).dayRdc x d.rdc

/-! ## Offline tests (R390 to R392) -/

/-- The channels of a mask. -/
def maskList (m : Nat) : List Nat := (List.range 8).filter (bitOf m)

/-- Step 1 of the checks: object, mask, no odd channel of a bridge, reserved bytes. Answers the offset at fault. -/
def State.diagParams (s : State) (q : Req) (flagLim : Nat) : Option Nat :=
  let m := q.field 4 1
  if q.obj ≠ diagObj then some 16
  else if m = 0 || (maskList m).any (fun x => x % 2 == 1 && s.on (F.AMP_CTL_BRIDGE (x - 1))) then some 20
  else if q.field 5 1 > flagLim then some 21
  else if q.field 6 2 ≠ 0 then some 22
  else none

/-- DIAG_OFFLINE begins (R390). -/
def opDiagOffline (q : Req) (s : State) : OpOut :=
  if q.params.length ≠ 8 then badLen
  else match s.diagParams q 1 with
    | some o => .bad o
    | none =>
      let l := maskList (q.field 4 1)
      if !s.on F.DIAG_CTL_EN || s.inSafe 8 9 then .err stBAD_STATE
      else if l.any (fun x => s.ampSt x != aOFF || s.ampHeld x) then .err stBAD_STATE
      else .long ({ s with amp := { s.amp with offline := l, dcOnly := bitOf (q.field 5 1) 0 } }.refreshDiag)

/-- A measurement the outside has not given: every quantity free. -/
def State.freeMeas (s : State) : DiagMeas × State :=
  let one := fun (s : State) => let (n, s) := s.draw; ((Config.measured n).toNat, s)
  let (rdc, s) := one s
  let (z, s) := (List.range 4).foldl (fun (a : List Nat × State) _ => let (v, s) := one a.2; (a.1 ++ [v], s)) ([], s)
  let (g, s) := (List.range 4).foldl (fun (a : List Int × State) _ => let (v, s) := one a.2; (a.1 ++ [signed 16 v], s)) ([], s)
  ({ rdc := rdc, z := z, arg := g }, s)

/-- The result of one channel of an ended offline test. -/
def State.offlineResult (s : State) (r : List (Nat × DiagMeas)) (x : Nat) : State :=
  let (m, s) := match KV.find r x with
    | some m => (m, s)
    | none => s.freeMeas
  let dc := s.amp.dcOnly
  s.testResult x { rdc := m.rdc, z := if dc then [0, 0, 0, 0] else m.z, arg := if dc then [0, 0, 0, 0] else m.arg,
                   deferred := 0, live := false, dcOnly := dc }

/-- DIAG_OFFLINE_END (R391, R392): results and classes are stored and the reply is written. -/
def diagOfflineEnd (r : List (Nat × DiagMeas)) (s : State) : State :=
  match s.car.longOp with
  | none => s
  | some l =>
    if l.idx ≠ 7 then s
    else if l.abandoned then s.endLong l (fun _ => .fail stBAD_STATE 0xFFFF 2)
    else
      let under := (List.range 8).filter (fun x => s.amp.offline.contains x)
      let s := under.foldl (fun s x => s.offlineResult r x) s
      let s := { s with amp := { s.amp with offline := [], dcOnly := false } }.refreshDiag
      let classes := (List.range 8).flatMap (fun x =>
        leBytes 1 (if under.contains x || bitOf l.arg x then s.getF (F.DIAG_CH_CLASS x) else 0))
      s.endLong l (fun s => .done s classes (some diagObj))

/-! ## Live tests (R393 to R397) -/

/-- What keeps a channel from a live test (Table 17.6): 1 not in RUN, 2 no PILOT node, 3 EN = 0; 0 nothing. -/
def State.liveRefusal (s : State) (x : Nat) : Nat :=
  if s.ampSt x ≠ aRUN then 1 else if !s.hasPilot x then 2 else if !s.on F.DIAG_CTL_EN || s.inSafe 8 9 then 3 else 0

/-- A live test begins (R395). -/
def State.liveStart (s : State) (x : Nat) : State :=
  ({ s with amp := { s.amp with live := KV.set s.amp.live x {} } }.refreshDiag).fire Ev.PILOT_START (ampObj x) x

/-- DIAG_LIVE (R393). -/
def opDiagLive (q : Req) (s : State) : OpOut :=
  if q.params.length ≠ 8 then badLen
  else match s.diagParams q 0 with
    | some o => .bad o
    | none =>
      let l := maskList (q.field 4 1)
      if l.any (fun x => s.liveRefusal x != 0) then .err stBAD_STATE
      else .done (l.foldl (fun s x => (s.liveAbandon x 1).liveStart x) s) [] (some diagObj)

/-- LIVE_TEST_DUE (R393): a scheduled test starts, or is refused. -/
def liveTestDue (x : Nat) (s : State) : State :=
  let i := s.getF F.DIAG_CTL_LIVE_INT
  if i = 0 || i > 4 || (KV.find s.amp.live x).isSome then s
  else
    let c := s.liveRefusal x
    if c = 0 then s.liveStart x else s.fire Ev.DIAG_REFUSED (ampObj x) (x + 256 * c)

/-- The number of set bits of four. -/
def bits4 (m : Nat) : Nat := (List.range 4).foldl (fun a k => a + b2n (bitOf m k)) 0

/-- A live test whose last frequency is done or deferred (R396). -/
def State.liveEnd (s : State) (x : Nat) (t : LiveRun) (rdc : Nat) : State :=
  let s := { s with amp := { s.amp with live := KV.erase s.amp.live x } }.refreshDiag
  let s := (s.setF (F.DIAG_CH_DEFERRED x) t.deferred).addSat (F.DIAG_CH_DEFERRALS x) (bits4 t.deferred)
  let s := if t.deferred = 15 then s.dayRdc x rdc else
    s.testResult x { rdc := rdc, z := t.z, arg := t.arg, deferred := t.deferred, live := true, dcOnly := false }
  if t.deferred = 0 then s else s.fire Ev.DIAG_DEFERRED (ampObj x) (x + 16 * t.deferred)

/-- A live test goes on to its next frequency with a result, or with none where it is deferred. -/
def State.liveNext (s : State) (x : Nat) (t : LiveRun) (res : Option (Nat × Int)) (rdc : Nat) : State :=
  let t := match res with
    | some (z, a) => { t with k := t.k + 1, z := t.z ++ [z], arg := t.arg ++ [a] }
    | none => { t with k := t.k + 1, z := t.z ++ [0], arg := t.arg ++ [0], deferred := t.deferred + 2 ^ t.k }
  if t.k ≥ 4 then s.liveEnd x t rdc
  else { s with amp := { s.amp with live := KV.set s.amp.live x t } }

/-- LIVE_WINDOW_END (R395): a window that does not count is opened afresh. -/
def liveWindowEnd (x : Nat) (counted : Bool) (z : Nat) (arg : Int) (rdc : Nat) (s : State) : State :=
  match KV.find s.amp.live x with
  | some t => if counted then s.liveNext x t (some (z, arg)) rdc else s
  | none => s

/-- LIVE_DEFER_TIMEOUT (R395). -/
def liveDeferTimeout (x rdc : Nat) (s : State) : State :=
  match KV.find s.amp.live x with
  | some t => s.liveNext x t none rdc
  | none => s

/-! ## Records and Plates (R400, R401) -/

/-- The 48 bytes of a result record (Table 17.5). -/
def DiagRec.bytes (r : DiagRec) : List Byte :=
  leBytes 1 r.cls ++ leBytes 1 r.flags ++ leBytes 1 r.deferred ++ leBytes 1 0 ++ leBytes 4 r.sec ++ leBytes 4 r.rdc ++
  (List.range 4).flatMap (fun k => leBytes 4 (r.z.getD k 0)) ++ (List.range 4).flatMap (fun k => leBytes 2 (unsigned 16 (r.arg.getD k 0))) ++
  (List.range 4).flatMap (fun k => leBytes 2 (r.f.getD k 0)) ++ leBytes 2 r.pvdd ++ leBytes 2 0

/-- DIAG_READ (R401). -/
def opDiagRead (q : Req) (s : State) : OpOut :=
  if q.params.length ≠ 8 then badLen
  else if q.obj ≠ diagObj then .bad 16
  else if q.field 4 1 > 7 then .bad 20
  else if q.field 5 1 > 1 then .bad 21
  else if q.field 6 2 ≠ 0 then .bad (q.firstSet 6 2)
  else match KV.find (if q.field 5 1 = 0 then s.amp.last else s.amp.plate) (q.field 4 1) with
    | some r => .done s r.bytes none
    | none => .err stNOT_FOUND

/-- Whether a channel's last result may become its Plate. -/
def State.plateOk (s : State) (x : Nat) : Bool :=
  match KV.find s.amp.last x with
  | some r => r.flags % 2 == 0 && !bitOf r.flags 2 && !bitOf r.flags 3 && !bitOf r.flags 4 && (r.cls == 1 || r.cls == 5 || r.cls == 6)
  | none => false

/-- Writes that a verification refused (R400): NVM_FAIL, and the old Plates stay. -/
def State.plateFail (s : State) : OpOut := .failWith (s.fire Ev.NVM_FAIL diagObj 0x340000) stNVM_FAIL 0xFFFF 0

/-- PLATE_STORE without CLEAR (R400); `verify` says whether the writes verified. -/
def opPlateStore (verify : Bool) (q : Req) (s : State) : OpOut :=
  let l := maskList (q.field 4 1)
  if l.any (fun x => !s.plateOk x) then .err stBAD_STATE
  else if !verify then s.plateFail
  else
    let plates := l.foldl (fun (m : KV DiagRec) x => match KV.find s.amp.last x with
      | some r => KV.set m x { r with flags := r.flags + 32 }
      | none => m) s.amp.plate
    .done (({ s with amp := { s.amp with plate := plates } }.refreshDiag).fire Ev.PLATE_STORED diagObj (q.field 4 1)) [] (some diagObj)

/-- PLATE_STORE with CLEAR (R400). -/
def opPlateClear (verify : Bool) (q : Req) (s : State) : OpOut :=
  let l := maskList (q.field 4 1)
  if !verify then s.plateFail
  else
    let plates := l.foldl (fun (m : KV DiagRec) x => KV.erase m x) s.amp.plate
    .done (({ s with amp := { s.amp with plate := plates } }.refreshDiag).fire Ev.PLATE_STORED diagObj (q.field 4 1 + 256)) [] (some diagObj)

/-- The checks that both forms of opcode 0x0813 share, and the form the flag selects. -/
def opPlate (verify : Bool) (q : Req) (s : State) : OpOut :=
  if q.params.length ≠ 8 then badLen
  else match s.diagParams q 1 with
    | some o => .bad o
    | none => if bitOf (q.field 5 1) 0 then opPlateClear verify q s else opPlateStore verify q s

/-! ## Registers (R404) -/

/-- Legal data of the diagnostics unit's registers. -/
def legalDiag (off v : Nat) : Bool :=
  if off = 0 then decide (bitsOf v 3 1 ≤ 4)
  else if 4 ≤ off && off ≤ 0x10 then decide (100 ≤ bitsOf v 14 0) && decide (bitsOf v 14 0 ≤ 20000)
  else if off = 0x14 then decide (1 ≤ bitsOf v 7 0) && decide (bitsOf v 7 0 ≤ 100) && decide (1 ≤ bitsOf v 15 8) && decide (bitsOf v 15 8 ≤ 100)
  else if off = 0x18 then decide (1 ≤ bitsOf v 5 0) && decide (bitsOf v 5 0 ≤ 50) && decide (1 ≤ bitsOf v 11 6) && decide (bitsOf v 11 6 ≤ 50)
  else if off = 0x1C then
    decide (11 ≤ bitsOf v 5 0) && decide (bitsOf v 5 0 ≤ 50) && decide (1 ≤ bitsOf v 11 6) && decide (bitsOf v 11 6 ≤ 60) && bitsOf v 15 12 != 0
  else true

/-- The whole configuration, judged when EN is set: the frequencies ascend strictly. -/
def State.diagConfigOk (s : State) : Bool :=
  let f := fun k => s.getF (F.DIAG_FREQ k)
  decide (f 0 < f 1) && decide (f 1 < f 2) && decide (f 2 < f 3)

end Sys2Proof.Machine
end

