-- ==== Sys2Proof/Machine/Pair.lean ====
section
/-!
DEFINITION. Machine/Pair.lean: the active and standby pair (chapter 18, R405 to R437): link, roles, negotiation,
takeover and hand-over, shares, digests, repair, health.
-/

namespace Sys2Proof.Machine

def linkObj : Nat := objId 10 0 0
def roleObj : Nat := objId 10 1 0
def digObj : Nat := objId 10 2 0

/-- States (Table 18.2). -/
def psALONE : Nat := 0
def psCLONING : Nat := 1
def psSYNC : Nat := 2
def psREADY : Nat := 3
def psACTIVE : Nat := 4
def State.pairSt (s : State) : Nat := s.getF F.ROLE_STATUS_STATE
def State.setPairD (s : State) (p : PairState) : State := { s with pair := p }
def State.partnerId (s : State) : Nat := s.getF F.ROLE_STATUS_PARTNER_ID

/-! ## Health (R431) -/

/-- The causes of Table 18.7 that hold. -/
def State.causes (s : State) : Nat :=
  let bit := fun n (b : Bool) => if b then 2 ^ n else 0
  let up := fun p => s.on (F.MAC_STATUS_LINK p)
  let m := s.getF F.LOOP_STATUS_MODE
  bit 0 (s.inSafe 10 0 || s.inSafe 10 1 || s.inSafe 10 2 || s.inSafe 5 64 || s.inSafe 5 65 || s.inSafe 4 0 || s.inSafe 4 1) +
  bit 1 (decide (s.getF F.ADM_COMMITTED > s.getF F.ADM_DECKLE)) + bit 2 (decide (s.pair.pllMs > 100)) +
  bit 3 (!up 0 && !up 1) + bit 4 s.pair.burinFail +
  bit 5 (s.ev.raw.contains Ev.SUPPLY_FAIL || s.ev.raw.contains Ev.TEMP_CRIT) +
  bit 8 (up 0 != up 1) + bit 9 (m == lmHOLDOVER || m == lmFREE) + bit 10 (s.servants.length != 64) +
  bit 11 (!s.on F.MEM_STATUS_TRAINED) + bit 12 (s.ev.raw.contains Ev.PAIR_CLOCK_DIFF)

/-- The health level of a set of causes: 0 OK, 1 DEGRADED, 2 FAIL. -/
def healthOf (c : Nat) : Nat := if c % 64 ≠ 0 then 2 else if c ≠ 0 then 1 else 0
def State.health (s : State) : Nat := healthOf s.causes

/-! ## State changes (R408, R433, R434) -/

/-- The unit's state changes: event and entry. -/
def State.setPair (s : State) (new : Nat) : State :=
  let old := s.pairSt
  if old = new then s
  else
    let s := (s.setF F.ROLE_STATUS_STATE new).setPairD { s.pair with syncRun := 0 }
    let s := s.fire Ev.ROLE_CHANGE roleObj (new + 16 * old)
    let s := s.logE 8 s.partnerId kSTATE false roleObj old new
    if new = psREADY then s.fire Ev.STANDBY_READY roleObj 0 else s

/-- The first tick boundary at least 2 ms from now. -/
def State.in2ms (s : State) : Nat := ((s.now.units + 131072000000) * s.tps / unitsSec).toNat + 1

/-- The unit changes state with the link up, and the sending paths change with it at tick `t` (R416). -/
def State.setPairAt (s : State) (new t : Nat) : State :=
  let old := s.pathRole
  let s := s.setPair new
  s.setPairD { s.pair with cut := some (s.tickUnits t, old) }

/-- The unit changes state and its sending paths change with its next packet (R271). -/
def State.setPairNow (s : State) (new : Nat) : State := (s.setPair new).setPairD { (s.setPair new).pair with cut := none }

/-- Bussed ports are held, or not, from a time on (R419). -/
def State.setBus (s : State) (v : Bool) (t : Int) : State :=
  let held := s.pair.bus == decide (s.pair.busFrom ≤ s.now.units)
  s.setPairD { s.pair with bus := v, busFrom := if held == v then s.now.units else t }

/-- Microseconds in 2^-16 ns. -/
def micros (n : Nat) : Int := n * 65536000

/-! ## Shares (R414, R422) -/

/-- A share's shifts move the streams of their domains. -/
def State.applyShifts (s : State) (h : List (Nat × Int)) : State :=
  h.foldl (fun s q =>
    let s := s.moveH q.1 (q.2 - KV.get 0 s.str.hShift q.1)
    { s with str := { s.str with hInit := if s.str.hInit.contains q.1 then s.str.hInit else q.1 :: s.str.hInit } }) s

/-- Estimators take shared lines, ratios and states as their own. -/
def State.loadEstimators (s : State) (l : List FdShare) : State :=
  (l.foldl (fun s f =>
    let s := s.setFd f.k { s.fdEst f.k with lineR := f.lineR, lineT := f.lineT, lineHz := f.lineHz, lineOff := f.lineOff, feed := [] }
    (s.setI (F.FD_RATIO f.k) f.ratio).setF (F.FD_STATUS_STATE f.k) f.st) s).refreshRxRaw

/-- The last share becomes the unit's own (R422). -/
def State.adoptShare (s : State) : State :=
  let s := match s.shareUsed with
    | some x => s.loadEstimators x.fd
    | none => s
  s.setPairD { s.pair with share := none, inbox := [], missRun := 0, gotRun := 0, barred := false }

/-- LOCKSTEP_SHARE_RX (R414): a share waits for its tick. -/
def shareRx (x : ShareIn) (s : State) : State :=
  if (s.pairSt = psSYNC || s.pairSt = psREADY) && s.pairLinkUp then s.setPairD { s.pair with inbox := s.pair.inbox ++ [x] } else s

/-- The share this unit sends for tick `t`. -/
def State.ownShare (s : State) (t : Nat) : ShareIn :=
  let ks := (List.range 64).filter (fun k => s.fdSt k == fdLOCKED || s.fdSt k == fdRANGE)
  { tick := t
    fd := ks.map (fun k =>
      let x := s.fdEst k
      { k := k, st := s.fdSt k, ratio := s.getI (F.FD_RATIO k), lineR := x.lineR, lineT := x.lineT, lineHz := x.lineHz, lineOff := x.lineOff })
    h := s.str.hInit.map (fun d => (d, KV.get 0 s.str.hShift d)) }

/-- A share as words on the link. -/
def ShareIn.words (x : ShareIn) : List Nat :=
  [x.tick, x.fd.length] ++
  x.fd.flatMap (fun f => [f.k, f.st, unsigned 64 f.ratio, f.lineR, unsigned 128 f.lineT, f.lineHz, f.lineOff]) ++
  x.h.flatMap (fun q => [q.1, unsigned 64 q.2])

/-- A share missing when its tick begins (R414); `k` is the estimator last shared, where one was. -/
def State.shareMiss (s : State) : State :=
  let k := match s.pair.share with
    | some x => ((x.fd.head?).map (·.k)).getD 0
    | none => 0
  let s := (s.flagWindow.incSat F.ROLE_SHARE_MISSES).fire Ev.RATIO_SHARE_MISS roleObj (k + 256)
  let n := s.pair.missRun + 1
  let s := s.setPairD { s.pair with missRun := n, gotRun := 0, barred := s.pair.barred || decide (n ≥ 16) }
  if n = 16 && s.pairSt = psREADY then s.setPairAt psSYNC s.in2ms else s

/-- The pair at the beginning of tick `t`: the standby applies its share or misses it, the active unit sends one. -/
def State.pairTick (s : State) (t : Nat) : State :=
  let s := match s.pair.cut with
    | some (u, _) => if u ≤ s.tickUnits t then s.setPairD { s.pair with cut := none } else s
    | none => s
  if !s.pairLinkUp then s
  else if s.pairSt = psSYNC || s.pairSt = psREADY then
    let x := s.pair.inbox.find? (fun x => x.tick == t)
    let s := s.setPairD { s.pair with inbox := s.pair.inbox.filter (fun x => decide (x.tick > t)) }
    match x with
    | some x =>
      let n := s.pair.gotRun + 1
      let s := s.setPairD { s.pair with share := some x, missRun := 0, gotRun := n, barred := s.pair.barred && decide (n < 16) }
      s.applyShifts x.h
    | none => s.shareMiss
  else if s.pairSt = psACTIVE then s.emit (.pair 3 (s.ownShare t).words)
  else s

/-! ## Takeover and hand-over (R421 to R424) -/

/-- This unit takes over (R421, R422); the sending paths change with the next packet, or at a hand-over's tick. -/
def State.takeover (s : State) (cause new : Nat) (at_ : Option Nat) : State :=
  let s := (s.incSat F.ROLE_TAKEOVERS).fire Ev.TAKEOVER roleObj cause
  let s := s.adoptShare
  let s := match at_ with
    | some t => s.setPairAt new t
    | none => s.setPairNow new
  s.setPairD { s.pair with took := new == psACTIVE, hand := none, pState := if at_.isSome then psREADY else s.pair.pState }

/-- PAIR_TAKE_ASSERT (R406, R421). -/
def pairTakeAssert (s : State) : State :=
  let s := ({ s with pins := { s.pins with takeLow := true } }).setF F.ROLE_STATUS_TAKE_IN 1
  let st := s.pairSt
  let s := s.raise Ev.PAIR_TAKE_IN roleObj st
  if (st = psSYNC || st = psREADY) && s.on F.ROLE_CTL_TAKE_PIN_EN then
    (s.takeover 3 psACTIVE none).setBus true (s.now.units + micros 4)
  else s

/-- PAIR_TAKE_RELEASE. -/
def pairTakeRelease (s : State) : State :=
  (({ s with pins := { s.pins with takeLow := false } }).setF F.ROLE_STATUS_TAKE_IN 0).setRaw Ev.PAIR_TAKE_IN false

/-- HANDOVER_AT_TH (R423): the roles exchange at the tick fixed. -/
def handoverAtTh (s : State) : State :=
  match s.pair.hand with
  | none => s
  | some (t, c) => s.atTick t (fun s =>
    let s := s.setPairD { s.pair with hand := none }
    if s.pairSt = psACTIVE then
      let s := s.setPairAt psREADY t
      (s.setPairD { s.pair with pState := psACTIVE, took := false }).setBus false s.now.units
    else if s.pairSt = psREADY || s.pairSt = psSYNC then (s.takeover c psACTIVE (some t)).setBus true s.now.units
    else s)

/-- PAIR_TAKEOVER (R423). -/
def opPairTakeover (q : Req) (s : State) : OpOut :=
  if q.params.length ≠ 8 then badLen
  else if q.obj ≠ roleObj then .bad 16
  else if q.field 4 1 > 1 then .bad 20
  else if q.field 5 3 ≠ 0 then .bad (q.firstSet 5 3)
  else
    let st := s.pairSt
    if st = psALONE || st = psCLONING || (st = psSYNC && q.field 4 1 = 0) || (st = psACTIVE && s.pair.pState ≠ psREADY) then .err stBAD_STATE
    else
      let t := s.in2ms
      let u := Tai.ofUnits (s.tickUnits t)
      .done (s.setPairD { s.pair with hand := some (t, if st = psACTIVE then 5 else 4) }) (leBytes 8 u.sec ++ leBytes 4 u.ns) (some roleObj)

/-! ## Cloning (R420, R425, R426) -/

/-- Amplifier channels that switch ramp to zero over 64 samples and idle (R420); and pass again at their next
crossing. -/
def State.ampIdle (s : State) : State :=
  (List.range 8).foldl (fun s x =>
    let z := s.zc (zcAmp x)
    if ampSwitches (s.ampSt x) && z.on then s.setZc (zcAmp x) { z with on := false, ramp := 64 } else s) s
def State.ampUnidle (s : State) : State :=
  (List.range 8).foldl (fun s x => if s.ampSt x = aRUN then s.zcDue (zcAmp x) 0 else s) s

/-- The request of a clone, which no host made (Table 2.7). -/
def cloneReq : Req := { carrier := .mailbox, origin := { code := 8 }, noreply := true }

/-- A clone's busy ends with a status (R426, Table 4.2). -/
def State.cloneBusyEnd (s : State) (status : Nat) : State :=
  match s.car.longOp with
  | some l =>
    if l.idx = 9 then ({ s with car := { s.car with longOp := none, executing := none } }).fire Ev.LONG_DONE (objId 0 1 0) (9 + 65536 * status)
    else s
  | none => s

/-- Step 1 of a clone (Table 18.6). It waits for a running long operation to end and the next retry. -/
def State.cloneStart (s : State) : State :=
  if s.car.longOp.isSome then s
  else
    let s := s.beginLong { idx := 9, req := cloneReq }
    let s := (s.setPairD { s.pair with cloning := true, stage := none }).fire Ev.CLONE_START roleObj s.partnerId
    (s.ampIdle.dspFlush).setBus false s.now.units

/-- The unit enters CLONING (R409). -/
def State.enterCloning (s : State) : State := (s.setPairNow psCLONING).cloneStart

/-- A clone fails (R426): the staging is discarded. -/
def State.cloneFail (s : State) (cause : Nat) : State :=
  if !s.pair.cloning then s
  else
    let s := (s.setPairD { s.pair with cloning := false, stage := none }).incSat F.ROLE_CLONE_FAILS
    (s.cloneBusyEnd (if cause = 3 then stTIMEOUT else stBAD_STATE)).fire Ev.CLONE_FAIL roleObj cause

/-- CLONE_TIMEOUT and CLONE_RETRY (R426). -/
def cloneTimeout (s : State) : State := s.cloneFail 3
def cloneRetry (s : State) : State :=
  if s.pairSt = psCLONING && !s.pair.cloning && s.pairLinkUp then s.cloneStart else s

/-! ## The link (R405, R409, R410, R415) -/

/-- This unit's rank: whether it sends or runs a graph, whether its strap is low, its MAC address. -/
def State.ownBusy (s : State) : Bool :=
  s.str.tx.any (fun q => q.2.st == 3) || s.dsp.run.any (fun q => decide (q.1 < 256) && q.2.st == 2)
def State.partnerHigher (s : State) (h : Heartbeat) : Bool :=
  let low := !s.on F.ROLE_STATUS_STRAP
  if h.busy != s.ownBusy then h.busy else if h.strapLow != low then h.strapLow else decide (h.mac < s.portMac 0)

/-- HEARTBEAT_TX (R405, R409): state, mode, health, rank, identity, send time, fixed ticks. -/
def heartbeatTx (s : State) : State :=
  if !s.on F.LINK_CTL_EN || s.getF F.PWR_STATUS_STATE ≠ 3 then s
  else
    let n := s.now
    s.emit (.pair 1 ([s.pairSt, s.getF F.ROLE_CTL_MODE, s.health, b2n s.ownBusy, b2n (!s.on F.ROLE_STATUS_STRAP), s.portMac 0,
      s.getF F.TXT_DEV_ID, n.sec, n.ns, n.frac] ++ (List.range 4).map s.portMac ++
      [(s.pair.cut.map (fun c => s.tickOf c.1)).elim 0 Int.toNat, (s.pair.hand.map (·.1)).getD 0]))

/-- TDIFF_LIM in ns (R436). -/
def State.tdiffLim (s : State) : Nat := [100, 500, 1000, 10000].getD (s.getF F.ROLE_CTL_TDIFF_LIM) 500

/-- A measured difference of the timebases (R415). -/
def State.timeDiff (s : State) (d : Int) : State :=
  let s := s.setISat F.ROLE_TIME_DIFF d
  if d.natAbs > s.tdiffLim then s.raise Ev.PAIR_CLOCK_DIFF roleObj (unsigned 32 (satSigned 32 d)) else s.setRaw Ev.PAIR_CLOCK_DIFF false

/-- The partner's health in a heartbeat; its causes are those of its last report. -/
def State.partnerHealth (s : State) (lvl : Nat) : State :=
  let s := s.setF F.ROLE_STATUS_P_HEALTH lvl
  if lvl = 2 then s.raise Ev.PARTNER_FAIL roleObj (leAt (s.pair.report.getD []) 4 4 % 65536) else s.setRaw Ev.PARTNER_FAIL false

/-- What a heartbeat's state means for this unit (Table 18.3). -/
def State.heartbeatRole (s : State) (h : Heartbeat) (was : Nat) : State :=
  let st := s.pairSt
  if st = psALONE then
    if !s.on F.ROLE_CTL_EN then s
    else
      let lead := s.pair.lead.getD (!s.partnerHigher h)
      let s := s.setPairD { s.pair with lead := some lead }
      if !lead then s.enterCloning
      else if h.st = psCLONING then s.setPairNow psACTIVE else s
  else if st = psCLONING then (if was = psACTIVE && h.st ≠ psACTIVE then s.cloneFail 4 else s)
  else if st = psACTIVE then
    if h.st = psACTIVE && !s.pair.took then (s.setPairNow psSYNC).setBus false (s.now.units + micros 5)
    else if h.st ≠ was && (h.st = psREADY || was = psREADY) && s.pair.cut.isNone then
      let role := if h.st = psREADY then 0 else if s.on F.ROLE_CTL_MODE then 0 else 1
      s.setPairD { s.pair with cut := some (s.tickUnits (h.split.getD s.in2ms), role) }
    else s
  else if h.health = 2 then (s.takeover 2 psACTIVE none).setBus true (s.now.units + micros 5)
  else s

/-- HEARTBEAT_RX (R409, R410, R415, R417). -/
def heartbeatRx (h : Heartbeat) (s : State) : State :=
  if !s.on F.LINK_CTL_EN || s.getF F.PWR_STATUS_STATE ≠ 3 then s
  else
    let lock := s.on F.LINK_STATUS_LOCK
    let up := s.pairLinkUp
    let was := s.pair.pState
    let s := (((s.incSat F.LINK_HB_RX).setF F.LINK_STATUS_LOCK 1).setF F.LINK_STATUS_UP 1).setF F.ROLE_STATUS_PARTNER_ID h.dev
    let s := s.setPairD { s.pair with
      timing := true, pMacs := h.macs, pState := h.st, pMode := h.mode
      took := s.pair.took && h.st == psACTIVE
      lead := if up then s.pair.lead else none
      report := if up then s.pair.report else none
      hand := match h.hand with
        | some t => if s.pair.hand.isNone && t > s.gridTick then some (t, if s.pairSt = psACTIVE then 4 else 5) else s.pair.hand
        | none => s.pair.hand }
    let s := if lock then s else (s.setRaw Ev.PAIR_LINK_DOWN false).fire Ev.PAIR_LINK_UP linkObj h.dev
    let s := s.partnerHealth h.health
    let s := match h.diff with
      | some d => s.timeDiff d
      | none => s
    s.heartbeatRole h was

/-- The link goes down: its path is lost to the streams, and a clone fails (R245, R426). -/
def State.pairDown (s : State) : State :=
  if !s.pairLinkUp then s else ((s.setF F.LINK_STATUS_UP 0).rxPathDown 4).cloneFail 1

/-- PAIR_LANE_LOCK_LOSS (R410). -/
def laneLockLoss (s : State) : State :=
  if !s.on F.LINK_STATUS_LOCK then s
  else (s.setF F.LINK_STATUS_LOCK 0).pairDown.raise Ev.PAIR_LINK_DOWN linkObj 0

/-- The unit leaves the pair (R408): ALONE, with its own configuration resumed. -/
def State.pairAlone (s : State) : State :=
  let st := s.pairSt
  let s := if st = psCLONING then ((s.cloneFail 1).setPairNow psALONE).ampUnidle
    else if st = psSYNC || st = psREADY then (s.adoptShare).setPairNow psALONE
    else s.setPairNow psALONE
  s.setPairD { s.pair with hand := none, lead := none, took := false, pState := 0, pMode := 0, report := none, own := [], theirs := [] }

/-- HEARTBEAT_TIMEOUT (R410, R419, R421, R424). -/
def heartbeatTimeout (s : State) : State :=
  if !s.pair.timing then s
  else
    let st := s.pairSt
    let s := (s.setPairD { s.pair with timing := false }).incSat F.LINK_HB_LOST
    let s := s.pairDown.fire Ev.HEARTBEAT_LOST roleObj st
    let s := (s.partnerHealth 0).setRaw Ev.PAIR_CLOCK_DIFF false
    if st = psSYNC || st = psREADY then
      let s := s.takeover 1 psALONE none
      let s := if s.pins.takeLow || !s.on F.ROLE_CTL_TAKE_PIN_EN then s.setBus true (s.now.units + micros 5) else s
      s.pairAlone
    else s.pairAlone

/-- ROLE.CTL.EN is cleared (R407, R408). -/
def State.roleDisable (s : State) : State := s.pairAlone

/-! ## Digests (R427 to R429) -/

/-- Every node of the enabled graphs of the active bank: graph, index, the graph's nodes, node. -/
def State.liveNodes (s : State) : List (Nat × Nat × List Node × Node) :=
  ((List.range 256).filter (fun n => s.gOn s.gBank n)).flatMap (fun n =>
    let l := imgNodeList (s.gImg n)
    (List.range l.length).map (fun k => (n, k, l, l.getD k {})))

/-- The nodes that depend on an input patch point of a set, marked round by round; `fuel` bounds the rounds. A bus may be
read from another graph. -/
def spread (l : List (Nat × Nat × List Node × Node)) (seed : Nat → Bool) : Nat → List (Nat × Nat) → List (Nat × Nat)
  | 0, m => m
  | fuel + 1, m =>
    let writes := fun p => l.any (fun x => m.contains (x.1, x.2.1) && x.2.2.2.outPp != 0xFFFF && inRun x.2.2.2.outPp x.2.2.2.ch p)
    let hit := fun (x : Nat × Nat × List Node × Node) => x.2.2.2.srcs.any (fun r =>
      match nodeRef x.2.2.1 x.2.1 r with
      | some (j, _) => m.contains (x.1, j)
      | none => if isBus r then writes r else r != 0xFFFF && seed r)
    spread l seed fuel ((l.filter hit).map (fun x => (x.1, x.2.1)))

/-- An input that both units share (R427): a receive channel, an input of a bussed port; test generators have no input. -/
def State.sharedInput (s : State) (p : Nat) : Bool :=
  decide (p < 0x1000) || (inRun 0x2000 0x200 p && s.on (F.TDM_FMT_BUSSED ((p - 0x2000) / 32)))

/-- The digest class of an output patch point (R428). -/
def State.digClass (s : State) (p : Nat) : Option Nat :=
  if inRun 0x1000 0x1000 p then some 0
  else if inRun 0x2200 0x200 p then (if s.on (F.TDM_FMT_BUSSED ((p - 0x2200) / 32)) then some 1 else none)
  else if inRun 0x2500 8 p then some 2
  else if inRun 0x4000 0x1000 p then some 3
  else none

/-- The common outputs with their rates, and whether a concealed input feeds each (R427, R429). -/
def State.commonOuts (s : State) : List (Nat × Nat × Bool) :=
  let l := s.liveNodes
  let loc := spread l (fun p => !s.sharedInput p) l.length []
  let hit := spread l (fun p => s.pair.flagPps.contains p) l.length []
  (l.filter (fun x => !loc.contains (x.1, x.2.1) && x.2.2.2.outPp != 0xFFFF)).flatMap (fun x =>
    (List.range x.2.2.2.ch).map (fun c => (x.2.2.2.outPp + c, x.2.2.2.rate, hit.contains (x.1, x.2.1))))

/-- What one output adds to its class's digest: its samples in tick order, then its valid flags. -/
def digestBytes (win : List (KV Blk)) (p rate : Nat) : List Byte :=
  let n := codeLen rate
  win.flatMap (fun m => ((((KV.get {} m p).v ++ List.replicate n 0).take n).flatMap (fun v => leBytes 4 (unsigned 32 v)))) ++
  leBytes 2 ((List.range win.length).foldl (fun a j => if (KV.get {} (win.getD j []) p).ok then a + 2 ^ j else a) 0)

/-- The four digests of a window. -/
def State.digests (s : State) (win : List (KV Blk)) : List Nat :=
  let outs := s.commonOuts
  (List.range 4).map (fun c =>
    if !bitOf (s.getF F.DIG_CTL_CLASS_EN) c then 0
    else
      let ps := sorted ((outs.filter (fun o => s.digClass o.1 == some c)).map (fun o => o.1 * 8 + o.2.1))
      crc32c (ps.flatMap (fun k => digestBytes win (k / 8) (k % 8))))

/-- Output blocks of tick `t` kept for their window. -/
def State.keepOutputs (s : State) (t : Nat) : State :=
  if s.pairSt < psSYNC || !s.on F.DIG_CTL_EN then (if s.pair.win.isEmpty then s else s.setPairD { s.pair with win := [] })
  else s.setPairD { s.pair with win := ((t, s.dsp.present) :: s.pair.win).take 16 }

/-- Mismatches without explanation start self-tests of every Burin in service (R429). -/
def State.unexplained (s : State) : State :=
  let s := if s.pairSt = psREADY then s.setPairAt psSYNC s.in2ms else s
  let now := s.now.units
  let l := now :: s.pair.mism.filter (fun u => decide (now - u ≤ 10 * unitsSec))
  if l.length ≥ s.getF F.DIG_CTL_MISMATCH_LIM then s.setPairD { s.pair with mism := [], test := s.servants }
  else s.setPairD { s.pair with mism := l }

/-- A window both of whose digests are known is compared (R408, R429). -/
def State.compareWindow (s : State) (w : Nat) : State :=
  match s.pair.own.find? (fun x => x.1 == w), s.pair.theirs.find? (fun x => x.1 == w) with
  | some a, some b =>
    let s := s.setPairD { s.pair with own := s.pair.own.filter (fun x => x.1 != w), theirs := s.pair.theirs.filter (fun x => x.1 != w) }
    let s := s.incSat F.DIG_WINDOWS
    let diff := (List.range 4).foldl (fun m c =>
      if bitOf (s.getF F.DIG_CTL_CLASS_EN) c && a.2.1.getD c 0 != b.2.1.getD c 0 then m + 2 ^ c else m) 0
    if diff = 0 then
      let n := s.pair.syncRun + 1
      let s := (s.incSat F.DIG_MATCH_RUN).setPairD { s.pair with syncRun := n }
      if s.pairSt = psSYNC && 16 * n ≥ s.tps && !s.pair.barred && s.health ≠ 2 then s.setPairAt psREADY s.in2ms else s
    else
      let expl := a.2.2 || b.2.2
      let s := (s.setF F.DIG_MATCH_RUN 0).setPairD { s.pair with syncRun := 0 }
      let s := (s.incSat (if expl then F.DIG_EXPLAINED else F.DIG_UNEXPLAINED)).setF F.DIG_LAST_MISMATCH s.now.sec
      let s := s.fire Ev.DIGEST_MISMATCH digObj (diff + 256 * b2n expl + 65536 * (s.getF F.DIG_WINDOWS % 65536))
      if expl then s else s.unexplained
  | _, _ => s

/-- DIGEST_WINDOW_END (R428): the window of 16 ticks that ended last. -/
def digestWindowEnd (s : State) : State :=
  match s.str.lastTick with
  | none => s
  | some t =>
    let w := (t + 1) / 16 - 1
    let win := (List.range 16).filterMap (fun j => KV.find s.pair.win (16 * w + j))
    if !s.on F.DIG_CTL_EN || !s.pairLinkUp || s.pairSt < psSYNC || t + 1 < 16 || win.length ≠ 16 ||
        s.pair.own.any (fun x => x.1 == w) then s
    else
      let ds := s.digests win
      let fl := s.pair.flag || s.commonOuts.any (fun o => o.2.2 && (s.digClass o.1).any (bitOf (s.getF F.DIG_CTL_CLASS_EN)))
      let s := s.setPairD { s.pair with own := ((w, ds, fl) :: s.pair.own).take 3, flag := false, flagPps := [], win := [] }
      (s.emit (.pair 4 ([w] ++ ds ++ [b2n fl]))).compareWindow w

/-- DIGEST_RX (R428, R429): digests of a window older than two windows are not compared. -/
def digestRx (w : Nat) (ds : List Nat) (fl : Bool) (s : State) : State :=
  if !s.pairLinkUp || !s.on F.DIG_CTL_EN || s.pairSt < psSYNC then s
  else (s.setPairD { s.pair with theirs := ((w, ds, fl) :: s.pair.theirs).take 3 }).compareWindow w

/-! ## Repair (R418) -/

/-- REPAIR_REQUEST_RX (R418): `room` is how many copies the rate still lets go. -/
def repairRx (e : Nat) (seqs : List Nat) (room : Nat) (s : State) : State :=
  let room := if s.getF F.ROLE_CTL_REPAIR_MAX = 0 then 0 else room
  (seqs.foldl (fun (a : Nat × State) n =>
    match ((a.2.rxRun e).hist.find? (fun h => h.2.seq == n % 65536 && decide (a.2.now.units - h.1 ≤ 1310720000000))) with
    | none => (a.1, a.2.incSat F.LINK_REPAIR_DROP)
    | some h =>
      if a.1 = 0 then (0, (a.2.incSat F.LINK_REPAIR_DROP).fire Ev.REPAIR_RATE linkObj e)
      else (a.1 - 1, (a.2.incSat F.LINK_REPAIR_SENT).emit (.pair 7 ([e, h.2.seq, h.2.ts] ++ h.2.payload.map (·.toNat))))) (room, s)).2

/-! ## Health reports (R432) -/

/-- Bits of a list of flags. -/
def bitsFrom (l : List Bool) : Nat := (List.range l.length).foldl (fun a i => if l.getD i false then a + 2 ^ i else a) 0

/-- The 64 bytes of this unit's report (Table 18.8). -/
def State.healthReport (s : State) : List Byte :=
  let n := s.now
  let hot := (List.range 8).foldl (fun a i => max a (s.getI (F.MON_TEMP i))) (s.getI (F.MON_TEMP 0))
  let b := leBytes 2 (s.getF F.TXT_DEV_ID) ++ leBytes 1 s.pairSt ++ leBytes 1 s.health ++ leBytes 4 s.causes ++
    leBytes 4 n.sec ++ leBytes 4 n.ns ++ leBytes 1 s.servants.length ++ leBytes 1 (s.getF F.LOOP_STATUS_MODE) ++
    leBytes 1 (s.getF F.SEL_STATUS_SEL_REF) ++ leBytes 1 (bitsFrom ((List.range 4).map (fun p => s.on (F.MAC_STATUS_LINK p)))) ++
    leBytes 2 (s.getF F.ADM_LOAD) ++ leBytes 2 (s.getF F.NVS_RUN_GEN_GEN) ++ leBytes 4 (s.getF F.PLAY_CONCEALED) ++
    leBytes 4 (s.getF F.SCHED_MISSES) ++ leBytes 4 (s.getF F.DIG_UNEXPLAINED) ++ leBytes 4 (s.getF F.ROLE_TIME_DIFF) ++
    leBytes 2 (unsigned 16 hot) ++ leBytes 1 (s.getF F.LINK_STATUS_EYE) ++ leBytes 1 0 ++ leBytes 2 s.summary ++ leBytes 2 0 ++
    leBytes 8 s.pair.mirSeq ++ leBytes 4 0
  b ++ leBytes 4 (crc32c b)

/-- HEALTH_REPORT_TX. -/
def healthReportTx (s : State) : State :=
  if s.pairLinkUp then s.emit (.pair 5 (s.healthReport.map (·.toNat))) else s

/-- HEALTH_REPORT_RX: a report with a bad CRC is counted and dropped. -/
def healthReportRx (b : List Byte) (s : State) : State :=
  if !s.pairLinkUp then s
  else if b.length = 64 && crc32c (b.take 60) == leAt b 60 4 then s.setPairD { s.pair with report := some b }
  else s.incSat F.LINK_CRC_ERR

/-- PAIR_HEALTH (R432). -/
def opPairHealth (q : Req) (s : State) : OpOut :=
  if q.params.length ≠ 8 then badLen
  else if q.obj ≠ roleObj then .bad 16
  else if q.field 4 1 > 1 then .bad 20
  else if q.field 5 3 ≠ 0 then .bad (q.firstSet 5 3)
  else if q.field 4 1 = 0 then .done s s.healthReport none
  else match s.pair.report with
    | some b => .done s b none
    | none => .err stNOT_FOUND

/-! ## What must hold at every instant (R406, R408, R419) -/

/-- PAIR_OK (R406). -/
def State.pairOk (s : State) : Bool :=
  s.pwr.cmdReady && s.on F.ROLE_CTL_EN && s.health != 2 && s.pairSt != psCLONING && !s.pins.pfwLow

/-- Health, causes and PAIR_OK follow the state; a STANDBY_READY unit whose own health is FAIL returns to STANDBY_SYNC; a
falling PAIR_OK releases bussed ports 5 us later. -/
def State.settlePair (s : State) : State :=
  let s := if s.pairSt = psREADY && s.health = 2 then s.setPairAt psSYNC s.in2ms else s
  let ok := s.pairOk
  let s := if s.on F.ROLE_STATUS_OK_OUT && !ok then s.setBus false (s.now.units + micros 5) else s
  ((s.setF F.ROLE_CAUSES s.causes).setF F.ROLE_STATUS_HEALTH s.health).setF F.ROLE_STATUS_OK_OUT (b2n ok)

/-- Legal data of the pair's registers (R436, R437). -/
def legalPair (u off v : Nat) : Bool :=
  if u = 1 && off = 0 then decide (bitsOf v 7 4 ≤ 8)
  else if u = 2 && off = 0 then bitsOf v 3 1 != 0
  else true

end Sys2Proof.Machine
end

