-- ==== Sys2Proof/Machine/Health.lean ====
section
/-!
DEFINITION. Machine/Health.lean: ageing monitors, ledger, Calender (chapter 19, R438 to R462).
-/

namespace Sys2Proof.Machine

def monObj : Nat := objId 11 0 0
def calObj : Nat := objId 11 1 0
def State.setHlt (s : State) (h : HealthState) : State := { s with hlt := h }

/-! ## The ledger (R442 to R445) -/

/-- One record is written; a full ring loses its oldest (R442). -/
def State.ledger (s : State) (kind inst : Nat) (v : List Int) : State :=
  let no := !s.on F.TB_STATUS_SET
  let r : LedgerRec := { seq := s.hlt.next, sec := (if no then s.aoSec else s.now.sec) % 2 ^ 48, notime := no, kind := kind, inst := inst
                         v := (v ++ [0, 0, 0, 0]).take 4 }
  let l := s.hlt.ledger ++ [r]
  let l := if l.length > 16128 then l.drop 1 else l
  let s := s.setHlt { s.hlt with ledger := l, next := (s.hlt.next + 1) % 2 ^ 32 }
  (s.setF F.MON_NVM_RECORDS l.length).setF F.MON_LEDGER_SEQ r.seq

/-- The 32 bytes of a record (Table 19.2). -/
def LedgerRec.bytes (r : LedgerRec) : List Byte :=
  let b := leBytes 4 r.seq ++ leBytes 6 r.sec ++ leBytes 1 r.kind ++ leBytes 1 r.inst ++
    r.v.flatMap (fun v => leBytes 4 (unsigned 32 v)) ++ leBytes 2 (b2n r.notime)
  b ++ leBytes 2 (crc16 b)

/-- LEDGER_READ (R444), under the rules of R98 for its start. -/
def opLedgerRead (q : Req) (s : State) : OpOut :=
  let start := q.field 0 4
  let count := q.field 4 2
  let kind := q.field 6 1
  let inst := q.field 7 1
  if q.params.length ≠ 8 then badLen
  else if count < 1 || count > 127 then .bad 20
  else if kind > 11 then .bad 22
  else match s.hlt.ledger with
    | [] => .done s (leBytes 4 0 ++ leBytes 2 0 ++ leBytes 2 2) none
    | o :: _ =>
      let d := signed 32 (unsigned 32 ((start : Int) - o.seq))
      let newest := (s.hlt.next + 2 ^ 32 - 1) % 2 ^ 32
      let span : Nat := (newest + 2 ^ 32 - o.seq) % 2 ^ 32
      if d > (span : Int) then .fail stNOT_FOUND 16 0
      else
        let l := s.hlt.ledger.filter (fun r => (d < 0 || decide ((r.seq + 2 ^ 32 - o.seq) % 2 ^ 32 ≥ d.toNat)) &&
          (kind == 0 || r.kind == kind) && (inst == 0xFF || r.inst == inst))
        let got := l.take count
        .done s (leBytes 4 ((got.head?.map (·.seq)).getD 0) ++ leBytes 2 got.length ++
          leBytes 2 (b2n (decide (d < 0)) + 2 * b2n (decide (l.length ≤ count))) ++ got.flatMap LedgerRec.bytes) none

/-- The key of a trend: kind, channel, FET. -/
def trendKey (kind x f : Nat) : Nat := kind * 64 + x * 4 + f

/-- BASELINE_RESET (R445). -/
def opBaselineReset (q : Req) (s : State) : OpOut :=
  let kind := q.field 4 1
  let inst := q.field 5 1
  if q.params.length ≠ 8 then badLen
  else if q.obj ≠ monObj then .bad 16
  else if kind ≠ 6 && kind ≠ 7 then .bad 20
  else if inst > 7 && inst ≠ 0xFF then .bad 21
  else if q.field 6 2 ≠ 0 then .bad (q.firstSet 6 2)
  else
    let xs := if inst = 0xFF then List.range 8 else [inst]
    let s := xs.foldl (fun s x => [0, 1, 2, 3].foldl (fun s f =>
      s.setHlt { s.hlt with base := KV.erase s.hlt.base (trendKey kind x f) }) s) s
    .done (s.ledger 11 kind [inst, 0, 0, q.origin.code]) [] (some monObj)

/-! ## Thresholds and supply requests (R438, R452, R453, R477) -/

/-- A run may start: EN, both units out of their safe states, LISTEN or RUN (R447). -/
def State.calMayRun (s : State) : Bool :=
  s.on F.CAL_CTL_EN && !s.inSafe 11 0 && !s.inSafe 11 1 && decide (s.getF F.PWR_STATUS_STATE ≥ 2)

/-- A threshold of a monitor: the event fires at a crossing; answers whether it crossed. -/
def State.cross (s : State) (mon ch : Nat) (on : Bool) : Bool × State :=
  let k := mon + 16 * ch
  let was := s.hlt.above.contains k
  if on = was then (false, s)
  else
    let s := s.setHlt { s.hlt with above := if on then k :: s.hlt.above else without s.hlt.above k }
    if on then (true, s.fire Ev.AGEING_THRESH monObj k) else (false, s)

/-- The request for VDD_CORE changes (R452, R453, R477, R460): event, entry, PMBus. -/
def State.setVcore (s : State) (mv : Nat) (now : Bool) (o : Origin) : State :=
  let old := s.hlt.vcore
  let s := s.setHlt { s.hlt with vcore := mv, vsent := s.getF F.PWR_CTL_VCORE_IF ≠ 0 }
  let s := if s.hlt.vsent then s.emit (.pmbus (s.getF F.PWR_VCORE_PMBUS_ADDR) mv) else s
  (s.fire Ev.VCORE_ADJ calObj (mv + 65536 * b2n now)).logE o.code o.id kSTATE false calObj old mv

/-! ## The Calender's items (R446, R448 to R451) -/

/-- The origin of the Calender. -/
def calOrigin : Origin := { code := orgCalender }

/-- The trust code in force (R457). -/
def State.trustCode (s : State) : Nat := min s.hlt.trust (s.getF F.TB_CTL_ASYM_LIMIT)

/-- The value of an item in force. -/
def State.planned (s : State) (i : Nat) : Int :=
  if i = 0 then s.hlt.vcore
  else if i = 1 then s.clk.calAge
  else if i = 2 then s.clk.calSlope
  else if i = 3 then ((List.range 4).foldl (fun a k => min a (s.getF (memMargin k))) 255 : Nat)
  else if i = 4 then s.hlt.refresh
  else if i = 5 then s.getF F.PROT_GATE_DEAD
  else s.trustCode

/-- Whether a value lies in an item's safe direction from the one in force (Table 19.3). -/
def State.safer (s : State) (i : Nat) (v : Int) : Bool :=
  let cur := s.planned i
  if i = 1 then decide (v.natAbs > cur.natAbs)
  else if i = 4 || i = 6 then decide (v < cur)
  else decide (v > cur)

/-- PROT.GATE as its low 16 bits. -/
def State.gateWord (s : State) : Nat := s.getF F.PROT_GATE_GD_TYPE + 2 * s.getF F.PROT_GATE_DEAD + 512 * s.getF F.PROT_GATE_TSNS_IGNORE

/-- An item takes a value, logged with its origin (R449, R460). -/
def State.setItem (s : State) (i : Nat) (v : Int) (o : Origin) : State :=
  let old := s.planned i
  let log := fun (s : State) => s.logE o.code o.id kSTATE false (calObj + i) (unsigned 16 old) (unsigned 16 v)
  if i = 0 then s.setVcore v.toNat false o
  else if i = 1 then log { s with clk := { s.clk with calAge := v } }
  else if i = 2 then log { s with clk := { s.clk with calSlope := v.toNat } }
  else if i = 4 then log (s.setHlt { s.hlt with refresh := v.toNat })
  else if i = 5 then
    let w := s.gateWord
    let s := (s.setF F.PROT_GATE_DEAD v.toNat).setHlt { s.hlt with dead := some v.toNat }
    s.logReg o F.PROT_GATE_DEAD.addr w s.gateWord
  else if i = 6 then log (s.setHlt { s.hlt with trust := v.toNat })
  else s

/-- Items pending, as a mask. -/
def State.calPending (s : State) : Nat := s.getF F.CAL_STATUS_PENDING

/-- A proposal is made, or withdrawn (R448). -/
def State.propose (s : State) (i : Nat) (v : Int) : State :=
  let s := (s.setI (F.CAL_PROPOSED i) v).setF F.CAL_STATUS_PENDING (withBit s.calPending i)
  s.ledger 10 i [s.planned i, v, 1, orgCalender]
def State.unpropose (s : State) (i : Nat) : State := (s.setF (F.CAL_PROPOSED i) 0).setF F.CAL_STATUS_PENDING (noBit s.calPending i)

/-- The items of a mask. -/
def maskItems (m : Nat) : List Nat := (List.range 7).filter (bitOf m)

/-- Whether an approval is in order: every item has a proposal, item 3 is not named (R449). -/
def State.approveOk (s : State) (m : Nat) : Bool := decide (m < 128) && !bitOf m 3 && (maskItems m).all (fun i => bitOf s.calPending i)

/-- Whether an approval is ignored: item 5 while the protection unit runs (R449). -/
def State.approveHeld (s : State) (m : Nat) : Bool := bitOf m 5 && s.on F.PROT_CTL_EN

/-- An approval takes effect (R449). -/
def State.approve (s : State) (m : Nat) (o : Origin) : State :=
  (maskItems m).foldl (fun s i =>
    let v := s.getI (F.CAL_PROPOSED i)
    let old := s.planned i
    let s := (s.setItem i v o).ledger 10 i [old, v, 2, o.code]
    (s.unpropose i).incSat F.CAL_APPROVALS) s

/-- CALENDER_APPROVE (R449). -/
def opCalApprove (q : Req) (s : State) : OpOut :=
  if q.params.length ≠ 8 then badLen
  else if q.obj ≠ calObj then .bad 16
  else if q.field 5 3 ≠ 0 then .bad (q.firstSet 5 3)
  else
    let m := q.field 4 1
    if !s.approveOk m || s.approveHeld m then .err stBAD_STATE
    else .done (s.approve m q.origin) [] (some calObj)

/-! ## Planning (R452 to R457) -/

/-- Item 0 (R452): the lowest step at which the worst slack, projected with the sensitivity, reaches the target; none
where none does. -/
def State.vcoreStep (s : State) (worst : Int) : Option Nat :=
  let target : Int := 10 * s.getF F.CAL_PLAN_SLACK_TARGET
  let sens : Int := s.getF F.MON_SENS
  ((List.range 16).map (fun k => 700 + 10 * k)).find? (fun v => decide (100 * worst + sens * ((v : Int) - s.hlt.vcore) ≥ 100 * target))
def State.planVcore (s : State) : Option Int :=
  match s.hlt.slack with
  | none => none
  | some w => some ((s.vcoreStep w).getD 850 : Nat)

/-- The determinant of a 3 x 3 matrix by rows. -/
def det3 (a b c d e f g h i : Int) : Int := a * (e * i - f * h) - b * (d * i - f * g) + c * (d * h - e * g)

/-- Items 1 and 2 (R454): the day coefficient and the magnitude of the temperature coefficient of a least-squares fit
of mean loop output against day and mean temperature of site 0; none with fewer than 7 days or where the days fix none. -/
def State.oscFit (s : State) : Option (Int × Nat) :=
  let now := s.now.sec / 86400
  let l := s.hlt.ledger.filter (fun r => r.kind == 3 && decide (r.v.getD 1 0 ≥ 43200) && decide (now ≤ r.sec / 86400 + 30))
  if l.length < 7 then none
  else
    let pts := l.map (fun r => (((r.sec / 86400 : Nat) : Int) - now, r.v.getD 2 0, r.v.getD 0 0))
    let sum := fun (f : Int × Int × Int → Int) => pts.foldl (fun a p => a + f p) 0
    let n : Int := l.length
    let x := sum (·.1)
    let t := sum (·.2.1)
    let y := sum (·.2.2)
    let xx := sum (fun p => p.1 * p.1)
    let xt := sum (fun p => p.1 * p.2.1)
    let tt := sum (fun p => p.2.1 * p.2.1)
    let xy := sum (fun p => p.1 * p.2.2)
    let ty := sum (fun p => p.2.1 * p.2.2)
    let d := det3 n x t x xx xt t xt tt
    if d ≤ 0 then none
    else some (roundDiv (det3 n y t x xy xt t ty tt) d.natAbs, (roundDiv (10 * det3 n x y x xx xy t xt ty) d.natAbs).natAbs)

/-- Item 4 (R455). -/
def State.planRefresh (s : State) : Option Int :=
  if s.getF F.CAL_LAST_REFRESH = 0 then none
  else
    let m := s.getF F.MON_NVM_MARGIN
    let r := s.hlt.refresh
    some ((if m < 30 then max 7 (r / 2) else if m > 60 then min 365 (2 * r) else r : Nat))

/-- The range of DEAD (Table 16.3). -/
def State.deadTop (s : State) : Nat := if s.on F.PROT_GATE_GD_TYPE then 255 else 50
def State.deadLow (s : State) : Nat := if s.on F.PROT_GATE_GD_TYPE then 10 else 2

/-- Item 5 (R456), from the least margin of the channels in 0.1 ns. -/
def State.planDead (s : State) : Option Int :=
  match s.hlt.margins.head? with
  | none => none
  | some least =>
    let m : Int := 10 * s.getF F.CAL_PLAN_DEAD_MARGIN
    let d := s.getF F.PROT_GATE_DEAD
    if least < m then some (min (d + min 2 ((m - least + 9) / 10).toNat) s.deadTop : Nat)
    else if s.hlt.margins.length = 7 && s.hlt.margins.all (fun x => decide (x > m + 40)) then some (max (d - 2) s.deadLow : Nat)
    else some d

/-- Item 6 (R457): the population standard deviation of the hourly means, compared without a root. -/
def State.planTrust (s : State) : Option Int :=
  let l := s.hlt.asymHr
  let n : Int := l.length
  if n < 6 then none
  else
    let sum := l.foldl (· + ·) 0
    let var := n * l.foldl (fun a x => a + x * x) 0 - sum * sum
    let lim : Int := 65536 * s.getF F.CAL_PLAN_ASYM_SIGMA * n
    let c := s.trustCode
    if var > lim * lim then some ((c - 1 : Nat) : Int)
    else if 4 * var ≤ lim * lim then some ((min (c + 1) (s.getF F.TB_CTL_ASYM_LIMIT) : Nat) : Int)
    else some c

/-- The plan of a run (R447): items 3 and 5 are skipped in LISTEN; item 3 is applied by its own rule. -/
def State.calPlan (s : State) : List (Nat × Int × Bool) :=
  let fit := s.oscFit
  let l : List (Nat × Option Int) := [(0, s.planVcore), (1, fit.map (·.1)), (2, fit.map (fun f => (f.2 : Int))), (4, s.planRefresh),
    (5, if s.getF F.PWR_STATUS_STATE = 3 then s.planDead else none), (6, s.planTrust)]
  l.filterMap (fun q => q.2.map (fun v => (q.1, v, s.safer q.1 v)))

/-! ## Runs (R447, R448, R450) -/

/-- A run starts. -/
def State.calStart (s : State) : State :=
  (s.setF F.CAL_STATUS_RUNNING 1).setHlt { s.hlt with plan := s.calPlan }

/-- A run is requested (R447): merged while one is in progress. -/
def State.calRequest (s : State) : State :=
  if !s.calMayRun then s
  else if s.on F.CAL_STATUS_RUNNING then s.setF F.CAL_STATUS_QUEUED 1
  else s.calStart

/-- PERIOD in days; none for no periodic run. -/
def State.calPeriod (s : State) : Option Nat := [1, 7, 30][s.getF F.CAL_CTL_PERIOD]?

/-- NEXT_RUN follows LAST_RUN and PERIOD. -/
def State.refreshNext (s : State) : State :=
  s.setF F.CAL_NEXT_RUN (match s.calPeriod with
    | some d => s.getF F.CAL_LAST_RUN + 86400 * d
    | none => 0)

/-- A value of a run's plan is judged where it takes effect (R448, R450); answers the items applied. -/
def State.calJudge (s : State) (a : Nat) (q : Nat × Int × Bool) : Nat × State :=
  let (i, v, wasSafe) := q
  let old := s.planned i
  if v = old then (a, s)
  else if s.safer i v && s.on F.CAL_CTL_AUTO then (withBit a i, (s.setItem i v calOrigin).ledger 10 i [old, v, 0, orgCalender])
  else if wasSafe && !s.safer i v then (a, (s.incSat F.CAL_DROPPED).ledger 10 i [old, v, 3, orgCalender])
  else (a, s.propose i v)

/-- CALENDER_RUN_END (R447, R448, R453, R456, R459). -/
def calRunEnd (s : State) : State :=
  if !s.on F.CAL_STATUS_RUNNING then s
  else
    let plan := s.hlt.plan
    let s := (List.range 7).foldl (fun s i => s.unpropose i) (s.setHlt { s.hlt with plan := [] })
    let s := match s.oscFit with
      | some f => (s.setISat F.MON_AGE_MEAS f.1).setSat F.MON_SLOPE_MEAS f.2
      | none => s
    let short := match s.hlt.slack with
      | some w => (s.vcoreStep w).isNone
      | none => false
    let deadShort := match s.hlt.margins.head? with
      | some m => decide (m < 10 * (s.getF F.CAL_PLAN_DEAD_MARGIN : Int)) && decide (s.getF F.PROT_GATE_DEAD ≥ s.deadTop)
      | none => false
    let (done, s) : Nat × State := plan.foldl (fun (a : Nat × State) q => a.2.calJudge a.1 q) (0, s)
    let s := if short && s.hlt.vcore = 850 then s.fire Ev.AGEING_THRESH monObj (2 + 256) else s
    let s := if deadShort then s.fire Ev.AGEING_THRESH monObj (6 + 256) else s
    let p : Nat := State.calPending s
    let s := ((s.setF F.CAL_STATUS_RUNNING 0).incSat F.CAL_STATUS_RUNS).setF F.CAL_LAST_RUN s.now.sec
    let s := s.refreshNext.fire Ev.CALENDER_REPLAN calObj (done + 256 * p)
    let s := if p = 0 then s else s.fire Ev.CALENDER_APPROVAL calObj p
    if s.on F.CAL_STATUS_QUEUED then (s.setF F.CAL_STATUS_QUEUED 0).calRequest else s

/-- CALENDER_PERIODIC (R447). -/
def calPeriodic (s : State) : State := if s.calPeriod.isSome then s.calRequest else s

/-- A run is abandoned: EN is cleared, or an HLT unit enters its safe state (R447). -/
def State.calAbandon (s : State) : State :=
  ((s.setF F.CAL_STATUS_RUNNING 0).setF F.CAL_STATUS_QUEUED 0).setHlt { s.hlt with plan := [] }

/-- The safe state of either HLT unit, and its end. -/
def State.calSuspend (s : State) : State := s.calAbandon.setF F.CAL_STATUS_SUSPENDED 1
def State.calUnsuspend (s : State) : State :=
  if s.inSafe 11 0 || s.inSafe 11 1 then s else s.setF F.CAL_STATUS_SUSPENDED 0

/-- CALENDER_RUN (R447). -/
def opCalRun (q : Req) (s : State) : OpOut :=
  if q.params.length ≠ 4 then badLen
  else if q.obj ≠ calObj then .bad 16
  else if !s.calMayRun then .err stBAD_STATE
  else .done s.calRequest [] (some calObj)

/-! ## Samples (R438 to R441, R453) -/

/-- A crossing starts a run (R438, R447). -/
def State.crossRun (s : State) (mon ch : Nat) (on : Bool) : State :=
  let (c, s) := s.cross mon ch on
  if c then s.calRequest else s

/-- RING_OSC_SAMPLE (Table 19.1): degradation of each pair in 0.01 %. -/
def ringOscSample (deg : List Int) (s : State) : State :=
  if deg.isEmpty || s.getF F.PWR_STATUS_STATE < 2 then s
  else
    let hi := deg.foldl max (deg.headD 0)
    let lo := deg.foldl min (deg.headD 0)
    let mean := roundDiv (deg.foldl (· + ·) 0) deg.length
    let pair := ((List.range deg.length).find? (fun i => deg.getD i 0 == hi)).getD 0
    let s := (s.setISat F.MON_RO_MEAN mean).setISat F.MON_RO_MAX hi
    let s := s.setHlt { s.hlt with ro := some [lo, mean, hi, pair] }
    s.crossRun 1 0 (deg.any (fun d => decide (d > 50 * (s.getF F.MON_LIMITS_RO_LIM : Nat))))

/-- REPLICA_SAMPLE (R438, R453, R477): worst slack in ps, sensitivity in 0.01 ps/mV; `ack` says whether the last supply
request has been acknowledged. -/
def replicaSample (slack : Int) (sens : Nat) (ack : Bool) (s : State) : State :=
  if s.getF F.PWR_STATUS_STATE < 2 then s
  else
    let low := fun (a : Option Int) => match a with
      | some v => some (min v slack)
      | none => some slack
    let s := (s.setHlt { s.hlt with slackNow := low s.hlt.slackNow, slack := low s.hlt.slack, vsent := false }).setSat F.MON_SENS sens
    let lost := s.hlt.vsent && !ack
    let s := if lost then
        let a := s.getF F.PWR_VCORE_PMBUS_ADDR
        (((s.emit (.pmbus a s.hlt.vcore)).emit (.pmbus a s.hlt.vcore)).fire Ev.AGEING_THRESH monObj 2).calRequest
      else s
    let (c, s) := s.cross 2 0 (decide (slack < 10 * (s.getF F.CAL_PLAN_SLACK_TARGET : Nat)))
    let raise := decide (slack < 30)
    let s := if raise then
        (if s.hlt.vcore + 10 ≤ 850 then
          let v := s.hlt.vcore
          (s.setVcore (v + 10) true calOrigin).ledger 10 0 [v, v + 10, 0, orgCalender]
        else s.fire Ev.AGEING_THRESH monObj (2 + 256))
      else s
    if c || raise then s.calRequest else s

/-- The second of the replica monitor ends. -/
def State.slackSecond (s : State) : State :=
  match s.hlt.slackNow with
  | some v => (s.setISat F.MON_SLACK v).setHlt { s.hlt with slackNow := none }
  | none => s

/-- TEMP_WARN in 0.1 degree (R461). -/
def State.tempWarn (s : State) : Int := [850, 900, 950, 1000, 1050].getD (s.getF F.MON_CTL_TEMP_WARN) 1000

/-- One temperature condition with its 5 degree hysteresis (R439); answers whether it began. -/
def State.tempCond (s : State) (src : Nat) (lim : Int) (t : List Int) : Bool × State :=
  if s.ev.raw.contains src then
    (false, if t.all (fun v => decide (v ≤ lim - 50)) then s.setRaw src false else s)
  else match (List.range t.length).find? (fun i => decide (t.getD i 0 > lim)) with
    | some i => (true, s.raise src monObj (i + 65536 * unsigned 16 (t.getD i 0)))
    | none => (false, s)

/-- DIE_TEMP_SAMPLE (R439). -/
def dieTempSample (t0 : List Int) (s : State) : State :=
  if s.getF F.PWR_STATUS_STATE < 2 then s
  else
    let t := t0.take 8
    let s := (List.range t.length).foldl (fun s i => s.setISat (F.MON_TEMP i) (t.getD i 0)) s
    let (a, s) := s.tempCond Ev.TEMP_WARN s.tempWarn t
    let (b, s) := s.tempCond Ev.TEMP_CRIT 1100 t
    let hot := (List.range t.length).foldl (fun (h : Option (Int × Nat)) i => match h with
      | some x => if t.getD i 0 > x.1 then some (t.getD i 0, i) else h
      | none => some (t.getD i 0, i)) s.hlt.hot
    let s := s.setHlt { s.hlt with hot := hot, t0 := (s.hlt.t0.1 + t.headD 0, s.hlt.t0.2 + 1)
                                   warnMs := s.hlt.warnMs + (if s.ev.raw.contains Ev.TEMP_WARN then 10 else 0) }
    if a || b then (s.fire Ev.AGEING_THRESH monObj 8).calRequest else s

/-- SERDES_EYE_SAMPLE (R226, R430, R438): eye heights of N0 to N3 and the pair lane in % of nominal. -/
def serdesEye (eyes : List Nat) (s : State) : State :=
  if s.getF F.PWR_STATUS_STATE < 2 || eyes.length < 5 then s
  else
    let s := s.setHlt { s.hlt with eyes := eyes }
    let s := (List.range 4).foldl (fun s p =>
      let low := decide (eyes.getD p 0 < 25)
      let was := s.hlt.eyeLow.contains p
      if low = was then s
      else
        let s := s.setHlt { s.hlt with eyeLow := if low then p :: s.hlt.eyeLow else without s.hlt.eyeLow p }
        (s.setRaw Ev.SERDES_EYE (!s.hlt.eyeLow.isEmpty)).fire Ev.SERDES_EYE (objId 3 p 0) (p + 256 * satNat 8 (eyes.getD p 0))) s
    let e := eyes.getD 4 0
    let s := s.setF F.LINK_STATUS_EYE (satNat 8 e)
    let s := if e < 25 then s.raise Ev.PAIR_EYE linkObj e else s.setRaw Ev.PAIR_EYE false
    s.crossRun 9 0 (eyes.any (fun e => decide (e < 25)))

/-- A second of the oscillator monitor (Table 19.1): the loop output while LOCKED, and the reference followed. -/
def State.oscSecond (s : State) : State :=
  if s.getF F.LOOP_STATUS_MODE ≠ lmLOCKED then s
  else
    let r := s.getF F.SEL_STATUS_SEL_REF
    s.setHlt { s.hlt with osc := (s.hlt.osc.1 + s.getI F.LOOP_OUT, s.hlt.osc.2 + 1)
                          refSec := KV.put 0 s.hlt.refSec r (KV.get 0 s.hlt.refSec r + 1) }

/-- A minute of asymmetry tracking (R457): 60 make an hour, of which 24 are kept. -/
def State.asymMinute (s : State) (est : Int) : State :=
  let l := est :: s.hlt.asymMin
  if l.length < 60 then s.setHlt { s.hlt with asymMin := l }
  else s.setHlt { s.hlt with asymMin := [], asymHr := (avg l :: s.hlt.asymHr).take 24 }

/-! ## Trends and the day (R441, R443) -/

/-- One daily value of a trend. -/
def State.trendValue (s : State) (key : Nat) (v : Int) : State :=
  let b := KV.get [] s.hlt.base key
  s.setHlt { s.hlt with last7 := KV.put [] s.hlt.last7 key ((v :: KV.get [] s.hlt.last7 key).take 7)
                        base := if b.length < 30 then KV.put [] s.hlt.base key (b ++ [v]) else s.hlt.base }

/-- A trend as a quotient: the drift of the mean of 7 against a baseline; none until it has its values. -/
def State.trendOf (s : State) (key : Nat) (plate : Option Nat) : Option (Int × Nat) :=
  let l := KV.get [] s.hlt.last7 key
  let b := KV.get [] s.hlt.base key
  if l.length < 7 then none
  else
    let sum := l.foldl (· + ·) 0
    match plate with
    | some p => if p = 0 then none else some (sum - 7 * p, 7 * p)
    | none =>
      let bs := b.foldl (· + ·) 0
      if b.length < 30 || bs ≤ 0 then none else some (sum * 30 - 7 * bs, (7 * bs).toNat)

/-- The drift in 0.1 %, 0 without one. -/
def drift10 (t : Option (Int × Nat)) : Int := match t with
  | some (n, d) => roundDiv (1000 * n) d
  | none => 0

/-- Whether a drift exceeds a limit in per cent, either way where `both`. -/
def driftOver (t : Option (Int × Nat)) (lim : Nat) (both : Bool) : Bool := match t with
  | some (n, d) => decide (100 * n > (lim * d : Nat)) || (both && decide (-100 * n > (lim * d : Nat)))
  | none => false

/-- A trend event at the first crossing (R441). -/
def State.trendEvent (s : State) (key : Nat) (on : Bool) (src x detail mon : Nat) : State :=
  let was := s.hlt.overs.contains key
  if on = was then s
  else
    let s := s.setHlt { s.hlt with overs := if on then key :: s.hlt.overs else without s.hlt.overs key }
    if on then ((s.fire src (ampObj x) detail).fire Ev.AGEING_THRESH monObj (mon + 16 * x)).calRequest else s

/-- The trends of a channel (R441). -/
def State.trends (s : State) (x : Nat) : State :=
  let plate := (KV.find s.amp.plate x).map (·.rdc)
  let dc := s.trendOf (trendKey 7 x 0) plate
  let s := s.setISat (F.MON_DCR_DRIFT x) (drift10 dc)
  let s := s.trendEvent (trendKey 7 x 0) (driftOver dc (2 * s.getF F.MON_LIMITS_DCR_LIM) true) Ev.DCR_TREND x
    (x + 65536 * unsigned 16 (satSigned 16 (drift10 dc))) 7
  let fet := fun f => s.trendOf (trendKey 6 x f) none
  let s := s.setISat (F.MON_RDSON_DRIFT x) ([1, 2, 3].foldl (fun a f => max a (drift10 (fet f))) (drift10 (fet 0)))
  [0, 1, 2, 3].foldl (fun s f =>
    s.trendEvent (trendKey 6 x f) (driftOver (fet f) (5 * s.getF F.MON_LIMITS_RDSON_LIM) false) Ev.RDSON_TREND x
      (x + 16 * f + 65536 * unsigned 16 (satSigned 16 (drift10 (fet f)))) 6) s

/-- The reference followed longest in the day. -/
def State.longestRef (s : State) : Nat :=
  (s.hlt.refSec.foldl (fun (a : Nat × Nat) (q : Nat × Nat) => if q.2 > a.2 then q else a) (7, 0)).1

/-- The median of a list: the mean of its middle values (log entry 8). -/
def medianNat (l : List Nat) : Nat :=
  let t := sorted l
  (t.getD ((t.length - 1) / 2) 0 + t.getD (t.length / 2) 0) / 2

/-- The records of kinds 6 and 7 of a channel, and their daily values. -/
def State.dayChannel (s : State) (d : DayIn) (x : Nat) : State :=
  let s := match KV.find d.rdson x with
    | some l => [0, 1, 2, 3].foldl (fun (s : State) f => s.trendValue (trendKey 6 x f) (l.getD f 0)) (s.ledger 6 x l)
    | none => s
  let r := KV.get [] s.amp.dcr x
  let s := if r.isEmpty then s
    else (s.ledger 7 x [(medianNat r : Nat), (r.length : Nat), (r.foldl min (r.headD 0) : Nat), (r.foldl max 0 : Nat)]).trendValue (trendKey 7 x 0) (medianNat r)
  s.trends x

/-- The dead-time margins of the day (R440), and monitor 6. -/
def State.dayDead (s : State) (d : DayIn) : State :=
  let m := fun (t : Nat) => 10 * (s.getF F.PROT_GATE_DEAD : Int) - t
  let l := d.tsw.filter (fun q => decide (q.1 < 8))
  let s' := l.foldl (fun s q => (s.setISat (F.MON_DEAD_MARGIN q.1) (m q.2)).crossRun 6 q.1
    (decide (m q.2 < 10 * (s.getF F.CAL_PLAN_DEAD_MARGIN : Nat)))) s
  match l with
  | [] => s'
  | q :: _ => s'.setHlt { s'.hlt with margins := ((l.map (fun q => m q.2)).foldl min (m q.2) :: s'.hlt.margins).take 7 }

/-- DAILY_LEDGER (R443): the records of kinds 1 to 9 whose monitors have gathered something, then trends, thresholds. -/
def dailyLedger (d : DayIn) (s : State) : State :=
  if s.getF F.PWR_STATUS_STATE < 2 then s
  else
    let h := s.hlt
    let mean0 := if h.t0.2 = 0 then 0 else roundDiv h.t0.1 h.t0.2
    let s := match h.ro with
      | some l => s.ledger 1 0 l
      | none => s
    let s := match h.slack with
      | some v => s.ledger 2 0 [v, s.hlt.vcore, s.getF F.MON_SENS, (h.hot.map (fun (q : Int × Nat) => q.1)).getD 0]
      | none => s
    let s := if h.osc.2 = 0 then s else s.ledger 3 0 [roundDiv h.osc.1 h.osc.2, h.osc.2, mean0, s.longestRef]
    let s := if h.nvDay then s.ledger 4 0 [s.getF F.MON_NVM_MARGIN, s.bankA.stores, s.bankB.stores, d.ringWear] else s
    let margins := (List.range 4).map (fun k => s.getF (memMargin k))
    let s := if h.passes = 0 then s else s.ledger 5 0 [worstMargin margins, worstLane margins, h.passes, 2 ^ s.getF F.MEM_STATUS_REFRESH]
    let s := s.dayDead d
    let s := (List.range 8).foldl (fun s x => s.dayChannel d x) s
    let s := match h.hot with
      | some q => s.ledger 8 0 [q.1, q.2, mean0, h.warnMs / 60000]
      | none => s
    let e := h.eyes
    let s := if e.isEmpty then s else s.ledger 9 0 [e.getD 0 0, e.getD 1 0, min (e.getD 2 0) (e.getD 3 0), e.getD 4 0]
    let s := match s.oscFit with
      | some f =>
        let s := (s.setISat F.MON_AGE_MEAS f.1).setSat F.MON_SLOPE_MEAS f.2
        let used := s.ageUsed
        s.crossRun 3 0 (decide ((f.1 - used).natAbs * 100 > 5 * s.getF F.MON_LIMITS_AGE_DEV * used.natAbs))
      | none => s
    let s := { s with amp := { s.amp with dcr := [] } }
    s.setHlt { s.hlt with ro := none, slack := none, hot := none, osc := (0, 0), refSec := [], t0 := (0, 0), warnMs := 0
                          passes := 0, eyes := [], nvDay := false }

/-! ## Refresh and stores (R438, R455) -/

/-- NVM_REFRESH_DUE: the refresh begins. -/
def nvmRefreshDue (s : State) : State :=
  if s.pins.pfwLow || s.getF F.PWR_STATUS_STATE < 2 then s else s.setHlt { s.hlt with refreshing := true }

/-- NVM_REFRESH_END: the refresh has completed its last page; `margin` is the lowest read margin it found, in %. -/
def nvmRefreshEnd (margin : Nat) (s : State) : State :=
  if !s.hlt.refreshing then s
  else
    let s := (s.setF F.MON_NVM_MARGIN (satNat 8 margin)).setF F.CAL_LAST_REFRESH s.now.sec
    (s.setHlt { s.hlt with refreshing := false, nvDay := true }).crossRun 4 0 (decide (margin < 30))

/-- A store has been counted (R438): 90,000 of the rated 100,000 cross monitor 4's threshold. -/
def State.storeWear (s : State) : State :=
  (s.setHlt { s.hlt with nvDay := true }).crossRun 4 1 (decide (s.bankA.stores ≥ 90000) || decide (s.bankB.stores ≥ 90000))

/-- A retraining pass has ended (Table 19.1, monitor 5). -/
def State.trainMonitor (s : State) (was : Nat) : State :=
  let s := s.setHlt { s.hlt with passes := s.hlt.passes + 1 }
  let w := worstMargin ((List.range 4).map (fun k => s.getF (memMargin k)))
  if w < 35 && was ≥ 35 then (s.fire Ev.AGEING_THRESH monObj 5).calRequest else s

/-- Legal data of the HLT registers (R461, R462). -/
def legalHlt (u off v : Nat) : Bool :=
  if u = 0 && off = 0 then decide (bitsOf v 3 1 ≤ 4)
  else if u = 0 && off = 4 then bitsOf v 3 0 != 0 && bitsOf v 7 4 != 0 && bitsOf v 11 8 != 0 && bitsOf v 15 12 != 0
  else if u = 1 && off = 8 then decide (3 ≤ bitsOf v 3 0) && bitsOf v 7 4 != 0 && bitsOf v 11 8 != 0
  else true

end Sys2Proof.Machine
end

