-- ==== Sys2Proof/Machine/Service.lean ====
section
/-!
DEFINITION. Machine/Service.lean: field service (chapter 21, R487 to R497): the PROOF command and its catalogue, which
units a proof holds, how a proof ends, and what the LEDs show.
-/

namespace Sys2Proof.Machine

/-! ## The catalogue (R488, R493, R494) -/

/-- The resource a group needs: 0 TP_ANA, 1 TP_FREQ, 2 drive. -/
def proofResource (g : Nat) : Nat := if g = 1 then 0 else if g = 2 then 1 else 2

/-- Whether Table 21.1 has a proof. -/
def proofExists (g i : Nat) : Bool :=
  (g == 1 && decide (1 ≤ i) && decide (i ≤ 5)) || (g == 2 && decide (1 ≤ i) && decide (i ≤ 6)) ||
  (g == 3 && decide (1 ≤ i) && decide (i ≤ 3)) || (g == 4 && i == 1) ||
  ((g == 5 || g == 7 || g == 8) && (i == 1 || i == 2))

/-- The proofs with a fixed length. -/
def proofFixed (r : ProofRun) : Bool := r.g == 5 || (r.g == 7 && r.i == 2) || (r.g == 8 && r.i == 1)

def proofObj (g i : Nat) : Nat := 0x0D020000 + g * 256 + i
def proofKey (g i : Nat) : Nat := g * 256 + i

/-- What a pin code of Table 21.2 may do. -/
inductive PinKind where
  | none
  | input
  | output
  | highGate
  | lowGate
  deriving DecidableEq, Repr

/-- The kind of a pin code. -/
def pinKind (c : Nat) : PinKind :=
  if c < 0x1B then .output
  else if c < 0x20 then .input
  else if c < 0x60 then (if c % 4 = 2 then .input else .output)
  else if c < 0x68 then .output
  else if c < 0x70 then .input
  else if c < 0x80 then .none
  else if c < 0xA0 then (if c % 4 < 2 then .highGate else .lowGate)
  else .none

/-- The enable bits, by address and place, of the units that own a pin (Table 21.2): the generators, PHY management and
REF5 for a G pin, an output's enable, a local port's, a lane's, a channel's. -/
def State.pinOwners (s : State) (c : Nat) : List (Nat × Nat) :=
  let f := fun (g : Fld) => (g.addr, g.lo)
  if c < 0x10 then
    ((List.range 4).filter (fun n => s.getF (F.CC_CTL_GPIO n) == c + 1)).map (fun n => f (F.CC_CTL_EN n)) ++
    (if c = 10 || c = 11 then [f F.PHYM_CTL_EN] else []) ++ (if c = 15 then [f (F.REF_CTL_EN 5)] else [])
  else if c = 0x18 then [f F.OUT_CTL_WCK0_EN]
  else if c = 0x19 then [f F.OUT_CTL_WCK1_EN]
  else if c = 0x1A then [f F.OUT_CTL_PPS_EN]
  else if 0x20 ≤ c && c < 0x60 then (if c % 4 = 2 then [] else [f (F.TDM_CTL_EN ((c - 0x20) / 4))])
  else if 0x60 ≤ c && c < 0x68 then [f (F.PDM_CTL_EN (c - 0x60))]
  else if 0x80 ≤ c && c < 0xA0 then [f (F.AMP_CTL_EN ((c - 0x80) / 4))]
  else []

/-- The enable bits of the units that a proof drives (R489, R493). -/
def State.proofOwners (s : State) (r : ProofRun) : List (Nat × Nat) :=
  if r.g = 3 then s.pinOwners r.a1
  else if r.g = 4 then [((F.AMP_CTL_EN r.a1).addr, 0)]
  else if r.g = 5 then (if r.a1 < 4 then [((F.MAC_CTL_EN r.a1).addr, 0)] else [(F.LINK_CTL_EN.addr, 0)])
  else []

/-- Whether an enable bit is held at 0 by a proof (R489). -/
def State.proofHolds (s : State) (addr lo : Nat) : Bool :=
  match KV.find s.prf.run 2 with
  | none => false
  | some r => (s.proofOwners r).contains (addr, lo)

/-- Whether a proof holds some enable bit of a unit. -/
def State.proofHoldsUnit (s : State) (sub u : Nat) : Bool :=
  match KV.find s.prf.run 2 with
  | none => false
  | some r => (s.proofOwners r).any (fun q => (addrUnit q.1).1 == sub && (addrUnit q.1).2.1 == u)

/-- Whether a register write would set an enable bit that a proof holds at 0: the bit of a unit that owns what the proof
drives, or the EN of a generator that the write gives the pin (R489). -/
def State.proofBlocks (s : State) (addr mask merged : Nat) : Bool :=
  match KV.find s.prf.run 2 with
  | none => false
  | some r =>
    (s.proofOwners r).any (fun q => q.1 == addr && bitOf mask q.2 && bitOf merged q.2 && !s.on ⟨q.1, q.2, 1⟩) ||
    (r.g == 3 && decide (r.a1 < 16) && (List.range 4).any (fun n =>
      addr == (F.CC_CTL_EN n).addr && bitOf mask 0 && bitOf merged 0 && bitsOf merged 5 1 == r.a1 + 1))

/-- Whether a proof's arguments lie in their ranges (Table 21.1, R494). -/
def State.proofArgs (s : State) (r : ProofRun) : Bool :=
  if r.g = 1 then (r.i != 1 || decide (r.a1 < 10)) && (r.i != 4 || decide (r.a1 < 4)) && (r.i != 5 || decide (r.a1 < 8))
  else if r.g = 2 then r.i != 6 || decide (r.a1 < 16)
  else if r.g = 3 then
    (match pinKind r.a1 with
      | .none => false
      | .input => r.i == 3
      | .highGate => r.i != 1
      | _ => true)
  else if r.g = 4 then
    decide (r.a1 < 8) && !(r.a1 % 2 == 1 && s.ampSt r.a1 == aBRIDGED) && decide (100 ≤ r.a2) &&
    decide (r.a2 ≤ min 20000 (50 * s.getF F.PROT_SUPPLY_PVDD))
  else if r.g = 5 then if r.i = 1 then decide (r.a1 < 4) else decide (r.a1 < 5) && decide (1 ≤ r.a2) && decide (r.a2 ≤ 600)
  else if r.g = 7 then r.i = 2 || (decide (r.a1 < 16) && decide (r.a2 < 16))
  else r.i = 2 || (decide (1 ≤ r.a1) && decide (r.a1 ≤ 9))

/-- Whether an armed trigger names a unit (R489). -/
def State.armedOn (s : State) (sub u : Nat) : Bool :=
  (List.range 32).any (fun k =>
    (s.getF (F.TRG_STATUS_STATE k) == 1 || s.getF (F.TRG_STATUS_STATE k) == 2) && s.getF (F.TRG_CTL_ACTION k) != 0 &&
    s.getF (F.TRG_TARGET_HI k) == sub * 256 + u)

/-- Whether a proof may start (R488, R489, R493, R494): its resource is free or its own, the units that own what it drives are
off and named by no armed trigger, and its own conditions hold. -/
def State.proofMay (s : State) (r : ProofRun) : Bool :=
  (match KV.find s.prf.run (proofResource r.g) with
    | none => true
    | some x => x.g == r.g && x.i == r.i) &&
  (s.proofOwners r).all (fun q =>
    !s.on ⟨q.1, q.2, 1⟩ && !s.armedOn (addrUnit q.1).1 (addrUnit q.1).2.1) &&
  (r.g != 3 || !((r.a1 == 8 || r.a1 == 9) && s.getF F.PWR_CTL_VCORE_IF != 0)) &&
  (r.g != 3 || r.i != 1 || pinKind r.a1 != .lowGate || decide (s.getF F.PROT_SUPPLY_PVDD < 20)) &&
  (r.g != 4 || !s.ampHeld r.a1)

/-- Whether the source that a proof brings to TP_FREQ is absent (result 4). -/
def State.proofAbsent (s : State) (r : ProofRun) : Bool :=
  (r.g == 2 && r.i == 1 && s.ev.raw.contains Ev.XO32_FAIL) || (r.g == 2 && r.i == 5 && s.reamDown)

/-- The device values of a proof: registers where the catalogue names one, else what is measured (log entry 21). -/
def State.proofValues (s : State) (r : ProofRun) (v0 v1 : Int) : Int × Int :=
  if r.g = 1 && r.i = 1 then (s.getF (F.SUP_MEAS r.a1), v1)
  else if r.g = 2 && r.i = 4 then (s.getI F.LOOP_DCO_FREQ, v1)
  else if r.g = 2 && r.i = 6 then (s.getF (F.TDM_BCLK_MEAS r.a1), v1)
  else (v0, v1)

/-- The 12-byte block of a proof (R487). -/
def ProofRes.bytes (x : ProofRes) : List Byte :=
  leBytes 1 x.st ++ leBytes 1 x.result ++ leBytes 2 0 ++ leBytes 4 (unsigned 32 x.v0) ++ leBytes 4 (unsigned 32 x.v1)

/-- The register bits that show which resources are held (R497). -/
def State.showProofs (s : State) : State :=
  let held := fun (k : Nat) => b2n (KV.find s.prf.run k).isSome
  ((s.setF F.UART_PROOF_ANA (held 0)).setF F.UART_PROOF_FREQ (held 1)).setF F.UART_PROOF_DRIVE (held 2)

/-! ## Ends (R490, R491) -/

/-- A proof ends with a result and its last values. -/
def State.proofStop (s : State) (k : Nat) (result : Nat) (v : Option (Int × Int)) : State :=
  match KV.find s.prf.run k with
  | none => s
  | some r =>
    let key := proofKey r.g r.i
    let old := KV.get {} s.prf.last key
    let x : ProofRes := match v with
      | some (a, b) => { st := 2, result := result, v0 := a, v1 := b }
      | none => { old with st := 2, result := result }
    ({ s with prf := { s.prf with run := KV.erase s.prf.run k, last := KV.set s.prf.last key x } }).showProofs

/-- An end that the device causes, which it logs. -/
def State.proofDevice (s : State) (k : Nat) (result : Nat) (v : Option (Int × Int)) : State :=
  match KV.find s.prf.run k with
  | none => s
  | some r => (s.proofStop k result v).logState orgPower (proofObj r.g r.i) 1 result

/-- Every proof ends by the device (R490). -/
def State.proofsEnd (s : State) : State := [0, 1, 2].foldl (fun s k => s.proofDevice k 6 none) s

/-- The held unit enters its safe state. -/
def State.proofUnitSafe (s : State) (sub u : Nat) : State :=
  if s.proofHoldsUnit sub u then s.proofDevice 2 6 none else s

/-- A trip on the channel a proof drives (R490): the proof ends with result 3. -/
def State.proofTrip (s : State) (x : Nat) : State :=
  match KV.find s.prf.run 2 with
  | some r => if r.g = 4 && r.a1 = x then s.proofDevice 2 3 none else s
  | none => s

/-- Whether a channel runs under proof 4.1. -/
def State.proofDrives (s : State) (x : Nat) : Bool :=
  match KV.find s.prf.run 2 with
  | some r => r.g == 4 && r.a1 == x
  | none => false

/-- A proof reaches its hold time; one that took HOLD 3 has none. -/
def proofHoldExpiry (k : Nat) (s : State) : State :=
  match KV.find s.prf.run k with
  | some r => if r.hold = 3 then s else s.proofDevice k 5 none
  | none => s

/-! ## Test firings (R493) -/

/-- A test firing: sticky bit, count, reports and routes, and nothing else. -/
def State.testFire (s : State) (r : ProofRun) (src : Nat) : State := s.fire src (proofObj r.g r.i) 0xFFFFFFFF

/-- Sources `a` to `b - 1` fire in turn. -/
def State.testFires (s : State) (r : ProofRun) (a b : Nat) : State :=
  (List.range (b - a)).foldl (fun s i => s.testFire r (a + i)) s

/-- A proof of fixed length ends by itself. Proof 7.2 has then fired every source. -/
def proofComplete (pass : Bool) (v0 v1 : Int) (s : State) : State :=
  match KV.find s.prf.run 2 with
  | none => s
  | some r =>
    if !proofFixed r then s
    else
      let s := if r.g = 7 then s.testFires r r.next 256 else s
      s.proofDevice 2 (if pass then 1 else 2) (some (v0, v1))

/-- A millisecond of proof 7.2: ten sources fire in a second. -/
def State.proofMs (s : State) : State :=
  match KV.find s.prf.run 2 with
  | none => s
  | some r =>
    if r.g = 7 && r.i = 2 && r.next < 256 then
      let due := (r.ms + 1) % 100 == 0
      let s := if due then s.testFire r r.next else s
      { s with prf := { s.prf with run := KV.set s.prf.run 2 { r with ms := r.ms + 1, next := r.next + b2n due } } }
    else s

/-! ## The command (R487) -/

/-- PROOF: START, END or STATUS of one proof, or END of every proof. `v0` and `v1` are what the device measures. -/
def opProof (v0 v1 : Int) (q : Req) (s : State) : OpOut :=
  let g := q.field 4 1
  let i := q.field 5 1
  let act := q.field 6 1
  let r : ProofRun := { g := g, i := i, a1 := q.field 8 4, a2 := q.field 12 4, hold := s.getF F.UART_PROOF_HOLD }
  let k := proofResource g
  let key := proofKey g i
  if q.params.length ≠ 16 then badLen
  else if q.obj ≠ 0x0D020000 then .bad 16
  else if g = 0xFF && act = 1 then
    let any := !s.prf.run.isEmpty
    let s := [0, 1, 2].foldl (fun s k => s.proofStop k 0 none) s
    .done s ((ProofRes.bytes {})) (if any then some 0x0D020000 else none)
  else if !proofExists g i then .bad (if (List.range 256).any (proofExists g) then 21 else 20)
  else if act > 2 then .bad 22
  else if q.field 7 1 ≠ 0 then .bad 23
  else if act = 0 then
    if !s.proofArgs r then .bad 24
    else if !s.proofMay r then .err stBAD_STATE
    else
      let v := s.proofValues r v0 v1
      let x : ProofRes := { st := 1, result := if s.proofAbsent r then 4 else 0, v0 := v.1, v1 := v.2 }
      let s := ({ s with prf := { run := KV.set s.prf.run k r, last := KV.set s.prf.last key x } }).showProofs
      let s := (s.setF F.UART_PROOF_LAST_LAST_G g).setF F.UART_PROOF_LAST_LAST_I i
      let s := if g = 7 && i = 1 then s.testFire r (16 * r.a1 + r.a2) else s
      .done s x.bytes (some 0x0D020000)
  else
    match KV.find s.prf.run k with
    | some y =>
      if y.g = g && y.i = i then
        let v := s.proofValues y v0 v1
        if act = 1 then
          let s := s.proofStop k 0 (some v)
          .done s (KV.get {} s.prf.last key).bytes (some 0x0D020000)
        else .done s (ProofRes.bytes { st := 1, result := if s.proofAbsent y then 4 else 0, v0 := v.1, v1 := v.2 }) none
      else .done s (KV.get {} s.prf.last key).bytes none
    | none => .done s (KV.get {} s.prf.last key).bytes none

/-! ## LEDs (R495, R496) -/

/-- Whether some unit is in its safe state. -/
def State.anySafe (s : State) : Bool := s.units.any (fun q => q.2.inSafe)

/-- The fault code LED3 shows: the lowest that holds; 0 with none. -/
def State.faultCode (s : State) : Nat :=
  if s.pwr.boot = 2 then 1
  else if s.pwr.boot = 3 then 2
  else if s.ev.raw.contains Ev.XO32_FAIL then 3
  else if s.pwr.cmdReady && !s.trained then 4
  else if s.pwr.cfgDefault then 5
  else if s.pwr.patchBad then 6
  else if s.health = 2 then 7
  else if s.anySafe then 8
  else if (List.range 8).any (fun x => s.ampSt x == aFAULT || s.ampSt x == aLOCKOUT) then 9
  else 0

/-- LED0 to LED3 outside proof 8 (Table 21.3); a waiting start shows its code on each of them (R472). -/
def State.ledsNormal (s : State) : List Led :=
  let c := s.faultCode
  let code := if c = 0 then Led.off else .code c
  if s.pwr.boot = 2 || s.pwr.boot = 3 then [code, code, code, code]
  else
    let st := s.getF F.PWR_STATUS_STATE
    let p := s.pairSt
    [if st = 3 then .blink 1 else if st = 2 then .flash else .off,
     if s.loopMode = lmLOCKED && s.on F.TB_STATUS_SET then .on else if s.loopMode = lmHOLDOVER then .blink 2 else .off,
     if p = psALONE then .off else if p = psACTIVE then .on else if p = psREADY then .blink 1 else .blink 4,
     code]

/-- LED0 to LED3, as a proof of group 8 or 3 has them (R493). -/
def State.ledLevels (s : State) : List Led :=
  let l := s.ledsNormal
  match KV.find s.prf.run 2 with
  | none => l
  | some r =>
    if r.g = 8 then (if r.i = 1 then l.take 3 ++ [.code r.a1] else [.on, .on, .on, .on])
    else if r.g = 3 && 0x10 ≤ r.a1 && r.a1 < 0x14 then
      (List.range 4).map (fun k => if k = r.a1 - 0x10 then (if r.i = 2 then .on else .off) else l.getD k .off)
    else l

end Sys2Proof.Machine
end

