-- ==== Sys2Proof/Machine/Units.lean ====
section
/-!
DEFINITION. Machine/Units.lean: the units as the register path sees them: which EN governs a register (R65), which
values are legal (R27, R60, R62), what a unit does when its EN rises or falls (R66), what follows a change of a live
field, and what a unit does in its safe state (Table 3.4).
-/

namespace Sys2Proof.Machine

/-! ## EN bits -/

/-- The offset of the register whose bit 0 is the EN that governs a register (R65): an estimator's and a ring's own, and
the unit's; none for the chip identity unit and HRING.CTL. -/
def enOff (sub u off : Nat) : Option Nat :=
  if sub = 0 && u = 0 then none
  else if sub = 0 && u = 2 then some 0x2000
  else if sub = 4 && u = 4 && 0x100 ≤ off then some (off / 0x20 * 0x20)
  else if sub = 13 && u = 0 && 0x200 ≤ off then some (off / 0x40 * 0x40)
  else if sub = 13 && u = 0 && 0x100 ≤ off then none
  else some 0

/-- The EN field at an address. -/
def enFld (addr : Nat) : Fld := ⟨addr, 0, 1⟩

/-- Whether a register's bit 0 is a writable EN. -/
def isEnReg (sub u off : Nat) : Bool :=
  enOff sub u off == some off &&
  (match findRow (unitRows sub u) off with
    | some (r, _) => r.fields.any (fun f => f.lo == 0 && f.width == 1 && f.acc == .rw)
    | none => false)

/-- Whether the EN that governs a register is set. -/
def State.governed (s : State) (sub u off : Nat) : Bool :=
  match enOff sub u off with
  | some o => s.on (enFld (unitBase sub u + o))
  | none => false

/-- Whether the host can clear and set a unit's EN (R74). -/
def enWritable (sub u : Nat) : Bool := if sub = 0 && u = 2 then isEnReg 0 2 0x2000 else isEnReg sub u 0

/-- Whether a unit's EN is set; a unit without one counts as enabled. -/
def State.unitOn (s : State) (sub u : Nat) : Bool :=
  match enOff sub u 0 with
  | some o => s.on (enFld (unitBase sub u + o))
  | none => true

/-! ## What an access needs (R18, R19, R78, R79) -/

/-- The clock domain of a unit's registers (Table 3.5): 0 system, 1 always-on, 2 media or port clock, 3 DDR. -/
def unitDomain (sub u : Nat) : Nat :=
  if sub = 14 then 1
  else if (sub = 1 && (u = 0 || (8 ≤ u && u < 12))) || (sub = 2 && u = 11) || sub = 6 || sub = 7 || (sub = 8 && u < 8) then 2
  else if sub = 9 && u = 0 then 3
  else 0

/-- The power state (Table 20.1). -/
def State.powerSt (s : State) : Nat := s.getF F.PWR_STATUS_STATE

/-- Whether LISTEN keeps a unit unpowered or unclocked (R19, R235, R295, R375). -/
def State.unpowered (s : State) (sub u : Nat) : Bool :=
  s.powerSt == 2 &&
  ((sub == 4 && u != 1) || (sub == 5 && decide (8 ≤ u) && decide (u < 64)) || sub == 8 || (sub == 9 && decide (u < 2)) ||
   (sub == 3 && decide (u < 4) && u != s.getF F.PWR_CTL_LISTEN_PORT))

/-- Whether an access to a unit's registers does not cross (R79): the unit is unpowered, the media PLL is out of lock, a
slave port has no clock, the DDR PHY is out of lock. -/
def State.absent (s : State) (sub u : Nat) : Bool :=
  s.unpowered sub u ||
  (match unitDomain sub u with
    | 2 => if sub = 6 && !s.on (F.TDM_CTL_MASTER u) then s.on (F.TDM_CTL_EN u) && !s.on (F.TDM_STATUS_CLK_OK u)
           else !s.on F.LOOP_STATUS_PLL_LOCK
    | 3 => !s.on F.MEM_STATUS_PHY_LOCK
    | _ => false)

/-! ## Legal values (R27, R60) -/

/-- Legality of a single-word register's merged value beyond its reserved bits. Arming a trigger (R146) is judged where it is
made. -/
def State.legalWord (s : State) (sub u off v : Nat) : Bool :=
  if sub = 0 then (u != 1 || off != 4 || v != 0) && (u != 2 || off != 0x2004 || (decide (16 ≤ v) && decide (v ≤ 4096)))
  else if sub = 1 then
    if u = 0 then legalTb off v
    else if u < 3 then legalDom off v
    else if u < 8 then true
    else if u < 12 then s.legalCc off v && !(off == 0 && s.getF F.PWR_CTL_VCORE_IF != 0 && (bitsOf v 5 1 == 9 || bitsOf v 5 1 == 10))
    else (off != 0 || bitsOf v 2 1 != 3) && (off != 0xC || decide (v ≤ 10000)) && (off != 0x2C || v % 4 != 3)
  else if sub = 2 then
    if u < 7 then legalRef u off v
    else if u = 8 then legalSel off v
    else if u = 9 then legalLoop off v
    else if u = 10 then legalHold off v
    else true
  else if sub = 3 then
    if u < 4 then
      legalMac u off v && (off != 0x34 || s.legalProd (F.MAC_TXR_CFG_SIZE u) v) && (off != 0x54 || s.legalProd (F.MAC_RXR_CFG_SIZE u) v)
    else if u = 4 then legalPol off v
    else s.legalPhy off v
  else if sub = 4 then
    if u = 1 then s.legalTxt off v else if u = 3 then legalPlay off v else if u = 4 then legalFd off v else true
  else if sub = 5 then
    if u = 64 then off != 0 || bitsOf v 2 1 != 3 else if u = 65 then off != 0 || bitsOf v 3 1 != 7 else true
  else if sub = 6 then legalTdm off v
  else if sub = 7 then legalPdm off v
  else if sub = 8 then if u < 8 then s.legalAmp u off v else if u = 8 then legalProt off v else legalDiag off v
  else if sub = 9 then legalMem u off v
  else if sub = 10 then legalPair u off v
  else if sub = 11 then legalHlt u off v
  else if sub = 13 then
    if u = 0 then
      legalRingReg off v &&
      !(decide (0x200 ≤ off) && off % 0x40 == 0x1C && !s.legalProd (F.RING_CFG_SIZE ((off - 0x200) / 0x40)) v)
    else u != 2 || off != 0 || decide (bitsOf v 4 1 ≤ 7)
  else if sub = 14 then
    if u = 0 && off = 0 then
      bitsOf v 5 4 != 3 &&
      !(bitsOf v 5 4 != 0 && (List.range 4).any (fun n => s.getF (F.CC_CTL_GPIO n) == 9 || s.getF (F.CC_CTL_GPIO n) == 10))
    else u != 0 || off != 4 || (decide (8 ≤ bitsOf v 6 0) && decide (bitsOf v 6 0 < 0x78))
  else true

/-- Legality of a multi-word value at its commit (R62), by the offset of its lowest word. -/
def State.legalMulti (s : State) (sub u base v : Nat) : Bool :=
  if sub = 1 then
    if u = 0 then s.tbLoadOk v
    else if 4 ≤ u && u < 8 then (if base = 0x50 then legalAsym v else legalLatency v)
    else if 32 ≤ u && base = 0x10 then decide ((Tai.ofBits v).ns ≤ 999999999)
    else true
  else if sub = 2 && u = 9 then legalSteer v && !s.inSafe 2 9
  else if sub = 3 && u < 4 then legalRing v
  else if sub = 4 && u = 1 then legalAnnGrp v
  else if sub = 13 && u = 0 then legalRing v
  else true

/-- Whether a unit may be enabled with the configuration it now stores (R116 and its likes; R294). -/
def State.enLegal (s : State) (sub u off : Nat) : Bool :=
  if sub = 1 then
    if u = 1 || u = 2 then s.domConfigOk (u - 1) else if 8 ≤ u && u < 12 then s.ccConfigOk (u - 8) else true
  else if sub = 2 then (if u < 7 then s.refConfigOk u else true)
  else if sub = 4 then (if u = 0 then s.rxTableOk else true)
  else if sub = 5 then !(s.getF (F.BUR_STATUS_STATE u) == 1 || s.getF (F.BUR_STATUS_STATE u) == 2)
  else if sub = 6 then s.tdmConfigOk u
  else if sub = 7 then s.pdmConfigOk u
  else if sub = 8 then (if u = 8 then s.protConfigOk else if u = 9 then s.diagConfigOk else true)
  else if sub = 13 && u = 0 && 0x200 ≤ off then s.ringConfigOk ((off - 0x200) / 0x40)
  else true

/-- Whether an EN may be cleared (R260, R292). -/
def State.disLegal (s : State) (sub u off : Nat) : Bool :=
  if sub = 4 && u = 4 then (s.fdBound ((off - 0x100) / 0x20)).isEmpty
  else if sub = 5 && u < 64 then !s.inService u || decide (s.getF F.ADM_COMMITTED ≤ 36000 * (s.servants.length - 1))
  else true

/-! ## EN rises and falls (R66) -/

/-- What a unit does as its EN becomes 1; the bit already stands. -/
def State.enRise (s : State) (sub u off : Nat) : State :=
  if sub = 1 then
    if u = 1 || u = 2 then (s.domEnable (u - 1)).refreshTsMiss.syncGroups
    else if 8 ≤ u && u < 12 then (s.ccEnable (u - 8)).refreshOutputs
    else s
  else if sub = 2 then (if u < 7 then (s.refEnable u).refHostChange else if u = 11 then s.refreshOutputs else s)
  else if sub = 3 then (if u < 4 then s.portEnable u else s)
  else if sub = 4 then
    if u = 0 then s.rxTableOn else if u = 1 then s.txTableOn
    else if u = 4 then (s.setFd ((off - 0x100) / 0x20) {}).fdRefresh ((off - 0x100) / 0x20)
    else s
  else if sub = 5 then (if u < 64 && s.getF (F.BUR_STATUS_STATE u) == 4 then s.burinIn u else s)
  else if sub = 6 then s.tdmEnable u none
  else if sub = 7 then s.pdmEnable u none
  else if sub = 8 then (if u < 8 then s.ampEnable u none else if u = 8 then s.protEnable else s)
  else if sub = 13 then
    if u = 0 && 0x200 ≤ off then s.ringEnable ((off - 0x200) / 0x40)
    else if u = 1 then { s with car := { s.car with spiQuad := s.on F.SPI_CTL_QUAD } }
    else s
  else s

/-- A trigger unit that is armed is disarmed with no entry of its own (R146). -/
def State.trgDrop (s : State) (k : Nat) : State :=
  let st := s.getF (F.TRG_STATUS_STATE k)
  if st = 1 || st = 2 then (s.setF (F.TRG_STATUS_STATE k) 0).syncLent else s

/-- What a unit does as its EN becomes 0; the bit is already clear. -/
def State.enFall (s : State) (sub u off : Nat) : State :=
  if sub = 1 then
    if u = 1 || u = 2 then (s.domDisable (u - 1)).refreshTsMiss.syncGroups
    else if 8 ≤ u && u < 12 then (s.ccDisable (u - 8)).refreshOutputs
    else if 32 ≤ u then s.trgDrop (u - 32)
    else s
  else if sub = 2 then (if u < 7 then (s.refDisable u).refHostChange else if u = 11 then s.refreshOutputs else s)
  else if sub = 3 then (if u < 4 then s.portDisable u else s)
  else if sub = 4 then
    if u = 0 then s.rxTableOff else if u = 1 then s.txTableOff
    else if u = 4 then s.fdDisable ((off - 0x100) / 0x20)
    else s
  else if sub = 5 then (if u < 64 then s.burinOut u 4 else s)
  else if sub = 6 then s.tdmStop u
  else if sub = 7 then s.pdmStop u
  else if sub = 8 then (if u < 8 then s.ampStop u else if u = 8 then s.protDisable else s.diagAbandon)
  else if sub = 10 then
    if u = 0 then (s.setF F.LINK_STATUS_LOCK 0).pairDown
    else if u = 1 then s.roleDisable
    else s.setPairD { s.pair with own := [], theirs := [] }
  else if sub = 11 then s.calAbandon
  else if sub = 13 && u = 0 && 0x200 ≤ off then s.ringStop ((off - 0x200) / 0x40) 0
  else s

/-! ## Live fields -/

/-- What follows a change of a register's stored fields other than EN, with its old and new data. -/
def State.afterWrite (s : State) (sub u off old new : Nat) : State :=
  if old = new then s
  else if sub = 1 then
    if u = 0 then
      let src := s.getF F.TB_CTL_TOD_SRC
      let s := if bitsOf old 2 1 = src then s
        else if src = 0 then (if s.selRef < 2 then s.wantTod s.selRef else s)
        else s.wantTod (src - 1)
      s.setHlt { s.hlt with trust := min s.hlt.trust (if bitsOf new 8 6 < bitsOf old 8 6 then bitsOf new 8 6 else 7) }
    else if 4 ≤ u && u < 8 then (if bitOf old 1 != bitOf new 1 then s.latencyChanged (u - 4) else s)
    else if 8 ≤ u && u < 12 then s.syncLent
    else s
  else if sub = 2 then
    if u < 7 then (s.refreshQuality u).refHostChange
    else if u = 8 then s.refHostChange
    else if u = 9 then (if off = 8 then (if bitOf new 0 then s.manualSet else s.manualClear) else s)
    else if u = 10 then (if off = 0 && bitsOf old 2 1 != bitsOf new 2 1 then { s with clk := { s.clk with hoWritten := true } } else s)
    else s.refreshOutputs
  else if sub = 3 then (if u < 4 && off = 0 && bitOf old 8 && !bitOf new 8 then s.lpiWake u else s)
  else if sub = 4 then (if u = 1 then (s.refreshTsMiss).syncGroups else s)
  else if sub = 5 then (if u = 65 then s.refreshAdm else s)
  else if sub = 6 then (s.tdmChange u off).refreshTdmCh u
  else if sub = 7 then s.pdmChange u off
  else if sub = 8 then
    if u < 8 && off = 0 then
      let s := if bitOf old 2 != bitOf new 2 then s.bridgeChange u else s
      if bitOf old 3 != bitOf new 3 then s.ampMuteChange u else s
    else s
  else if sub = 11 then (if u = 1 && off = 0 then s.refreshNext else s)
  else if sub = 13 && u = 2 && off = 0 then
    if bitsOf old 4 1 = bitsOf new 4 1 then s
    else if s.car.uartBusy || s.car.executing == some .uart then { s with car := { s.car with baudDue := true } }
    else { s with car := { s.car with uartBaud := s.getF F.UART_CTL_BAUD, baudDue := false } }
  else s

/-- What follows a commit of a multi-word value, by the offset of its lowest word (R62). -/
def State.afterCommit (s : State) (sub u base v : Nat) : State :=
  if sub = 1 then
    if u = 0 then s.loadTimebase v
    else if 4 ≤ u && u < 8 then s.latencyChanged (u - 4)
    else s
  else if sub = 2 && u = 9 then s.updateDco
  else if sub = 4 && u = 1 then s.syncGroups
  else if sub = 6 then s.refreshTdmCh u
  else if base = 0 then s else s

/-! ## Safe states (R73, R74, Table 3.4) -/

/-- Units that keep running with a corrupted register at its reset value. -/
def resetsInSafe (sub u : Nat) : Bool := (sub == 0 && (u == 1 || u == 2)) || sub == 13

/-- The fields of a register at their reset values: what a unit of `resetsInSafe` uses of a corrupted one. -/
def State.fieldsToReset (s : State) (addr : Nat) : State :=
  match findReg addr with
  | none => s
  | some r => r.fields.foldl (fun s f => if f.acc == .ro then s else s.setF ⟨addr, f.lo, f.width⟩ f.reset) s

/-- Whether a unit entering its safe state fails a running long operation: the units the operation works on (R53, Table 3.4). -/
def LongOp.usesUnit (l : LongOp) (sub u : Nat) : Bool :=
  if l.idx = 1 || l.idx = 2 || l.idx = 3 || l.idx = 8 then sub == 0 && u == 3
  else if l.idx = 4 then sub == 0 && u == 4
  else if l.idx = 5 then sub == 9 && u == 0
  else if l.idx = 6 then l.arg == 0xFF || sub == l.arg
  else if l.idx = 7 then sub == 8 && u == 9
  else false

/-- A running long operation that uses the unit is marked. -/
def State.longHit (s : State) (sub u : Nat) : State :=
  match s.car.longOp with
  | some l => if l.usesUnit sub u then { s with car := { s.car with longOp := some { l with safeHit := true } } } else s
  | none => s

/-- A unit enters its safe state, or meets a further mismatch in it, through a register. -/
def State.unitSafe (s : State) (sub u addr : Nat) : State :=
  let key := unitKey sub u
  let was := s.inSafe sub u
  let off := addr % 2 ^ 15
  let s := if was then s else ((s.setUnit key { s.unit key with inSafe := true, firstOff := off / 4 }).proofUnitSafe sub u).longHit sub u
  let s := if resetsInSafe sub u then s.fieldsToReset addr else s
  if sub = 1 && 32 ≤ u then s.trgDrop (u - 32)
  else if sub = 2 && u < 7 then (if s.refSt u = rsDISABLED || s.refSt u = rsFAILED then s else s.refFail u)
  else if sub = 2 && u < 10 then s.loopSafe
  else if sub = 4 then
    if u = 1 then s.txAllSafe
    else if u = 4 then
      if off < 0x100 then s.rxAllSafe else (s.fdBound ((off - 0x100) / 0x20)).foldl (fun s q => s.rxToSafe q.1) s
    else s.rxAllSafe
  else if sub = 5 && u < 64 then (s.burinOut u 3)
  else if sub = 6 then (if was then s else s.tdmSafe u)
  else if sub = 7 then s.refreshPdmRaw
  else if sub = 8 then
    if was then s else if u < 8 then s.ampSafe u else if u = 8 then s.protSafe else s.diagAbandon
  else if sub = 11 then s.calSuspend
  else if sub = 13 && u = 0 && 0x200 ≤ off && off % 0x40 = 0 then s.ringStop ((off - 0x200) / 0x40) 3
  else s

/-- The registers of a unit whose stored data fail their parity, in address order. -/
def State.badRegs (s : State) (sub u : Nat) : List (Nat × Nat) :=
  s.bad.filter (fun q => (addrUnit q.1).1 == sub && (addrUnit q.1).2.1 == u)

/-- The check that ends a safe state (R74): with no register failing, IN_SAFE falls; a mismatch already reported is not
reported again (R72). -/
def State.safeCheck (s : State) (sub u : Nat) : Bool × State :=
  let key := unitKey sub u
  match s.badRegs sub u with
  | [] => (true, s.setUnit key { s.unit key with inSafe := false, firstOff := 0 })
  | _ => (false, s)

/-- What a unit does as it leaves its safe state by the clearing of PARITY (R74). -/
def State.leaveSafe (s : State) (sub u : Nat) : State :=
  if sub = 2 && (u = 8 || u = 9) then s.loopUnsafe
  else if sub = 11 then s.calUnsuspend
  else s

/-- The start of a unit whose EN is set in its safe state (R74): the check, and where it passes the start as on any
enable. -/
def State.enSafe (s : State) (sub u off : Nat) : State :=
  match s.safeCheck sub u with
  | (false, s) => if sub = 2 && u < 7 then s.refEnable u else s
  | (true, s) =>
    if sub = 5 then s.burinIn u
    else if sub = 8 && u < 8 then s.ampUnsafe u
    else if sub = 8 && u = 8 then (List.range 8).foldl (fun s x => if s.ampSt x = aSAFE && !s.inSafe 8 x then s.ampUnsafe x else s) (s.enRise sub u off)
    else if sub = 11 then s.calUnsuspend
    else s.enRise sub u off

end Sys2Proof.Machine
end

