-- ==== Sys2Proof/Machine/Trig.lean ====
section
/-!
DEFINITION. Machine/Trig.lean: the trigger units (R144 to R152): arming by register and by command, disarming, the
firing of an armed unit at its target's boundary, and what a step of the timebase or a lower power state does to them.
-/

namespace Sys2Proof.Machine

/-- What a trigger acts on (Table 6.4). -/
inductive TrgTarget where
  | tdm (t : Nat)
  | pdm (m : Nat)
  | amp (x : Nat)
  | tx (e : Nat)
  | graph (n : Nat)
  | cc (n : Nat)
  deriving DecidableEq, Repr

/-- The target an object ID names, if Table 6.4 lists it. -/
def trgTarget (obj : Nat) : Option TrgTarget :=
  let (sub, u, e) := objParts obj
  if sub = 6 && u < 16 && e = 0 then some (.tdm u)
  else if sub = 7 && u < 8 && e = 0 then some (.pdm u)
  else if sub = 8 && u < 8 && e = 0 then some (.amp u)
  else if sub = 4 && u = 1 && e < 512 then some (.tx e)
  else if sub = 5 && u = 64 && e < 256 then some (.graph e)
  else if sub = 1 && 8 ≤ u && u < 12 && e = 0 then some (.cc (u - 8))
  else none

/-- Subsystem and unit of a target. -/
def TrgTarget.unit : TrgTarget → Nat × Nat
  | .tdm t => (6, t)
  | .pdm m => (7, m)
  | .amp x => (8, x)
  | .tx _ => (4, 1)
  | .graph _ => (5, 64)
  | .cc n => (1, 8 + n)

/-- Ticks of arming lead (Table 6.4). -/
def TrgTarget.lead : TrgTarget → Nat
  | .tx _ => 2
  | .graph _ => 2
  | _ => 0

/-- Whether a target's enable is a register bit. -/
def TrgTarget.isUnit : TrgTarget → Bool
  | .tx _ => false
  | .graph _ => false
  | _ => true

/-- Whether a target is enabled. -/
def State.trgOn (s : State) : TrgTarget → Bool
  | .tx e => s.txOn s.txBank e
  | .graph n => s.gOn s.gBank n
  | t => s.unitOn t.unit.1 t.unit.2

/-- Whether a target could be enabled with the configuration it now stores. -/
def State.trgLegal (s : State) : TrgTarget → Bool
  | .tx e => bChannels (s.txB e) != 0 && (match s.txCheck e with | .inl _ => false | .inr _ => true)
  | .graph n => configured (s.gImg n) && (match s.graphCheck n with | .inl _ => false | .inr _ => true)
  | t => s.enLegal t.unit.1 t.unit.2 0

/-- Whether the power state keeps a target unpowered (R19). -/
def State.trgUnpowered (s : State) (t : TrgTarget) : Bool := s.powerSt == 2 && (t.unit.1 == 8 || t.unit.1 == 5)

def trgObj (k : Nat) : Nat := objId 1 (32 + k) 0

/-- The target object ID and the time a unit stores. -/
def State.trgObjOf (s : State) (k : Nat) : Nat := s.getF (F.TRG_TARGET_LO k) + 65536 * s.getF (F.TRG_TARGET_HI k)
def State.trgTime (s : State) (k : Nat) : Tai := Tai.ofBits (s.getWords (F.TRG_TIME k) 7)

/-- Whether a unit is ARMED, on time or late. -/
def State.trgArmed (s : State) (k : Nat) : Bool :=
  s.getF (F.TRG_STATUS_STATE k) == 1 || s.getF (F.TRG_STATUS_STATE k) == 2

/-- Whether a unit is free (R151): in service, IDLE, not lent, not in its safe state. -/
def State.trgFree (s : State) (k : Nat) : Bool :=
  s.on (F.TRG_CTL_EN k) && s.getF (F.TRG_STATUS_STATE k) == 0 && !s.inSafe 1 (32 + k)

/-- The acting time of an arming: state ARMED or ARMED late, and the time the boundary may not come before; none where the
time lies beyond the window (R146). -/
def State.trgDue (s : State) (lead win : Nat) (t : Int) : Option (Nat × Int) :=
  let lo := s.reqUnits + s.ticksUnits lead
  if lo ≤ t then some (1, t)
  else if lo - win * 6553600000 ≤ t then some (2, lo)
  else none

/-- The refusal of an arming as STATUS.RESULT codes it (R151), or the acting time. -/
def State.trgJudge (s : State) (k action obj win : Nat) (t : Int) : Nat ⊕ (Nat × Int) :=
  let target := if action = 0 then none else trgTarget obj
  if action ≠ 0 && target.any s.trgUnpowered then .inl 5
  else if action ≠ 0 && target.isNone then .inl 2
  else if !s.trgFree k then .inl 4
  else if target.any (fun x => s.trgOn x == (action == 1) || (action == 1 && !s.trgLegal x)) then .inl 3
  else match s.trgDue ((target.map TrgTarget.lead).getD 0) win t with
    | none => .inl 1
    | some d => .inr d

/-- A unit is armed. -/
def State.trgArmAt (s : State) (k : Nat) (o : Origin) (d : Nat × Int) : State :=
  let s := (s.setF (F.TRG_STATUS_STATE k) d.1).setF (F.TRG_STATUS_RESULT k) 0
  { s with stamps := { s.stamps with armedBy := KV.set s.stamps.armedBy k o, due := KV.set s.stamps.due k d.2 } }

/-- What a write of ARM.ARM asks of a unit, judged (R146): the refusal, or the arming. -/
def State.trgArmJudge (s : State) (k : Nat) : Nat ⊕ (Nat × Int) :=
  s.trgJudge k (s.getF (F.TRG_CTL_ACTION k)) (s.trgObjOf k) (s.getF (F.TRG_LATE_WIN k)) (s.trgTime k).units

/-- The arming that a write of ARM.ARM makes (R146), as the state before the write has it judged. -/
def State.trgArmReg (s before : State) (k : Nat) (o : Origin) : State :=
  match before.trgArmJudge k with
  | .inl r => s.setF (F.TRG_STATUS_RESULT k) r
  | .inr d => s.trgArmAt k o d

/-! ## By command (R151) -/

/-- One entry of TRG_ARM (Table 6.5). -/
structure TrgEntry where
  unit : Nat
  action : Nat
  win : Nat
  obj : Nat
  time : Nat
  deriving DecidableEq, Repr

/-- The entry at a parameter offset. -/
def trgEntry (q : Req) (o : Nat) : TrgEntry :=
  { unit := q.field o 1, action := q.field (o + 1) 1, win := q.field (o + 2) 2, obj := q.field (o + 4) 4,
    time := q.field (o + 8) 14 }

/-- The offset of an entry's first illegal field. -/
def TrgEntry.fault (x : TrgEntry) (q : Req) (o : Nat) : Option Nat :=
  if x.unit ≥ 32 && x.unit != 255 then some o
  else if x.action > 2 then some (o + 1)
  else if x.win > 10000 then some (o + 2)
  else if x.action != 0 && (trgTarget x.obj).isNone then some (o + 4)
  else if (Tai.ofBits x.time).ns > 999999999 then some (o + 10)
  else if q.field (o + 22) 2 != 0 then some (o + 22)
  else none

/-- The units that entries take: a named unit its own, 0xFF the lowest of the pool; none where the pool is empty. -/
def trgPick : List Nat → List TrgEntry → Option (List Nat)
  | _, [] => some []
  | pool, x :: l =>
    if x.unit = 255 then
      match pool with
      | [] => none
      | k :: pool => (trgPick pool l).map (k :: ·)
    else (trgPick pool l).map (x.unit :: ·)

/-- The first refusal among entries from parameter offset `o` on and the units they take, with the packet offset of the field
at fault: the unit, the target or the time. -/
def State.trgRefusal (s : State) : Nat → List (Nat × TrgEntry) → Option (Nat × Nat)
  | _, [] => none
  | o, (k, x) :: l =>
    match s.trgJudge k x.action x.obj x.win (Tai.ofBits x.time).units with
    | .inl r => some (r, 16 + o + (if r = 1 then 8 else if r = 4 then 0 else 4))
    | .inr _ => s.trgRefusal (o + 24) l

/-- Whether two named entries take one unit. -/
def twice : List Nat → Bool
  | [] => false
  | k :: l => l.contains k || twice l

/-- The status of a refusal of TRG_ARM. -/
def trgStatus (r : Nat) : Nat :=
  if r = 1 then stTIME_PAST else if r = 2 then stBAD_PARAM else if r = 5 then stLOW_POWER else stBAD_STATE

/-- A unit's fields written by an entry, the unit armed and its CMD entry made. -/
def State.trgTake (s : State) (q : Req) (k : Nat) (x : TrgEntry) : State :=
  match s.trgJudge k x.action x.obj x.win (Tai.ofBits x.time).units with
  | .inl _ => s
  | .inr d =>
    let s := (s.setF (F.TRG_CTL_ACTION k) x.action).setF (F.TRG_LATE_WIN k) x.win
    let s := ((s.setF (F.TRG_TARGET_LO k) x.obj).setF (F.TRG_TARGET_HI k) (x.obj / 65536)).setWords (F.TRG_TIME k) x.time 7
    (s.modified.trgArmAt k q.origin d).logE q.origin.code q.origin.id kCMD false (trgObj k) q.opcode q.crc

/-- TRG_ARM (R151): all entries or none. -/
def opTrgArm (q : Req) (s : State) : OpOut :=
  let n := q.field 0 2
  if q.params.length < 4 then badLen
  else if n < 1 || n > 32 then .bad 16
  else if q.params.length ≠ 4 + 24 * n then badLen
  else if q.field 2 2 ≠ 0 then .bad (q.firstSet 2 2)
  else
    let l := (List.range n).map (fun i => trgEntry q (4 + 24 * i))
    match (List.range n).findSome? (fun i => (trgEntry q (4 + 24 * i)).fault q (4 + 24 * i)) with
    | some o => .bad (16 + o)
    | none =>
      let named := (l.map TrgEntry.unit).filter (· ≠ 255)
      let pool := (List.range 32).filter (fun k => s.trgFree k && !named.contains k)
      match trgPick pool l with
      | none => .err stNO_RESOURCE
      | some ks =>
        match s.trgRefusal 4 (ks.zip l) with
        | some (r, o) => .fail (trgStatus r) o 0
        | none =>
          if twice named then .err stBAD_STATE
          else
            let s := (ks.zip l).foldl (fun s p => s.trgTake q p.1 p.2) s
            .done s (leBytes 2 n ++ leBytes 2 0 ++ ks.map (fun k => BitVec.ofNat 8 k) ++ List.replicate ((4 - n % 4) % 4) 0) none

/-- TRG_DISARM (R151): the armed units of a mask. -/
def opTrgDisarm (q : Req) (s : State) : OpOut :=
  if q.params.length ≠ 4 then badLen
  else
    let s := (List.range 32).foldl (fun s k =>
      if (q.field 0 4).testBit k && s.trgArmed k then
        (s.trgDrop k).logE q.origin.code q.origin.id kCMD false (trgObj k) q.opcode q.crc
      else s) s
    .done s [] none

/-! ## Firing (R147, R150) -/

/-- The tick that a boundary time begins. -/
def State.tickAt (s : State) (u : Int) : Nat := ((u * s.tps + (unitsSec - 1)) / unitsSec).toNat

/-- A target starts at a boundary; its enable already stands where it is a register bit. -/
def State.trgStart (s : State) (o : Origin) (u : Int) : TrgTarget → State
  | .tdm t => if s.inSafe 6 t then s.enSafe 6 t 0 else s.tdmEnable t (some (s.tickOf u).toNat)
  | .pdm m => if s.inSafe 7 m then s.enSafe 7 m 0 else s.pdmEnable m (some (s.tickOf u).toNat)
  | .amp x => if s.inSafe 8 x then s.enSafe 8 x 0 else s.ampEnable x (some (s.ampSampleFrom x u))
  | .cc n => if s.inSafe 1 (8 + n) then s.enSafe 1 (8 + n) 0 else s.enRise 1 (8 + n) 0
  | .tx e => match s.txCheck e with
    | .inl _ => s
    | .inr steps => s.txAdmit o e steps u
  | .graph n => match s.graphCheck n with
    | .inl _ => s
    | .inr l => s.graphStart n l (s.tickAt u)

/-- A target stops at a boundary; its enable is already clear where it is a register bit. -/
def State.trgStop (s : State) (u : Int) : TrgTarget → State
  | .tx e => s.txRemove e u
  | .graph n => s.graphStop n (s.tickAt u)
  | t => s.enFall t.unit.1 t.unit.2 0

/-- The enable change of a trigger and its entry (R147). -/
def State.trgAct (s : State) (o : Origin) (t : TrgTarget) (start : Bool) (obj : Nat) (u : Int) : State :=
  let a := unitBase t.unit.1 t.unit.2
  let old := s.regData a
  let s := if t.isUnit then s.setF (enFld a) (b2n start) else s
  let s := if start then s.trgStart o u t else s.trgStop u t
  if t.isUnit then s.logReg o a old (if start then old + 1 else old - 1)
  else s.modified.logE o.code o.id kSTATE false obj (b2n !start) (b2n start)

/-- The sticky bit BAD_VALUE of a unit, and its summary event (R84). -/
def State.badValue (s : State) (sub u addr : Nat) : State :=
  let k := unitKey sub u
  (s.setUnit k { s.unit k with badValue := true }).fire Ev.BAD_VALUE (objId sub u 0) addr

/-- An armed unit acts at its target's boundary (R147). -/
def triggerFire (k : Nat) (at_ : Tai) (s : State) : State :=
  let u := at_.units
  if !s.trgArmed k || u < KV.get 0 s.stamps.due k then s
  else
    let action := s.getF (F.TRG_CTL_ACTION k)
    let obj := s.trgObjOf k
    let o := KV.get { code := 0 } s.stamps.armedBy k
    let late := s.getF (F.TRG_STATUS_STATE k) == 2
    let target := if action = 0 then none else trgTarget obj
    let nop := target.any (fun t => s.trgOn t == (action == 1))
    let fail := !nop && target.any (fun t => action == 1 && (!s.trgLegal t || (t.isUnit && s.proofHoldsUnit t.unit.1 t.unit.2)))
    let s := match target with
      | none => s
      | some t =>
        if nop then s
        else if fail then s.badValue t.unit.1 t.unit.2 (unitBase t.unit.1 t.unit.2)
        else s.trgAct o t (action == 1) obj u
    let s := (s.setWords (F.TRG_FIRED k) at_.bits 7).setF (F.TRG_STATUS_STATE k) 0
    let s := (s.setF (F.TRG_STATUS_LAST_LATE k) (b2n late)).setF (F.TRG_STATUS_LAST_NOP k) (b2n (nop || fail))
    let s := s.incSat (F.TRG_COUNT_FIRES k)
    let s := if late then s.incSat (F.TRG_COUNT_LATE k) else s
    let lateness := if late then satNat 16 ((u - (s.trgTime k).units) / 6553600000).toNat else 0
    (s.syncLent).fireWith (Ev.TRG k) (trgObj k)
      (action + 4 * b2n late + 8 * b2n nop + 16 * b2n fail + 65536 * lateness) late

/-- A step of the timebase (R148): an armed time that it passed acts at the first boundary after it. -/
def State.trgStep (s : State) (ticks : Int) : State :=
  if ticks ≤ 0 then s
  else
    let now := s.now.units
    (List.range 32).foldl (fun s k =>
      if s.trgArmed k && KV.get 0 s.stamps.due k < now && now - s.ticksUnits ticks ≤ KV.get 0 s.stamps.due k then
        let s := s.setF (F.TRG_STATUS_STATE k) 2
        { s with stamps := { s.stamps with due := KV.set s.stamps.due k now } }
      else s) s

/-- The disarming that a lower power state makes (R149): every armed unit, or those whose target LISTEN leaves
unpowered. -/
def State.trgPower (s : State) (listen : Bool) : State :=
  (List.range 32).foldl (fun s k =>
    let t := if s.getF (F.TRG_CTL_ACTION k) = 0 then none else trgTarget (s.trgObjOf k)
    if s.trgArmed k && (!listen || t.any (fun t => t.unit.1 == 8 || t.unit.1 == 5)) then
      (s.trgDrop k).logState orgPower (trgObj k) 1 0
    else s) s

end Sys2Proof.Machine
end

