-- ==== Sys2Proof/Machine/Arrive.lean ====
section
/-!
DEFINITION. Machine/Arrive.lean: how a request comes in on each carrier: the first six checks of Table 2.2, the slots
(R52), the mailbox (R44), command frames and fetches on the SPI (R45), control datagrams (R48) and the line forms of the
service UART (R50, R51).
-/

namespace Sys2Proof.Machine

/-- A unit that a carrier discards (R36, R84). -/
def State.discard (s : State) (c : Carrier) : State :=
  (s.incSat (F.CAR_DISCARD c.idx)).fire Ev.CARRIER_DISC (objId 0 1 0) c.idx

/-- Whether the command interface refuses requests, and the index that BUSY then carries (R53, R473). -/
def State.busyIndex (s : State) : Option Nat :=
  match s.car.longOp with
  | some l => some l.idx
  | none => if s.pwr.cmdReady then none else some 0

/-- Step 6 of Table 2.2: the request enters its carrier's slot, or is answered BUSY (R52, R53). -/
def State.enterSlot (s : State) (q : Req) : State :=
  match s.busyIndex with
  | some i => s.replyBusy q i
  | none =>
    if s.car.slots.any (fun p => p.1 == q.carrier.idx) then s.replyBusy q 0
    else { s with car := { s.car with slots := s.car.slots ++ [(q.carrier.idx, q)] } }

/-- The request a packet spells. -/
def Packet.req (p : Packet) (c : Carrier) (o : Origin) : Req :=
  { carrier := c, origin := o, opcode := p.opcode, params := p.params, seq := p.seq, noreply := bitOf p.flags 2,
    session := p.session, crc := p.crc % 65536 }

/-- Steps 1 to 6 of Table 2.2 on a carrier other than the network. -/
def State.arrive (s : State) (c : Carrier) (o : Origin) (h : List Byte) (crc : Nat) : State :=
  if !frameOk h then s.discard c
  else
    let p := parsePacket h crc
    let q := p.req c o
    if !p.lengthOk then s.replyErr q stBAD_LENGTH 8 0
    else if !p.crcOk then s.replyErr q stBAD_CRC 0xFFFF 0
    else match p.headerFault false with
      | some off => s.replyErr q stBAD_PARAM off 0
      | none => s.enterSlot q

/-! ## Mailbox (R44) -/

/-- The bytes of the first words of a buffer. -/
def bufferBytes (m : KV Nat) (n : Nat) : List Byte :=
  ((List.range ((n + 3) / 4)).flatMap (fun i => leBytes 4 (KV.get 0 m i))).take n

/-- The doorbell rings: LEN bytes and the CRC word are judged as a request of the write's origin. -/
def State.ring (s : State) (o : Origin) : State :=
  if !s.on F.MBX_CTL_EN then s.incSat (F.CAR_ERR 0)
  else s.arrive .mailbox o (bufferBytes s.car.mbxReq (s.getF F.MBX_DOORBELL_LEN)) s.car.mbxReqCrc

/-! ## SPI (R45, R47) -/

/-- Kinds of frame that are not command packets (Table 2.7a). -/
def spiOther (b : Byte) : Bool := b == 0x0B || b == 0x0E || b == 0x03 || b == 0x02

/-- A chip-select frame that carries a command packet. -/
def spiCommand (secLow : Bool) (bytes : List Byte) (s : State) : State :=
  match bytes with
  | [] => s
  | b :: _ =>
    if spiOther b then s
    else if b != 0xC5 || bytes.length < 20 || !s.on F.SPI_CTL_EN then s.discard .spi
    else
      let n := bytes.length - 4
      s.arrive .spi (Via.origin (.spi secLow)) (bytes.take n) (leAt bytes n 4)

/-- A reply fetch that clocks out some bytes; the whole reply is released. -/
def spiReplyFetch (clocked : Nat) (s : State) : State :=
  match s.car.spiReply with
  | none => s.emit (.spi [0])
  | some p =>
    let s := s.emit (.spi ((1 :: p).take clocked))
    if clocked ≤ p.length then s else { s with car := { s.car with spiReply := none } }

/-- The oldest report waiting on a route (R88). -/
def oldestReport (m : KV Report) : Option (Nat × Report) :=
  m.foldl (fun (b : Option (Nat × Report)) (q : Nat × Report) =>
    match b with
    | none => some q
    | some x => if q.2.order < x.2.order then some q else b) none

/-- An event fetch that clocks out some bytes; a whole report empties its slot. -/
def spiEventFetch (clocked : Nat) (s : State) : State :=
  match oldestReport s.ev.spi with
  | none => s.emit (.spi [0])
  | some (src, r) =>
    let p := reportPacket r src s.car.spiEvSeq 0
    let s := s.emit (.spi ((1 :: p).take clocked))
    if clocked ≤ p.length then s
    else { s with ev := { s.ev with spi := KV.erase s.ev.spi src }
                  car := { s.car with spiEvSeq := (s.car.spiEvSeq + 1) % 65536 } }

/-! ## Network control (R48) -/

/-- Step 4 of Table 2.2: what an authenticated session's request must satisfy. -/
def Session.admits (x : Session) (p : Packet) (h tag : List Byte) : Bool :=
  let d := (p.seq + 65536 - x.last) % 65536
  x.role != 0 && tag == sessionTag x.key (h ++ leBytes 4 p.crc) && decide (1 ≤ d) && decide (d ≤ 32767)

/-- A whole control datagram from a source address and port. -/
def State.datagram (s : State) (src sport : Nat) (b : List Byte) : State :=
  let n := leAt b 10 2
  let tagLen := if n = 0 then 0 else 16
  if b.length < 20 || !frameOk b then s.discard .net
  else
    let k := b.length - 4 - tagLen
    let h := b.take k
    let p := parsePacket h (leAt b k 4)
    let o : Origin := { code := 5, id := n, priv := (KV.get {} s.car.sessions n).role == 2 }
    let q := { (p.req .net o) with srcAddr := src, srcPort := sport }
    if b.length < 20 + tagLen || !p.lengthOk then s.replyErr q stBAD_LENGTH 8 0
    else if !p.crcOk then s.replyErr q stBAD_CRC 0xFFFF 0
    else
      let x := KV.get {} s.car.sessions n
      let ok := if n = 0 then s.on F.CAR_CTL_NET_OPEN else decide (n < 16) && x.admits p h (b.drop (k + 4))
      if !ok then (s.incSat (F.CAR_DISCARD 2)).fire Ev.AUTH_FAIL (objId 0 1 0) n
      else
        let s := if n = 0 then s
          else
            let x := { x with last := p.seq, any := true, srcAddr := src, srcPort := sport }
            { s with car := { s.car with sessions := KV.put {} s.car.sessions n x } }
        match p.headerFault true with
        | some off => s.replyErr q stBAD_PARAM off 0
        | none => s.enterSlot q

/-- The datagram that fragments form, once they cover it without a gap. -/
def joinParts (total : Nat) : Nat → Nat → List (Nat × List Byte) → Option (List Byte)
  | 0, _, _ => none
  | fuel + 1, at_, l =>
    if at_ ≥ total then some []
    else match l.find? (fun q => decide (q.1 ≤ at_) && decide (at_ < q.1 + q.2.length)) with
      | none => none
      | some (o, b) => (joinParts total fuel (o + b.length) l).map (b.drop (at_ - o) ++ ·)

/-- A control datagram, or a fragment of one, arrives on a port (R48). -/
def netDatagram (port src sport off : Nat) (more : Bool) (bytes : List Byte) (s : State) : State :=
  if !s.on (F.MAC_STATUS_LINK port) || !bitOf (s.getF F.CAR_CTL_NET_PORTS) port then s
  else if !s.on F.CAR_CTL_EN then s.discard .net
  else if off = 0 && !more then s.datagram src sport bytes
  else
    let old := s.car.reasm.find? (fun r => r.srcAddr == src)
    let (s, r) := match old with
      | none => (s, { srcAddr := src : Reasm })
      | some r => if r.parts.any (fun q => q.1 == off) then (s.discard .net, { srcAddr := src : Reasm }) else (s, r)
    let r := { r with parts := r.parts ++ [(off, bytes)], total := if more then r.total else some (off + bytes.length) }
    let rest := s.car.reasm.filter (fun r => r.srcAddr != src)
    if decide (off + bytes.length > 4116) then ({ s with car := { s.car with reasm := rest } }).discard .net
    else match r.total.bind (fun t => joinParts t (r.parts.length + 1) 0 r.parts) with
      | some b => ({ s with car := { s.car with reasm := rest } }).datagram src sport b
      | none => { s with car := { s.car with reasm := r :: rest } }

/-- A datagram not complete within 100 ms is dropped (R48). -/
def reassemblyTimeout (src : Nat) (s : State) : State :=
  if s.car.reasm.any (fun r => r.srcAddr == src) then
    ({ s with car := { s.car with reasm := s.car.reasm.filter (fun r => r.srcAddr != src) } }).discard .net
  else s

/-! ## Service UART (R50, R51) -/

/-- A hexadecimal token's value and digits: a 0x prefix and underscores are allowed. -/
def uartDigits (t : List Byte) : Option (List Nat) :=
  let t := if (asc "0x").isPrefixOf t || (asc "0X").isPrefixOf t then t.drop 2 else t
  let t := t.filter (fun c => c != 0x5F)
  if t.isEmpty then none
  else t.foldr (fun c (a : Option (List Nat)) => match a, hexVal c.toNat with
    | some l, some v => some (v :: l)
    | _, _ => none) (some [])

/-- A hexadecimal token's value. -/
def uartHex (t : List Byte) : Option Nat := (uartDigits t).map (fun l => l.foldl (fun a d => 16 * a + d) 0)

/-- Bytes from digits in pairs. -/
def pairBytes : List Nat → Option (List Byte)
  | [] => some []
  | [_] => none
  | a :: b :: l => (pairBytes l).map (BitVec.ofNat 8 (16 * a + b) :: ·)

/-- A byte string from tokens of an even number of digits each. -/
def uartBytes : List (List Byte) → Option (List Byte)
  | [] => some []
  | t :: l => match (uartDigits t).bind pairBytes, uartBytes l with
    | some a, some b => some (a ++ b)
    | _, _ => none

/-- Reserved parameters from tokens, each of which may be left out and then reads 0. -/
def uartReserved : List Nat → List (List Byte) → Option (List Byte)
  | n :: rs, t :: l => match uartHex t, uartReserved rs l with
    | some v, some b => if v < 256 ^ n then some (leBytes n v ++ b) else none
    | _, _ => none
  | n :: rs, [] => (uartReserved rs []).map (leBytes n 0 ++ ·)
  | [], [] => some []
  | [], _ :: _ => none

/-- Parameters from tokens: one field of so many bytes per token, then reserved fields that may be left out. -/
def uartFields : List Nat → List Nat → List (List Byte) → Option (List Byte)
  | n :: fs, rs, t :: l => match uartHex t, uartFields fs rs l with
    | some v, some b => if v < 256 ^ n then some (leBytes n v ++ b) else none
    | _, _ => none
  | _ :: _, _, [] => none
  | [], rs, l => uartReserved rs l

/-- Words of a full WR, as many as its count says. -/
def uartWords : List (List Byte) → Option (List Byte)
  | [] => some []
  | t :: l => match uartHex t, uartWords l with
    | some v, some b => if v < 2 ^ 32 then some (leBytes 4 v ++ b) else none
    | _, _ => none

/-- The parameters of WR: an address and one word, or the full packet order. -/
def uartWr (ts : List (List Byte)) : Option (List Byte) :=
  match ts with
  | [a, w] => match uartFields [4] [] [a], uartWords [w] with
    | some x, some y => some (x ++ leBytes 2 1 ++ leBytes 2 0 ++ y)
    | _, _ => none
  | a :: c :: r :: ws => match uartFields [4, 2, 2] [] [a, c, r], uartWords ws with
    | some x, some y => if leAt x 4 2 = ws.length && ws.length > 0 then some (x ++ y) else none
    | _, _ => none
  | _ => none

/-- The parameters of RD: it may end after its address. -/
def uartRd (ts : List (List Byte)) : Option (List Byte) :=
  match ts with
  | [a] => (uartFields [4] [] [a]).map (· ++ leBytes 2 1 ++ leBytes 2 0)
  | _ => uartFields [4, 2] [2] ts

/-- The parameters of FW_BLOCK: its fields and then its data as a byte string. -/
def uartFw (ts : List (List Byte)) : Option (List Byte) :=
  match uartFields [1, 1, 2, 4] [] (ts.take 4), uartBytes (ts.drop 4) with
  | some a, some b => some (a ++ b)
  | _, _ => none

/-- Names of subsystems (Table 1.1) and the operations of Table 2.4. -/
def subNames : List String := ["MGT", "TIM", "CLK", "NET", "STR", "BRN", "APT", "PDM", "AMP", "MEM", "PAR", "HLT", "EVT", "HST", "PWR"]
def opNames : List String := ["GET", "SET", "ENABLE", "DISABLE", "STATUS"]

/-- The management mnemonics (Table 2.5) and their parameters. -/
def uartMgt (m : List Byte) (ts : List (List Byte)) : Option (Nat × Option (List Byte)) :=
  if m = asc "STORE" then some (0x0010, uartFields [] [] ts)
  else if m = asc "RECALL" then some (0x0011, uartFields [] [] ts)
  else if m = asc "FACTORY_RECALL" then some (0x0012, uartFields [] [] ts)
  else if m = asc "LOG_READ" then some (0x0020, uartFields [4, 2, 2] [] ts)
  else if m = asc "LOG_FLUSH" then some (0x0021, uartFields [] [] ts)
  else if m = asc "RD" then some (0x0030, uartRd ts)
  else if m = asc "WR" then some (0x0031, uartWr ts)
  else if m = asc "SELFTEST" then some (0x0040, uartFields [1] [3] ts)
  else if m = asc "FW_BLOCK" then some (0x0050, uartFw ts)
  else if m = asc "FW_COMMIT" then some (0x0051, uartFields [4] [] ts)
  else if m = asc "INFO" then some (0x0060, uartFields [] [] ts)
  else none

/-- A place in a list of names. -/
def nameAt (l : List String) (t : List Byte) : Option Nat :=
  (List.range l.length).find? (fun i => asc (l.getD i "") == t)

/-- The parameters of SUBSYS.OP: the object ID and, for SET, the block. -/
def uartObj (op : Nat) (ts : List (List Byte)) : Option (List Byte) :=
  if op = 2 then
    (match ts with
      | o :: l => match uartFields [4] [] [o], uartBytes l with
        | some a, some b => some (a ++ b)
        | _, _ => none
      | [] => none)
  else uartFields [4] [] ts

/-- A line's opcode and parameters; no opcode where its first token is none of the forms, no parameters where they are
faulty. -/
def uartParse (ts : List (List Byte)) : Option (Nat × Option (List Byte)) :=
  match ts with
  | [] => none
  | m :: ts =>
    match uartMgt m ts with
    | some r => some r
    | none =>
      if m = asc "OP" then
        (match ts with
          | o :: l => match uartDigits o with
            | some d => if d.length = 4 then some (d.foldl (fun a x => 16 * a + x) 0, uartBytes l) else some (0, none)
            | none => some (0, none)
          | [] => some (0, none))
      else match splitB 0x2E m with
        | [a, b] => match nameAt subNames a, nameAt opNames b with
          | some sub, some op => some (sub * 256 + op + 1, uartObj (op + 1) ts)
          | _, _ => none
        | _ => none

/-- A complete line (R50): the request it spells enters the UART's slot. -/
def uartLine (line : List Byte) (s : State) : State :=
  let ts := (splitB 0x20 line).filter (fun t => !t.isEmpty)
  let q : Req := { carrier := .uart, origin := { code := 6 } }
  if !s.on F.UART_CTL_EN then (if ts.isEmpty then s else s.discard .uart)
  else if line.length > 8200 then s.replyErr q stBAD_LENGTH 0xFFFF 0
  else if ts.isEmpty then s
  else match uartParse ts with
    | none => s.replyErr q stBAD_OPCODE 0xFFFF 0
    | some (_, none) => s.replyErr q stBAD_PARAM 0xFFFF 0
    | some (op, some ps) =>
      let (n, s) := s.draw
      s.enterSlot { q with opcode := op, params := ps, crc := (Config.lineCrc n).toNat }

/-- A number below 20 in decimal. -/
def decText (n : Nat) : String := if n < 10 then hexDigit n else "1" ++ hexDigit (n - 10)

/-- The line of an event report (R90). -/
def Report.line (r : Report) (src : Nat) : String :=
  let sec := (if r.sec < 2 ^ 32 then "" else hexN 4 (r.sec / 2 ^ 32) ++ "_") ++ hex32 (r.sec % 2 ^ 32)
  spaced ["EV", decText (src / 16) ++ "." ++ decText (src % 16), Ev.name src, hexN 4 r.count, hex32 r.obj, sec,
    hex32 r.ns, hex32 r.detail, hexN 4 (b2n r.notime + 2 * b2n r.late)]

/-- A waiting report goes out between reply lines (R90). -/
def uartEvent (s : State) : State :=
  if s.car.uartBusy then s
  else match oldestReport s.ev.uart with
    | none => s
    | some (src, r) => { (s.emit (.uart (r.line src))) with ev := { s.ev with uart := KV.erase s.ev.uart src } }

/-- The reply line has been sent: the line is free, and a change of BAUD takes effect (R51). -/
def uartReplySent (s : State) : State :=
  { s with car := { s.car with uartBusy := false, baudDue := false
                               uartBaud := if s.car.baudDue then s.getF F.UART_CTL_BAUD else s.car.uartBaud } }

end Sys2Proof.Machine
end

