-- ==== Sys2Proof/Machine/Regs.lean ====
section
/-!
DEFINITION. Machine/Regs.lean: the register interface (chapter 3): what a read returns (R59, R64, R70, R79), the checks of
Table 3.3 in order, shadows and commits (R62, R63), the enable rule and the frozen banks (R65, R68), applying a write and
logging it (R61), what an applied write does (R66), and bus errors (R77).
-/

namespace Sys2Proof.Machine

/-! ## Targets (R56 to R58) -/

/-- What an address names: the common block of a unit (register 0 to 3), a mailbox buffer word, or a register. -/
inductive RegTarget where
  | common (sub u k : Nat)
  | request (i : Nat)
  | answer (i : Nat)
  | reqCrc
  | rspCrc
  | reg (sub u off : Nat) (r : RegDesc)
  deriving DecidableEq, Repr

/-- The target of an aligned, defined address (R57). -/
def regTarget (addr : Nat) : Option RegTarget :=
  if addr % 4 ≠ 0 || addr ≥ 2 ^ 26 then none
  else
    let (sub, u, off) := addrUnit addr
    if !unitExists sub u then none
    else if 0x7FC0 ≤ off && off ≤ 0x7FCC then some (.common sub u ((off - 0x7FC0) / 4))
    else if sub = 0 && u = 2 && off < 0x1000 then some (.request (off / 4))
    else if sub = 0 && u = 2 && off < 0x2000 then some (.answer ((off - 0x1000) / 4))
    else if sub = 0 && u = 2 && off = 0x2010 then some .reqCrc
    else if sub = 0 && u = 2 && off = 0x2014 then some .rspCrc
    else (findRow (unitRows sub u) off).map (fun q => .reg sub u off q.1)

/-- Subsystem and unit of a target. -/
def RegTarget.unit : RegTarget → Nat × Nat
  | .common sub u _ => (sub, u)
  | .reg sub u _ _ => (sub, u)
  | _ => (0, 2)

/-- A register access: its origin, the carrier it counts on, the reader whose buffers it uses, whether it comes from the
interpreter, whether it applies a mirror record, and the stored lowest word of a shadow whose parity fails (R63). -/
structure Access where
  origin : Origin
  carrier : Nat
  reader : Reader
  interp : Bool := false
  mirror : Bool := false
  shadowBad : Option Nat := none
  deriving DecidableEq, Repr

/-- The access of a host's way in. -/
def Via.access (v : Via) : Access := { origin := v.origin, carrier := v.carrier, reader := v.reader }

/-- The access of a command's words (R42). -/
def Req.access (q : Req) : Access := { origin := q.origin, carrier := q.carrier.idx, reader := .interp, interp := true }

/-! ## Reading -/

/-- The 32 bits of a common block register (Table 3.2). -/
def State.commonWord (s : State) (sub u k : Nat) : Nat :=
  let x := s.unit (unitKey sub u)
  if k = 0 then (enOff sub u 0).getD 0 / 4 + unitDomain sub u * 2 ^ 14 + u * 2 ^ 16 + sub * 2 ^ 24
  else if k = 1 then b2n x.badValue + 2 * b2n x.wrIgnored + 4 * b2n x.parity + 8 * b2n x.xdom + 16 * b2n x.denied
  else if k = 2 then b2n x.inSafe + 2 ^ 16 * x.firstOff
  else x.refused + 2 ^ 16 * x.parCnt

/-- Whether the group of eight Burins is power-gated (R295). -/
def State.gatedGroup (s : State) (g : Nat) : Bool := (List.range 8).all (fun i => !s.inService (8 * g + i))

/-- The sticky, raw or other bits of a group's sources as a word. -/
def groupBits (l : List Nat) (g : Nat) : Nat :=
  (List.range 16).foldl (fun a b => a + (if l.contains (16 * g + b) then 2 ^ b else 0)) 0

/-- What the device adds to a register's stored fields when it is read. -/
def State.derived (s : State) (sub u off : Nat) : Nat :=
  if sub = 0 then
    if u = 1 && off = 8 then
      (match s.car.longOp with
        | some l => l.idx + 256 * l.req.carrier.idx + 65536 * satNat 16 l.elapsed
        | none => 0)
    else if u = 2 && off = 0x2008 then
      b2n (s.car.slots.any (fun p => p.1 == 0)) + 2 * b2n (s.car.executing == some .mailbox) + 16 * b2n s.car.longOp.isSome
    else if u = 3 then
      if off = 4 then (if s.bankA.valid then s.bankA.gen else 0)
      else if off = 8 then (if s.bankB.valid then s.bankB.gen else 0)
      else if off = 0x10 then b2n s.bankA.valid + 2 * b2n s.bankB.valid + 4 * b2n s.factory.valid
      else if off = 0x14 then s.bankA.stores
      else if off = 0x18 then s.bankB.stores
      else 0
    else if u = 4 then
      if off = 4 then (s.log.next + 2 ^ 32 - 1) % 2 ^ 32
      else if off = 8 then (match s.log.ring.getLast? with | some e => e.seq | none => 2 ^ 32 - 1)
      else if off = 0xC then (match s.logHeld with | e :: _ => e.seq | [] => 0)
      else if off = 0x10 then
        s.log.ram.length + 2 ^ 13 * b2n s.log.commit.isSome +
        2 ^ 14 * b2n (match s.log.commit with | some c => c.pfw | none => s.log.pfwLast) + 65536 * s.log.lost
      else if off = 0x14 then s.log.bootBad
      else 0
    else 0
  else if sub = 1 && u = 0 && off = 4 then 64 * b2n s.asymActive + 256 * b2n (!s.on F.LOOP_STATUS_PLL_LOCK)
  else if sub = 5 then
    if u < 64 && off = 4 then 8 * b2n (s.gatedGroup (u / 8)) + 256 * s.trayLen u
    else if u = 65 && off = 0x20 then (List.range 8).foldl (fun a g => a + (if s.gatedGroup g then 2 ^ (24 + g) else 0)) 0
    else 0
  else if sub = 11 && u = 1 && 0x20 ≤ off && off < 0x58 && off % 8 = 0 then unsigned 32 (s.planned ((off - 0x20) / 8))
  else if sub = 12 then
    if off = 4 then groupBits s.ev.raw u
    else if off = 8 then groupBits s.ev.sticky u
    else if off = 0x10 then s.summary
    else if 0x80 ≤ off && off < 0xC0 then KV.get 0 s.ev.counts (16 * u + (off - 0x80) / 4)
    else 0
  else if sub = 14 && u = 0 && off = 0x10 then 32 * b2n s.pins.pfwLow
  else 0

/-- The 32 bits of a register as it stands: stored fields, what fails its parity included (where Table 3.4 has the register at
its reset value, that), and what the device adds. -/
def State.regWord (s : State) (sub u off : Nat) : Nat :=
  let addr := unitBase sub u + off
  (match KV.find s.bad addr with
    | some v => if resetsInSafe sub u then s.regData addr else v
    | none => s.regData addr) + s.derived sub u off

/-- A word of a reader's TIM.SNAP buffer (R132). -/
def SnapCap.word (c : SnapCap) (off : Nat) : Nat :=
  let w := fun (v b : Nat) => v / 2 ^ (16 * ((off - b) / 4)) % 65536
  if off = 0x40 then b2n c.aValid + 2 * b2n c.bValid + 4 * b2n c.set + 65536 * c.count
  else if off < 0x60 then w c.tb 0x44
  else if off < 0x7C then w c.a 0x60
  else if off < 0x98 then w c.b 0x7C
  else w c.ao 0x98

/-- The key of a reader's snapshot of a multi-word value. -/
def snapKey (base : Nat) (r : Reader) : Nat := base * 4 + r.idx

/-- A read of a defined register whose clock is present: its word, and the snapshot or capture it takes (R64, R132, R140). -/
def State.readDefined (s : State) (rd : Reader) (sub u off : Nat) (r : RegDesc) : Nat × State :=
  if sub = 1 && u = 0 && 0x40 ≤ off then
    let s := if off = 0x40 then s.captureSnap rd else s
    ((KV.get {} s.time.snaps rd.idx).word off, s)
  else if sub = 1 && 4 ≤ u && u < 8 && 0x70 ≤ off then
    let p := u - 4
    if off = 0x70 then
      let s := s.snapHead rd p
      ((tsWords (KV.find s.stamps.headSnap (headKey rd p))).getD 0 0, s)
    else if off = 0x80 then s.readEnt4 rd p
    else ((tsWords (KV.find s.stamps.headSnap (headKey rd p))).getD ((off - 0x70) / 4) 0, s)
  else if r.mwLen ≤ 1 then (s.regWord sub u off, s)
  else
    let base := off - 4 * r.mwIdx
    let key := snapKey (unitBase sub u + base) rd
    if r.mwIdx = 0 then
      let ws := (List.range r.mwLen).map (fun i => s.regWord sub u (base + 4 * i))
      (ws.getD 0 0, { s with readSnaps := KV.set s.readSnaps key ws })
    else ((KV.get [] s.readSnaps key).getD r.mwIdx 0, s)

/-- A unit's XDOM_ABSENT is raised by an access at an address (R79). -/
def State.raiseAbsent (s : State) (sub u addr : Nat) : State :=
  let k := unitKey sub u
  (s.setUnit k { s.unit k with xdom := true }).fire Ev.XDOM_ABSENT (objId sub u 0) addr

/-- A read of an aligned, defined address: its word, and whether it completed on the fallback (Table 3.3 steps 3, 4). -/
def State.readTarget (s : State) (a : Access) (addr : Nat) : RegTarget → (Nat × Bool) × State
  | .common sub u k => ((s.commonWord sub u k, false), s)
  | .request i => ((KV.get 0 s.car.mbxReq i, false), s)
  | .answer i => ((KV.get 0 s.car.mbxRep i, false), s)
  | .reqCrc => ((s.car.mbxReqCrc, false), s)
  | .rspCrc => ((s.car.mbxRspCrc, false), s)
  | .reg sub u off r =>
    if r.priv && !a.origin.priv then ((0, false), s)
    else if s.absent sub u then ((0, true), s.raiseAbsent sub u addr)
    else
      let (w, s) := s.readDefined a.reader sub u off r
      ((w, false), s)

/-- Words read from consecutive addresses, all of them defined. -/
def State.readWords (s : State) (a : Access) : List Nat → (List Nat × Bool) × State
  | [] => (([], false), s)
  | addr :: l =>
    match regTarget addr with
    | none => (([], false), s)
    | some t =>
      let ((w, ab), s) := s.readTarget a addr t
      let ((ws, ab'), s) := State.readWords s a l
      ((w :: ws, ab || ab'), s)

/-! ## Bus errors (R77) -/

/-- The record of a bus error. -/
def State.busRecord (s : State) (o : Origin) (cause addr : Nat) : State :=
  if s.on F.MGT_BUS_ERR_INFO_VALID then s.incSat F.MGT_BUS_ERR_INFO_COUNT
  else
    ((((s.setF F.MGT_BUS_ERR_ADDR_ADDR addr).setF F.MGT_BUS_ERR_INFO_ORIGIN o.code).setF F.MGT_BUS_ERR_INFO_CAUSE cause).setF
      F.MGT_BUS_ERR_INFO_COUNT 1).setF F.MGT_BUS_ERR_INFO_VALID 1

/-- A bus error: BUS_ERR fires and the record is updated. -/
def State.busError (s : State) (o : Origin) (cause addr : Nat) : State :=
  (s.fire Ev.BUS_ERR noUnit addr).busRecord o cause addr

/-! ## Judging a write (Table 3.3) -/

/-- Why a write is not applied. -/
inductive WrFail where
  | bus (cause : Nat)
  | busy
  | denied
  | absent
  | ignored
  | partner
  | illegal
  | shadow (stored : Nat)
  deriving DecidableEq, Repr

/-- What an accepted write is to do: nothing (mask 0), a buffer word, a common block clear, a word for a shadow, or
registers of one value with their merged data and mask. -/
inductive WrOp where
  | none
  | request (i w : Nat)
  | reqCrc (w : Nat)
  | sticky (sub u bits : Nat)
  | shadow (base idx w : Nat)
  | words (sub u base : Nat) (l : List (Nat × Nat × Nat))
  deriving DecidableEq, Repr

/-- Written bits where the mask is 1, else the current ones (R60). -/
def merge16 (cur mask data : Nat) : Nat := Nat.lor (Nat.land cur (Nat.xor mask 0xFFFF)) (Nat.land data mask)

/-- The low 16 bits that fields of some access codes cover. -/
def accMask (r : RegDesc) (p : Acc → Bool) : Nat :=
  r.fields.foldl (fun a f => if p f.acc then a + (2 ^ f.width - 1) * 2 ^ f.lo else a) 0 % 65536

/-- Access codes that a write may act on. -/
def Acc.writable : Acc → Bool
  | .ro => false
  | _ => true

/-- Access codes of configuration (R71). -/
def Acc.config : Acc → Bool
  | .rw => true
  | .l => true
  | _ => false

/-- Access codes whose fields hold no data of their own. -/
def Acc.action : Acc → Bool
  | .wo => true
  | .sc => true
  | _ => false

/-- Registers with a live SWAP request (R67), with the bit's place. -/
def swapBit (sub u off : Nat) : Option Nat :=
  if sub = 5 && u = 64 then (if off = 0x100 then some F.GRT_CTL_SWAP.lo else none)
  else if off ≠ 0 then none
  else if sub = 4 && u = 0 then some F.RXT_CTL_SWAP.lo
  else if sub = 4 && u = 1 then some F.TXT_CTL_SWAP.lo
  else if sub = 6 then some (F.TDM_CTL_SWAP 0).lo
  else none

/-- The trigger target that an armed or arming unit names, if a mirrored object (Table 18.4). -/
def State.trgMirrored (s : State) (k : Nat) : Bool :=
  s.getF (F.TRG_CTL_ACTION k) != 0 &&
  (match trgTarget (s.trgObjOf k) with
    | some (.tx _) => true
    | some (.graph _) => true
    | some (.tdm t) => s.on (F.TDM_FMT_BUSSED t)
    | _ => false)

/-- Whether a register belongs to a mirrored object (Table 18.4). -/
def State.mirrored (s : State) (sub u off : Nat) : Bool :=
  (sub == 4 && (u == 0 || u == 1 || (u == 4 && decide (0x100 ≤ off)))) || (sub == 5 && u == 64 && off == 0x100) ||
  (sub == 6 && s.on (F.TDM_FMT_BUSSED u)) || (sub == 1 && decide (32 ≤ u) && off == 0x2C && s.trgMirrored (u - 32))

/-- Step 5 of Table 3.3: the enable rule, frozen banks, frozen triggers, an EN set too early in a safe state, and what the
chapters refuse in the same way. -/
def State.writeIgnored (s : State) (sub u off : Nat) (r : RegDesc) (mask merged : Nat) : Bool :=
  let rw := Nat.land mask (accMask r (· == .rw))
  let rw := if isEnReg sub u off then rw - rw % 2 else rw
  let rule :=
    if sub = 6 && 0x10 ≤ off && off < 0x30 && s.on (F.TDM_CTL_EN u) then
      rw != 0 && ((off - 0x10) / 8 % 2 == s.getF (F.TDM_CTL_ACT_BANK u) || s.on (F.TDM_CTL_SWAP u))
    else s.governed sub u off && rw != 0
  rule ||
  (sub == 1 && decide (32 ≤ u) && decide (off < 0x2C) && s.trgArmed (u - 32) && Nat.land mask (accMask r (· == .l)) != 0) ||
  (isEnReg sub u off && bitOf mask 0 && bitOf merged 0 && !s.governed sub u off && s.inSafe sub u && (s.unit (unitKey sub u)).parity) ||
  (sub == 2 && u == 9 && r.mwLen == 2 && s.loopMode == lmLOCKED) ||
  s.proofBlocks (unitBase sub u + off) mask merged ||
  (sub == 11 && u == 1 && off == 4 && s.approveHeld (Nat.land merged mask))

/-- Whether the bits of a merged word are legal as such: no reserved 1, no RO bit changed, something writable (R57, R77). -/
def bitsLegal (r : RegDesc) (cur merged : Nat) : Bool :=
  accMask r Acc.writable != 0 &&
  Nat.land merged (Nat.xor (accMask r (fun _ => true)) 0xFFFF) == 0 &&
  Nat.land (Nat.xor merged cur) (accMask r (· == .ro)) == 0

/-- The traces of a refusal of checks, if they refuse. -/
def State.refusalTrace {α : Type} (s : State) : OpOut ⊕ α → Option State
  | .inl (.failWith t _ _ _) => some t
  | .inl _ => some s
  | .inr _ => none

/-- The checks of a SWAP request (R250, R272, R322), and the traces its refusal leaves. -/
def State.swapRefused (s : State) (sub u : Nat) : Option State :=
  if sub = 4 && u = 0 then (if s.on F.RXT_CTL_EN then s.refusalTrace s.rxSwapCheck else none)
  else if sub = 4 && u = 1 then (if s.on F.TXT_CTL_EN then s.refusalTrace s.txSwapCheck else none)
  else if sub = 5 then s.refusalTrace s.graphSwapCheck
  else none

/-- The time of a mirrored request (R413): now plus 2 ms while the partner follows. -/
def State.mirrorUnits (s : State) : Int := s.now.units + micros 2000

/-- Whether this unit's requests on mirrored objects are shared with a following partner (R413). -/
def State.sharesRequests (s : State) : Bool := s.pairSt == psACTIVE && (s.pair.pState == psSYNC || s.pair.pState == psREADY)

/-- The state with the request's time as the mirrored write has it. -/
def State.atRequest (s : State) (on : Bool) : State :=
  if on && s.sharesRequests then { s with pair := { s.pair with reqAt := some s.mirrorUnits } } else s

/-- What the chapters judge of a register's merged value at step 6 beyond its bits. -/
def State.actionLegal (s : State) (sub u off mask merged : Nat) : Bool :=
  let set := Nat.land mask merged
  if sub = 1 && 32 ≤ u && off = 0x2C then
    if bitOf set 0 && bitOf set 1 then false
    else if bitOf set 0 then ((s.atRequest (s.trgMirrored (u - 32))).trgArmJudge (u - 32)).isRight
    else true
  else if sub = 11 && u = 1 && off = 4 then s.approveOk set
  else match swapBit sub u off with
    | some b => !(bitOf set b && !bitOf (s.regWord sub u off) b && (s.swapRefused sub u).isSome)
    | none => true

/-- Step 6 of Table 3.3 on a register of one word. -/
def State.writeLegal (s : State) (sub u off : Nat) (r : RegDesc) (mask cur merged : Nat) : Bool :=
  bitsLegal r cur merged && s.legalWord sub u off merged && s.actionLegal sub u off mask merged &&
  (if isEnReg sub u off && bitOf mask 0 && bitOf merged 0 != bitOf cur 0 then
     (if bitOf merged 0 then true else s.disLegal sub u off)
   else true)

/-- A stored field value put in place of the word it stands in. -/
def State.storeWord (s : State) (r : RegDesc) (addr w : Nat) : State :=
  r.fields.foldl (fun s f => if f.acc.config then s.setF ⟨addr, f.lo, f.width⟩ (bitsOf w (f.lo + f.width - 1) f.lo) else s) s

/-- The word of a value before a commit: from the shadow where it has been written, else as it stands. -/
def State.shadowWord (s : State) (sub u base i : Nat) : Nat :=
  match KV.find s.shadows (unitBase sub u + base) with
  | some h => (h.words.find? (fun q => q.1 == i)).elim (s.regWord sub u (base + 4 * i) % 65536) (·.2)
  | none => s.regWord sub u (base + 4 * i) % 65536

/-- Whether a shadow carries another tag than an origin's (R63). -/
def Shadow.foreign (h : Shadow) (o : Origin) : Bool := h.code != o.code || h.id != o.id

/-- Steps 5 and 6 on a word of a multi-word value (R62, R63). -/
def State.judgeMulti (s : State) (a : Access) (sub u off : Nat) (r : RegDesc) (mask data : Nat) : WrFail ⊕ WrOp :=
  let base := off - 4 * r.mwIdx
  let key := unitBase sub u + base
  let held := KV.find s.shadows key
  if r.mwIdx + 1 < r.mwLen then
    let cur := match held with
      | some h => if h.foreign a.origin then s.regWord sub u off % 65536 else s.shadowWord sub u base r.mwIdx
      | none => s.regWord sub u off % 65536
    let w := merge16 cur mask data
    if s.writeIgnored sub u off r mask w then .inl .ignored else .inr (.shadow key r.mwIdx w)
  else
    let top := merge16 (s.regWord sub u off % 65536) mask data
    if s.writeIgnored sub u off r mask top then .inl .ignored
    else match a.shadowBad with
      | some v => .inl (.shadow v)
      | none =>
        if held.any (fun h => h.foreign a.origin) then .inl .illegal
        else
          let ws := (List.range r.mwLen).map (fun i => if i = r.mwIdx then top else s.shadowWord sub u base i)
          let bitsOk := (List.range r.mwLen).all (fun i =>
            match findRow (unitRows sub u) (base + 4 * i) with
            | some (ri, _) => bitsLegal ri (s.regWord sub u (base + 4 * i) % 65536) (ws.getD i 0)
            | none => false)
          let v := ws.foldr (fun w acc => w + 65536 * acc) 0
          if bitsOk && s.legalMulti sub u base v then
            .inr (.words sub u base ((List.range r.mwLen).map (fun i => (base + 4 * i, ws.getD i 0, if i = r.mwIdx then mask else 0xFFFF))))
          else .inl .illegal

/-- The checks of Table 3.3 on one write, in order. -/
def State.judgeWrite (s : State) (a : Access) (addr v : Nat) : WrFail ⊕ WrOp :=
  let mask := v / 65536 % 65536
  let data := v % 65536
  let busy := !a.interp && !a.mirror && s.busyIndex.isSome
  match regTarget addr with
  | none => .inl (.bus (if addr % 4 ≠ 0 then 2 else 1))
  | some (.request i) => .inr (.request i v)
  | some .reqCrc => .inr (.reqCrc v)
  | some (.answer _) => if busy then .inl .busy else .inl .illegal
  | some .rspCrc => if busy then .inl .busy else .inl .illegal
  | some (.common sub u k) =>
    if mask = 0 then .inr .none
    else if busy then .inl .busy
    else if k ≠ 1 || Nat.land (data / 32 * 32) mask ≠ 0 then .inl .illegal
    else .inr (.sticky sub u (Nat.land data mask))
  | some (.reg sub u off r) =>
    if mask = 0 then .inr .none
    else if busy && !(sub == 0 && u == 2 && (off == 0x2004 || off == 0x2008)) then .inl .busy
    else if r.priv && !a.origin.priv then .inl .denied
    else if s.absent sub u then .inl .absent
    else if !a.mirror && s.isStandby && s.mirrored sub u off then (if a.interp then .inl .partner else .inl .ignored)
    else if r.mwLen > 1 && accMask r Acc.config ≠ 0 then s.judgeMulti a sub u off r mask data
    else
      let cur := s.regWord sub u off % 65536
      let merged := merge16 cur mask data
      if s.writeIgnored sub u off r mask merged then .inl .ignored
      else
        let t := s.storeWord r addr merged
        if isEnReg sub u off && bitOf mask 0 && bitOf merged 0 && !bitOf cur 0 && !t.enLegal sub u off then .inl .illegal
        else if s.writeLegal sub u off r mask cur merged then .inr (.words sub u off [(off, merged, mask)])
        else .inl .illegal

/-- A word put into a value's shadow; another origin's content is replaced (R63). -/
def State.putShadow (s : State) (o : Origin) (key i w : Nat) : State :=
  let ws := match KV.find s.shadows key with
    | some h => if h.foreign o then [] else h.words.filter (fun q => q.1 != i)
    | none => []
  { s with shadows := KV.set s.shadows key { code := o.code, id := o.id, words := (i, w) :: ws } }

/-- The state that later words of one burst or command are judged on: what the word stores, and no more (R76). -/
def State.stage (s : State) (o : Origin) : WrOp → State
  | .shadow key i w => s.putShadow o key i w
  | .words sub u base l =>
    let s := { s with shadows := KV.erase s.shadows (unitBase sub u + base) }
    l.foldl (fun s q => match findRow (unitRows sub u) q.1 with
      | some (r, _) => s.storeWord r (unitBase sub u + q.1) q.2.1
      | none => s) s
  | _ => s

/-- Several writes judged in order on what the earlier ones would store: what they are to do, or the first failure with its
place. -/
def State.judgeAll (s : State) (a : Access) : Nat → List (Nat × Nat) → (Nat × Nat × Nat × WrFail) ⊕ List WrOp
  | _, [] => .inr []
  | n, (addr, v) :: l =>
    match s.judgeWrite a addr v with
    | .inl f => .inl (n, addr, v, f)
    | .inr op =>
      match State.judgeAll (s.stage a.origin op) a (n + 1) l with
      | .inl f => .inl f
      | .inr ops => .inr (op :: ops)

/-! ## Applying a write -/

/-- A write of SWAP = 1 (R68): a swap at once while EN = 0, else the request, as the checks on the state before the write
admitted it; a request again changes nothing. -/
def State.requestSwap (s before : State) (o : Origin) (sub u : Nat) : State :=
  if sub = 4 && u = 0 then
    if !s.on F.RXT_CTL_EN then s.rxSwapNow o false
    else if s.str.rxSwap.isSome then s
    else (match before.rxSwapCheck with | .inr x => s.rxSwapSet o x | .inl _ => s)
  else if sub = 4 then
    if !s.on F.TXT_CTL_EN then s.txSwapNow o false
    else if s.str.txSwap.isSome then s
    else (match before.txSwapCheck with | .inr x => s.txSwapSet o x | .inl _ => s)
  else if sub = 5 then
    if s.dsp.swap.isSome then s else (match before.graphSwapCheck with | .inr x => s.graphSwapSet o x | .inl _ => s)
  else s.tdmSwapReq u o

/-- The sticky bits that a write of UNIT.STICKY clears (R58); clearing PARITY runs the check of R74 on a unit whose EN the host
cannot write. -/
def State.clearSticky (s : State) (o : Origin) (sub u bits : Nat) : State :=
  let k := unitKey sub u
  let x := s.unit k
  let addr := unitBase sub u + 0x7FC4
  let old := s.commonWord sub u 1
  let s := s.setUnit k { x with
    badValue := x.badValue && !bitOf bits 0, wrIgnored := x.wrIgnored && !bitOf bits 1, parity := x.parity && !bitOf bits 2
    xdom := x.xdom && !bitOf bits 3, denied := x.denied && !bitOf bits 4 }
  let new := s.commonWord sub u 1
  let s := if old = new then s else s.logE o.code o.id kREG true addr old new
  if bitOf bits 2 && s.inSafe sub u && !enWritable sub u then
    (match s.safeCheck sub u with
      | (true, s) => s.leaveSafe sub u
      | (false, s) => s)
  else s

/-- W1C bits cleared by a write, by register (R61). -/
def State.clearW1c (s : State) (sub u off : Nat) (r : RegDesc) (bits : Nat) : State :=
  if sub = 12 && off = 8 then
    { s with ev := { s.ev with sticky := s.ev.sticky.filter (fun src => !(src / 16 == u && bitOf bits (src % 16))) } }
  else
    let addr := unitBase sub u + off
    let s := r.fields.foldl (fun s f =>
      if f.acc == .w1c && f.lo < 16 then
        let g : Fld := ⟨addr, f.lo, f.width⟩
        s.setF g (Nat.land (s.getF g) (Nat.xor (bitsOf bits (f.lo + f.width - 1) f.lo) (2 ^ f.width - 1)))
      else s) s
    if bitOf bits 15 && ((sub = 4 && (off = 0x10 || off = 0x2C)) || (sub = 5 && u = 64 && off = 0x118)) then
      r.fields.foldl (fun s f => s.setF ⟨addr, f.lo, f.width⟩ 0) s
    else s

/-- The actions of WO and SC bits and of registers whose write is an action. -/
def State.writeAction (s before : State) (a : Access) (sub u off set : Nat) : State :=
  if sub = 0 && u = 0 then
    let s := if bitOf set 0 then (s.setF F.MGT_PARITY_ADDR_ADDR 0).setF F.MGT_PARITY_ADDR_VALID 0 else s
    if bitOf set 1 then
      ((((s.setF F.MGT_BUS_ERR_ADDR_ADDR 0).setF F.MGT_BUS_ERR_INFO_ORIGIN 0).setF F.MGT_BUS_ERR_INFO_CAUSE 0).setF
        F.MGT_BUS_ERR_INFO_COUNT 0).setF F.MGT_BUS_ERR_INFO_VALID 0
    else s
  else if sub = 0 && u = 2 && off = 0x2004 then s.ring a.origin
  else if sub = 1 && u = 0 && off = 0 then (if bitOf set 11 then s.asymClear else s)
  else if sub = 1 && 32 ≤ u && off = 0x2C then
    if bitOf set 0 then s.trgArmReg before (u - 32) a.origin
    else if bitOf set 1 then s.trgDrop (u - 32)
    else s
  else if sub = 11 && u = 1 then
    if off = 0 then (if bitOf set 1 then s.calRequest else s)
    else if off = 4 then s.approve set a.origin
    else s
  else s

/-- Registers whose configuration bits are an action and hold nothing: CAL.APPROVE reads 0. -/
def holdsNothing (sub u off : Nat) : Bool := sub == 11 && u == 1 && off == 4

/-- What a write of a register of one word does once it has passed the checks (step 7): the fields are stored, the write is
logged, and its effects follow. -/
def State.applyWord (s : State) (a : Access) (sub u off : Nat) (r : RegDesc) (merged mask : Nat) : State :=
  let before := s
  let addr := unitBase sub u + off
  let cur := s.regWord sub u off % 65536
  let swap := swapBit sub u off
  let pendingSwap := swap.any (fun b => bitOf cur b)
  let asked := swap.any (fun b => bitOf (Nat.land mask merged) b) && !pendingSwap
  let act := Nat.land (Nat.land merged mask) (accMask r Acc.action)
  let keep := match swap with
    | some b => if bitOf merged b then merged - 2 ^ b else merged
    | none => merged
  let store := if pendingSwap then keep + (match swap with | some b => 2 ^ b | none => 0) else keep
  let s := if holdsNothing sub u off then s else s.storeWord r addr store
  let s := { s with bad := KV.erase s.bad addr }
  let s := s.clearW1c sub u off r (Nat.land (Nat.land merged mask) (accMask r (· == .w1c)))
  let now := s.regWord sub u off % 65536
  let new := if asked then now + (match swap with | some b => 2 ^ b | none => 0) else now
  let cfg := Nat.land (Nat.xor cur new) (accMask r Acc.config) != 0
  let s := if cur = new && act = 0 then s
    else if cfg then s.logReg a.origin addr cur new
    else s.logE a.origin.code a.origin.id kREG true addr cur new
  let s := if isEnReg sub u off then s.afterWrite sub u off (cur - cur % 2) (now - now % 2) else s.afterWrite sub u off cur now
  let s := if isEnReg sub u off && bitOf cur 0 != bitOf now 0 then
      (if !bitOf now 0 then s.enFall sub u off
       else if s.inSafe sub u then s.enSafe sub u off else s.enRise sub u off)
    else s
  let s := if asked then s.requestSwap before a.origin sub u else s
  s.writeAction before a sub u off (Nat.land merged mask)

/-- A committed multi-word value (R62): its words apply at once, and each one that changes is logged. -/
def State.applyCommit (s : State) (a : Access) (sub u base : Nat) (l : List (Nat × Nat × Nat)) : State :=
  let b := unitBase sub u
  let s := { s with shadows := KV.erase s.shadows (b + base) }
  let olds := l.map (fun q => (q.1, s.regWord sub u q.1 % 65536, q.2.1))
  let s := l.foldl (fun s q => match findRow (unitRows sub u) q.1 with
    | some (r, _) => { s.storeWord r (b + q.1) q.2.1 with bad := KV.erase s.bad (b + q.1) }
    | none => s) s
  let s := olds.foldl (fun s q => if q.2.1 = q.2.2 then s else s.logReg a.origin (b + q.1) q.2.1 q.2.2) s
  s.afterCommit sub u base (l.foldr (fun q acc => q.2.1 + 65536 * acc) 0)

/-- The registers of a write, applied. -/
def State.applyWords (s : State) (a : Access) (sub u base : Nat) (l : List (Nat × Nat × Nat)) : State :=
  match l with
  | [(off, merged, mask)] =>
    (match findRow (unitRows sub u) off with
      | some (r, _) => s.applyWord a sub u off r merged mask
      | none => s)
  | _ => s.applyCommit a sub u base l

/-- Whether a write changes a mirrored object. -/
def State.opMirrored (s : State) : WrOp → Bool
  | .words sub u base _ => s.mirrored sub u base
  | _ => false

/-- The first tick boundary at least 2 ms after now (R413). -/
def State.mirrorTick (s : State) : Nat := ((s.mirrorUnits * s.tps + (unitsSec - 1)) / unitsSec).toNat

/-- Step 7 of Table 3.3. A write of a mirrored object on an active unit is also sent to the partner, and waits for its tick
while the partner follows; a multi-word value goes word by word, the commit last (R413). -/
def State.applyOp (s : State) (a : Access) (addr v : Nat) (op : WrOp) : State :=
  match op with
  | .none => s
  | .request i w => { s with car := { s.car with mbxReq := KV.put 0 s.car.mbxReq i w } }
  | .reqCrc w => { s with car := { s.car with mbxReqCrc := w } }
  | .sticky sub u bits => s.clearSticky a.origin sub u bits
  | .shadow key i w => s.putShadow a.origin key i w
  | .words sub u base l =>
    if !a.mirror && s.pairSt == psACTIVE && s.mirrored sub u base then
      let t := s.mirrorTick
      let b := unitBase sub u
      let writes := if l.length = 1 then [(addr, v)] else l.map (fun q => (b + q.1, 0xFFFF0000 + q.2.1))
      let s := writes.foldl (fun s (x : Nat × Nat) =>
        let seq := s.pair.mirSeq + 1
        ((s.setPairD { s.pair with mirSeq := seq }).incSat F.LINK_MIRRORS).emit (.pair 2 [seq, x.1, x.2, b2n a.origin.priv, t])) s
      if s.sharesRequests then
        let s := { s with shadows := KV.erase s.shadows (b + base) }
        s.setPairD { s.pair with regQ := s.pair.regQ ++ writes.map (fun x => { tick := t, origin := a.origin, addr := x.1, data := x.2 }) }
      else s.applyWords a sub u base l
    else s.applyWords a sub u base l

/-- Several accepted writes applied in order. -/
def State.applyAll (s : State) (a : Access) : List ((Nat × Nat) × WrOp) → State
  | [] => s
  | ((addr, v), op) :: l => State.applyAll (s.applyOp a addr v op) a l

/-! ## Refusals -/

/-- What a refusal leaves (Table 3.3): sticky bits, events, counters, the DENIED entry, and an emptied shadow after a refused
commit (R63). -/
def State.refuse (s : State) (a : Access) (addr v : Nat) (f : WrFail) : State :=
  let t := regTarget addr
  let (sub, u) := (t.map RegTarget.unit).getD (0, 0)
  let k := unitKey sub u
  let obj := objId sub u 0
  let count := fun (s : State) => s.setUnit k { s.unit k with refused := satNat 16 ((s.unit k).refused + 1) }
  let empty := fun (s : State) => match t with
    | some (.reg _ _ off r) =>
      if r.mwLen > 1 && r.mwIdx + 1 = r.mwLen then { s with shadows := KV.erase s.shadows (unitBase sub u + off - 4 * r.mwIdx) } else s
    | _ => s
  match f with
  | .bus cause => s.busError a.origin cause addr
  | .busy =>
    (s.incSat (F.CAR_BUSY_REJ a.carrier)).fire Ev.BUSY_REJECT (objId 0 1 0) (a.carrier + 256 * s.busyIndex.getD 0)
  | .denied =>
    let s := s.logDenied a.origin true addr 0 (v % 65536)
    (count (s.setUnit k { s.unit k with denied := true })).fire Ev.DENIED obj addr
  | .absent => s.raiseAbsent sub u addr
  | .ignored => (empty (count (s.setUnit k { s.unit k with wrIgnored := true }))).fire Ev.WR_IGNORED obj addr
  | .partner => s
  | .illegal =>
    let s := match t with
      | some (.reg sub u off _) =>
        if sub = 1 && 32 ≤ u && off = 0x2C && v / 65536 % 2 = 1 && v % 4 = 1 then
          (match (s.atRequest (s.trgMirrored (u - 32))).trgArmJudge (u - 32) with
            | .inl res => s.setF (F.TRG_STATUS_RESULT (u - 32)) res
            | .inr _ => s)
        else if (swapBit sub u off).any (fun b => bitOf (Nat.land (v / 65536) v) b) then (s.swapRefused sub u).getD s
        else s
      | _ => s
    (empty (count (s.setUnit k { s.unit k with badValue := true }))).fire Ev.BAD_VALUE obj addr
  | .shadow stored =>
    let s := (empty (count (s.setUnit k { s.unit k with badValue := true }))).fire Ev.BAD_VALUE obj addr
    (match t with
      | some (.reg _ _ off r) => s.parityReport sub u (unitBase sub u + off - 4 * r.mwIdx) stored
      | _ => s)

/-! ## One access from a host -/

/-- One register write (R59): applied, or refused with its traces; answers why not. -/
def State.writeReg (s : State) (a : Access) (addr v : Nat) : Option WrFail × State :=
  match s.judgeWrite a addr v with
  | .inl f => (some f, s.refuse a addr v f)
  | .inr op => (none, s.applyOp a addr v op)

/-- The status byte of an SPI register write (R46). -/
def spiStatus : Option WrFail → Nat
  | none => 0xA0
  | some (.bus _) => 0xE1
  | some .busy => 0xE2
  | some .denied => 0xE3
  | some .absent => 0xE5
  | some _ => 0xE4

/-- How a write's outcome reaches the host (R46, R66, R77): a status byte on the SPI, an error message for a bus error on
PCIe. -/
def State.writeAnswer (s : State) (via : Via) (f : Option WrFail) : State :=
  match via with
  | .spi _ => s.emit (.spi [BitVec.ofNat 8 (spiStatus f)])
  | _ => match f with
    | some (.bus _) => s.emit (.pcieUr true)
    | _ => s

/-- A register write by a host, and its answer. -/
def hostWrite (via : Via) (addr v : Nat) (s : State) : State :=
  let (f, s) := s.writeReg via.access addr v
  s.writeAnswer via f

/-- A register read by a host: the data, or Unsupported Request, or a status on the SPI (R46, R77, R79). -/
def hostRead (via : Via) (addr : Nat) (s : State) : State :=
  match regTarget addr with
  | none =>
    let s := s.busError via.origin (if addr % 4 ≠ 0 then 2 else 1) addr
    (match via with
      | .spi _ => s.emit (.spi ([0xE1] ++ beBytes 4 0))
      | _ => s.emit (.pcieUr false))
  | some t =>
    let ((w, ab), s) := s.readTarget via.access addr t
    match via with
    | .spi _ => s.emit (.spi ((if ab then [0xE5] else [0xA0]) ++ beBytes 4 w))
    | _ => s.emit (.readData [w])

/-! ## Bursts (R76) -/

/-- A write burst: every DWORD or none. -/
def writeBurst (bar4 : Bool) (addr : Nat) (data : List Nat) (s : State) : State :=
  let via := if bar4 then Via.bar4 else .bar0
  let a := via.access
  if data.length > 16 then (s.busError a.origin 4 addr).emit (.pcieUr true)
  else
    let l := (List.range data.length).map (fun i => (addr + 4 * i, data.getD i 0))
    match s.judgeAll a 0 l with
    | .inr ops => s.applyAll a (l.zip ops)
    | .inl (_, at_, v, f) =>
      let s := match f with
        | .bus _ => s.busError a.origin 3 at_
        | .denied => (s.refuse a at_ v f).fire Ev.BUS_ERR noUnit at_
        | _ => (s.refuse a at_ v f).busError a.origin 3 at_
      s.emit (.pcieUr true)

/-- A read burst: refused whole if it covers a reserved DWORD. -/
def readBurst (bar4 : Bool) (addr count : Nat) (s : State) : State :=
  let via := if bar4 then Via.bar4 else .bar0
  let a := via.access
  let l := (List.range count).map (fun i => addr + 4 * i)
  if count > 16 then (s.busError a.origin 4 addr).emit (.pcieUr false)
  else match l.find? (fun x => (regTarget x).isNone) with
    | some x => (s.busError a.origin 3 x).emit (.pcieUr false)
    | none =>
      let ((ws, _), s) := s.readWords a l
      s.emit (.readData ws)

/-! ## Register words in commands (R42) -/

/-- REG_READ: consecutive words through the interpreter. -/
def opRegRead (q : Req) (s : State) : OpOut :=
  let addr := q.field 0 4
  let n := q.field 4 2
  if q.params.length ≠ 8 then badLen
  else if n < 1 || n > 64 then .bad 20
  else if q.field 6 2 ≠ 0 then .bad (q.firstSet 6 2)
  else
    let l := (List.range n).map (fun i => addr + 4 * i)
    match l.find? (fun x => (regTarget x).isNone) with
    | some x => .failWith (s.busError q.origin (if addr % 4 ≠ 0 then 2 else 1) x) stBAD_ADDR 16 0
    | none =>
      let ((ws, ab), s) := s.readWords q.access l
      if ab then .failWith s stTIMEOUT 0xFFFF 0 else .done s (ws.flatMap (leBytes 4)) none

/-- The status of a refused word of REG_WRITE (R42, R66, R412). -/
def WrFail.status : WrFail → Nat
  | .bus _ => stBAD_ADDR
  | .busy => stBUSY
  | .denied => stDENIED
  | .absent => stTIMEOUT
  | .ignored => stBAD_STATE
  | .partner => stPARTNER
  | _ => stBAD_PARAM

/-- REG_WRITE: consecutive words, all or none. -/
def opRegWrite (q : Req) (s : State) : OpOut :=
  let addr := q.field 0 4
  let n := q.field 4 2
  if q.params.length < 8 then badLen
  else if n < 1 || n > 64 then .bad 20
  else if q.field 6 2 ≠ 0 then .bad (q.firstSet 6 2)
  else if q.params.length ≠ 8 + 4 * n then badLen
  else
    let l := (List.range n).map (fun i => (addr + 4 * i, q.field (8 + 4 * i) 4))
    match l.find? (fun x => (regTarget x.1).isNone) with
    | some x => .failWith (s.busError q.origin (if addr % 4 ≠ 0 then 2 else 1) x.1) stBAD_ADDR 16 0
    | none =>
      match s.judgeAll q.access 0 l with
      | .inl (i, at_, v, f) =>
        let off := match f with
          | .illegal => 24 + 4 * i
          | .shadow _ => 24 + 4 * i
          | _ => 0xFFFF
        .failWith (s.refuse q.access at_ v f) f.status off 0
      | .inr ops => .done (s.applyAll q.access (l.zip ops)) [] none

end Sys2Proof.Machine
end

