-- ==== Sys2Proof/Machine/Store.lean ====
section
/-!
DEFINITION. Machine/Store.lean: persistence and management (R41 to R43, R49, R93 to R106, R300): the configuration as banks
hold it, STORE, RECALL and FACTORY_RECALL, admission at a load (R523), commits of the Watermark Log and its reading, the
power-fail sequence, self-test, firmware patches, sessions.
-/

namespace Sys2Proof.Machine

def nvsObj : Nat := objId 0 3 0
def logObj : Nat := objId 0 4 0

/-! ## The configuration (R101) -/

/-- The key's address and place. -/
def keyAddr (k : Nat) : Nat := k / 32 * 4
def keyLo (k : Nat) : Nat := k % 32

/-- The active-bank bits, which banks hold beside the writable fields. -/
def actBankKeys : List Nat :=
  [F.RXT_CTL_ACT_BANK.key, F.TXT_CTL_ACT_BANK.key, F.GRT_CTL_ACT_BANK.key] ++ (List.range 16).map (fun t => (F.TDM_CTL_ACT_BANK t).key)

/-- Whether a stored field belongs to the configuration: RW, RWP, L and LP fields and ACT_BANK; the time of day and
registers that hold nothing do not. -/
def isConfigKey (k : Nat) : Bool :=
  let addr := keyAddr k
  let (sub, u, off) := addrUnit addr
  actBankKeys.contains k ||
  (!(sub == 1 && u == 0 && decide (0x10 ≤ off) && decide (off < 0x2C)) && !holdsNothing sub u off &&
   (match findReg addr with
    | some r => r.fields.any (fun f => f.lo == keyLo k && Acc.config f.acc)
    | none => false))

/-- Whether a stored field is a pending SWAP request, which a load does not repeat. -/
def isSwapKey (k : Nat) : Bool :=
  let (sub, u, off) := addrUnit (keyAddr k)
  (swapBit sub u off).any (fun b => b == keyLo k)

/-- What a bank keeps of a session: role, event flag and key. -/
def Session.kept (x : Session) : Session := { role := x.role, evFlag := x.evFlag, key := x.key }

/-- The running configuration. -/
def State.snapshot (s : State) : Saved :=
  { regs := s.regs.filter (fun q => isConfigKey q.1)
    sessions := (s.car.sessions.map (fun q => (q.1, q.2.kept))).filter (fun q => q.2 != ({} : Session))
    l3 := s.str.l3
    rx := s.str.rxBlk
    rxEn := sorted s.str.rxFlag
    tx := s.str.txBlk
    txEn := sorted s.str.txFlag
    graphs := s.dsp.img
    graphEn := sorted s.dsp.flag }

/-- The part of a configuration that belongs to a unit. -/
def Saved.ofUnit (c : Saved) (sub u : Nat) : Saved :=
  { regs := c.regs.filter (fun q => (addrUnit (keyAddr q.1)).1 == sub && (addrUnit (keyAddr q.1)).2.1 == u)
    sessions := if sub = 0 && u = 1 then c.sessions else []
    l3 := c.l3.filter (fun q => sub == 3 && q.1 == u)
    rx := if sub = 4 && u = 0 then c.rx else []
    rxEn := if sub = 4 && u = 0 then c.rxEn else []
    tx := if sub = 4 && u = 1 then c.tx else []
    txEn := if sub = 4 && u = 1 then c.txEn else []
    graphs := if sub = 5 && u = 64 then c.graphs else []
    graphEn := if sub = 5 && u = 64 then c.graphEn else [] }

/-- The value a configuration gives a field. -/
def Saved.value (c : Saved) (k : Nat) : Nat := KV.get (resetAt (keyAddr k) (keyLo k)) c.regs k

/-! ## Loading (R104, R523) -/

/-- Offsets of the registers of a unit whose bit 0 may be a writable EN. -/
def enOffs (sub u : Nat) : List Nat :=
  ([0] ++ (if sub = 0 && u = 2 then [0x2000] else []) ++
   (if sub = 4 && u = 4 then (List.range 64).map (fun k => 0x100 + 0x20 * k) else []) ++
   (if sub = 13 && u = 0 then (List.range 32).map (fun r => 0x200 + 0x40 * r) else [])).filter (isEnReg sub u)

/-- A unit is disabled: every EN of it falls, and a table's entries or graphs stop. -/
def State.unitOff (s : State) (sub u : Nat) : State :=
  let s := (enOffs sub u).foldl (fun s off =>
    let f := enFld (unitBase sub u + off)
    if s.on f then (s.setF f 0).enFall sub u off else s) s
  if sub = 4 && u = 0 then s.rxEnabled.foldl (fun s e => s.rxRemove e) s
  else if sub = 4 && u = 1 then s.txEnabled.foldl (fun s e => s.txRemove e (s.afterTicks 2)) s
  else if sub = 5 && u = 64 then
    { ((List.range 256).filter (s.gOn s.gBank)).foldl (fun s n => s.graphStop n (s.ticksAhead 0)) s with
      dsp := { (((List.range 256).filter (s.gOn s.gBank)).foldl (fun s n => s.graphStop n (s.ticksAhead 0)) s).dsp with
        swap := none, params := [] } }
  else s

/-- The fields of one register take the values of a configuration, EN at 0 and no SWAP; what follows a change of a live
field follows. -/
def State.loadReg (s : State) (c : Saved) (sub u : Nat) (keys : List Nat) (addr : Nat) : State :=
  let off := (addrUnit addr).2.2
  let old := s.regData addr % 65536
  let s := (keys.filter (fun k => keyAddr k == addr)).foldl (fun s k =>
    let v := if isSwapKey k || (isEnReg sub u off && keyLo k == 0) then 0 else c.value k
    { s with regs := KV.put (resetAt addr (keyLo k)) s.regs k v }) s
  match findReg addr with
  | some r => if r.mwLen ≤ 1 then s.afterWrite sub u off old (s.regData addr % 65536) else s
  | none => s

/-- The lowest word's address of the multi-word value a register belongs to. -/
def mwBase (addr : Nat) : Option (Nat × Nat) :=
  match findReg addr with
  | some r => if r.mwLen ≤ 1 then none else some (addr - 4 * r.mwIdx, r.mwLen)
  | none => none

/-- A unit's registers take a configuration. -/
def State.loadRegs (s : State) (c : Saved) (sub u : Nat) : State :=
  let here := fun (k : Nat) => (addrUnit (keyAddr k)).1 == sub && (addrUnit (keyAddr k)).2.1 == u
  let keys := dedupN (((s.regs.map (·.1)).filter (fun k => here k && isConfigKey k)) ++ ((c.regs.map (·.1)).filter here))
  let addrs := dedupN (keys.map keyAddr)
  let s := addrs.foldl (fun s a => s.loadReg c sub u keys a) s
  let bases := dedupN (addrs.filterMap (fun a => (mwBase a).map (·.1)))
  bases.foldl (fun s b =>
    let n := match mwBase b with | some (_, n) => n | none => 1
    s.afterCommit sub u ((addrUnit b).2.2) ((List.range n).foldr (fun i a => s.regData (b + 4 * i) % 65536 + 65536 * a) 0)) s

/-- A unit's objects take a configuration: port blocks, stream tables, graphs; enable flags of an active bank wait for their
admission. Sessions change after the reply (R105). -/
def State.loadObjects (s : State) (c : Saved) (sub u : Nat) : State :=
  if sub = 3 && u < 4 then
    s.setL3 u (KV.get (List.replicate 64 0) c.l3 u)
  else if sub = 4 && u = 0 then
    ({ s with str := { s.str with rxBlk := c.rx, rxFlag := c.rxEn.filter (fun k => k / 512 != s.rxBank), rxBad := [] } }).refreshRxt
  else if sub = 4 && u = 1 then
    ({ s with str := { s.str with txBlk := c.tx, txFlag := c.txEn.filter (fun k => k / 512 != s.txBank), txBad := [] } }).refreshTxt
  else if sub = 5 && u = 64 then
    ({ s with dsp := { s.dsp with img := c.graphs, flag := c.graphEn.filter (fun k => k / 256 != s.gBank), bad := [] } }).refreshGrt
  else s

/-- A unit's enables take their stored values. -/
def State.unitBack (s : State) (c : Saved) (sub u : Nat) : State :=
  (enOffs sub u).foldl (fun s off =>
    let f := enFld (unitBase sub u + off)
    if c.value f.key = 1 then
      let s := s.setF f 1
      if s.inSafe sub u then s.enSafe sub u off else s.enRise sub u off
    else s) s

/-- A unit's safe state is left as R74 has it: every register is written anew and PARITY is cleared. -/
def State.unitHeal (s : State) (sub u : Nat) : State :=
  if !s.inSafe sub u then s
  else
    let k := unitKey sub u
    let s := { s with bad := s.bad.filter (fun q => !((addrUnit q.1).1 == sub && (addrUnit q.1).2.1 == u)) }
    let s := s.setUnit k { s.unit k with parity := false }
    if enWritable sub u then s
    else match s.safeCheck sub u with
      | (true, s) => s.leaveSafe sub u
      | (false, s) => s

/-- Every unit, in subsystem-code then unit order. -/
def allUnits : List (Nat × Nat) := (List.range 15).flatMap (fun sub => (subUnits sub).map (fun u => (sub, u)))

/-- One unit is loaded: untouched where its configuration matches and it is not in its safe state; otherwise disabled,
rewritten and enabled again. Answers whether it was rewritten. -/
def State.loadUnit (s : State) (c : Saved) (sub u : Nat) : Bool × State :=
  if (s.snapshot.ofUnit sub u) = (c.ofUnit sub u) && !s.inSafe sub u then (false, s)
  else
    let s := ((s.unitOff sub u).loadRegs c sub u).loadObjects c sub u
    (true, (s.unitHeal sub u).unitBack c sub u)

/-- An entry or graph fails its admission at a load: its flag stays clear, and that is logged (R523). -/
def State.loadRefused (s : State) (o : Origin) (obj : Nat) : State := s.logE o.code o.id kSTATE false obj 1 0

/-- Receive entries of a loaded table are admitted. -/
def State.admitRx (s : State) (o : Origin) (c : Saved) : State :=
  ((List.range 512).filter (fun e => c.rxEn.contains (s.rxBank * 512 + e))).foldl (fun s e =>
    if s.rxOn s.rxBank e then s
    else if bChannels (s.rxB e) = 0 then s.loadRefused o (rxObj e)
    else match s.rxCheck e with
      | .inl _ => s.loadRefused o (rxObj e)
      | .inr a => s.rxAdmit e a) s

/-- Transmit entries of a loaded table are admitted; they start two ticks later. -/
def State.admitTx (s : State) (o : Origin) (c : Saved) : State :=
  ((List.range 512).filter (fun e => c.txEn.contains (s.txBank * 512 + e))).foldl (fun s e =>
    if s.txOn s.txBank e then s
    else if bChannels (s.txB e) = 0 then s.loadRefused o (txObj e)
    else match s.txCheck e with
      | .inl _ => s.loadRefused o (txObj e)
      | .inr steps => s.txAdmit o e steps (s.afterTicks 2)) s

/-- Graphs of a loaded table are admitted; they are released from the second tick on. -/
def State.admitGraphs (s : State) (o : Origin) (c : Saved) : State :=
  ((List.range 256).filter (fun n => c.graphEn.contains (s.gBank * 256 + n))).foldl (fun s n =>
    if s.gOn s.gBank n then s
    else if !configured (s.gImg n) then s.loadRefused o (objId 5 64 n)
    else match s.graphCheck n with
      | .inl _ => s.loadRefused o (objId 5 64 n)
      | .inr l => s.graphStart n l (s.ticksAhead 2)) s

/-- The session table takes a configuration: a session whose role or key changes starts its replay window anew (R49). -/
def State.loadSessions (s : State) (c : Saved) : State :=
  let l := (List.range 16).foldl (fun (m : KV Session) n =>
    let old := KV.get {} m n
    let new := KV.get {} c.sessions n
    if old.role = new.role && old.key = new.key then KV.put {} m n { old with evFlag := new.evFlag }
    else KV.put {} m n new) s.car.sessions
  { s with car := { s.car with sessions := l } }

/-- A whole configuration is loaded unit by unit; `logged` makes the STATE entry of each unit rewritten (R104). The tables
that were rewritten are admitted afterwards (R523). Sessions are left. -/
def State.loadAll (s : State) (o : Origin) (c : Saved) (logged : Bool) : State :=
  let (done, s) : List (Nat × Nat) × State := allUnits.foldl (fun (a : List (Nat × Nat) × State) q =>
    let (hit, s) := a.2.loadUnit c q.1 q.2
    if hit then
      (q :: a.1, if logged then s.logE o.code o.id kSTATE false (objId q.1 q.2 0) 0 1 else s)
    else (a.1, s)) ([], s)
  let s := if done.contains (4, 0) then s.admitRx o c else s
  let s := if done.contains (4, 1) then s.admitTx o c else s
  if done.contains (5, 64) then s.admitGraphs o c else s

/-! ## Sources (R103) -/

/-- A bank by number: 0 A, 1 B. -/
def State.bank (s : State) (b : Nat) : Bank := if b = 0 then s.bankA else s.bankB
def State.setBank (s : State) (b : Nat) (x : Bank) : State := if b = 0 then { s with bankA := x } else { s with bankB := x }

/-- The valid banks, newest first; A before B where their generations are equal. -/
def State.banksByAge (s : State) : List Nat :=
  match s.bankA.valid, s.bankB.valid with
  | true, true => if s.bankA.gen < s.bankB.gen then [1, 0] else [0, 1]
  | true, false => [0]
  | false, true => [1]
  | false, false => []

/-- A bank reads back bad: NVM_FAIL with its offset, and it is no longer valid. -/
def State.bankBad (s : State) (b : Nat) : State :=
  (s.setBank b { s.bank b with valid := false }).fire Ev.NVM_FAIL nvsObj (b * 0x80000)

/-- The first of some banks that reads back good, by a mask of those that do not. -/
def State.pickBank (s : State) (bad : Nat) : List Nat → Option Nat × State
  | [] => (none, s)
  | b :: l => if bitOf bad b then State.pickBank (s.bankBad b) bad l else (some b, s)

/-- The source of the configuration (R103): its number (0, 1 a bank, 2 factory, 3 reset values), generation and contents. A
factory configuration that fails its check is no longer valid. -/
def State.chooseSource (s : State) (bad : Nat) : (Nat × Nat × Saved) × State :=
  match s.pickBank bad s.banksByAge with
  | (some b, s) => ((b, (s.bank b).gen, (s.bank b).cfg), s)
  | (none, s) =>
    let s := { s with factory := { s.factory with valid := s.factory.valid && !bitOf bad 2 } }
    if s.factory.valid then
      ((2, 0, s.factory.cfg), ({ s with pwr := { s.pwr with cfgDefault := true } }).fire Ev.CFG_DEFAULT nvsObj 1)
    else ((3, 0, {}), ({ s with pwr := { s.pwr with cfgDefault := true } }).fire Ev.CFG_DEFAULT nvsObj 2)

/-- NVS shows where the running configuration comes from (R107). -/
def State.loaded (s : State) (src gen : Nat) : State :=
  ((s.setF F.NVS_BANKS_SOURCE src).setF F.NVS_RUN_GEN_GEN gen).setF F.NVS_BANKS_MODIFIED 0

/-! ## STORE, RECALL, FACTORY_RECALL (R102 to R106) -/

/-- Whether the non-volatile store refuses STORE and the recalls: PFW_N low, or the store in its safe state (R97, Table 3.4). -/
def State.storeBarred (s : State) : Bool := s.pins.pfwLow || s.inSafe 0 3

/-- STORE: its checks. -/
def opStore (q : Req) (s : State) : OpOut :=
  if q.params.length ≠ 0 then badLen
  else if s.on F.NVS_CTL_STORE_LOCK || s.anySafe || s.storeBarred then .err stBAD_STATE
  else .long s

/-- RECALL: its checks. -/
def opRecall (q : Req) (s : State) : OpOut :=
  if q.params.length ≠ 0 then badLen
  else if s.storeBarred || s.banksByAge.isEmpty then .err stBAD_STATE
  else .long s

/-- FACTORY_RECALL: its checks. -/
def opFactoryRecall (q : Req) (s : State) : OpOut :=
  if q.params.length ≠ 0 then badLen
  else if s.storeBarred || !s.factory.valid then .err stBAD_STATE
  else .long s

/-- The bank STORE targets (R102, step 4). -/
def State.targetBank (s : State) : Nat :=
  match s.bankA.valid, s.bankB.valid with
  | false, _ => 0
  | true, false => 1
  | true, true => if s.bankA.gen < s.bankB.gen then 0 else 1

/-- The generation of the newest valid bank; 0 with none. -/
def State.newestGen (s : State) : Nat :=
  max (if s.bankA.valid then s.bankA.gen else 0) (if s.bankB.valid then s.bankB.gen else 0)

/-- Steps 3 to 5 of STORE: the running configuration is snapshotted, the target chosen and its commit record cleared; its store
count rises, and NVM_WEAR fires at 90,000 (R106). -/
def State.storeWrite (s : State) : State :=
  match s.car.longOp with
  | none => s
  | some l =>
    if l.idx ≠ 1 || l.snap.isSome then s
    else
      let b := s.targetBank
      let l := { l with snap := some s.snapshot, bank := b, gen := (s.newestGen + 1) % 2 ^ 32 }
      let x := s.bank b
      let s := ({ s with car := { s.car with longOp := some l } }).setBank b { x with valid := false, stores := satNat 32 (x.stores + 1) }
      let s := if x.stores + 1 = 90000 then s.fire Ev.NVM_WEAR nvsObj b else s
      s.storeWear

/-- STORE ends: its bank is valid with the new generation, or was not verified. -/
def storeEnd (ok : Bool) (l : LongOp) (s : State) : OpOut :=
  match l.snap with
  | none => .err stBAD_STATE
  | some c =>
    if !ok then .failWith (s.fire Ev.NVM_FAIL nvsObj (l.bank * 0x80000)) stNVM_FAIL 0xFFFF 0
    else
      let s := s.setBank l.bank { s.bank l.bank with valid := true, gen := l.gen, cfg := c }
      let s := (s.loaded l.bank l.gen).setF F.NVS_BANKS_MODIFIED (b2n (s.snapshot != c))
      .done s (leBytes 4 l.gen) (some (noObject 0x0010))

/-- RECALL ends: the configuration is loaded; the sessions follow the reply. -/
def recallEnd (bad : Nat) (l : LongOp) (s : State) : State :=
  let ((src, gen, c), s) := s.chooseSource bad
  let t := ((s.loadAll l.req.origin c true).loaded src gen)
  (t.endLong l (fun t => .done t (leBytes 4 gen) (some (noObject 0x0011)))).loadSessions c

/-- FACTORY_RECALL ends. A factory configuration that fails its check changes nothing. -/
def factoryEnd (bad : Nat) (l : LongOp) (s : State) : State :=
  if bitOf bad 2 then
    ({ s with factory := { s.factory with valid := false } }).endLong l (fun _ => .err stBAD_STATE)
  else
    let c := s.factory.cfg
    let t := ((s.loadAll l.req.origin c true).loaded 2 0)
    (t.endLong l (fun t => .done t [] (some (noObject 0x0012)))).loadSessions c

/-! ## Log commits (R94 to R97) -/

/-- LOG_FLUSH: its check. -/
def opLogFlush (q : Req) (s : State) : OpOut :=
  if q.params.length ≠ 0 then badLen else if s.pins.pfwLow then .err stBAD_STATE else .long s

/-- What STORE and LOG_FLUSH wait for (R94): nothing where nothing is uncommitted; else a commit of their own, or the successor
of the one that runs. The long operation's `arg` says how far they are: 0 the running commit, 1 their own, 2 done. -/
def State.commitFor (s : State) (idx : Nat) (q : Req) : State :=
  let newest := s.log.ram.getLast?.map (·.seq)
  let arg := if s.log.ram.isEmpty then 2 else if s.log.commit.isSome then 0 else 1
  let s := s.beginLong { idx := idx, req := q, arg := arg, flushTo := newest }
  if arg = 2 then s.storeWrite else s.startCommit

/-- The always-on 10 s timer of a commit (R94). -/
def logCommitTimer (s : State) : State := if s.log.ram.isEmpty then s else s.startCommit

/-- The first `n` entries of RAM are committed: they stand in the ring, whose oldest give way (R96). -/
def State.commitFirst (s : State) (n : Nat) : State :=
  let ring := s.log.ring ++ s.log.ram.take n
  { s with log := { s.log with ring := ring.drop (ring.length - 65536), ram := s.log.ram.drop n } }

/-- A page has been written and read back (R94, R95): verified, it is committed; failed once, it is written again at the next
slot; failed again, NVM_FAIL fires and the commit leaves its entries. -/
def logPageVerified (ok : Bool) (s : State) : State :=
  match s.log.commit with
  | none => s
  | some c =>
    if c.pfw || c.left || c.covers = 0 then s
    else if ok then
      let s := s.commitFirst c.page
      let covers := c.covers - c.page
      { s with log := { s.log with commit := some { c with covers := covers, page := pageRun (min 64 covers) s.log.ram, rewrite := false } } }
    else if !c.rewrite then { s with log := { s.log with commit := some { c with rewrite := true } } }
    else
      let s := s.fire Ev.NVM_FAIL logObj 0x140000
      { s with log := { s.log with commit := some { c with left := true } } }

/-- A commit that has written all its pages, or had to leave them, ends: the commands that waited for it go on, and a merged
successor starts (R94). -/
def logCommitEnd (s : State) : State :=
  match s.log.commit with
  | none => s
  | some c =>
    if c.pfw || !(c.left || c.covers = 0) then s
    else
      let s := { s with log := { s.log with commit := none, pfwLast := false } }
      let s := match s.car.longOp with
        | some l =>
          if l.idx ≠ 1 && l.idx ≠ 4 then s
          else if l.arg = 0 then { s with car := { s.car with longOp := some { l with arg := 1 } } }
          else if l.arg = 1 then
            ({ s with car := { s.car with longOp := some { l with arg := 2, failed := l.idx == 4 && c.left } } }).storeWrite
          else s
        | none => s
      if c.again then s.startCommit
      else if c.left && s.on F.PWR_STATUS_ENTERING && s.getF F.PWR_STATUS_TARGET < 2 then { s with pwr := { s.pwr with lose := c.covers } }
      else s

/-! ## Power-fail warning (R97, R475) -/

/-- A long operation that PFW_N falling abandons: STORE, and FW_BLOCK with FINAL. -/
def State.abandonLong (s : State) : State :=
  match s.car.longOp with
  | some l => if l.idx = 1 || l.idx = 8 then s.endLong l (fun _ => .fail stNVM_FAIL 0xFFFF 1) else s
  | none => s

/-- The power-fail sequence of Table 4.7. -/
def State.powerFail (s : State) (removed : Bool) : State :=
  let st := s.getF F.PWR_STATUS_STATE
  let s := { s with pins := { s.pins with pfwLow := true } }
  let s := s.raise Ev.PFW (objId 14 0 0) (b2n removed)
  let s := s.logState orgPower (objId 14 0 0) st st
  let s := s.abandonLong.proofsEnd
  let s := { s with log := { s.log with
    commit := some { pfw := true, covers := s.log.ram.length, page := 0 }, pfwLast := true } }
  if s.on F.PWR_CTL_PFW_AMP_OFF then s.ampListen else s

/-- PFW_N has been low for 1 us; it is ignored in DOZE and SHELF. -/
def pfwNFall (s : State) : State :=
  if s.pins.pfwLow || s.getF F.PWR_STATUS_STATE < 2 then s else s.powerFail false

/-- The power-fail commit ends: the entries it covered stand in the ring. -/
def powerFailCommitEnd (s : State) : State :=
  match s.log.commit with
  | none => s
  | some c =>
    if !c.pfw then s
    else
      let n := c.covers
      let s := s.commitFirst n
      let s := { s with log := { s.log with commit := none, pfwLast := true } }
      let s := s.fire Ev.LOG_PFW_DONE logObj n
      match s.car.longOp with
      | some l => if l.idx = 4 then s.endLong l (fun s => .done s [] none) else s
      | none => s

/-- PFW_N rises after so many milliseconds. -/
def pfwNRise (ms : Nat) (s : State) : State :=
  if !s.pins.pfwLow || s.pwr.boot = 4 then s
  else
    let s := ({ s with pins := { s.pins with pfwLow := false } }).setRaw Ev.PFW false
    let s := s.fire Ev.PFW_END (objId 14 0 0) (satNat 32 ms)
    if s.getF F.PWR_STATUS_STATE = 3 then s.ampResume else s

/-! ## Reading the log (R93, R98) -/

/-- LOG_READ. -/
def opLogRead (q : Req) (s : State) : OpOut :=
  let start := q.field 0 4
  let count := q.field 4 2
  let flags := q.field 6 2
  if q.params.length ≠ 8 then badLen
  else if flags > 3 || flags = 3 then .bad 22
  else if flags ≠ 0 && start ≠ 0 then .bad 16
  else if count < 1 || count > 127 then .bad 20
  else
    let held := s.logHeld
    match held with
    | [] => .done s (leBytes 4 0 ++ leBytes 2 0 ++ leBytes 2 2) none
    | e :: _ =>
      let oldest := e.seq
      let newest := (s.log.next + 2 ^ 32 - 1) % 2 ^ 32
      let d : Int := signed 32 ((start + 2 ^ 32 - oldest) % 2 ^ 32)
      let span : Nat := (newest + 2 ^ 32 - oldest) % 2 ^ 32
      if flags = 0 && decide (d > (span : Int)) then .fail stNOT_FOUND 16 0
      else
        let from_ := if flags = 1 || d < 0 then held else
          held.filter (fun x => decide (d ≤ Int.ofNat ((x.seq + 2 ^ 32 - oldest) % 2 ^ 32)))
        let l := if flags = 2 then held.drop (held.length - count) else from_.take count
        let trunc := flags = 0 && decide (d < 0)
        let end_ := l.getLast?.any (fun x => x.seq == newest)
        .done s (leBytes 4 ((l.head?.map (·.seq)).getD 0) ++ leBytes 2 l.length ++ leBytes 2 (b2n trunc + 2 * b2n end_) ++
          l.flatMap LogEntry.bytes) none

/-! ## Self-test (R300), firmware (R43), information -/

/-- SELFTEST: its parameters. -/
def opSelftest (q : Req) (s : State) : OpOut :=
  if q.params.length ≠ 4 then badLen
  else if q.field 0 1 > 0x0E && q.field 0 1 ≠ 0xFF then .bad 16
  else if q.field 1 3 ≠ 0 then .bad (q.firstSet 1 3)
  else .long s

/-- A self-test ends: the Burins are judged where its scope has them, and the fail mask is answered. `values` gives the part
that failed on each Burin listed in `list`. -/
def selftestEnd (r : LongEnd) (l : LongOp) (s : State) : OpOut :=
  let scope := l.arg
  let inScope := fun (n : Nat) => scope == n || scope == 0xFF
  let s := if inScope 5 then
      (List.range 64).foldl (fun s b => s.burinTest b (if r.list.contains b then max 1 (r.values.getD b 1 % 4) else 0)) s
    else s
  let mask := (List.range 15).foldl (fun a n =>
    if inScope n && (if n = 5 then (List.range 64).any r.list.contains else bitOf r.mask n) then a + 2 ^ n else a) 0
  .done s (leBytes 4 mask) none

/-- FW_BLOCK: data into the staging buffer; FINAL begins the write of the block. -/
def opFwBlock (q : Req) (s : State) : OpOut :=
  let n := q.params.length - 8
  if q.params.length < 12 || q.params.length % 4 ≠ 0 || n > 4072 then badLen
  else if q.field 0 1 > 3 then .bad 16
  else if q.field 1 1 > 1 then .bad 17
  else if q.field 2 2 ≠ 0 then .bad (q.firstSet 2 2)
  else if q.field 4 4 % 4 ≠ 0 || q.field 4 4 + n > 65536 then .bad 20
  else if q.field 1 1 = 1 && s.pins.pfwLow then .err stBAD_STATE
  else
    let base := if s.car.fwFresh then [] else s.car.fwStage
    let stage := (List.range (n / 4)).foldl (fun (m : KV Nat) i =>
      KV.put 0xFFFFFFFF m (q.field 4 4 / 4 + i) (q.field (8 + 4 * i) 4)) base
    let t := { s with car := { s.car with fwStage := stage, fwFresh := false } }
    if q.field 1 1 = 1 then .long t else .done t [] (some (noObject q.opcode))

/-- The write of a patch block ends; the next FW_BLOCK fills the buffer anew. -/
def fwBlockEnd (ok : Bool) (l : LongOp) (s : State) : OpOut :=
  let b := l.arg
  let s := { s with car := { s.car with fwFresh := true } }
  if ok then
    .done ({ s with car := { s.car with fwBlocks := KV.set s.car.fwBlocks b s.car.fwStage
                                        fwWritten := withN s.car.fwWritten b } }) [] (some (noObject 0x0050))
  else
    .failWith (({ s with car := { s.car with fwWritten := without s.car.fwWritten b } }).fire Ev.NVM_FAIL nvsObj
      (0x3C0000 + b * 0x10000)) stNVM_FAIL 0xFFFF 0

/-- The bytes of the four patch blocks. -/
def State.patchBytes (s : State) : List Byte :=
  (List.range 4).flatMap (fun b =>
    (List.range 16384).flatMap (fun i => leBytes 4 (KV.get 0xFFFFFFFF (KV.get [] s.car.fwBlocks b) i)))

/-- FW_COMMIT: the patch is used from the next cold start. -/
def opFwCommit (q : Req) (s : State) : OpOut :=
  if q.params.length ≠ 4 then badLen
  else if !(List.range 4).all s.car.fwWritten.contains then .err stBAD_STATE
  else if crc32c s.patchBytes ≠ q.field 0 4 then .err stBAD_STATE
  else .done ({ s with car := { s.car with fwWritten := [], fwCommitted := some (q.field 0 4) } }) [] (some (noObject q.opcode))

/-- INFO. -/
def opInfo (q : Req) (s : State) : OpOut :=
  if q.params.length ≠ 0 then badLen
  else .done s (leBytes 4 (s.getF F.MGT_CHIP_ID) ++ leBytes 4 (Config.firmwareVersion s.pwr.fwCrc).toNat ++
    leBytes 4 (s.getF F.NVS_RUN_GEN_GEN) ++ leBytes 1 (s.getF F.PWR_STATUS_STATE) ++ leBytes 1 s.pairSt ++ leBytes 2 0) none

/-! ## Sessions (R49) -/

/-- The session a request names: an element of the carriers' unit. -/
def sessionOf (q : Req) : Option Nat :=
  let (sub, u, e) := objParts q.obj
  if sub = 0 && u = 1 then some e else none

/-- SET of a session. -/
def opSessionSet (q : Req) (s : State) : OpOut :=
  if q.params.length ≠ 40 then badLen
  else match sessionOf q with
    | none => .bad 16
    | some n =>
      let role := q.field 4 1
      let key := (q.params.drop 8).take 32
      if role > 2 then .bad 20
      else if q.field 5 1 > 1 then .bad 21
      else if q.field 6 2 ≠ 0 then .bad (q.firstSet 6 2)
      else if role ≠ 0 && key.all (· == 0) then .bad 24
      else if n = 0 || n > 15 then .fail stNOT_FOUND 16 0
      else
        let x := KV.get {} s.car.sessions n
        let key := if key.all (· == 0) then [] else key
        let new : Session := if x.role = role && x.key = key then { x with evFlag := q.field 5 1 == 1 }
          else { role := role, evFlag := q.field 5 1 == 1, key := key, evSeq := x.evSeq }
        if new = x then .done s [] none
        else .done ({ s with car := { s.car with sessions := KV.put {} s.car.sessions n new } }) [] (some q.obj)

/-- GET of a session: its key reads zero. -/
def opSessionGet (q : Req) (s : State) : OpOut :=
  if q.params.length ≠ 4 then badLen
  else match sessionOf q with
    | none => .bad 16
    | some n =>
      if n = 0 || n > 15 then .fail stNOT_FOUND 16 0
      else
        let x := KV.get {} s.car.sessions n
        .done s (leBytes 1 x.role ++ leBytes 1 (b2n x.evFlag) ++ leBytes 2 0 ++ List.replicate 32 0) none

/-! ## The end of a long operation (R53) -/

/-- A long operation ends as its index has it. One whose unit entered its safe state answers BAD_STATE with detail 2 (R37). -/
def longOpEnd (r : LongEnd) (s : State) : State :=
  match s.car.longOp with
  | none => s
  | some l =>
    if l.idx = 9 then s
    else if l.idx = 1 && l.snap.isNone then s
    else if l.idx = 4 && l.arg ≠ 2 then s
    else if l.safeHit && l.idx ≠ 7 then
      let s := if l.idx = 5 then { s with mem := { s.mem with offline := false } } else s
      s.endLong l (fun _ => .fail stBAD_STATE 0xFFFF 2)
    else if l.idx = 1 then s.endLong l (storeEnd r.ok l)
    else if l.idx = 2 then recallEnd r.mask l s
    else if l.idx = 3 then factoryEnd r.mask l s
    else if l.idx = 4 then s.endLong l (fun s => if l.failed then .fail stNVM_FAIL 0xFFFF 0 else .done s [] none)
    else if l.idx = 5 then
      let was := worstMargin ((List.range 4).map (fun k => s.getF (memMargin k)))
      s.endLong l (fun s =>
        let (b, s) := s.memRetrainEnd r.ok r.values
        .done (s.trainMonitor was) b (some (objId 9 0 0)))
    else if l.idx = 6 then s.endLong l (selftestEnd r l)
    else if l.idx = 7 then diagOfflineEnd [] s
    else s.endLong l (fwBlockEnd r.ok l)

/-! ## Parity (R71, R72) -/

/-- One mismatch that a check finds: reported once, and its unit, entry or graph made safe. -/
def State.parityHit (s : State) : ParityHit → State
  | .rxEntry bank n => s.rxParity (bank % 2) (n % 512)
  | .txEntry bank n => s.txParity (bank % 2) (n % 512)
  | .graph bank n => s.graphParity (bank % 2) (n % 256)
  | .reg addr stored =>
    match regTarget addr with
    | some (.reg sub u off _) =>
      if (KV.find s.bad addr).isSome || s.regData addr % 65536 = stored % 65536 then s
      else
        let s := { s with bad := KV.set s.bad addr (stored % 65536) }
        (s.parityReport sub u (unitBase sub u + off) (stored % 65536)).unitSafe sub u addr
    | _ => s

/-- The scrubber's pass (R71): every mismatch it meets, in address order. -/
def parityScrub (hits : List ParityHit) (s : State) : State := hits.foldl (fun s h => s.parityHit h) s

end Sys2Proof.Machine
end

