-- ==== Sys2Proof/Machine/Power.lean ====
section
/-!
DEFINITION. Machine/Power.lean: the power states and the transitions between them, wake sources, resets and the cold
start, supplies, the crystal, board removal and the PCIe endpoint's reset (R463 to R485).
-/

namespace Sys2Proof.Machine

/-- The object of the always-on controller. -/
def pwrObj : Nat := objId 14 0 0

/-- The object of the supply monitors. -/
def supObj : Nat := objId 14 2 0

/-- Whether the system and media domains run: the start is done and the state is LISTEN or RUN (R18, R463). -/
def State.alive (s : State) : Bool := s.pwr.boot == 5 && decide (2 ≤ s.powerSt)

/-- Whether a carrier reaches the device: not in DOZE or SHELF, and not while the board is removed (R463, R473, R478). -/
def State.reachable (s : State) : Bool := s.pwr.boot != 4 && (s.pwr.boot != 5 || decide (2 ≤ s.powerSt))

/-- A happening of the domains that DOZE, SHELF and a reset stop: nothing where they do not run. -/
def State.whenAlive (s : State) (f : State → State) : State := if s.alive then f s else s

/-- An access through a carrier: nothing where none is reached. -/
def State.whenReached (s : State) (f : State → State) : State := if s.reachable then f s else s

/-- A condition source follows its condition (R82). -/
def State.condition (s : State) (src obj : Nat) (on : Bool) (detail : Nat) : State :=
  if on then s.raise src obj detail else s.setRaw src false

/-! ## Supplies and the crystal (R476, R467, R471) -/

/-- Whether a reading lies outside a window of so many per cent around a nominal value. -/
def offBy (nom pct mv : Nat) : Bool := decide (mv * 100 < nom * (100 - pct)) || decide (nom * (100 + pct) < mv * 100)

/-- Whether a supply lies outside its warning and its fail window (Table 20.5). -/
def State.supplyOut (s : State) (i mv : Nat) : Bool × Bool :=
  if i = 0 then (offBy s.hlt.vcore 3 mv, offBy s.hlt.vcore 6 mv)
  else if i < 5 then
    let nom := [0, 800, 850, 1100, 600].getD i 0
    (offBy nom 5 mv, offBy nom 10 mv)
  else if i < 8 then
    let nom := if s.pwr.vio33.getD (i - 5) false then 3300 else 1800
    (offBy nom 8 mv, offBy nom 12 mv)
  else if i = 8 then (decide (mv < 1780), decide (mv < 1700))
  else (decide (mv < 1650), decide (mv < 1550))

/-- The supplies outside a window, as a mask. -/
def State.supplyMask (s : State) (fail : Bool) : Nat :=
  (List.range 10).foldl (fun a i =>
    let w := s.supplyOut i (s.getF (F.SUP_MEAS i))
    a + (if (if fail then w.2 else w.1) then 2 ^ i else 0)) 0

/-- The detail of a supply event: the lowest supply outside and its reading. -/
def State.supplyDetail (s : State) (mask : Nat) : Nat :=
  let i := ((List.range 10).find? (fun i => mask.testBit i)).getD 0
  i + 65536 * s.getF (F.SUP_MEAS i)

/-- Readings of the supplies taken and judged (R476, R480). -/
def State.takeSupplies (s : State) (mv : List Nat) : State :=
  let s := (List.range 10).foldl (fun (s : State) i => match mv[i]? with
    | some v => s.setSat (F.SUP_MEAS i) v
    | none => s) s
  let w := s.supplyMask false
  let f := s.supplyMask true
  let s := (s.setF F.SUP_STATUS_WARN w).setF F.SUP_STATUS_FAIL f
  let s := s.condition Ev.SUPPLY_WARN supObj (w != 0) (s.supplyDetail w)
  let s := s.condition Ev.SUPPLY_FAIL supObj (f != 0) (s.supplyDetail f)
  s.condition Ev.HOLDUP_LOW supObj (decide (s.getF (F.SUP_MEAS 9) < 1650)) (s.getF (F.SUP_MEAS 9))

/-- SUPPLY_SAMPLE (R476): every 1 ms, wherever the always-on domain runs. -/
def supplySample (mv : List Nat) (s : State) : State :=
  if s.pwr.boot = 0 || (s.pwr.boot = 5 && s.powerSt = 0) then s else s.takeSupplies mv

/-- XO32_SWITCH (R471): the crystal has run within limits for 1 s. -/
def xo32Switch (s : State) : State :=
  if s.pwr.boot = 0 then s else (s.setF F.PWR_STATUS_XO32_OK 1).setRaw Ev.XO32_FAIL false

/-- XO32_FAIL_TIMEOUT (R471): the crystal has not run within 3 s of step 2. -/
def xo32FailTimeout (s : State) : State :=
  if s.pwr.boot = 0 || s.on F.PWR_STATUS_XO32_OK then s else s.raise Ev.XO32_FAIL pwrObj 0

/-- XO32_CRYSTAL_STOP (R467, R80): AO_SEC counts on from the internal oscillator. -/
def xo32CrystalStop (s : State) : State :=
  if !s.on F.PWR_STATUS_XO32_OK then s else (s.setF F.PWR_STATUS_XO32_OK 0).raise Ev.XO32_FAIL pwrObj 0

/-! ## Entry into a lower state (R466) -/

/-- Whether an entry into a lower state is under way. -/
def State.lowering (s : State) : Bool := s.on F.PWR_STATUS_ENTERING && decide (s.getF F.PWR_STATUS_TARGET < s.powerSt)

/-- A state is reached: its event and its entry (R480, R481). -/
def State.reached (s : State) (old new : Nat) : State :=
  let s := ((s.setF F.PWR_STATUS_STATE new).setF F.PWR_STATUS_ENTERING 0).setF F.PWR_STATUS_TARGET 0
  (s.fire Ev.STATE_CHANGE pwrObj (new + 16 * old)).logState orgPower pwrObj old new

/-- The unit leaves the pair and its link goes down (R408). -/
def State.leavePair (s : State) : State := (s.setF F.LINK_STATUS_LOCK 0).pairDown.pairAlone

/-- Enabled receive entries go back to WAITING with empty buffers (R235). -/
def State.rxWait (s : State) : State :=
  (s.str.rx.map (·.1)).foldl (fun s e =>
    let x := s.rxRun e
    if x.st = 5 || x.st = 2 then s else s.setRx e { x with st := 2, buf := [], lossT := 0, lostT := 0 }) s

/-- Every output released to high impedance, or driven again (R466, R474, R478). -/
def State.outputs (s : State) (off : Bool) : State := { s with pins := { s.pins with outputsOff := off } }

/-- Local ports and clock outputs stop without losing their EN. -/
def State.localOff (s : State) : State :=
  let s := (List.range 16).foldl (fun s t => if s.on (F.TDM_CTL_EN t) then s.tdmStop t else s) s
  let s := (List.range 8).foldl (fun s m => if s.on (F.PDM_CTL_EN m) then s.pdmStop m else s) s
  (List.range 7).foldl (fun s o => s.outStop o) s

/-- Local ports and clock outputs whose EN is set start again. -/
def State.localOn (s : State) : State :=
  let s := (List.range 16).foldl (fun s t => if s.on (F.TDM_CTL_EN t) && !s.inSafe 6 t then s.tdmEnable t none else s) s
  let s := (List.range 8).foldl (fun s m => if s.on (F.PDM_CTL_EN m) && !s.inSafe 7 m then s.pdmEnable m none else s) s
  s.refreshOutputs

/-- The links a state leaves unpowered go down: all but the LISTEN port's, or all. -/
def State.linksOff (s : State) (all : Bool) : State :=
  (List.range 4).foldl (fun s p => if all || p != s.getF F.PWR_CTL_LISTEN_PORT then s.linkLost p else s) s

/-- Step 2 and the start of step 3 of an entry: what the target leaves unpowered stops (R295, R367, R375, R149, R235, R408),
and for DOZE and SHELF transmit entries, triggers, history, directory and local ports too, and the log is committed. -/
def State.powerStop (s : State) : State :=
  let t := s.getF F.PWR_STATUS_TARGET
  let s := { s with pwr := { s.pwr with stopped := true }, mem := { s.mem with live := false } }
  let s := (((s.ampListen.ringsSuspend.dspFlush).trgPower (t == 2)).diagAbandon.proofsEnd.leavePair).linksOff (t != 2)
  let s := s.rxWait
  if t = 2 then s
  else
    let s := s.txEnabled.foldl (fun s e => s.txRemove e (s.afterTicks 2)) s
    let s := ({ s with str := { s.str with peers := [] } }).emptyHistory
    s.localOff.startCommit

/-- An entry goes on once nothing of step 1 is outstanding. -/
def State.entryProceed (s : State) : State :=
  if s.lowering && !s.pwr.stopped && s.pair.hand.isNone then s.powerStop else s

/-- A transition begins; an ACTIVE unit with a STANDBY_READY partner first hands over at T_h (R466 step 1, R423). -/
def State.beginTransition (s : State) (t : Nat) : State :=
  let s := (s.setF F.PWR_STATUS_ENTERING 1).setF F.PWR_STATUS_TARGET t
  let s := { s with pwr := { s.pwr with stopped := false } }
  if s.powerSt < t then s
  else if s.pairSt = psACTIVE && s.pair.pState = psREADY then s.setPairD { s.pair with hand := some (s.in2ms, 5) }
  else s.entryProceed

/-- What step 2 stopped starts again, as on the transition to the state kept (R466). -/
def State.powerRestart (s : State) : State :=
  if !s.pwr.stopped then s
  else
    let deep := decide (s.getF F.PWR_STATUS_TARGET < 2)
    let s := { s with pwr := { s.pwr with stopped := false } }
    let s := if deep then s.localOn else s
    if s.powerSt = 3 then s.ringsResume.ampResume else s

/-- The entry under way is abandoned for a request or wake source that names a state: the higher of it and the current one
holds (R466). -/
def State.abandonEntry (s : State) (goal : Nat) : State :=
  let s := s.powerRestart
  let s := s.setPairD { s.pair with hand := none }
  let s := (s.setF F.PWR_STATUS_ENTERING 0).setF F.PWR_STATUS_TARGET 0
  if s.powerSt < goal then s.beginTransition goal else s

/-- Captured sources recorded: the lowest code, and the state they lead to (R468). -/
def State.noteWake (s : State) (l : List Nat) (goal : Nat) : State :=
  let c := l.headD 0
  let s := (s.setF F.WK_LAST_SOURCE c).incSat F.WK_LAST_WAKES
  { s with pwr := { s.pwr with wakeSrc := c, wakeTo := goal } }

/-- PWR_STATE (R465). -/
def opPwrState (q : Req) (s : State) : OpOut :=
  if q.params.length ≠ 8 then badLen
  else if q.obj ≠ pwrObj then .bad 16
  else
    let t := q.field 4 1
    let cur := s.powerSt
    if t > 3 then .bad 20
    else if q.field 5 3 ≠ 0 then .bad (q.firstSet 5 3)
    else if s.lowering && s.getF F.PWR_STATUS_TARGET < t then .done (s.abandonEntry t) [] (some pwrObj)
    else if t = cur && !s.on F.PWR_STATUS_ENTERING then .done s [] none
    else if s.on F.PWR_STATUS_ENTERING || s.pins.pfwLow ||
        (t < cur && (s.inSafe 14 0 || s.inSafe 14 1 || s.inSafe 14 2)) then .err stBAD_STATE
    else if t = 2 && s.getF (F.MAC_CTL_MODE (s.getF F.PWR_CTL_LISTEN_PORT)) = 1 then .err stBAD_STATE
    else
      let s := if t < cur then s else s.noteWake [6] t
      .done (s.beginTransition t) [] (some pwrObj)

/-- LOWER_STATE_ENTER (R466, R467): the steps of the entry are done and the state is entered. -/
def lowerStateEnter (s : State) : State :=
  let s := s.entryProceed
  let t := s.getF F.PWR_STATUS_TARGET
  let old := s.powerSt
  if s.pwr.boot ≠ 5 || !s.lowering || !s.pwr.stopped || s.pair.hand.isSome then s
  else if t < 2 && s.log.commit.isSome then s
  else if t = 1 && s.on F.TB_STATUS_SET && s.time.cyc ≠ 0 then s
  else
    let s := { s with log := { s.log with ram := s.log.ram.drop (if t < 2 then s.pwr.lose else 0) } }
    let s := { s with pwr := { s.pwr with stopped := false, lose := 0 } }
    let s := if t = 1 then
        { s with pwr := { s.pwr with dozeAt := s.aoSec, off := Int.ofNat s.time.sec - Int.ofNat s.aoSec, offSet := s.on F.TB_STATUS_SET } }
      else s
    let s := s.reached old t
    if t = 2 then
      let s := (s.selfRefresh true).setF F.MEM_STATUS_PHY_LOCK 0
      let p := s.getF F.PWR_CTL_LISTEN_PORT
      if p < 2 && s.getF (F.MAC_CTL_MODE p) = 0 then s.advertise p 3 else s
    else
      let s := if old = 3 && t = 1 then (s.selfRefresh true).setF F.MEM_STATUS_PHY_LOCK 0 else s
      (s.outputs true).setF F.LOOP_STATUS_PLL_LOCK 0

/-! ## Wake (R468 to R470) -/

/-- Whether a wake source may act in this state, by its code and, for a pin, 2 x pin + level after the edge (Table 20.3). -/
def State.wakeEnabled (s : State) (code x : Nat) : Bool :=
  let pin := x / 2 % 16
  if code = 1 then s.on F.WK_CTL_WAKE_EN
  else if code = 2 then
    let n := s.getF F.WK_TIMER_LO + 65536 * s.getF F.WK_TIMER_HI
    s.on F.WK_CTL_TIMER_EN && n != 0 && decide (s.pwr.dozeAt + n ≤ s.aoSec)
  else if code = 3 then
    s.on F.WK_CTL_GPIO_EN && (s.getF F.WK_GPIO_MASK).testBit pin && (s.getF F.WK_GPIO_POL).testBit pin == (x % 2 == 1) &&
    !(s.on F.WK_CTL_PHY_EN && s.getF F.WK_CTL_PHY_PIN == pin)
  else if code = 4 then s.on F.WK_CTL_PHY_EN
  else if code = 5 then s.on F.WK_CTL_PCIE_EN
  else false

/-- The state a wake source names. -/
def State.wakeTarget (s : State) (code : Nat) : Nat := if bitOf (s.getF F.WK_CTL_TO_RUN) (code - 1) then 3 else 2

/-- The sources that act, lowest code first. -/
def State.wakeSources (s : State) (src : List (Nat × Nat)) : List Nat :=
  [1, 2, 3, 4, 5].filter (fun c => src.any (fun q => q.1 == c && s.wakeEnabled c q.2))

/-- The timebase restarts from the always-on seconds, and each enabled PTP domain as if its EN had just been set (R467). -/
def State.wakeTime (s : State) : State :=
  let s := if s.pwr.offSet then
      { s with time := { s.time with sec := (Int.ofNat s.aoSec + s.pwr.off).toNat, cyc := 0, onGrid := true } }
    else s
  let s := s.setF F.PWR_DOZE_SEC (s.aoSec - s.pwr.dozeAt)
  [0, 1].foldl (fun s d => if s.on (F.D_CTL_EN d) then s.domEnable d else s) s

/-- WAKE_CAPTURE (R466 to R469): one or more sources are captured, after so many always-on seconds in DOZE. -/
def wakeCapture (src : List (Nat × Nat)) (slept : Nat) (s : State) : State :=
  if s.pwr.boot ≠ 5 then s
  else
    let st := s.powerSt
    let s := if st = 1 then s.aoTick slept else s
    let l := s.wakeSources src
    let goal := if l.any (fun c => s.wakeTarget c == 3) then 3 else 2
    if st = 0 then
      (if src.any (fun q => q.1 == 1) && s.on F.WK_CTL_WAKE_EN then { s with pwr := { s.pwr with shelfWake := true } } else s)
    else if l.isEmpty then s
    else if s.lowering then (s.noteWake l goal).abandonEntry goal
    else if s.on F.PWR_STATUS_ENTERING then s
    else if st = 1 then
      let s := (s.noteWake l goal).wakeTime
      (s.setF F.PWR_STATUS_ENTERING 1).setF F.PWR_STATUS_TARGET 2
    else if st = 2 then
      let l := l.filter (fun c => s.wakeTarget c == 3)
      if l.isEmpty then s else (s.noteWake l 3).beginTransition 3
    else s

/-- LISTEN stands after a wake: WAKE fires, and with target RUN the next transition follows at once. -/
def State.wokeUp (s : State) : State :=
  let s := s.fire Ev.WAKE pwrObj s.pwr.wakeSrc
  let s := { s with pwr := { s.pwr with wakeSrc := 0 } }
  if s.pwr.wakeTo = 3 then s.beginTransition 3 else s

/-- WAKE_COMPLETE (R469): LISTEN is reached from DOZE; with target RUN the next transition follows at once. -/
def wakeComplete (s : State) : State :=
  if s.pwr.boot ≠ 5 || s.powerSt ≠ 1 || !s.on F.PWR_STATUS_ENTERING then s
  else
    let s := ((s.outputs false).setF F.LOOP_STATUS_PLL_LOCK 1).reached 1 2
    s.localOn.wokeUp

/-- LISTEN_TO_RUN_DONE (R470): the DDR domain and every Burin run, links may come up again, release, amplifier starts and
host rings resume. -/
def listenToRunDone (s : State) : State :=
  if s.pwr.boot ≠ 5 || s.powerSt ≠ 2 || !s.on F.PWR_STATUS_ENTERING || s.getF F.PWR_STATUS_TARGET ≠ 3 then s
  else
    let s := (s.setF F.MEM_STATUS_PHY_LOCK 1).selfRefresh false
    let p := s.getF F.PWR_CTL_LISTEN_PORT
    let s := if p < 2 && s.getF (F.MAC_CTL_MODE p) = 0 then s.advertise p (s.getF (F.MAC_CTL_SPEED_MAX p)) else s
    let src := s.pwr.wakeSrc
    let s := (s.reached 2 3).ringsResume.ampResume
    let s := { s with pwr := { s.pwr with wakeSrc := 0, wakeTo := 0 } }
    if src = 0 then s else s.fire Ev.WAKE pwrObj src

/-! ## Reset and cold start (R471 to R474) -/

/-- The conditions whose raw bits the always-on domain holds through a reset. -/
def aoConditions : List Nat := [Ev.SUPPLY_WARN, Ev.SUPPLY_FAIL, Ev.XO32_FAIL, Ev.HOLDUP_LOW]

/-- Every domain reset except AO, or AO too: what non-volatile memory, the factory bank and input pins hold stays, and the
firmware patch area with it (R43, R93, R100, R442). A cold start begins, for a cause of RESET_CAUSE (0 where no bit names it). -/
def State.resetDomains (s : State) (keepAo : Bool) (cause : Nat) : State :=
  let inAo := fun (a : Nat) => (addrUnit a).1 == 14
  let cal := s.getF F.CAL_LAST_RUN
  let z : State :=
    { regs := if keepAo then s.regs.filter (fun q => inAo (keyAddr q.1)) else []
      units := if keepAo then s.units.filter (fun q => q.1 / 256 == 14) else []
      shadows := if keepAo then s.shadows.filter (fun q => inAo q.1) else []
      bad := if keepAo then s.bad.filter (fun q => inAo q.1) else []
      ev := { raw := if keepAo then s.ev.raw.filter (fun r => aoConditions.contains r) else [] }
      log := { ring := s.log.ring, next := match s.log.ring.getLast? with
        | some e => (e.seq + 1) % 2 ^ 32
        | none => 0 }
      bankA := s.bankA
      bankB := s.bankB
      factory := s.factory
      fact := s.fact
      car := { fwBlocks := s.car.fwBlocks, fwWritten := s.car.fwWritten, fwCommitted := s.car.fwCommitted }
      clk := { calAge := s.clk.calAge, calSlope := s.clk.calSlope }
      amp := { plate := s.amp.plate }
      hlt := { ledger := s.hlt.ledger, next := s.hlt.next, last7 := s.hlt.last7, base := s.hlt.base, vcore := s.hlt.vcore,
               refresh := s.hlt.refresh, trust := s.hlt.trust, dead := s.hlt.dead }
      pwr := { vio33 := s.pwr.vio33, lostAt := s.pwr.lostAt }
      pins := { svcEn := s.pins.svcEn, pfwLow := s.pins.pfwLow, takeLow := s.pins.takeLow, outputsOff := true }
      draws := s.draws
      pending := s.pending }
  let z := ((z.setF F.CAL_LAST_RUN cal).setF F.PWR_RESET_CAUSE cause).incSat F.PWR_COLD_STARTS
  let z := ((z.setF F.PWR_STATUS_PRESENT 1).setF F.PWR_STATUS_ENTERING 0).setF F.PWR_STATUS_TARGET 0
  { z with pwr := { z.pwr with coldSec := z.aoSec } }

/-- Whether REFXO runs at one of its two frequencies (R472; the tolerance of the count is the model's, log entry 22). -/
def refxoRuns (khz : Nat) : Bool := !offBy 49152 10 khz || !offBy 24576 10 khz

/-- Step 2 of a cold start (R471, R472, R477): supplies checked, REFXO started, the regulator's mode read. -/
def State.stepTwo (s : State) (t : StepTwo) : State :=
  let s := { s with pwr := { s.pwr with vio33 := t.vio33 }, pins := { s.pins with pfwLow := t.pfwLow, outputsOff := false } }
  let s := s.takeSupplies t.mv
  if s.getF F.SUP_STATUS_FAIL ≠ 0 then { s with pwr := { s.pwr with boot := 2 } }
  else if !refxoRuns t.refxo then
    { s with pwr := { s.pwr with boot := 3, lostAt := some (s.pwr.lostAt.getD s.aoSec) } }
  else
    let s := s.setF F.LOOP_MEDIA_REFXO (b2n (decide (t.refxo < 36864)))
    let s := { s with pwr := { s.pwr with boot := 1 } }
    let m := s.getF F.PWR_CTL_VCORE_IF
    if m = 1 || m = 2 then s.emit (.voutMode (s.getF F.PWR_VCORE_PMBUS_ADDR)) else s

/-- POWER_ON_RESET_RELEASE (R471): of the always-on domain, of the supplies, or of a wake in SHELF. -/
def powerOnResetRelease (ao : Bool) (t : StepTwo) (s : State) : State :=
  let shelf := s.pwr.shelfWake || (s.pwr.boot = 5 && s.powerSt = 0)
  if ao || s.pwr.boot = 0 then (s.resetDomains false 1).stepTwo t
  else if shelf then (s.resetDomains false 32).stepTwo t
  else (s.resetDomains true 2).stepTwo t

/-- SUPPLY_RECHECK (R472): every 10 ms while the start waits for supplies. -/
def supplyRecheck (t : StepTwo) (s : State) : State := if s.pwr.boot = 2 then s.stepTwo t else s

/-- REFXO_RETRY (R472): every 1 s while the start waits for REFXO. -/
def refxoRetry (t : StepTwo) (s : State) : State := if s.pwr.boot = 3 then (s.aoTick 1).stepTwo t else s

/-- REFXO_LOST (R472): every domain except AO is reset, and the start waits for REFXO. -/
def refxoLost (s : State) : State :=
  if s.pwr.boot = 1 || s.alive then
    let at_ := s.aoSec
    let s := s.resetDomains true 0
    { s with pwr := { s.pwr with boot := 3, lostAt := some at_ } }
  else s

/-- RESET_N_ASSERT (R474): RESET_N has been low for 1 µs; on its release the cold start runs from step 2. -/
def resetNAssert (t : StepTwo) (s : State) : State :=
  if s.pwr.boot = 0 || s.pwr.boot = 4 || (s.pwr.boot = 5 && s.powerSt = 0) then s else (s.resetDomains true 4).stepTwo t

/-- RESET (R474): the command replies and acts 1 ms later. -/
def opReset (q : Req) (s : State) : OpOut :=
  if q.params.length ≠ 4 then badLen
  else if q.obj ≠ pwrObj then .bad 16
  else .done { s with pwr := { s.pwr with resetDue := true } } [] (some pwrObj)

/-- RESET_COMMAND_ACT (R474). -/
def resetCommandAct (t : StepTwo) (s : State) : State :=
  if s.pwr.resetDue then (s.resetDomains true 8).stepTwo t else s

/-- The firmware patch at step 3 (R43, R472): its CRC where it is used, FW_PATCH_FAIL with the failing blocks where not. -/
def State.bootPatch (s : State) (bad : Nat) : State :=
  match s.car.fwCommitted with
  | none => s
  | some crc =>
    if bad % 16 = 0 then { s with pwr := { s.pwr with fwCrc := crc } }
    else ({ s with pwr := { s.pwr with patchBad := true } }).fire Ev.FW_PATCH_FAIL (objId 0 0 0) (bad % 16)

/-- The log ring read at step 3: entries that fail their CRC are counted (R97). -/
def State.bootLog (s : State) (bad : List Nat) : State :=
  let ring := s.log.ring.zipIdx.map (fun q => if bad.contains q.2 then { q.1 with crcBad := true } else q.1)
  let n := (ring.filter (fun e => e.crcBad)).length
  let s := { s with log := { s.log with ring := ring, bootBad := satNat 16 n } }
  if n = 0 then s else s.fire Ev.NVM_FAIL nvsObj 0x140000

/-- The Calender values of step 7 (R451): kept values safer than the loaded ones, each logged. -/
def State.bootCalender (s : State) : State :=
  let s := match s.hlt.dead with
    | some d => if s.getF F.PROT_GATE_DEAD < d then s.setItem 5 d calOrigin else s
    | none => s
  let lim := s.getF F.TB_CTL_ASYM_LIMIT
  let s := if s.hlt.trust < lim then s.logE orgCalender 0 kSTATE false (calObj + 6) lim s.hlt.trust else s
  s.refreshNext

/-- Steps 3, 5 and 6 of a cold start: log and patch area read, identity and latencies from the factory bank, memory trained,
media PLL locked, the loop in FREE_RUN (R184, R200). -/
def State.bootUnits (s : State) (c : ColdIn) : State :=
  let s := (s.bootLog c.badLog).bootPatch c.patch
  let s := (s.setDom 0 { s.dom 0 with ident := s.fact.idents.getD 0 0 }).setDom 1 { s.dom 1 with ident := s.fact.idents.getD 1 0 }
  let s := (List.range 4).foldl (fun s p => s.refreshLatency p) s
  let s := (s.setF F.MEM_STATUS_DENSITY c.density).setF F.MEM_STATUS_RANKS2 c.ranks
  let s := (s.trainResult c.margins c.trained 512).setF F.MEM_STATUS_PHY_LOCK 1
  ((s.setF F.LOOP_STATUS_PLL_LOCK 1).setF F.ROLE_STATUS_STRAP (b2n c.strap)).raise Ev.FREE_RUN (objId 2 9 0) 0

/-- Steps 4 and 7: the configuration of the source chosen, and the Calender's values. -/
def State.bootConfig (s : State) (c : ColdIn) : State :=
  let ((src, gen, cfg), s) : (Nat × Nat × Saved) × State := s.chooseSource (b2n (!c.aOk) + 2 * b2n (!c.bOk) + 4 * b2n (!c.factOk))
  let s := s.setF F.LOOP_MEDIA_FAMILY (cfg.value F.LOOP_MEDIA_FAMILY_NEXT.key)
  ((s.loadAll { code := orgBoot, priv := true } cfg false).loaded src gen).bootCalender

/-- The device is command-ready: SVC_EN sets the service port's speed (R50, R471, R486). -/
def State.bootReady (s : State) (svcEn : Bool) : State :=
  let s := { s with pwr := { s.pwr with boot := 5, cmdReady := true }, pins := { s.pins with svcEn := svcEn } }
  { s with car := { s.car with uartBaud := if svcEn then 0 else s.getF F.UART_CTL_BAUD } }

/-- What the start reports of what came before it: REFXO lost, the board put back (R472, R478). -/
def State.bootEvents (s : State) : State :=
  let s := match s.pwr.lostAt with
    | some a => ({ s with pwr := { s.pwr with lostAt := none } }).fire Ev.REFXO_FAIL pwrObj (satNat 32 (s.aoSec - a))
    | none => s
  if s.getF F.PWR_RESET_CAUSE = 16 then s.fire Ev.PRESENT_CHG pwrObj 0 else s

/-- COLD_START_READY (R471, R472, R103, R105, R328, R523): steps 3 to 7, and the start of step 8. -/
def coldStartReady (c : ColdIn) (s : State) : State :=
  if s.pwr.boot ≠ 1 then s
  else
    let s := s.logState orgBoot (pwrObj + 1) 0 (s.getF F.PWR_RESET_CAUSE)
    ((((s.bootUnits c).bootConfig c).bootReady c.svcEn).setSat F.PWR_BOOT_MS c.ms).reached 0 3 |>.bootEvents

/-! ## Board removal (R478) -/

/-- PRESENT_N_RISE: the power-fail sequence, outputs released, every link down, and the device waits. -/
def presentNRise (s : State) : State :=
  if !s.alive then s
  else
    let s := if s.pins.pfwLow then s else s.powerFail true
    let s := s.outputs true
    let s := (s.linksOff true).leavePair
    let s := (s.fire Ev.PRESENT_CHG pwrObj 1).setF F.PWR_STATUS_PRESENT 0
    { s with pwr := { s.pwr with boot := 4, cmdReady := false } }

/-- PRESENT_N_SETTLED: low again for 10 ms, the device resets with cause re-insertion. -/
def presentNSettled (t : StepTwo) (s : State) : State :=
  if s.pwr.boot = 4 then (s.resetDomains true 16).stepTwo t else s

/-! ## The PCIe endpoint (R479) -/

/-- A ring's EN cleared by the endpoint's reset, with its entry. -/
def State.pcieClear (s : State) (f : Fld) (drop : State → State) : State :=
  if !s.on f then s
  else
    let old := s.regData f.addr
    let s := drop (s.setF f 0)
    (s.logE orgPower 0 kREG true f.addr old (s.regData f.addr)).modified

/-- PERST_N_ASSERT: PERST_N low or loss of the PCIe link resets the endpoint and stops every ring. -/
def perstNAssert (s : State) : State :=
  if s.on F.HST_STATUS_PERST then s
  else
    let s := ((s.setF F.HST_STATUS_PERST 1).setF F.HST_STATUS_LINK_UP 0).incSat F.HST_STATUS_LINK_DOWNS
    let s := { s with ev := { s.ev with msixOn := false, msixUnmasked := [], msixBits := [] } }
    let s := (List.range 32).foldl (fun s r => s.pcieClear (F.RING_CFG_EN r) (fun s => s.ringStop r 0)) s
    (List.range 4).foldl (fun s p => (s.pcieClear (F.MAC_TXR_CFG_RING_EN p) id).pcieClear (F.MAC_RXR_CFG_RING_EN p) id) s

/-- PERST_N_RISE: the link retrains; the host enumerates the device again. -/
def perstNRise (s : State) : State :=
  if !s.on F.HST_STATUS_PERST then s
  else (s.setF F.HST_STATUS_PERST 0).setF F.HST_STATUS_LINK_UP 1

end Sys2Proof.Machine
end

