-- ==== Sys2Proof/Machine/Interp.lean ====
section
/-!
DEFINITION. Machine/Interp.lean: the command interpreter: steps 7 to 14 of Table 2.2 (R36), the operations every subsystem
has (R38, R39), and the slots it serves (R52).
-/

namespace Sys2Proof.Machine

/-! ## Operations on objects (R38, R39) -/

/-- An operation on an object of one unit: a request too short to name one, or naming another, is BAD_PARAM. -/
def onUnits (p : Nat → Nat → Bool) (f : Req → State → OpOut) (q : Req) (s : State) : OpOut :=
  let (sub, u, _) := objParts q.obj
  if q.params.length < 4 then badLen else if p sub u then f q s else .bad 16

/-- A unit as a whole: the element is 0 (R39). -/
def wholeUnit (f : Req → State → OpOut) (q : Req) (s : State) : OpOut :=
  if (objParts q.obj).2.2 = 0 then f q s else .bad 16

/-- GET of a network port: its layer-3 block (R208). -/
def opNetPortGet (q : Req) (s : State) : OpOut :=
  if q.params.length ≠ 4 then badLen else .done s (((s.l3 (objParts q.obj).2.1) ++ List.replicate 64 0).take 64) none

/-- STATUS of a TDM port, from the Klonik copy (R345). -/
def opTdmStatus (q : Req) (s : State) : OpOut :=
  if q.params.length ≠ 4 then badLen else .done s (s.tdmStatusBlock (objParts q.obj).2.1) none

/-- STATUS of an amplifier channel, from the 1 ms copy (R386). -/
def opAmpStatus (q : Req) (s : State) : OpOut :=
  if q.params.length ≠ 4 then badLen else .done s (s.ampStatusBlock (objParts q.obj).2.1) none

/-- The parameter block of an object, read (R38). -/
def opObjGet (sub : Nat) (q : Req) (s : State) : OpOut :=
  onUnits (fun b _ => b == sub) (fun q s =>
    let (_, u, _) := objParts q.obj
    if sub = 0 && u = 1 then opSessionGet q s
    else if sub = 3 && u < 4 then wholeUnit opNetPortGet q s
    else if sub = 4 && u = 0 then opRxGet q s
    else if sub = 4 && u = 1 then opTxGet q s
    else if sub = 5 && u = 64 then opGraphGet q s
    else .bad 16) q s

/-- The parameter block of an object, written (R38). -/
def opObjSet (sub : Nat) (q : Req) (s : State) : OpOut :=
  onUnits (fun b _ => b == sub) (fun q s =>
    let (_, u, _) := objParts q.obj
    if sub = 0 && u = 1 then opSessionSet q s
    else if sub = 3 && u < 4 then wholeUnit opNetPortSet q s
    else if sub = 4 && u = 0 then opRxSet q s
    else if sub = 4 && u = 1 then opTxSet q s
    else if sub = 5 && u = 64 then opGraphSet q s
    else .bad 16) q s

/-- The status block of an object, read (R38). -/
def opObjStatus (sub : Nat) (q : Req) (s : State) : OpOut :=
  onUnits (fun b _ => b == sub) (fun q s =>
    let (_, u, _) := objParts q.obj
    if sub = 4 && u = 0 then opRxStatus q s
    else if sub = 4 && u = 1 then opTxStatus q s
    else if sub = 5 && u = 64 then opGraphStatus q s
    else if sub = 6 && u < 16 then wholeUnit opTdmStatus q s
    else if sub = 8 && u < 8 then wholeUnit opAmpStatus q s
    else .bad 16) q s

/-- The EN bits an object names: those of every unit of the subsystem for unit 0xFF, an estimator's or a ring's own, or the
unit's; each as unit and offset of its register. None where the object has none. -/
def enTargets (sub : Nat) (o : Nat) : Option (List (Nat × Nat)) :=
  let (b, u, e) := objParts o
  let ofUnit := fun (v : Nat) => (enOff sub v 0).map (fun off => (v, off))
  if b ≠ sub then none
  else if u = 0xFF then
    if e ≠ 0 then none else some ((allUnits.filter (fun p => p.1 == sub)).filterMap (fun p => ofUnit p.2))
  else if !unitExists sub u then none
  else if sub = 4 && u = 4 then (if e < 64 then some [(4, 0x100 + 0x20 * e)] else none)
  else if sub = 13 && u = 0 then (if e < 32 then some [(0, 0x200 + 0x40 * e)] else none)
  else if e ≠ 0 then none
  else (ofUnit u).map (fun p => [p])

/-- Whether a unit may be enabled now: a legal stored configuration, no proof on it, and its PARITY clear where it is in its
safe state (R39, R66, R74, R489). -/
def State.mayEnable (s : State) (sub : Nat) (p : Nat × Nat) : Bool :=
  !(s.inSafe sub p.1 && (s.unit (unitKey sub p.1)).parity) && !s.proofHoldsUnit sub p.1 && s.enLegal sub p.1 p.2

/-- ENABLE of units: all of them or none (R39). -/
def opUnitEnable (sub : Nat) (q : Req) (s : State) : OpOut :=
  if q.params.length ≠ 4 then badLen
  else match enTargets sub q.obj with
    | none => .bad 16
    | some l =>
      let todo := l.filter (fun p => !s.on (enFld (unitBase sub p.1 + p.2)))
      if todo.isEmpty then .done s [] none
      else if todo.any (fun p => !s.mayEnable sub p) then .err stBAD_STATE
      else
        let s := todo.foldl (fun (s : State) p =>
          let s := s.setF (enFld (unitBase sub p.1 + p.2)) 1
          if s.inSafe sub p.1 then s.enSafe sub p.1 p.2 else s.enRise sub p.1 p.2) s
        .done s [] (some q.obj)

/-- DISABLE of units: all of them or none; an EN that cannot be cleared is BAD_PARAM (R39). -/
def opUnitDisable (sub : Nat) (q : Req) (s : State) : OpOut :=
  if q.params.length ≠ 4 then badLen
  else match enTargets sub q.obj with
    | none => .bad 16
    | some l =>
      let todo := l.filter (fun p => s.on (enFld (unitBase sub p.1 + p.2)))
      if todo.isEmpty then .done s [] none
      else if todo.any (fun p => !isEnReg sub p.1 p.2) then .bad 16
      else if todo.any (fun p => s.proofHoldsUnit sub p.1 || !s.disLegal sub p.1 p.2) then .err stBAD_STATE
      else
        let s := todo.foldl (fun (s : State) p => (s.setF (enFld (unitBase sub p.1 + p.2)) 0).enFall sub p.1 p.2) s
        .done s [] (some q.obj)

/-- ENABLE: stream entries and graphs have flags of their own. -/
def opObjEnable (sub : Nat) (q : Req) (s : State) : OpOut :=
  onUnits (fun b _ => b == sub) (fun q s =>
    let (_, u, _) := objParts q.obj
    if sub = 4 && u = 0 then opRxEnable q s
    else if sub = 4 && u = 1 then opTxEnable q s
    else if sub = 5 && u = 64 then opGraphEnable q s
    else opUnitEnable sub q s) q s

/-- DISABLE: stream entries and graphs have flags of their own. -/
def opObjDisable (sub : Nat) (q : Req) (s : State) : OpOut :=
  onUnits (fun b _ => b == sub) (fun q s =>
    let (_, u, _) := objParts q.obj
    if sub = 4 && u = 0 then opRxDisable q s
    else if sub = 4 && u = 1 then opTxDisable q s
    else if sub = 5 && u = 64 then opGraphDisable q s
    else opUnitDisable sub q s) q s

/-! ## The gate: steps 7 to 10 of Table 2.2 -/

/-- The subsystem-specific operations that chapters define. -/
def specialOps : List Nat :=
  [0x0010, 0x0011, 0x0012, 0x0020, 0x0021, 0x0030, 0x0031, 0x0040, 0x0050, 0x0051, 0x0060, 0x0110, 0x0111, 0x0112, 0x0210,
   0x0310, 0x0410, 0x0411, 0x0420, 0x0421, 0x0422, 0x0423, 0x0424, 0x0512, 0x0520, 0x0521, 0x0522, 0x0523, 0x0524, 0x0810,
   0x0811, 0x0812, 0x0813, 0x0910, 0x0A10, 0x0A11, 0x0B10, 0x0B11, 0x0B12, 0x0B20, 0x0D10, 0x0E10, 0x0E12]

/-- Whether an opcode is defined (R38). -/
def opDefined (op : Nat) : Bool :=
  (decide (op / 256 < 15) && decide (1 ≤ op % 256) && decide (op % 256 ≤ 5)) || specialOps.contains op

/-- The privileged operations (R41, R49, R54 and the chapters). -/
def opPrivileged (op : Nat) : Bool :=
  [0x0002, 0x0010, 0x0011, 0x0012, 0x0050, 0x0051, 0x0813, 0x0A10, 0x0B11, 0x0B12, 0x0D10, 0x0E12].contains op

/-- The operations that session 0 may use (R48): GET, STATUS, INFO, LOG_READ and REG_READ. -/
def opOpen (op : Nat) : Bool := op % 256 = 1 || op % 256 = 5 || [0x0060, 0x0020, 0x0030].contains op

/-- The operations that change state when they are executed (R40, R466). -/
def opChanges (op : Nat) : Bool :=
  (decide (2 ≤ op % 256) && decide (op % 256 ≤ 4)) ||
  ([0x0010, 0x0011, 0x0012, 0x0031, 0x0050, 0x0051, 0x0110, 0x0111, 0x0112, 0x0210, 0x0410, 0x0411, 0x0421, 0x0423, 0x0520, 0x0522,
    0x0523, 0x0810, 0x0811, 0x0813, 0x0910, 0x0A10, 0x0B10, 0x0B11, 0x0B12, 0x0D10, 0x0E12].contains op)

/-- The object of a DENIED entry of an operation: the one it names, if it names one (log entry 14). -/
def Req.deniedObj (q : Req) : Nat :=
  if q.opcode < 256 && q.opcode ≠ 2 then noObject q.opcode else q.obj

/-- Whether the target of an operation is kept unpowered in LISTEN (R19, R235, R295). -/
def State.lowPower (s : State) (q : Req) : Bool :=
  let op := q.opcode
  let sub := op / 256
  let low := op % 256
  s.powerSt == 2 &&
  (if sub = 5 then low != 1 && low != 5
   else if 1 ≤ low && low ≤ 5 then
     let (b, u, _) := objParts q.obj
     b == sub && (if u = 0xFF then (allUnits.filter (fun p => p.1 == sub)).any (fun p => s.unpowered p.1 p.2) else s.unpowered sub u)
   else if op = 0x0040 then [3, 4, 5, 8, 9, 0xFF].contains (q.field 0 1)
   else sub = 8 || [0x0410, 0x0420, 0x0421, 0x0422, 0x0423, 0x0910, 0x0D10].contains op)

/-- Whether an operation, as named, changes a mirrored object (R412, Table 18.4). -/
def State.mirrorsOp (s : State) (q : Req) : Bool :=
  let op := q.opcode
  let sub := op / 256
  let low := op % 256
  let (b, u, e) := objParts q.obj
  let ofTrg := fun (t : Option TrgTarget) => match t with
    | some (.tx _) => true
    | some (.graph _) => true
    | some (.tdm t) => s.on (F.TDM_FMT_BUSSED t)
    | _ => false
  if 2 ≤ low && low ≤ 4 then
    b == sub &&
    ((sub == 4 && (u == 0 || u == 1 || u == 4 || u == 0xFF)) || (sub == 5 && u == 64) ||
     (sub == 6 && e == 0 && (if u = 0xFF then (List.range 16).any (fun t => s.on (F.TDM_FMT_BUSSED t)) else s.on (F.TDM_FMT_BUSSED u))))
  else if op = 0x0110 then
    (List.range (min 32 (q.field 0 2))).any (fun i => ofTrg (trgTarget (trgEntry q (4 + 24 * i)).obj))
  else if op = 0x0111 then (List.range 32).any (fun k => (q.field 0 4).testBit k && s.trgArmed k && s.trgMirrored k)
  else [0x0410, 0x0411, 0x0421, 0x0520, 0x0522, 0x0523].contains op

/-- Steps 7 to 10 of Table 2.2: the outcome that stops a request, if one does. -/
def State.gate (s : State) (q : Req) : Option OpOut :=
  if !opDefined q.opcode then some (.fail stBAD_OPCODE 6 0)
  else if opPrivileged q.opcode && !q.origin.priv then some (.denied q.deniedObj)
  else if q.carrier == .net && q.session == 0 && !opOpen q.opcode then some (.err stDENIED)
  else if s.lowPower q then some (.err stLOW_POWER)
  else if q.origin.code != 8 && s.isStandby && s.mirrorsOp q then some (.err stPARTNER)
  else none

/-! ## Execution: steps 11 to 14 -/

/-- The long operation a request begins: its index, and what its end needs of the request (Table 2.7). -/
def longIdx (q : Req) : Nat × Nat :=
  match q.opcode with
  | 0x0010 => (1, 0)
  | 0x0011 => (2, 0)
  | 0x0012 => (3, 0)
  | 0x0021 => (4, 0)
  | 0x0910 => (5, 0)
  | 0x0040 => (6, q.field 0 1)
  | 0x0810 => (7, 0)
  | _ => (8, q.field 0 1)

/-- The parameters of TRG_ARM with the units its reply names, as the partner takes them (R413). -/
def armedParams (params reply : List Byte) : List Byte :=
  (List.range (min 32 (leAt params 0 2))).foldl (fun (p : List Byte) i =>
    p.take (4 + 24 * i) ++ (reply.drop (4 + i)).take 1 ++ p.drop (5 + 24 * i)) params

/-- A command executed on a mirrored object of an active unit is sent to the partner too, with its request time (R413). -/
def State.sendMirror (s : State) (q : Req) (reply : List Byte) : State :=
  let seq := s.pair.mirSeq + 1
  let params := if q.opcode = 0x0110 then armedParams q.params reply else q.params
  let t := s.mirrorUnits.toNat
  let s := (s.setPairD { s.pair with mirSeq := seq }).incSat F.LINK_MIRRORS
  s.emit (.pair 2 ([seq, q.opcode, b2n q.origin.priv, q.crc, t] ++ params.map BitVec.toNat))

/-- What an outcome leaves: log, counters, reply, mirror record; a long operation begins (R40, R53, R107, R413). -/
def State.conclude (s0 : State) (q : Req) (mirror : Bool) (out : OpOut) : State :=
  let clear := fun (s : State) => s.setPairD { s.pair with reqAt := none }
  match out with
  | .long s =>
    let (idx, arg) := longIdx q
    if idx = 1 || idx = 4 then s.commitFor idx q else s.beginLong { idx := idx, req := q, arg := arg }
  | .done s params log =>
    let s := clear s
    let s := if mirror && (log.isSome || q.opcode = 0x0110 || q.opcode = 0x0111) then s.sendMirror q params else s
    let low := q.opcode % 256
    let cfg := log.isSome && ((decide (2 ≤ low) && decide (low ≤ 4)) || [0x0421, 0x0520, 0x0522].contains q.opcode)
    let s := if cfg then s.modified else s
    let s := s.finish q (.done s params log)
    { s with car := { s.car with executing := none } }
  | .failWith s st off d =>
    let s := clear s
    s.finish q (.failWith s st off d)
  | o => s0.finish q o

/-- Whether a command is also sent to the partner (R413). -/
def State.sharesOp (s : State) (q : Req) : Bool := q.origin.code != 8 && s.pairSt == psACTIVE && s.mirrorsOp q

/-- The state an operation works on: the request's time where the partner follows it, the carrier executing. -/
def State.opStart (s : State) (q : Req) : State :=
  { (s.atRequest (s.sharesOp q)) with car := { s.car with executing := some q.carrier } }

/-- Steps 7 to 14 of Table 2.2 for a request whose operation is `f`. While a lower power state is entered, a command that
would change state is BAD_STATE (R466). -/
def State.perform (s : State) (q : Req) (f : Req → State → OpOut) : State :=
  match s.gate q with
  | some o => s.finish q o
  | none =>
    let out := f q (s.opStart q)
    let out := if s.lowering && opChanges q.opcode && q.opcode ≠ 0x0E10 then
        (match out with
          | .done _ _ _ => .err stBAD_STATE
          | .long _ => .err stBAD_STATE
          | o => o)
      else out
    let s2 := s.conclude q (s.sharesOp q) out
    match s2.car.longOp with
    | some _ => s2
    | none => { s2 with car := { s2.car with executing := none } }

/-- A request that reaches step 6: BUSY, or executed (R36, R53). -/
def State.answer (s : State) (q : Req) (f : Req → State → OpOut) : State :=
  match s.busyIndex with
  | some i => s.replyBusy q i
  | none => s.perform q f

/-- A command of one operation, as the interpreter executes it. -/
def serveOp (op : Nat) (f : Req → State → OpOut) (q : Req) (s : State) : State :=
  s.whenReached (fun s => s.answer { q with opcode := op } f)

/-- The operation an opcode names; `o` is what the outside answers it with. -/
def opCore (o : Outside) (q : Req) (s : State) : OpOut :=
  let op := q.opcode
  let sub := op / 256
  if op % 256 = 1 then opObjGet sub q s
  else if op % 256 = 2 then opObjSet sub q s
  else if op % 256 = 3 then opObjEnable sub q s
  else if op % 256 = 4 then opObjDisable sub q s
  else if op % 256 = 5 then opObjStatus sub q s
  else match op with
    | 0x0010 => opStore q s
    | 0x0011 => opRecall q s
    | 0x0012 => opFactoryRecall q s
    | 0x0020 => opLogRead q s
    | 0x0021 => opLogFlush q s
    | 0x0030 => opRegRead q s
    | 0x0031 => opRegWrite q s
    | 0x0040 => opSelftest q s
    | 0x0050 => opFwBlock q s
    | 0x0051 => opFwCommit q s
    | 0x0060 => opInfo q s
    | 0x0110 => opTrgArm q s
    | 0x0111 => opTrgDisarm q s
    | 0x0112 => opTsqRead q s
    | 0x0210 => opAlign q s
    | 0x0310 => opMdio o.mdio q s
    | 0x0410 => opRxSwap q s
    | 0x0411 => opTxSwap q s
    | 0x0420 => opDirRead q s
    | 0x0421 => opSdpImport q s
    | 0x0422 => opDirStream q s
    | 0x0423 => opDirImport q s
    | 0x0424 => opSdpExport q s
    | 0x0512 => opGraphSched q s
    | 0x0520 => opGraphLoad q s
    | 0x0521 => opGraphRead q s
    | 0x0522 => opGraphParam q s
    | 0x0523 => opGraphSwap q s
    | 0x0524 => opMeterRead q s
    | 0x0810 => opDiagOffline q s
    | 0x0811 => opDiagLive q s
    | 0x0812 => opDiagRead q s
    | 0x0813 => opPlate o.verify q s
    | 0x0910 => opMemRetrain q s
    | 0x0A10 => opPairTakeover q s
    | 0x0A11 => opPairHealth q s
    | 0x0B10 => opCalRun q s
    | 0x0B11 => opCalApprove q s
    | 0x0B12 => opBaselineReset q s
    | 0x0B20 => opLedgerRead q s
    | 0x0D10 => opProof o.v0 o.v1 q s
    | 0x0E10 => opPwrState q s
    | 0x0E12 => opReset q s
    | _ => .fail stBAD_OPCODE 6 0

/-- The request in the next occupied slot after the carrier served last (R52). -/
def State.nextSlot (s : State) : Option (Nat × Req) :=
  [1, 2, 3, 4].findSome? (fun i => s.car.slots.find? (fun p => p.1 == (s.car.last + i) % 4))

/-- INTERPRETER_SERVE (R52): the next slot is freed and its command executed; a UART line takes its privilege from SVC_EN
now (R54). -/
def interpreterServe (svcEn : Bool) (o : Outside) (s : State) : State :=
  s.whenReached (fun s =>
    let s := { s with pins := { s.pins with svcEn := svcEn } }
    match s.nextSlot with
    | none => s
    | some (c, q) =>
      let s := { s with car := { s.car with slots := s.car.slots.filter (fun p => p.1 != c), last := c } }
      let q := if c = 3 then { q with origin := if svcEn then { code := 7, priv := true } else { code := 6 } } else q
      s.answer q (opCore o))

end Sys2Proof.Machine
end

