-- ==== Sys2Proof/Machine/Mirror.lean ====
section
/-!
DEFINITION. Machine/Mirror.lean: mirror records on the standby (R413), mirrored register writes at their tick, and the
staging and application of a clone (R425, R426).
-/

namespace Sys2Proof.Machine

/-! ## Register writes that wait (R413) -/

/-- The access of a mirrored register write at its tick. -/
def mirrorAccess (o : Origin) : Access := { origin := o, carrier := 0, reader := .interp, mirror := true }

/-- The mirrored register writes due by a tick take effect in order. -/
def State.applyRegQ (s : State) (t : Nat) : State :=
  let due := s.pair.regQ.filter (fun r => decide (r.tick ≤ t))
  let s := s.setPairD { s.pair with regQ := s.pair.regQ.filter (fun r => decide (t < r.tick)) }
  due.foldl (fun s r =>
    match s.judgeWrite (mirrorAccess r.origin) r.addr r.data with
    | .inr op => s.applyOp (mirrorAccess r.origin) r.addr r.data op
    | .inl _ => s) s

/-! ## Records (R413) -/

/-- The standby falls back to STANDBY_SYNC. -/
def State.toSync (s : State) : State := if s.pairSt = psREADY then s.setPairAt psSYNC s.in2ms else s

/-- A record applied after its boundary: the window is flagged and the unit enters STANDBY_SYNC. -/
def State.lateRecord (s : State) : State := s.flagWindow.toSync

/-- TRG_ARM's parameters as the standby takes them: the active unit's number, or any free unit where that one is busy. -/
def State.mirrorArm (s : State) (params : List Byte) (trg : Option Nat) : List Byte :=
  let n := leAt params 0 2
  (List.range (min n 32)).foldl (fun (p : List Byte) i =>
    let o := 4 + 24 * i
    let named := leAt p o 1
    let u := if i = 0 then trg.getD named else named
    p.take o ++ leBytes 1 (if u < 32 && s.trgFree u then u else 255) ++ p.drop (o + 1)) params

/-- A mirrored command executed: origin 0x08 and the privilege of the original, its request time the active unit's. -/
def State.mirrorCmd (s : State) (op : Nat) (params : List Byte) (priv : Bool) (crc : Nat) (at_ : Tai) (trg : Option Nat) : State :=
  let late := decide (at_.units < s.now.units)
  let params := if op = 0x0110 then s.mirrorArm params trg else params
  let q : Req := { carrier := .mailbox, origin := { code := 8, priv := priv, id := s.partnerId }, opcode := op, params := params,
                   noreply := true, crc := crc }
  let s := if late then s.lateRecord else s
  let s1 := s.setPairD { s.pair with reqAt := if late then none else some at_.units }
  match opCore {} q s1 with
  | .done t _ log =>
    let t := t.setPairD { t.pair with reqAt := none }
    let t := match log with
      | some obj => t.logE 8 s.partnerId kCMD false obj op crc
      | none => t
    t.incSat F.LINK_MIRRORS
  | _ => s.toSync

/-- A SEQ_OFFSET drawn on the active unit is adopted (R270, R278). -/
def State.adoptSeq (s : State) (e off : Nat) : State :=
  let b := s.txB e
  let old := bSeqOff b
  let k := s.txBank * 512 + e
  let s := { s with str := { s.str with txBlk := KV.set s.str.txBlk k (b.take 28 ++ leBytes 2 off ++ b.drop 30) } }
  let s := match KV.find s.str.tx e with
    | some x => s.setTx e { x with adopt := false }
    | none => s
  let s := s.fire Ev.TX_SEQ_ADOPT (txObj e) (e + 65536 * off)
  (s.logE 8 s.partnerId kSTATE false (txObj e) old off).incSat F.LINK_MIRRORS

/-- One record applied. -/
def State.mirrorApply (s : State) : MirrorRec → State
  | .cmd op params priv crc at_ trg => s.mirrorCmd op params priv crc at_ trg
  | .reg addr data priv tick =>
    let late := decide (tick ≤ s.gridTick)
    let s := if late then s.lateRecord else s
    let r : MirrorReg := { tick := if late then s.gridTick + 1 else tick, origin := { code := 8, priv := priv, id := s.partnerId },
                           addr := addr, data := data }
    (s.setPairD { s.pair with regQ := s.pair.regQ ++ [r] }).incSat F.LINK_MIRRORS
  | .seq e off => if e < 512 then s.adoptSeq e (off % 65536) else s

/-- MIRROR_RECORD_RX (R413, R425): applied by a standby; kept for the staging while a clone waits for T_c. -/
def mirrorRecordRx (seq : Nat) (r : MirrorRec) (s : State) : State :=
  if !s.pairLinkUp then s
  else
    let s := s.setPairD { s.pair with mirSeq := seq }
    if s.isStandby then s.mirrorApply r
    else if s.pair.stage.isSome then s.setPairD { s.pair with stageQ := s.pair.stageQ ++ [r] }
    else s

/-! ## Cloning (R425, R426) -/

/-- The configuration this unit has once the staging stands in it: the mirrored registers and tables are the partner's. -/
def State.cloneSaved (s : State) (c : CloneIn) : Saved :=
  let own := s.snapshot
  let fields := c.regs.flatMap (fun q => match findReg q.1 with
    | some r => r.fields.filterMap (fun f =>
        let k := fieldKey q.1 f.lo
        if isConfigKey k || isSwapKey k then some (k, q.2 / 2 ^ f.lo % 2 ^ f.width) else none)
    | none => [])
  { own with
    regs := fields.foldl (fun m p => KV.put (resetAt (keyAddr p.1) (keyLo p.1)) m p.1 p.2) own.regs
    rx := c.rx, rxEn := c.rxEn, tx := c.tx, txEn := c.txEn, graphs := c.graphs, graphEn := c.graphEn }

/-- The units that hold mirrored objects: the tables, the estimators, the graphs, and the ports bussed on either side. -/
def State.cloneUnits (s : State) (c : Saved) : List (Nat × Nat) :=
  [(4, 0), (4, 1), (4, 4), (5, 64)] ++
  ((List.range 16).filter (fun t => s.on (F.TDM_FMT_BUSSED t) || c.value (F.TDM_FMT_BUSSED t).key == 1)).map (fun t => (6, t))

/-- The staging replaces the mirrored objects; entries and graphs are admitted as at a load. -/
def State.cloneLoad (s : State) (c : CloneIn) : State :=
  let o : Origin := { code := 8, priv := true, id := s.partnerId }
  let sv := s.cloneSaved c
  let s := (s.cloneUnits sv).foldl (fun s p => (s.loadUnit sv p.1 p.2).2) s
  ((s.admitRx o sv).admitTx o sv).admitGraphs o sv

/-- Step 4 of Table 18.6: every entry and graph the staging has enabled is admitted. -/
def State.cloneOk (s : State) (c : CloneIn) : Bool :=
  let t := s.cloneLoad c
  (c.rxEn.all (fun k => k / 512 != t.rxBank || t.str.rxFlag.contains k)) &&
  (c.txEn.all (fun k => k / 512 != t.txBank || t.str.txFlag.contains k)) &&
  (c.graphEn.all (fun k => k / 256 != t.gBank || t.dsp.flag.contains k))

/-- CLONE_STAGING_DONE (R425): the timebase is loaded, the staging checked, and T_c fixed. -/
def cloneStagingDone (c : CloneIn) (s : State) : State :=
  if s.pairSt ≠ psCLONING || !s.pair.cloning || s.pair.stage.isSome then s
  else
    let s := ((s.loadTimebase c.time.bits).restartAverages 0).restartAverages 1
    if s.cloneOk c then s.setPairD { s.pair with stage := some c, stageQ := [] } else s.cloneFail 2

/-- The copied states of the TONE nodes of running graphs. -/
def State.loadTones (s : State) (l : List (Nat × Nat × Nat × List Int)) : State :=
  l.foldl (fun s q =>
    { s with dsp := { s.dsp with nst := KV.set s.dsp.nst (nodeKey (s.stateKey q.1) q.2.1 q.2.2.1) q.2.2.2 } }) s

/-- CLONE_APPLY (R425): at T_c the staging takes effect, the busy ends, and the unit enters STANDBY_SYNC. -/
def cloneApply (s : State) : State :=
  match s.pair.stage with
  | none => s
  | some c =>
    if s.pairSt ≠ psCLONING then s
    else s.atTick c.tc (fun s =>
      let q := s.pair.stageQ
      let ms := match s.car.longOp with
        | some l => l.elapsed
        | none => 0
      let s := s.setPairD { s.pair with cloning := false, stage := none, stageQ := [] }
      let s := ((s.cloneLoad c).loadEstimators c.fd).applyShifts c.h
      let s := (s.loadTones c.tones).incSat F.ROLE_CLONES
      let s := ((s.fire Ev.CLONE_DONE roleObj ms).cloneBusyEnd stOK).setPairNow psSYNC
      let s := s.ampUnidle
      q.foldl (fun s r => s.mirrorApply r) s)

end Sys2Proof.Machine
end

