-- ==== Sys2Proof/Machine/Tick.lean ====
section
/-!
DEFINITION. Machine/Tick.lean: the processing tick (R13), time steps as every unit sees them (R124), the 1 ms tick, and what
settles at the end of every command.
-/

namespace Sys2Proof.Machine

/-! ## The end of every command -/

/-- The end of every command: what must hold of the pair at every instant, MSI-X requests, pins and LEDs. -/
def State.settleAll (s : State) : State :=
  let s := if s.alive then s.settlePair else s.setF F.ROLE_STATUS_OK_OUT 0
  let s := s.settleMsix.settlePins
  let lv := s.ledLevels
  { s with pins := { s.pins with leds := lv } }

/-- The frame of every meaning: what the previous command sent is gone, the effect takes place, everything settles. -/
def happen (body : State → State) (s : State) : Host.Outcome State Fault Refusal :=
  .next (body { s with out := [] }).settleAll

/-! ## Time steps -/

/-- A whole-tick step, a host load or a clone's load that is due takes effect, and every unit with times of its own follows
(R124, R125). -/
def State.stepNow (s : State) : State :=
  let old := (s.toBoundary).gridTick
  match s.dueStep with
  | (none, s) => s
  | (some n, s) => ((((((s.rxStep old n).dspStep n).ampStep n).timedOvertaken).trgStep n).stepOutputs n).updateHs

/-- What follows every change a PTP message or timer makes: applied shifts, transmit conditions, grandmaster names. -/
def State.ptpSettle (s : State) : State := s.updateHs.refreshTsMiss.refreshGm

/-! ## The tick (R13) -/

/-- What falls on a boundary before the tick's blocks are read: a step, deadlines, live values, swaps, hand-over and an entry
into a lower power state that has waited for one (R466), a clone's T_c, outputs that start, mirrored register writes. -/
def State.boundaryDue (s : State) : State :=
  let t := s.gridTick
  let s := (s.deadlines t).applyParams t
  let s := oldGroupLeave (graphSwapAt (txSwapAt (rxSwapAt s)))
  let s := cloneApply (handoverAtTh s).entryProceed
  s.startDue.applyRegQ t

/-- The memory errors of a tick: records and events, Burin memories, a peer lost, a repair not served (R334, R338). -/
def State.tickErrors (s : State) (l : List (Nat × EccAt)) : State :=
  l.foldl (fun s e =>
    let s := (s.memError e.1 e.2).burinEcc e.2
    match e.2 with
    | .peer dev => ({ s with str := { s.str with peers := KV.erase s.str.peers dev } }).refreshReam
    | .history => s.incSat F.LINK_REPAIR_DROP
    | _ => s) s

/-- The units whose block a full Post of an index drops. -/
def postDrops (l : List (Nat × EccAt)) (i : Nat) : List Nat :=
  l.filterMap (fun e => match e.2 with
    | .postDrop k u => if k = i then some u else none
    | _ => none)

/-- What comes at the boundary of a whole second. -/
def State.tickSecond (s : State) (inp : TickIn) : State :=
  ((((s.rxSecond).pdmSecond inp.mics).burinSecond).ampSecond inp.amps).slackSecond

/-- The blocks of a tick move: inputs are read and played out, outputs presented, packets built, sheets released. -/
def State.tickBlocks (s : State) (t : Nat) (inp : TickIn) : State :=
  let jit := inp.ecc.filterMap (fun e => match e.2 with
    | .jitter n c => some (n, c)
    | _ => none)
  let dly := inp.ecc.filterMap (fun e => match e.2 with
    | .delay g n c => some (g, n, c)
    | _ => none)
  let pdm := inp.pdm.filter (fun q => !(postDrops inp.ecc 11).contains (q.1 / 2))
  let rings := inp.rings.filter (fun q => !(postDrops inp.ecc 13).contains q.1)
  let s := ((s.freshInputs.playTick t jit).tdmTickIn (postDrops inp.ecc 10)).pdmTick t pdm
  let s := ((s.ringsTick t rings false).presentTick t).keepOutputs t
  let s := ((s.tdmTickOut t).ringsTick t rings true).ampTick t (postDrops inp.ecc 12)
  (s.txTick t).releaseTick t dly

/-- TICK_BOUNDARY (R13): the clock reaches the next boundary of the grid and its tick is processed. -/
def tickBoundary (inp : TickIn) (s : State) : State :=
  let s := s.stepNow.toBoundary
  let t := s.gridTick
  let s := ((s.boundaryDue.pairTick t).tickBlocks t inp).tickErrors inp.ecc
  let s := s.diagPilots
  let s := if t % s.tps = 0 then s.tickSecond inp else s
  { s with str := { s.str with lastTick := some t }, time := { s.time with onGrid := false } }

/-! ## The 1 ms tick (R170) -/

/-- REF_TICK: the selector's evaluation, and what else counts milliseconds. -/
def msTick (inp : RefTickIn) (s : State) : State :=
  let s := (refTick inp s).proofMs
  let s := s.setPairD { s.pair with pllMs := if s.on F.LOOP_STATUS_PLL_LOCK then 0 else s.pair.pllMs + 1 }
  let s := match s.car.longOp with
    | some l => { s with car := { s.car with longOp := some { l with elapsed := l.elapsed + 1 } } }
    | none => s
  if inp.second then s.oscSecond else s

/-! ## Clocks -/

/-- MEDIA_PLL_UNLOCK as every unit on the media clock sees it (R195, R350, R382). -/
def pllLost (s : State) : State :=
  if s.on F.LOOP_STATUS_PLL_LOCK then s.pllUnlock.tdmPllLost.pdmPllLost.ampPllLost else s

/-- MEDIA_PLL_LOCK as every unit on the media clock sees it. -/
def pllBack (s : State) : State := if s.on F.LOOP_STATUS_PLL_LOCK then s else s.pllLock.tdmPllBack

/-- RETRAIN_PASS_END, and what the ageing monitor takes of it (R336, R440). -/
def retrainEnd (margins : List Nat) (widens : Bool) (s : State) : State :=
  let was := worstMargin ((List.range 4).map (fun k => s.getF (memMargin k)))
  if s.mem.live then (retrainPassEnd margins widens s).trainMonitor was else s

/-- ASYM_TRACK_PERIOD under the limit in force, and the hour's mean (R129, R457). -/
def asymPeriod (est : Int) (s : State) : State :=
  let lim := [10, 30, 100, 300, 1000, 3000, 10000].getD s.trustCode 0
  if s.asymActive then (asymTrackPeriod lim est s).asymMinute est else s

/-- AMP_TRIP, under a proof that drives the channel too (R376, R492). -/
def tripNow (x : Nat) (t : TripIn) (s : State) : State :=
  if s.proofDrives x then (s.tripRecord x t).proofTrip x else ampTrip x t s

/-- A cycle of the media clock in which nothing is commanded: the timebase counts it, and a second that passes moves the
always-on seconds (R108, R112). On a tick boundary that is not yet processed it stands, and without power or clock nothing
counts (log entry 6). -/
def State.mediaCycle (s : State) : State :=
  if !s.alive || s.time.onGrid then s
  else
    let sec0 := s.time.sec
    let s1 := s.setGrid (s.time.sec * s.rate + s.time.cyc + 1)
    let s2 := { s1 with time := { s1.time with onGrid := decide (s1.time.cyc % 3072 = 0) } }
    if s2.time.sec > sec0 then s2.aoTick 1 else s2

/-! ## Accesses that the rows name -/

/-- A write of single bits of a register: mask and data of a mask-data word (R5). -/
def maskData (mask data : Nat) : Nat := mask * 65536 + data

/-- A write that commits a multi-word value; the stored parity of its shadow may fail (R63). -/
def commitWrite (via : Via) (addr v : Nat) (bad : Option Nat) (s : State) : State :=
  let (f, s) := s.writeReg { via.access with shadowBad := bad } addr v
  s.writeAnswer via f

/-- A write of one PCIe DWORD or SPI word; a PCIe write of less than a DWORD is a bus error (R76, R77). -/
def plainWrite (via : Via) (addr be v : Nat) (s : State) : State :=
  match via with
  | .spi _ => hostWrite via addr v s
  | _ => if be = 15 then hostWrite via addr v s else (s.busError via.origin 2 addr).emit (.pcieUr true)

/-- A write of SWAP = 1 in the register that holds it (R68). -/
def swapWrite (via : Via) (addr : Nat) (s : State) : State :=
  let (sub, u, off) := addrUnit addr
  match swapBit sub u off with
  | some b => hostWrite via addr (maskData (2 ^ b) (2 ^ b)) s
  | none => s

/-- An SPI register write frame: carried out once its data have arrived (R45). -/
def spiWriteFrame (secLow : Bool) (bytes : List Byte) (s : State) : State :=
  if bytes.head? ≠ some 0x02 || bytes.length < 9 then s.discard .spi
  else hostWrite (.spi secLow) (beAt bytes 1 4) (beAt bytes 5 4) s

/-- An access that does not cross (R79): acts only where the target is absent. -/
def fallback (via : Via) (addr : Nat) (write : Option Nat) (s : State) : State :=
  let (sub, u, _) := addrUnit addr
  if !s.absent sub u then s
  else match write with
    | some v => hostWrite via addr v s
    | none => hostRead via addr s

/-- A vector unmasked, with MSI-X on or off in the function (R87): a pending message is sent. -/
def msixUnmask (v : Nat) (on : Bool) (s : State) : State :=
  let l := if s.ev.msixUnmasked.contains v then s.ev.msixUnmasked else v :: s.ev.msixUnmasked
  let s := { s with ev := { s.ev with msixOn := on, msixUnmasked := l } }
  if on && s.ev.msixBits.contains v then
    ({ s with ev := { s.ev with msixBits := without s.ev.msixBits v } }).emit (.msix v)
  else s

/-- A port's happenings where the power state keeps the port powered (R19, R470). -/
def State.whenPort (s : State) (p : Nat) (f : State → State) : State := if s.alive && !s.unpowered 3 p then f s else s

end Sys2Proof.Machine
end

