-- ==== Sys2Proof/Machine/ExecCarrier.lean ====
section
/-!
DEFINITION. Machine/ExecCarrier.lean: the meanings of what arrives on the carriers and of the interpreter's own steps.
-/

namespace Sys2Proof.Machine

/-- MAILBOX_DOORBELL (R44): Write of MBX.DOORBELL copies the request and CRC into the mailbox slot. -/
def execMailboxDoorbell (via : Via) (data : Word) (s : State) : Host.Outcome State Fault Refusal :=
  happen (fun s => s.whenReached (hostWrite via 0x00022004 data.toNat)) s

/-- MAILBOX_REPLY_RELEASE (R53): W1C of MBX.STATUS.REPLY_READY releases the held reply. -/
def execMailboxReplyRelease (via : Via) (data : Word) (s : State) : Host.Outcome State Fault Refusal :=
  happen (fun s => s.whenReached (hostWrite via 0x00022008 data.toNat)) s

/-- SPI_COMMAND_FRAME (R45): An SPI chip-select frame carrying a command packet is judged and enters the SPI slot. -/
def execSpiCommandFrame (secLow : Bool) (bytes : List Byte) (s : State) : Host.Outcome State Fault Refusal :=
  happen (fun s => s.whenReached (spiCommand secLow bytes)) s

/-- SPI_REPLY_FETCH (R45): SPI frame that clocks out the held reply and releases it when complete. -/
def execSpiReplyFetch (clocked : Nat) (s : State) : Host.Outcome State Fault Refusal :=
  happen (fun s => s.whenReached (Sys2Proof.Machine.spiReplyFetch clocked)) s

/-- SPI_EVENT_FETCH (R45): SPI frame that clocks out the oldest event report. -/
def execSpiEventFetch (clocked : Nat) (s : State) : Host.Outcome State Fault Refusal :=
  happen (fun s => s.whenReached (Sys2Proof.Machine.spiEventFetch clocked)) s

/-- SPI_REGISTER_WRITE (R45): SPI register write transaction answered with a status byte. -/
def execSpiRegisterWrite (secLow : Bool) (bytes : List Byte) (s : State) : Host.Outcome State Fault Refusal :=
  happen (fun s => s.whenReached (spiWriteFrame secLow bytes)) s

/-- NET_CONTROL_DATAGRAM (R48): A control UDP datagram is checked for session, tag and replay and enters the network slot. -/
def execNetControlDatagram (port : Fin 4) (src : Nat) (sport : Nat) (off : Nat) (more : Bool) (bytes : List Byte) (s : State) : Host.Outcome State Fault Refusal :=
  happen (fun s => s.whenPort port (netDatagram port src sport off more bytes)) s

/-- DATAGRAM_REASSEMBLY_TIMEOUT (R48): A fragmented control datagram not complete within 100 ms is dropped and counted. -/
def execDatagramReassemblyTimeout (src : Nat) (s : State) : Host.Outcome State Fault Refusal :=
  happen (fun s => s.whenReached (reassemblyTimeout src)) s

/-- UART_LINE (R50): A complete Abaef line is parsed and enters the UART slot. -/
def execUartLine (svcEn : Bool) (line : List Byte) (s : State) : Host.Outcome State Fault Refusal :=
  happen (fun s => s.whenReached ((fun s => Sys2Proof.Machine.uartLine line { s with pins := { s.pins with svcEn := svcEn } }))) s

/-- UART_LINE_TIMEOUT (R50): A partial UART line idle for 30 s is discarded and counted. -/
def execUartLineTimeout (s : State) : Host.Outcome State Fault Refusal :=
  happen (fun s => s.whenReached ((fun s => s.discard .uart))) s

/-- INTERPRETER_SERVE (R52): The interpreter takes the next occupied slot round-robin and executes its command. -/
def execInterpreterServe (svcEn : Bool) (o : Outside) (s : State) : Host.Outcome State Fault Refusal :=
  happen (Sys2Proof.Machine.interpreterServe svcEn o) s

/-- LONG_OP_END (R53): A long operation ends, writes its reply and ends busy. -/
def execLongOpEnd (r : LongEnd) (s : State) : Host.Outcome State Fault Refusal :=
  happen (fun s => s.whenAlive (Sys2Proof.Machine.longOpEnd r)) s

/-- UART_EVENT_LINE (R90): A waiting event report is sent on the UART between reply lines. -/
def execUartEventLine (s : State) : Host.Outcome State Fault Refusal :=
  happen (fun s => s.whenReached (uartEvent)) s

/-- MSIX_VECTOR_UNMASK (R87): Unmasking an MSI-X vector with its pending bit set sends the message. -/
def execMsixVectorUnmask (v : Fin 32) (on : Bool) (s : State) : Host.Outcome State Fault Refusal :=
  happen (fun s => s.whenReached (msixUnmask v on)) s

/-- UART_REPLY_LINE_SENT (R51): The last character of a UART reply line leaves the pin, so a pending BAUD change takes effect and event lines may follow. -/
def execUartReplyLineSent (s : State) : Host.Outcome State Fault Refusal :=
  happen (fun s => s.whenReached (uartReplySent)) s

end Sys2Proof.Machine
end

