-- ==== Sys2Proof/Machine/ExecClock.lean ====
section
/-!
DEFINITION. Machine/ExecClock.lean: the meanings of references, selector, loop and outputs.
-/

namespace Sys2Proof.Machine

/-- REF_TICK (R170): The 1 ms evaluation of monitors, consensus, selector and switch machine. -/
def execRefTick (inp : RefTickIn) (s : State) : Host.Outcome State Fault Refusal :=
  happen (fun s => s.whenAlive (msTick inp)) s

/-- REF_QUALIFY (R163): A qualification timer reaches zero and the reference becomes QUALIFIED. -/
def execRefQualify (n : Fin 7) (s : State) : Host.Outcome State Fault Refusal :=
  happen (fun s => s.whenAlive (Sys2Proof.Machine.refQualify n)) s

/-- REF_DWELL_EXPIRY (R165): A SUSPECT reference's dwell timer reaches zero and it is disqualified. -/
def execRefDwellExpiry (n : Fin 7) (s : State) : Host.Outcome State Fault Refusal :=
  happen (fun s => s.whenAlive (Sys2Proof.Machine.refDwellExpiry n)) s

/-- REF_CLEAR_EXPIRY (R165): A SUSPECT reference's clear timer reaches zero and it returns to QUALIFIED or ACTIVE. -/
def execRefClearExpiry (n : Fin 7) (s : State) : Host.Outcome State Fault Refusal :=
  happen (fun s => s.whenAlive (Sys2Proof.Machine.refClearExpiry n)) s

/-- WCK_STOP_DETECT (R178): No WCK_IN or PPS edge for 2 expected periods fails the reference. -/
def execWckStopDetect (n : Fin 2) (s : State) : Host.Outcome State Fault Refusal :=
  happen (fun s => s.whenAlive (wckStop (4 + n))) s

/-- WCK_RATE_RECOGNISED (R177): A rate held within ±1,000 ppm for 100 ms is recognised. -/
def execWckRateRecognised (n : Fin 2) (meas : Nat) (s : State) : Host.Outcome State Fault Refusal :=
  happen (fun s => s.whenAlive (wckRecognised (4 + n) meas)) s

/-- SWITCH_START (R169): A switch to a target starts once the HOLDOFF spacing allows. -/
def execSwitchStart (s : State) : Host.Outcome State Fault Refusal :=
  happen (fun s => s.whenAlive (Sys2Proof.Machine.switchStart)) s

/-- BUILD_OUT (R173): MEASURE ends and the measured phase is absorbed, the target becoming ACTIVE. -/
def execBuildOut (drift : Int) (resid : Int) (s : State) : Host.Outcome State Fault Refusal :=
  happen (fun s => s.whenAlive (Sys2Proof.Machine.buildOut drift resid)) s

/-- SETTLE_STEP (R173): Each 2 s of SETTLE raises the loop bandwidth code. -/
def execSettleStep (s : State) : Host.Outcome State Fault Refusal :=
  happen (fun s => s.whenAlive (Sys2Proof.Machine.settleStep)) s

/-- HOLDOVER_SECOND (R190): Each second the history is recorded or the holdover error predicted. -/
def execHoldoverSecond (avg : Int) (s : State) : Host.Outcome State Fault Refusal :=
  happen (fun s => s.whenAlive (Sys2Proof.Machine.holdoverSecond avg)) s

/-- MEDIA_PLL_UNLOCK (R194): The media PLL loses lock and outputs go inactive. -/
def execMediaPllUnlock (s : State) : Host.Outcome State Fault Refusal :=
  happen (fun s => s.whenAlive (pllLost)) s

/-- MEDIA_PLL_LOCK (R194): The media PLL regains lock after 1 ms within 1 ns. -/
def execMediaPllLock (s : State) : Host.Outcome State Fault Refusal :=
  happen (fun s => s.whenAlive (pllBack)) s

/-- ALIGN_AT_S (R199): At second S the named outputs are re-aligned. -/
def execAlignAtS (s : State) : Host.Outcome State Fault Refusal :=
  happen (fun s => s.whenAlive (Sys2Proof.Machine.alignAtS)) s

/-- ESMC_PDU_RX (R167): An ESMC PDU sets the quality level of REF2 or REF3. -/
def execEsmcPduRx (port : Fin 2) (ql : Ql) (s : State) : Host.Outcome State Fault Refusal :=
  happen (fun s => s.whenAlive (esmcLevel port ql.level)) s

/-- ESMC_TIMEOUT (R167): No ESMC PDU for 5 s makes the quality level 15. -/
def execEsmcTimeout (port : Fin 2) (s : State) : Host.Outcome State Fault Refusal :=
  happen (fun s => s.whenAlive (esmcLevel port 15)) s

end Sys2Proof.Machine
end

