-- ==== Sys2Proof/Machine/ExecCmd.lean ====
section
/-!
DEFINITION. Machine/ExecCmd.lean: the meanings of the interpreter's operations, one per row: the gate, the operation, the reply.
-/

namespace Sys2Proof.Machine

/-- STORE (R102): Long operation that commits the log and writes the running configuration to the target bank, then its commit record. -/
def execStore (q : Req) (s : State) : Host.Outcome State Fault Refusal :=
  happen (serveOp 0x0010 opStore q) s

/-- RECALL (R104): Long operation that loads the newest valid bank and rewrites only the units that differ. -/
def execRecall (q : Req) (s : State) : Host.Outcome State Fault Refusal :=
  happen (serveOp 0x0011 opRecall q) s

/-- FACTORY_RECALL (R105): Long operation that loads the factory configuration in the manner of RECALL. -/
def execFactoryRecall (q : Req) (s : State) : Host.Outcome State Fault Refusal :=
  happen (serveOp 0x0012 opFactoryRecall q) s

/-- LOG_READ (R98): Returns up to 127 Watermark Log entries in sequence order. -/
def execLogRead (q : Req) (s : State) : Host.Outcome State Fault Refusal :=
  happen (serveOp 0x0020 opLogRead q) s

/-- LOG_FLUSH (R94): Long operation that ends when every entry made before it is committed or lost. -/
def execLogFlush (q : Req) (s : State) : Host.Outcome State Fault Refusal :=
  happen (serveOp 0x0021 opLogFlush q) s

/-- REG_READ (R42): Reads 1 to 64 consecutive register words through the interpreter. -/
def execRegRead (q : Req) (s : State) : Host.Outcome State Fault Refusal :=
  happen (serveOp 0x0030 opRegRead q) s

/-- REG_WRITE (R42): Checks, then writes, 1 to 64 consecutive mask-data words all or none. -/
def execRegWrite (q : Req) (s : State) : Host.Outcome State Fault Refusal :=
  happen (serveOp 0x0031 opRegWrite q) s

/-- SELFTEST (R300): Long operation that self-tests one subsystem or the whole device and returns a fail mask. -/
def execSelftest (q : Req) (s : State) : Host.Outcome State Fault Refusal :=
  happen (serveOp 0x0040 opSelftest q) s

/-- FW_BLOCK (R43): Assembles a firmware patch block in staging, and with FINAL writes it to the patch area as a long operation. -/
def execFwBlock (q : Req) (s : State) : Host.Outcome State Fault Refusal :=
  happen (serveOp 0x0050 opFwBlock q) s

/-- FW_COMMIT (R43): Checks the CRC-32C of the four patch blocks so the patch is used from the next cold start. -/
def execFwCommit (q : Req) (s : State) : Host.Outcome State Fault Refusal :=
  happen (serveOp 0x0051 opFwCommit q) s

/-- INFO (R41): Returns chip ID, firmware version, configuration generation, power state and pair state. -/
def execInfo (q : Req) (s : State) : Host.Outcome State Fault Refusal :=
  happen (serveOp 0x0060 opInfo q) s

/-- SESSION_SET (R49): Privileged MGT SET that configures network session role, event flag and key. -/
def execSessionSet (q : Req) (s : State) : Host.Outcome State Fault Refusal :=
  happen (serveOp 0x0002 (onUnits (fun b u => b == 0 && u == 1) opSessionSet) q) s

/-- OBJ_GET (R38): Returns an object's parameter block. -/
def execObjGet (sub : Nat) (q : Req) (s : State) : Host.Outcome State Fault Refusal :=
  happen (serveOp (sub % 256 * 256 + 1) (opObjGet sub) q) s

/-- OBJ_SET (R38): Writes an object's parameter block, refused with BAD_STATE for RW configuration of an enabled unit. -/
def execObjSet (sub : Nat) (q : Req) (s : State) : Host.Outcome State Fault Refusal :=
  happen (serveOp (sub % 256 * 256 + 2) (opObjSet sub) q) s

/-- OBJ_ENABLE (R39): Sets the EN bit of a unit or units. -/
def execObjEnable (sub : Nat) (q : Req) (s : State) : Host.Outcome State Fault Refusal :=
  happen (serveOp (sub % 256 * 256 + 3) (opObjEnable sub) q) s

/-- OBJ_DISABLE (R39): Clears the EN bit of a unit or units. -/
def execObjDisable (sub : Nat) (q : Req) (s : State) : Host.Outcome State Fault Refusal :=
  happen (serveOp (sub % 256 * 256 + 4) (opObjDisable sub) q) s

/-- OBJ_STATUS (R38): Returns an object's status block. -/
def execObjStatus (sub : Nat) (q : Req) (s : State) : Host.Outcome State Fault Refusal :=
  happen (serveOp (sub % 256 * 256 + 5) (opObjStatus sub) q) s

/-- NET_PORT_SET (R208): Sets a port's layer-3 parameter block. -/
def execNetPortSet (q : Req) (s : State) : Host.Outcome State Fault Refusal :=
  happen (serveOp 0x0302 (onUnits (fun b u => b == 3 && decide (u < 4)) (wholeUnit opNetPortSet)) q) s

/-- RX_ENTRY_SET (R232): Writes a receive stream entry's parameter block. -/
def execRxEntrySet (q : Req) (s : State) : Host.Outcome State Fault Refusal :=
  happen (serveOp 0x0402 (onUnits (fun b u => b == 4 && u == 0) opRxSet) q) s

/-- RX_ENTRY_ENABLE (R234): Sets a receive entry's enable flag after the checks of Table 10.2. -/
def execRxEntryEnable (q : Req) (s : State) : Host.Outcome State Fault Refusal :=
  happen (serveOp 0x0403 (onUnits (fun b u => b == 4 && u == 0) opRxEnable) q) s

/-- RX_ENTRY_DISABLE (R233): Clears a receive entry's enable flag and frees its jitter buffer. -/
def execRxEntryDisable (q : Req) (s : State) : Host.Outcome State Fault Refusal :=
  happen (serveOp 0x0404 (onUnits (fun b u => b == 4 && u == 0) opRxDisable) q) s

/-- TX_ENTRY_SET (R262): Writes a transmit stream entry's parameter block. -/
def execTxEntrySet (q : Req) (s : State) : Host.Outcome State Fault Refusal :=
  happen (serveOp 0x0402 (onUnits (fun b u => b == 4 && u == 1) opTxSet) q) s

/-- TX_ENTRY_ENABLE (R263): Sets a transmit entry's enable flag after the checks of Table 11.2, start two ticks later. -/
def execTxEntryEnable (q : Req) (s : State) : Host.Outcome State Fault Refusal :=
  happen (serveOp 0x0403 (onUnits (fun b u => b == 4 && u == 1) opTxEnable) q) s

/-- TX_ENTRY_DISABLE (R270): Clears a transmit entry's enable flag, with stop two ticks later. -/
def execTxEntryDisable (q : Req) (s : State) : Host.Outcome State Fault Refusal :=
  happen (serveOp 0x0404 (onUnits (fun b u => b == 4 && u == 1) opTxDisable) q) s

/-- GRAPH_HEADER_SET (R310): Writes a graph's 16-byte header. -/
def execGraphHeaderSet (q : Req) (s : State) : Host.Outcome State Fault Refusal :=
  happen (serveOp 0x0502 (onUnits (fun b u => b == 5 && u == 64) opGraphSet) q) s

/-- GRAPH_ENABLE (R320): Enables a graph after the checks of Table 13.6, released two ticks later. -/
def execGraphEnable (q : Req) (s : State) : Host.Outcome State Fault Refusal :=
  happen (serveOp 0x0503 (onUnits (fun b u => b == 5 && u == 64) opGraphEnable) q) s

/-- GRAPH_DISABLE (R321): Disables a graph; no release from the next boundary. -/
def execGraphDisable (q : Req) (s : State) : Host.Outcome State Fault Refusal :=
  happen (serveOp 0x0504 (onUnits (fun b u => b == 5 && u == 64) opGraphDisable) q) s

/-- TDM_DISABLE (R345): Clears a TDM port's EN through a reset path that needs no port clock. -/
def execTdmDisable (q : Req) (s : State) : Host.Outcome State Fault Refusal :=
  happen (serveOp 0x0604 (onUnits (fun b u => b == 6 && decide (u < 16)) (opUnitDisable 6)) q) s

/-- TDM_STATUS (R345): Returns a TDM port's status block from the Klonik copy. -/
def execTdmStatus (q : Req) (s : State) : Host.Outcome State Fault Refusal :=
  happen (serveOp 0x0605 (onUnits (fun b u => b == 6 && decide (u < 16)) (wholeUnit opTdmStatus)) q) s

/-- AMP_DISABLE (R386): Clears an amplifier channel's EN even while its clock is absent. -/
def execAmpDisable (q : Req) (s : State) : Host.Outcome State Fault Refusal :=
  happen (serveOp 0x0804 (onUnits (fun b u => b == 8 && decide (u < 8)) (opUnitDisable 8)) q) s

/-- AMP_STATUS (R386): Returns an amplifier channel's status block from the 1 ms copy. -/
def execAmpStatus (q : Req) (s : State) : Host.Outcome State Fault Refusal :=
  happen (serveOp 0x0805 (onUnits (fun b u => b == 8 && decide (u < 8)) (wholeUnit opAmpStatus)) q) s

/-- TSQ_READ (R141): Removes and returns up to 16 transmit timestamp entries. -/
def execTsqRead (q : Req) (s : State) : Host.Outcome State Fault Refusal :=
  happen (serveOp 0x0112 opTsqRead q) s

/-- TRG_ARM (R151): Arms 1 to 32 trigger units all or none. -/
def execTrgArm (q : Req) (s : State) : Host.Outcome State Fault Refusal :=
  happen (serveOp 0x0110 opTrgArm q) s

/-- TRG_DISARM (R151): Disarms the armed trigger units named in a mask. -/
def execTrgDisarm (q : Req) (s : State) : Host.Outcome State Fault Refusal :=
  happen (serveOp 0x0111 opTrgDisarm q) s

/-- ALIGN (R199): Schedules re-alignment of misaligned PPS and control-cycle outputs at a TAI second. -/
def execAlign (q : Req) (s : State) : Host.Outcome State Fault Refusal :=
  happen (serveOp 0x0210 opAlign q) s

/-- MDIO_READ (R225): Clause 22 or 45 read of a PHY register. -/
def execMdioRead (q : Req) (answer : Option Nat) (s : State) : Host.Outcome State Fault Refusal :=
  happen (serveOp 0x0310 (fun q s => if q.params.length = 8 && q.field 1 1 % 2 = 1 then .bad 17 else opMdio answer q s) q) s

/-- MDIO_WRITE (R225): Privileged Clause 22 or 45 write of a PHY register. -/
def execMdioWrite (q : Req) (s : State) : Host.Outcome State Fault Refusal :=
  happen (serveOp 0x0310 (fun q s => if q.params.length = 8 && q.field 1 1 % 2 = 0 then .bad 17 else opMdio none q s) q) s

/-- RX_SWAP (R250): Command that requests a receive table bank swap. -/
def execRxSwap (q : Req) (s : State) : Host.Outcome State Fault Refusal :=
  happen (serveOp 0x0410 opRxSwap q) s

/-- DIR_READ (R253): Returns peer directory entries in device ID order. -/
def execDirRead (q : Req) (s : State) : Host.Outcome State Fault Refusal :=
  happen (serveOp 0x0420 opDirRead q) s

/-- DIR_STREAM (R253): Returns a peer's stream descriptor as SDP text. -/
def execDirStream (q : Req) (s : State) : Host.Outcome State Fault Refusal :=
  happen (serveOp 0x0422 opDirStream q) s

/-- SDP_IMPORT (R254): Configures a receive entry from a session description. -/
def execSdpImport (q : Req) (s : State) : Host.Outcome State Fault Refusal :=
  happen (serveOp 0x0421 opSdpImport q) s

/-- DIR_IMPORT (R254): Files a session description into the peer directory. -/
def execDirImport (q : Req) (s : State) : Host.Outcome State Fault Refusal :=
  happen (serveOp 0x0423 opDirImport q) s

/-- TX_SWAP (R272): Command that requests a transmit table bank swap. -/
def execTxSwap (q : Req) (s : State) : Host.Outcome State Fault Refusal :=
  happen (serveOp 0x0411 opTxSwap q) s

/-- SDP_EXPORT (R275): Returns the session description of a transmit entry. -/
def execSdpExport (q : Req) (s : State) : Host.Outcome State Fault Refusal :=
  happen (serveOp 0x0424 opSdpExport q) s

/-- GRAPH_SCHED (R306): Returns the scheduling block of a graph or BIND 2 entry. -/
def execGraphSched (q : Req) (s : State) : Host.Outcome State Fault Refusal :=
  happen (serveOp 0x0512 opGraphSched q) s

/-- GRAPH_LOAD (R311): Writes part of a graph image. -/
def execGraphLoad (q : Req) (s : State) : Host.Outcome State Fault Refusal :=
  happen (serveOp 0x0520 opGraphLoad q) s

/-- GRAPH_READ (R311): Returns bytes of a graph image. -/
def execGraphRead (q : Req) (s : State) : Host.Outcome State Fault Refusal :=
  happen (serveOp 0x0521 opGraphRead q) s

/-- GRAPH_PARAM (R317): Writes live node fields, applied at the first tick boundary at least one tick later. -/
def execGraphParam (q : Req) (s : State) : Host.Outcome State Fault Refusal :=
  happen (serveOp 0x0522 opGraphParam q) s

/-- METER_READ (R316): Returns peak and RMS of a METER node's channels. -/
def execMeterRead (q : Req) (s : State) : Host.Outcome State Fault Refusal :=
  happen (serveOp 0x0524 opMeterRead q) s

/-- GRAPH_SWAP (R322): Command that requests a graph bank swap. -/
def execGraphSwap (q : Req) (s : State) : Host.Outcome State Fault Refusal :=
  happen (serveOp 0x0523 opGraphSwap q) s

/-- MEM_RETRAIN (R337): Long operation running a full offline LPDDR4X training. -/
def execMemRetrain (q : Req) (s : State) : Host.Outcome State Fault Refusal :=
  happen (serveOp 0x0910 opMemRetrain q) s

/-- DIAG_OFFLINE (R390): Long operation that runs offline line tests on up to eight channels. -/
def execDiagOffline (q : Req) (s : State) : Host.Outcome State Fault Refusal :=
  happen (serveOp 0x0810 opDiagOffline q) s

/-- DIAG_LIVE (R393): Starts live line tests on the channels of a mask. -/
def execDiagLive (q : Req) (s : State) : Host.Outcome State Fault Refusal :=
  happen (serveOp 0x0811 opDiagLive q) s

/-- DIAG_READ (R401): Returns a channel's last result or its Plate. -/
def execDiagRead (q : Req) (s : State) : Host.Outcome State Fault Refusal :=
  happen (serveOp 0x0812 opDiagRead q) s

/-- PLATE_STORE (R400): Writes the last offline results of a mask as Plates. -/
def execPlateStore (q : Req) (verify : Bool) (s : State) : Host.Outcome State Fault Refusal :=
  happen (serveOp 0x0813 (fun q s => if q.params.length = 8 && bitOf (q.field 5 1) 0 then .bad 21 else opPlate verify q s) q) s

/-- PLATE_CLEAR (R400): PLATE_STORE with CLEAR erases the Plates of a mask. -/
def execPlateClear (q : Req) (verify : Bool) (s : State) : Host.Outcome State Fault Refusal :=
  happen (serveOp 0x0813 (fun q s => if q.params.length = 8 && !bitOf (q.field 5 1) 0 then .bad 21 else opPlate verify q s) q) s

/-- PAIR_TAKEOVER (R423): Fixes T_h at which the pair roles exchange. -/
def execPairTakeover (q : Req) (s : State) : Host.Outcome State Fault Refusal :=
  happen (serveOp 0x0A10 opPairTakeover q) s

/-- PAIR_HEALTH (R432): Returns the own or partner health report. -/
def execPairHealth (q : Req) (s : State) : Host.Outcome State Fault Refusal :=
  happen (serveOp 0x0A11 opPairHealth q) s

/-- LEDGER_READ (R444): Returns ageing ledger records with filters. -/
def execLedgerRead (q : Req) (s : State) : Host.Outcome State Fault Refusal :=
  happen (serveOp 0x0B20 opLedgerRead q) s

/-- BASELINE_RESET (R445): Restarts an R_DS(on) or R_DC trend baseline. -/
def execBaselineReset (q : Req) (s : State) : Host.Outcome State Fault Refusal :=
  happen (serveOp 0x0B12 opBaselineReset q) s

/-- CALENDER_RUN (R447): Command that requests a Calender run. -/
def execCalenderRun (q : Req) (s : State) : Host.Outcome State Fault Refusal :=
  happen (serveOp 0x0B10 opCalRun q) s

/-- CALENDER_APPROVE (R449): Command that approves pending Calender proposals. -/
def execCalenderApprove (q : Req) (s : State) : Host.Outcome State Fault Refusal :=
  happen (serveOp 0x0B11 opCalApprove q) s

/-- PWR_STATE (R465): Begins a transition to the named power state. -/
def execPwrState (q : Req) (s : State) : Host.Outcome State Fault Refusal :=
  happen (serveOp 0x0E10 opPwrState q) s

/-- RESET (R474): Privileged command that resets every domain except AO 1 ms after its reply. -/
def execReset (q : Req) (s : State) : Host.Outcome State Fault Refusal :=
  happen (serveOp 0x0E12 opReset q) s

/-- PROOF_START (R487): Starts a field service proof, taking its resource. -/
def execProofStart (q : Req) (v0 : Int) (v1 : Int) (s : State) : Host.Outcome State Fault Refusal :=
  happen (serveOp 0x0D10 (fun q s => if q.params.length = 16 && q.field 6 1 != 0 then .bad 22 else opProof v0 v1 q s) q) s

/-- PROOF_END (R487): Ends a proof, or every proof with group 0xFF. -/
def execProofEnd (q : Req) (v0 : Int) (v1 : Int) (s : State) : Host.Outcome State Fault Refusal :=
  happen (serveOp 0x0D10 (fun q s => if q.params.length = 16 && q.field 6 1 != 1 then .bad 22 else opProof v0 v1 q s) q) s

/-- PROOF_STATUS (R487): Returns a proof's state, result and device values. -/
def execProofStatus (q : Req) (v0 : Int) (v1 : Int) (s : State) : Host.Outcome State Fault Refusal :=
  happen (serveOp 0x0D10 (fun q s => if q.params.length = 16 && q.field 6 1 != 2 then .bad 22 else opProof v0 v1 q s) q) s

end Sys2Proof.Machine
end

