-- ==== Sys2Proof/Machine/ExecDsp.lean ====
section
/-!
DEFINITION. Machine/ExecDsp.lean: the meanings of graphs, Burins and the Ream.
-/

namespace Sys2Proof.Machine

/-- GRAPH_SWAP_AT_TSW (R322): At T_sw the graph bank flips and releases use the new bank. -/
def execGraphSwapAtTsw (s : State) : Host.Outcome State Fault Refusal :=
  happen (fun s => s.whenAlive (graphSwapAt)) s

/-- GRAPH_PARAM_APPLY (R317): Live node values apply at their tick boundary. -/
def execGraphParamApply (s : State) : Host.Outcome State Fault Refusal :=
  happen (fun s => s.whenAlive (Sys2Proof.Machine.graphParamApply)) s

/-- SHEET_COMPLETE (R287): A Burin finishes a sheet and chooses its next work, lifting where needed. -/
def execSheetComplete (b : Fin 64) (c : Nat) (s : State) : Host.Outcome State Fault Refusal :=
  happen (fun s => s.whenAlive (Sys2Proof.Machine.sheetComplete b c)) s

/-- BACKING_SLICE_END (R299): A backing slice ends and the Burin chooses its next work. -/
def execBackingSliceEnd (b : Fin 64) (c : Nat) (pct : Option Nat) (s : State) : Host.Outcome State Fault Refusal :=
  happen (fun s => s.whenAlive (Sys2Proof.Machine.backingSliceEnd b c pct)) s

/-- BURIN_IDLE_RETRY (R287): An idle Burin retries its search after 0.5 µs. -/
def execBurinIdleRetry (b : Fin 64) (c : Nat) (s : State) : Host.Outcome State Fault Refusal :=
  happen (fun s => s.whenAlive (Sys2Proof.Machine.burinIdleRetry b c)) s

/-- SHEET_DEADLINE (R17): A sheet not complete at its deadline is abandoned with its dependants. -/
def execSheetDeadline (s : State) : Host.Outcome State Fault Refusal :=
  happen (fun s => s.whenAlive (Sys2Proof.Machine.sheetDeadline)) s

/-- BURIN_SELFTEST_DUE (R300): Each second the next Burin's background self-test runs. -/
def execBurinSelftestDue (fail : Fin 4) (s : State) : Host.Outcome State Fault Refusal :=
  happen (fun s => s.whenAlive (Sys2Proof.Machine.burinSelftestDue fail)) s

/-- DRAM_MR4_CHANGE (R330): The LPDDR4X reports a new refresh rate in MR4. -/
def execDramMr4Change (code : Fin 8) (mult : Fin 3) (derate : Bool) (s : State) : Host.Outcome State Fault Refusal :=
  happen (fun s => s.whenAlive (dramMr4 code mult derate)) s

/-- RETRAIN_DUE (R336): A live retrain pass starts on its interval or a temperature move. -/
def execRetrainDue (s : State) : Host.Outcome State Fault Refusal :=
  happen (fun s => s.whenAlive (Sys2Proof.Machine.retrainDue)) s

/-- RETRAIN_PASS_END (R336): A live retrain pass completes and may apply new timing. -/
def execRetrainPassEnd (margins : List Nat) (widens : Bool) (s : State) : Host.Outcome State Fault Refusal :=
  happen (fun s => s.whenAlive (retrainEnd margins widens)) s

/-- SCRUB_PASS_END (R335): A Ream scrub pass ends. -/
def execScrubPassEnd (bad : Nat) (s : State) : Host.Outcome State Fault Refusal :=
  happen (fun s => s.whenAlive (scrubEnd bad)) s

/-- DDR_PHY_UNLOCK (R339): The DDR PHY loses lock and Ream accesses fail as in an outage. -/
def execDdrPhyUnlock (s : State) : Host.Outcome State Fault Refusal :=
  happen (fun s => s.whenAlive (ddrUnlock)) s

/-- DDR_PHY_LOCK (R339): The DDR PHY regains lock and a live retrain starts. -/
def execDdrPhyLock (s : State) : Host.Outcome State Fault Refusal :=
  happen (fun s => s.whenAlive ((fun s => if s.powerSt = 3 then ddrLock s else s))) s

/-- BW_SECOND (R333): Each second Ream bandwidth and read latency are measured. -/
def execBwSecond (avg : Nat) (p99 : Nat) (peak : Nat) (s : State) : Host.Outcome State Fault Refusal :=
  happen (fun s => s.whenAlive (Sys2Proof.Machine.bwSecond avg p99 peak)) s

end Sys2Proof.Machine
end

