-- ==== Sys2Proof/Machine/ExecHealth.lean ====
section
/-!
DEFINITION. Machine/ExecHealth.lean: the meanings of the ageing monitors and the Calender.
-/

namespace Sys2Proof.Machine

/-- RING_OSC_SAMPLE (R438): Hourly ring oscillator degradation measurement. -/
def execRingOscSample (deg : List Int) (s : State) : Host.Outcome State Fault Refusal :=
  happen (fun s => s.whenAlive (Sys2Proof.Machine.ringOscSample deg)) s

/-- REPLICA_SAMPLE (R453): 1 ms replica slack measurement, raising VDD_CORE at once below 30 ps. -/
def execReplicaSample (slack : Int) (sens : Nat) (ack : Bool) (s : State) : Host.Outcome State Fault Refusal :=
  happen (fun s => s.whenAlive (Sys2Proof.Machine.replicaSample slack sens ack)) s

/-- DIE_TEMP_SAMPLE (R439): 10 ms die temperature reading against TEMP_WARN and TEMP_CRIT. -/
def execDieTempSample (t : List Int) (s : State) : Host.Outcome State Fault Refusal :=
  happen (fun s => s.whenAlive (Sys2Proof.Machine.dieTempSample t)) s

/-- DAILY_LEDGER (R443): At each day boundary the daily ageing records are written. -/
def execDailyLedger (d : DayIn) (s : State) : Host.Outcome State Fault Refusal :=
  happen (fun s => s.whenAlive (Sys2Proof.Machine.dailyLedger d)) s

/-- CALENDER_PERIODIC (R447): PERIOD after LAST_RUN a Calender run starts. -/
def execCalenderPeriodic (s : State) : Host.Outcome State Fault Refusal :=
  happen (fun s => s.whenAlive (calPeriodic)) s

/-- CALENDER_RUN_END (R447): A Calender run applies safe values, proposes others and fires CALENDER_REPLAN. -/
def execCalenderRunEnd (s : State) : Host.Outcome State Fault Refusal :=
  happen (fun s => s.whenAlive (calRunEnd)) s

/-- NVM_REFRESH_DUE (R455): The non-volatile refresh interval elapses and pages are rewritten. -/
def execNvmRefreshDue (s : State) : Host.Outcome State Fault Refusal :=
  happen (fun s => s.whenAlive (Sys2Proof.Machine.nvmRefreshDue)) s

/-- SERDES_EYE_SAMPLE (R438): Each second the eye heights of N0 to N3 and the pair lane are measured, driving SERDES_EYE, PAIR_EYE and AGEING_THRESH for monitor 9. -/
def execSerdesEyeSample (eyes : List Nat) (s : State) : Host.Outcome State Fault Refusal :=
  happen (fun s => s.whenAlive (serdesEye eyes)) s

/-- NVM_REFRESH_END (R455): The non-volatile refresh completes its last page, records LAST_REFRESH and the lowest margin, and judges monitor 4. -/
def execNvmRefreshEnd (margin : Nat) (s : State) : Host.Outcome State Fault Refusal :=
  happen (fun s => s.whenAlive (Sys2Proof.Machine.nvmRefreshEnd margin)) s

end Sys2Proof.Machine
end

