-- ==== Sys2Proof/Machine/ExecLocal.lean ====
section
/-!
DEFINITION. Machine/ExecLocal.lean: the meanings of local ports, amplifier channels and line diagnostics.
-/

namespace Sys2Proof.Machine

/-- TDM_FRAME_SYNC (R349): A TDM frame sync places a frame, applies pending swaps, grants and tracks phase. -/
def execTdmFrameSync (port : Fin 16) (f : TdmFrame) (s : State) : Host.Outcome State Fault Refusal :=
  happen (fun s => s.whenAlive (Sys2Proof.Machine.tdmFrameSync port f)) s

/-- TDM_CLOCK_LOST (R350): No BCLK or frame sync for 2 frame periods loses the slave clock. -/
def execTdmClockLost (port : Fin 16) (cause : Fin 16) (s : State) : Host.Outcome State Fault Refusal :=
  happen (fun s => s.whenAlive (Sys2Proof.Machine.tdmClockLost port cause)) s

/-- ZC_TIMEOUT (R354): A zero-crossing wait times out and the change is ramped in. -/
def execZcTimeout (port : Fin 16) (out : Bool) (idx : Fin 32) (s : State) : Host.Outcome State Fault Refusal :=
  happen (fun s => s.whenAlive (Sys2Proof.Machine.zcTimeout port (b2n out) idx)) s

/-- PDM_CLOCK_LOST (R361): Mm_CLK read-back fails for 8 periods and the lane's microphones go to zero. -/
def execPdmClockLost (lane : Fin 8) (s : State) : Host.Outcome State Fault Refusal :=
  happen (fun s => s.whenAlive ((fun s => s.pdmLoss lane 0))) s

/-- PDM_STUCK (R361): A microphone's data bit constant for 1 ms is marked stuck. -/
def execPdmStuck (lane : Fin 8) (mic : Fin 2) (level : Bool) (s : State) : Host.Outcome State Fault Refusal :=
  happen (fun s => s.whenAlive (Sys2Proof.Machine.pdmStuck lane mic level)) s

/-- PDM_ZC_TIMEOUT (R360): A PDM microphone's zero-crossing wait times out. -/
def execPdmZcTimeout (lane : Fin 8) (mic : Fin 2) (s : State) : Host.Outcome State Fault Refusal :=
  happen (fun s => s.whenAlive (Sys2Proof.Machine.pdmZcTimeout lane mic)) s

/-- AMP_TRIP (R378): A protection trip sets a channel's gates low, classifies it and enters FAULT. -/
def execAmpTrip (x : Fin 8) (t : TripIn) (s : State) : Host.Outcome State Fault Refusal :=
  happen (fun s => s.whenAlive (tripNow x t)) s

/-- AMP_BOOTSTRAP_DONE (R374): The 20 µs bootstrap charge of STARTING ends. -/
def execAmpBootstrapDone (x : Fin 8) (s : State) : Host.Outcome State Fault Refusal :=
  happen (fun s => s.whenAlive (Sys2Proof.Machine.ampBootstrapDone x)) s

/-- AMP_STOP_DONE (R375): 10 ms at zero after a stop crossing, all gates go low and the channel is OFF. -/
def execAmpStopDone (x : Fin 8) (s : State) : Host.Outcome State Fault Refusal :=
  happen (fun s => s.whenAlive (Sys2Proof.Machine.ampStopDone x)) s

/-- AMP_ZC_TIMEOUT (R375): An amplifier channel's zero-crossing wait times out. -/
def execAmpZcTimeout (x : Fin 8) (s : State) : Host.Outcome State Fault Refusal :=
  happen (fun s => s.whenAlive (Sys2Proof.Machine.ampZcTimeout x)) s

/-- AMP_RETRY (R380): A retry interval expires and the channel probes or restarts. -/
def execAmpRetry (x : Fin 8) (s : State) : Host.Outcome State Fault Refusal :=
  happen (fun s => s.whenAlive (Sys2Proof.Machine.ampRetry x)) s

/-- AMP_PROBE_END (R380): The 20 ms probe ends in pass or fail. -/
def execAmpProbeEnd (x : Fin 8) (r : Nat) (near : Bool) (acted : Bool) (s : State) : Host.Outcome State Fault Refusal :=
  happen (fun s => s.whenAlive (Sys2Proof.Machine.ampProbeEnd x r near acted)) s

/-- AMP_BACKOFF_RESET (R378): A channel that has run 60 s since its trip returns its back-off to RETRY. -/
def execAmpBackoffReset (x : Fin 8) (s : State) : Host.Outcome State Fault Refusal :=
  happen (fun s => s.whenAlive (Sys2Proof.Machine.ampBackoffReset x)) s

/-- AMP_HOLD_START (R381): A supply, temperature or NTC hold cause begins and stops channels. -/
def execAmpHoldStart (c : Fin 11) (v : Int) (hi : Bool) (s : State) : Host.Outcome State Fault Refusal :=
  happen (fun s => s.whenAlive (Sys2Proof.Machine.ampHoldStart c v hi)) s

/-- AMP_HOLD_CLEAR (R377): A hold cause clears after its release condition and channels restart. -/
def execAmpHoldClear (c : Fin 11) (v : Int) (s : State) : Host.Outcome State Fault Refusal :=
  happen (fun s => s.whenAlive (Sys2Proof.Machine.ampHoldClear c v)) s

/-- CLKMUTE_GATES_OFF (R382): After 10 ms at zero in CLKMUTE the gates go low. -/
def execClkmuteGatesOff (x : Fin 8) (s : State) : Host.Outcome State Fault Refusal :=
  happen (fun s => s.whenAlive (Sys2Proof.Machine.clkmuteGatesOff x)) s

/-- CLKMUTE_RESUME (R382): After 100 ms of valid source and lock the channel resumes. -/
def execClkmuteResume (x : Fin 8) (s : State) : Host.Outcome State Fault Refusal :=
  happen (fun s => s.whenAlive (Sys2Proof.Machine.clkmuteResume x)) s

/-- AMP_CAL_PASS_END (R383): A live calibration pass moves offset and gain corrections. -/
def execAmpCalPassEnd (x : Fin 8) (off : Int) (gain : Int) (s : State) : Host.Outcome State Fault Refusal :=
  happen (fun s => s.whenAlive (ampCalEnd x off gain)) s

/-- DIAG_OFFLINE_END (R391): The offline sequence ends and results and classes are stored. -/
def execDiagOfflineEnd (r : List (Nat × DiagMeas)) (s : State) : Host.Outcome State Fault Refusal :=
  happen (fun s => s.whenAlive (Sys2Proof.Machine.diagOfflineEnd r)) s

/-- LIVE_TEST_DUE (R393): A scheduled live test falls due on its interval. -/
def execLiveTestDue (x : Fin 8) (s : State) : Host.Outcome State Fault Refusal :=
  happen (fun s => s.whenAlive (Sys2Proof.Machine.liveTestDue x)) s

/-- LIVE_WINDOW_END (R395): A 2 s pilot correlation window ends and is counted or reopened. -/
def execLiveWindowEnd (x : Fin 8) (counted : Bool) (z : Nat) (arg : Int) (rdc : Nat) (s : State) : Host.Outcome State Fault Refusal :=
  happen (fun s => s.whenAlive (Sys2Proof.Machine.liveWindowEnd x counted z arg rdc)) s

/-- LIVE_DEFER_TIMEOUT (R395): A frequency without a counted window in DEFER_TIME is deferred. -/
def execLiveDeferTimeout (x : Fin 8) (rdc : Nat) (s : State) : Host.Outcome State Fault Refusal :=
  happen (fun s => s.whenAlive (Sys2Proof.Machine.liveDeferTimeout x rdc)) s

/-- PDM_CLOCK_RETURN (R361): After 1 ms of good Mm_CLK read-back a lost PDM lane clock returns, its microphones deliver samples again and PDM_CLK_BACK fires. -/
def execPdmClockReturn (lane : Fin 8) (s : State) : Host.Outcome State Fault Refusal :=
  happen (fun s => s.whenAlive ((fun s => s.pdmBack lane))) s

/-- PDM_STUCK_CLEAR (R361): A stuck microphone whose data has toggled for 1 ms is cleared and delivers samples again. -/
def execPdmStuckClear (lane : Fin 8) (mic : Fin 2) (s : State) : Host.Outcome State Fault Refusal :=
  happen (fun s => s.whenAlive (Sys2Proof.Machine.pdmStuckClear lane mic)) s

/-- FET_TEMPERATURE_WARNING (R377): TSNSk crosses OTW, which sets PROT.STATUS.OTW and fires AMP_OTW, or falls back below it. -/
def execFetTemperatureWarning (k : Fin 4) (v : Int) (s : State) : Host.Outcome State Fault Refusal :=
  happen (fun s => s.whenAlive (fetWarning k v)) s

/-- CYCLE_BY_CYCLE_LIMIT (R377): The shunt voltage crosses ILIM in a switching period, the conducting pair is turned off for the rest of the period, and LIMIT_CYCLES and AMP_ILIMIT are updated. -/
def execCycleByCycleLimit (x : Fin 8) (s : State) : Host.Outcome State Fault Refusal :=
  happen (fun s => s.whenAlive (cycleLimit x)) s

end Sys2Proof.Machine
end

