-- ==== Sys2Proof/Machine/ExecNet.lean ====
section
/-!
DEFINITION. Machine/ExecNet.lean: the meanings of the network ports and of the streams.
-/

namespace Sys2Proof.Machine

/-- LINK_UP (R206): A port's link comes up. -/
def execLinkUp (port : Fin 4) (speed : Fin 4) (eee : Bool) (refused : Bool) (s : State) : Host.Outcome State Fault Refusal :=
  happen (fun s => s.whenPort port (Sys2Proof.Machine.linkUp port speed eee refused)) s

/-- LINK_DOWN (R207): A port's link goes down; queues flushed and paths lost. -/
def execLinkDown (port : Fin 4) (s : State) : Host.Outcome State Fault Refusal :=
  happen (fun s => s.whenPort port (Sys2Proof.Machine.linkDown port)) s

/-- INGRESS_FRAME (R210): A received frame is sized, filtered, classified and policed into the ingress Post. -/
def execIngressFrame (port : Fin 4) (f : FrameIn) (s : State) : Host.Outcome State Fault Refusal :=
  happen (fun s => s.whenPort port (Sys2Proof.Machine.ingressFrame port f)) s

/-- MEDIA_PACKET_RX (R240): A media packet is judged by the path merger and written to the jitter buffer. -/
def execMediaPacketRx (path : Fin 5) (p : MediaPkt) (at_ : Tai) (s : State) : Host.Outcome State Fault Refusal :=
  happen (fun s => if path.val < 4 then s.whenPort path (Sys2Proof.Machine.mediaPacketRx path p at_) else s.whenAlive (Sys2Proof.Machine.mediaPacketRx path p at_)) s

/-- BEST_EFFORT_FRAME_RX (R223): A best-effort frame is delivered to the host receive ring. -/
def execBestEffortFrameRx (port : Fin 4) (len : Nat) (tag : Option (Nat × Nat)) (ptp : Bool) (at_ : Tai) (buf : Nat × Nat) (s : State) : Host.Outcome State Fault Refusal :=
  happen (fun s => s.whenPort port (bestEffortRx port len tag ptp at_ buf)) s

/-- PAUSE_FRAME_RX (R214): A PAUSE or PFC frame is honoured or counted. -/
def execPauseFrameRx (port : Fin 4) (pfc : Bool) (en : Nat) (quanta : List Nat) (s : State) : Host.Outcome State Fault Refusal :=
  happen (fun s => s.whenPort port (pauseRx port pfc en quanta)) s

/-- PAUSE_EXPIRY (R214): A pause's quanta run out and the queues resume. -/
def execPauseExpiry (port : Fin 4) (queue : Fin 4) (s : State) : Host.Outcome State Fault Refusal :=
  happen (fun s => s.whenPort port (Sys2Proof.Machine.pauseExpiry port queue)) s

/-- ANNOUNCEMENT_RX (R252): A Caska announcement updates the peer directory. -/
def execAnnouncementRx (port : Fin 4) (data : List Byte) (s : State) : Host.Outcome State Fault Refusal :=
  happen (fun s => s.whenPort port (Sys2Proof.Machine.announcementRx port data)) s

/-- PEER_AGE_OUT (R252): An announced peer unseen for three intervals is lost. -/
def execPeerAgeOut (dev : Nat) (s : State) : Host.Outcome State Fault Refusal :=
  happen (fun s => s.whenAlive (Sys2Proof.Machine.peerAgeOut dev)) s

/-- ANNOUNCE_ROUND (R274): Each INTERVAL an announcement round is sent. -/
def execAnnounceRound (s : State) : Host.Outcome State Fault Refusal :=
  happen (fun s => s.whenAlive (Sys2Proof.Machine.announceRound)) s

/-- EGRESS_FRAME_START (R212): The MAC starts the next frame by strict priority. -/
def execEgressFrameStart (port : Fin 4) (at_ : Tai) (s : State) : Host.Outcome State Fault Refusal :=
  happen (fun s => s.whenPort port (egressStart port at_)) s

/-- MAC_UNDERRUN (R215): A started DMA frame runs out of bytes and is ended with inverted FCS. -/
def execMacUnderrun (port : Fin 4) (s : State) : Host.Outcome State Fault Refusal :=
  happen (fun s => s.whenPort port (Sys2Proof.Machine.macUnderrun port)) s

/-- HOST_TX_DESCRIPTOR (R222): The device reads a transmit descriptor, queues the frame and writes status back. -/
def execHostTxDescriptor (port : Fin 4) (desc : List Byte) (frame : List Byte) (at_ : Tai) (s : State) : Host.Outcome State Fault Refusal :=
  happen (fun s => s.whenPort port (Sys2Proof.Machine.hostTxDescriptor port desc frame at_)) s

/-- UTILISATION_SECOND (R216): Each second a port's utilisation is recomputed against the step-down test. -/
def execUtilisationSecond (meas : List (Nat × Nat)) (s : State) : Host.Outcome State Fault Refusal :=
  happen (fun s => s.whenAlive (utilSecond meas)) s

/-- STEP_DOWN_DUE (R216): After 60 s below 40 % of the next speed, a speed step down begins. -/
def execStepDownDue (port : Fin 2) (s : State) : Host.Outcome State Fault Refusal :=
  happen (fun s => s.whenPort port (Sys2Proof.Machine.stepDownDue port)) s

/-- SECOND_PORT_STEP (R217): The second port begins stepping 100 ms after the first is up. -/
def execSecondPortStep (port : Fin 2) (s : State) : Host.Outcome State Fault Refusal :=
  happen (fun s => s.whenPort port (Sys2Proof.Machine.secondPortStep port)) s

/-- SPEED_STEP_DONE (R218): The link comes up at the target speed and the step completes. -/
def execSpeedStepDone (port : Fin 2) (s : State) : Host.Outcome State Fault Refusal :=
  happen (fun s => s.whenPort port (Sys2Proof.Machine.speedStepDone port)) s

/-- STEP_TIMEOUT (R218): A step not up within 3 s restores the previous advertisement. -/
def execStepTimeout (port : Fin 2) (s : State) : Host.Outcome State Fault Refusal :=
  happen (fun s => s.whenPort port (Sys2Proof.Machine.stepTimeout port)) s

/-- PENDING_STREAM_TIMEOUT (R219): A pending stream whose ports are not up within 3 s has its EN cleared. -/
def execPendingStreamTimeout (tx : Bool) (e : Fin 512) (s : State) : Host.Outcome State Fault Refusal :=
  happen (fun s => s.whenAlive (pendingTimeout tx e)) s

/-- LPI_ENTER (R220): Transmit enters low-power idle after 20 µs of empty queues. -/
def execLpiEnter (port : Fin 4) (s : State) : Host.Outcome State Fault Refusal :=
  happen (fun s => s.whenPort port (Sys2Proof.Machine.lpiEnter port)) s

/-- LPI_EXIT (R220): Transmit leaves LPI for a queued frame or 30 µs before a timed launch. -/
def execLpiExit (port : Fin 4) (s : State) : Host.Outcome State Fault Refusal :=
  happen (fun s => s.whenPort port (Sys2Proof.Machine.lpiExit port)) s

/-- FD_ESTIMATOR_UPDATE (R248): A foreign-domain estimator loop update, with state changes of Table 10.5. -/
def execFdEstimatorUpdate (k : Fin 64) (adj : Int) (ratio : Int) (s : State) : Host.Outcome State Fault Refusal :=
  happen (fun s => s.whenAlive (fdUpdate k adj ratio)) s

/-- RX_SWAP_AT_TSW (R250): At T_sw the receive table's active bank flips. -/
def execRxSwapAtTsw (s : State) : Host.Outcome State Fault Refusal :=
  happen (fun s => s.whenAlive (rxSwapAt)) s

/-- OLD_GROUP_LEAVE (R250): Groups used only by the old bank are left after the largest old span. -/
def execOldGroupLeave (s : State) : Host.Outcome State Fault Refusal :=
  happen (fun s => s.whenAlive (Sys2Proof.Machine.oldGroupLeave)) s

/-- TX_SWAP_AT_TSW (R272): At T_sw the transmit table's active bank flips. -/
def execTxSwapAtTsw (s : State) : Host.Outcome State Fault Refusal :=
  happen (fun s => s.whenAlive (txSwapAt)) s

end Sys2Proof.Machine
end

