-- ==== Sys2Proof/Machine/ExecPair.lean ====
section
/-!
DEFINITION. Machine/ExecPair.lean: the meanings of the redundant pair.
-/

namespace Sys2Proof.Machine

/-- HEARTBEAT_RX (R409): A partner heartbeat restarts the timer and drives negotiation. -/
def execHeartbeatRx (h : Heartbeat) (s : State) : Host.Outcome State Fault Refusal :=
  happen (fun s => s.whenAlive (Sys2Proof.Machine.heartbeatRx h)) s

/-- HEARTBEAT_TX (R405): Every 100 µs a heartbeat is sent on the pair link. -/
def execHeartbeatTx (s : State) : Host.Outcome State Fault Refusal :=
  happen (fun s => s.whenAlive (Sys2Proof.Machine.heartbeatTx)) s

/-- HEARTBEAT_TIMEOUT (R410): No heartbeat for 300 µs; the unit acts on Table 18.3. -/
def execHeartbeatTimeout (s : State) : Host.Outcome State Fault Refusal :=
  happen (fun s => s.whenAlive ((fun s => (Sys2Proof.Machine.heartbeatTimeout s).entryProceed))) s

/-- PAIR_LANE_LOCK_LOSS (R410): Pair lane lock is lost and PAIR_LINK_DOWN fires. -/
def execPairLaneLockLoss (s : State) : Host.Outcome State Fault Refusal :=
  happen (fun s => s.whenAlive (laneLockLoss)) s

/-- MIRROR_RECORD_RX (R413): A mirror record is applied on the standby at its boundary. -/
def execMirrorRecordRx (seq : Nat) (r : MirrorRec) (s : State) : Host.Outcome State Fault Refusal :=
  happen (fun s => s.whenAlive (Sys2Proof.Machine.mirrorRecordRx seq r)) s

/-- LOCKSTEP_SHARE_RX (R414): Estimator lines, ratios and H_d from the active unit are applied. -/
def execLockstepShareRx (x : ShareIn) (s : State) : Host.Outcome State Fault Refusal :=
  happen (fun s => s.whenAlive (shareRx x)) s

/-- DIGEST_WINDOW_END (R428): A 16-tick window ends and digests are computed and sent. -/
def execDigestWindowEnd (s : State) : Host.Outcome State Fault Refusal :=
  happen (fun s => s.whenAlive (Sys2Proof.Machine.digestWindowEnd)) s

/-- DIGEST_RX (R429): Partner digests are compared and mismatches judged. -/
def execDigestRx (w : Nat) (digests : List Nat) (flagged : Bool) (s : State) : Host.Outcome State Fault Refusal :=
  happen (fun s => s.whenAlive (Sys2Proof.Machine.digestRx w digests flagged)) s

/-- HEALTH_REPORT_TX (R432): Every 10 ms the health report is sent. -/
def execHealthReportTx (s : State) : Host.Outcome State Fault Refusal :=
  happen (fun s => s.whenAlive (Sys2Proof.Machine.healthReportTx)) s

/-- HEALTH_REPORT_RX (R432): A partner health report is stored. -/
def execHealthReportRx (bytes : List Byte) (s : State) : Host.Outcome State Fault Refusal :=
  happen (fun s => s.whenAlive (Sys2Proof.Machine.healthReportRx bytes)) s

/-- REPAIR_REQUEST_RX (R418): The partner's repair request is served from stream history within the rate. -/
def execRepairRequestRx (e : Fin 512) (seqs : List Nat) (room : Nat) (s : State) : Host.Outcome State Fault Refusal :=
  happen (fun s => s.whenAlive (repairRx e seqs room)) s

/-- PAIR_TAKE_ASSERT (R421): PAIR_TAKE low for 1 µs triggers a takeover or PAIR_TAKE_IN. -/
def execPairTakeAssert (s : State) : Host.Outcome State Fault Refusal :=
  happen (fun s => s.whenAlive (Sys2Proof.Machine.pairTakeAssert)) s

/-- HANDOVER_AT_TH (R423): At T_h the pair roles and SPLIT paths exchange. -/
def execHandoverAtTh (s : State) : Host.Outcome State Fault Refusal :=
  happen (fun s => s.whenAlive ((fun s => (Sys2Proof.Machine.handoverAtTh s).entryProceed))) s

/-- CLONE_STAGING_DONE (R425): Clone data is staged and checked, and T_c is fixed. -/
def execCloneStagingDone (c : CloneIn) (s : State) : Host.Outcome State Fault Refusal :=
  happen (fun s => s.whenAlive (Sys2Proof.Machine.cloneStagingDone c)) s

/-- CLONE_APPLY (R425): At T_c the staging replaces the mirrored objects and the unit enters STANDBY_SYNC. -/
def execCloneApply (s : State) : Host.Outcome State Fault Refusal :=
  happen (fun s => s.whenAlive (Sys2Proof.Machine.cloneApply)) s

/-- CLONE_TIMEOUT (R426): A clone reaching 2.0 s fails. -/
def execCloneTimeout (s : State) : Host.Outcome State Fault Refusal :=
  happen (fun s => s.whenAlive (Sys2Proof.Machine.cloneTimeout)) s

/-- CLONE_RETRY (R426): 10 s after a failed clone with the link up, the clone retries. -/
def execCloneRetry (s : State) : Host.Outcome State Fault Refusal :=
  happen (fun s => s.whenAlive (Sys2Proof.Machine.cloneRetry)) s

/-- PAIR_TAKE_RELEASE (R406): PAIR_TAKE returns high, STATUS.TAKE_IN clears and the PAIR_TAKE_IN condition ends. -/
def execPairTakeRelease (s : State) : Host.Outcome State Fault Refusal :=
  happen (fun s => s.whenAlive (Sys2Proof.Machine.pairTakeRelease)) s

end Sys2Proof.Machine
end

