-- ==== Sys2Proof/Machine/ExecPower.lean ====
section
/-!
DEFINITION. Machine/ExecPower.lean: the meanings of power states, start-up and field service.
-/

namespace Sys2Proof.Machine

/-- PFW_N_FALL (R97): PFW_N low for 1 µs starts the power-fail sequence and commit. -/
def execPfwNFall (s : State) : Host.Outcome State Fault Refusal :=
  happen (fun s => s.whenAlive (Sys2Proof.Machine.pfwNFall)) s

/-- POWER_FAIL_COMMIT_END (R97): The power-fail commit ends and LOG_PFW_DONE fires. -/
def execPowerFailCommitEnd (s : State) : Host.Outcome State Fault Refusal :=
  happen (fun s => if s.alive || s.pwr.boot = 4 then Sys2Proof.Machine.powerFailCommitEnd s else s) s

/-- PFW_N_RISE (R97): PFW_N rises, PFW_END fires and normal commits resume. -/
def execPfwNRise (ms : Nat) (s : State) : Host.Outcome State Fault Refusal :=
  happen (Sys2Proof.Machine.pfwNRise ms) s

/-- LOWER_STATE_ENTER (R466): Entry steps end and LISTEN, DOZE or SHELF is entered. -/
def execLowerStateEnter (s : State) : Host.Outcome State Fault Refusal :=
  happen (Sys2Proof.Machine.lowerStateEnter) s

/-- WAKE_CAPTURE (R468): A wake source is captured and the timebase restarts from AO_SEC. -/
def execWakeCapture (src : List (Nat × Nat)) (slept : Nat) (s : State) : Host.Outcome State Fault Refusal :=
  happen (Sys2Proof.Machine.wakeCapture src slept) s

/-- WAKE_COMPLETE (R469): The DOZE wake reaches LISTEN and WAKE fires. -/
def execWakeComplete (s : State) : Host.Outcome State Fault Refusal :=
  happen (Sys2Proof.Machine.wakeComplete) s

/-- LISTEN_TO_RUN_DONE (R470): LISTEN to RUN completes with the DDR domain and Burins up. -/
def execListenToRunDone (s : State) : Host.Outcome State Fault Refusal :=
  happen (Sys2Proof.Machine.listenToRunDone) s

/-- POWER_ON_RESET_RELEASE (R471): Power-on reset is released and a cold start begins. -/
def execPowerOnResetRelease (ao : Bool) (t : StepTwo) (s : State) : Host.Outcome State Fault Refusal :=
  happen (Sys2Proof.Machine.powerOnResetRelease ao t) s

/-- COLD_START_READY (R471): Step 7 of the cold start makes the device command-ready. -/
def execColdStartReady (c : ColdIn) (s : State) : Host.Outcome State Fault Refusal :=
  happen (Sys2Proof.Machine.coldStartReady c) s

/-- SUPPLY_RECHECK (R472): A cold start waiting at step 2 rechecks supplies every 10 ms. -/
def execSupplyRecheck (t : StepTwo) (s : State) : Host.Outcome State Fault Refusal :=
  happen (Sys2Proof.Machine.supplyRecheck t) s

/-- REFXO_RETRY (R472): A cold start waiting for REFXO retries every 1 s. -/
def execRefxoRetry (t : StepTwo) (s : State) : Host.Outcome State Fault Refusal :=
  happen (Sys2Proof.Machine.refxoRetry t) s

/-- REFXO_LOST (R472): REFXO lost after step 2 resets every domain except AO. -/
def execRefxoLost (s : State) : Host.Outcome State Fault Refusal :=
  happen (Sys2Proof.Machine.refxoLost) s

/-- XO32_SWITCH (R471): AO_SEC moves to the crystal after 1 s within ±200 ppm. -/
def execXo32Switch (s : State) : Host.Outcome State Fault Refusal :=
  happen (Sys2Proof.Machine.xo32Switch) s

/-- XO32_FAIL_TIMEOUT (R471): The crystal not running within 3 s fires XO32_FAIL. -/
def execXo32FailTimeout (s : State) : Host.Outcome State Fault Refusal :=
  happen (Sys2Proof.Machine.xo32FailTimeout) s

/-- RESET_N_ASSERT (R474): RESET_N low for 1 µs resets every domain except AO. -/
def execResetNAssert (t : StepTwo) (s : State) : Host.Outcome State Fault Refusal :=
  happen (Sys2Proof.Machine.resetNAssert t) s

/-- RESET_COMMAND_ACT (R474): 1 ms after RESET replies, the reset takes place. -/
def execResetCommandAct (t : StepTwo) (s : State) : Host.Outcome State Fault Refusal :=
  happen (Sys2Proof.Machine.resetCommandAct t) s

/-- PRESENT_N_RISE (R478): Board removal starts the power-fail sequence and releases outputs. -/
def execPresentNRise (s : State) : Host.Outcome State Fault Refusal :=
  happen (Sys2Proof.Machine.presentNRise) s

/-- PRESENT_N_SETTLED (R478): PRESENT_N low again for 10 ms resets with cause re-insertion. -/
def execPresentNSettled (t : StepTwo) (s : State) : Host.Outcome State Fault Refusal :=
  happen (Sys2Proof.Machine.presentNSettled t) s

/-- PERST_N_ASSERT (R479): PERST_N low or PCIe link loss resets the endpoint and stops rings. -/
def execPerstNAssert (s : State) : Host.Outcome State Fault Refusal :=
  happen (fun s => s.whenAlive (Sys2Proof.Machine.perstNAssert)) s

/-- PERST_N_RISE (R479): PERST_N rises and the PCIe link retrains. -/
def execPerstNRise (s : State) : Host.Outcome State Fault Refusal :=
  happen (fun s => s.whenAlive (Sys2Proof.Machine.perstNRise)) s

/-- SUPPLY_SAMPLE (R476): Every 1 ms supplies are checked against warning and fail windows. -/
def execSupplySample (mv : List Nat) (s : State) : Host.Outcome State Fault Refusal :=
  happen (Sys2Proof.Machine.supplySample mv) s

/-- PROOF_HOLD_EXPIRY (R490): A proof reaches its hold time and ends. -/
def execProofHoldExpiry (resource : Fin 3) (s : State) : Host.Outcome State Fault Refusal :=
  happen (fun s => s.whenAlive (Sys2Proof.Machine.proofHoldExpiry resource)) s

/-- PROOF_COMPLETE (R490): A fixed-length proof ends by itself with pass or fail. -/
def execProofComplete (pass : Bool) (v0 : Int) (v1 : Int) (s : State) : Host.Outcome State Fault Refusal :=
  happen (fun s => s.whenAlive (Sys2Proof.Machine.proofComplete pass v0 v1)) s

/-- XO32_CRYSTAL_STOP (R467): The 32.768 kHz crystal stops running, AO_SEC and the always-on controller move to the internal oscillator and XO32_FAIL begins to hold raw. -/
def execXo32CrystalStop (s : State) : Host.Outcome State Fault Refusal :=
  happen (Sys2Proof.Machine.xo32CrystalStop) s

end Sys2Proof.Machine
end

