-- ==== Sys2Proof/Machine/ExecReg.lean ====
section
/-!
DEFINITION. Machine/ExecReg.lean: the meanings of register accesses, one per row.
-/

namespace Sys2Proof.Machine

/-- REG_WRITE_GENERIC (R59): Write to a register without a row of its own, through the checks of Table 3.3. -/
def execRegWriteGeneric (via : Via) (addr : Nat) (be : Nat) (data : Word) (s : State) : Host.Outcome State Fault Refusal :=
  happen (fun s => s.whenReached (plainWrite via addr be data.toNat)) s

/-- PCIE_WRITE_BURST (R76): PCIe write of 2 to 16 DWORDs applied all or none. -/
def execPcieWriteBurst (bar4 : Bool) (addr : Nat) (data : List Word) (s : State) : Host.Outcome State Fault Refusal :=
  happen (fun s => s.whenReached (writeBurst bar4 addr (data.map BitVec.toNat))) s

/-- PCIE_READ_BURST (R76): PCIe read of 2 to 16 DWORDs, refused whole if any is reserved. -/
def execPcieReadBurst (bar4 : Bool) (addr : Nat) (count : Nat) (s : State) : Host.Outcome State Fault Refusal :=
  happen (fun s => s.whenReached (readBurst bar4 addr count)) s

/-- MULTIWORD_LOWER_WRITE (R62): Write to a lower word of a multi-word value merges into its tagged shadow. -/
def execMultiwordLowerWrite (via : Via) (addr : Nat) (data : Word) (s : State) : Host.Outcome State Fault Refusal :=
  happen (fun s => s.whenReached (hostWrite via addr data.toNat)) s

/-- MULTIWORD_COMMIT (R62): Write to the highest word commits the shadow and the word in one clock. -/
def execMultiwordCommit (via : Via) (addr : Nat) (data : Word) (shadowBad : Option Nat) (s : State) : Host.Outcome State Fault Refusal :=
  happen (fun s => s.whenReached (commitWrite via addr data.toNat shadowBad)) s

/-- SNAPSHOT_READ (R64): Read of the lowest word of a multi-word value copies it into the reader's snapshot. -/
def execSnapshotRead (via : Via) (addr : Nat) (s : State) : Host.Outcome State Fault Refusal :=
  happen (fun s => s.whenReached (hostRead via addr)) s

/-- TIM_SNAP_READ (R132): Read of TIM.SNAP captures timebase, domain times and always-on seconds in one cycle. -/
def execTimSnapRead (via : Via) (s : State) : Host.Outcome State Fault Refusal :=
  happen (fun s => s.whenReached (hostRead via 0x00400040)) s

/-- TSQ_ENTRY_REMOVE (R140): Read of TSU ENT_4 removes the snapshotted head entry. -/
def execTsqEntryRemove (via : Via) (port : Fin 4) (s : State) : Host.Outcome State Fault Refusal :=
  happen (fun s => s.whenReached (hostRead via (F.TSU_ENT_4_SEC_HI port).addr)) s

/-- PARITY_CLR (R77): MGT.REC_CLR.PARITY_CLR empties MGT.PARITY_ADDR. -/
def execParityClr (via : Via) (s : State) : Host.Outcome State Fault Refusal :=
  happen (fun s => s.whenReached (hostWrite via 0x2C (maskData 1 1))) s

/-- BUS_ERR_CLR (R77): MGT.REC_CLR.BUS_ERR_CLR empties the bus error record. -/
def execBusErrClr (via : Via) (s : State) : Host.Outcome State Fault Refusal :=
  happen (fun s => s.whenReached (hostWrite via 0x2C (maskData 2 2))) s

/-- STICKY_CLEAR (R61): W1C write clearing sticky bits. -/
def execStickyClear (via : Via) (addr : Nat) (data : Word) (s : State) : Host.Outcome State Fault Refusal :=
  happen (fun s => s.whenReached (hostWrite via addr data.toNat)) s

/-- UNIT_EN_SET (R66): Write that sets a unit's EN, judged on its whole configuration where the chapter says so. -/
def execUnitEnSet (via : Via) (addr : Nat) (data : Word) (s : State) : Host.Outcome State Fault Refusal :=
  happen (fun s => s.whenReached (hostWrite via addr data.toNat)) s

/-- UNIT_EN_CLEAR (R66): Write that clears a unit's EN and stops the unit. -/
def execUnitEnClear (via : Via) (addr : Nat) (data : Word) (s : State) : Host.Outcome State Fault Refusal :=
  happen (fun s => s.whenReached (hostWrite via addr data.toNat)) s

/-- BANK_SWAP_REQUEST (R68): Write of SWAP = 1 requests a double-bank swap at the unit's next boundary, or swaps at once while EN = 0. -/
def execBankSwapRequest (via : Via) (addr : Nat) (s : State) : Host.Outcome State Fault Refusal :=
  happen (fun s => s.whenReached (swapWrite via addr)) s

/-- RX_SWAP_REQUEST (R250): Write of RXT.CTL.SWAP runs the swap checks and fixes T_sw. -/
def execRxSwapRequest (via : Via) (s : State) : Host.Outcome State Fault Refusal :=
  happen (fun s => s.whenReached (hostWrite via F.RXT_CTL_SWAP.addr (maskData 2 2))) s

/-- TX_SWAP_REQUEST (R272): Write of TXT.CTL.SWAP runs the swap checks and fixes T_sw. -/
def execTxSwapRequest (via : Via) (s : State) : Host.Outcome State Fault Refusal :=
  happen (fun s => s.whenReached (hostWrite via F.TXT_CTL_SWAP.addr (maskData 2 2))) s

/-- GRT_SWAP_REQUEST (R322): Write of GRT.CTL.SWAP runs the graph swap checks and fixes T_sw. -/
def execGrtSwapRequest (via : Via) (s : State) : Host.Outcome State Fault Refusal :=
  happen (fun s => s.whenReached (hostWrite via F.GRT_CTL_SWAP.addr (maskData 1 1))) s

/-- TDM_SWAP_REQUEST (R352): Write of TDM.CTL.SWAP requests a slot mask swap at the next frame sync. -/
def execTdmSwapRequest (via : Via) (port : Fin 16) (s : State) : Host.Outcome State Fault Refusal :=
  happen (fun s => s.whenReached (hostWrite via (F.TDM_CTL_SWAP port).addr (maskData 0x2000 0x2000))) s

/-- TB_LOAD_COMMIT (R125): Commit of TB_LOAD word 6 schedules a timebase load at the next tick boundary. -/
def execTbLoadCommit (via : Via) (data : Word) (s : State) : Host.Outcome State Fault Refusal :=
  happen (fun s => s.whenReached (hostWrite via (F.TB_LOAD 6).addr data.toNat)) s

/-- STEER_COMMIT (R191): Commit of STEER_HI applies the DCO steering value. -/
def execSteerCommit (via : Via) (data : Word) (s : State) : Host.Outcome State Fault Refusal :=
  happen (fun s => s.whenReached (hostWrite via F.LOOP_STEER_HI.addr data.toNat)) s

/-- TRG_ARM_REG (R146): Write of TRG.ARM.ARM arms a trigger unit. -/
def execTrgArmReg (via : Via) (k : Fin 32) (s : State) : Host.Outcome State Fault Refusal :=
  happen (fun s => s.whenReached (hostWrite via (F.TRG_ARM k).addr (maskData 1 1))) s

/-- TRG_DISARM_REG (R146): Write of TRG.ARM.DISARM disarms a trigger unit. -/
def execTrgDisarmReg (via : Via) (k : Fin 32) (s : State) : Host.Outcome State Fault Refusal :=
  happen (fun s => s.whenReached (hostWrite via (F.TRG_ARM k).addr (maskData 2 2))) s

/-- ASYM_CLR (R129): TIM.TB_CTL.ASYM_CLR sets both ASYM_ADJ to 0. -/
def execAsymClr (via : Via) (s : State) : Host.Outcome State Fault Refusal :=
  happen (fun s => s.whenReached (hostWrite via F.TB_CTL_ASYM_CLR.addr (maskData 0x0800 0x0800))) s

/-- CAL_RUN_REQUEST (R447): Write of CAL.CTL.RUN requests a Calender run. -/
def execCalRunRequest (via : Via) (s : State) : Host.Outcome State Fault Refusal :=
  happen (fun s => s.whenReached (hostWrite via F.CAL_CTL_RUN.addr (maskData 2 2))) s

/-- CAL_APPROVE_WRITE (R449): Write to CAL.APPROVE approves pending proposals. -/
def execCalApproveWrite (via : Via) (mask : Nat) (s : State) : Host.Outcome State Fault Refusal :=
  happen (fun s => s.whenReached (hostWrite via F.CAL_APPROVE.addr (maskData 0x7F (mask % 128)))) s

/-- MANUAL_SET (R185): Setting LOOP_MAN.MANUAL puts the loop in MANUAL. -/
def execManualSet (via : Via) (s : State) : Host.Outcome State Fault Refusal :=
  happen (fun s => s.whenReached (hostWrite via F.LOOP_MAN_MANUAL.addr (maskData 1 1))) s

/-- MANUAL_CLEAR (R186): Clearing LOOP_MAN.MANUAL puts the loop in HOLDOVER and starts a rebuild where needed. -/
def execManualClear (via : Via) (s : State) : Host.Outcome State Fault Refusal :=
  happen (fun s => s.whenReached (hostWrite via F.LOOP_MAN_MANUAL.addr (maskData 1 0))) s

/-- HO_MODE_WRITE (R186): Write of HOLD.CTL.HO_MODE, which may move a targetless holdover to FREE_RUN at the next tick. -/
def execHoModeWrite (via : Via) (mode : Nat) (s : State) : Host.Outcome State Fault Refusal :=
  happen (fun s => s.whenReached (hostWrite via F.HOLD_CTL_HO_MODE.addr (maskData 6 (mode % 4 * 2)))) s

/-- BURIN_EN_CLEAR (R292): Host clear of a Burin's EN takes it out of service with cause 4. -/
def execBurinEnClear (via : Via) (n : Fin 64) (s : State) : Host.Outcome State Fault Refusal :=
  happen (fun s => s.whenReached (hostWrite via (F.BUR_CTL_EN n).addr (maskData 1 0))) s

/-- BURIN_EN_SET (R294): Host set of a Burin's EN returns it to service where its cause allows. -/
def execBurinEnSet (via : Via) (n : Fin 64) (s : State) : Host.Outcome State Fault Refusal :=
  happen (fun s => s.whenReached (hostWrite via (F.BUR_CTL_EN n).addr (maskData 1 1))) s

/-- HOST_RING_PROD (R366): Host write of a media ring's PROD index. -/
def execHostRingProd (via : Via) (r : Fin 32) (prod : Nat) (s : State) : Host.Outcome State Fault Refusal :=
  happen (fun s => s.whenReached (hostWrite via (F.RING_PROD r).addr (maskData 0xFFFF (prod % 65536)))) s

/-- TXR_PROD_WRITE (R221): Host advances a port's transmit frame ring producer index. -/
def execTxrProdWrite (via : Via) (port : Fin 4) (prod : Nat) (s : State) : Host.Outcome State Fault Refusal :=
  happen (fun s => s.whenReached (hostWrite via (F.MAC_TXR_PROD port).addr (maskData 0xFFFF (prod % 65536)))) s

/-- RXR_PROD_WRITE (R223): Host posts receive descriptors by advancing RXR_PROD. -/
def execRxrProdWrite (via : Via) (port : Fin 4) (prod : Nat) (s : State) : Host.Outcome State Fault Refusal :=
  happen (fun s => s.whenReached (hostWrite via (F.MAC_RXR_PROD port).addr (maskData 0xFFFF (prod % 65536)))) s

/-- XDOM_FALLBACK (R79): A crossing not completed after 4 µs completes on the fallback. -/
def execXdomFallback (via : Via) (addr : Nat) (write : Option Word) (s : State) : Host.Outcome State Fault Refusal :=
  happen (fun s => s.whenReached (fallback via addr (write.map BitVec.toNat))) s

end Sys2Proof.Machine
end

