-- ==== Sys2Proof/Machine/ExecTime.lean ====
section
/-!
DEFINITION. Machine/ExecTime.lean: the meanings of time: ticks, steps, PTP, triggers and control cycles, and the log's and the parity scrubber's steps.
-/

namespace Sys2Proof.Machine

/-- PARITY_SCRUB (R71): The 1 ms scrubber checks register parity. -/
def execParityScrub (hits : List ParityHit) (s : State) : Host.Outcome State Fault Refusal :=
  happen (fun s => s.whenAlive (Sys2Proof.Machine.parityScrub hits)) s

/-- LOG_COMMIT_TIMER (R94): 10 always-on seconds after the previous commit began, a commit starts if entries are uncommitted. -/
def execLogCommitTimer (s : State) : Host.Outcome State Fault Refusal :=
  happen (fun s => s.whenAlive (Sys2Proof.Machine.logCommitTimer)) s

/-- LOG_PAGE_VERIFIED (R94): A log page write and read-back completes, advancing the committed sequence or rewriting once. -/
def execLogPageVerified (ok : Bool) (s : State) : Host.Outcome State Fault Refusal :=
  happen (fun s => s.whenAlive (Sys2Proof.Machine.logPageVerified ok)) s

/-- LOG_COMMIT_END (R94): A log commit ends, releasing commands that waited and starting a merged successor. -/
def execLogCommitEnd (s : State) : Host.Outcome State Fault Refusal :=
  happen (fun s => s.whenAlive (Sys2Proof.Machine.logCommitEnd)) s

/-- TICK_BOUNDARY (R13): A processing tick boundary: sheets released, playout, packets built, ring slots judged. -/
def execTickBoundary (inp : TickIn) (s : State) : Host.Outcome State Fault Refusal :=
  happen (fun s => s.whenAlive (Sys2Proof.Machine.tickBoundary inp)) s

/-- TIME_STEP (R124): A pending whole-tick timebase step or host load is applied at its tick boundary. -/
def execTimeStep (s : State) : Host.Outcome State Fault Refusal :=
  happen (fun s => s.whenAlive (State.stepNow)) s

/-- TOD_CHANGE (R127): A change of time-of-day domain takes effect at the next tick boundary. -/
def execTodChange (s : State) : Host.Outcome State Fault Refusal :=
  happen (fun s => s.whenAlive (fun s => ((Sys2Proof.Machine.todChange) s).ptpSettle)) s

/-- PTP_SYNC_RX (R120): A Sync message is timestamped and, one-step, yields an offset to the servo. -/
def execPtpSyncRx (port : Fin 4) (m : PtpMsg) (raw : Tai) (s : State) : Host.Outcome State Fault Refusal :=
  happen (fun s => s.whenPort port (fun s => ((Sys2Proof.Machine.ptpSyncRx port m raw) s).ptpSettle)) s

/-- PTP_FOLLOW_UP_RX (R120): A Follow_Up completes a two-step Sync and yields an offset. -/
def execPtpFollowUpRx (port : Fin 4) (m : PtpMsg) (s : State) : Host.Outcome State Fault Refusal :=
  happen (fun s => s.whenPort port (fun s => ((Sys2Proof.Machine.ptpFollowUpRx port m) s).ptpSettle)) s

/-- PTP_DELAY_RESP_RX (R120): A Delay_Resp gives t4 and updates the mean path delay. -/
def execPtpDelayRespRx (port : Fin 4) (m : PtpMsg) (s : State) : Host.Outcome State Fault Refusal :=
  happen (fun s => s.whenPort port (fun s => ((Sys2Proof.Machine.ptpDelayRespRx port m) s).ptpSettle)) s

/-- PTP_PDELAY_RESP_RX (R120): Pdelay_Resp and its Follow_Up update the peer link delay. -/
def execPtpPdelayRespRx (port : Fin 4) (m : PtpMsg) (fu : PtpMsg) (raw : Tai) (s : State) : Host.Outcome State Fault Refusal :=
  happen (fun s => s.whenPort port (fun s => ((Sys2Proof.Machine.ptpPdelayRespRx port m fu raw) s).ptpSettle)) s

/-- PTP_ANNOUNCE_RX (R117): An Announce enters the best-master algorithm and UTC offset handling. -/
def execPtpAnnounceRx (port : Fin 4) (m : PtpMsg) (a : Announce) (s : State) : Host.Outcome State Fault Refusal :=
  happen (fun s => s.whenPort port (fun s => ((Sys2Proof.Machine.ptpAnnounceRx port m a) s).ptpSettle)) s

/-- PTP_DELAY_REQ_RX (R117): A master domain answers a Delay_Req or Pdelay_Req. -/
def execPtpDelayReqRx (port : Fin 4) (m : PtpMsg) (raw : Tai) (s : State) : Host.Outcome State Fault Refusal :=
  happen (fun s => s.whenPort port (fun s => ((Sys2Proof.Machine.ptpDelayReqRx port m raw) s).ptpSettle)) s

/-- PTP_MASTER_TX_INTERVAL (R117): A master domain sends Announce or Sync at its configured interval. -/
def execPtpMasterTxInterval (d : Fin 2) (announce : Bool) (s : State) : Host.Outcome State Fault Refusal :=
  happen (fun s => s.whenAlive (fun s => ((ptpMasterTx d announce) s).ptpSettle)) s

/-- PTP_DELAY_REQ_TX_INTERVAL (R119): A slave domain sends Delay_Req or Pdelay_Req at LOG_DELAY. -/
def execPtpDelayReqTxInterval (d : Fin 2) (raw : Tai) (s : State) : Host.Outcome State Fault Refusal :=
  happen (fun s => s.whenAlive (fun s => ((ptpDelayReqTx d raw) s).ptpSettle)) s

/-- ANNOUNCE_RECEIPT_TIMEOUT (R119): Announce receipt timer expires; master dropped and best-master re-run. -/
def execAnnounceReceiptTimeout (d : Fin 2) (s : State) : Host.Outcome State Fault Refusal :=
  happen (fun s => s.whenAlive (fun s => ((announceTimeout d) s).ptpSettle)) s

/-- SYNC_RECEIPT_TIMEOUT (R119): Sync receipt timer expires; servo to HOLD. -/
def execSyncReceiptTimeout (d : Fin 2) (s : State) : Host.Outcome State Fault Refusal :=
  happen (fun s => s.whenAlive (fun s => ((syncTimeout d) s).ptpSettle)) s

/-- FOLLOW_UP_TIMEOUT (R119): A Follow_Up not arriving within its timer discards the Sync. -/
def execFollowUpTimeout (d : Fin 2) (s : State) : Host.Outcome State Fault Refusal :=
  happen (fun s => s.whenAlive (fun s => ((Sys2Proof.Machine.followUpTimeout d) s).ptpSettle)) s

/-- DELAY_RESPONSE_TIMEOUT (R119): A delay response not arriving is counted; after 8 the event fires. -/
def execDelayResponseTimeout (d : Fin 2) (s : State) : Host.Outcome State Fault Refusal :=
  happen (fun s => s.whenAlive (fun s => ((delayTimeout d) s).ptpSettle)) s

/-- LEAP_DAY_END (R113): End of a UTC day carrying a leap flag moves UTC_OFFSET. -/
def execLeapDayEnd (s : State) : Host.Outcome State Fault Refusal :=
  happen (fun s => s.whenAlive (Sys2Proof.Machine.leapDayEnd)) s

/-- ASYM_TRACK_PERIOD (R129): Every 60 s of ASYM_ACTIVE time ASYM_ADJ moves 1 ns or is withheld at the limit. -/
def execAsymTrackPeriod (est : Int) (s : State) : Host.Outcome State Fault Refusal :=
  happen (fun s => s.whenAlive (asymPeriod est)) s

/-- TIMED_FRAME_LAUNCH (R156): A timed frame on N2 or N3 leaves at its launch time, or at once if late. -/
def execTimedFrameLaunch (port : Fin 4) (at_ : Tai) (s : State) : Host.Outcome State Fault Refusal :=
  happen (fun s => s.whenPort port (timedLaunch port at_)) s

/-- TRIGGER_FIRE (R147): An armed trigger reaches its target's boundary and acts. -/
def execTriggerFire (k : Fin 32) (at_ : Tai) (s : State) : Host.Outcome State Fault Refusal :=
  happen (fun s => s.whenAlive (Sys2Proof.Machine.triggerFire k at_)) s

/-- CC_GRID_POINT (R153): A control-cycle generator grid point pulses, ticks control graphs and fires a lent event. -/
def execCcGridPoint (n : Fin 4) (s : State) : Host.Outcome State Fault Refusal :=
  happen (fun s => s.whenAlive (Sys2Proof.Machine.ccGridPoint n)) s

/-- PRE_MASTER_QUALIFICATION_TIMEOUT (R118): A PTP domain in PRE_MASTER completes its IEEE 1588 qualification interval and enters MASTER. -/
def execPreMasterQualificationTimeout (d : Fin 2) (s : State) : Host.Outcome State Fault Refusal :=
  happen (fun s => s.whenAlive (fun s => ((preMasterTimeout d) s).ptpSettle)) s

end Sys2Proof.Machine
end

