-- ==== Sys2Proof/Machine/Dispatch.lean ====
section
/-!
DEFINITION. Machine/Dispatch.lean: one arm per command.
-/

namespace Sys2Proof.Machine

/-- The effect of a command on everything but the queue. -/
def exec (i : Instr) (s : State) : Host.Outcome State Fault Refusal :=
  match i with
  | .store q => Sys2Proof.Machine.execStore q s
  | .recall q => Sys2Proof.Machine.execRecall q s
  | .factoryRecall q => Sys2Proof.Machine.execFactoryRecall q s
  | .logRead q => Sys2Proof.Machine.execLogRead q s
  | .logFlush q => Sys2Proof.Machine.execLogFlush q s
  | .regRead q => Sys2Proof.Machine.execRegRead q s
  | .regWrite q => Sys2Proof.Machine.execRegWrite q s
  | .selftest q => Sys2Proof.Machine.execSelftest q s
  | .fwBlock q => Sys2Proof.Machine.execFwBlock q s
  | .fwCommit q => Sys2Proof.Machine.execFwCommit q s
  | .info q => Sys2Proof.Machine.execInfo q s
  | .sessionSet q => Sys2Proof.Machine.execSessionSet q s
  | .objGet sub q => Sys2Proof.Machine.execObjGet sub q s
  | .objSet sub q => Sys2Proof.Machine.execObjSet sub q s
  | .objEnable sub q => Sys2Proof.Machine.execObjEnable sub q s
  | .objDisable sub q => Sys2Proof.Machine.execObjDisable sub q s
  | .objStatus sub q => Sys2Proof.Machine.execObjStatus sub q s
  | .netPortSet q => Sys2Proof.Machine.execNetPortSet q s
  | .rxEntrySet q => Sys2Proof.Machine.execRxEntrySet q s
  | .rxEntryEnable q => Sys2Proof.Machine.execRxEntryEnable q s
  | .rxEntryDisable q => Sys2Proof.Machine.execRxEntryDisable q s
  | .txEntrySet q => Sys2Proof.Machine.execTxEntrySet q s
  | .txEntryEnable q => Sys2Proof.Machine.execTxEntryEnable q s
  | .txEntryDisable q => Sys2Proof.Machine.execTxEntryDisable q s
  | .graphHeaderSet q => Sys2Proof.Machine.execGraphHeaderSet q s
  | .graphEnable q => Sys2Proof.Machine.execGraphEnable q s
  | .graphDisable q => Sys2Proof.Machine.execGraphDisable q s
  | .tdmDisable q => Sys2Proof.Machine.execTdmDisable q s
  | .tdmStatus q => Sys2Proof.Machine.execTdmStatus q s
  | .ampDisable q => Sys2Proof.Machine.execAmpDisable q s
  | .ampStatus q => Sys2Proof.Machine.execAmpStatus q s
  | .tsqRead q => Sys2Proof.Machine.execTsqRead q s
  | .trgArm q => Sys2Proof.Machine.execTrgArm q s
  | .trgDisarm q => Sys2Proof.Machine.execTrgDisarm q s
  | .align q => Sys2Proof.Machine.execAlign q s
  | .mdioRead q answer => Sys2Proof.Machine.execMdioRead q answer s
  | .mdioWrite q => Sys2Proof.Machine.execMdioWrite q s
  | .rxSwap q => Sys2Proof.Machine.execRxSwap q s
  | .dirRead q => Sys2Proof.Machine.execDirRead q s
  | .dirStream q => Sys2Proof.Machine.execDirStream q s
  | .sdpImport q => Sys2Proof.Machine.execSdpImport q s
  | .dirImport q => Sys2Proof.Machine.execDirImport q s
  | .txSwap q => Sys2Proof.Machine.execTxSwap q s
  | .sdpExport q => Sys2Proof.Machine.execSdpExport q s
  | .graphSched q => Sys2Proof.Machine.execGraphSched q s
  | .graphLoad q => Sys2Proof.Machine.execGraphLoad q s
  | .graphRead q => Sys2Proof.Machine.execGraphRead q s
  | .graphParam q => Sys2Proof.Machine.execGraphParam q s
  | .meterRead q => Sys2Proof.Machine.execMeterRead q s
  | .graphSwap q => Sys2Proof.Machine.execGraphSwap q s
  | .memRetrain q => Sys2Proof.Machine.execMemRetrain q s
  | .diagOffline q => Sys2Proof.Machine.execDiagOffline q s
  | .diagLive q => Sys2Proof.Machine.execDiagLive q s
  | .diagRead q => Sys2Proof.Machine.execDiagRead q s
  | .plateStore q verify => Sys2Proof.Machine.execPlateStore q verify s
  | .plateClear q verify => Sys2Proof.Machine.execPlateClear q verify s
  | .pairTakeover q => Sys2Proof.Machine.execPairTakeover q s
  | .pairHealth q => Sys2Proof.Machine.execPairHealth q s
  | .ledgerRead q => Sys2Proof.Machine.execLedgerRead q s
  | .baselineReset q => Sys2Proof.Machine.execBaselineReset q s
  | .calenderRun q => Sys2Proof.Machine.execCalenderRun q s
  | .calenderApprove q => Sys2Proof.Machine.execCalenderApprove q s
  | .pwrState q => Sys2Proof.Machine.execPwrState q s
  | .reset q => Sys2Proof.Machine.execReset q s
  | .proofStart q v0 v1 => Sys2Proof.Machine.execProofStart q v0 v1 s
  | .proofEnd q v0 v1 => Sys2Proof.Machine.execProofEnd q v0 v1 s
  | .proofStatus q v0 v1 => Sys2Proof.Machine.execProofStatus q v0 v1 s
  | .mailboxDoorbell via data => Sys2Proof.Machine.execMailboxDoorbell via data s
  | .mailboxReplyRelease via data => Sys2Proof.Machine.execMailboxReplyRelease via data s
  | .spiCommandFrame secLow bytes => Sys2Proof.Machine.execSpiCommandFrame secLow bytes s
  | .spiReplyFetch clocked => Sys2Proof.Machine.execSpiReplyFetch clocked s
  | .spiEventFetch clocked => Sys2Proof.Machine.execSpiEventFetch clocked s
  | .spiRegisterWrite secLow bytes => Sys2Proof.Machine.execSpiRegisterWrite secLow bytes s
  | .netControlDatagram port src sport off more bytes => Sys2Proof.Machine.execNetControlDatagram port src sport off more bytes s
  | .datagramReassemblyTimeout src => Sys2Proof.Machine.execDatagramReassemblyTimeout src s
  | .uartLine svcEn line => Sys2Proof.Machine.execUartLine svcEn line s
  | .uartLineTimeout => Sys2Proof.Machine.execUartLineTimeout s
  | .interpreterServe svcEn o => Sys2Proof.Machine.execInterpreterServe svcEn o s
  | .longOpEnd r => Sys2Proof.Machine.execLongOpEnd r s
  | .uartEventLine => Sys2Proof.Machine.execUartEventLine s
  | .regWriteGeneric via addr be data => Sys2Proof.Machine.execRegWriteGeneric via addr be data s
  | .pcieWriteBurst bar4 addr data => Sys2Proof.Machine.execPcieWriteBurst bar4 addr data s
  | .pcieReadBurst bar4 addr count => Sys2Proof.Machine.execPcieReadBurst bar4 addr count s
  | .multiwordLowerWrite via addr data => Sys2Proof.Machine.execMultiwordLowerWrite via addr data s
  | .multiwordCommit via addr data shadowBad => Sys2Proof.Machine.execMultiwordCommit via addr data shadowBad s
  | .snapshotRead via addr => Sys2Proof.Machine.execSnapshotRead via addr s
  | .timSnapRead via => Sys2Proof.Machine.execTimSnapRead via s
  | .tsqEntryRemove via port => Sys2Proof.Machine.execTsqEntryRemove via port s
  | .parityClr via => Sys2Proof.Machine.execParityClr via s
  | .busErrClr via => Sys2Proof.Machine.execBusErrClr via s
  | .stickyClear via addr data => Sys2Proof.Machine.execStickyClear via addr data s
  | .unitEnSet via addr data => Sys2Proof.Machine.execUnitEnSet via addr data s
  | .unitEnClear via addr data => Sys2Proof.Machine.execUnitEnClear via addr data s
  | .bankSwapRequest via addr => Sys2Proof.Machine.execBankSwapRequest via addr s
  | .rxSwapRequest via => Sys2Proof.Machine.execRxSwapRequest via s
  | .txSwapRequest via => Sys2Proof.Machine.execTxSwapRequest via s
  | .grtSwapRequest via => Sys2Proof.Machine.execGrtSwapRequest via s
  | .tdmSwapRequest via port => Sys2Proof.Machine.execTdmSwapRequest via port s
  | .tbLoadCommit via data => Sys2Proof.Machine.execTbLoadCommit via data s
  | .steerCommit via data => Sys2Proof.Machine.execSteerCommit via data s
  | .trgArmReg via k => Sys2Proof.Machine.execTrgArmReg via k s
  | .trgDisarmReg via k => Sys2Proof.Machine.execTrgDisarmReg via k s
  | .asymClr via => Sys2Proof.Machine.execAsymClr via s
  | .calRunRequest via => Sys2Proof.Machine.execCalRunRequest via s
  | .calApproveWrite via mask => Sys2Proof.Machine.execCalApproveWrite via mask s
  | .manualSet via => Sys2Proof.Machine.execManualSet via s
  | .manualClear via => Sys2Proof.Machine.execManualClear via s
  | .hoModeWrite via mode => Sys2Proof.Machine.execHoModeWrite via mode s
  | .burinEnClear via n => Sys2Proof.Machine.execBurinEnClear via n s
  | .burinEnSet via n => Sys2Proof.Machine.execBurinEnSet via n s
  | .hostRingProd via r prod => Sys2Proof.Machine.execHostRingProd via r prod s
  | .txrProdWrite via port prod => Sys2Proof.Machine.execTxrProdWrite via port prod s
  | .rxrProdWrite via port prod => Sys2Proof.Machine.execRxrProdWrite via port prod s
  | .msixVectorUnmask v on => Sys2Proof.Machine.execMsixVectorUnmask v on s
  | .xdomFallback via addr write => Sys2Proof.Machine.execXdomFallback via addr write s
  | .parityScrub hits => Sys2Proof.Machine.execParityScrub hits s
  | .logCommitTimer => Sys2Proof.Machine.execLogCommitTimer s
  | .logPageVerified ok => Sys2Proof.Machine.execLogPageVerified ok s
  | .logCommitEnd => Sys2Proof.Machine.execLogCommitEnd s
  | .pfwNFall => Sys2Proof.Machine.execPfwNFall s
  | .powerFailCommitEnd => Sys2Proof.Machine.execPowerFailCommitEnd s
  | .pfwNRise ms => Sys2Proof.Machine.execPfwNRise ms s
  | .tickBoundary inp => Sys2Proof.Machine.execTickBoundary inp s
  | .timeStep => Sys2Proof.Machine.execTimeStep s
  | .todChange => Sys2Proof.Machine.execTodChange s
  | .ptpSyncRx port m raw => Sys2Proof.Machine.execPtpSyncRx port m raw s
  | .ptpFollowUpRx port m => Sys2Proof.Machine.execPtpFollowUpRx port m s
  | .ptpDelayRespRx port m => Sys2Proof.Machine.execPtpDelayRespRx port m s
  | .ptpPdelayRespRx port m fu raw => Sys2Proof.Machine.execPtpPdelayRespRx port m fu raw s
  | .ptpAnnounceRx port m a => Sys2Proof.Machine.execPtpAnnounceRx port m a s
  | .ptpDelayReqRx port m raw => Sys2Proof.Machine.execPtpDelayReqRx port m raw s
  | .ptpMasterTxInterval d announce => Sys2Proof.Machine.execPtpMasterTxInterval d announce s
  | .ptpDelayReqTxInterval d raw => Sys2Proof.Machine.execPtpDelayReqTxInterval d raw s
  | .announceReceiptTimeout d => Sys2Proof.Machine.execAnnounceReceiptTimeout d s
  | .syncReceiptTimeout d => Sys2Proof.Machine.execSyncReceiptTimeout d s
  | .followUpTimeout d => Sys2Proof.Machine.execFollowUpTimeout d s
  | .delayResponseTimeout d => Sys2Proof.Machine.execDelayResponseTimeout d s
  | .leapDayEnd => Sys2Proof.Machine.execLeapDayEnd s
  | .asymTrackPeriod est => Sys2Proof.Machine.execAsymTrackPeriod est s
  | .timedFrameLaunch port at_ => Sys2Proof.Machine.execTimedFrameLaunch port at_ s
  | .triggerFire k at_ => Sys2Proof.Machine.execTriggerFire k at_ s
  | .ccGridPoint n => Sys2Proof.Machine.execCcGridPoint n s
  | .refTick inp => Sys2Proof.Machine.execRefTick inp s
  | .refQualify n => Sys2Proof.Machine.execRefQualify n s
  | .refDwellExpiry n => Sys2Proof.Machine.execRefDwellExpiry n s
  | .refClearExpiry n => Sys2Proof.Machine.execRefClearExpiry n s
  | .wckStopDetect n => Sys2Proof.Machine.execWckStopDetect n s
  | .wckRateRecognised n meas => Sys2Proof.Machine.execWckRateRecognised n meas s
  | .switchStart => Sys2Proof.Machine.execSwitchStart s
  | .buildOut drift resid => Sys2Proof.Machine.execBuildOut drift resid s
  | .settleStep => Sys2Proof.Machine.execSettleStep s
  | .holdoverSecond avg => Sys2Proof.Machine.execHoldoverSecond avg s
  | .mediaPllUnlock => Sys2Proof.Machine.execMediaPllUnlock s
  | .mediaPllLock => Sys2Proof.Machine.execMediaPllLock s
  | .alignAtS => Sys2Proof.Machine.execAlignAtS s
  | .linkUp port speed eee refused => Sys2Proof.Machine.execLinkUp port speed eee refused s
  | .linkDown port => Sys2Proof.Machine.execLinkDown port s
  | .ingressFrame port f => Sys2Proof.Machine.execIngressFrame port f s
  | .mediaPacketRx path p at_ => Sys2Proof.Machine.execMediaPacketRx path p at_ s
  | .bestEffortFrameRx port len tag ptp at_ buf => Sys2Proof.Machine.execBestEffortFrameRx port len tag ptp at_ buf s
  | .pauseFrameRx port pfc en quanta => Sys2Proof.Machine.execPauseFrameRx port pfc en quanta s
  | .pauseExpiry port queue => Sys2Proof.Machine.execPauseExpiry port queue s
  | .esmcPduRx port ql => Sys2Proof.Machine.execEsmcPduRx port ql s
  | .esmcTimeout port => Sys2Proof.Machine.execEsmcTimeout port s
  | .announcementRx port data => Sys2Proof.Machine.execAnnouncementRx port data s
  | .peerAgeOut dev => Sys2Proof.Machine.execPeerAgeOut dev s
  | .announceRound => Sys2Proof.Machine.execAnnounceRound s
  | .egressFrameStart port at_ => Sys2Proof.Machine.execEgressFrameStart port at_ s
  | .macUnderrun port => Sys2Proof.Machine.execMacUnderrun port s
  | .hostTxDescriptor port desc frame at_ => Sys2Proof.Machine.execHostTxDescriptor port desc frame at_ s
  | .utilisationSecond meas => Sys2Proof.Machine.execUtilisationSecond meas s
  | .stepDownDue port => Sys2Proof.Machine.execStepDownDue port s
  | .secondPortStep port => Sys2Proof.Machine.execSecondPortStep port s
  | .speedStepDone port => Sys2Proof.Machine.execSpeedStepDone port s
  | .stepTimeout port => Sys2Proof.Machine.execStepTimeout port s
  | .pendingStreamTimeout tx e => Sys2Proof.Machine.execPendingStreamTimeout tx e s
  | .lpiEnter port => Sys2Proof.Machine.execLpiEnter port s
  | .lpiExit port => Sys2Proof.Machine.execLpiExit port s
  | .fdEstimatorUpdate k adj ratio => Sys2Proof.Machine.execFdEstimatorUpdate k adj ratio s
  | .rxSwapAtTsw => Sys2Proof.Machine.execRxSwapAtTsw s
  | .oldGroupLeave => Sys2Proof.Machine.execOldGroupLeave s
  | .txSwapAtTsw => Sys2Proof.Machine.execTxSwapAtTsw s
  | .graphSwapAtTsw => Sys2Proof.Machine.execGraphSwapAtTsw s
  | .graphParamApply => Sys2Proof.Machine.execGraphParamApply s
  | .sheetComplete b c => Sys2Proof.Machine.execSheetComplete b c s
  | .backingSliceEnd b c pct => Sys2Proof.Machine.execBackingSliceEnd b c pct s
  | .burinIdleRetry b c => Sys2Proof.Machine.execBurinIdleRetry b c s
  | .sheetDeadline => Sys2Proof.Machine.execSheetDeadline s
  | .burinSelftestDue fail => Sys2Proof.Machine.execBurinSelftestDue fail s
  | .dramMr4Change code mult derate => Sys2Proof.Machine.execDramMr4Change code mult derate s
  | .retrainDue => Sys2Proof.Machine.execRetrainDue s
  | .retrainPassEnd margins widens => Sys2Proof.Machine.execRetrainPassEnd margins widens s
  | .scrubPassEnd bad => Sys2Proof.Machine.execScrubPassEnd bad s
  | .ddrPhyUnlock => Sys2Proof.Machine.execDdrPhyUnlock s
  | .ddrPhyLock => Sys2Proof.Machine.execDdrPhyLock s
  | .bwSecond avg p99 peak => Sys2Proof.Machine.execBwSecond avg p99 peak s
  | .tdmFrameSync port f => Sys2Proof.Machine.execTdmFrameSync port f s
  | .tdmClockLost port cause => Sys2Proof.Machine.execTdmClockLost port cause s
  | .zcTimeout port out idx => Sys2Proof.Machine.execZcTimeout port out idx s
  | .pdmClockLost lane => Sys2Proof.Machine.execPdmClockLost lane s
  | .pdmStuck lane mic level => Sys2Proof.Machine.execPdmStuck lane mic level s
  | .pdmZcTimeout lane mic => Sys2Proof.Machine.execPdmZcTimeout lane mic s
  | .ampTrip x t => Sys2Proof.Machine.execAmpTrip x t s
  | .ampBootstrapDone x => Sys2Proof.Machine.execAmpBootstrapDone x s
  | .ampStopDone x => Sys2Proof.Machine.execAmpStopDone x s
  | .ampZcTimeout x => Sys2Proof.Machine.execAmpZcTimeout x s
  | .ampRetry x => Sys2Proof.Machine.execAmpRetry x s
  | .ampProbeEnd x r near acted => Sys2Proof.Machine.execAmpProbeEnd x r near acted s
  | .ampBackoffReset x => Sys2Proof.Machine.execAmpBackoffReset x s
  | .ampHoldStart c v hi => Sys2Proof.Machine.execAmpHoldStart c v hi s
  | .ampHoldClear c v => Sys2Proof.Machine.execAmpHoldClear c v s
  | .clkmuteGatesOff x => Sys2Proof.Machine.execClkmuteGatesOff x s
  | .clkmuteResume x => Sys2Proof.Machine.execClkmuteResume x s
  | .ampCalPassEnd x off gain => Sys2Proof.Machine.execAmpCalPassEnd x off gain s
  | .diagOfflineEnd r => Sys2Proof.Machine.execDiagOfflineEnd r s
  | .liveTestDue x => Sys2Proof.Machine.execLiveTestDue x s
  | .liveWindowEnd x counted z arg rdc => Sys2Proof.Machine.execLiveWindowEnd x counted z arg rdc s
  | .liveDeferTimeout x rdc => Sys2Proof.Machine.execLiveDeferTimeout x rdc s
  | .heartbeatRx h => Sys2Proof.Machine.execHeartbeatRx h s
  | .heartbeatTx => Sys2Proof.Machine.execHeartbeatTx s
  | .heartbeatTimeout => Sys2Proof.Machine.execHeartbeatTimeout s
  | .pairLaneLockLoss => Sys2Proof.Machine.execPairLaneLockLoss s
  | .mirrorRecordRx seq r => Sys2Proof.Machine.execMirrorRecordRx seq r s
  | .lockstepShareRx x => Sys2Proof.Machine.execLockstepShareRx x s
  | .digestWindowEnd => Sys2Proof.Machine.execDigestWindowEnd s
  | .digestRx w digests flagged => Sys2Proof.Machine.execDigestRx w digests flagged s
  | .healthReportTx => Sys2Proof.Machine.execHealthReportTx s
  | .healthReportRx bytes => Sys2Proof.Machine.execHealthReportRx bytes s
  | .repairRequestRx e seqs room => Sys2Proof.Machine.execRepairRequestRx e seqs room s
  | .pairTakeAssert => Sys2Proof.Machine.execPairTakeAssert s
  | .handoverAtTh => Sys2Proof.Machine.execHandoverAtTh s
  | .cloneStagingDone c => Sys2Proof.Machine.execCloneStagingDone c s
  | .cloneApply => Sys2Proof.Machine.execCloneApply s
  | .cloneTimeout => Sys2Proof.Machine.execCloneTimeout s
  | .cloneRetry => Sys2Proof.Machine.execCloneRetry s
  | .ringOscSample deg => Sys2Proof.Machine.execRingOscSample deg s
  | .replicaSample slack sens ack => Sys2Proof.Machine.execReplicaSample slack sens ack s
  | .dieTempSample t => Sys2Proof.Machine.execDieTempSample t s
  | .dailyLedger d => Sys2Proof.Machine.execDailyLedger d s
  | .calenderPeriodic => Sys2Proof.Machine.execCalenderPeriodic s
  | .calenderRunEnd => Sys2Proof.Machine.execCalenderRunEnd s
  | .nvmRefreshDue => Sys2Proof.Machine.execNvmRefreshDue s
  | .lowerStateEnter => Sys2Proof.Machine.execLowerStateEnter s
  | .wakeCapture src slept => Sys2Proof.Machine.execWakeCapture src slept s
  | .wakeComplete => Sys2Proof.Machine.execWakeComplete s
  | .listenToRunDone => Sys2Proof.Machine.execListenToRunDone s
  | .powerOnResetRelease ao t => Sys2Proof.Machine.execPowerOnResetRelease ao t s
  | .coldStartReady c => Sys2Proof.Machine.execColdStartReady c s
  | .supplyRecheck t => Sys2Proof.Machine.execSupplyRecheck t s
  | .refxoRetry t => Sys2Proof.Machine.execRefxoRetry t s
  | .refxoLost => Sys2Proof.Machine.execRefxoLost s
  | .xo32Switch => Sys2Proof.Machine.execXo32Switch s
  | .xo32FailTimeout => Sys2Proof.Machine.execXo32FailTimeout s
  | .resetNAssert t => Sys2Proof.Machine.execResetNAssert t s
  | .resetCommandAct t => Sys2Proof.Machine.execResetCommandAct t s
  | .presentNRise => Sys2Proof.Machine.execPresentNRise s
  | .presentNSettled t => Sys2Proof.Machine.execPresentNSettled t s
  | .perstNAssert => Sys2Proof.Machine.execPerstNAssert s
  | .perstNRise => Sys2Proof.Machine.execPerstNRise s
  | .supplySample mv => Sys2Proof.Machine.execSupplySample mv s
  | .proofHoldExpiry resource => Sys2Proof.Machine.execProofHoldExpiry resource s
  | .proofComplete pass v0 v1 => Sys2Proof.Machine.execProofComplete pass v0 v1 s
  | .xo32CrystalStop => Sys2Proof.Machine.execXo32CrystalStop s
  | .pdmClockReturn lane => Sys2Proof.Machine.execPdmClockReturn lane s
  | .pdmStuckClear lane mic => Sys2Proof.Machine.execPdmStuckClear lane mic s
  | .serdesEyeSample eyes => Sys2Proof.Machine.execSerdesEyeSample eyes s
  | .preMasterQualificationTimeout d => Sys2Proof.Machine.execPreMasterQualificationTimeout d s
  | .fetTemperatureWarning k v => Sys2Proof.Machine.execFetTemperatureWarning k v s
  | .cycleByCycleLimit x => Sys2Proof.Machine.execCycleByCycleLimit x s
  | .uartReplyLineSent => Sys2Proof.Machine.execUartReplyLineSent s
  | .nvmRefreshEnd margin => Sys2Proof.Machine.execNvmRefreshEnd margin s
  | .pairTakeRelease => Sys2Proof.Machine.execPairTakeRelease s

end Sys2Proof.Machine
end

