-- ==== Sys2Proof/Safety.lean ====
section
/-!
DEFINITION. Safety.lean: the terms in which statements speak of a run: when the command interface serves, when a reply has
reached its carrier, when the pins follow the state.
-/

namespace Sys2Proof.Machine

/-- The outcome is a next state: no fault, no refusal. -/
def Completes (o : Host.Outcome State Fault Refusal) : Prop := ∃ t, o = .next t

/-- The state a command starts from: what the previous command sent is gone. -/
def State.fresh (s : State) : State := { s with out := [] }

/-- The command interface serves (R53, R466, R473): the block runs in LISTEN or RUN, no long operation runs, the start has
reached command-ready, and no lower power state is being entered. -/
structure State.Ready (s : State) : Prop where
  alive : s.alive = true
  free : s.busyIndex = none
  steady : s.lowering = false

/-- A request of an operation passes steps 6 to 10 of Table 2.2. -/
structure State.Serves (s : State) (op : Nat) (q : Req) : Prop where
  ready : s.Ready
  gate : s.gate { q with opcode := op } = none

/-- The request as its operation sees it. -/
def Req.as (q : Req) (op : Nat) : Req := { q with opcode := op }

/-- The state that a request's operation works on: what the previous command sent is gone, the carrier executes, and the
request's time stands where the partner follows it. -/
def State.work (s : State) (op : Nat) (q : Req) : State := s.fresh.opStart (q.as op)

/-- A host's write of a mask-data word reaches the device and passes the checks of Table 3.3. -/
def State.Accepts (s : State) (via : Via) (addr v : Nat) : Prop :=
  s.reachable = true ∧ (s.fresh.judgeWrite via.access addr v).isRight = true

/-- A reply stands on its carrier (R35, R44, R45, R48, R50): in the mailbox with REPLY_READY, its length and its CRC; in the SPI's
reply buffer; in a datagram to the request's source; on the UART. A NOREPLY request has none, except on the UART. -/
def State.Answered (t : State) (q : Req) (status : Nat) (params : List Byte) : Prop :=
  match q.carrier with
  | .mailbox => q.noreply = true ∨
      (t.on F.MBX_STATUS_REPLY_READY = true ∧
       t.getF F.MBX_REPLY_LEN_LEN = (q.replyBody status params).length % 2 ^ 13 ∧
       t.car.mbxRspCrc = crc32c (q.replyBody status params) ∧
       ∀ i < 1024, 4 * i < (q.replyBody status params).length →
         KV.get 0 t.car.mbxRep i = leNat (((q.replyBody status params).drop (4 * i)).take 4))
  | .spi => q.noreply = true ∨ t.car.spiReply = some (q.replyPacket status params)
  | .net => q.noreply = true ∨ ∃ tag, (q.session = 0 → tag = []) ∧
      Emit.datagram q.session q.srcAddr q.srcPort (q.replyPacket status params ++ tag) ∈ t.out
  | .uart => Emit.uart (uartReply status q.opcode params) ∈ t.out ∧ t.car.uartBusy = true

/-- What step 2 of a cold start leaves for its readings (R471, R472): it waits for supplies where one is outside its fail
window, for REFXO where that does not run, and goes on where neither holds. -/
def State.StepTwoDone (t : State) (x : StepTwo) : Prop :=
  t.pwr.boot = (if t.getF F.SUP_STATUS_FAIL ≠ 0 then 2 else if refxoRuns x.refxo then 1 else 3) ∧
  t.getF F.SUP_STATUS_FAIL = t.supplyMask true

/-- The interrupt, busy and pair pins stand as the state says (R53, R86, R406). -/
def State.PinsFollow (s : State) : Prop :=
  s.pins.irq0 = s.irq0Level ∧ s.pins.irq1 = s.irq1Level ∧ s.pins.hostBusy = s.busyLevel ∧ s.pins.pairOk = s.pairOkLevel

/-- PAIR_OK is high only while the block runs and is command-ready, ROLE.CTL.EN is 1, the health level is not FAIL, the state is
not CLONING, and PFW_N is high (R406). -/
def State.PairOkBacked (s : State) : Prop :=
  s.pins.pairOk = true → s.alive = true ∧ s.pwr.cmdReady = true ∧ s.on F.ROLE_CTL_EN = true ∧
    s.getF F.ROLE_STATUS_HEALTH ≠ 2 ∧ s.pairSt ≠ psCLONING ∧ s.pins.pfwLow = false

/-- A register write reaches step 6 of Table 3.3 (R59): a register of one word, a mask that is not 0, the interface not busy,
the origin privileged where the register is, its clock present, no mirrored object of a standby, the enable rule kept. -/
structure State.ReachesStepSix (s : State) (a : Access) (addr sub u off : Nat) (r : RegDesc) (mask data : Nat) : Prop where
  target : regTarget addr = some (.reg sub u off r)
  masked : 0 < mask ∧ mask < 65536
  sized : data < 65536
  free : s.busyIndex = none
  priv : r.priv = true → a.origin.priv = true
  clocked : s.absent sub u = false
  own : a.mirror = true ∨ s.isStandby = false ∨ s.mirrored sub u off = false
  oneWord : r.mwLen ≤ 1 ∨ accMask r Acc.config = 0
  rule : s.writeIgnored sub u off r mask (merge16 (s.regWord sub u off % 65536) mask data) = false

/-! ## Frames -/

/-- The register fields that answering a request and the end of any command may write: the carriers' counters, the mailbox's
reply registers, MODIFIED, the count of mirror records (R40, R44, R49, R413), and the role unit's causes, health, PAIR_OK and
state (R406, R431). -/
def bookFields : List Fld :=
  [F.ROLE_CAUSES, F.ROLE_STATUS_HEALTH, F.ROLE_STATUS_OK_OUT, F.ROLE_STATUS_STATE,
   F.CAR_RX_OK 0, F.CAR_RX_OK 1, F.CAR_RX_OK 2, F.CAR_RX_OK 3, F.CAR_ERR 0, F.CAR_ERR 1, F.CAR_ERR 2, F.CAR_ERR 3,
   F.CAR_BUSY_REJ 0, F.CAR_BUSY_REJ 1, F.CAR_BUSY_REJ 2, F.CAR_BUSY_REJ 3, F.MBX_REPLY_LEN_LEN, F.MBX_STATUS_REPLY_OVW,
   F.MBX_STATUS_REPLY_READY, F.NVS_BANKS_MODIFIED, F.LINK_MIRRORS]

/-- The parts of the state beside the register fields, the sent output, the event reports and the log's uncommitted entries. -/
inductive Part where
  /-- The common unit blocks. -/
  | common
  /-- The write shadows and the read snapshots of multi-word values. -/
  | shadows | snaps
  /-- The parity marks. -/
  | parity
  /-- The configuration banks and the factory bank. -/
  | banks
  /-- The timebase, the power state, the proof resources, the factory data, the time stamps, the media clock. -/
  | time | power | proof | data | stamps | clock
  /-- Network and streams, graphs and Burins, the memory, the local ports, the amplifiers, the health monitors. -/
  | streams | dsp | memory | ports | amps | health
  /-- The carriers' buffers but for their replies, the pair but for its bookkeeping, the input pins, the stored log. -/
  | carriers | pair | inputs | pages
  /-- The count of free values taken. -/
  | draws
  deriving DecidableEq, Repr

/-- Two states agree in a part. A request's answer and the end of a command may change, of the carriers, the replies, the
sequence numbers of sessions and what executes; of the pair, its runs, cut, bus level and mirror sequence; of the pins, the
outputs. -/
def Part.Same (s t : State) : Part → Prop
  | .common => t.units = s.units
  | .shadows => t.shadows = s.shadows
  | .snaps => t.readSnaps = s.readSnaps
  | .parity => t.bad = s.bad
  | .banks => t.bankA = s.bankA ∧ t.bankB = s.bankB ∧ t.factory = s.factory
  | .time => t.time = s.time
  | .power => t.pwr = s.pwr
  | .proof => t.prf = s.prf
  | .data => t.fact = s.fact
  | .stamps => t.stamps = s.stamps
  | .clock => t.clk = s.clk
  | .streams => t.str = s.str
  | .dsp => t.dsp = s.dsp
  | .memory => t.mem = s.mem
  | .ports => t.loc = s.loc
  | .amps => t.amp = s.amp
  | .health => t.hlt = s.hlt
  | .carriers => t.car = { s.car with sessions := t.car.sessions, mbxRep := t.car.mbxRep, mbxRspCrc := t.car.mbxRspCrc,
                                      spiReply := t.car.spiReply, uartBusy := t.car.uartBusy, executing := t.car.executing } ∧
      ∀ n, (KV.get {} t.car.sessions n).role = (KV.get {} s.car.sessions n).role ∧
        (KV.get {} t.car.sessions n).evFlag = (KV.get {} s.car.sessions n).evFlag ∧
        (KV.get {} t.car.sessions n).key = (KV.get {} s.car.sessions n).key
  | .pair => t.pair = { s.pair with syncRun := t.pair.syncRun, cut := t.pair.cut, bus := t.pair.bus, busFrom := t.pair.busFrom,
                                    reqAt := t.pair.reqAt, mirSeq := t.pair.mirSeq }
  | .inputs => t.pins.svcEn = s.pins.svcEn ∧ t.pins.pfwLow = s.pins.pfwLow ∧ t.pins.takeLow = s.pins.takeLow ∧
      t.pins.outputsOff = s.pins.outputsOff
  | .pages => t.log.ring = s.log.ring
  | .draws => t.draws = s.draws

/-- Every part outside `ps` stays, and the queue stays. -/
def State.KeepsParts (s t : State) (ps : List Part) : Prop :=
  t.pending = s.pending ∧ ∀ p, p ∉ ps → p.Same s t

/-- Units of the register map: a subsystem and its units from one number to another (R4, R9). -/
structure Units where
  sub : Nat
  first : Nat
  last : Nat
  deriving DecidableEq, Repr

/-- Whether a field lies in one of some units. -/
def Fld.within (f : Fld) (us : List Units) : Prop :=
  ∃ u ∈ us, (addrUnit (f.key / 8)).1 = u.sub ∧ u.first ≤ (addrUnit (f.key / 8)).2.1 ∧ (addrUnit (f.key / 8)).2.1 ≤ u.last

/-- Every register field keeps its value, but for those of some units and those every command may write. -/
def State.KeepsRegs (s t : State) (us : List Units) : Prop :=
  ∀ f : Fld, f.key ∉ bookFields.map Fld.key → ¬ f.within us → t.getF f = s.getF f

/-- The frame of a command: parts and units outside those named stay. -/
def State.Touches (s t : State) (ps : List Part) (us : List Units) : Prop :=
  s.KeepsParts t ps ∧ s.KeepsRegs t us

/-- The request that a command carries, and its operation. -/
def requestOf : Instr → Option (Nat × Req)
  | .store q => some (0x0010, q)
  | .recall q => some (0x0011, q)
  | .factoryRecall q => some (0x0012, q)
  | .logRead q => some (0x0020, q)
  | .logFlush q => some (0x0021, q)
  | .regRead q => some (0x0030, q)
  | .regWrite q => some (0x0031, q)
  | .selftest q => some (0x0040, q)
  | .fwBlock q => some (0x0050, q)
  | .fwCommit q => some (0x0051, q)
  | .info q => some (0x0060, q)
  | .sessionSet q => some (0x0002, q)
  | .objGet sub q => some (sub % 256 * 256 + 1, q)
  | .objSet sub q => some (sub % 256 * 256 + 2, q)
  | .objEnable sub q => some (sub % 256 * 256 + 3, q)
  | .objDisable sub q => some (sub % 256 * 256 + 4, q)
  | .objStatus sub q => some (sub % 256 * 256 + 5, q)
  | .netPortSet q => some (0x0302, q)
  | .rxEntrySet q => some (0x0402, q)
  | .rxEntryEnable q => some (0x0403, q)
  | .rxEntryDisable q => some (0x0404, q)
  | .txEntrySet q => some (0x0402, q)
  | .txEntryEnable q => some (0x0403, q)
  | .txEntryDisable q => some (0x0404, q)
  | .graphHeaderSet q => some (0x0502, q)
  | .graphEnable q => some (0x0503, q)
  | .graphDisable q => some (0x0504, q)
  | .tdmDisable q => some (0x0604, q)
  | .tdmStatus q => some (0x0605, q)
  | .ampDisable q => some (0x0804, q)
  | .ampStatus q => some (0x0805, q)
  | .tsqRead q => some (0x0112, q)
  | .trgArm q => some (0x0110, q)
  | .trgDisarm q => some (0x0111, q)
  | .align q => some (0x0210, q)
  | .mdioRead q _ => some (0x0310, q)
  | .mdioWrite q => some (0x0310, q)
  | .rxSwap q => some (0x0410, q)
  | .dirRead q => some (0x0420, q)
  | .dirStream q => some (0x0422, q)
  | .sdpImport q => some (0x0421, q)
  | .dirImport q => some (0x0423, q)
  | .txSwap q => some (0x0411, q)
  | .sdpExport q => some (0x0424, q)
  | .graphSched q => some (0x0512, q)
  | .graphLoad q => some (0x0520, q)
  | .graphRead q => some (0x0521, q)
  | .graphParam q => some (0x0522, q)
  | .meterRead q => some (0x0524, q)
  | .graphSwap q => some (0x0523, q)
  | .memRetrain q => some (0x0910, q)
  | .diagOffline q => some (0x0810, q)
  | .diagLive q => some (0x0811, q)
  | .diagRead q => some (0x0812, q)
  | .plateStore q _ => some (0x0813, q)
  | .plateClear q _ => some (0x0813, q)
  | .pairTakeover q => some (0x0A10, q)
  | .pairHealth q => some (0x0A11, q)
  | .ledgerRead q => some (0x0B20, q)
  | .baselineReset q => some (0x0B12, q)
  | .calenderRun q => some (0x0B10, q)
  | .calenderApprove q => some (0x0B11, q)
  | .pwrState q => some (0x0E10, q)
  | .reset q => some (0x0E12, q)
  | .proofStart q _ _ => some (0x0D10, q)
  | .proofEnd q _ _ => some (0x0D10, q)
  | .proofStatus q _ _ => some (0x0D10, q)
  | _ => none

end Sys2Proof.Machine
end

