-- ==== Sys2Proof/Certificates/Slice0/Obligations.lean ====
section
/-!
DEFINITION. Certificates/Slice0/Obligations.lean: the statements about the block, for the provers. Each says what a family of
commands does, what it leaves alone, or what every step keeps.
-/

open Sys2Proof Sys2Proof.Machine

/-- A step runs the front command on the state with the queue's rest; an empty queue lets a media cycle pass (the model's choice,
log entry 6). -/
def Obligations.StepRunsFrontCommand : Prop :=
  (∀ (s : State) (c : Instr) (rest : List Instr), s.pending = c :: rest → step s = exec c { s with pending := rest }) ∧
  (∀ s : State, s.pending = [] → step s = .next s.mediaCycle)

/-- Every command answers a next state in every state: a rejected one answers a status and the block goes on (R26). -/
def Obligations.EveryCommandCompletes : Prop :=
  (∀ (c : Instr) (s : State), Completes (exec c s)) ∧ ∀ s : State, Completes (step s)

/-- Power-on reset: registers at their tables' reset values (and, where the tables give none, at those log entry 2 names), HOST_BUSY
high, PAIR_OK low, nothing queued, waiting, sticky or stored. -/
def Obligations.ResetLeavesTheTablesValues : Prop :=
  (∀ f : Fld, State.reset.getF f = resetAt f.addr f.lo) ∧ State.reset.getF F.MGT_CHIP_ID = 0x409600B1 ∧
  State.reset.pending = [] ∧ State.reset.car.slots = [] ∧ State.reset.car.longOp = none ∧ State.reset.pwr.cmdReady = false ∧
  State.reset.pins.hostBusy = true ∧ State.reset.pins.pairOk = false ∧ State.reset.ev.sticky = [] ∧ State.reset.log.ram = [] ∧
  State.reset.bankA.valid = false ∧ State.reset.bankB.valid = false

/-- The invariant of `PinsFollowEveryStep` holds at power-on reset. -/
def Obligations.ResetMeetsTheInvariant : Prop := State.reset.PinsFollow ∧ State.reset.PairOkBacked

/-- Whatever a step does, the pins afterwards stand as the state says, and PAIR_OK is high only on the conditions of R406. -/
def Obligations.PinsFollowEveryStep : Prop :=
  ∀ s t : State, s.PinsFollow → s.PairOkBacked → step s = .next t → t.PinsFollow ∧ t.PairOkBacked

/-- A command brings the pins in line with the state from whatever state it starts. -/
def Obligations.PinsFollowEveryCommand : Prop :=
  ∀ (c : Instr) (s t : State), exec c s = .next t → t.PinsFollow ∧ t.PairOkBacked

/-- R27: an illegal value in any field refuses the whole write; the unit's BAD_VALUE sticky bit is set, the BAD_VALUE event of group 0
is raised, and a carrier that can answer answers an error. -/
def Obligations.IllegalWritesLeaveEveryField : Prop :=
  (∀ (s : State) (a : Access) (addr sub u off : Nat) (r : RegDesc) (mask data : Nat),
    s.ReachesStepSix a addr sub u off r mask data →
    s.writeLegal sub u off r mask (s.regWord sub u off % 65536) (merge16 (s.regWord sub u off % 65536) mask data) = false →
    s.judgeWrite a addr (mask * 65536 + data) = .inl .illegal) ∧
  (∀ (s : State) (via : Via) (addr sub u off : Nat) (r : RegDesc) (data : Word), s.reachable = true →
    regTarget addr = some (.reg sub u off r) → s.fresh.judgeWrite via.access addr data.toNat = .inl .illegal →
    ∃ t, exec (.regWriteGeneric via addr 15 data) s = .next t ∧
      s.Touches t [.common, .shadows] [⟨1, 32, 63⟩, ⟨5, 65, 65⟩] ∧
      (t.unit (unitKey sub u)).badValue = true ∧ Ev.BAD_VALUE ∈ t.ev.sticky ∧
      ∀ b, via = .spi b → Emit.spi [0xE4] ∈ t.out) ∧
  (∀ (s : State) (q : Req) (sub u off : Nat) (r : RegDesc), s.Serves 0x0031 q → q.params.length = 12 → q.field 4 2 = 1 →
    q.field 6 2 = 0 → regTarget (q.field 0 4) = some (.reg sub u off r) →
    (s.work 0x0031 q).judgeWrite (q.as 0x0031).access (q.field 0 4) (q.field 8 4) = .inl .illegal →
    ∃ t, exec (.regWrite q) s = .next t ∧ t.Answered (q.as 0x0031) stBAD_PARAM (errParams 24 0) ∧
      s.Touches t [.common, .shadows] [⟨1, 32, 63⟩, ⟨5, 65, 65⟩] ∧
      (t.unit (unitKey sub u)).badValue = true ∧ Ev.BAD_VALUE ∈ t.ev.sticky)

/-- R60: the merged value, bit by bit, and the judgement on it. -/
def Obligations.WritesAreJudgedOnTheMergedValue : Prop :=
  (∀ (cur mask data i : Nat), cur < 65536 → mask < 65536 → data < 65536 →
    (merge16 cur mask data).testBit i = if mask.testBit i then data.testBit i else cur.testBit i) ∧
  (∀ (s : State) (a : Access) (addr sub u off : Nat) (r : RegDesc) (mask data cur m : Nat),
    s.ReachesStepSix a addr sub u off r mask data → cur = s.regWord sub u off % 65536 → m = merge16 cur mask data →
    s.judgeWrite a addr (mask * 65536 + data) =
      if s.writeLegal sub u off r mask cur m = true ∧
          ((isEnReg sub u off && bitOf mask 0 && bitOf m 0 && !bitOf cur 0) = true → (s.storeWord r addr m).enLegal sub u off = true)
      then .inr (.words sub u off [(off, m, mask)]) else .inl .illegal) ∧
  (∀ (s : State) (a : Access) (addr sub u off : Nat) (r : RegDesc) (mask data : Nat), regTarget addr = some (.reg sub u off r) →
    0 < mask → mask < 65536 → data < 65536 → s.busyIndex = none → (r.priv = true → a.origin.priv = true) →
    s.absent sub u = false → s.isStandby = false → r.mwIdx + 1 < r.mwLen → accMask r Acc.config ≠ 0 →
    KV.find s.shadows (unitBase sub u + (off - 4 * r.mwIdx)) = none →
    s.writeIgnored sub u off r mask (merge16 (s.regWord sub u off % 65536) mask data) = false →
    s.judgeWrite a addr (mask * 65536 + data) =
      .inr (.shadow (unitBase sub u + (off - 4 * r.mwIdx)) r.mwIdx (merge16 (s.regWord sub u off % 65536) mask data)))

/-- R70: what an ordinary origin meets at a privileged register. -/
def Obligations.OrdinaryOriginsCannotUsePrivilegedRegisters : Prop :=
  (∀ (s : State) (via : Via) (addr sub u off : Nat) (r : RegDesc), s.reachable = true →
    regTarget addr = some (.reg sub u off r) → r.priv = true → via.origin.priv = false →
    exec (.snapshotRead via addr) s = .next ((s.fresh.emit (match via with
      | .spi _ => .spi ([0xA0] ++ beBytes 4 0)
      | _ => .readData [0])).settleAll)) ∧
  (∀ (s : State) (q : Req) (sub u off : Nat) (r : RegDesc), s.Serves 0x0030 q → q.params.length = 8 → q.field 4 2 = 1 →
    q.field 6 2 = 0 → regTarget (q.field 0 4) = some (.reg sub u off r) → r.priv = true → q.origin.priv = false →
    ∃ t, exec (.regRead q) s = .next t ∧ t.Answered (q.as 0x0030) stOK (leBytes 4 0) ∧ s.Touches t [] []) ∧
  (∀ (s : State) (via : Via) (addr sub u off : Nat) (r : RegDesc) (data : Word), s.reachable = true → s.busyIndex = none →
    regTarget addr = some (.reg sub u off r) → r.priv = true → via.origin.priv = false → 65536 ≤ data.toNat →
    ∃ v e, exec (.regWriteGeneric via addr 15 data) s = .next v.settleAll ∧ s.Touches v [.common] [] ∧
      (v.unit (unitKey sub u)).denied = true ∧ Ev.DENIED ∈ v.ev.sticky ∧ v.log.ram.getLast? = some e ∧
      e.kind = kDENIED ∧ e.origin = via.origin.code ∧ e.oid = via.origin.id ∧ e.addr = true ∧ e.obj = addr ∧
      e.new = data.toNat % 65536) ∧
  Via.bar4.origin.priv = true

/-- R488: three resources, one proof of each at once. -/
def Obligations.ProofResourcesServeOneProof : Prop :=
  proofResource 1 = 0 ∧ proofResource 2 = 1 ∧ (∀ g ∈ [3, 4, 5, 7, 8], proofResource g = 2) ∧
  (∀ (s : State) (q : Req) (r y : ProofRun) (v0 v1 : Int), s.Serves 0x0D10 q → q.params.length = 16 → q.obj = 0x0D020000 →
    r = { g := q.field 4 1, i := q.field 5 1, a1 := q.field 8 4, a2 := q.field 12 4, hold := s.getF F.UART_PROOF_HOLD } →
    proofExists r.g r.i = true → q.field 6 1 = 0 → q.field 7 1 = 0 → s.proofArgs r = true →
    KV.find s.prf.run (proofResource r.g) = some y → (y.g, y.i) ≠ (r.g, r.i) →
    ∃ t, exec (.proofStart q v0 v1) s = .next t ∧ t.Answered (q.as 0x0D10) stBAD_STATE (errParams 0xFFFF 0) ∧ t.prf = s.prf) ∧
  (∀ (s : State) (q : Req) (r : ProofRun) (v0 v1 : Int), s.Serves 0x0D10 q → q.params.length = 16 → q.obj = 0x0D020000 →
    r = { g := q.field 4 1, i := q.field 5 1, a1 := q.field 8 4, a2 := q.field 12 4, hold := s.getF F.UART_PROOF_HOLD } →
    proofExists r.g r.i = true → q.field 6 1 = 0 → q.field 7 1 = 0 → s.proofArgs r = true → s.proofMay r = true →
    ∃ t, exec (.proofStart q v0 v1) s = .next t ∧ KV.find t.prf.run (proofResource r.g) = some r ∧
      ∀ k, k ≠ proofResource r.g → KV.find t.prf.run k = KV.find s.prf.run k)

/-- R413: the write joins the queue of those that wait for their tick, its record is sent, and no register changes yet. -/
def Obligations.MirroredWritesWaitForTheirTick : Prop :=
  ∀ (s : State) (via : Via) (addr sub u off m mask : Nat) (data : Word), s.reachable = true →
    s.fresh.judgeWrite via.access addr data.toNat = .inr (.words sub u off [(off, m, mask)]) →
    s.mirrored sub u off = true → s.sharesRequests = true →
    ∃ t, exec (.regWriteGeneric via addr 15 data) s = .next t ∧
      t.pair.regQ = s.pair.regQ ++ [{ tick := s.mirrorTick, origin := via.origin, addr := addr, data := data.toNat }] ∧
      Emit.pair 2 [s.pair.mirSeq + 1, addr, data.toNat, b2n via.origin.priv, s.mirrorTick] ∈ t.out ∧
      s.Touches t [.shadows, .pair] []

/-- R59: each failure leaves every register unchanged but for the traces Table 3.3 names; a mask of 0 changes nothing. -/
def Obligations.RefusedWritesTouchNoRegister : Prop :=
  (∀ (s t : State) (via : Via) (addr : Nat) (data : Word) (f : WrFail),
    s.fresh.judgeWrite via.access addr data.toNat = .inl f → exec (.regWriteGeneric via addr 15 data) s = .next t →
    s.Touches t [.common, .shadows] [⟨0, 0, 0⟩, ⟨1, 32, 63⟩, ⟨5, 65, 65⟩]) ∧
  (∀ (s t : State) (via : Via) (addr sub u off : Nat) (r : RegDesc) (data : Word), regTarget addr = some (.reg sub u off r) →
    data.toNat < 65536 → exec (.regWriteGeneric via addr 15 data) s = .next t → s.Touches t [] [])

/-- R75: only aligned 32-bit accesses are accepted. -/
def Obligations.PartialAndUnalignedAccessesAreBusErrors : Prop :=
  (∀ (s : State) (via : Via) (addr be : Nat) (data : Word), s.reachable = true → (via = .bar0 ∨ via = .bar4) → be ≠ 15 →
    ∃ t, exec (.regWriteGeneric via addr be data) s = .next t ∧ Ev.BUS_ERR ∈ t.ev.sticky ∧ Emit.pcieUr true ∈ t.out ∧
      t.on F.MGT_BUS_ERR_INFO_VALID = true ∧ s.Touches t [] [⟨0, 0, 0⟩]) ∧
  (∀ (s : State) (via : Via) (addr : Nat) (data : Word), s.reachable = true → addr % 4 ≠ 0 →
    ∃ t, exec (.regWriteGeneric via addr 15 data) s = .next t ∧ Ev.BUS_ERR ∈ t.ev.sticky ∧
      t.on F.MGT_BUS_ERR_INFO_VALID = true ∧ s.Touches t [] [⟨0, 0, 0⟩]) ∧
  (∀ (s : State) (via : Via) (addr : Nat), s.reachable = true → addr % 4 ≠ 0 →
    ∃ t, exec (.snapshotRead via addr) s = .next t ∧ Ev.BUS_ERR ∈ t.ev.sticky ∧ t.on F.MGT_BUS_ERR_INFO_VALID = true ∧
      s.Touches t [] [⟨0, 0, 0⟩])

/-- Steps 6 to 10 of Table 2.2: what they refuse changes no part of the block. -/
def Obligations.RefusedAndBusyRequestsTouchNothing : Prop :=
  ∀ (c : Instr) (op : Nat) (q : Req) (s t : State), requestOf c = some (op, q) →
    (s.busyIndex.isSome = true ∨ (s.gate (q.as op)).isSome = true) → exec c s = .next t →
    s.Touches t [] [] ∧ (s.reachable = true → s.busyIndex.isSome = true → Ev.BUSY_REJECT ∈ t.ev.sticky)

/-- A request of a long operation that passes its own checks begins it: the operation of its index runs, and HOST_BUSY is high. -/
def Obligations.LongOperationsBegin : Prop :=
  (∀ (s : State) (q : Req), s.Serves 0x0010 q → q.params = [] → s.on F.NVS_CTL_STORE_LOCK = false → s.anySafe = false →
    s.storeBarred = false →
    ∃ t, exec (.store q) s = .next t ∧ t.car.longOp.map (·.idx) = some 1 ∧ t.pins.hostBusy = true) ∧
  (∀ (s : State) (q : Req), s.Serves 0x0011 q → q.params = [] → s.storeBarred = false → s.banksByAge ≠ [] →
    ∃ t, exec (.recall q) s = .next t ∧ t.car.longOp.map (·.idx) = some 2 ∧ t.pins.hostBusy = true) ∧
  (∀ (s : State) (q : Req), s.Serves 0x0012 q → q.params = [] → s.storeBarred = false → s.factory.valid = true →
    ∃ t, exec (.factoryRecall q) s = .next t ∧ t.car.longOp.map (·.idx) = some 3 ∧ t.pins.hostBusy = true) ∧
  (∀ (s : State) (q : Req), s.Serves 0x0021 q → q.params = [] → s.pins.pfwLow = false →
    ∃ t, exec (.logFlush q) s = .next t ∧ t.car.longOp.map (·.idx) = some 4 ∧ t.pins.hostBusy = true) ∧
  (∀ (s : State) (q : Req), s.Serves 0x0040 q → q.params.length = 4 → (q.field 0 1 ≤ 0x0E ∨ q.field 0 1 = 0xFF) →
    q.field 1 3 = 0 →
    ∃ t, exec (.selftest q) s = .next t ∧ t.car.longOp.map (·.idx) = some 6 ∧ t.pins.hostBusy = true) ∧
  (∀ (s : State) (q : Req), s.Serves 0x0910 q → q.params.length = 8 → q.obj = objId 9 0 0 → q.field 4 4 = 1 →
    ∃ t, exec (.memRetrain q) s = .next t ∧ t.car.longOp.map (·.idx) = some 5 ∧ t.pins.hostBusy = true ∧
      t.mem.live = false) ∧
  (∀ (s : State) (q : Req), s.Serves 0x0810 q → q.params.length = 8 → s.diagParams q 1 = none → s.on F.DIAG_CTL_EN = true →
    s.inSafe 8 9 = false → (∀ x ∈ maskList (q.field 4 1), s.ampSt x = aOFF ∧ s.ampHeld x = false) →
    ∃ t, exec (.diagOffline q) s = .next t ∧ t.car.longOp.map (·.idx) = some 7 ∧ t.pins.hostBusy = true ∧
      t.amp.offline = maskList (q.field 4 1))

/-- Requests that read one thing: the reply carries it. -/
def Obligations.ReadRequestsAnswerTheState : Prop :=
  (∀ (s : State) (q : Req), s.Serves 0x0060 q → q.params = [] →
    ∃ t, exec (.info q) s = .next t ∧ t.Answered (q.as 0x0060) stOK
      (leBytes 4 (s.getF F.MGT_CHIP_ID) ++ leBytes 4 (Config.firmwareVersion s.pwr.fwCrc).toNat ++
       leBytes 4 (s.getF F.NVS_RUN_GEN_GEN) ++ leBytes 1 (s.getF F.PWR_STATUS_STATE) ++
       leBytes 1 (s.getF F.ROLE_STATUS_STATE) ++ leBytes 2 0)) ∧
  (∀ (s : State) (q : Req), s.Serves 0x0020 q → q.params.length = 8 → q.field 6 2 = 0 → 1 ≤ q.field 4 2 → q.field 4 2 ≤ 127 →
    s.log.ring = [] → s.log.ram = [] →
    ∃ t, exec (.logRead q) s = .next t ∧ t.Answered (q.as 0x0020) stOK (leBytes 4 0 ++ leBytes 2 0 ++ leBytes 2 2)) ∧
  (∀ (s : State) (q : Req) (sub u off : Nat) (r : RegDesc), s.Serves 0x0030 q → q.params.length = 8 → q.field 4 2 = 1 →
    q.field 6 2 = 0 → regTarget (q.field 0 4) = some (.reg sub u off r) → r.priv = false → s.absent sub u = false →
    r.mwLen ≤ 1 → ¬ (sub = 1 ∧ u = 0 ∧ 0x40 ≤ off) → ¬ (sub = 1 ∧ 4 ≤ u ∧ u < 8 ∧ 0x70 ≤ off) →
    ¬ (sub = 0 ∧ u = 2 ∧ off = 0x2008) →
    ∃ t, exec (.regRead q) s = .next t ∧ t.Answered (q.as 0x0030) stOK (leBytes 4 (s.regWord sub u off))) ∧
  (∀ (s : State) (q : Req) (n : Nat), s.Serves 0x0001 q → q.params = leBytes 4 (objId 0 1 n) → 1 ≤ n → n ≤ 15 →
    ∃ t, exec (.objGet 0 q) s = .next t ∧ t.Answered (q.as 0x0001) stOK
      (leBytes 1 (KV.get {} s.car.sessions n).role ++ leBytes 1 (b2n (KV.get {} s.car.sessions n).evFlag) ++ leBytes 2 0 ++
       List.replicate 32 0)) ∧
  (∀ (s : State) (q : Req) (p : Nat), s.Serves 0x0301 q → q.params = leBytes 4 (objId 3 p 0) → p < 4 → (s.l3 p).length = 64 →
    ∃ t, exec (.objGet 3 q) s = .next t ∧ t.Answered (q.as 0x0301) stOK (s.l3 p)) ∧
  (∀ (s : State) (q : Req), s.Serves 0x0A11 q → q.params.length = 8 → q.obj = roleObj → q.field 4 1 = 0 → q.field 5 3 = 0 →
    ∃ t, exec (.pairHealth q) s = .next t ∧ t.Answered (q.as 0x0A11) stOK s.healthReport) ∧
  (∀ (s : State) (q : Req), s.Serves 0x0B20 q → q.params.length = 8 → 1 ≤ q.field 4 2 → q.field 4 2 ≤ 127 →
    q.field 6 1 ≤ 11 → s.hlt.ledger = [] →
    ∃ t, exec (.ledgerRead q) s = .next t ∧ t.Answered (q.as 0x0B20) stOK (leBytes 4 0 ++ leBytes 2 0 ++ leBytes 2 2)) ∧
  (∀ (s : State) (q : Req) (r : DiagRec), s.Serves 0x0812 q → q.params.length = 8 → q.obj = diagObj → q.field 4 1 ≤ 7 →
    q.field 5 1 = 0 → q.field 6 2 = 0 → KV.find s.amp.last (q.field 4 1) = some r →
    ∃ t, exec (.diagRead q) s = .next t ∧ t.Answered (q.as 0x0812) stOK r.bytes)

/-- Requests that read a directory, a description, an image, a meter or a copy. -/
def Obligations.StreamAndGraphReadsAnswer : Prop :=
  (∀ (s : State) (q : Req), s.Serves 0x0420 q → q.params.length = 8 → 1 ≤ q.field 2 2 → q.field 2 2 ≤ 84 → q.field 4 4 = 0 →
    ∃ t l, exec (.dirRead q) s = .next t ∧
      l = (s.str.peers.filter (fun p => decide (q.field 0 2 ≤ p.1))).take (q.field 2 2) ∧
      t.Answered (q.as 0x0420) stOK
        (leBytes 2 ((l.head?.map (·.1)).getD 0) ++ leBytes 2 l.length ++ l.flatMap (fun p => p.2.bytes p.1))) ∧
  (∀ (s : State) (q : Req) (x : Peer) (text : List Byte), s.Serves 0x0422 q → q.params.length = 8 → q.field 4 4 = 0 →
    KV.find s.str.peers (q.field 0 2) = some x → KV.find x.descs (q.field 2 2) = some text →
    ∃ t, exec (.dirStream q) s = .next t ∧ t.Answered (q.as 0x0422) stOK text) ∧
  (∀ (s : State) (q : Req) (e : Nat), s.Serves 0x0424 q → q.params.length = 4 → q.obj = txObj e → e < 512 →
    bChannels (s.txB e) ≠ 0 →
    ∃ t, exec (.sdpExport q) s = .next t ∧ t.Answered (q.as 0x0424) stOK
      (leBytes 4 (s.txVersion e) ++ leBytes 2 (s.sdpText e (s.txB e)).length ++ leBytes 2 0 ++ s.sdpText e (s.txB e))) ∧
  (∀ (s : State) (q : Req) (g : Nat), s.Serves 0x0512 q → q.params.length = 4 → q.obj = objId 5 64 g → g < 256 →
    configured (s.gImg g) = true → KV.find s.dsp.comp g = none →
    ∃ t, exec (.graphSched q) s = .next t ∧ t.Answered (q.as 0x0512) stOK
      (leBytes 1 0 ++ leBytes 1 (gKind (s.gImg g)) ++ leBytes 2 (({} : OwnerC).perTick) ++ leBytes 4 (({} : OwnerC).charge) ++
       leBytes 4 (({} : OwnerC).crit) ++ leBytes 4 (s.ownerRun g).misses ++ leBytes 4 (s.ownerRun g).abandoned ++
       leBytes 4 (s.ownerRun g).liftedLast ++ leBytes 4 (s.ownerRun g).missSec ++ leBytes 4 (s.ownerRun g).missNs)) ∧
  (∀ (s : State) (q : Req) (g : Bool × Nat), s.Serves 0x0521 q → q.params.length = 16 → graphOf q.obj = some g →
    4 ≤ q.field 8 4 → q.field 8 4 ≤ 4072 → q.field 4 4 + q.field 8 4 ≤ gLen (KV.get [] s.dsp.img (s.gKey g)) →
    q.field 12 4 = 0 →
    ∃ t, exec (.graphRead q) s = .next t ∧ t.Answered (q.as 0x0521) stOK
      (imgBytes (KV.get [] s.dsp.img (s.gKey g)) (q.field 4 4) (q.field 8 4))) ∧
  (∀ (s : State) (q : Req) (g : Nat) (d : Node), s.Serves 0x0524 q → q.params.length = 12 → graphOf q.obj = some (false, g) →
    (imgNodeList (s.gImg g))[q.field 4 2]? = some d → d.ty = tyMETER → q.field 6 2 < d.ch → q.field 8 2 = 1 →
    q.field 10 2 = 0 → KV.find s.dsp.nst (nodeKey (s.stateKey g) (q.field 4 2) (q.field 6 2)) = none →
    ∃ t, exec (.meterRead q) s = .next t ∧ t.Answered (q.as 0x0524) stOK
      (leBytes 2 1 ++ leBytes 2 0 ++ leBytes 4 0 ++ leBytes 4 0)) ∧
  (∀ (s : State) (q : Req) (x : Nat), s.Serves 0x0805 q → q.params.length = 4 → objParts q.obj = (8, x, 0) → x < 8 →
    ∃ t, exec (.objStatus 8 q) s = .next t ∧ t.Answered (q.as 0x0805) stOK (s.ampStatusBlock x)) ∧
  (∀ (s : State) (q : Req) (p : Nat), s.Serves 0x0605 q → q.params.length = 4 → objParts q.obj = (6, p, 0) → p < 16 →
    ∃ t, exec (.tdmStatus q) s = .next t ∧ t.Answered (q.as 0x0605) stOK (s.tdmStatusBlock p)) ∧
  (∀ (s : State) (q : Req) (x : Nat), s.Serves 0x0805 q → q.params.length = 4 → objParts q.obj = (8, x, 0) → x < 8 →
    ∃ t, exec (.ampStatus q) s = .next t ∧ t.Answered (q.as 0x0805) stOK (s.ampStatusBlock x))

/-- Requests that write a parameter block: the block is held, and the reply is OK. -/
def Obligations.SetRequestsStore : Prop :=
  (∀ (s : State) (q : Req) (n : Nat), s.Serves 0x0002 q → q.params.length = 40 → q.obj = objId 0 1 n → 1 ≤ n → n ≤ 15 →
    q.field 4 1 ≤ 2 → q.field 5 1 ≤ 1 → q.field 6 2 = 0 →
    ((q.params.drop 8).take 32).all (· == 0#8) = false →
    ∃ t, exec (.sessionSet q) s = .next t ∧ t.Answered (q.as 0x0002) stOK [] ∧
      (KV.get {} t.car.sessions n).role = q.field 4 1 ∧
      (KV.get {} t.car.sessions n).evFlag = (q.field 5 1 == 1) ∧
      (KV.get {} t.car.sessions n).key = (q.params.drop 8).take 32) ∧
  (∀ (s : State) (q : Req) (p : Nat), s.Serves 0x0302 q → q.params.length = 68 → q.obj = objId 3 p 0 → p < 4 →
    l3Fault (q.params.drop 4) = none → s.on (F.MAC_CTL_EN p) = false → (q.params.drop 4).all (· == 0#8) = false →
    ∃ t, exec (.netPortSet q) s = .next t ∧ t.Answered (q.as 0x0302) stOK [] ∧ t.l3 p = q.params.drop 4) ∧
  (∀ (s : State) (q : Req) (bank e : Nat), s.Serves 0x0402 q → q.params.length = 68 → objParts q.obj = (4, 0, q.obj % 65536) →
    entryOf s.rxBank (q.obj % 65536) = some (bank, e) → rxFault (q.params.drop 4) = none → s.rxFrozen bank e = false →
    ∃ t, exec (.rxEntrySet q) s = .next t ∧ t.Answered (q.as 0x0402) stOK [] ∧ t.rxBlkAt bank e = q.params.drop 4) ∧
  (∀ (s : State) (q : Req) (bank e : Nat), s.Serves 0x0402 q → q.params.length = 68 → objParts q.obj = (4, 0, q.obj % 65536) →
    entryOf s.rxBank (q.obj % 65536) = some (bank, e) → rxFault (q.params.drop 4) = none → s.rxFrozen bank e = false →
    ∃ t, exec (.objSet 4 q) s = .next t ∧ t.Answered (q.as 0x0402) stOK [] ∧ t.rxBlkAt bank e = q.params.drop 4) ∧
  (∀ (s : State) (q : Req) (bank e : Nat), s.Serves 0x0402 q → q.params.length = 68 → objParts q.obj = (4, 1, q.obj % 65536) →
    entryOf s.txBank (q.obj % 65536) = some (bank, e) → txFault (q.params.drop 4) = none → s.txFrozen bank e = false →
    ∃ t, exec (.txEntrySet q) s = .next t ∧ t.Answered (q.as 0x0402) stOK [] ∧ t.txBlkAt bank e = q.params.drop 4) ∧
  (∀ (s : State) (q : Req) (g : Bool × Nat) (new : List Byte), s.Serves 0x0502 q → q.params.length = 20 →
    graphOf q.obj = some g → s.imgFree g = true →
    new = putImg (KV.get [] s.dsp.img (s.gKey g)) 0 (q.params.drop 4) → configured new = true → 16 ≤ gLen new →
    gLen new ≤ 262144 → gLen new % 4 = 0 → imageTotal (KV.set s.dsp.img (s.gKey g) new) ≤ 327680 →
    ∃ t, exec (.graphHeaderSet q) s = .next t ∧ t.Answered (q.as 0x0502) stOK [] ∧ KV.get [] t.dsp.img (s.gKey g) = new) ∧
  (∀ (s : State) (q : Req) (g : Bool × Nat) (new : List Byte), s.Serves 0x0520 q → 12 ≤ q.params.length →
    q.params.length ≤ 4080 → q.params.length % 4 = 0 → graphOf q.obj = some g → s.imgFree g = true → q.field 4 4 % 4 = 0 →
    new = putImg (KV.get [] s.dsp.img (s.gKey g)) (q.field 4 4) (q.params.drop 8) → configured new = true →
    q.field 4 4 + q.params.length ≤ gLen new + 8 → gLen new ≤ 262144 → gLen new % 4 = 0 →
    imageTotal (KV.set s.dsp.img (s.gKey g) new) ≤ 327680 →
    ∃ t, exec (.graphLoad q) s = .next t ∧ t.Answered (q.as 0x0520) stOK [] ∧ KV.get [] t.dsp.img (s.gKey g) = new) ∧
  (∀ (s : State) (q : Req) (bank e : Nat) (b : List Byte), s.Serves 0x0421 q → 8 ≤ q.params.length →
    objParts q.obj = (4, 0, q.obj % 65536) → entryOf s.rxBank (q.obj % 65536) = some (bank, e) → q.field 4 2 < 128 →
    q.field 6 2 = 0 → s.rxFrozen bank e = false →
    (s.work 0x0421 q).sdpBlock (s.rxBlkAt bank e) (q.field 4 2 / 2)
      ((q.params.drop 8).drop (if bitOf (q.field 4 2) 0 then sapSkip (q.params.drop 8) else 0)) = .inr b →
    rxFault b = none →
    ∃ t, exec (.sdpImport q) s = .next t ∧ t.Answered (q.as 0x0421) stOK b ∧ t.rxBlkAt bank e = b) ∧
  (∀ (s : State) (q : Req), s.Serves 0x0423 q → 8 ≤ q.params.length → q.field 4 2 < 128 → bitOf (q.field 4 2) 0 = false →
    q.field 6 2 = 0 → (KV.find (KV.get {} s.str.peers (q.field 0 2)).descs (q.field 2 2)).isSome = true →
    ∃ t, exec (.dirImport q) s = .next t ∧ t.Answered (q.as 0x0423) stOK [] ∧
      KV.find (KV.get {} t.str.peers (q.field 0 2)).descs (q.field 2 2) = some (q.params.drop 8)) ∧
  (∀ (s : State) (q : Req), s.Serves 0x0423 q → 8 ≤ q.params.length → q.field 4 2 < 128 → bitOf (q.field 4 2) 0 = false →
    q.field 6 2 = 0 → s.str.peers = [] →
    ∃ t, exec (.dirImport q) s = .next t ∧ t.Answered (q.as 0x0423) stOK [] ∧
      KV.find (KV.get {} t.str.peers (q.field 0 2)).descs (q.field 2 2) = some (q.params.drop 8))

/-- Requests that enable and disable: the flag or the EN bit follows, and the reply is OK. -/
def Obligations.EnableAndDisableRequestsActOnFlags : Prop :=
  (∀ (s : State) (q : Req) (bank e : Nat), s.Serves 0x0403 q → q.params.length = 4 → objParts q.obj = (4, 0, q.obj % 65536) →
    entryOf s.rxBank (q.obj % 65536) = some (bank, e) → bChannels (s.rxBlkAt bank e) ≠ 0 →
    (s.rxOn bank e = true ∨ (bank ≠ s.rxBank ∧ s.str.rxSwap = none) ∨
      (bank = s.rxBank ∧ ∃ a, (s.work 0x0403 q).rxCheck e = .inr a)) →
    ∃ t, exec (.rxEntryEnable q) s = .next t ∧ t.Answered (q.as 0x0403) stOK [] ∧ t.rxOn bank e = true) ∧
  (∀ (s : State) (q : Req) (bank e : Nat), s.Serves 0x0404 q → q.params.length = 4 → objParts q.obj = (4, 0, q.obj % 65536) →
    entryOf s.rxBank (q.obj % 65536) = some (bank, e) → (bank ≠ s.rxBank → s.str.rxSwap = none) →
    ∃ t, exec (.rxEntryDisable q) s = .next t ∧ t.Answered (q.as 0x0404) stOK [] ∧ t.rxOn bank e = false) ∧
  (∀ (s : State) (q : Req) (bank e : Nat), s.Serves 0x0403 q → q.params.length = 4 → objParts q.obj = (4, 1, q.obj % 65536) →
    entryOf s.txBank (q.obj % 65536) = some (bank, e) → bChannels (s.txBlkAt bank e) ≠ 0 →
    (s.txOn bank e = true ∨ (bank ≠ s.txBank ∧ s.str.txSwap = none) ∨
      (bank = s.txBank ∧ ∃ a, (s.work 0x0403 q).txCheck e = .inr a)) →
    ∃ t, exec (.txEntryEnable q) s = .next t ∧ t.Answered (q.as 0x0403) stOK [] ∧ t.txOn bank e = true) ∧
  (∀ (s : State) (q : Req) (bank e : Nat), s.Serves 0x0404 q → q.params.length = 4 → objParts q.obj = (4, 1, q.obj % 65536) →
    entryOf s.txBank (q.obj % 65536) = some (bank, e) → (bank ≠ s.txBank → s.str.txSwap = none) →
    ∃ t, exec (.txEntryDisable q) s = .next t ∧ t.Answered (q.as 0x0404) stOK [] ∧ t.txOn bank e = false) ∧
  (∀ (s : State) (q : Req) (g : Bool × Nat), s.Serves 0x0503 q → q.params.length = 4 → graphOf q.obj = some g →
    configured (KV.get [] s.dsp.img (s.gKey g)) = true →
    (s.dsp.flag.contains (s.gKey g) = true ∨ (g.1 = true ∧ s.dsp.swap = none) ∨
      (g.1 = false ∧ ∃ l, (s.work 0x0503 q).graphCheck g.2 = .inr l)) →
    ∃ t, exec (.graphEnable q) s = .next t ∧ t.Answered (q.as 0x0503) stOK [] ∧ t.dsp.flag.contains (s.gKey g) = true) ∧
  (∀ (s : State) (q : Req) (g : Bool × Nat), s.Serves 0x0504 q → q.params.length = 4 → graphOf q.obj = some g →
    (g.1 = true → s.dsp.swap = none) →
    ∃ t, exec (.graphDisable q) s = .next t ∧ t.Answered (q.as 0x0504) stOK [] ∧ t.dsp.flag.contains (s.gKey g) = false) ∧
  (∀ (s : State) (q : Req) (sub : Nat) (l : List (Nat × Nat)), s.Serves (sub % 256 * 256 + 3) q → q.params.length = 4 →
    sub ≠ 4 → sub ≠ 5 → enTargets sub q.obj = some l →
    (∀ p ∈ l, s.on (enFld (unitBase sub p.1 + p.2)) = true ∨ s.mayEnable sub p = true) →
    ∃ t, exec (.objEnable sub q) s = .next t ∧ t.Answered (q.as (sub % 256 * 256 + 3)) stOK [] ∧
      (sub = 3 → l = [(5, 0)] → t.on F.PHYM_CTL_EN = true) ∧ (sub = 8 → l = [(9, 0)] → t.on F.DIAG_CTL_EN = true)) ∧
  (∀ (s : State) (q : Req) (sub : Nat) (l : List (Nat × Nat)), s.Serves (sub % 256 * 256 + 4) q → q.params.length = 4 →
    sub ≠ 4 → sub ≠ 5 → enTargets sub q.obj = some l →
    (∀ p ∈ l, s.on (enFld (unitBase sub p.1 + p.2)) = false ∨
      (isEnReg sub p.1 p.2 = true ∧ s.proofHoldsUnit sub p.1 = false ∧ s.disLegal sub p.1 p.2 = true)) →
    ∃ t, exec (.objDisable sub q) s = .next t ∧ t.Answered (q.as (sub % 256 * 256 + 4)) stOK [] ∧
      (sub = 3 → l = [(5, 0)] → t.on F.PHYM_CTL_EN = false) ∧ (sub = 8 → l = [(9, 0)] → t.on F.DIAG_CTL_EN = false)) ∧
  (∀ (s : State) (q : Req) (p : Nat), s.Serves 0x0604 q → q.params.length = 4 → q.obj = objId 6 p 0 → p < 16 →
    s.on (F.TDM_CTL_EN p) = true → s.proofHoldsUnit 6 p = false →
    ∃ t, exec (.tdmDisable q) s = .next t ∧ t.Answered (q.as 0x0604) stOK [] ∧ t.on (F.TDM_CTL_EN p) = false ∧
      t.on (F.TDM_STATUS_RUNNING p) = false) ∧
  (∀ (s : State) (q : Req) (x : Nat), s.Serves 0x0804 q → q.params.length = 4 → q.obj = objId 8 x 0 → x < 8 →
    s.on (F.AMP_CTL_EN x) = true → s.ampSt x = aRUN → s.proofHoldsUnit 8 x = false →
    ∃ t, exec (.ampDisable q) s = .next t ∧ t.Answered (q.as 0x0804) stOK [] ∧ t.on (F.AMP_CTL_EN x) = false ∧
      t.ampSt x = aSTOPPING)

/-- Requests that take effect at a tick boundary: what waits, and for when. -/
def Obligations.SwapRequestsWaitForTheirTick : Prop :=
  (∀ (s : State) (q : Req) (a : List (Nat × Nat) × List (Nat × OwnerC)), s.Serves 0x0410 q → q.params.length = 4 →
    q.obj = 0x0400FFFF → s.on F.RXT_CTL_EN = true → s.str.rxSwap = none → (s.work 0x0410 q).rxSwapCheck = .inr a →
    ∃ t, exec (.rxSwap q) s = .next t ∧ t.Answered (q.as 0x0410) stOK [] ∧ t.on F.RXT_CTL_SWAP = true ∧
      t.str.rxSwap = some { tick := (s.work 0x0410 q).ticksAhead 2, origin := q.origin }) ∧
  (∀ (s : State) (q : Req), s.Serves 0x0410 q → q.params.length = 4 → q.obj = 0x0400FFFF → s.on F.RXT_CTL_EN = false →
    ∃ t, exec (.rxSwap q) s = .next t ∧ t.Answered (q.as 0x0410) stOK [] ∧ t.rxBank = 1 - s.rxBank) ∧
  (∀ (s : State) (q : Req) (a : List (Nat × Nat)), s.Serves 0x0411 q → q.params.length = 4 →
    q.obj = 0x0401FFFF → s.on F.TXT_CTL_EN = true → s.str.txSwap = none → (s.work 0x0411 q).txSwapCheck = .inr a →
    ∃ t, exec (.txSwap q) s = .next t ∧ t.Answered (q.as 0x0411) stOK [] ∧ t.on F.TXT_CTL_SWAP = true ∧
      t.str.txSwap = some { tick := (s.work 0x0411 q).ticksAhead 2, origin := q.origin }) ∧
  (∀ (s : State) (q : Req), s.Serves 0x0411 q → q.params.length = 4 → q.obj = 0x0401FFFF → s.on F.TXT_CTL_EN = false →
    ∃ t, exec (.txSwap q) s = .next t ∧ t.Answered (q.as 0x0411) stOK [] ∧ t.txBank = 1 - s.txBank) ∧
  (∀ (s : State) (q : Req) (l : List (Nat × OwnerC)), s.Serves 0x0523 q → q.params.length = 4 → q.obj = graphTable →
    s.dsp.swap = none → (s.work 0x0523 q).graphSwapCheck = .inr l →
    ∃ t, exec (.graphSwap q) s = .next t ∧ t.Answered (q.as 0x0523) stOK [] ∧ t.on F.GRT_CTL_SWAP = true ∧
      t.dsp.swap = some { tick := (s.work 0x0523 q).ticksAhead 2, origin := q.origin }) ∧
  (∀ (s : State) (q : Req) (n at_ k off : Nat) (d : Node) (l : List (Nat × Nat × Nat)), s.Serves 0x0522 q →
    n + 12 = q.params.length → 2 ≤ n → n ≤ 4068 → n % 2 = 0 → graphOf q.obj = some (false, k) →
    s.dsp.flag.contains (s.gKey (false, k)) = true → s.dsp.swap = none →
    (imgNodes (KV.get [] s.dsp.img (s.gKey (false, k))))[q.field 4 2]? = some (at_, d) → d.ty ≠ tyPILOT → q.field 6 2 = 0 →
    off = q.field 8 4 → off + n ≤ 4 * d.len → 12 + 4 * d.nIn ≤ off → d.liveSpan n (off - (12 + 4 * d.nIn)) 0 n = some l →
    (∀ f ∈ l, s.liveLegal d f.1 (leAt (q.params.drop 12) f.2.1 f.2.2) = true) →
    ∃ t, exec (.graphParam q) s = .next t ∧ t.Answered (q.as 0x0522) stOK [] ∧
      t.dsp.params = s.dsp.params ++
        [{ tick := (s.work 0x0522 q).ticksAhead 1, graph := k, node := q.field 4 2, off := at_ + off, data := q.params.drop 12 }])

/-- Requests on triggers, timestamp queues, the clock outputs, the PHYs and registers. -/
def Obligations.TriggerClockAndRegisterRequestsAct : Prop :=
  (∀ (s : State) (q : Req) (k st : Nat) (due : Int), s.Serves 0x0110 q → q.params.length = 28 → q.field 0 2 = 1 → q.field 2 2 = 0 →
    q.field 4 1 = k → k < 32 → (trgEntry q 4).fault q 4 = none →
    (s.work 0x0110 q).trgJudge k (q.field 5 1) (q.field 8 4) (q.field 6 2) (Tai.ofBits (q.field 12 14)).units = .inr (st, due) →
    ∃ t, exec (.trgArm q) s = .next t ∧
      t.Answered (q.as 0x0110) stOK (leBytes 2 1 ++ leBytes 2 0 ++ [BitVec.ofNat 8 k] ++ List.replicate 3 0) ∧
      t.getF (F.TRG_STATUS_STATE k) = st ∧ t.trgArmed k = true ∧ t.getF (F.TRG_CTL_ACTION k) = q.field 5 1 ∧
      KV.get 0 t.stamps.due k = due) ∧
  (∀ (s : State) (q : Req), s.Serves 0x0111 q → q.params.length = 4 →
    ∃ t, exec (.trgDisarm q) s = .next t ∧ t.Answered (q.as 0x0111) stOK [] ∧
      ∀ k < 32, (q.field 0 4).testBit k = true → t.trgArmed k = false) ∧
  (∀ (s : State) (q : Req) (p : Nat), s.Serves 0x0112 q → q.params.length = 8 → q.obj = objId 1 (4 + p) 0 → p < 4 →
    1 ≤ q.field 4 2 → q.field 4 2 ≤ 16 → q.field 6 2 = 0 →
    ∃ t, exec (.tsqRead q) s = .next t ∧ t.tsq p = (s.tsq p).drop (q.field 4 2) ∧
      t.Answered (q.as 0x0112) stOK (leBytes 2 ((s.tsq p).take (q.field 4 2)).length ++ leBytes 2 0 ++
        ((s.tsq p).take (q.field 4 2)).flatMap TsEntry.bytes)) ∧
  (∀ (s : State) (q : Req), s.Serves 0x0210 q → q.params.length = 16 → q.obj = objId 2 11 0 → q.field 4 4 < 32 →
    (q.field 8 8 : Int) ≤ s.now.sec + 3600 → s.on F.OUT_MIS_ALIGN_PEND = false →
    s.now.units + 10000000 * 65536 ≤ ({ sec := q.field 8 8 } : Tai).units → q.field 8 8 ≠ 0 →
    Nat.land (q.field 4 4) (s.getF F.OUT_MIS_MASK) ≠ 0 →
    ∃ t, exec (.align q) s = .next t ∧ t.Answered (q.as 0x0210) stOK (leBytes 8 (q.field 8 8)) ∧
      t.on F.OUT_MIS_ALIGN_PEND = true ∧ t.getF F.OUT_ALIGN_SEC_LO = q.field 8 8 % 2 ^ 32 ∧ t.clk.alignMask = q.field 4 4) ∧
  (∀ (s : State) (q : Req) (v : Nat), s.Serves 0x0310 q → q.params.length = 8 → q.field 0 1 ≤ 3 →
    (q.field 1 1 = 0 ∧ q.field 2 1 = 0 ∧ q.field 4 2 ≤ 31 ∨ q.field 1 1 = 2 ∧ q.field 2 1 ≤ 31) → q.field 3 1 = 0 →
    s.on (F.MAC_STATUS_STEPPING (q.field 0 1)) = false → s.mdioOk = true →
    ∃ t, exec (.mdioRead q (some v)) s = .next t ∧ t.Answered (q.as 0x0310) stOK (leBytes 2 v ++ leBytes 2 0) ∧
      Emit.mdio (q.field 0 1) false (s.phyAddr (q.field 0 1)) (q.field 2 1 * 65536 + q.field 4 2) 0 ∈ t.out) ∧
  (∀ (s : State) (q : Req), s.Serves 0x0310 q → q.params.length = 8 → q.field 0 1 ≤ 3 →
    (q.field 1 1 = 1 ∧ q.field 2 1 = 0 ∧ q.field 4 2 ≤ 31 ∨ q.field 1 1 = 3 ∧ q.field 2 1 ≤ 31) → q.field 3 1 = 0 →
    q.origin.priv = true → s.on (F.MAC_STATUS_STEPPING (q.field 0 1)) = false → s.mdioOk = true →
    ∃ t, exec (.mdioWrite q) s = .next t ∧ t.Answered (q.as 0x0310) stOK [] ∧
      Emit.mdio (q.field 0 1) true (s.phyAddr (q.field 0 1)) (q.field 2 1 * 65536 + q.field 4 2) (q.field 6 2) ∈ t.out) ∧
  (∀ (s : State) (q : Req) (g v : Nat), s.Serves 0x0031 q → q.params.length = 12 → q.field 0 4 = (F.EVT_EV_EN_EN g).addr → g < 16 →
    q.field 4 2 = 1 → q.field 6 2 = 0 → v < 65536 → q.field 8 4 = maskData 0xFFFF v →
    ∃ t, exec (.regWrite q) s = .next t ∧ t.Answered (q.as 0x0031) stOK [] ∧ t.getF (F.EVT_EV_EN_EN g) = v)

/-- Requests on firmware, diagnosis, the pair, health and power. -/
def Obligations.ServiceRequestsAct : Prop :=
  (∀ (s : State) (q : Req), s.Serves 0x0050 q → q.params.length = 12 → q.field 0 1 ≤ 3 → q.field 1 1 = 0 → q.field 2 2 = 0 →
    q.field 4 4 % 4 = 0 → q.field 4 4 + 4 ≤ 65536 →
    ∃ t, exec (.fwBlock q) s = .next t ∧ t.Answered (q.as 0x0050) stOK [] ∧
      KV.get 0xFFFFFFFF t.car.fwStage (q.field 4 4 / 4) = q.field 8 4 ∧ t.car.fwFresh = false) ∧
  (∀ (s : State) (q : Req), s.Serves 0x0050 q → q.params.length = 12 → q.field 0 1 ≤ 3 → q.field 1 1 = 1 → q.field 2 2 = 0 →
    q.field 4 4 % 4 = 0 → q.field 4 4 + 4 ≤ 65536 → s.pins.pfwLow = false →
    ∃ t, exec (.fwBlock q) s = .next t ∧ t.car.longOp.map (fun l => (l.idx, l.arg)) = some (8, q.field 0 1) ∧
      KV.get 0xFFFFFFFF t.car.fwStage (q.field 4 4 / 4) = q.field 8 4) ∧
  (∀ (s : State) (q : Req), s.Serves 0x0051 q → q.params.length = 4 → (∀ b < 4, s.car.fwWritten.contains b = true) →
    crc32c s.patchBytes = q.field 0 4 →
    ∃ t, exec (.fwCommit q) s = .next t ∧ t.Answered (q.as 0x0051) stOK [] ∧ t.car.fwCommitted = some (q.field 0 4) ∧
      t.car.fwWritten = []) ∧
  (∀ (s : State) (q : Req), s.Serves 0x0811 q → q.params.length = 8 → s.diagParams q 0 = none →
    (∀ x ∈ maskList (q.field 4 1), s.liveRefusal x = 0) →
    ∃ t, exec (.diagLive q) s = .next t ∧ t.Answered (q.as 0x0811) stOK [] ∧
      (∀ x ∈ maskList (q.field 4 1), KV.find t.amp.live x = some {}) ∧ Ev.PILOT_START ∈ t.ev.sticky) ∧
  (∀ (s : State) (q : Req), s.Serves 0x0813 q → q.params.length = 8 → s.diagParams q 1 = none → q.field 5 1 = 0 →
    (∀ x ∈ maskList (q.field 4 1), s.plateOk x = true) →
    ∃ t, exec (.plateStore q true) s = .next t ∧ t.Answered (q.as 0x0813) stOK [] ∧ Ev.PLATE_STORED ∈ t.ev.sticky ∧
      ∀ x ∈ maskList (q.field 4 1), KV.find t.amp.plate x = (KV.find s.amp.last x).map (fun r => { r with flags := r.flags + 32 })) ∧
  (∀ (s : State) (q : Req), s.Serves 0x0813 q → q.params.length = 8 → s.diagParams q 1 = none → q.field 5 1 = 1 →
    ∃ t, exec (.plateClear q true) s = .next t ∧ t.Answered (q.as 0x0813) stOK [] ∧ Ev.PLATE_STORED ∈ t.ev.sticky ∧
      ∀ x ∈ maskList (q.field 4 1), KV.find t.amp.plate x = none) ∧
  (∀ (s : State) (q : Req), s.Serves 0x0A10 q → q.params.length = 8 → q.obj = roleObj → q.field 4 1 ≤ 1 → q.field 5 3 = 0 →
    (s.pairSt = psACTIVE ∧ s.pair.pState = psREADY ∨ s.pairSt = psREADY ∨ s.pairSt = psSYNC ∧ q.field 4 1 = 1) →
    ∃ t, exec (.pairTakeover q) s = .next t ∧
      t.Answered (q.as 0x0A10) stOK (leBytes 8 (Tai.ofUnits (s.tickUnits s.in2ms)).sec ++ leBytes 4 (Tai.ofUnits (s.tickUnits s.in2ms)).ns) ∧
      t.pair.hand = some (s.in2ms, if s.pairSt = psACTIVE then 5 else 4)) ∧
  (∀ (s : State) (q : Req), s.Serves 0x0B12 q → q.params.length = 8 → q.obj = monObj → (q.field 4 1 = 6 ∨ q.field 4 1 = 7) →
    (q.field 5 1 ≤ 7 ∨ q.field 5 1 = 0xFF) → q.field 6 2 = 0 →
    ∃ t, exec (.baselineReset q) s = .next t ∧ t.Answered (q.as 0x0B12) stOK [] ∧
      (∀ x < 8, ∀ f < 4, (q.field 5 1 = x ∨ q.field 5 1 = 0xFF) → KV.find t.hlt.base (trendKey (q.field 4 1) x f) = none) ∧
      (t.hlt.ledger.getLast?).map (fun r => (r.kind, r.inst)) = some (11, q.field 4 1)) ∧
  (∀ (s : State) (q : Req), s.Serves 0x0B10 q → q.params.length = 4 → q.obj = calObj → s.calMayRun = true →
    ∃ t, exec (.calenderRun q) s = .next t ∧ t.Answered (q.as 0x0B10) stOK [] ∧ t.on F.CAL_STATUS_RUNNING = true ∧
      (s.on F.CAL_STATUS_RUNNING = true → t.on F.CAL_STATUS_QUEUED = true)) ∧
  (∀ (s : State) (q : Req), s.Serves 0x0B11 q → q.params.length = 8 → q.obj = calObj → q.field 5 3 = 0 →
    s.approveOk (q.field 4 1) = true → s.approveHeld (q.field 4 1) = false →
    ∃ t, exec (.calenderApprove q) s = .next t ∧ t.Answered (q.as 0x0B11) stOK [] ∧
      (∀ i ∈ maskItems (q.field 4 1), bitOf t.calPending i = false)) ∧
  (∀ (s : State) (q : Req), s.Serves 0x0E10 q → q.params.length = 8 → q.obj = pwrObj → s.powerSt < q.field 4 1 → q.field 4 1 = 3 →
    q.field 5 3 = 0 → s.on F.PWR_STATUS_ENTERING = false → s.pins.pfwLow = false →
    ∃ t, exec (.pwrState q) s = .next t ∧ t.Answered (q.as 0x0E10) stOK [] ∧ t.on F.PWR_STATUS_ENTERING = true ∧
      t.getF F.PWR_STATUS_TARGET = 3 ∧ t.pwr.wakeSrc = 6 ∧ t.pwr.wakeTo = 3) ∧
  (∀ (s : State) (q : Req), s.Serves 0x0E10 q → q.params.length = 8 → q.obj = pwrObj → q.field 4 1 < s.powerSt →
    q.field 5 3 = 0 → s.on F.PWR_STATUS_ENTERING = false → s.pins.pfwLow = false →
    (∀ u < 3, s.inSafe 14 u = false) → s.pairSt = psACTIVE → s.pair.pState = psREADY →
    (q.field 4 1 = 2 → s.getF (F.MAC_CTL_MODE (s.getF F.PWR_CTL_LISTEN_PORT)) ≠ 1) → q.field 4 1 < 4 →
    ∃ t, exec (.pwrState q) s = .next t ∧ t.Answered (q.as 0x0E10) stOK [] ∧ t.on F.PWR_STATUS_ENTERING = true ∧
      t.getF F.PWR_STATUS_TARGET = q.field 4 1 ∧ t.pair.hand = some (s.in2ms, 5)) ∧
  (∀ (s : State) (q : Req), s.Serves 0x0E12 q → q.params.length = 4 → q.obj = pwrObj →
    ∃ t, exec (.reset q) s = .next t ∧ t.Answered (q.as 0x0E12) stOK [] ∧ t.pwr.resetDue = true)

/-- PROOF: the proof runs, or ends, and the block answered says so. -/
def Obligations.ProofRequestsAct : Prop :=
  (∀ (s : State) (q : Req) (r : ProofRun) (v0 v1 : Int), s.Serves 0x0D10 q → q.params.length = 16 → q.obj = 0x0D020000 →
    r = { g := q.field 4 1, i := q.field 5 1, a1 := q.field 8 4, a2 := q.field 12 4, hold := s.getF F.UART_PROOF_HOLD } →
    proofExists r.g r.i = true → q.field 6 1 = 0 → q.field 7 1 = 0 → s.proofArgs r = true → s.proofMay r = true →
    ∃ t, exec (.proofStart q v0 v1) s = .next t ∧
      t.Answered (q.as 0x0D10) stOK (ProofRes.bytes ⟨1, if s.proofAbsent r then 4 else 0, (s.proofValues r v0 v1).1, (s.proofValues r v0 v1).2⟩) ∧
      KV.find t.prf.run (proofResource r.g) = some r ∧ t.getF F.UART_PROOF_LAST_LAST_G = r.g ∧
      t.getF F.UART_PROOF_LAST_LAST_I = r.i ∧
      (proofResource r.g = 0 → t.on F.UART_PROOF_ANA = true) ∧ (proofResource r.g = 1 → t.on F.UART_PROOF_FREQ = true) ∧
      (proofResource r.g = 2 → t.on F.UART_PROOF_DRIVE = true)) ∧
  (∀ (s : State) (q : Req) (r : ProofRun) (v0 v1 : Int), s.Serves 0x0D10 q → q.params.length = 16 → q.obj = 0x0D020000 →
    q.field 4 1 = r.g → q.field 5 1 = r.i → proofExists r.g r.i = true → q.field 6 1 = 1 → q.field 7 1 = 0 →
    KV.find s.prf.run (proofResource r.g) = some r →
    ∃ t, exec (.proofEnd q v0 v1) s = .next t ∧
      t.Answered (q.as 0x0D10) stOK (ProofRes.bytes ⟨2, 0, (s.proofValues r v0 v1).1, (s.proofValues r v0 v1).2⟩) ∧
      KV.find t.prf.run (proofResource r.g) = none) ∧
  (∀ (s : State) (q : Req) (v0 v1 : Int), s.Serves 0x0D10 q → q.params.length = 16 → q.obj = 0x0D020000 →
    q.field 4 1 = 0xFF → q.field 6 1 = 1 → s.prf.run = [] →
    ∃ t, exec (.proofEnd q v0 v1) s = .next t ∧ t.Answered (q.as 0x0D10) stOK (ProofRes.bytes {}) ∧ t.prf.run = []) ∧
  (∀ (s : State) (q : Req) (r : ProofRun) (v0 v1 : Int), s.Serves 0x0D10 q → q.params.length = 16 → q.obj = 0x0D020000 →
    q.field 4 1 = r.g → q.field 5 1 = r.i → proofExists r.g r.i = true → q.field 6 1 = 2 → q.field 7 1 = 0 →
    KV.find s.prf.run (proofResource r.g) = some r →
    ∃ t, exec (.proofStatus q v0 v1) s = .next t ∧ t.prf = s.prf ∧
      t.Answered (q.as 0x0D10) stOK (ProofRes.bytes ⟨1, if s.proofAbsent r then 4 else 0, (s.proofValues r v0 v1).1, (s.proofValues r v0 v1).2⟩)) ∧
  (∀ (s : State) (q : Req) (g i : Nat) (v0 v1 : Int), s.Serves 0x0D10 q → q.params.length = 16 → q.obj = 0x0D020000 →
    q.field 4 1 = g → q.field 5 1 = i → proofExists g i = true → q.field 6 1 = 2 → q.field 7 1 = 0 →
    KV.find s.prf.run (proofResource g) = none →
    ∃ t, exec (.proofStatus q v0 v1) s = .next t ∧ t.prf = s.prf ∧
      t.Answered (q.as 0x0D10) stOK (KV.get {} s.prf.last (proofKey g i)).bytes)

/-- Register accesses of every form: the data reach where the rules have them go. -/
def Obligations.RegisterAccessesTransferData : Prop :=
  (∀ (s : State) (via : Via) (g v : Nat) (data : Word), s.reachable = true → s.busyIndex = none → g < 16 → v < 65536 →
    data.toNat = maskData 0xFFFF v →
    ∃ t, exec (.regWriteGeneric via (F.EVT_EV_EN_EN g).addr 15 data) s = .next t ∧ t.getF (F.EVT_EV_EN_EN g) = v ∧
      (∀ b, via = .spi b → Emit.spi [0xA0] ∈ t.out)) ∧
  (∀ (s : State) (bar4 : Bool) (i : Nat) (data : List Word), s.reachable = true → data.length ≤ 16 → i + data.length ≤ 1024 →
    ∃ t, exec (.pcieWriteBurst bar4 (0x00020000 + 4 * i) data) s = .next t ∧
      ∀ j (w : Word), data[j]? = some w → KV.get 0 t.car.mbxReq (i + j) = w.toNat) ∧
  (∀ (s : State) (bar4 : Bool) (i n : Nat), s.reachable = true → n ≤ 16 → i + n ≤ 1024 →
    ∃ t, exec (.pcieReadBurst bar4 (0x00020000 + 4 * i) n) s = .next t ∧
      Emit.readData ((List.range n).map (fun j => KV.get 0 s.car.mbxReq (i + j))) ∈ t.out) ∧
  (∀ (s : State) (via : Via) (addr sub u off v : Nat) (r : RegDesc) (data : Word), s.Accepts via addr data.toNat →
    regTarget addr = some (.reg sub u off r) → r.mwIdx + 1 < r.mwLen → accMask r Acc.config ≠ 0 → v < 65536 →
    data.toNat = maskData 0xFFFF v →
    ∃ t h, exec (.multiwordLowerWrite via addr data) s = .next t ∧
      KV.find t.shadows (unitBase sub u + (off - 4 * r.mwIdx)) = some h ∧ h.code = via.origin.code ∧ h.id = via.origin.id ∧
      h.words.find? (fun q => q.1 == r.mwIdx) = some (r.mwIdx, v)) ∧
  (∀ (s : State) (via : Via) (k v : Nat) (data : Word), s.Accepts via (F.TRG_TIME k 6).addr data.toNat → k < 32 → v < 65536 →
    data.toNat = maskData 0xFFFF v →
    ∃ t, exec (.multiwordCommit via (F.TRG_TIME k 6).addr data none) s = .next t ∧ t.getF (F.TRG_TIME k 6) = v ∧
      (∀ i < 6, t.getF (F.TRG_TIME k i) = s.shadowWord 1 (32 + k) 0x10 i % 65536) ∧
      KV.find t.shadows (F.TRG_TIME k 0).addr = none) ∧
  (∀ (s : State) (via : Via) (addr sub u off : Nat) (r : RegDesc), s.reachable = true → regTarget addr = some (.reg sub u off r) →
    r.mwIdx = 0 → 1 < r.mwLen → r.priv = false → s.absent sub u = false →
    ¬ (sub = 1 ∧ u = 0 ∧ 0x40 ≤ off) → ¬ (sub = 1 ∧ 4 ≤ u ∧ u < 8 ∧ 0x70 ≤ off) →
    ∃ t, exec (.snapshotRead via addr) s = .next t ∧
      KV.find t.readSnaps (snapKey addr via.reader) = some ((List.range r.mwLen).map (fun i => s.regWord sub u (off + 4 * i))) ∧
      (via = .bar0 ∨ via = .bar4 → Emit.readData [s.regWord sub u off] ∈ t.out) ∧
      (∀ b, via = .spi b → Emit.spi (0xA0 :: beBytes 4 (s.regWord sub u off)) ∈ t.out)) ∧
  (∀ (s : State) (via : Via), s.reachable = true → s.absent 1 0 = false →
    ∃ t, exec (.timSnapRead via) s = .next t ∧
      (KV.get {} t.time.snaps via.reader.idx).tb = s.now.bits ∧ (KV.get {} t.time.snaps via.reader.idx).ao = s.aoSec ∧
      (KV.get {} t.time.snaps via.reader.idx).count = ((KV.get {} s.time.snaps via.reader.idx).count + 1) % 65536 ∧
      (KV.get {} t.time.snaps via.reader.idx).aValid = (s.ptpPort 0 == psSLAVE) ∧
      (KV.get {} t.time.snaps via.reader.idx).bValid = (s.ptpPort 1 == psSLAVE)) ∧
  (∀ (s : State) (via : Via) (p : Fin 4) (e : TsEntry) (l : List TsEntry), s.reachable = true → s.tsq p = e :: l →
    KV.find s.stamps.headSnap (headKey via.reader p) = some e →
    ∃ t, exec (.tsqEntryRemove via p) s = .next t ∧ t.tsq p = l ∧
      (via = .bar0 ∨ via = .bar4 → Emit.readData [e.time.sec / 2 ^ 32] ∈ t.out)) ∧
  (∀ (s : State) (via : Via) (addr sub u off : Nat) (r : RegDesc), s.reachable = true → regTarget addr = some (.reg sub u off r) →
    r.priv = false → s.absent sub u = true →
    ∃ t, exec (.xdomFallback via addr none) s = .next t ∧ (t.unit (unitKey sub u)).xdom = true ∧ Ev.XDOM_ABSENT ∈ t.ev.sticky ∧
      (via = .bar0 ∨ via = .bar4 → Emit.readData [0] ∈ t.out) ∧ (∀ b, via = .spi b → Emit.spi (0xE5 :: beBytes 4 0) ∈ t.out))

/-- Accepted writes whose register has an effect of its own. -/
def Obligations.RegisterActionsTakeEffect : Prop :=
  (∀ (s : State) (via : Via), s.Accepts via 0x2C (maskData 1 1) →
    ∃ t, exec (.parityClr via) s = .next t ∧ t.getF F.MGT_PARITY_ADDR_ADDR = 0 ∧ t.getF F.MGT_PARITY_ADDR_VALID = 0) ∧
  (∀ (s : State) (via : Via), s.Accepts via 0x2C (maskData 2 2) →
    ∃ t, exec (.busErrClr via) s = .next t ∧ t.getF F.MGT_BUS_ERR_ADDR_ADDR = 0 ∧ t.getF F.MGT_BUS_ERR_INFO_VALID = 0 ∧
      t.getF F.MGT_BUS_ERR_INFO_COUNT = 0 ∧ t.getF F.MGT_BUS_ERR_INFO_ORIGIN = 0 ∧ t.getF F.MGT_BUS_ERR_INFO_CAUSE = 0) ∧
  (∀ (s : State) (via : Via) (sub u bits : Nat) (data : Word), s.reachable = true → s.busyIndex = none → unitExists sub u = true →
    bits < 32 → bitOf bits 2 = false → data.toNat = maskData bits bits →
    ∃ t x, exec (.stickyClear via (unitBase sub u + 0x7FC4) data) s = .next t ∧ x = s.unit (unitKey sub u) ∧
      t.unit (unitKey sub u) = { x with
        badValue := x.badValue && !bitOf bits 0, wrIgnored := x.wrIgnored && !bitOf bits 1
        xdom := x.xdom && !bitOf bits 3, denied := x.denied && !bitOf bits 4 }) ∧
  (∀ (s : State) (via : Via) (en : Fld) (data : Word), en = F.PHYM_CTL_EN ∨ en = F.DIAG_CTL_EN →
    data.toNat = maskData 1 1 → s.Accepts via en.addr data.toNat →
    ∃ t, exec (.unitEnSet via en.addr data) s = .next t ∧ t.on en = true) ∧
  (∀ (s : State) (via : Via) (en : Fld) (data : Word), en = F.PHYM_CTL_EN ∨ en = F.DIAG_CTL_EN →
    data.toNat = maskData 1 0 → s.Accepts via en.addr data.toNat →
    ∃ t, exec (.unitEnClear via en.addr data) s = .next t ∧ t.on en = false) ∧
  (∀ (s : State) (via : Via) (data : Word) (l : List (Nat × Nat × Nat)) (v : Nat), s.reachable = true →
    s.fresh.judgeWrite via.access (F.TB_LOAD 6).addr data.toNat = .inr (.words 1 0 0x10 l) → l.length = 7 →
    v = l.foldr (fun q acc => q.2.1 + 65536 * acc) 0 →
    ∃ t, exec (.tbLoadCommit via data) s = .next t ∧
      t.time.load = some { ticks := s.wholeTicks ((Tai.ofBits v).units - s.now.units), due := s.stepDue, load := true }) ∧
  (∀ (s : State) (via : Via) (data : Word) (v : Nat), s.Accepts via F.LOOP_STEER_HI.addr data.toNat →
    data.toNat = maskData 0xFFFF v → v < 65536 →
    ∃ t raw, exec (.steerCommit via data) s = .next t ∧ t.getF F.LOOP_STEER_HI = v ∧
      t.getF F.LOOP_STEER_LO = s.shadowWord 2 9 0x40 0 % 65536 ∧
      raw = s.getI F.LOOP_OUT + (if s.loopMode = lmLOCKED then 0 else t.steer) ∧
      t.getI F.LOOP_DCO_FREQ = max (-500000000) (min 500000000 raw)) ∧
  (∀ (s : State) (via : Via) (k : Fin 32), s.Accepts via (F.TRG_ARM k).addr (maskData 1 1) → s.trgMirrored k = false →
    ∃ t, exec (.trgArmReg via k) s = .next t ∧ t.trgArmed k = true ∧
      KV.find t.stamps.armedBy k = some via.origin) ∧
  (∀ (s : State) (via : Via) (k : Fin 32), s.Accepts via (F.TRG_ARM k).addr (maskData 2 2) → s.trgMirrored k = false →
    ∃ t, exec (.trgDisarmReg via k) s = .next t ∧ t.trgArmed k = false) ∧
  (∀ (s : State) (via : Via), s.Accepts via F.TB_CTL_ASYM_CLR.addr (maskData 0x0800 0x0800) →
    ∃ t, exec (.asymClr via) s = .next t ∧ t.getF (F.D_ASYM_ADJ 0) = 0 ∧ t.getF (F.D_ASYM_ADJ 1) = 0) ∧
  (∀ (s : State) (via : Via), s.Accepts via F.CAL_CTL_RUN.addr (maskData 2 2) → KV.find s.bad F.CAL_CTL_RUN.addr = none →
    s.calMayRun = true →
    ∃ t, exec (.calRunRequest via) s = .next t ∧ t.on F.CAL_STATUS_RUNNING = true) ∧
  (∀ (s : State) (via : Via) (m : Nat), m < 128 → m ≠ 0 → s.Accepts via F.CAL_APPROVE.addr (maskData 0x7F m) →
    ∃ t, exec (.calApproveWrite via m) s = .next t ∧ ∀ i ∈ maskItems m, bitOf t.calPending i = false) ∧
  (∀ (s : State) (via : Via), s.Accepts via F.LOOP_MAN_MANUAL.addr (maskData 1 1) → s.regWord 2 9 8 = 0 →
    ∃ t, exec (.manualSet via) s = .next t ∧ t.on F.LOOP_MAN_MANUAL = true ∧ t.loopMode = lmMANUAL) ∧
  (∀ (s : State) (via : Via), s.Accepts via F.LOOP_MAN_MANUAL.addr (maskData 1 0) → s.regWord 2 9 8 = 1 → s.loopMode = lmMANUAL →
    s.clk.running = false → s.getF F.SEL_STATUS_SEL_REF < 7 →
    ∃ t, exec (.manualClear via) s = .next t ∧ t.on F.LOOP_MAN_MANUAL = false ∧ t.loopMode = lmHOLDOVER ∧
      t.clk.running = true ∧ t.clk.rebuild = true ∧ t.clk.target = s.getF F.SEL_STATUS_SEL_REF) ∧
  (∀ (s : State) (via : Via) (m : Nat), m < 3 → s.Accepts via F.HOLD_CTL_HO_MODE.addr (maskData 6 (m * 2)) →
    ∃ t, exec (.hoModeWrite via m) s = .next t ∧ t.getF F.HOLD_CTL_HO_MODE = m ∧
      (bitsOf (s.regWord 2 10 0) 2 1 ≠ m → s.regWord 2 10 0 < 65536 → t.clk.hoWritten = true)) ∧
  (∀ (s : State) (via : Via) (n : Fin 64), s.Accepts via (F.BUR_CTL_EN n).addr (maskData 1 0) → s.regWord 5 n 0 = 1 →
    s.inService n = true →
    ∃ t, exec (.burinEnClear via n) s = .next t ∧ t.on (F.BUR_CTL_EN n) = false ∧ t.getF (F.BUR_STATUS_STATE n) = 4 ∧
      Ev.BURIN_OUT ∈ t.ev.sticky) ∧
  (∀ (s : State) (via : Via) (n : Fin 64), s.Accepts via (F.BUR_CTL_EN n).addr (maskData 1 1) → s.regWord 5 n 0 = 0 →
    s.getF (F.BUR_STATUS_STATE n) = 4 → s.inSafe 5 n = false →
    ∃ t, exec (.burinEnSet via n) s = .next t ∧ t.on (F.BUR_CTL_EN n) = true ∧ t.inService n = true)

/-- Accepted writes of swap requests and producer indices. -/
def Obligations.SwapAndRingWritesTakeEffect : Prop :=
  (∀ (s : State) (via : Via) (p : Nat), p < 16 → s.Accepts via (F.TDM_CTL_SWAP p).addr (maskData 0x2000 0x2000) →
    s.pairSt ≠ psACTIVE → KV.find s.bad (F.TDM_CTL_SWAP p).addr = none →
    bitOf (s.regWord 6 p 0) 13 = false → s.getF (F.TDM_CTL_EN p) = 0 →
    ∃ t, exec (.bankSwapRequest via (F.TDM_CTL_SWAP p).addr) s = .next t ∧
      t.getF (F.TDM_CTL_ACT_BANK p) = 1 - s.getF (F.TDM_CTL_ACT_BANK p)) ∧
  (∀ (s : State) (via : Via) (p : Fin 16), s.Accepts via (F.TDM_CTL_SWAP p).addr (maskData 0x2000 0x2000) →
    s.pairSt ≠ psACTIVE → KV.find s.bad (F.TDM_CTL_SWAP p).addr = none →
    bitOf (s.regWord 6 p 0) 13 = false → s.getF (F.TDM_CTL_EN p) = 0 →
    ∃ t, exec (.tdmSwapRequest via p) s = .next t ∧
      t.getF (F.TDM_CTL_ACT_BANK p) = 1 - s.getF (F.TDM_CTL_ACT_BANK p)) ∧
  (∀ (s : State) (via : Via) (p : Fin 16), s.Accepts via (F.TDM_CTL_SWAP p).addr (maskData 0x2000 0x2000) →
    s.pairSt ≠ psACTIVE → KV.find s.bad (F.TDM_CTL_SWAP p).addr = none →
    bitOf (s.regWord 6 p 0) 13 = false → s.on (F.TDM_CTL_EN p) = true →
    ∃ t, exec (.tdmSwapRequest via p) s = .next t ∧ t.on (F.TDM_CTL_SWAP p) = true ∧ (t.tdm p).swap = some via.origin) ∧
  (∀ (s : State) (via : Via), s.Accepts via F.RXT_CTL_SWAP.addr (maskData 2 2) → s.pairSt ≠ psACTIVE →
    KV.find s.bad F.RXT_CTL_SWAP.addr = none → bitOf (s.regWord 4 0 0) 1 = false → s.getF F.RXT_CTL_EN = 0 →
    ∃ t, exec (.rxSwapRequest via) s = .next t ∧ t.rxBank = 1 - s.rxBank) ∧
  (∀ (s : State) (via : Via), s.Accepts via F.RXT_CTL_SWAP.addr (maskData 2 2) → s.pairSt ≠ psACTIVE →
    KV.find s.bad F.RXT_CTL_SWAP.addr = none → bitOf (s.regWord 4 0 0) 1 = false → s.on F.RXT_CTL_EN = true → s.str.rxSwap = none → s.pair.reqAt = none →
    ∃ t, exec (.rxSwapRequest via) s = .next t ∧ t.on F.RXT_CTL_SWAP = true ∧
      t.str.rxSwap = some { tick := s.ticksAhead 2, origin := via.origin }) ∧
  (∀ (s : State) (via : Via), s.Accepts via F.TXT_CTL_SWAP.addr (maskData 2 2) → s.pairSt ≠ psACTIVE →
    KV.find s.bad F.TXT_CTL_SWAP.addr = none → bitOf (s.regWord 4 1 0) 1 = false → s.getF F.TXT_CTL_EN = 0 →
    ∃ t, exec (.txSwapRequest via) s = .next t ∧ t.txBank = 1 - s.txBank) ∧
  (∀ (s : State) (via : Via), s.Accepts via F.TXT_CTL_SWAP.addr (maskData 2 2) → s.pairSt ≠ psACTIVE →
    KV.find s.bad F.TXT_CTL_SWAP.addr = none → bitOf (s.regWord 4 1 0) 1 = false → s.on F.TXT_CTL_EN = true → s.str.txSwap = none → s.pair.reqAt = none →
    ∃ t, exec (.txSwapRequest via) s = .next t ∧ t.on F.TXT_CTL_SWAP = true ∧
      t.str.txSwap = some { tick := s.ticksAhead 2, origin := via.origin }) ∧
  (∀ (s : State) (via : Via), s.Accepts via F.GRT_CTL_SWAP.addr (maskData 1 1) → s.pairSt ≠ psACTIVE →
    KV.find s.bad F.GRT_CTL_SWAP.addr = none → bitOf (s.regWord 5 64 0x100) 0 = false → s.dsp.swap = none → s.pair.reqAt = none →
    ∃ t, exec (.grtSwapRequest via) s = .next t ∧ t.on F.GRT_CTL_SWAP = true ∧
      t.dsp.swap = some { tick := s.ticksAhead 2, origin := via.origin }) ∧
  (∀ (s : State) (via : Via) (r : Fin 32) (v : Nat), v < 65536 → s.Accepts via (F.RING_PROD r).addr (maskData 0xFFFF v) →
    ∃ t, exec (.hostRingProd via r v) s = .next t ∧ t.getF (F.RING_PROD r) = v) ∧
  (∀ (s : State) (via : Via) (p : Fin 4) (v : Nat), v < 4096 → s.Accepts via (F.MAC_TXR_PROD p).addr (maskData 0xFFFF v) →
    ∃ t, exec (.txrProdWrite via p v) s = .next t ∧ t.getF (F.MAC_TXR_PROD p) = v) ∧
  (∀ (s : State) (via : Via) (p : Fin 4) (v : Nat), v < 4096 → s.Accepts via (F.MAC_RXR_PROD p).addr (maskData 0xFFFF v) →
    ∃ t, exec (.rxrProdWrite via p v) s = .next t ∧ t.getF (F.MAC_RXR_PROD p) = v)

/-- What arrives soundly on a carrier waits in its slot. -/
def Obligations.RequestsEnterTheirSlots : Prop :=
  (∀ (s : State) (via : Via) (n : Nat) (data : Word) (h : List Byte) (p : Packet), n ≤ 4096 → data.toNat = maskData 0xFFFF n →
    s.Accepts via F.MBX_DOORBELL_LEN.addr data.toNat → s.busyIndex = none → s.on F.MBX_CTL_EN = true →
    (∀ x ∈ s.car.slots, x.1 ≠ 0) → h = bufferBytes s.car.mbxReq n → p = parsePacket h s.car.mbxReqCrc → frameOk h = true →
    p.lengthOk = true → p.crcOk = true → p.headerFault false = none →
    ∃ t, exec (.mailboxDoorbell via data) s = .next t ∧ t.car.slots = s.car.slots ++ [(0, p.req .mailbox via.origin)]) ∧
  (∀ (s : State) (secLow : Bool) (bytes : List Byte) (p : Packet), s.reachable = true → s.busyIndex = none →
    s.on F.SPI_CTL_EN = true → (∀ x ∈ s.car.slots, x.1 ≠ 1) → 20 ≤ bytes.length → bytes.head? = some 0xC5 →
    p = parsePacket (bytes.take (bytes.length - 4)) (leAt bytes (bytes.length - 4) 4) →
    frameOk (bytes.take (bytes.length - 4)) = true → p.lengthOk = true → p.crcOk = true → p.headerFault false = none →
    ∃ t, exec (.spiCommandFrame secLow bytes) s = .next t ∧
      t.car.slots = s.car.slots ++ [(1, p.req .spi (Via.spi secLow).origin)]) ∧
  (∀ (s : State) (port : Fin 4) (src sport n k : Nat) (b : List Byte) (p : Packet) (o : Origin), s.alive = true → s.busyIndex = none →
    s.unpowered 3 port = false → s.on (F.MAC_STATUS_LINK port) = true → bitOf (s.getF F.CAR_CTL_NET_PORTS) port = true →
    s.on F.CAR_CTL_EN = true → (∀ x ∈ s.car.slots, x.1 ≠ 2) → 20 + (if n = 0 then 0 else 16) ≤ b.length → frameOk b = true →
    n = leAt b 10 2 → k = b.length - 4 - (if n = 0 then 0 else 16) → p = parsePacket (b.take k) (leAt b k 4) →
    p.lengthOk = true → p.crcOk = true → p.headerFault true = none →
    (n = 0 ∧ s.on F.CAR_CTL_NET_OPEN = true ∨ 0 < n ∧ n < 16 ∧ (KV.get {} s.car.sessions n).admits p (b.take k) (b.drop (k + 4)) = true) →
    o = { code := 5, id := n, priv := (KV.get {} s.car.sessions n).role == 2 } →
    ∃ t, exec (.netControlDatagram port src sport 0 false b) s = .next t ∧
      t.car.slots = s.car.slots ++ [(2, { p.req .net o with srcAddr := src, srcPort := sport })]) ∧
  (∀ (s : State) (svcEn : Bool) (line : List Byte) (op : Nat) (ps : List Byte), s.reachable = true → s.busyIndex = none →
    s.on F.UART_CTL_EN = true → (∀ x ∈ s.car.slots, x.1 ≠ 3) → line.length ≤ 8200 →
    uartParse ((splitB 0x20 line).filter (fun t => !t.isEmpty)) = some (op, some ps) →
    ∃ t, exec (.uartLine svcEn line) s = .next t ∧ t.pins.svcEn = svcEn ∧
      t.car.slots = s.car.slots ++
        [(3, { carrier := .uart, origin := { code := 6 }, opcode := op, params := ps, crc := (Config.lineCrc s.draws).toNat })])

/-- What leaves the block on a carrier, and what a timeout takes away. -/
def Obligations.RepliesReportsAndTimeoutsLeave : Prop :=
  (∀ (s : State) (via : Via) (data : Word), data.toNat = maskData 4 4 → s.Accepts via F.MBX_STATUS_REPLY_READY.addr data.toNat →
    ∃ t, exec (.mailboxReplyRelease via data) s = .next t ∧ t.on F.MBX_STATUS_REPLY_READY = false) ∧
  (∀ (s : State) (n : Nat) (p : List Byte), s.reachable = true → s.car.spiReply = some p → p.length < n →
    ∃ t, exec (.spiReplyFetch n) s = .next t ∧ Emit.spi (1 :: p) ∈ t.out ∧ t.car.spiReply = none) ∧
  (∀ (s : State) (n src : Nat) (r : Report), s.reachable = true → oldestReport s.ev.spi = some (src, r) →
    (reportPacket r src s.car.spiEvSeq 0).length < n →
    ∃ t, exec (.spiEventFetch n) s = .next t ∧ Emit.spi (1 :: reportPacket r src s.car.spiEvSeq 0) ∈ t.out ∧
      t.car.spiEvSeq = (s.car.spiEvSeq + 1) % 65536) ∧
  (∀ (s : State) (secLow : Bool) (bytes : List Byte) (g v : Nat), s.reachable = true → s.busyIndex = none → 9 ≤ bytes.length →
    bytes.head? = some 0x02 → g < 16 → v < 65536 → beAt bytes 1 4 = (F.EVT_EV_EN_EN g).addr → beAt bytes 5 4 = maskData 0xFFFF v →
    ∃ t, exec (.spiRegisterWrite secLow bytes) s = .next t ∧ t.getF (F.EVT_EV_EN_EN g) = v ∧ Emit.spi [0xA0] ∈ t.out) ∧
  (∀ (s : State) (src : Nat), s.reachable = true → s.car.reasm.any (fun r => r.srcAddr == src) = true →
    ∃ t, exec (.datagramReassemblyTimeout src) s = .next t ∧ t.car.reasm = s.car.reasm.filter (fun r => r.srcAddr != src) ∧
      t.getF (F.CAR_DISCARD 2) = satNat 32 (s.getF (F.CAR_DISCARD 2) + 1) ∧ Ev.CARRIER_DISC ∈ t.ev.sticky) ∧
  (∀ (s : State), s.reachable = true →
    ∃ t, exec .uartLineTimeout s = .next t ∧ t.getF (F.CAR_DISCARD 3) = satNat 32 (s.getF (F.CAR_DISCARD 3) + 1) ∧
      Ev.CARRIER_DISC ∈ t.ev.sticky) ∧
  (∀ (s : State) (src : Nat) (r : Report), s.reachable = true → s.car.uartBusy = false → oldestReport s.ev.uart = some (src, r) →
    ∃ t, exec .uartEventLine s = .next t ∧ Emit.uart (r.line src) ∈ t.out) ∧
  (∀ (s : State) (v : Fin 32), s.reachable = true → s.ev.msixBits.contains v.val = true →
    ∃ t, exec (.msixVectorUnmask v true) s = .next t ∧ Emit.msix v ∈ t.out ∧ v.val ∈ t.ev.msixUnmasked ∧ t.ev.msixOn = true) ∧
  (∀ (s : State), s.reachable = true →
    ∃ t, exec .uartReplyLineSent s = .next t ∧ t.car.uartBusy = false ∧
      t.car.uartBaud = (if s.car.baudDue then s.getF F.UART_CTL_BAUD else s.car.uartBaud))

/-- The interpreter's own steps: one slot served, one long operation ended. -/
def Obligations.TheInterpreterServesAndEnds : Prop :=
  (∀ (s : State) (svcEn : Bool) (o : Outside) (c : Nat) (q : Req), s.Ready → s.nextSlot = some (c, q) → c ≠ 3 →
    q.opcode = 0x0060 → q.params = [] → s.gate q = none →
    ∃ t, exec (.interpreterServe svcEn o) s = .next t ∧ t.car.slots = s.car.slots.filter (fun p => p.1 != c) ∧ t.car.last = c ∧
      t.pins.svcEn = svcEn ∧
      t.Answered q stOK (leBytes 4 (s.getF F.MGT_CHIP_ID) ++ leBytes 4 (Config.firmwareVersion s.pwr.fwCrc).toNat ++
        leBytes 4 (s.getF F.NVS_RUN_GEN_GEN) ++ leBytes 1 (s.getF F.PWR_STATUS_STATE) ++
        leBytes 1 (s.getF F.ROLE_STATUS_STATE) ++ leBytes 2 0)) ∧
  (∀ (s : State) (r : LongEnd) (l : LongOp), s.alive = true → s.car.longOp = some l → l.idx = 4 → l.arg = 2 → l.safeHit = false →
    l.failed = false →
    ∃ t, exec (.longOpEnd r) s = .next t ∧ t.car.longOp = none ∧ t.Answered l.req stOK [] ∧ Ev.LONG_DONE ∈ t.ev.sticky) ∧
  (∀ (s : State) (r : LongEnd) (l : LongOp) (c : Saved), s.alive = true → s.car.longOp = some l → l.idx = 1 → l.snap = some c →
    l.safeHit = false → r.ok = true → l.bank < 2 →
    ∃ t, exec (.longOpEnd r) s = .next t ∧ t.car.longOp = none ∧ t.Answered l.req stOK (leBytes 4 l.gen) ∧
      Ev.LONG_DONE ∈ t.ev.sticky ∧ (t.bank l.bank).valid = true ∧ (t.bank l.bank).gen = l.gen ∧ (t.bank l.bank).cfg = c) ∧
  (∀ (s : State) (r : LongEnd) (l : LongOp), s.alive = true → s.car.longOp = some l → l.idx = 6 → l.arg ≤ 14 → l.arg ≠ 5 →
    l.safeHit = false →
    ∃ t, exec (.longOpEnd r) s = .next t ∧ t.car.longOp = none ∧ Ev.LONG_DONE ∈ t.ev.sticky ∧
      t.Answered l.req stOK (leBytes 4 (if bitOf r.mask l.arg then 2 ^ l.arg else 0))) ∧
  (∀ (s : State) (r : LongEnd) (l : LongOp), s.alive = true → s.car.longOp = some l → l.safeHit = true →
    (l.idx = 1 ∧ l.snap.isSome = true ∨ l.idx = 2 ∨ l.idx = 3 ∨ l.idx = 5 ∨ l.idx = 6 ∨ l.idx = 8) →
    ∃ t, exec (.longOpEnd r) s = .next t ∧ t.car.longOp = none ∧ Ev.LONG_DONE ∈ t.ev.sticky ∧
      t.Answered l.req stBAD_STATE (errParams 0xFFFF 2))

/-- The event log's commits, the power-fail sequence and the scrubber. -/
def Obligations.LogCommitsAndPowerFail : Prop :=
  (∀ (s : State), s.alive = true → s.log.ram ≠ [] → s.log.commit = none → s.pins.pfwLow = false →
    ∃ t, exec .logCommitTimer s = .next t ∧ t.log.commit.isSome = true) ∧
  (∀ (s : State) (c : Commit), s.alive = true → s.log.commit = some c → c.pfw = false → c.left = false → c.covers ≠ 0 →
    ∃ t, exec (.logPageVerified true) s = .next t ∧
      t.log.ring = (s.log.ring ++ s.log.ram.take c.page).drop ((s.log.ring ++ s.log.ram.take c.page).length - 65536)) ∧
  (∀ (s : State) (c : Commit) (l : LongOp), s.alive = true → s.log.commit = some c → c.pfw = false → c.covers = 0 →
    s.car.longOp = some l → l.idx = 4 → l.arg = 1 →
    ∃ t, exec .logCommitEnd s = .next t ∧ t.car.longOp = some { l with arg := 2, failed := c.left }) ∧
  (∀ (s : State), s.alive = true → s.pins.pfwLow = false → s.ev.raw.contains Ev.PFW = false →
    ∃ t, exec .pfwNFall s = .next t ∧ t.pins.pfwLow = true ∧ Ev.PFW ∈ t.ev.sticky ∧ Ev.PFW ∈ t.ev.raw ∧
      t.log.commit.isSome = true) ∧
  (∀ (s : State) (c : Commit), s.alive = true → s.log.commit = some c → c.pfw = true →
    ∃ t, exec .powerFailCommitEnd s = .next t ∧ Ev.LOG_PFW_DONE ∈ t.ev.sticky ∧
      t.log.ring = (s.log.ring ++ s.log.ram.take c.covers).drop ((s.log.ring ++ s.log.ram.take c.covers).length - 65536)) ∧
  (∀ (s : State) (ms : Nat), s.alive = true → s.pins.pfwLow = true →
    ∃ t, exec (.pfwNRise ms) s = .next t ∧ t.pins.pfwLow = false ∧ Ev.PFW_END ∈ t.ev.sticky) ∧
  (∀ (s : State) (addr u off v : Nat) (r : RegDesc), s.alive = true → regTarget addr = some (.reg 12 u off r) →
    KV.find s.bad addr = none → s.regData addr % 65536 ≠ v % 65536 →
    ∃ t, exec (.parityScrub [.reg addr v]) s = .next t ∧ KV.find t.bad addr = some (v % 65536) ∧
      (t.unit (unitKey 12 u)).parity = true ∧
      (t.unit (unitKey 12 u)).parCnt = satNat 16 ((s.unit (unitKey 12 u)).parCnt + 1) ∧ Ev.CFG_PARITY ∈ t.ev.sticky)

/-- What time itself causes on the timebase, the generators, the triggers and the timed queues. -/
def Obligations.TicksStepsAndTriggersAct : Prop :=
  (∀ (s : State) (inp : TickIn), s.alive = true → s.time.load = none → s.time.step = none → s.time.onGrid = false →
    ∃ t, exec (.tickBoundary inp) s = .next t ∧ t.str.lastTick = some (s.gridTick + 1) ∧ t.time.onGrid = false) ∧
  (∀ (s : State) (l : StepPend), s.alive = true → s.time.load = some l →
    l.due ≤ (if s.time.onGrid then s.gridTick else s.gridTick + 1) →
    ∃ t, exec .timeStep s = .next t ∧ t.on F.TB_STATUS_SET = true ∧ t.time.load = none ∧ t.time.step = none) ∧
  (∀ (s : State) (d : Nat), s.alive = true → s.time.tod = some d → d < 2 →
    ∃ t, exec .todChange s = .next t ∧ t.isTod d = true ∧ t.on (F.D_STATE_TOD d) = true ∧
      t.on (F.D_STATE_TOD (1 - d)) = false ∧ t.time.tod = none) ∧
  (∀ (s : State), s.alive = true → s.on F.TB_STATUS_LEAP61 = true →
    ∃ t, exec .leapDayEnd s = .next t ∧ t.getF F.TB_STATUS_UTC_OFFSET = unsigned 16 (s.getI F.TB_STATUS_UTC_OFFSET + 1) ∧
      Ev.LEAP ∈ t.ev.sticky) ∧
  (∀ (s : State), s.alive = true → s.on F.TB_STATUS_LEAP61 = false → s.on F.TB_STATUS_LEAP59 = true →
    ∃ t, exec .leapDayEnd s = .next t ∧ t.getF F.TB_STATUS_UTC_OFFSET = unsigned 16 (s.getI F.TB_STATUS_UTC_OFFSET - 1) ∧
      Ev.LEAP ∈ t.ev.sticky) ∧
  (∀ (s : State) (est new : Int) (d : Nat), s.alive = true → s.asymActive = true → 65536 ≤ est.natAbs →
    d = (if s.isTod 0 then 1 else 0) → new = (if est > 0 then s.getI (F.D_ASYM_ADJ d) + 1 else s.getI (F.D_ASYM_ADJ d) - 1) →
    new.natAbs ≤ [10, 30, 100, 300, 1000, 3000, 10000].getD s.trustCode 0 →
    ∃ t, exec (.asymTrackPeriod est) s = .next t ∧ t.getI (F.D_ASYM_ADJ d) = new ∧ Ev.ASYM_STEP ∈ t.ev.sticky) ∧
  (∀ (s : State) (n : Fin 4), s.alive = true → s.on (F.CC_STATUS_RUNNING n) = true →
    ∃ t, exec (.ccGridPoint n) s = .next t ∧ t.getF (F.CC_PULSES n) = (s.getF (F.CC_PULSES n) + 1) % 2 ^ 32 ∧
      Emit.pulse n s.now ∈ t.out) ∧
  (∀ (s : State) (k : Fin 32) (at_ : Tai), s.alive = true → s.trgArmed k = true → KV.get 0 s.stamps.due k ≤ at_.units →
    s.getF (F.TRG_CTL_ACTION k) = 0 →
    ∃ t, exec (.triggerFire k at_) s = .next t ∧ t.trgArmed k = false ∧ Ev.TRG k ∈ t.ev.sticky ∧
      t.getF (F.TRG_COUNT_FIRES k) = satNat 16 (s.getF (F.TRG_COUNT_FIRES k) + 1)) ∧
  (∀ (s : State) (k : Fin 32) (at_ : Tai) (n : Nat), s.alive = true → s.trgArmed k = true → KV.get 0 s.stamps.due k ≤ at_.units →
    s.getF (F.TRG_CTL_ACTION k) = 2 → trgTarget (s.trgObjOf k) = some (.graph n) → s.gOn s.gBank n = true →
    ∃ t, exec (.triggerFire k at_) s = .next t ∧ t.trgArmed k = false ∧ Ev.TRG k ∈ t.ev.sticky ∧ t.gOn s.gBank n = false ∧
      t.getF (F.TRG_COUNT_FIRES k) = satNat 16 (s.getF (F.TRG_COUNT_FIRES k) + 1)) ∧
  (∀ (s : State) (p : Fin 4) (at_ : Tai) (f : TimedFrame) (l : List TimedFrame), s.alive = true → s.unpowered 3 p = false →
    s.timedQ p = f :: l → (f.late = true ∨ f.launch.units - 524288 ≤ at_.units) → (s.openQueues p).contains f.q = true →
    s.on (F.MAC_STATUS_LINK p) = true →
    ∃ t, exec (.timedFrameLaunch p at_) s = .next t ∧ t.timedQ p = l ∧ Emit.frame p f.q (.raw f.bytes) ∈ t.out)

/-- The messages a domain takes and sends, and its timers. -/
def Obligations.PtpMessagesAndTimersMoveTheDomains : Prop :=
  (∀ (s : State) (p : Fin 4) (d : Nat) (m : PtpMsg) (raw : Tai), s.alive = true → s.unpowered 3 p = false →
    s.domainOf p m.dom = some d → m.version = 2 → m.msgType = 0 → s.fromMaster d m = true → m.twoStep = true →
    ∃ t, exec (.ptpSyncRx p m raw) s = .next t ∧ (t.dom d).sync = some (m.seq, m.src, s.planeIn p raw, m.corr)) ∧
  (∀ (s : State) (p : Fin 4) (d : Nat) (m : PtpMsg) (raw : Tai), s.alive = true → s.unpowered 3 p = false →
    s.domainOf p m.dom = some d → m.version = 2 → m.msgType = 0 → s.fromMaster d m = true → m.twoStep = false →
    ∃ t, exec (.ptpSyncRx p m raw) s = .next t ∧ (t.dom d).fwd = some (s.planeIn p raw - s.msgTime m - m.corr) ∧
      ((s.dom d).delayKnown = true → t.getF (F.D_SYNC_RX d) = satNat 32 (s.getF (F.D_SYNC_RX d) + 1))) ∧
  (∀ (s : State) (p : Fin 4) (d : Nat) (m : PtpMsg) (t2 c : Int), s.alive = true → s.unpowered 3 p = false →
    s.domainOf p m.dom = some d → m.version = 2 → m.msgType = 8 → s.fromMaster d m = true →
    (s.dom d).sync = some (m.seq, m.src, t2, c) →
    ∃ t, exec (.ptpFollowUpRx p m) s = .next t ∧ (t.dom d).sync = none ∧
      (t.dom d).fwd = some (t2 - s.msgTime m - (c + m.corr)) ∧
      ((s.dom d).delayKnown = true → t.getF (F.D_SYNC_RX d) = satNat 32 (s.getF (F.D_SYNC_RX d) + 1))) ∧
  (∀ (s : State) (p : Fin 4) (d : Nat) (m : PtpMsg) (t3 f : Int), s.alive = true → s.unpowered 3 p = false →
    s.domainOf p m.dom = some d → m.version = 2 → m.msgType = 9 → s.fromMaster d m = true → s.on (F.D_CTL_DELAY d) = false →
    (s.dom d).dreq = some (m.seq, t3) → (s.dom d).fwd = some f → m.reqSrc = (s.dom d).ident →
    ∃ t, exec (.ptpDelayRespRx p m) s = .next t ∧ (t.dom d).delayKnown = true ∧ (t.dom d).dreq = none ∧
      (t.dom d).delays = ((f + (s.msgTime m - t3 - m.corr)) / 2 :: (s.dom d).delays).take (2 ^ s.getF (F.D_SERVO_DELAY_FILT d))) ∧
  (∀ (s : State) (p : Fin 4) (d : Nat) (m fu : PtpMsg) (raw : Tai) (t1 : Int), s.alive = true → s.unpowered 3 p = false →
    s.domainOf p m.dom = some d → m.version = 2 → m.msgType = 3 → s.on (F.D_CTL_DELAY d) = true →
    (s.dom d).dreq = some (m.seq, t1) → fu.seq = m.seq → m.reqSrc = (s.dom d).ident →
    ∃ t, exec (.ptpPdelayRespRx p m fu raw) s = .next t ∧ (t.dom d).delayKnown = true ∧ (t.dom d).dreq = none ∧
      (t.dom d).delay = avg ((((s.planeIn p raw - t1) - (s.msgTime fu - s.msgTime m) - m.corr - fu.corr) / 2 ::
        (s.dom d).delays).take (2 ^ s.getF (F.D_SERVO_DELAY_FILT d)))) ∧
  (∀ (s : State) (p : Fin 4) (d : Nat) (m : PtpMsg) (a : Announce), s.alive = true → s.unpowered 3 p = false →
    s.domainOf p m.dom = some d → m.version = 2 → m.msgType = 11 → s.ptpPort d ≠ psFAULTY → s.ptpPort d ≠ psDISABLED →
    ∃ t, exec (.ptpAnnounceRx p m a) s = .next t ∧ ({ src := m.src, ann := a } : Foreign) ∈ (t.dom d).foreign ∧
      t.getF (F.D_ANN_RX d) = satNat 32 (s.getF (F.D_ANN_RX d) + 1)) ∧
  (∀ (s : State) (p : Fin 4) (d : Nat) (m : PtpMsg) (raw : Tai), s.alive = true → s.unpowered 3 p = false →
    s.domainOf p m.dom = some d → m.version = 2 → (m.msgType = 1 ∨ m.msgType = 2) → s.ptpPort d = psMASTER →
    ∃ t, exec (.ptpDelayReqRx p m raw) s = .next t ∧
      Emit.ptp d (if m.msgType = 1 then 9 else 3) ((Tai.ofUnits (s.planeIn p raw)).sec % 2 ^ 48)
        (Tai.ofUnits (s.planeIn p raw)).ns none ∈ t.out) ∧
  (∀ (s : State) (d : Fin 2), s.alive = true → s.ptpPort d = psMASTER →
    (∃ t a, exec (.ptpMasterTxInterval d true) s = .next t ∧ Emit.ptp d 11 0 0 (some a) ∈ t.out ∧ a.gm = (s.dom d).ident) ∧
    (∃ t, exec (.ptpMasterTxInterval d false) s = .next t ∧ Emit.ptp d 0 0 0 none ∈ t.out ∧
      Emit.ptp d 8 (s.now.sec % 2 ^ 48) s.now.ns none ∈ t.out)) ∧
  (∀ (s : State) (d : Fin 2) (raw : Tai), s.alive = true → (s.ptpPort d = psUNCALIBRATED ∨ s.ptpPort d = psSLAVE) →
    ∃ t, exec (.ptpDelayReqTxInterval d raw) s = .next t ∧
      (t.dom d).dreq = some (((s.dom d).reqSeq + 1) % 65536, s.planeOut (s.getF (F.D_CTL_PORT d)) raw) ∧
      Emit.ptp d (if s.on (F.D_CTL_DELAY d) then 2 else 1) 0 0 none ∈ t.out) ∧
  (∀ (s : State) (d : Fin 2) (m : Nat), s.alive = true → (s.dom d).sel = some m →
    ∃ t, exec (.announceReceiptTimeout d) s = .next t ∧ (∀ f ∈ (t.dom d).foreign, f.src ≠ m) ∧
      Ev.A_RX_TIMEOUT + d.val ∈ t.ev.sticky) ∧
  (∀ (s : State) (d : Fin 2), s.alive = true → (s.ptpServo d = svACQUIRE ∨ s.ptpServo d = svLOCKED) →
    ∃ t, exec (.syncReceiptTimeout d) s = .next t ∧ t.ptpServo d = svHOLD ∧ Ev.A_RX_TIMEOUT + d.val ∈ t.ev.sticky) ∧
  (∀ (s : State) (d : Fin 2), s.alive = true → (s.dom d).sync.isSome = true →
    ∃ t, exec (.followUpTimeout d) s = .next t ∧ (t.dom d).sync = none ∧
      t.getF (F.D_FU_MISS d) = satNat 16 (s.getF (F.D_FU_MISS d) + 1)) ∧
  (∀ (s : State) (d : Fin 2), s.alive = true → (s.dom d).dreq.isSome = true →
    ∃ t, exec (.delayResponseTimeout d) s = .next t ∧ (t.dom d).dreq = none ∧
      t.getF (F.D_DLY_MISS d) = satNat 16 (s.getF (F.D_DLY_MISS d) + 1) ∧
      ((s.dom d).missRun = 7 → Ev.A_RX_TIMEOUT + d.val ∈ t.ev.sticky)) ∧
  (∀ (s : State) (d : Fin 2), s.alive = true → s.ptpPort d = psPRE_MASTER →
    ∃ t, exec (.preMasterQualificationTimeout d) s = .next t ∧ t.ptpPort d = psMASTER)

/-- What falls due at the references, the selector, the loop and the outputs. -/
def Obligations.MonitorsAndSwitchesMoveAsDue : Prop :=
  (∀ (s : State) (inp : RefTickIn), s.alive = true → 1 ≤ s.getF F.SEL_STATUS_HOLDOFF_REMAIN →
    s.getF F.SEL_STATUS_HOLDOFF_REMAIN ≤ 5000 →
    ∃ t, exec (.refTick inp) s = .next t ∧
      t.getF F.SEL_STATUS_HOLDOFF_REMAIN = s.getF F.SEL_STATUS_HOLDOFF_REMAIN - 1) ∧
  (∀ (s : State) (n : Fin 7), s.alive = true → s.qualDue n = true →
    ∃ t, exec (.refQualify n) s = .next t ∧ t.refSt n = rsQUALIFIED ∧ Ev.REF_QUALIFY ∈ t.ev.sticky) ∧
  (∀ (s : State) (n : Fin 7), s.alive = true → s.dwellDue n = true →
    ∃ t, exec (.refDwellExpiry n) s = .next t ∧ t.refSt n = rsQUALIFYING ∧ Ev.REF_DISQUALIFY ∈ t.ev.sticky ∧
      t.getF (F.REF_STATUS_LAST_CAUSE n) = 3) ∧
  (∀ (s : State) (n : Fin 7), s.alive = true → s.clearDue n = true → s.selRef ≠ n.val →
    ∃ t, exec (.refClearExpiry n) s = .next t ∧ t.refSt n = rsQUALIFIED) ∧
  (∀ (s : State) (n : Fin 2), s.alive = true → s.on (F.REF_CTL_EN (4 + n)) = true → s.refSt (4 + n) ≠ rsFAILED →
    (s.mon (4 + n)).rate ≠ 0 →
    ∃ t, exec (.wckStopDetect n) s = .next t ∧ t.refSt (4 + n) = rsFAILED ∧ Ev.REF_FAIL ∈ t.ev.sticky ∧
      t.getF (F.REF_STATUS_LAST_CAUSE (4 + n)) = 1) ∧
  (∀ (s : State) (n : Fin 2) (meas r : Nat), s.alive = true → s.on (F.REF_CTL_EN (4 + n)) = true →
    s.refSt (4 + n) ≠ rsFAILED → (s.mon (4 + n)).rate = 0 → (s.refAccepted (4 + n)).find? (nearRate meas) = some r →
    ∃ t, exec (.wckRateRecognised n meas) s = .next t ∧ (t.mon (4 + n)).rate = r ∧
      t.getF (F.REF_WCK_MEAS (4 + n)) = satNat (F.REF_WCK_MEAS (4 + n)).width meas) ∧
  (∀ (s : State), s.alive = true → s.startDueSw = true → s.clk.want < 7 →
    ∃ t, exec .switchStart s = .next t ∧ t.clk.running = true ∧ t.clk.target = s.clk.want ∧
      t.getF F.SEL_STATUS_TARGET = s.clk.want ∧ t.getF F.SEL_STATUS_PHASE = 1 ∧
      t.getF F.SEL_STATUS_HOLDOFF_REMAIN = s.holdoffMs ∧ Ev.SWITCH_START ∈ t.ev.sticky) ∧
  (∀ (s : State) (drift resid : Int), s.alive = true → s.buildDue = true → s.clk.rebuild = false → s.clk.target < 7 →
    ∃ t, exec (.buildOut drift resid) s = .next t ∧ t.clk.running = false ∧ t.clk.settle = some (0, 0) ∧
      t.selRef = s.clk.target ∧ t.refSt s.clk.target = rsACTIVE ∧ Ev.SWITCH_DONE ∈ t.ev.sticky ∧
      t.getI F.SEL_LAST = satSigned 32 (roundDiv s.clk.acc s.clk.accN + drift) ∧
      (s.selRef < 7 → s.selRef ≠ s.clk.target → s.refSt s.selRef = rsACTIVE → t.refSt s.selRef = rsQUALIFIED) ∧
      (s.selRef < 7 → s.selRef ≠ s.clk.target → s.refSt s.selRef = rsSUSPECT → t.refSt s.selRef = rsSUSPECT)) ∧
  (∀ (s : State) (ms stage : Nat), s.alive = true → s.clk.settle = some (ms, stage) → s.settleDue = true → s.clk.settleRef < 7 →
    s.bwCode s.clk.settleRef < 16 →
    ∃ t, exec .settleStep s = .next t ∧
      t.getF F.LOOP_STATUS_BW_EFF = (if stage = 0 then s.bwCode s.clk.settleRef - 1 else s.bwCode s.clk.settleRef) ∧
      t.clk.settle = (if stage = 0 then some (ms, 1) else none)) ∧
  (∀ (s : State) (avg : Int), s.alive = true → s.loopMode = lmLOCKED → s.clk.settle = none → s.clk.frozenBy = none →
    ∃ t, exec (.holdoverSecond avg) s = .next t ∧ t.clk.hist = (avg :: s.clk.hist).take 30000) ∧
  (∀ (s : State) (avg : Int), s.alive = true → s.loopMode = lmHOLDOVER →
    ∃ t, exec (.holdoverSecond avg) s = .next t ∧ t.clk.hist = s.clk.hist ∧
      t.getF F.HOLD_HO_ELAPSED = satNat 32 (s.getF F.HOLD_HO_ELAPSED + 1)) ∧
  (∀ (s : State), s.alive = true → s.on F.LOOP_STATUS_PLL_LOCK = true →
    ∃ t, exec .mediaPllUnlock s = .next t ∧ t.on F.LOOP_STATUS_PLL_LOCK = false ∧ Ev.MEDIA_PLL_UNLOCK ∈ t.ev.raw ∧
      t.getF F.LOOP_COUNT_UNLOCKS = satNat 16 (s.getF F.LOOP_COUNT_UNLOCKS + 1) ∧ ∀ o < 7, o ∉ t.clk.outRun) ∧
  (∀ (s : State), s.alive = true → s.on F.LOOP_STATUS_PLL_LOCK = false →
    ∃ t, exec .mediaPllLock s = .next t ∧ t.on F.LOOP_STATUS_PLL_LOCK = true ∧ Ev.MEDIA_PLL_UNLOCK ∉ t.ev.raw) ∧
  (∀ (s : State), s.alive = true → s.on F.OUT_MIS_ALIGN_PEND = true → s.get64 F.OUT_ALIGN_SEC_LO F.OUT_ALIGN_SEC_HI ≤ s.now.sec →
    ∃ t, exec .alignAtS s = .next t ∧ t.on F.OUT_MIS_ALIGN_PEND = false ∧
      t.getF F.OUT_ALIGN_CNT = satNat 16 (s.getF F.OUT_ALIGN_CNT + 1) ∧
      ∀ b < 5, s.clk.alignMask.testBit b = true → (s.getF F.OUT_MIS_MASK).testBit b = true → KV.find t.clk.mis b = none) ∧
  (∀ (s : State) (port : Fin 2) (ql : Ql), s.alive = true →
    ∃ t, exec (.esmcPduRx port ql) s = .next t ∧ (t.mon (2 + port)).esmc = ql.level) ∧
  (∀ (s : State) (port : Fin 2), s.alive = true →
    ∃ t, exec (.esmcTimeout port) s = .next t ∧ (t.mon (2 + port)).esmc = 15)

/-- What happens on a powered network port. -/
def Obligations.PortsMoveLinksFramesAndSpeeds : Prop :=
  (∀ (s : State) (p sp : Fin 4) (eee : Bool), s.alive = true → s.unpowered 3 p = false → s.on (F.MAC_CTL_EN p) = true →
    s.speedAllowed p sp = true →
    ∃ t, exec (.linkUp p sp eee false) s = .next t ∧ t.on (F.MAC_STATUS_LINK p) = true ∧ t.getF (F.MAC_STATUS_SPEED p) = sp ∧
      (s.on (F.MAC_STATUS_LINK p) = false → Ev.LINK_N0 + p.val ∈ t.ev.sticky)) ∧
  (∀ (s : State) (p sp : Fin 4) (eee ref : Bool), s.alive = true → s.unpowered 3 p = false → s.on (F.MAC_CTL_EN p) = true →
    (ref = true ∨ s.speedAllowed p sp = false) →
    ∃ t, exec (.linkUp p sp eee ref) s = .next t ∧ t.on (F.MAC_STATUS_LINK p) = s.on (F.MAC_STATUS_LINK p) ∧
      t.getF (F.MAC_LINK_REFUSED p) = satNat 16 (s.getF (F.MAC_LINK_REFUSED p) + 1)) ∧
  (∀ (s : State) (p : Fin 4), s.alive = true → s.unpowered 3 p = false → s.on (F.MAC_STATUS_LINK p) = true →
    ∃ t, exec (.linkDown p) s = .next t ∧ t.on (F.MAC_STATUS_LINK p) = false ∧ Ev.LINK_N0 + p.val ∈ t.ev.sticky ∧
      (∀ q < 4, (t.port p).queue q = []) ∧ t.on (F.MAC_STATUS_PAUSED_CTRL p) = false ∧ t.on (F.MAC_STATUS_PAUSED_BE p) = false) ∧
  (∀ (s : State) (p : Fin 4) (f : FrameIn), s.alive = true → s.unpowered 3 p = false → s.on (F.MAC_CTL_EN p) = true →
    s.on (F.MAC_STATUS_LINK p) = true →
    ∃ t, exec (.ingressFrame p f) s = .next t ∧
      ((f.len < 64 ∨ f.fcsOk = false) → t.getF (F.MAC_FCS_ERR p) = satNat 32 (s.getF (F.MAC_FCS_ERR p) + 1) ∧
        Ev.FCS_ERR ∈ t.ev.sticky) ∧
      (64 ≤ f.len → f.fcsOk = true → (s.getF (F.MAC_MTU p) < f.len ∨ 9216 < f.len) →
        t.getF (F.MAC_OVERSIZE p) = satNat 32 (s.getF (F.MAC_OVERSIZE p) + 1) ∧ Ev.OVERSIZE_DROP ∈ t.ev.sticky) ∧
      (64 ≤ f.len → f.fcsOk = true → f.len ≤ s.getF (F.MAC_MTU p) → f.len ≤ 9216 → f.dst ≠ s.portMac p → reservedDst f.dst = false →
        (∀ g ∈ (s.port p).groups, groupMac g ≠ f.dst) → t.getF (F.MAC_FILTERED p) = satNat 32 (s.getF (F.MAC_FILTERED p) + 1)) ∧
      (64 ≤ f.len → f.fcsOk = true → f.len ≤ s.getF (F.MAC_MTU p) → f.len ≤ 9216 → f.dst = s.portMac p → f.tag = none →
        f.kind ≠ .macControl →
        ((s.police p (s.frameClass p f.kind) f.len f.at_.units).1 = true → f.room = true →
          t.getF (F.MAC_RX_OK p) = satNat 32 (s.getF (F.MAC_RX_OK p) + 1)) ∧
        ((s.police p (s.frameClass p f.kind) f.len f.at_.units).1 = true → f.room = false →
          t.getF (F.MAC_POST_DROP p) = satNat 32 (s.getF (F.MAC_POST_DROP p) + 1) ∧ Ev.POST_DROP ∈ t.ev.sticky) ∧
        ((s.police p (s.frameClass p f.kind) f.len f.at_.units).1 = false →
          t.getF (F.POL_DROPS (p * 4 + s.frameClass p f.kind)) =
            satNat 32 (s.getF (F.POL_DROPS (p * 4 + s.frameClass p f.kind)) + 1) ∧ Ev.POLICER_DROP ∈ t.ev.sticky))) ∧
  (∀ (s : State) (p : Fin 4) (pfc : Bool) (en : Nat) (quanta : List Nat), s.alive = true → s.unpowered 3 p = false →
    s.on (F.MAC_CTL_EN p) = true → s.on (F.MAC_STATUS_LINK p) = true →
    ∃ t, exec (.pauseFrameRx p pfc en quanta) s = .next t ∧ Ev.PAUSE_RX ∈ t.ev.sticky ∧
      t.getF (F.MAC_PAUSE_RX p) = satNat 16 (s.getF (F.MAC_PAUSE_RX p) + 1) ∧
      (pfc = false → s.on (F.MAC_CTL_PAUSE_EN p) = true →
        (t.port p).pauseC = quanta.getD 0 0 ∧ (t.port p).pauseB = quanta.getD 0 0 ∧
        t.on (F.MAC_STATUS_PAUSED_CTRL p) = (quanta.getD 0 0 != 0)) ∧
      (pfc = true → s.on (F.MAC_CTL_PFC_EN p) = true →
        (t.port p).pauseC = (if bitOf en (s.pcp p 2) then quanta.getD (s.pcp p 2) 0 else (s.port p).pauseC) ∧
        (t.port p).pauseB = (if bitOf en (s.pcp p 3) then quanta.getD (s.pcp p 3) 0 else (s.port p).pauseB)) ∧
      ((if pfc then s.on (F.MAC_CTL_PFC_EN p) else s.on (F.MAC_CTL_PAUSE_EN p)) = false → t.port p = s.port p)) ∧
  (∀ (s : State) (p q : Fin 4), s.alive = true → s.unpowered 3 p = false →
    ∃ t, exec (.pauseExpiry p q) s = .next t ∧
      (q = 2 → (t.port p).pauseC = 0 ∧ t.on (F.MAC_STATUS_PAUSED_CTRL p) = false) ∧
      (q = 3 → (t.port p).pauseB = 0 ∧ t.on (F.MAC_STATUS_PAUSED_BE p) = false)) ∧
  (∀ (s : State) (p : Fin 4) (at_ : Tai) (q : Nat) (f : QFrame) (l : List QFrame), s.alive = true → s.unpowered 3 p = false →
    s.on (F.MAC_CTL_EN p) = true → s.on (F.MAC_STATUS_LINK p) = true → s.on (F.MAC_STATUS_LPI_TX p) = false →
    (s.openQueues p).find? (fun q => match ((s.port p).queue q).head? with
      | some f => s.timedWindow p f.len at_.units
      | none => false) = some q → (s.port p).queue q = f :: l →
    ∃ t, exec (.egressFrameStart p at_) s = .next t ∧ (t.port p).queue q = l ∧ Emit.frame p q f.body ∈ t.out ∧
      (∀ q' < 4, q' ≠ q → (t.port p).queue q' = (s.port p).queue q')) ∧
  (∀ (s : State) (p : Fin 4), s.alive = true → s.unpowered 3 p = false → (s.port p).dma.isSome = true →
    ∃ t, exec (.macUnderrun p) s = .next t ∧ (t.port p).dma = none ∧ Ev.MAC_UNDERRUN ∈ t.ev.sticky ∧
      t.getF (F.MAC_TX_START p) = min 9216 (s.getF (F.MAC_TX_START p) * 2) ∧
      t.getF (F.MAC_UNDERRUN p) = satNat 16 (s.getF (F.MAC_UNDERRUN p) + 1)) ∧
  (∀ (s : State) (p : Fin 4) (desc frame : List Byte) (at_ : Tai), s.alive = true → s.unpowered 3 p = false →
    s.on (F.MAC_CTL_EN p) = true → s.on (F.MAC_TXR_CFG_RING_EN p) = true → s.on F.HST_PCIE_CTL_EN = true →
    s.getF (F.MAC_TXR_CONS p) ≠ s.getF (F.MAC_TXR_PROD p) → s.getF (F.MAC_TXR_CFG_SIZE p) ≤ 12 →
    ∃ t, exec (.hostTxDescriptor p desc frame at_) s = .next t ∧
      t.getF (F.MAC_TXR_CONS p) = (s.getF (F.MAC_TXR_CONS p) + 1) % 2 ^ s.getF (F.MAC_TXR_CFG_SIZE p) ∧
      Emit.hostWrite (s.ringBase (F.MAC_TXR_BASE p) + s.getF (F.MAC_TXR_CONS p) * 32 + 14) [(s.fresh.judgeDescriptor p desc frame).1] ∈ t.out ∧
      (∀ q, (t.port p).queue q = ((s.fresh.judgeDescriptor p desc frame).2.port p).queue q) ∧
      t.timedQ p = (s.fresh.judgeDescriptor p desc frame).2.timedQ p) ∧
  (∀ (s : State) (p : Fin 4) (len : Nat) (tag : Option (Nat × Nat)) (ptp : Bool) (at_ : Tai) (buf : Nat × Nat), s.alive = true →
    s.unpowered 3 p = false → s.on (F.MAC_CTL_EN p) = true → s.on (F.MAC_RXR_CFG_RING_EN p) = true → s.on F.HST_PCIE_CTL_EN = true →
    s.getF (F.MAC_RXR_CONS p) ≠ s.getF (F.MAC_RXR_PROD p) → s.getF (F.MAC_RXR_CFG_SIZE p) ≤ 12 →
    ∃ t, exec (.bestEffortFrameRx p len tag ptp at_ buf) s = .next t ∧
      (len ≤ buf.2 → Emit.hostWrite buf.1 [len] ∈ t.out ∧
        t.getF (F.MAC_RXR_CONS p) = (s.getF (F.MAC_RXR_CONS p) + 1) % 2 ^ s.getF (F.MAC_RXR_CFG_SIZE p)) ∧
      (buf.2 < len → t.getF (F.MAC_HOST_RX_DROP p) = satNat 32 (s.getF (F.MAC_HOST_RX_DROP p) + 1) ∧
        t.getF (F.MAC_RXR_CONS p) = s.getF (F.MAC_RXR_CONS p))) ∧
  (∀ (s : State) (meas : List (Nat × Nat)) (p : Fin 4), s.alive = true →
    ∃ t, exec (.utilisationSecond meas) s = .next t ∧ (t.port p).rxRate = (meas.getD p (0, 0)).1 ∧
      (t.port p).txRate = (meas.getD p (0, 0)).2 ∧ (t.port p).barred = (s.port p).barred - 1) ∧
  (∀ (s : State) (p : Fin 2), s.alive = true → s.unpowered 3 p = false → s.downDue p = true →
    (s.downDue (1 - p) = false ∨ s.firstPort = p.val) →
    ∃ t, exec (.stepDownDue p) s = .next t ∧ t.on (F.MAC_STATUS_STEPPING p) = true ∧
      (t.port p).target = some (s.getF (F.MAC_STATUS_SPEED p) + 1)) ∧
  (∀ (s : State) (p : Fin 2) (k : Nat), s.alive = true → s.unpowered 3 p = false → s.on (F.MAC_STATUS_STEPPING p) = false →
    s.on (F.MAC_STATUS_STEPPING (1 - p)) = false → (s.port p).target = some k →
    ∃ t, exec (.secondPortStep p) s = .next t ∧ t.on (F.MAC_STATUS_STEPPING p) = true ∧ (t.port p).target = some k) ∧
  (∀ (s : State) (p : Fin 2) (k : Nat), s.alive = true → s.unpowered 3 p = false → s.on (F.MAC_STATUS_STEPPING p) = true →
    s.on (F.MAC_CTL_EN p) = true → (s.port p).target = some k → s.speedAllowed p k = true →
    ∃ t, exec (.speedStepDone p) s = .next t ∧ t.on (F.MAC_STATUS_STEPPING p) = false ∧ t.on (F.MAC_STATUS_LINK p) = true ∧
      t.getF (F.MAC_STATUS_SPEED p) = k ∧ (t.port p).target = none ∧ Ev.SPEED_STEP ∈ t.ev.sticky) ∧
  (∀ (s : State) (p : Fin 2), s.alive = true → s.unpowered 3 p = false → s.on (F.MAC_STATUS_STEPPING p) = true →
    (s.port p).target.isSome = true →
    ∃ t, exec (.stepTimeout p) s = .next t ∧ t.on (F.MAC_STATUS_STEPPING p) = false ∧ (t.port p).target = none ∧
      (t.port p).barred = 3600 ∧ t.getF (F.MAC_STEP_FAIL p) = satNat 16 (s.getF (F.MAC_STEP_FAIL p) + 1) ∧
      Ev.STEP_TIMEOUT ∈ t.ev.sticky) ∧
  (∀ (s : State) (p : Fin 4), s.alive = true → s.unpowered 3 p = false → 2 ≤ p.val → (s.port p).eee = true →
    s.on (F.MAC_STATUS_LINK p) = true → s.on (F.MAC_CTL_LPI_EN p) = true → s.on (F.MAC_STATUS_LPI_TX p) = false →
    (∀ q < 4, (s.port p).queue q = []) → (∀ x ∈ s.str.tx, onPath (s.txB x.1) p = false) → s.timedQ p = [] →
    ∃ t, exec (.lpiEnter p) s = .next t ∧ t.on (F.MAC_STATUS_LPI_TX p) = true ∧
      t.getF (F.MAC_LPI_ENTRIES p) = satNat 16 (s.getF (F.MAC_LPI_ENTRIES p) + 1)) ∧
  (∀ (s : State) (p : Fin 4), s.alive = true → s.unpowered 3 p = false →
    ∃ t, exec (.lpiExit p) s = .next t ∧ t.on (F.MAC_STATUS_LPI_TX p) = false)

/-- What happens to streams, peers and the stream tables. -/
def Obligations.StreamsPeersAndSwapsMove : Prop :=
  (∀ (s : State) (path : Fin 5) (p : MediaPkt) (at_ : Tai) (e : Nat), s.alive = true →
    (path.val < 4 → s.unpowered 3 path = false) → s.str.rxSwap = none →
    ((s.str.rx.filter (fun q => q.2.st != 1 && rxMatches (s.rxB q.1) path p)).map (·.1)) = [e] →
    ∃ t, exec (.mediaPacketRx path p at_) s = .next t ∧
      ((s.rxRun e).st = 5 → t.getF F.MRG_INACTIVE = satNat 16 (s.getF F.MRG_INACTIVE + 1)) ∧
      (s.getF F.PWR_STATUS_STATE ≠ 2 → (s.rxRun e).st ≠ 5 → bitOf (bFlags (s.rxB e)) 2 = false → formatFault (s.rxB e) p ≠ 0 →
        (t.rxRun e).fmt = inc32 (s.rxRun e).fmt ∧ Ev.RX_FORMAT ∈ t.ev.sticky) ∧
      (s.getF F.PWR_STATUS_STATE ≠ 2 → (s.rxRun e).st ≠ 5 → bitOf (bFlags (s.rxB e)) 2 = false → formatFault (s.rxB e) p = 0 →
        bBind (s.rxB e) ≠ 2 → s.rxTimed (s.rxB e) = true →
        (∀ h, (s.rxRun e).high = some h → -1024 < signed 16 (unsigned 16 ((p.seq : Int) - h)) →
          signed 16 (unsigned 16 ((p.seq : Int) - h)) ≤ 0 → (s.rxRun e).seen.contains p.seq = true →
          (t.rxRun e).dup = bump (s.rxRun e).dup path ∧ (t.rxRun e).acc = (s.rxRun e).acc) ∧
        (0 ≤ s.rxMargin (s.rxB e) (s.rxFirst (s.rxB e) p.ts at_.units) at_.units →
          s.rxEarly (s.rxB e) (s.rxFirst (s.rxB e) p.ts at_.units) at_.units = false →
          (∀ h, (s.rxRun e).high = some h → 0 < signed 16 (unsigned 16 ((p.seq : Int) - h))) →
          (t.rxRun e).acc = bump (s.rxRun e).acc path ∧ (t.rxRun e).high = some p.seq ∧
          (t.rxRun e).buf.tail = (s.rxRun e).buf ∧ (t.rxRun e).buf.head?.map (fun k => (k.first, k.seq, k.paths, k.data)) =
            some (s.rxFirst (s.rxB e) p.ts at_.units, p.seq, 2 ^ path.val,
              payloadData (bFormat (s.rxB e)) (bChannels (s.rxB e)) (bSpp (s.rxB e)) p.payload)) ∧
        (s.rxMargin (s.rxB e) (s.rxFirst (s.rxB e) p.ts at_.units) at_.units < 0 →
          (∀ h, (s.rxRun e).high = some h → 0 < signed 16 (unsigned 16 ((p.seq : Int) - h))) →
          (t.rxRun e).late = inc32 (s.rxRun e).late ∧ (t.rxRun e).buf = (s.rxRun e).buf ∧ Ev.RX_LATE ∈ t.ev.sticky))) ∧
  (∀ (s : State) (port : Fin 4) (d : List Byte), s.alive = true → s.unpowered 3 port = false → 44 ≤ d.length →
    leAt d 0 4 = 0x4E414B43 → leAt d 4 1 = 1 → s.on (F.MAC_CTL_EN port) = true → (∀ p < 4, s.portMac p ≠ beAt d 16 6) →
    beAt d 16 6 ∉ s.pair.pMacs →
    ∃ t x, exec (.announcementRx port d) s = .next t ∧ KV.find t.str.peers (leAt d 8 2) = some x ∧
      x.mac = (d.drop 16).take 6 ∧ x.imported = false ∧ x.interval = leAt d 12 4 ∧ x.sec = s.now.sec % 2 ^ 32 ∧
      (KV.find s.str.peers (leAt d 8 2) = none → Ev.PEER_NEW ∈ t.ev.sticky)) ∧
  (∀ (s : State) (dev : Nat) (x : Peer), s.alive = true → KV.find s.str.peers dev = some x → x.imported = false →
    ∃ t, exec (.peerAgeOut dev) s = .next t ∧ KV.find t.str.peers dev = none ∧ Ev.PEER_LOST ∈ t.ev.sticky) ∧
  (∀ (s : State), s.alive = true → s.on F.TXT_CTL_ANN_EN = true →
    (s.getF F.ROLE_STATUS_STATE = 0 ∨ s.getF F.ROLE_STATUS_STATE = 4) →
    ∃ t, exec .announceRound s = .next t ∧ t.str.round = (s.str.round + 1) % 65536) ∧
  (∀ (s : State) (k : Fin 64) (adj ratio : Int), s.alive = true → (s.fdEst k).feed ≠ [] →
    ∃ t, exec (.fdEstimatorUpdate k adj ratio) s = .next t ∧ (t.fdEst k).feed = [] ∧
      t.getI (F.FD_RATIO k) = (if ratio > 1100000000 then 1100000000 else if ratio < -1100000000 then -1100000000 else ratio)) ∧
  (∀ (s : State) (e : Fin 512) (x : RxRun), s.alive = true → KV.find s.str.rx e = some x → x.st = 1 →
    ∃ t, exec (.pendingStreamTimeout false e) s = .next t ∧ t.rxOn s.rxBank e = false ∧ KV.find t.str.rx e = none ∧
      Ev.STEP_TIMEOUT ∈ t.ev.sticky) ∧
  (∀ (s : State) (e : Fin 512) (x : TxRun), s.alive = true → KV.find s.str.tx e = some x → x.st = 1 →
    ∃ t, exec (.pendingStreamTimeout true e) s = .next t ∧ t.txOn s.txBank e = false ∧ KV.find t.str.tx e = none ∧
      Ev.STEP_TIMEOUT ∈ t.ev.sticky) ∧
  (∀ (s : State) (w : SwapPend), s.alive = true → s.str.rxSwap = some w → w.tick ≤ s.toBoundary.gridTick → s.rxBank ≤ 1 →
    ∃ t, exec .rxSwapAtTsw s = .next t ∧ t.rxBank = 1 - s.rxBank ∧ t.on F.RXT_CTL_SWAP = false ∧ t.str.rxSwap = none ∧
      t.getF F.RXT_SWAPS = satNat 16 (s.getF F.RXT_SWAPS + 1) ∧ Ev.RX_BANK_SWAPPED ∈ t.ev.sticky) ∧
  (∀ (s : State) (w : SwapPend), s.alive = true → s.str.txSwap = some w → w.tick ≤ s.toBoundary.gridTick → s.txBank ≤ 1 →
    ∃ t, exec .txSwapAtTsw s = .next t ∧ t.txBank = 1 - s.txBank ∧ t.on F.TXT_CTL_SWAP = false ∧ t.str.txSwap = none ∧
      t.getF F.TXT_SWAPS = satNat 16 (s.getF F.TXT_SWAPS + 1) ∧ Ev.TX_BANK_SWAPPED ∈ t.ev.sticky) ∧
  (∀ (s : State) (k : Nat), s.alive = true → s.str.leaveAt = some k → k ≤ s.toBoundary.gridTick →
    ∃ t, exec .oldGroupLeave s = .next t ∧ t.str.leaveAt = none ∧ ∀ p, (t.port p).oldGroups = [])

/-- What happens to graphs, Burins and the Ream. -/
def Obligations.GraphsBurinsAndTheReamAct : Prop :=
  (∀ (s : State) (w : SwapPend), s.alive = true → s.dsp.swap = some w → w.tick ≤ s.toBoundary.gridTick → s.gBank ≤ 1 →
    ∃ t, exec .graphSwapAtTsw s = .next t ∧ t.gBank = 1 - s.gBank ∧ t.on F.GRT_CTL_SWAP = false ∧ t.dsp.swap = none ∧
      t.getF F.GRT_SWAPS = satNat 16 (s.getF F.GRT_SWAPS + 1) ∧ Ev.GRAPH_SWAPPED ∈ t.ev.sticky) ∧
  (∀ (s : State), s.alive = true → s.dsp.params ≠ [] → (∀ p ∈ s.dsp.params, p.tick ≤ s.toBoundary.gridTick) →
    ∃ t, exec .graphParamApply s = .next t ∧ t.dsp.params = [] ∧
      ∀ p, s.dsp.params = [p] → configured (s.gImg p.graph) = true → t.gImg p.graph = putImg (s.gImg p.graph) p.off p.data) ∧
  (∀ (s : State) (b : Fin 64) (c : Nat) (id i : Nat) (r : Release), s.alive = true → s.job b = some (.sheet id i) →
    s.rel id = some r →
    ∃ t, exec (.sheetComplete b c) s = .next t ∧
      t.getF (F.BUR_SHEETS_RUN b) = satNat 32 (s.getF (F.BUR_SHEETS_RUN b) + 1) ∧
      KV.get 0 t.dsp.busyD b = KV.get 0 s.dsp.busyD b + (r.comp.sheets.getD i { slices := [], cost := 0 }).cost) ∧
  (∀ (s : State) (b : Fin 64) (c k : Nat) (pct : Option Nat), s.alive = true → s.job b = some (.backing k) →
    ∃ t, exec (.backingSliceEnd b c pct) s = .next t ∧ KV.get 0 t.dsp.busyB b = KV.get 0 s.dsp.busyB b + 3000) ∧
  (∀ (s : State) (b : Fin 64) (c : Nat), s.alive = true → s.job b = none → s.burinRuns b = true →
    ∃ t, exec (.burinIdleRetry b c) s = .next t ∧ (t.job b).isSome = true) ∧
  (∀ (s : State), s.alive = true → (s.dsp.rels.map (·.id)).Nodup →
    (∀ r ∈ s.dsp.rels, r.comp.cc = none → r.tick + 4 ≤ s.toBoundary.gridTick) →
    ∃ t, exec .sheetDeadline s = .next t ∧ ∀ r ∈ t.dsp.rels, r.comp.cc.isSome = true) ∧
  (∀ (s : State) (f : Fin 4) (b : Nat), s.alive = true → b < 64 →
    (s.pair.test.head? = some b ∨ (s.pair.test = [] ∧
      ((List.range 64).map (fun i => (s.dsp.testNext + i) % 64)).find? s.burinRuns = some b)) →
    ∃ t, exec (.burinSelftestDue f) s = .next t ∧ t.getF (F.BUR_LAST_TEST b) = s.now.sec % 2 ^ 32 ∧
      (f = 0 → t.getF (F.BUR_TESTS_PASS b) = satNat 16 (s.getF (F.BUR_TESTS_PASS b) + 1)) ∧
      (f ≠ 0 → t.getF (F.BUR_TESTS_FAIL b) = satNat 16 (s.getF (F.BUR_TESTS_FAIL b) + 1) ∧ Ev.SELFTEST_FAIL ∈ t.ev.sticky ∧
        (s.inService b = true → t.getF (F.BUR_STATUS_STATE b) = 1))) ∧
  (∀ (s : State) (code : Fin 8) (mult : Fin 3) (derate : Bool), s.alive = true →
    ∃ t, exec (.dramMr4Change code mult derate) s = .next t ∧ t.getF F.MEM_STATUS_MR4 = code ∧ t.getF F.MEM_STATUS_REFRESH = mult ∧
      t.ev.raw.contains Ev.DRAM_TEMP = derate ∧
      (s.getF F.MEM_STATUS_REFRESH ≠ mult.val → Ev.REFRESH_RATE ∈ t.ev.sticky)) ∧
  (∀ (s : State), s.alive = true → (s.getF F.MEM_DDR_CTL_RETRAIN_INT ≠ 0 ∨ s.getF F.MEM_DDR_CTL_TEMP_DELTA ≠ 3) →
    s.on F.MEM_STATUS_SELF_REFRESH = false → s.powerSt = 3 →
    ∃ t, exec .retrainDue s = .next t ∧ t.mem.live = true) ∧
  (∀ (s : State) (m : List Nat) (w : Bool), s.alive = true → s.mem.live = true →
    ∃ t, exec (.retrainPassEnd m w) s = .next t ∧ t.mem.live = false ∧ Ev.RETRAIN_DONE ∈ t.ev.sticky ∧
      t.getF F.MEM_RETRAINS = satNat 16 (s.getF F.MEM_RETRAINS + 1) ∧ t.getF F.MEM_LAST_TRAIN = s.now.sec % 2 ^ 32 ∧
      (∀ k < 4, t.getF (memMargin k) = satNat 8 (m.getD k 0)) ∧
      t.on F.MEM_STATUS_TRAINED = decide (25 ≤ worstMargin m)) ∧
  (∀ (s : State) (bad : Nat), s.alive = true → s.getF F.RM_CTL_SCRUB_INT ≠ 3 →
    ∃ t, exec (.scrubPassEnd bad) s = .next t ∧ t.getF F.RM_SCRUB_PASSES = satNat 16 (s.getF F.RM_SCRUB_PASSES + 1) ∧
      Ev.SCRUB_PASS ∈ t.ev.sticky) ∧
  (∀ (s : State), s.alive = true → s.on F.MEM_STATUS_PHY_LOCK = true →
    ∃ t, exec .ddrPhyUnlock s = .next t ∧ t.on F.MEM_STATUS_PHY_LOCK = false ∧ Ev.DDR_PHY_UNLOCK ∈ t.ev.raw ∧
      t.getF F.RM_OUTAGES = satNat 16 (s.getF F.RM_OUTAGES + 1)) ∧
  (∀ (s : State), s.alive = true → s.powerSt = 3 → s.on F.MEM_STATUS_PHY_LOCK = false → s.on F.MEM_STATUS_SELF_REFRESH = false →
    ∃ t, exec .ddrPhyLock s = .next t ∧ t.on F.MEM_STATUS_PHY_LOCK = true ∧ Ev.DDR_PHY_UNLOCK ∉ t.ev.raw ∧ t.mem.live = true) ∧
  (∀ (s : State) (a p k : Nat), s.alive = true →
    ∃ t, exec (.bwSecond a p k) s = .next t ∧ t.getF F.RM_BW_AVG = satNat F.RM_BW_AVG.width a ∧
      t.getF F.RM_READ_P99 = satNat F.RM_READ_P99.width p ∧ t.ev.raw.contains Ev.BW_LIMIT = decide (200 < p))

/-- TDM ports and PDM lanes. -/
def Obligations.TdmAndPdmPortsAct : Prop :=
  (∀ (s : State) (p : Fin 16) (f : TdmFrame), s.alive = true → s.on (F.TDM_CTL_EN p) = true →
    s.on (F.TDM_STATUS_CLK_OK p) = true → (∀ k, (s.tdm p).startTick = some k → k ≤ s.gridTick) →
    ((s.tdm p).startTick = none → s.on (F.TDM_CTL_MASTER p) = false) →
    (s.on (F.TDM_CTL_MASTER p) = true ∨ ((f.khz : Int) - s.tdmBclk p).natAbs * 100 ≤ s.tdmBclk p) →
    ∃ t, exec (.tdmFrameSync p f) s = .next t ∧ t.getF (F.TDM_FRAME_CNT p) = (s.getF (F.TDM_FRAME_CNT p) + 1) % 2 ^ 32 ∧
      t.on (F.TDM_STATUS_RUNNING p) = true ∧ ((s.tdm p).first = true → Ev.TDM_START ∈ t.ev.sticky) ∧
      ((s.tdm p).swap.isSome = true → (s.tdm p).skip = false → s.getF (F.TDM_CTL_ACT_BANK p) ≤ 1 →
        t.getF (F.TDM_CTL_ACT_BANK p) = 1 - s.getF (F.TDM_CTL_ACT_BANK p) ∧ t.on (F.TDM_CTL_SWAP p) = false ∧
        Ev.BANK_SWAPPED ∈ t.ev.sticky)) ∧
  (∀ (s : State) (p c : Fin 16), s.alive = true → s.on (F.TDM_CTL_MASTER p) = false → s.on (F.TDM_STATUS_CLK_OK p) = true →
    ∃ t, exec (.tdmClockLost p c) s = .next t ∧ t.on (F.TDM_STATUS_CLK_OK p) = false ∧ Ev.TDM_CLK_LOST ∈ t.ev.sticky ∧
      t.getF (F.TDM_CLK_LOSSES p) = satNat 16 (s.getF (F.TDM_CLK_LOSSES p) + 1)) ∧
  (∀ (s : State) (p : Fin 16) (out : Bool) (i : Fin 32), s.alive = true → (s.zc (zcTdm p (b2n out) i)).wait ≠ 0 →
    ∃ t, exec (.zcTimeout p out i) s = .next t ∧ (t.zc (zcTdm p (b2n out) i)).wait = 0 ∧
      (t.zc (zcTdm p (b2n out) i)).ramp = s.tdmHz p / 1000 ∧ Ev.ZC_TIMEOUT ∈ t.ev.sticky ∧
      t.getF (F.TDM_ZC_TIMEOUTS p) = satNat 16 (s.getF (F.TDM_ZC_TIMEOUTS p) + 1)) ∧
  (∀ (s : State) (m : Fin 8), s.alive = true → s.on (F.PDM_CTL_EN m) = true → s.on (F.PDM_STATUS_CLK_OK m) = true →
    ∃ t, exec (.pdmClockLost m) s = .next t ∧ t.on (F.PDM_STATUS_CLK_OK m) = false ∧ Ev.PDM_CLK_LOST ∈ t.ev.sticky ∧
      Ev.LANE_M0 + m.val ∈ t.ev.sticky) ∧
  (∀ (s : State) (m : Fin 8), s.alive = true → s.on (F.PDM_CTL_EN m) = true → s.on (F.PDM_STATUS_CLK_OK m) = false → s.pllOk = true →
    ∃ t, exec (.pdmClockReturn m) s = .next t ∧ t.on (F.PDM_STATUS_CLK_OK m) = true ∧ Ev.PDM_CLK_BACK ∈ t.ev.sticky) ∧
  (∀ (s : State) (m : Fin 8) (e : Fin 2) (lv : Bool), s.alive = true → s.on (F.PDM_CTL_EN m) = true →
    bitOf (s.getF (F.PDM_STATUS_STUCK m)) e = false →
    ∃ t, exec (.pdmStuck m e lv) s = .next t ∧ bitOf (t.getF (F.PDM_STATUS_STUCK m)) e = true ∧ Ev.PDM_STUCK ∈ t.ev.sticky) ∧
  (∀ (s : State) (m : Fin 8) (e : Fin 2), s.alive = true →
    ∃ t, exec (.pdmStuckClear m e) s = .next t ∧ bitOf (t.getF (F.PDM_STATUS_STUCK m)) e = false) ∧
  (∀ (s : State) (m : Fin 8) (e : Fin 2), s.alive = true → (s.zc (zcPdm (2 * m + e))).wait ≠ 0 →
    ∃ t, exec (.pdmZcTimeout m e) s = .next t ∧ (t.zc (zcPdm (2 * m + e))).wait = 0 ∧ Ev.PDM_ZC_TIMEOUT ∈ t.ev.sticky ∧
      t.getF (F.PDM_ZC_TIMEOUTS m) = satNat 16 (s.getF (F.PDM_ZC_TIMEOUTS m) + 1))

/-- The power stage and its line diagnostics. -/
def Obligations.AmplifierChannelsProtectAndTest : Prop :=
  (∀ (s : State) (x : Fin 8) (tr : TripIn) (y : Nat), s.alive = true → s.proofDrives x = false → y = s.ampHead x →
    s.amp.offline.contains y = false → (s.ampSt y = aSTARTING ∨ s.ampSt y = aRUN ∨ s.ampSt y = aSTOPPING) →
    ∃ t, exec (.ampTrip x tr) s = .next t ∧ t.getF (F.AMP_STATUS_CLASS y) = s.tripClass tr ∧
      t.getF (F.AMP_COUNT_TRIPS y) = satNat 16 (s.getF (F.AMP_COUNT_TRIPS y) + 1) ∧
      t.ampSt y = (if (s.retryMs y).isSome then aFAULT else aLOCKOUT) ∧ (t.ampCh y).gates = false ∧
      (∀ ms, s.retryMs y = some ms → (t.ampCh y).backoff = if (s.ampCh y).fresh then ms else doubled (s.ampCh y).backoff)) ∧
  (∀ (s : State) (x : Fin 8) (tr : TripIn), s.alive = true → s.proofDrives x = false → s.ampHead x = x.val →
    s.amp.offline.contains x.val = true →
    ∃ t, exec (.ampTrip x tr) s = .next t ∧ t.amp.offline.contains x.val = false ∧ t.getF (F.DIAG_CH_CLASS x) = 3) ∧
  (∀ (s : State) (x : Fin 8), s.alive = true → s.ampSt x = aSTARTING → (s.ampCh x).boot = false →
    ∃ t, exec (.ampBootstrapDone x) s = .next t ∧ (t.ampCh x).boot = true) ∧
  (∀ (s : State) (x : Fin 8), s.alive = true → s.ampSt x = aSTOPPING → (s.zc (zcAmp x)).on = false →
    ∃ t, exec (.ampStopDone x) s = .next t ∧
      t.ampSt x = (if (s.ampCh x).pend then (if s.ampHeld x then aHOLD else aSTARTING) else aOFF)) ∧
  (∀ (s : State) (x : Fin 8), s.alive = true → (s.zc (zcAmp x)).wait ≠ 0 →
    ∃ t, exec (.ampZcTimeout x) s = .next t ∧ (t.zc (zcAmp x)).wait = 0 ∧
      t.getF (F.AMP_ZC_TIMEOUTS x) = satNat 16 (s.getF (F.AMP_ZC_TIMEOUTS x) + 1)) ∧
  (∀ (s : State) (x : Fin 8), s.alive = true → s.ampSt x = aFAULT →
    ∃ t, exec (.ampRetry x) s = .next t ∧ Ev.AMP_RETRY ∈ t.ev.sticky ∧
      t.ampSt x = (if s.getF (F.AMP_STATUS_CLASS x) ≤ 4 then aPROBE else aSTARTING)) ∧
  (∀ (s : State) (x : Fin 8) (r : Nat) (near acted : Bool), s.alive = true → s.ampSt x = aPROBE →
    ∃ t, exec (.ampProbeEnd x r near acted) s = .next t ∧ t.getF (F.AMP_TRIP_I_PROBE_R x) = satNat 16 r ∧
      (100 ≤ r → near = true → acted = false → t.ampSt x = (if s.ampClockBad x then aCLKMUTE else aSTARTING) ∧
        (t.ampCh x).recover = some (satNat 16 r)) ∧
      (r < 100 ∨ near = false ∨ acted = true → t.ampSt x = aFAULT ∧ (t.ampCh x).backoff = doubled (s.ampCh x).backoff ∧
        t.getF (F.AMP_COUNT_PROBE_FAILS x) = satNat 16 (s.getF (F.AMP_COUNT_PROBE_FAILS x) + 1))) ∧
  (∀ (s : State) (x : Fin 8), s.alive = true → s.ampSt x = aRUN → (s.ampCh x).fresh = false →
    ∃ t, exec (.ampBackoffReset x) s = .next t ∧ (t.ampCh x).fresh = true ∧ (t.ampCh x).backoff = (s.retryMs x).getD 0) ∧
  (∀ (s : State) (c : Fin 11) (v : Int) (hi : Bool), s.alive = true → s.protOn c = false →
    ∃ t, exec (.ampHoldStart c v hi) s = .next t ∧
      (c.val < 3 → t.on (protBit c) = true ∧ ∀ x < 8, s.ampSt x = aRUN → t.ampSt x = aHOLD) ∧
      (3 ≤ c.val → c.val < 7 → bitOf (t.getF F.PROT_STATUS_OTS) (c - 3) = true ∧ Ev.AMP_OTS ∈ t.ev.sticky) ∧
      (7 ≤ c.val → bitOf (t.getF F.PROT_STATUS_TSNS_FAULT) (c - 7) = true ∧ Ev.AMP_TSNS_OPEN ∈ t.ev.sticky)) ∧
  (∀ (s : State) (c : Fin 11) (v : Int), s.alive = true → s.protOn c = true →
    ∃ t, exec (.ampHoldClear c v) s = .next t ∧ (c.val < 3 → t.on (protBit c) = false) ∧
      (3 ≤ c.val → c.val < 7 → bitOf (t.getF F.PROT_STATUS_OTS) (c - 3) = false) ∧
      (7 ≤ c.val → bitOf (t.getF F.PROT_STATUS_TSNS_FAULT) (c - 7) = false) ∧
      (∀ x < 8, s.ampSt x = aHOLD → (s.ampCh x).fault = false → t.ampHeld x = false → t.ampSt x = aSTARTING)) ∧
  (∀ (s : State) (x : Fin 8), s.alive = true → s.ampSt x = aCLKMUTE → (s.ampCh x).resume = false →
    ∃ t, exec (.clkmuteGatesOff x) s = .next t ∧ (t.ampCh x).gates = false) ∧
  (∀ (s : State) (x : Fin 8), s.alive = true → s.ampSt x = aCLKMUTE → s.pllOk = true → (s.ampCh x).bad = 0 →
    (s.ampCh x).resume = false →
    ∃ t, exec (.clkmuteResume x) s = .next t ∧ (t.ampCh x).resume = true ∧ (t.ampCh x).boot = (s.ampCh x).gates) ∧
  (∀ (s : State) (x : Fin 8) (off gain : Int), s.alive = true → s.ampSt x = aRUN → s.on (F.AMP_CTL_CAL_EN x) = true →
    ∃ t, exec (.ampCalPassEnd x off gain) s = .next t ∧ Ev.CAL_DONE ∈ t.ev.sticky ∧
      t.getI (F.AMP_CAL_OFFSET x) = calMove (s.getI (F.AMP_CAL_OFFSET x)) off 100 5000 ∧
      t.getI (F.AMP_CAL_GAIN x) = calMove (s.getI (F.AMP_CAL_GAIN x)) gain 10 500) ∧
  (∀ (s : State) (r : List (Nat × DiagMeas)) (l : LongOp), s.alive = true → s.car.longOp = some l → l.idx = 7 →
    ∃ t, exec (.diagOfflineEnd r) s = .next t ∧ t.car.longOp = none ∧ Ev.LONG_DONE ∈ t.ev.sticky ∧
      (l.abandoned = false → t.amp.offline = [] ∧
        ∀ x < 8, s.amp.offline.contains x = true → ∃ d, KV.find t.amp.last x = some d ∧ d.cls = t.getF (F.DIAG_CH_CLASS x))) ∧
  (∀ (s : State) (x : Fin 8), s.alive = true → 1 ≤ s.getF F.DIAG_CTL_LIVE_INT → s.getF F.DIAG_CTL_LIVE_INT ≤ 4 →
    KV.find s.amp.live x = none →
    ∃ t, exec (.liveTestDue x) s = .next t ∧
      (s.liveRefusal x = 0 → KV.find t.amp.live x = some {} ∧ Ev.PILOT_START ∈ t.ev.sticky) ∧
      (s.liveRefusal x ≠ 0 → KV.find t.amp.live x = none ∧ Ev.DIAG_REFUSED ∈ t.ev.sticky)) ∧
  (∀ (s : State) (x : Fin 8) (z : Nat) (arg : Int) (rdc : Nat) (r : LiveRun), s.alive = true → KV.find s.amp.live x = some r →
    (r.k < 3 → ∃ t, exec (.liveWindowEnd x true z arg rdc) s = .next t ∧ KV.find t.amp.live x =
      some { r with k := r.k + 1, z := r.z ++ [z], arg := r.arg ++ [arg] }) ∧
    (3 ≤ r.k → r.deferred ≠ 15 → ∃ t, exec (.liveWindowEnd x true z arg rdc) s = .next t ∧ KV.find t.amp.live x = none ∧
      t.getF (F.DIAG_CH_TESTS x) = satNat 16 (s.getF (F.DIAG_CH_TESTS x) + 1) ∧ Ev.DIAG_DONE ∈ t.ev.sticky) ∧
    (∃ t, exec (.liveWindowEnd x false z arg rdc) s = .next t ∧ KV.find t.amp.live x = some r)) ∧
  (∀ (s : State) (x : Fin 8) (rdc : Nat) (r : LiveRun), s.alive = true → KV.find s.amp.live x = some r → r.k < 3 →
    ∃ t, exec (.liveDeferTimeout x rdc) s = .next t ∧ KV.find t.amp.live x =
      some { r with k := r.k + 1, z := r.z ++ [0], arg := r.arg ++ [0], deferred := r.deferred + 2 ^ r.k }) ∧
  (∀ (s : State) (k : Fin 4) (v : Int), s.alive = true →
    (s.on F.PROT_GATE_TSNS_IGNORE = false ∨ bitOf (s.getF F.PROT_STATUS_TSNS_FAULT) k = false) →
    ∃ t, exec (.fetTemperatureWarning k v) s = .next t ∧
      bitOf (t.getF F.PROT_STATUS_OTW) k = decide (v > 10 * (s.getF F.PROT_TEMP_OTW : Nat)) ∧
      t.getI (F.PROT_TSNS k) = satSigned 16 v ∧
      (bitOf (s.getF F.PROT_STATUS_OTW) k = false → v > 10 * (s.getF F.PROT_TEMP_OTW : Nat) → Ev.AMP_OTW ∈ t.ev.sticky)) ∧
  (∀ (s : State) (x : Fin 8) (y : Nat), s.alive = true → y = s.ampHead x → ampSwitches (s.ampSt y) = true →
    ∃ t, exec (.cycleByCycleLimit x) s = .next t ∧ t.on (F.AMP_STATUS_LIMITING y) = true ∧
      t.getF (F.AMP_LIMIT_CYCLES y) = satNat 32 (s.getF (F.AMP_LIMIT_CYCLES y) + 1) ∧
      (s.on (F.AMP_STATUS_LIMITING y) = false → Ev.AMP_ILIMIT ∈ t.ev.sticky))

/-- What the pair link and the pair's pins bring. -/
def Obligations.ThePairFollowsItsLink : Prop :=
  (∀ (s : State) (h : Heartbeat), s.alive = true → s.on F.LINK_CTL_EN = true → s.powerSt = 3 →
    ∃ t, exec (.heartbeatRx h) s = .next t ∧ t.getF F.LINK_HB_RX = satNat 32 (s.getF F.LINK_HB_RX + 1) ∧
      t.on F.LINK_STATUS_LOCK = true ∧ t.on F.LINK_STATUS_UP = true ∧ t.getF F.ROLE_STATUS_PARTNER_ID = h.dev % 2 ^ 16 ∧
      t.pair.pMacs = h.macs ∧ t.pair.timing = true ∧ (s.on F.LINK_STATUS_LOCK = false → Ev.PAIR_LINK_UP ∈ t.ev.sticky) ∧
      ((s.pairSt = psSYNC ∨ s.pairSt = psREADY) → h.health = 2 → t.pairSt = psACTIVE ∧ Ev.TAKEOVER ∈ t.ev.sticky)) ∧
  (∀ (s : State), s.alive = true → s.on F.LINK_CTL_EN = true → s.powerSt = 3 →
    ∃ t l, exec .heartbeatTx s = .next t ∧ Emit.pair 1 (s.pairSt :: s.getF F.ROLE_CTL_MODE :: s.health :: l) ∈ t.out) ∧
  (∀ (s : State), s.alive = true → s.pair.timing = true → s.lowering = false →
    ∃ t, exec .heartbeatTimeout s = .next t ∧ t.pair.timing = false ∧ Ev.HEARTBEAT_LOST ∈ t.ev.sticky ∧ t.pairSt = psALONE ∧
      t.on F.LINK_STATUS_UP = false ∧ t.getF F.LINK_HB_LOST = satNat 16 (s.getF F.LINK_HB_LOST + 1) ∧
      ((s.pairSt = psSYNC ∨ s.pairSt = psREADY) → Ev.TAKEOVER ∈ t.ev.sticky)) ∧
  (∀ (s : State), s.alive = true → s.on F.LINK_STATUS_LOCK = true →
    ∃ t, exec .pairLaneLockLoss s = .next t ∧ t.on F.LINK_STATUS_LOCK = false ∧ t.on F.LINK_STATUS_UP = false ∧
      Ev.PAIR_LINK_DOWN ∈ t.ev.raw) ∧
  (∀ (s : State) (seq addr data tick : Nat) (priv : Bool), s.alive = true → s.pairLinkUp = true → s.isStandby = true →
    s.gridTick < tick →
    ∃ t r, exec (.mirrorRecordRx seq (.reg addr data priv tick)) s = .next t ∧ t.pair.mirSeq = seq ∧
      t.pair.regQ = s.pair.regQ ++ [r] ∧ r.tick = tick ∧ r.addr = addr ∧ r.data = data ∧ r.origin.code = 8 ∧
      t.getF F.LINK_MIRRORS = satNat 32 (s.getF F.LINK_MIRRORS + 1)) ∧
  (∀ (s t' : State) (seq op crc : Nat) (params l : List Byte) (priv : Bool) (at_ : Tai) (trg log : Option Nat) (o : Origin),
    s.alive = true → s.pairLinkUp = true → s.isStandby = true → op ≠ 0x0110 → s.now.units ≤ at_.units →
    o = { code := 8, priv := priv, id := s.partnerId } →
    opCore {} { carrier := .mailbox, origin := o, opcode := op, params := params, noreply := true, crc := crc }
      (s.fresh.setPairD { s.pair with mirSeq := seq, reqAt := some at_.units }) = .done t' l log →
    ∃ t, exec (.mirrorRecordRx seq (.cmd op params priv crc at_ trg)) s = .next t ∧ t.pair.reqAt = none ∧
      t.getF F.LINK_MIRRORS = satNat 32 (t'.getF F.LINK_MIRRORS + 1)) ∧
  (∀ (s : State) (seq : Nat) (r : MirrorRec), s.alive = true → s.pairLinkUp = true → s.isStandby = false →
    s.pair.stage.isSome = true →
    ∃ t, exec (.mirrorRecordRx seq r) s = .next t ∧ t.pair.stageQ = s.pair.stageQ ++ [r]) ∧
  (∀ (s : State) (x : ShareIn), s.alive = true → (s.pairSt = psSYNC ∨ s.pairSt = psREADY) → s.pairLinkUp = true →
    ∃ t, exec (.lockstepShareRx x) s = .next t ∧ t.pair.inbox = s.pair.inbox ++ [x]) ∧
  (∀ (s : State) (k : Nat), s.alive = true → s.str.lastTick = some k → 15 ≤ k → s.on F.DIG_CTL_EN = true → s.pairLinkUp = true →
    psSYNC ≤ s.pairSt → (∀ j < 16, (KV.find s.pair.win (16 * ((k + 1) / 16 - 1) + j)).isSome = true) →
    (∀ x ∈ s.pair.own, x.1 ≠ (k + 1) / 16 - 1) →
    ∃ t l, exec .digestWindowEnd s = .next t ∧ Emit.pair 4 (((k + 1) / 16 - 1) :: l) ∈ t.out) ∧
  (∀ (s : State) (w : Nat) (ds own : List Nat) (fl fo : Bool), s.alive = true → s.pairLinkUp = true → s.on F.DIG_CTL_EN = true →
    psSYNC ≤ s.pairSt → s.pair.own.find? (fun x => x.1 == w) = some (w, own, fo) →
    ∃ t, exec (.digestRx w ds fl) s = .next t ∧ t.getF F.DIG_WINDOWS = satNat 32 (s.getF F.DIG_WINDOWS + 1) ∧
      (ds = own → t.getF F.DIG_MATCH_RUN = satNat 16 (s.getF F.DIG_MATCH_RUN + 1)) ∧
      (∀ c < 4, bitOf (s.getF F.DIG_CTL_CLASS_EN) c = true → own.getD c 0 ≠ ds.getD c 0 →
        t.getF F.DIG_MATCH_RUN = 0 ∧ Ev.DIGEST_MISMATCH ∈ t.ev.sticky)) ∧
  (∀ (s : State), s.alive = true → s.pairLinkUp = true →
    ∃ t, exec .healthReportTx s = .next t ∧ Emit.pair 5 (s.healthReport.map (·.toNat)) ∈ t.out) ∧
  (∀ (s : State) (b : List Byte), s.alive = true → s.pairLinkUp = true →
    ∃ t, exec (.healthReportRx b) s = .next t ∧
      (b.length = 64 → crc32c (b.take 60) = leAt b 60 4 → t.pair.report = some b) ∧
      (b.length ≠ 64 ∨ crc32c (b.take 60) ≠ leAt b 60 4 → t.pair.report = s.pair.report ∧
        t.getF F.LINK_CRC_ERR = satNat 16 (s.getF F.LINK_CRC_ERR + 1))) ∧
  (∀ (s : State) (e : Fin 512) (n room : Nat) (u : Int) (p : MediaPkt), s.alive = true → s.getF F.ROLE_CTL_REPAIR_MAX ≠ 0 → 0 < room →
    (s.rxRun e).hist.find? (fun h => h.2.seq == n % 65536 && decide (s.now.units - h.1 ≤ 1310720000000)) = some (u, p) →
    ∃ t, exec (.repairRequestRx e [n] room) s = .next t ∧ t.getF F.LINK_REPAIR_SENT = satNat 32 (s.getF F.LINK_REPAIR_SENT + 1) ∧
      Emit.pair 7 ([e.val, p.seq, p.ts] ++ p.payload.map (·.toNat)) ∈ t.out) ∧
  (∀ (s : State) (e : Fin 512) (n room : Nat), s.alive = true →
    (s.rxRun e).hist.find? (fun h => h.2.seq == n % 65536 && decide (s.now.units - h.1 ≤ 1310720000000)) = none →
    ∃ t, exec (.repairRequestRx e [n] room) s = .next t ∧ t.getF F.LINK_REPAIR_DROP = satNat 32 (s.getF F.LINK_REPAIR_DROP + 1)) ∧
  (∀ (s : State), s.alive = true →
    ∃ t, exec .pairTakeAssert s = .next t ∧ t.on F.ROLE_STATUS_TAKE_IN = true ∧ t.pins.takeLow = true ∧ Ev.PAIR_TAKE_IN ∈ t.ev.raw ∧
      ((s.pairSt = psSYNC ∨ s.pairSt = psREADY) → s.on F.ROLE_CTL_TAKE_PIN_EN = true →
        t.pairSt = psACTIVE ∧ Ev.TAKEOVER ∈ t.ev.sticky)) ∧
  (∀ (s : State), s.alive = true →
    ∃ t, exec .pairTakeRelease s = .next t ∧ t.on F.ROLE_STATUS_TAKE_IN = false ∧ t.pins.takeLow = false ∧
      Ev.PAIR_TAKE_IN ∉ t.ev.raw) ∧
  (∀ (s : State) (k c : Nat), s.alive = true → s.pair.hand = some (k, c) → k ≤ s.toBoundary.gridTick → s.lowering = false →
    ∃ t, exec .handoverAtTh s = .next t ∧ t.pair.hand = none ∧
      (s.pairSt = psACTIVE → (t.pairSt = psREADY ∨ t.pairSt = psSYNC) ∧ t.pair.pState = psACTIVE) ∧
      (s.pairSt = psREADY ∨ s.pairSt = psSYNC → t.pairSt = psACTIVE ∧ t.pair.pState = psREADY ∧ Ev.TAKEOVER ∈ t.ev.sticky))

/-- The steps of a clone. -/
def Obligations.ClonesStageApplyAndFail : Prop :=
  (∀ (s u : State) (c : CloneIn), s.alive = true → s.pairSt = psCLONING → s.pair.cloning = true → s.pair.stage = none →
    u = ((s.fresh.loadTimebase c.time.bits).restartAverages 0).restartAverages 1 →
    ∃ t, exec (.cloneStagingDone c) s = .next t ∧
      (u.cloneOk c = true → t.pair.stage = some c ∧ t.pair.stageQ = []) ∧
      (u.cloneOk c = false → t.pair.stage = none ∧ t.pair.cloning = false ∧ Ev.CLONE_FAIL ∈ t.ev.sticky)) ∧
  (∀ (s : State) (c : CloneIn), s.alive = true → s.pairSt = psCLONING → s.pair.stage = some c → c.tc ≤ s.toBoundary.gridTick →
    s.pair.stageQ = [] →
    ∃ t, exec .cloneApply s = .next t ∧ t.pairSt = psSYNC ∧ t.pair.stage = none ∧ t.pair.cloning = false ∧
      Ev.CLONE_DONE ∈ t.ev.sticky) ∧
  (∀ (s : State), s.alive = true → s.pair.cloning = true →
    ∃ t, exec .cloneTimeout s = .next t ∧ t.pair.cloning = false ∧ t.pair.stage = none ∧ Ev.CLONE_FAIL ∈ t.ev.sticky ∧
      t.getF F.ROLE_CLONE_FAILS = satNat 16 (s.getF F.ROLE_CLONE_FAILS + 1) ∧
      (s.car.longOp.map (·.idx) = some 9 → t.car.longOp = none ∧ Ev.LONG_DONE ∈ t.ev.sticky)) ∧
  (∀ (s : State), s.alive = true → s.pairSt = psCLONING → s.pair.cloning = false → s.pairLinkUp = true → s.car.longOp = none →
    ∃ t, exec .cloneRetry s = .next t ∧ t.pair.cloning = true ∧ t.car.longOp.map (·.idx) = some 9 ∧ Ev.CLONE_START ∈ t.ev.sticky)

/-- What the monitors and the Calender do. -/
def Obligations.MonitorsAndTheCalenderAct : Prop :=
  (∀ (s : State) (deg : List Int), s.alive = true → 2 ≤ s.powerSt → deg ≠ [] →
    ∃ t, exec (.ringOscSample deg) s = .next t ∧
      t.getI F.MON_RO_MEAN = satSigned 16 (roundDiv (deg.foldl (· + ·) 0) deg.length) ∧
      t.getI F.MON_RO_MAX = satSigned 16 (deg.foldl max (deg.headD 0))) ∧
  (∀ (s : State) (sl : Int) (sens : Nat) (ack : Bool), s.alive = true → 2 ≤ s.powerSt →
    ∃ t, exec (.replicaSample sl sens ack) s = .next t ∧
      t.hlt.slackNow = some (match s.hlt.slackNow with
        | some v => min v sl
        | none => sl) ∧
      t.getF F.MON_SENS = satNat F.MON_SENS.width sens ∧
      (sl < 30 → s.hlt.vcore + 10 ≤ 850 → t.hlt.vcore = s.hlt.vcore + 10 ∧ Ev.VCORE_ADJ ∈ t.ev.sticky) ∧
      (sl < 30 → 850 < s.hlt.vcore + 10 → t.hlt.vcore = s.hlt.vcore ∧ Ev.AGEING_THRESH ∈ t.ev.sticky) ∧
      (30 ≤ sl → t.hlt.vcore = s.hlt.vcore)) ∧
  (∀ (s : State) (l : List Int), s.alive = true → 2 ≤ s.powerSt →
    ∃ t, exec (.dieTempSample l) s = .next t ∧
      (∀ i < 8, i < l.length → t.getI (F.MON_TEMP i) = satSigned 16 (l.getD i 0)) ∧
      (∀ v ∈ l.take 8, 1100 < v → Ev.TEMP_CRIT ∈ t.ev.raw) ∧
      ((∀ v ∈ l.take 8, v ≤ 1050) → Ev.TEMP_CRIT ∉ t.ev.raw)) ∧
  (∀ (s : State) (d : DayIn), s.alive = true → 2 ≤ s.powerSt →
    ∃ t, exec (.dailyLedger d) s = .next t ∧ t.hlt.ro = none ∧ t.hlt.slack = none ∧ t.hlt.hot = none ∧ t.hlt.passes = 0 ∧
      t.hlt.eyes = [] ∧ t.hlt.nvDay = false ∧ t.amp.dcr = []) ∧
  (∀ (s : State), s.alive = true → s.calMayRun = true → s.calPeriod.isSome = true →
    ∃ t, exec .calenderPeriodic s = .next t ∧ t.on F.CAL_STATUS_RUNNING = true ∧
      (s.on F.CAL_STATUS_RUNNING = true → t.on F.CAL_STATUS_QUEUED = true)) ∧
  (∀ (s : State), s.alive = true → s.on F.CAL_STATUS_RUNNING = true →
    ∃ t, exec .calenderRunEnd s = .next t ∧ t.getF F.CAL_STATUS_RUNS = satNat 16 (s.getF F.CAL_STATUS_RUNS + 1) ∧
      t.getF F.CAL_LAST_RUN = s.now.sec % 2 ^ 32 ∧ Ev.CALENDER_REPLAN ∈ t.ev.sticky ∧
      (s.on F.CAL_STATUS_QUEUED = false → t.on F.CAL_STATUS_RUNNING = false)) ∧
  (∀ (s : State), s.alive = true → 2 ≤ s.powerSt → s.pins.pfwLow = false →
    ∃ t, exec .nvmRefreshDue s = .next t ∧ t.hlt.refreshing = true) ∧
  (∀ (s : State) (m : Nat), s.alive = true → s.hlt.refreshing = true →
    ∃ t, exec (.nvmRefreshEnd m) s = .next t ∧ t.hlt.refreshing = false ∧ t.getF F.MON_NVM_MARGIN = satNat 8 m ∧
      t.getF F.CAL_LAST_REFRESH = s.now.sec % 2 ^ 32) ∧
  (∀ (s : State) (e : List Nat), s.alive = true → 2 ≤ s.powerSt → 5 ≤ e.length →
    ∃ t, exec (.serdesEyeSample e) s = .next t ∧ t.hlt.eyes = e ∧ t.getF F.LINK_STATUS_EYE = satNat 8 (e.getD 4 0) ∧
      t.ev.raw.contains Ev.PAIR_EYE = decide (e.getD 4 0 < 25) ∧ ∀ p < 4, t.hlt.eyeLow.contains p = decide (e.getD p 0 < 25))

/-- The power states and everything that resets or starts the block. `StepTwoDone` is what step 2 of a cold start leaves. -/
def Obligations.PowerStatesResetsAndStarts : Prop :=
  (∀ (s : State), s.pwr.boot = 5 → s.lowering = true → s.pwr.stopped = true → s.pair.hand = none → s.getF F.PWR_STATUS_TARGET < 3 →
    (s.getF F.PWR_STATUS_TARGET = 2 ∨ (s.log.commit = none ∧
      (s.getF F.PWR_STATUS_TARGET = 0 ∨ s.on F.TB_STATUS_SET = false ∨ s.time.cyc = 0))) →
    ∃ t, exec .lowerStateEnter s = .next t ∧ t.powerSt = s.getF F.PWR_STATUS_TARGET ∧ t.on F.PWR_STATUS_ENTERING = false ∧
      Ev.STATE_CHANGE ∈ t.ev.sticky) ∧
  (∀ (s : State) (src : List (Nat × Nat)) (n c : Nat) (l : List Nat), s.pwr.boot = 5 → s.powerSt = 1 →
    s.on F.PWR_STATUS_ENTERING = false → (s.aoTick n).wakeSources src = c :: l →
    ∃ t, exec (.wakeCapture src n) s = .next t ∧ t.on F.PWR_STATUS_ENTERING = true ∧ t.getF F.PWR_STATUS_TARGET = 2 ∧
      t.getF F.WK_LAST_SOURCE = c ∧ t.getF F.WK_LAST_WAKES = satNat 16 (s.getF F.WK_LAST_WAKES + 1)) ∧
  (∀ (s : State), s.pwr.boot = 5 → s.powerSt = 1 → s.on F.PWR_STATUS_ENTERING = true →
    ∃ t, exec .wakeComplete s = .next t ∧ t.powerSt = 2 ∧ Ev.WAKE ∈ t.ev.sticky ∧ Ev.STATE_CHANGE ∈ t.ev.sticky ∧
      t.on F.PWR_STATUS_ENTERING = (s.pwr.wakeTo == 3)) ∧
  (∀ (s : State), s.pwr.boot = 5 → s.powerSt = 2 → s.on F.PWR_STATUS_ENTERING = true → s.getF F.PWR_STATUS_TARGET = 3 →
    ∃ t, exec .listenToRunDone s = .next t ∧ t.powerSt = 3 ∧ t.on F.PWR_STATUS_ENTERING = false ∧
      t.on F.MEM_STATUS_PHY_LOCK = true ∧ t.on F.MEM_STATUS_SELF_REFRESH = false ∧ Ev.STATE_CHANGE ∈ t.ev.sticky) ∧
  (∀ (s : State) (ao : Bool) (x : StepTwo),
    ∃ t, exec (.powerOnResetRelease ao x) s = .next t ∧ t.StepTwoDone x ∧ t.log.ring = s.log.ring ∧ t.pending = s.pending ∧ t.pwr.cmdReady = false ∧
      t.getF F.PWR_RESET_CAUSE =
        (if ao = true ∨ s.pwr.boot = 0 then 1 else if s.pwr.shelfWake = true ∨ (s.pwr.boot = 5 ∧ s.powerSt = 0) then 32 else 2)) ∧
  (∀ (s : State) (x : StepTwo), s.pwr.boot ≠ 0 → s.pwr.boot ≠ 4 → (s.pwr.boot = 5 → s.powerSt ≠ 0) →
    ∃ t, exec (.resetNAssert x) s = .next t ∧ t.StepTwoDone x ∧ t.getF F.PWR_RESET_CAUSE = 4 ∧ t.pwr.cmdReady = false ∧ t.log.ring = s.log.ring ∧
      t.getF F.PWR_COLD_STARTS = satNat 16 (s.getF F.PWR_COLD_STARTS + 1)) ∧
  (∀ (s : State) (x : StepTwo), s.pwr.resetDue = true →
    ∃ t, exec (.resetCommandAct x) s = .next t ∧ t.StepTwoDone x ∧ t.getF F.PWR_RESET_CAUSE = 8 ∧ t.pwr.cmdReady = false ∧ t.log.ring = s.log.ring ∧
      t.pwr.resetDue = false) ∧
  (∀ (s : State) (x : StepTwo), s.pwr.boot = 4 →
    ∃ t, exec (.presentNSettled x) s = .next t ∧ t.StepTwoDone x ∧ t.getF F.PWR_RESET_CAUSE = 16 ∧ t.pwr.cmdReady = false ∧ t.log.ring = s.log.ring) ∧
  (∀ (s : State) (x : StepTwo), s.pwr.boot = 2 → ∃ t, exec (.supplyRecheck x) s = .next t ∧ t.StepTwoDone x) ∧
  (∀ (s : State) (x : StepTwo), s.pwr.boot = 3 → ∃ t, exec (.refxoRetry x) s = .next t ∧ t.StepTwoDone x) ∧
  (∀ (s : State) (c : ColdIn), s.pwr.boot = 1 →
    ∃ t, exec (.coldStartReady c) s = .next t ∧ t.pwr.boot = 5 ∧ t.pwr.cmdReady = true ∧ t.powerSt = 3 ∧ t.pins.svcEn = c.svcEn ∧
      t.getF F.PWR_BOOT_MS = satNat 16 c.ms ∧ Ev.STATE_CHANGE ∈ t.ev.sticky) ∧
  (∀ (s : State), (s.pwr.boot = 1 ∨ s.alive = true) →
    ∃ t, exec .refxoLost s = .next t ∧ t.pwr.boot = 3 ∧ t.pwr.lostAt = some s.aoSec ∧ t.pwr.cmdReady = false) ∧
  (∀ (s : State), s.pwr.boot ≠ 0 →
    ∃ t, exec .xo32Switch s = .next t ∧ t.on F.PWR_STATUS_XO32_OK = true ∧ Ev.XO32_FAIL ∉ t.ev.raw) ∧
  (∀ (s : State), s.pwr.boot ≠ 0 → s.on F.PWR_STATUS_XO32_OK = false →
    ∃ t, exec .xo32FailTimeout s = .next t ∧ Ev.XO32_FAIL ∈ t.ev.raw) ∧
  (∀ (s : State), s.on F.PWR_STATUS_XO32_OK = true →
    ∃ t, exec .xo32CrystalStop s = .next t ∧ t.on F.PWR_STATUS_XO32_OK = false ∧ Ev.XO32_FAIL ∈ t.ev.raw) ∧
  (∀ (s : State), s.alive = true →
    ∃ t, exec .presentNRise s = .next t ∧ t.pwr.boot = 4 ∧ t.reachable = false ∧ t.on F.PWR_STATUS_PRESENT = false ∧
      t.pins.outputsOff = true ∧ Ev.PRESENT_CHG ∈ t.ev.sticky ∧ ∀ p < 4, t.on (F.MAC_STATUS_LINK p) = false)

/-- Supplies, endpoint and proofs. -/
def Obligations.SuppliesTheEndpointAndProofsAct : Prop :=
  (∀ (s : State) (mv : List Nat), s.pwr.boot ≠ 0 → (s.pwr.boot = 5 → s.powerSt ≠ 0) →
    ∃ t, exec (.supplySample mv) s = .next t ∧
      (∀ i < 10, i < mv.length → t.getF (F.SUP_MEAS i) = satNat 16 (mv.getD i 0)) ∧
      t.getF F.SUP_STATUS_FAIL = t.supplyMask true ∧ t.getF F.SUP_STATUS_WARN = t.supplyMask false ∧
      t.ev.raw.contains Ev.SUPPLY_FAIL = (t.supplyMask true != 0) ∧ t.ev.raw.contains Ev.SUPPLY_WARN = (t.supplyMask false != 0)) ∧
  (∀ (s : State), s.alive = true → s.on F.HST_STATUS_PERST = false →
    ∃ t, exec .perstNAssert s = .next t ∧ t.on F.HST_STATUS_PERST = true ∧ t.on F.HST_STATUS_LINK_UP = false ∧
      t.getF F.HST_STATUS_LINK_DOWNS = satNat 16 (s.getF F.HST_STATUS_LINK_DOWNS + 1) ∧ t.ev.msixOn = false ∧
      (∀ r < 32, t.on (F.RING_CFG_EN r) = false) ∧
      (∀ p < 4, t.on (F.MAC_TXR_CFG_RING_EN p) = false ∧ t.on (F.MAC_RXR_CFG_RING_EN p) = false)) ∧
  (∀ (s : State), s.alive = true → s.on F.HST_STATUS_PERST = true →
    ∃ t, exec .perstNRise s = .next t ∧ t.on F.HST_STATUS_PERST = false ∧ t.on F.HST_STATUS_LINK_UP = true) ∧
  (∀ (s : State) (k : Fin 3) (r : ProofRun), s.alive = true → KV.find s.prf.run k = some r → r.hold ≠ 3 →
    ∃ t, exec (.proofHoldExpiry k) s = .next t ∧ KV.find t.prf.run k = none ∧
      (KV.get {} t.prf.last (proofKey r.g r.i)).result = 5 ∧ (KV.get {} t.prf.last (proofKey r.g r.i)).st = 2) ∧
  (∀ (s : State) (pass : Bool) (v0 v1 : Int) (r : ProofRun), s.alive = true → KV.find s.prf.run 2 = some r → proofFixed r = true →
    ∃ t, exec (.proofComplete pass v0 v1) s = .next t ∧ KV.find t.prf.run 2 = none ∧
      KV.get {} t.prf.last (proofKey r.g r.i) = { st := 2, result := if pass then 1 else 2, v0 := v0, v1 := v1 })

/-- Requests that read: every part and field stays. -/
def Obligations.ReadRequestsTouchNothing : Prop :=
  ∀ (s t : State) (q : Req) (sub : Nat),
  (∀ cmd ∈ ([.info q, .logRead q, .objGet sub q, .objStatus sub q, .tdmStatus q, .ampStatus q, .dirRead q, .dirStream q,
      .sdpExport q, .graphSched q, .graphRead q, .meterRead q, .diagRead q, .pairHealth q, .ledgerRead q] : List Instr),
    exec cmd s = .next t → s.Touches t [] [])

/-- Requests that set or act: everything outside their own tables stays. -/
def Obligations.SetAndActionRequestsTouchTheirTables : Prop :=
  ∀ (s t : State) (q : Req) (v0 v1 : Int) (a : Option Nat),
  (∀ cmd ∈ ([.sessionSet q, .fwBlock q, .fwCommit q, .recall q, .factoryRecall q, .selftest q, .logFlush q] : List Instr),
    exec cmd s = .next t → s.Touches t [.carriers] []) ∧
  (exec (.memRetrain q) s = .next t → s.Touches t [.carriers, .memory] []) ∧
  (∀ cmd ∈ ([.netPortSet q, .rxEntrySet q, .txEntrySet q, .sdpImport q, .dirImport q] : List Instr),
    exec cmd s = .next t → s.Touches t [.streams] []) ∧
  (exec (.txEntryDisable q) s = .next t → s.Touches t [.streams] [⟨4, 1, 1⟩]) ∧
  (∀ cmd ∈ ([.graphHeaderSet q, .graphLoad q, .graphParam q, .graphDisable q] : List Instr),
    exec cmd s = .next t → s.Touches t [.dsp] [⟨5, 64, 64⟩]) ∧
  (exec (.graphSwap q) s = .next t → s.Touches t [.dsp] [⟨5, 64, 65⟩]) ∧
  (exec (.trgDisarm q) s = .next t → s.Touches t [] [⟨1, 32, 63⟩]) ∧
  (exec (.tsqRead q) s = .next t → s.Touches t [.stamps] [⟨1, 4, 7⟩]) ∧
  (exec (.align q) s = .next t → s.Touches t [.clock] [⟨2, 11, 11⟩]) ∧
  (∀ cmd ∈ ([.mdioRead q a, .mdioWrite q] : List Instr),
    exec cmd s = .next t → s.Touches t [] [⟨3, 5, 5⟩]) ∧
  (exec (.pairTakeover q) s = .next t → s.Touches t [.pair] []) ∧
  (exec (.reset q) s = .next t → s.Touches t [.power] []) ∧
  (exec (.baselineReset q) s = .next t → s.Touches t [.health] [⟨11, 0, 0⟩]) ∧
  (exec (.calenderRun q) s = .next t → s.Touches t [.health] [⟨11, 1, 1⟩]) ∧
  (exec (.calenderApprove q) s = .next t → s.Touches t [.clock, .health] [⟨8, 8, 8⟩, ⟨11, 0, 1⟩]) ∧
  (∀ cmd ∈ ([.proofStart q v0 v1, .proofEnd q v0 v1, .proofStatus q v0 v1] : List Instr),
    exec cmd s = .next t → s.Touches t [.proof] [⟨13, 2, 2⟩])

/-- Carrier events and reads: everything outside buffers, counters and read effects stays. -/
def Obligations.CarrierAndReadAccessesTouchTheirBuffers : Prop :=
  ∀ (s t : State) (b : Bool) (l : List Byte) (n m k : Nat) (via : Via) (p : Fin 4) (v : Fin 32) (q : Req),
  (∀ cmd ∈ ([.spiCommandFrame b l, .netControlDatagram p n m k b l, .datagramReassemblyTimeout n] : List Instr),
    exec cmd s = .next t → s.Touches t [.carriers] [⟨0, 1, 1⟩]) ∧
  (exec (.uartLine b l) s = .next t → s.Touches t [.carriers, .draws, .inputs] [⟨0, 1, 1⟩]) ∧
  (exec .uartLineTimeout s = .next t → s.Touches t [] [⟨0, 1, 1⟩]) ∧
  (∀ cmd ∈ ([.spiReplyFetch n, .spiEventFetch n, .uartReplyLineSent] : List Instr),
    exec cmd s = .next t → s.Touches t [.carriers] []) ∧
  (∀ cmd ∈ ([.uartEventLine, .msixVectorUnmask v b, .logCommitTimer] : List Instr),
    exec cmd s = .next t → s.Touches t [] []) ∧
  (∀ cmd ∈ ([.regRead q, .snapshotRead via n, .timSnapRead via, .tsqEntryRemove via p, .pcieReadBurst b n m] : List Instr),
    exec cmd s = .next t → s.Touches t [.common, .snaps, .stamps, .time] [⟨0, 0, 0⟩, ⟨1, 4, 7⟩])

/-- PTP messages and timers: everything outside the domains, the timebase and the queues stays. -/
def Obligations.PtpMessagesAndTimersTouchTheirDomains : Prop :=
  ∀ (s t : State) (p : Fin 4) (d : Fin 2) (m f : PtpMsg) (raw : Tai) (a : Announce) (e : Int) (b : Bool),
  (∀ cmd ∈ ([.ptpSyncRx p m raw, .ptpFollowUpRx p m, .ptpDelayRespRx p m, .ptpPdelayRespRx p m f raw, .ptpAnnounceRx p m a,
      .announceReceiptTimeout d, .syncReceiptTimeout d, .followUpTimeout d, .delayResponseTimeout d,
      .preMasterQualificationTimeout d] : List Instr),
    exec cmd s = .next t → s.Touches t [.streams, .time] [⟨1, 0, 11⟩]) ∧
  (exec (.ptpDelayReqRx p m raw) s = .next t → s.Touches t [.streams] [⟨1, 0, 11⟩]) ∧
  (exec (.ptpMasterTxInterval d b) s = .next t → s.Touches t [.streams] []) ∧
  (exec (.ptpDelayReqTxInterval d raw) s = .next t → s.Touches t [.streams, .time] []) ∧
  (exec .leapDayEnd s = .next t → s.Touches t [] [⟨1, 0, 0⟩]) ∧
  (exec .todChange s = .next t → s.Touches t [.streams, .time] [⟨1, 0, 11⟩, ⟨14, 0, 0⟩]) ∧
  (exec (.asymTrackPeriod e) s = .next t → s.Touches t [.health] [⟨1, 0, 11⟩])

/-- Clock events: everything outside the clock part and the clock units stays. -/
def Obligations.ClockEventsTouchTheClockUnits : Prop :=
  ∀ (s t : State) (r : Fin 7) (w : Fin 2) (p : Fin 2) (n : Nat) (a b : Int) (ql : Ql),
  (∀ cmd ∈ ([.refQualify r, .refDwellExpiry r, .refClearExpiry r, .wckStopDetect w] : List Instr),
    exec cmd s = .next t → s.Touches t [.clock] [⟨2, 0, 15⟩]) ∧
  (exec (.wckRateRecognised w n) s = .next t → s.Touches t [.clock] [⟨2, 4 + w, 4 + w⟩]) ∧
  (exec .switchStart s = .next t → s.Touches t [.clock] [⟨2, 8, 8⟩]) ∧
  (exec (.buildOut a b) s = .next t → s.Touches t [.clock, .time] [⟨2, 0, 15⟩]) ∧
  (exec .settleStep s = .next t → s.Touches t [.clock] [⟨2, 8, 10⟩]) ∧
  (exec (.holdoverSecond a) s = .next t → s.Touches t [.clock] [⟨2, 9, 10⟩]) ∧
  (exec .alignAtS s = .next t → s.Touches t [.clock] [⟨1, 8, 11⟩, ⟨2, 11, 11⟩]) ∧
  (exec .mediaPllLock s = .next t → s.Touches t [.clock, .ports] [⟨1, 8, 11⟩, ⟨2, 9, 11⟩]) ∧
  (∀ cmd ∈ ([.esmcPduRx p ql, .esmcTimeout p] : List Instr),
    exec cmd s = .next t → s.Touches t [.clock] [])

/-- Port and stream events: everything outside the network part and its units stays. -/
def Obligations.PortEventsTouchTheirPorts : Prop :=
  ∀ (s t : State) (p : Fin 4) (h : Fin 2) (sp : Fin 4) (b c : Bool) (n : Nat) (l : List Byte) (k : Fin 64) (x y : Int) (f : FrameIn) (at_ : Tai) (u : List (Nat × Nat)) (qs : List Nat) (v : Fin 4) (tag : Option (Nat × Nat)) (g : Nat × Nat),
  (∀ cmd ∈ ([.linkUp p sp b c, .linkDown p, .speedStepDone h] : List Instr),
    exec cmd s = .next t → s.Touches t [.streams, .time] [⟨1, 1, 7⟩, ⟨3, 0, 3⟩]) ∧
  (exec (.ingressFrame p f) s = .next t → s.Touches t [.streams] [⟨3, 0, 4⟩]) ∧
  (∀ cmd ∈ ([.bestEffortFrameRx p n tag b at_ g, .lpiEnter p, .lpiExit p] : List Instr),
    exec cmd s = .next t → s.Touches t [] [⟨3, 0, 3⟩]) ∧
  (∀ cmd ∈ ([.pauseFrameRx p b n qs, .pauseExpiry p v, .announceRound, .utilisationSecond u, .stepDownDue h, .secondPortStep h,
      .stepTimeout h, .macUnderrun p] : List Instr),
    exec cmd s = .next t → s.Touches t [.streams] [⟨3, 0, 3⟩]) ∧
  (∀ cmd ∈ ([.egressFrameStart p at_, .hostTxDescriptor p l l at_] : List Instr),
    exec cmd s = .next t → s.Touches t [.stamps, .streams] [⟨1, 4, 7⟩, ⟨3, 0, 3⟩]) ∧
  (exec (.timedFrameLaunch p at_) s = .next t → s.Touches t [.stamps] [⟨1, 4, 7⟩, ⟨3, 0, 3⟩]) ∧
  (exec (.announcementRx p l) s = .next t → s.Touches t [.streams] [⟨4, 1, 1⟩]) ∧
  (exec (.peerAgeOut n) s = .next t → s.Touches t [.streams] []) ∧
  (exec (.fdEstimatorUpdate k x y) s = .next t → s.Touches t [.streams] [⟨4, 4, 4⟩]) ∧
  (exec .oldGroupLeave s = .next t → s.Touches t [.streams, .time] [⟨14, 0, 0⟩]) ∧
  (exec .txSwapAtTsw s = .next t → s.Touches t [.streams, .time] [⟨4, 1, 1⟩, ⟨14, 0, 0⟩])

/-- Local port events: everything but their own port, lane or channel stays. -/
def Obligations.LocalPortEventsTouchTheirPort : Prop :=
  ∀ (s t : State) (p : Fin 16) (f : TdmFrame) (c : Fin 16) (b : Bool) (i : Fin 32) (e : Fin 8) (m : Fin 2) (x : Fin 8) (k : Fin 4) (v : Int),
  (exec (.tdmFrameSync p f) s = .next t → s.Touches t [.draws, .ports] [⟨6, p, p⟩]) ∧
  (∀ cmd ∈ ([.tdmClockLost p c, .zcTimeout p b i] : List Instr),
    exec cmd s = .next t → s.Touches t [.ports] [⟨6, p, p⟩]) ∧
  (∀ cmd ∈ ([.pdmClockLost e, .pdmClockReturn e, .pdmStuck e m b, .pdmStuckClear e m] : List Instr),
    exec cmd s = .next t → s.Touches t [] [⟨7, e, e⟩]) ∧
  (exec (.pdmZcTimeout e m) s = .next t → s.Touches t [.ports] [⟨7, e, e⟩]) ∧
  (exec (.ampZcTimeout x) s = .next t → s.Touches t [.ports] [⟨8, x, x⟩]) ∧
  (∀ cmd ∈ ([.ampBackoffReset x, .cycleByCycleLimit x] : List Instr),
    exec cmd s = .next t → s.Touches t [.amps] [⟨8, x, x⟩]) ∧
  (∀ cmd ∈ ([.ampBootstrapDone x, .clkmuteResume x] : List Instr),
    exec cmd s = .next t → s.Touches t [.amps, .ports] []) ∧
  (exec (.clkmuteGatesOff x) s = .next t → s.Touches t [.amps] []) ∧
  (exec (.fetTemperatureWarning k v) s = .next t → s.Touches t [] [⟨8, 8, 8⟩])

/-- Memory, health, pair and power events: everything outside their own unit stays. -/
def Obligations.MemoryHealthPairAndPowerEventsTouchTheirUnits : Prop :=
  ∀ (s t : State) (c : Fin 8) (m : Fin 3) (b : Bool) (n k j : Nat) (l : List Int) (v w : Int) (ns : List Nat) (x : ShareIn) (by_ : List Byte) (e : Fin 512) (r : Fin 3) (st : StepTwo),
  (exec (.dramMr4Change c m b) s = .next t → s.Touches t [] [⟨9, 0, 0⟩]) ∧
  (exec .retrainDue s = .next t → s.Touches t [.memory] []) ∧
  (∀ cmd ∈ ([.scrubPassEnd n, .bwSecond n k j] : List Instr),
    exec cmd s = .next t → s.Touches t [] [⟨9, 1, 1⟩]) ∧
  (exec .ddrPhyUnlock s = .next t → s.Touches t [] [⟨9, 0, 1⟩]) ∧
  (exec .ddrPhyLock s = .next t → s.Touches t [.memory] [⟨9, 0, 0⟩]) ∧
  (∀ cmd ∈ ([.ringOscSample l, .replicaSample v n b, .dieTempSample l, .nvmRefreshEnd n] : List Instr),
    exec cmd s = .next t → s.Touches t [.health] [⟨11, 0, 1⟩]) ∧
  (exec .nvmRefreshDue s = .next t → s.Touches t [.health] []) ∧
  (exec .calenderPeriodic s = .next t → s.Touches t [.health] [⟨11, 1, 1⟩]) ∧
  (exec (.serdesEyeSample ns) s = .next t → s.Touches t [.health] [⟨10, 0, 0⟩, ⟨11, 1, 1⟩]) ∧
  (∀ cmd ∈ ([.heartbeatTx, .healthReportTx, .xo32FailTimeout] : List Instr),
    exec cmd s = .next t → s.Touches t [] []) ∧
  (exec (.lockstepShareRx x) s = .next t → s.Touches t [.pair] []) ∧
  (exec (.healthReportRx by_) s = .next t → s.Touches t [.pair] [⟨10, 0, 0⟩]) ∧
  (exec (.repairRequestRx e ns n) s = .next t → s.Touches t [] [⟨10, 0, 0⟩]) ∧
  (exec .pairTakeRelease s = .next t → s.Touches t [.inputs] [⟨10, 1, 1⟩]) ∧
  (exec .cloneTimeout s = .next t → s.Touches t [.carriers, .pair] [⟨10, 1, 1⟩]) ∧
  (exec .pairLaneLockLoss s = .next t → s.Touches t [.carriers, .pair, .streams] [⟨10, 0, 1⟩]) ∧
  (∀ cmd ∈ ([.xo32Switch, .xo32CrystalStop] : List Instr),
    exec cmd s = .next t → s.Touches t [] [⟨14, 0, 0⟩]) ∧
  (exec (.supplySample ns) s = .next t → s.Touches t [] [⟨14, 2, 2⟩]) ∧
  (exec (.supplyRecheck st) s = .next t → s.Touches t [.inputs, .power] [⟨2, 9, 9⟩, ⟨14, 2, 2⟩]) ∧
  (exec .perstNRise s = .next t → s.Touches t [] [⟨13, 0, 0⟩]) ∧
  (∀ cmd ∈ ([.proofHoldExpiry r, .proofComplete b v w] : List Instr),
    exec cmd s = .next t → s.Touches t [.proof] [⟨13, 2, 2⟩])
end

