-- ==== Sys2Proof/Laws/Exec.lean ====
section
/-!
SUPPORT. Laws/Exec.lean: every command is a happening: an effect on the state, and what settles at its end.
-/

namespace Sys2Proof.Machine

/-- Every command's meaning is a happening with one effect. -/
theorem exec_happens : ∀ c : Instr, ∃ body : State → State, ∀ s, exec c s = happen body s
  | .store q => ⟨(serveOp 0x0010 opStore q), fun _ => rfl⟩
  | .recall q => ⟨(serveOp 0x0011 opRecall q), fun _ => rfl⟩
  | .factoryRecall q => ⟨(serveOp 0x0012 opFactoryRecall q), fun _ => rfl⟩
  | .logRead q => ⟨(serveOp 0x0020 opLogRead q), fun _ => rfl⟩
  | .logFlush q => ⟨(serveOp 0x0021 opLogFlush q), fun _ => rfl⟩
  | .regRead q => ⟨(serveOp 0x0030 opRegRead q), fun _ => rfl⟩
  | .regWrite q => ⟨(serveOp 0x0031 opRegWrite q), fun _ => rfl⟩
  | .selftest q => ⟨(serveOp 0x0040 opSelftest q), fun _ => rfl⟩
  | .fwBlock q => ⟨(serveOp 0x0050 opFwBlock q), fun _ => rfl⟩
  | .fwCommit q => ⟨(serveOp 0x0051 opFwCommit q), fun _ => rfl⟩
  | .info q => ⟨(serveOp 0x0060 opInfo q), fun _ => rfl⟩
  | .sessionSet q => ⟨(serveOp 0x0002 (onUnits (fun b u => b == 0 && u == 1) opSessionSet) q), fun _ => rfl⟩
  | .objGet sub q => ⟨(serveOp (sub % 256 * 256 + 1) (opObjGet sub) q), fun _ => rfl⟩
  | .objSet sub q => ⟨(serveOp (sub % 256 * 256 + 2) (opObjSet sub) q), fun _ => rfl⟩
  | .objEnable sub q => ⟨(serveOp (sub % 256 * 256 + 3) (opObjEnable sub) q), fun _ => rfl⟩
  | .objDisable sub q => ⟨(serveOp (sub % 256 * 256 + 4) (opObjDisable sub) q), fun _ => rfl⟩
  | .objStatus sub q => ⟨(serveOp (sub % 256 * 256 + 5) (opObjStatus sub) q), fun _ => rfl⟩
  | .netPortSet q => ⟨(serveOp 0x0302 (onUnits (fun b u => b == 3 && decide (u < 4)) (wholeUnit opNetPortSet)) q), fun _ => rfl⟩
  | .rxEntrySet q => ⟨(serveOp 0x0402 (onUnits (fun b u => b == 4 && u == 0) opRxSet) q), fun _ => rfl⟩
  | .rxEntryEnable q => ⟨(serveOp 0x0403 (onUnits (fun b u => b == 4 && u == 0) opRxEnable) q), fun _ => rfl⟩
  | .rxEntryDisable q => ⟨(serveOp 0x0404 (onUnits (fun b u => b == 4 && u == 0) opRxDisable) q), fun _ => rfl⟩
  | .txEntrySet q => ⟨(serveOp 0x0402 (onUnits (fun b u => b == 4 && u == 1) opTxSet) q), fun _ => rfl⟩
  | .txEntryEnable q => ⟨(serveOp 0x0403 (onUnits (fun b u => b == 4 && u == 1) opTxEnable) q), fun _ => rfl⟩
  | .txEntryDisable q => ⟨(serveOp 0x0404 (onUnits (fun b u => b == 4 && u == 1) opTxDisable) q), fun _ => rfl⟩
  | .graphHeaderSet q => ⟨(serveOp 0x0502 (onUnits (fun b u => b == 5 && u == 64) opGraphSet) q), fun _ => rfl⟩
  | .graphEnable q => ⟨(serveOp 0x0503 (onUnits (fun b u => b == 5 && u == 64) opGraphEnable) q), fun _ => rfl⟩
  | .graphDisable q => ⟨(serveOp 0x0504 (onUnits (fun b u => b == 5 && u == 64) opGraphDisable) q), fun _ => rfl⟩
  | .tdmDisable q => ⟨(serveOp 0x0604 (onUnits (fun b u => b == 6 && decide (u < 16)) (opUnitDisable 6)) q), fun _ => rfl⟩
  | .tdmStatus q => ⟨(serveOp 0x0605 (onUnits (fun b u => b == 6 && decide (u < 16)) (wholeUnit opTdmStatus)) q), fun _ => rfl⟩
  | .ampDisable q => ⟨(serveOp 0x0804 (onUnits (fun b u => b == 8 && decide (u < 8)) (opUnitDisable 8)) q), fun _ => rfl⟩
  | .ampStatus q => ⟨(serveOp 0x0805 (onUnits (fun b u => b == 8 && decide (u < 8)) (wholeUnit opAmpStatus)) q), fun _ => rfl⟩
  | .tsqRead q => ⟨(serveOp 0x0112 opTsqRead q), fun _ => rfl⟩
  | .trgArm q => ⟨(serveOp 0x0110 opTrgArm q), fun _ => rfl⟩
  | .trgDisarm q => ⟨(serveOp 0x0111 opTrgDisarm q), fun _ => rfl⟩
  | .align q => ⟨(serveOp 0x0210 opAlign q), fun _ => rfl⟩
  | .mdioRead q answer => ⟨(serveOp 0x0310 (fun q s => if q.params.length = 8 && q.field 1 1 % 2 = 1 then .bad 17 else opMdio answer q s) q), fun _ => rfl⟩
  | .mdioWrite q => ⟨(serveOp 0x0310 (fun q s => if q.params.length = 8 && q.field 1 1 % 2 = 0 then .bad 17 else opMdio none q s) q), fun _ => rfl⟩
  | .rxSwap q => ⟨(serveOp 0x0410 opRxSwap q), fun _ => rfl⟩
  | .dirRead q => ⟨(serveOp 0x0420 opDirRead q), fun _ => rfl⟩
  | .dirStream q => ⟨(serveOp 0x0422 opDirStream q), fun _ => rfl⟩
  | .sdpImport q => ⟨(serveOp 0x0421 opSdpImport q), fun _ => rfl⟩
  | .dirImport q => ⟨(serveOp 0x0423 opDirImport q), fun _ => rfl⟩
  | .txSwap q => ⟨(serveOp 0x0411 opTxSwap q), fun _ => rfl⟩
  | .sdpExport q => ⟨(serveOp 0x0424 opSdpExport q), fun _ => rfl⟩
  | .graphSched q => ⟨(serveOp 0x0512 opGraphSched q), fun _ => rfl⟩
  | .graphLoad q => ⟨(serveOp 0x0520 opGraphLoad q), fun _ => rfl⟩
  | .graphRead q => ⟨(serveOp 0x0521 opGraphRead q), fun _ => rfl⟩
  | .graphParam q => ⟨(serveOp 0x0522 opGraphParam q), fun _ => rfl⟩
  | .meterRead q => ⟨(serveOp 0x0524 opMeterRead q), fun _ => rfl⟩
  | .graphSwap q => ⟨(serveOp 0x0523 opGraphSwap q), fun _ => rfl⟩
  | .memRetrain q => ⟨(serveOp 0x0910 opMemRetrain q), fun _ => rfl⟩
  | .diagOffline q => ⟨(serveOp 0x0810 opDiagOffline q), fun _ => rfl⟩
  | .diagLive q => ⟨(serveOp 0x0811 opDiagLive q), fun _ => rfl⟩
  | .diagRead q => ⟨(serveOp 0x0812 opDiagRead q), fun _ => rfl⟩
  | .plateStore q verify => ⟨(serveOp 0x0813 (fun q s => if q.params.length = 8 && bitOf (q.field 5 1) 0 then .bad 21 else opPlate verify q s) q), fun _ => rfl⟩
  | .plateClear q verify => ⟨(serveOp 0x0813 (fun q s => if q.params.length = 8 && !bitOf (q.field 5 1) 0 then .bad 21 else opPlate verify q s) q), fun _ => rfl⟩
  | .pairTakeover q => ⟨(serveOp 0x0A10 opPairTakeover q), fun _ => rfl⟩
  | .pairHealth q => ⟨(serveOp 0x0A11 opPairHealth q), fun _ => rfl⟩
  | .ledgerRead q => ⟨(serveOp 0x0B20 opLedgerRead q), fun _ => rfl⟩
  | .baselineReset q => ⟨(serveOp 0x0B12 opBaselineReset q), fun _ => rfl⟩
  | .calenderRun q => ⟨(serveOp 0x0B10 opCalRun q), fun _ => rfl⟩
  | .calenderApprove q => ⟨(serveOp 0x0B11 opCalApprove q), fun _ => rfl⟩
  | .pwrState q => ⟨(serveOp 0x0E10 opPwrState q), fun _ => rfl⟩
  | .reset q => ⟨(serveOp 0x0E12 opReset q), fun _ => rfl⟩
  | .proofStart q v0 v1 => ⟨(serveOp 0x0D10 (fun q s => if q.params.length = 16 && q.field 6 1 != 0 then .bad 22 else opProof v0 v1 q s) q), fun _ => rfl⟩
  | .proofEnd q v0 v1 => ⟨(serveOp 0x0D10 (fun q s => if q.params.length = 16 && q.field 6 1 != 1 then .bad 22 else opProof v0 v1 q s) q), fun _ => rfl⟩
  | .proofStatus q v0 v1 => ⟨(serveOp 0x0D10 (fun q s => if q.params.length = 16 && q.field 6 1 != 2 then .bad 22 else opProof v0 v1 q s) q), fun _ => rfl⟩
  | .mailboxDoorbell via data => ⟨(fun s => s.whenReached (hostWrite via 0x00022004 data.toNat)), fun _ => rfl⟩
  | .mailboxReplyRelease via data => ⟨(fun s => s.whenReached (hostWrite via 0x00022008 data.toNat)), fun _ => rfl⟩
  | .spiCommandFrame secLow bytes => ⟨(fun s => s.whenReached (spiCommand secLow bytes)), fun _ => rfl⟩
  | .spiReplyFetch clocked => ⟨(fun s => s.whenReached (Sys2Proof.Machine.spiReplyFetch clocked)), fun _ => rfl⟩
  | .spiEventFetch clocked => ⟨(fun s => s.whenReached (Sys2Proof.Machine.spiEventFetch clocked)), fun _ => rfl⟩
  | .spiRegisterWrite secLow bytes => ⟨(fun s => s.whenReached (spiWriteFrame secLow bytes)), fun _ => rfl⟩
  | .netControlDatagram port src sport off more bytes => ⟨(fun s => s.whenPort port (netDatagram port src sport off more bytes)), fun _ => rfl⟩
  | .datagramReassemblyTimeout src => ⟨(fun s => s.whenReached (reassemblyTimeout src)), fun _ => rfl⟩
  | .uartLine svcEn line => ⟨(fun s => s.whenReached ((fun s => Sys2Proof.Machine.uartLine line { s with pins := { s.pins with svcEn := svcEn } }))), fun _ => rfl⟩
  | .uartLineTimeout => ⟨(fun s => s.whenReached ((fun s => s.discard .uart))), fun _ => rfl⟩
  | .interpreterServe svcEn o => ⟨(Sys2Proof.Machine.interpreterServe svcEn o), fun _ => rfl⟩
  | .longOpEnd r => ⟨(fun s => s.whenAlive (Sys2Proof.Machine.longOpEnd r)), fun _ => rfl⟩
  | .uartEventLine => ⟨(fun s => s.whenReached (uartEvent)), fun _ => rfl⟩
  | .regWriteGeneric via addr be data => ⟨(fun s => s.whenReached (plainWrite via addr be data.toNat)), fun _ => rfl⟩
  | .pcieWriteBurst bar4 addr data => ⟨(fun s => s.whenReached (writeBurst bar4 addr (data.map BitVec.toNat))), fun _ => rfl⟩
  | .pcieReadBurst bar4 addr count => ⟨(fun s => s.whenReached (readBurst bar4 addr count)), fun _ => rfl⟩
  | .multiwordLowerWrite via addr data => ⟨(fun s => s.whenReached (hostWrite via addr data.toNat)), fun _ => rfl⟩
  | .multiwordCommit via addr data shadowBad => ⟨(fun s => s.whenReached (commitWrite via addr data.toNat shadowBad)), fun _ => rfl⟩
  | .snapshotRead via addr => ⟨(fun s => s.whenReached (hostRead via addr)), fun _ => rfl⟩
  | .timSnapRead via => ⟨(fun s => s.whenReached (hostRead via 0x00400040)), fun _ => rfl⟩
  | .tsqEntryRemove via port => ⟨(fun s => s.whenReached (hostRead via (F.TSU_ENT_4_SEC_HI port).addr)), fun _ => rfl⟩
  | .parityClr via => ⟨(fun s => s.whenReached (hostWrite via 0x2C (maskData 1 1))), fun _ => rfl⟩
  | .busErrClr via => ⟨(fun s => s.whenReached (hostWrite via 0x2C (maskData 2 2))), fun _ => rfl⟩
  | .stickyClear via addr data => ⟨(fun s => s.whenReached (hostWrite via addr data.toNat)), fun _ => rfl⟩
  | .unitEnSet via addr data => ⟨(fun s => s.whenReached (hostWrite via addr data.toNat)), fun _ => rfl⟩
  | .unitEnClear via addr data => ⟨(fun s => s.whenReached (hostWrite via addr data.toNat)), fun _ => rfl⟩
  | .bankSwapRequest via addr => ⟨(fun s => s.whenReached (swapWrite via addr)), fun _ => rfl⟩
  | .rxSwapRequest via => ⟨(fun s => s.whenReached (hostWrite via F.RXT_CTL_SWAP.addr (maskData 2 2))), fun _ => rfl⟩
  | .txSwapRequest via => ⟨(fun s => s.whenReached (hostWrite via F.TXT_CTL_SWAP.addr (maskData 2 2))), fun _ => rfl⟩
  | .grtSwapRequest via => ⟨(fun s => s.whenReached (hostWrite via F.GRT_CTL_SWAP.addr (maskData 1 1))), fun _ => rfl⟩
  | .tdmSwapRequest via port => ⟨(fun s => s.whenReached (hostWrite via (F.TDM_CTL_SWAP port).addr (maskData 0x2000 0x2000))), fun _ => rfl⟩
  | .tbLoadCommit via data => ⟨(fun s => s.whenReached (hostWrite via (F.TB_LOAD 6).addr data.toNat)), fun _ => rfl⟩
  | .steerCommit via data => ⟨(fun s => s.whenReached (hostWrite via F.LOOP_STEER_HI.addr data.toNat)), fun _ => rfl⟩
  | .trgArmReg via k => ⟨(fun s => s.whenReached (hostWrite via (F.TRG_ARM k).addr (maskData 1 1))), fun _ => rfl⟩
  | .trgDisarmReg via k => ⟨(fun s => s.whenReached (hostWrite via (F.TRG_ARM k).addr (maskData 2 2))), fun _ => rfl⟩
  | .asymClr via => ⟨(fun s => s.whenReached (hostWrite via F.TB_CTL_ASYM_CLR.addr (maskData 0x0800 0x0800))), fun _ => rfl⟩
  | .calRunRequest via => ⟨(fun s => s.whenReached (hostWrite via F.CAL_CTL_RUN.addr (maskData 2 2))), fun _ => rfl⟩
  | .calApproveWrite via mask => ⟨(fun s => s.whenReached (hostWrite via F.CAL_APPROVE.addr (maskData 0x7F (mask % 128)))), fun _ => rfl⟩
  | .manualSet via => ⟨(fun s => s.whenReached (hostWrite via F.LOOP_MAN_MANUAL.addr (maskData 1 1))), fun _ => rfl⟩
  | .manualClear via => ⟨(fun s => s.whenReached (hostWrite via F.LOOP_MAN_MANUAL.addr (maskData 1 0))), fun _ => rfl⟩
  | .hoModeWrite via mode => ⟨(fun s => s.whenReached (hostWrite via F.HOLD_CTL_HO_MODE.addr (maskData 6 (mode % 4 * 2)))), fun _ => rfl⟩
  | .burinEnClear via n => ⟨(fun s => s.whenReached (hostWrite via (F.BUR_CTL_EN n).addr (maskData 1 0))), fun _ => rfl⟩
  | .burinEnSet via n => ⟨(fun s => s.whenReached (hostWrite via (F.BUR_CTL_EN n).addr (maskData 1 1))), fun _ => rfl⟩
  | .hostRingProd via r prod => ⟨(fun s => s.whenReached (hostWrite via (F.RING_PROD r).addr (maskData 0xFFFF (prod % 65536)))), fun _ => rfl⟩
  | .txrProdWrite via port prod => ⟨(fun s => s.whenReached (hostWrite via (F.MAC_TXR_PROD port).addr (maskData 0xFFFF (prod % 65536)))), fun _ => rfl⟩
  | .rxrProdWrite via port prod => ⟨(fun s => s.whenReached (hostWrite via (F.MAC_RXR_PROD port).addr (maskData 0xFFFF (prod % 65536)))), fun _ => rfl⟩
  | .msixVectorUnmask v on => ⟨(fun s => s.whenReached (msixUnmask v on)), fun _ => rfl⟩
  | .xdomFallback via addr write => ⟨(fun s => s.whenReached (fallback via addr (write.map BitVec.toNat))), fun _ => rfl⟩
  | .parityScrub hits => ⟨(fun s => s.whenAlive (Sys2Proof.Machine.parityScrub hits)), fun _ => rfl⟩
  | .logCommitTimer => ⟨(fun s => s.whenAlive (Sys2Proof.Machine.logCommitTimer)), fun _ => rfl⟩
  | .logPageVerified ok => ⟨(fun s => s.whenAlive (Sys2Proof.Machine.logPageVerified ok)), fun _ => rfl⟩
  | .logCommitEnd => ⟨(fun s => s.whenAlive (Sys2Proof.Machine.logCommitEnd)), fun _ => rfl⟩
  | .pfwNFall => ⟨(fun s => s.whenAlive (Sys2Proof.Machine.pfwNFall)), fun _ => rfl⟩
  | .powerFailCommitEnd => ⟨(fun s => if s.alive || s.pwr.boot = 4 then Sys2Proof.Machine.powerFailCommitEnd s else s), fun _ => rfl⟩
  | .pfwNRise ms => ⟨(Sys2Proof.Machine.pfwNRise ms), fun _ => rfl⟩
  | .tickBoundary inp => ⟨(fun s => s.whenAlive (Sys2Proof.Machine.tickBoundary inp)), fun _ => rfl⟩
  | .timeStep => ⟨(fun s => s.whenAlive (State.stepNow)), fun _ => rfl⟩
  | .todChange => ⟨(fun s => s.whenAlive (fun s => ((Sys2Proof.Machine.todChange) s).ptpSettle)), fun _ => rfl⟩
  | .ptpSyncRx port m raw => ⟨(fun s => s.whenPort port (fun s => ((Sys2Proof.Machine.ptpSyncRx port m raw) s).ptpSettle)), fun _ => rfl⟩
  | .ptpFollowUpRx port m => ⟨(fun s => s.whenPort port (fun s => ((Sys2Proof.Machine.ptpFollowUpRx port m) s).ptpSettle)), fun _ => rfl⟩
  | .ptpDelayRespRx port m => ⟨(fun s => s.whenPort port (fun s => ((Sys2Proof.Machine.ptpDelayRespRx port m) s).ptpSettle)), fun _ => rfl⟩
  | .ptpPdelayRespRx port m fu raw => ⟨(fun s => s.whenPort port (fun s => ((Sys2Proof.Machine.ptpPdelayRespRx port m fu raw) s).ptpSettle)), fun _ => rfl⟩
  | .ptpAnnounceRx port m a => ⟨(fun s => s.whenPort port (fun s => ((Sys2Proof.Machine.ptpAnnounceRx port m a) s).ptpSettle)), fun _ => rfl⟩
  | .ptpDelayReqRx port m raw => ⟨(fun s => s.whenPort port (fun s => ((Sys2Proof.Machine.ptpDelayReqRx port m raw) s).ptpSettle)), fun _ => rfl⟩
  | .ptpMasterTxInterval d announce => ⟨(fun s => s.whenAlive (fun s => ((ptpMasterTx d announce) s).ptpSettle)), fun _ => rfl⟩
  | .ptpDelayReqTxInterval d raw => ⟨(fun s => s.whenAlive (fun s => ((ptpDelayReqTx d raw) s).ptpSettle)), fun _ => rfl⟩
  | .announceReceiptTimeout d => ⟨(fun s => s.whenAlive (fun s => ((announceTimeout d) s).ptpSettle)), fun _ => rfl⟩
  | .syncReceiptTimeout d => ⟨(fun s => s.whenAlive (fun s => ((syncTimeout d) s).ptpSettle)), fun _ => rfl⟩
  | .followUpTimeout d => ⟨(fun s => s.whenAlive (fun s => ((Sys2Proof.Machine.followUpTimeout d) s).ptpSettle)), fun _ => rfl⟩
  | .delayResponseTimeout d => ⟨(fun s => s.whenAlive (fun s => ((delayTimeout d) s).ptpSettle)), fun _ => rfl⟩
  | .leapDayEnd => ⟨(fun s => s.whenAlive (Sys2Proof.Machine.leapDayEnd)), fun _ => rfl⟩
  | .asymTrackPeriod est => ⟨(fun s => s.whenAlive (asymPeriod est)), fun _ => rfl⟩
  | .timedFrameLaunch port at_ => ⟨(fun s => s.whenPort port (timedLaunch port at_)), fun _ => rfl⟩
  | .triggerFire k at_ => ⟨(fun s => s.whenAlive (Sys2Proof.Machine.triggerFire k at_)), fun _ => rfl⟩
  | .ccGridPoint n => ⟨(fun s => s.whenAlive (Sys2Proof.Machine.ccGridPoint n)), fun _ => rfl⟩
  | .refTick inp => ⟨(fun s => s.whenAlive (msTick inp)), fun _ => rfl⟩
  | .refQualify n => ⟨(fun s => s.whenAlive (Sys2Proof.Machine.refQualify n)), fun _ => rfl⟩
  | .refDwellExpiry n => ⟨(fun s => s.whenAlive (Sys2Proof.Machine.refDwellExpiry n)), fun _ => rfl⟩
  | .refClearExpiry n => ⟨(fun s => s.whenAlive (Sys2Proof.Machine.refClearExpiry n)), fun _ => rfl⟩
  | .wckStopDetect n => ⟨(fun s => s.whenAlive (wckStop (4 + n))), fun _ => rfl⟩
  | .wckRateRecognised n meas => ⟨(fun s => s.whenAlive (wckRecognised (4 + n) meas)), fun _ => rfl⟩
  | .switchStart => ⟨(fun s => s.whenAlive (Sys2Proof.Machine.switchStart)), fun _ => rfl⟩
  | .buildOut drift resid => ⟨(fun s => s.whenAlive (Sys2Proof.Machine.buildOut drift resid)), fun _ => rfl⟩
  | .settleStep => ⟨(fun s => s.whenAlive (Sys2Proof.Machine.settleStep)), fun _ => rfl⟩
  | .holdoverSecond avg => ⟨(fun s => s.whenAlive (Sys2Proof.Machine.holdoverSecond avg)), fun _ => rfl⟩
  | .mediaPllUnlock => ⟨(fun s => s.whenAlive (pllLost)), fun _ => rfl⟩
  | .mediaPllLock => ⟨(fun s => s.whenAlive (pllBack)), fun _ => rfl⟩
  | .alignAtS => ⟨(fun s => s.whenAlive (Sys2Proof.Machine.alignAtS)), fun _ => rfl⟩
  | .linkUp port speed eee refused => ⟨(fun s => s.whenPort port (Sys2Proof.Machine.linkUp port speed eee refused)), fun _ => rfl⟩
  | .linkDown port => ⟨(fun s => s.whenPort port (Sys2Proof.Machine.linkDown port)), fun _ => rfl⟩
  | .ingressFrame port f => ⟨(fun s => s.whenPort port (Sys2Proof.Machine.ingressFrame port f)), fun _ => rfl⟩
  | .mediaPacketRx path p at_ => ⟨(fun s => if path.val < 4 then s.whenPort path (Sys2Proof.Machine.mediaPacketRx path p at_) else s.whenAlive (Sys2Proof.Machine.mediaPacketRx path p at_)), fun _ => rfl⟩
  | .bestEffortFrameRx port len tag ptp at_ buf => ⟨(fun s => s.whenPort port (bestEffortRx port len tag ptp at_ buf)), fun _ => rfl⟩
  | .pauseFrameRx port pfc en quanta => ⟨(fun s => s.whenPort port (pauseRx port pfc en quanta)), fun _ => rfl⟩
  | .pauseExpiry port queue => ⟨(fun s => s.whenPort port (Sys2Proof.Machine.pauseExpiry port queue)), fun _ => rfl⟩
  | .esmcPduRx port ql => ⟨(fun s => s.whenAlive (esmcLevel port ql.level)), fun _ => rfl⟩
  | .esmcTimeout port => ⟨(fun s => s.whenAlive (esmcLevel port 15)), fun _ => rfl⟩
  | .announcementRx port data => ⟨(fun s => s.whenPort port (Sys2Proof.Machine.announcementRx port data)), fun _ => rfl⟩
  | .peerAgeOut dev => ⟨(fun s => s.whenAlive (Sys2Proof.Machine.peerAgeOut dev)), fun _ => rfl⟩
  | .announceRound => ⟨(fun s => s.whenAlive (Sys2Proof.Machine.announceRound)), fun _ => rfl⟩
  | .egressFrameStart port at_ => ⟨(fun s => s.whenPort port (egressStart port at_)), fun _ => rfl⟩
  | .macUnderrun port => ⟨(fun s => s.whenPort port (Sys2Proof.Machine.macUnderrun port)), fun _ => rfl⟩
  | .hostTxDescriptor port desc frame at_ => ⟨(fun s => s.whenPort port (Sys2Proof.Machine.hostTxDescriptor port desc frame at_)), fun _ => rfl⟩
  | .utilisationSecond meas => ⟨(fun s => s.whenAlive (utilSecond meas)), fun _ => rfl⟩
  | .stepDownDue port => ⟨(fun s => s.whenPort port (Sys2Proof.Machine.stepDownDue port)), fun _ => rfl⟩
  | .secondPortStep port => ⟨(fun s => s.whenPort port (Sys2Proof.Machine.secondPortStep port)), fun _ => rfl⟩
  | .speedStepDone port => ⟨(fun s => s.whenPort port (Sys2Proof.Machine.speedStepDone port)), fun _ => rfl⟩
  | .stepTimeout port => ⟨(fun s => s.whenPort port (Sys2Proof.Machine.stepTimeout port)), fun _ => rfl⟩
  | .pendingStreamTimeout tx e => ⟨(fun s => s.whenAlive (pendingTimeout tx e)), fun _ => rfl⟩
  | .lpiEnter port => ⟨(fun s => s.whenPort port (Sys2Proof.Machine.lpiEnter port)), fun _ => rfl⟩
  | .lpiExit port => ⟨(fun s => s.whenPort port (Sys2Proof.Machine.lpiExit port)), fun _ => rfl⟩
  | .fdEstimatorUpdate k adj ratio => ⟨(fun s => s.whenAlive (fdUpdate k adj ratio)), fun _ => rfl⟩
  | .rxSwapAtTsw => ⟨(fun s => s.whenAlive (rxSwapAt)), fun _ => rfl⟩
  | .oldGroupLeave => ⟨(fun s => s.whenAlive (Sys2Proof.Machine.oldGroupLeave)), fun _ => rfl⟩
  | .txSwapAtTsw => ⟨(fun s => s.whenAlive (txSwapAt)), fun _ => rfl⟩
  | .graphSwapAtTsw => ⟨(fun s => s.whenAlive (graphSwapAt)), fun _ => rfl⟩
  | .graphParamApply => ⟨(fun s => s.whenAlive (Sys2Proof.Machine.graphParamApply)), fun _ => rfl⟩
  | .sheetComplete b c => ⟨(fun s => s.whenAlive (Sys2Proof.Machine.sheetComplete b c)), fun _ => rfl⟩
  | .backingSliceEnd b c pct => ⟨(fun s => s.whenAlive (Sys2Proof.Machine.backingSliceEnd b c pct)), fun _ => rfl⟩
  | .burinIdleRetry b c => ⟨(fun s => s.whenAlive (Sys2Proof.Machine.burinIdleRetry b c)), fun _ => rfl⟩
  | .sheetDeadline => ⟨(fun s => s.whenAlive (Sys2Proof.Machine.sheetDeadline)), fun _ => rfl⟩
  | .burinSelftestDue fail => ⟨(fun s => s.whenAlive (Sys2Proof.Machine.burinSelftestDue fail)), fun _ => rfl⟩
  | .dramMr4Change code mult derate => ⟨(fun s => s.whenAlive (dramMr4 code mult derate)), fun _ => rfl⟩
  | .retrainDue => ⟨(fun s => s.whenAlive (Sys2Proof.Machine.retrainDue)), fun _ => rfl⟩
  | .retrainPassEnd margins widens => ⟨(fun s => s.whenAlive (retrainEnd margins widens)), fun _ => rfl⟩
  | .scrubPassEnd bad => ⟨(fun s => s.whenAlive (scrubEnd bad)), fun _ => rfl⟩
  | .ddrPhyUnlock => ⟨(fun s => s.whenAlive (ddrUnlock)), fun _ => rfl⟩
  | .ddrPhyLock => ⟨(fun s => s.whenAlive ((fun s => if s.powerSt = 3 then ddrLock s else s))), fun _ => rfl⟩
  | .bwSecond avg p99 peak => ⟨(fun s => s.whenAlive (Sys2Proof.Machine.bwSecond avg p99 peak)), fun _ => rfl⟩
  | .tdmFrameSync port f => ⟨(fun s => s.whenAlive (Sys2Proof.Machine.tdmFrameSync port f)), fun _ => rfl⟩
  | .tdmClockLost port cause => ⟨(fun s => s.whenAlive (Sys2Proof.Machine.tdmClockLost port cause)), fun _ => rfl⟩
  | .zcTimeout port out idx => ⟨(fun s => s.whenAlive (Sys2Proof.Machine.zcTimeout port (b2n out) idx)), fun _ => rfl⟩
  | .pdmClockLost lane => ⟨(fun s => s.whenAlive ((fun s => s.pdmLoss lane 0))), fun _ => rfl⟩
  | .pdmStuck lane mic level => ⟨(fun s => s.whenAlive (Sys2Proof.Machine.pdmStuck lane mic level)), fun _ => rfl⟩
  | .pdmZcTimeout lane mic => ⟨(fun s => s.whenAlive (Sys2Proof.Machine.pdmZcTimeout lane mic)), fun _ => rfl⟩
  | .ampTrip x t => ⟨(fun s => s.whenAlive (tripNow x t)), fun _ => rfl⟩
  | .ampBootstrapDone x => ⟨(fun s => s.whenAlive (Sys2Proof.Machine.ampBootstrapDone x)), fun _ => rfl⟩
  | .ampStopDone x => ⟨(fun s => s.whenAlive (Sys2Proof.Machine.ampStopDone x)), fun _ => rfl⟩
  | .ampZcTimeout x => ⟨(fun s => s.whenAlive (Sys2Proof.Machine.ampZcTimeout x)), fun _ => rfl⟩
  | .ampRetry x => ⟨(fun s => s.whenAlive (Sys2Proof.Machine.ampRetry x)), fun _ => rfl⟩
  | .ampProbeEnd x r near acted => ⟨(fun s => s.whenAlive (Sys2Proof.Machine.ampProbeEnd x r near acted)), fun _ => rfl⟩
  | .ampBackoffReset x => ⟨(fun s => s.whenAlive (Sys2Proof.Machine.ampBackoffReset x)), fun _ => rfl⟩
  | .ampHoldStart c v hi => ⟨(fun s => s.whenAlive (Sys2Proof.Machine.ampHoldStart c v hi)), fun _ => rfl⟩
  | .ampHoldClear c v => ⟨(fun s => s.whenAlive (Sys2Proof.Machine.ampHoldClear c v)), fun _ => rfl⟩
  | .clkmuteGatesOff x => ⟨(fun s => s.whenAlive (Sys2Proof.Machine.clkmuteGatesOff x)), fun _ => rfl⟩
  | .clkmuteResume x => ⟨(fun s => s.whenAlive (Sys2Proof.Machine.clkmuteResume x)), fun _ => rfl⟩
  | .ampCalPassEnd x off gain => ⟨(fun s => s.whenAlive (ampCalEnd x off gain)), fun _ => rfl⟩
  | .diagOfflineEnd r => ⟨(fun s => s.whenAlive (Sys2Proof.Machine.diagOfflineEnd r)), fun _ => rfl⟩
  | .liveTestDue x => ⟨(fun s => s.whenAlive (Sys2Proof.Machine.liveTestDue x)), fun _ => rfl⟩
  | .liveWindowEnd x counted z arg rdc => ⟨(fun s => s.whenAlive (Sys2Proof.Machine.liveWindowEnd x counted z arg rdc)), fun _ => rfl⟩
  | .liveDeferTimeout x rdc => ⟨(fun s => s.whenAlive (Sys2Proof.Machine.liveDeferTimeout x rdc)), fun _ => rfl⟩
  | .heartbeatRx h => ⟨(fun s => s.whenAlive (Sys2Proof.Machine.heartbeatRx h)), fun _ => rfl⟩
  | .heartbeatTx => ⟨(fun s => s.whenAlive (Sys2Proof.Machine.heartbeatTx)), fun _ => rfl⟩
  | .heartbeatTimeout => ⟨(fun s => s.whenAlive ((fun s => (Sys2Proof.Machine.heartbeatTimeout s).entryProceed))), fun _ => rfl⟩
  | .pairLaneLockLoss => ⟨(fun s => s.whenAlive (laneLockLoss)), fun _ => rfl⟩
  | .mirrorRecordRx seq r => ⟨(fun s => s.whenAlive (Sys2Proof.Machine.mirrorRecordRx seq r)), fun _ => rfl⟩
  | .lockstepShareRx x => ⟨(fun s => s.whenAlive (shareRx x)), fun _ => rfl⟩
  | .digestWindowEnd => ⟨(fun s => s.whenAlive (Sys2Proof.Machine.digestWindowEnd)), fun _ => rfl⟩
  | .digestRx w digests flagged => ⟨(fun s => s.whenAlive (Sys2Proof.Machine.digestRx w digests flagged)), fun _ => rfl⟩
  | .healthReportTx => ⟨(fun s => s.whenAlive (Sys2Proof.Machine.healthReportTx)), fun _ => rfl⟩
  | .healthReportRx bytes => ⟨(fun s => s.whenAlive (Sys2Proof.Machine.healthReportRx bytes)), fun _ => rfl⟩
  | .repairRequestRx e seqs room => ⟨(fun s => s.whenAlive (repairRx e seqs room)), fun _ => rfl⟩
  | .pairTakeAssert => ⟨(fun s => s.whenAlive (Sys2Proof.Machine.pairTakeAssert)), fun _ => rfl⟩
  | .handoverAtTh => ⟨(fun s => s.whenAlive ((fun s => (Sys2Proof.Machine.handoverAtTh s).entryProceed))), fun _ => rfl⟩
  | .cloneStagingDone c => ⟨(fun s => s.whenAlive (Sys2Proof.Machine.cloneStagingDone c)), fun _ => rfl⟩
  | .cloneApply => ⟨(fun s => s.whenAlive (Sys2Proof.Machine.cloneApply)), fun _ => rfl⟩
  | .cloneTimeout => ⟨(fun s => s.whenAlive (Sys2Proof.Machine.cloneTimeout)), fun _ => rfl⟩
  | .cloneRetry => ⟨(fun s => s.whenAlive (Sys2Proof.Machine.cloneRetry)), fun _ => rfl⟩
  | .ringOscSample deg => ⟨(fun s => s.whenAlive (Sys2Proof.Machine.ringOscSample deg)), fun _ => rfl⟩
  | .replicaSample slack sens ack => ⟨(fun s => s.whenAlive (Sys2Proof.Machine.replicaSample slack sens ack)), fun _ => rfl⟩
  | .dieTempSample t => ⟨(fun s => s.whenAlive (Sys2Proof.Machine.dieTempSample t)), fun _ => rfl⟩
  | .dailyLedger d => ⟨(fun s => s.whenAlive (Sys2Proof.Machine.dailyLedger d)), fun _ => rfl⟩
  | .calenderPeriodic => ⟨(fun s => s.whenAlive (calPeriodic)), fun _ => rfl⟩
  | .calenderRunEnd => ⟨(fun s => s.whenAlive (calRunEnd)), fun _ => rfl⟩
  | .nvmRefreshDue => ⟨(fun s => s.whenAlive (Sys2Proof.Machine.nvmRefreshDue)), fun _ => rfl⟩
  | .lowerStateEnter => ⟨(Sys2Proof.Machine.lowerStateEnter), fun _ => rfl⟩
  | .wakeCapture src slept => ⟨(Sys2Proof.Machine.wakeCapture src slept), fun _ => rfl⟩
  | .wakeComplete => ⟨(Sys2Proof.Machine.wakeComplete), fun _ => rfl⟩
  | .listenToRunDone => ⟨(Sys2Proof.Machine.listenToRunDone), fun _ => rfl⟩
  | .powerOnResetRelease ao t => ⟨(Sys2Proof.Machine.powerOnResetRelease ao t), fun _ => rfl⟩
  | .coldStartReady c => ⟨(Sys2Proof.Machine.coldStartReady c), fun _ => rfl⟩
  | .supplyRecheck t => ⟨(Sys2Proof.Machine.supplyRecheck t), fun _ => rfl⟩
  | .refxoRetry t => ⟨(Sys2Proof.Machine.refxoRetry t), fun _ => rfl⟩
  | .refxoLost => ⟨(Sys2Proof.Machine.refxoLost), fun _ => rfl⟩
  | .xo32Switch => ⟨(Sys2Proof.Machine.xo32Switch), fun _ => rfl⟩
  | .xo32FailTimeout => ⟨(Sys2Proof.Machine.xo32FailTimeout), fun _ => rfl⟩
  | .resetNAssert t => ⟨(Sys2Proof.Machine.resetNAssert t), fun _ => rfl⟩
  | .resetCommandAct t => ⟨(Sys2Proof.Machine.resetCommandAct t), fun _ => rfl⟩
  | .presentNRise => ⟨(Sys2Proof.Machine.presentNRise), fun _ => rfl⟩
  | .presentNSettled t => ⟨(Sys2Proof.Machine.presentNSettled t), fun _ => rfl⟩
  | .perstNAssert => ⟨(fun s => s.whenAlive (Sys2Proof.Machine.perstNAssert)), fun _ => rfl⟩
  | .perstNRise => ⟨(fun s => s.whenAlive (Sys2Proof.Machine.perstNRise)), fun _ => rfl⟩
  | .supplySample mv => ⟨(Sys2Proof.Machine.supplySample mv), fun _ => rfl⟩
  | .proofHoldExpiry resource => ⟨(fun s => s.whenAlive (Sys2Proof.Machine.proofHoldExpiry resource)), fun _ => rfl⟩
  | .proofComplete pass v0 v1 => ⟨(fun s => s.whenAlive (Sys2Proof.Machine.proofComplete pass v0 v1)), fun _ => rfl⟩
  | .xo32CrystalStop => ⟨(Sys2Proof.Machine.xo32CrystalStop), fun _ => rfl⟩
  | .pdmClockReturn lane => ⟨(fun s => s.whenAlive ((fun s => s.pdmBack lane))), fun _ => rfl⟩
  | .pdmStuckClear lane mic => ⟨(fun s => s.whenAlive (Sys2Proof.Machine.pdmStuckClear lane mic)), fun _ => rfl⟩
  | .serdesEyeSample eyes => ⟨(fun s => s.whenAlive (serdesEye eyes)), fun _ => rfl⟩
  | .preMasterQualificationTimeout d => ⟨(fun s => s.whenAlive (fun s => ((preMasterTimeout d) s).ptpSettle)), fun _ => rfl⟩
  | .fetTemperatureWarning k v => ⟨(fun s => s.whenAlive (fetWarning k v)), fun _ => rfl⟩
  | .cycleByCycleLimit x => ⟨(fun s => s.whenAlive (cycleLimit x)), fun _ => rfl⟩
  | .uartReplyLineSent => ⟨(fun s => s.whenReached (uartReplySent)), fun _ => rfl⟩
  | .nvmRefreshEnd margin => ⟨(fun s => s.whenAlive (Sys2Proof.Machine.nvmRefreshEnd margin)), fun _ => rfl⟩
  | .pairTakeRelease => ⟨(fun s => s.whenAlive (Sys2Proof.Machine.pairTakeRelease)), fun _ => rfl⟩

/-- What a command leaves is a state that has settled. -/
theorem exec_settles {c : Instr} {s t : State} (h : exec c s = .next t) : ∃ u : State, t = u.settleAll := by
  obtain ⟨b, e⟩ := exec_happens c
  rw [e] at h
  unfold happen at h
  injection h with h
  exact ⟨_, h.symm⟩

end Sys2Proof.Machine
end

