-- ==== Sys2Proof/Laws/KV.lean ====
section
/-!
SUPPORT. Laws/KV.lean: what reading a sparse store gives after a change of it, and that every change keeps the
canonical form.
-/

namespace Sys2Proof.Machine

section
variable {α : Type}

/-! ## Reading after a change -/

theorem KV.get_erase_self (d : α) (l : KV α) (k : Nat) : KV.get d (KV.erase l k) k = d := by
  induction l with
  | nil => rfl
  | cons p l ih =>
    obtain ⟨k', v⟩ := p
    by_cases h : k = k' <;> simp [KV.erase, KV.get, h]
    · subst h; exact ih
    · exact ih

theorem KV.get_erase_ne (d : α) (l : KV α) {j k : Nat} (h : j ≠ k) : KV.get d (KV.erase l k) j = KV.get d l j := by
  induction l with
  | nil => rfl
  | cons p l ih =>
    obtain ⟨k', v⟩ := p
    by_cases hk : k = k'
    · subst hk; simp [KV.erase, KV.get, h, ih]
    · by_cases hj : j = k' <;> simp [KV.erase, KV.get, hk, hj, ih]

theorem KV.get_insert_ne (d : α) (l : KV α) {j k : Nat} (v : α) (h : j ≠ k) :
    KV.get d (KV.insert l k v) j = KV.get d l j := by
  induction l with
  | nil => simp [KV.insert, KV.get, h]
  | cons p l ih =>
    obtain ⟨k', v'⟩ := p
    by_cases hk : k < k'
    · simp [KV.insert, hk, KV.get, h]
    · by_cases hj : j = k' <;> simp [KV.insert, hk, KV.get, hj, ih]

/-- A key that is not listed. -/
def KV.Absent (l : KV α) (k : Nat) : Prop := KV.find l k = none

theorem KV.absent_erase (l : KV α) (k : Nat) : KV.Absent (KV.erase l k) k := by
  induction l with
  | nil => rfl
  | cons p l ih =>
    obtain ⟨k', v⟩ := p
    by_cases h : k = k'
    · subst h; simpa [KV.erase] using ih
    · simpa [KV.Absent, KV.erase, KV.find, h] using ih

theorem KV.get_insert_self (d : α) (l : KV α) (k : Nat) (v : α) (h : KV.Absent l k) :
    KV.get d (KV.insert l k v) k = v := by
  induction l with
  | nil => simp [KV.insert, KV.get]
  | cons p l ih =>
    obtain ⟨k', v'⟩ := p
    by_cases hk : k = k'
    · simp [KV.Absent, KV.find, hk] at h
    · by_cases hl : k < k'
      · simp [KV.insert, hl, KV.get]
      · simp only [KV.insert, hl, if_false, KV.get, hk]
        exact ih (by simpa [KV.Absent, KV.find, hk] using h)

@[simp] theorem KV.get_put_self [DecidableEq α] (d : α) (l : KV α) (k : Nat) (v : α) :
    KV.get d (KV.put d l k v) k = v := by
  by_cases h : v = d
  · simp [KV.put, h, KV.get_erase_self]
  · simp [KV.put, h, KV.get_insert_self d _ k v (KV.absent_erase l k)]

theorem KV.get_put_ne [DecidableEq α] (d d' : α) (l : KV α) {j k : Nat} (v : α) (h : j ≠ k) :
    KV.get d (KV.put d' l k v) j = KV.get d l j := by
  by_cases hv : v = d'
  · simp [KV.put, hv, KV.get_erase_ne d l h]
  · simp [KV.put, hv, KV.get_insert_ne d _ v h, KV.get_erase_ne d l h]

@[simp] theorem KV.get_set_self (d : α) (l : KV α) (k : Nat) (v : α) : KV.get d (KV.set l k v) k = v :=
  KV.get_insert_self d _ k v (KV.absent_erase l k)

theorem KV.get_set_ne (d : α) (l : KV α) {j k : Nat} (v : α) (h : j ≠ k) : KV.get d (KV.set l k v) j = KV.get d l j := by
  simp [KV.set, KV.get_insert_ne d _ v h, KV.get_erase_ne d l h]

theorem KV.find_erase_ne (l : KV α) {j k : Nat} (h : j ≠ k) : KV.find (KV.erase l k) j = KV.find l j := by
  induction l with
  | nil => rfl
  | cons p l ih =>
    obtain ⟨k', v⟩ := p
    by_cases hk : k = k'
    · subst hk; simp [KV.erase, KV.find, h, ih]
    · by_cases hj : j = k' <;> simp [KV.erase, KV.find, hk, hj, ih]

theorem KV.find_insert_self (l : KV α) (k : Nat) (v : α) (h : KV.Absent l k) : KV.find (KV.insert l k v) k = some v := by
  induction l with
  | nil => simp [KV.insert, KV.find]
  | cons p l ih =>
    obtain ⟨k', v'⟩ := p
    by_cases hk : k = k'
    · simp [KV.Absent, KV.find, hk] at h
    · by_cases hl : k < k'
      · simp [KV.insert, hl, KV.find]
      · simp only [KV.insert, hl, if_false, KV.find, hk]
        exact ih (by simpa [KV.Absent, KV.find, hk] using h)

theorem KV.find_insert_ne (l : KV α) {j k : Nat} (v : α) (h : j ≠ k) : KV.find (KV.insert l k v) j = KV.find l j := by
  induction l with
  | nil => simp [KV.insert, KV.find, h]
  | cons p l ih =>
    obtain ⟨k', v'⟩ := p
    by_cases hk : k < k'
    · simp [KV.insert, hk, KV.find, h]
    · by_cases hj : j = k' <;> simp [KV.insert, hk, KV.find, hj, ih]

@[simp] theorem KV.find_set_self (l : KV α) (k : Nat) (v : α) : KV.find (KV.set l k v) k = some v :=
  KV.find_insert_self _ k v (KV.absent_erase l k)

theorem KV.find_set_ne (l : KV α) {j k : Nat} (v : α) (h : j ≠ k) : KV.find (KV.set l k v) j = KV.find l j := by
  simp [KV.set, KV.find_insert_ne _ v h, KV.find_erase_ne l h]

@[simp] theorem KV.find_erase_self (l : KV α) (k : Nat) : KV.find (KV.erase l k) k = none := KV.absent_erase l k

/-- A store reads as what it lists, or as the default. -/
theorem KV.get_eq_find (d : α) (l : KV α) (k : Nat) : KV.get d l k = (KV.find l k).getD d := by
  induction l with
  | nil => rfl
  | cons p l ih =>
    obtain ⟨k', v⟩ := p
    by_cases h : k = k' <;> simp [KV.get, KV.find, h, ih]

/-! ## The canonical form -/

/-- Every key is above a bound and the keys rise: the form that an induction over a store uses. -/
def KV.above : Nat → KV α → Prop
  | _, [] => True
  | b, (k, _) :: l => b ≤ k ∧ KV.above (k + 1) l

theorem KV.rising_iff (l : KV α) : KV.rising l = true ↔ KV.above 0 l := by
  have gen : ∀ (l : KV α) (k : Nat) (v : α), KV.rising ((k, v) :: l) = true ↔ KV.above (k + 1) l := by
    intro l
    induction l with
    | nil => intro k v; simp [KV.rising, KV.above]
    | cons p l ih =>
      intro k v
      obtain ⟨k', v'⟩ := p
      have h := ih k' v'
      rw [KV.rising, Bool.and_eq_true, h]
      simp only [KV.above, decide_eq_true_eq]
      exact Iff.rfl
  cases l with
  | nil => simp [KV.rising, KV.above]
  | cons p l =>
    obtain ⟨k, v⟩ := p
    rw [gen l k v]
    simp [KV.above]

theorem KV.above_mono {a b : Nat} (hab : b ≤ a) : ∀ {l : KV α}, KV.above a l → KV.above b l
  | [], _ => trivial
  | (_, _) :: _, h => ⟨le_trans hab h.1, h.2⟩

theorem KV.above_erase {b : Nat} {l : KV α} (k : Nat) (h : KV.above b l) : KV.above b (KV.erase l k) := by
  induction l generalizing b with
  | nil => trivial
  | cons p l ih =>
    obtain ⟨k', v⟩ := p
    by_cases hk : k = k'
    · simp only [KV.erase, hk, if_true]
      subst hk
      exact KV.above_mono (Nat.le_succ_of_le h.1) (ih h.2)
    · simp only [KV.erase, hk, if_false]
      exact ⟨h.1, ih h.2⟩

theorem KV.above_insert {b : Nat} {l : KV α} {k : Nat} (v : α) (hb : b ≤ k) (h : KV.above b l) (ha : KV.Absent l k) :
    KV.above b (KV.insert l k v) := by
  induction l generalizing b with
  | nil => exact ⟨hb, trivial⟩
  | cons p l ih =>
    obtain ⟨k', v'⟩ := p
    have hne : k ≠ k' := by
      intro e
      simp [KV.Absent, KV.find, e] at ha
    by_cases hl : k < k'
    · simp only [KV.insert, hl, if_true]
      exact ⟨hb, hl, h.2⟩
    · simp only [KV.insert, hl, if_false]
      refine ⟨h.1, ih (by omega) h.2 ?_⟩
      simpa [KV.Absent, KV.find, hne] using ha

theorem KV.rising_erase {l : KV α} (k : Nat) (h : KV.rising l = true) : KV.rising (KV.erase l k) = true :=
  (KV.rising_iff _).2 (KV.above_erase k ((KV.rising_iff _).1 h))

theorem KV.rising_set {l : KV α} (k : Nat) (v : α) (h : KV.rising l = true) : KV.rising (KV.set l k v) = true :=
  (KV.rising_iff _).2 (KV.above_insert v (Nat.zero_le _) (KV.above_erase k ((KV.rising_iff _).1 h)) (KV.absent_erase l k))

theorem KV.mem_erase {l : KV α} {k : Nat} {p : Nat × α} (h : p ∈ KV.erase l k) : p ∈ l := by
  induction l with
  | nil => exact h
  | cons q l ih =>
    obtain ⟨k', v⟩ := q
    by_cases hk : k = k'
    · simp only [KV.erase, hk, if_true] at h
      exact List.mem_cons_of_mem _ (ih (by simpa [hk] using h))
    · simp only [KV.erase, hk, if_false, List.mem_cons] at h
      rcases h with h | h
      · exact h ▸ List.mem_cons_self
      · exact List.mem_cons_of_mem _ (ih h)

theorem KV.mem_insert {l : KV α} {k : Nat} {v : α} {p : Nat × α} (h : p ∈ KV.insert l k v) : p = (k, v) ∨ p ∈ l := by
  induction l with
  | nil => simpa [KV.insert] using h
  | cons q l ih =>
    obtain ⟨k', v'⟩ := q
    by_cases hl : k < k'
    · simpa [KV.insert, hl] using h
    · simp only [KV.insert, hl, if_false, List.mem_cons] at h
      rcases h with h | h
      · exact Or.inr (h ▸ List.mem_cons_self)
      · exact (ih h).imp id (List.mem_cons_of_mem _)

/-- Writing one key with its own default keeps the canonical form. -/
theorem KV.wf_put [DecidableEq α] (d : Nat → α) {l : KV α} (k : Nat) (v : α) (h : KV.wf d l = true) :
    KV.wf d (KV.put (d k) l k v) = true := by
  simp only [KV.wf, Bool.and_eq_true, List.all_eq_true, decide_eq_true_eq] at h ⊢
  by_cases hv : v = d k
  · simp only [KV.put, hv, if_true]
    exact ⟨KV.rising_erase k h.1, fun p hp => h.2 p (KV.mem_erase hp)⟩
  · simp only [KV.put, hv, if_false]
    refine ⟨KV.rising_set k v h.1, fun p hp => ?_⟩
    rcases KV.mem_insert hp with e | hp
    · rw [e]; exact hv
    · exact h.2 p (KV.mem_erase hp)

end

/-- A lookup in a store changed in place, where the change leaves the default alone. -/
theorem KV.get_mapV {α : Type} (f : Nat → α → α) (d : α) (hd : ∀ k, f k d = d) (l : KV α) (k : Nat) :
    KV.get d (KV.mapV f l) k = f k (KV.get d l k) := by
  induction l with
  | nil => exact (hd k).symm
  | cons p l ih =>
    unfold KV.mapV KV.get
    split
    · next h => rw [h]
    · exact ih

end Sys2Proof.Machine
end

