-- ==== Sys2Proof/Laws/State.lean ====
section
/-!
SUPPORT. Laws/State.lean: one lemma for each field and each plain update of the state: what the update leaves, and what
it writes.
-/

namespace Sys2Proof.Machine

/-! ## setF -/

@[simp] theorem State.setF_units (s : State) (f : Fld) (v : Nat) : (s.setF f v).units = s.units := rfl
@[simp] theorem State.setF_shadows (s : State) (f : Fld) (v : Nat) : (s.setF f v).shadows = s.shadows := rfl
@[simp] theorem State.setF_readSnaps (s : State) (f : Fld) (v : Nat) : (s.setF f v).readSnaps = s.readSnaps := rfl
@[simp] theorem State.setF_bad (s : State) (f : Fld) (v : Nat) : (s.setF f v).bad = s.bad := rfl
@[simp] theorem State.setF_ev (s : State) (f : Fld) (v : Nat) : (s.setF f v).ev = s.ev := rfl
@[simp] theorem State.setF_log (s : State) (f : Fld) (v : Nat) : (s.setF f v).log = s.log := rfl
@[simp] theorem State.setF_bankA (s : State) (f : Fld) (v : Nat) : (s.setF f v).bankA = s.bankA := rfl
@[simp] theorem State.setF_bankB (s : State) (f : Fld) (v : Nat) : (s.setF f v).bankB = s.bankB := rfl
@[simp] theorem State.setF_factory (s : State) (f : Fld) (v : Nat) : (s.setF f v).factory = s.factory := rfl
@[simp] theorem State.setF_car (s : State) (f : Fld) (v : Nat) : (s.setF f v).car = s.car := rfl
@[simp] theorem State.setF_time (s : State) (f : Fld) (v : Nat) : (s.setF f v).time = s.time := rfl
@[simp] theorem State.setF_pwr (s : State) (f : Fld) (v : Nat) : (s.setF f v).pwr = s.pwr := rfl
@[simp] theorem State.setF_prf (s : State) (f : Fld) (v : Nat) : (s.setF f v).prf = s.prf := rfl
@[simp] theorem State.setF_fact (s : State) (f : Fld) (v : Nat) : (s.setF f v).fact = s.fact := rfl
@[simp] theorem State.setF_stamps (s : State) (f : Fld) (v : Nat) : (s.setF f v).stamps = s.stamps := rfl
@[simp] theorem State.setF_clk (s : State) (f : Fld) (v : Nat) : (s.setF f v).clk = s.clk := rfl
@[simp] theorem State.setF_str (s : State) (f : Fld) (v : Nat) : (s.setF f v).str = s.str := rfl
@[simp] theorem State.setF_dsp (s : State) (f : Fld) (v : Nat) : (s.setF f v).dsp = s.dsp := rfl
@[simp] theorem State.setF_mem (s : State) (f : Fld) (v : Nat) : (s.setF f v).mem = s.mem := rfl
@[simp] theorem State.setF_pair (s : State) (f : Fld) (v : Nat) : (s.setF f v).pair = s.pair := rfl
@[simp] theorem State.setF_loc (s : State) (f : Fld) (v : Nat) : (s.setF f v).loc = s.loc := rfl
@[simp] theorem State.setF_amp (s : State) (f : Fld) (v : Nat) : (s.setF f v).amp = s.amp := rfl
@[simp] theorem State.setF_hlt (s : State) (f : Fld) (v : Nat) : (s.setF f v).hlt = s.hlt := rfl
@[simp] theorem State.setF_pins (s : State) (f : Fld) (v : Nat) : (s.setF f v).pins = s.pins := rfl
@[simp] theorem State.setF_out (s : State) (f : Fld) (v : Nat) : (s.setF f v).out = s.out := rfl
@[simp] theorem State.setF_draws (s : State) (f : Fld) (v : Nat) : (s.setF f v).draws = s.draws := rfl
@[simp] theorem State.setF_pending (s : State) (f : Fld) (v : Nat) : (s.setF f v).pending = s.pending := rfl

/-! ## setI -/

@[simp] theorem State.setI_units (s : State) (f : Fld) (v : Int) : (s.setI f v).units = s.units := rfl
@[simp] theorem State.setI_shadows (s : State) (f : Fld) (v : Int) : (s.setI f v).shadows = s.shadows := rfl
@[simp] theorem State.setI_readSnaps (s : State) (f : Fld) (v : Int) : (s.setI f v).readSnaps = s.readSnaps := rfl
@[simp] theorem State.setI_bad (s : State) (f : Fld) (v : Int) : (s.setI f v).bad = s.bad := rfl
@[simp] theorem State.setI_ev (s : State) (f : Fld) (v : Int) : (s.setI f v).ev = s.ev := rfl
@[simp] theorem State.setI_log (s : State) (f : Fld) (v : Int) : (s.setI f v).log = s.log := rfl
@[simp] theorem State.setI_bankA (s : State) (f : Fld) (v : Int) : (s.setI f v).bankA = s.bankA := rfl
@[simp] theorem State.setI_bankB (s : State) (f : Fld) (v : Int) : (s.setI f v).bankB = s.bankB := rfl
@[simp] theorem State.setI_factory (s : State) (f : Fld) (v : Int) : (s.setI f v).factory = s.factory := rfl
@[simp] theorem State.setI_car (s : State) (f : Fld) (v : Int) : (s.setI f v).car = s.car := rfl
@[simp] theorem State.setI_time (s : State) (f : Fld) (v : Int) : (s.setI f v).time = s.time := rfl
@[simp] theorem State.setI_pwr (s : State) (f : Fld) (v : Int) : (s.setI f v).pwr = s.pwr := rfl
@[simp] theorem State.setI_prf (s : State) (f : Fld) (v : Int) : (s.setI f v).prf = s.prf := rfl
@[simp] theorem State.setI_fact (s : State) (f : Fld) (v : Int) : (s.setI f v).fact = s.fact := rfl
@[simp] theorem State.setI_stamps (s : State) (f : Fld) (v : Int) : (s.setI f v).stamps = s.stamps := rfl
@[simp] theorem State.setI_clk (s : State) (f : Fld) (v : Int) : (s.setI f v).clk = s.clk := rfl
@[simp] theorem State.setI_str (s : State) (f : Fld) (v : Int) : (s.setI f v).str = s.str := rfl
@[simp] theorem State.setI_dsp (s : State) (f : Fld) (v : Int) : (s.setI f v).dsp = s.dsp := rfl
@[simp] theorem State.setI_mem (s : State) (f : Fld) (v : Int) : (s.setI f v).mem = s.mem := rfl
@[simp] theorem State.setI_pair (s : State) (f : Fld) (v : Int) : (s.setI f v).pair = s.pair := rfl
@[simp] theorem State.setI_loc (s : State) (f : Fld) (v : Int) : (s.setI f v).loc = s.loc := rfl
@[simp] theorem State.setI_amp (s : State) (f : Fld) (v : Int) : (s.setI f v).amp = s.amp := rfl
@[simp] theorem State.setI_hlt (s : State) (f : Fld) (v : Int) : (s.setI f v).hlt = s.hlt := rfl
@[simp] theorem State.setI_pins (s : State) (f : Fld) (v : Int) : (s.setI f v).pins = s.pins := rfl
@[simp] theorem State.setI_out (s : State) (f : Fld) (v : Int) : (s.setI f v).out = s.out := rfl
@[simp] theorem State.setI_draws (s : State) (f : Fld) (v : Int) : (s.setI f v).draws = s.draws := rfl
@[simp] theorem State.setI_pending (s : State) (f : Fld) (v : Int) : (s.setI f v).pending = s.pending := rfl

/-! ## setSat -/

@[simp] theorem State.setSat_units (s : State) (f : Fld) (v : Nat) : (s.setSat f v).units = s.units := rfl
@[simp] theorem State.setSat_shadows (s : State) (f : Fld) (v : Nat) : (s.setSat f v).shadows = s.shadows := rfl
@[simp] theorem State.setSat_readSnaps (s : State) (f : Fld) (v : Nat) : (s.setSat f v).readSnaps = s.readSnaps := rfl
@[simp] theorem State.setSat_bad (s : State) (f : Fld) (v : Nat) : (s.setSat f v).bad = s.bad := rfl
@[simp] theorem State.setSat_ev (s : State) (f : Fld) (v : Nat) : (s.setSat f v).ev = s.ev := rfl
@[simp] theorem State.setSat_log (s : State) (f : Fld) (v : Nat) : (s.setSat f v).log = s.log := rfl
@[simp] theorem State.setSat_bankA (s : State) (f : Fld) (v : Nat) : (s.setSat f v).bankA = s.bankA := rfl
@[simp] theorem State.setSat_bankB (s : State) (f : Fld) (v : Nat) : (s.setSat f v).bankB = s.bankB := rfl
@[simp] theorem State.setSat_factory (s : State) (f : Fld) (v : Nat) : (s.setSat f v).factory = s.factory := rfl
@[simp] theorem State.setSat_car (s : State) (f : Fld) (v : Nat) : (s.setSat f v).car = s.car := rfl
@[simp] theorem State.setSat_time (s : State) (f : Fld) (v : Nat) : (s.setSat f v).time = s.time := rfl
@[simp] theorem State.setSat_pwr (s : State) (f : Fld) (v : Nat) : (s.setSat f v).pwr = s.pwr := rfl
@[simp] theorem State.setSat_prf (s : State) (f : Fld) (v : Nat) : (s.setSat f v).prf = s.prf := rfl
@[simp] theorem State.setSat_fact (s : State) (f : Fld) (v : Nat) : (s.setSat f v).fact = s.fact := rfl
@[simp] theorem State.setSat_stamps (s : State) (f : Fld) (v : Nat) : (s.setSat f v).stamps = s.stamps := rfl
@[simp] theorem State.setSat_clk (s : State) (f : Fld) (v : Nat) : (s.setSat f v).clk = s.clk := rfl
@[simp] theorem State.setSat_str (s : State) (f : Fld) (v : Nat) : (s.setSat f v).str = s.str := rfl
@[simp] theorem State.setSat_dsp (s : State) (f : Fld) (v : Nat) : (s.setSat f v).dsp = s.dsp := rfl
@[simp] theorem State.setSat_mem (s : State) (f : Fld) (v : Nat) : (s.setSat f v).mem = s.mem := rfl
@[simp] theorem State.setSat_pair (s : State) (f : Fld) (v : Nat) : (s.setSat f v).pair = s.pair := rfl
@[simp] theorem State.setSat_loc (s : State) (f : Fld) (v : Nat) : (s.setSat f v).loc = s.loc := rfl
@[simp] theorem State.setSat_amp (s : State) (f : Fld) (v : Nat) : (s.setSat f v).amp = s.amp := rfl
@[simp] theorem State.setSat_hlt (s : State) (f : Fld) (v : Nat) : (s.setSat f v).hlt = s.hlt := rfl
@[simp] theorem State.setSat_pins (s : State) (f : Fld) (v : Nat) : (s.setSat f v).pins = s.pins := rfl
@[simp] theorem State.setSat_out (s : State) (f : Fld) (v : Nat) : (s.setSat f v).out = s.out := rfl
@[simp] theorem State.setSat_draws (s : State) (f : Fld) (v : Nat) : (s.setSat f v).draws = s.draws := rfl
@[simp] theorem State.setSat_pending (s : State) (f : Fld) (v : Nat) : (s.setSat f v).pending = s.pending := rfl

/-! ## addSat -/

@[simp] theorem State.addSat_units (s : State) (f : Fld) (n : Nat) : (s.addSat f n).units = s.units := rfl
@[simp] theorem State.addSat_shadows (s : State) (f : Fld) (n : Nat) : (s.addSat f n).shadows = s.shadows := rfl
@[simp] theorem State.addSat_readSnaps (s : State) (f : Fld) (n : Nat) : (s.addSat f n).readSnaps = s.readSnaps := rfl
@[simp] theorem State.addSat_bad (s : State) (f : Fld) (n : Nat) : (s.addSat f n).bad = s.bad := rfl
@[simp] theorem State.addSat_ev (s : State) (f : Fld) (n : Nat) : (s.addSat f n).ev = s.ev := rfl
@[simp] theorem State.addSat_log (s : State) (f : Fld) (n : Nat) : (s.addSat f n).log = s.log := rfl
@[simp] theorem State.addSat_bankA (s : State) (f : Fld) (n : Nat) : (s.addSat f n).bankA = s.bankA := rfl
@[simp] theorem State.addSat_bankB (s : State) (f : Fld) (n : Nat) : (s.addSat f n).bankB = s.bankB := rfl
@[simp] theorem State.addSat_factory (s : State) (f : Fld) (n : Nat) : (s.addSat f n).factory = s.factory := rfl
@[simp] theorem State.addSat_car (s : State) (f : Fld) (n : Nat) : (s.addSat f n).car = s.car := rfl
@[simp] theorem State.addSat_time (s : State) (f : Fld) (n : Nat) : (s.addSat f n).time = s.time := rfl
@[simp] theorem State.addSat_pwr (s : State) (f : Fld) (n : Nat) : (s.addSat f n).pwr = s.pwr := rfl
@[simp] theorem State.addSat_prf (s : State) (f : Fld) (n : Nat) : (s.addSat f n).prf = s.prf := rfl
@[simp] theorem State.addSat_fact (s : State) (f : Fld) (n : Nat) : (s.addSat f n).fact = s.fact := rfl
@[simp] theorem State.addSat_stamps (s : State) (f : Fld) (n : Nat) : (s.addSat f n).stamps = s.stamps := rfl
@[simp] theorem State.addSat_clk (s : State) (f : Fld) (n : Nat) : (s.addSat f n).clk = s.clk := rfl
@[simp] theorem State.addSat_str (s : State) (f : Fld) (n : Nat) : (s.addSat f n).str = s.str := rfl
@[simp] theorem State.addSat_dsp (s : State) (f : Fld) (n : Nat) : (s.addSat f n).dsp = s.dsp := rfl
@[simp] theorem State.addSat_mem (s : State) (f : Fld) (n : Nat) : (s.addSat f n).mem = s.mem := rfl
@[simp] theorem State.addSat_pair (s : State) (f : Fld) (n : Nat) : (s.addSat f n).pair = s.pair := rfl
@[simp] theorem State.addSat_loc (s : State) (f : Fld) (n : Nat) : (s.addSat f n).loc = s.loc := rfl
@[simp] theorem State.addSat_amp (s : State) (f : Fld) (n : Nat) : (s.addSat f n).amp = s.amp := rfl
@[simp] theorem State.addSat_hlt (s : State) (f : Fld) (n : Nat) : (s.addSat f n).hlt = s.hlt := rfl
@[simp] theorem State.addSat_pins (s : State) (f : Fld) (n : Nat) : (s.addSat f n).pins = s.pins := rfl
@[simp] theorem State.addSat_out (s : State) (f : Fld) (n : Nat) : (s.addSat f n).out = s.out := rfl
@[simp] theorem State.addSat_draws (s : State) (f : Fld) (n : Nat) : (s.addSat f n).draws = s.draws := rfl
@[simp] theorem State.addSat_pending (s : State) (f : Fld) (n : Nat) : (s.addSat f n).pending = s.pending := rfl

/-! ## incSat -/

@[simp] theorem State.incSat_units (s : State) (f : Fld) : (s.incSat f).units = s.units := rfl
@[simp] theorem State.incSat_shadows (s : State) (f : Fld) : (s.incSat f).shadows = s.shadows := rfl
@[simp] theorem State.incSat_readSnaps (s : State) (f : Fld) : (s.incSat f).readSnaps = s.readSnaps := rfl
@[simp] theorem State.incSat_bad (s : State) (f : Fld) : (s.incSat f).bad = s.bad := rfl
@[simp] theorem State.incSat_ev (s : State) (f : Fld) : (s.incSat f).ev = s.ev := rfl
@[simp] theorem State.incSat_log (s : State) (f : Fld) : (s.incSat f).log = s.log := rfl
@[simp] theorem State.incSat_bankA (s : State) (f : Fld) : (s.incSat f).bankA = s.bankA := rfl
@[simp] theorem State.incSat_bankB (s : State) (f : Fld) : (s.incSat f).bankB = s.bankB := rfl
@[simp] theorem State.incSat_factory (s : State) (f : Fld) : (s.incSat f).factory = s.factory := rfl
@[simp] theorem State.incSat_car (s : State) (f : Fld) : (s.incSat f).car = s.car := rfl
@[simp] theorem State.incSat_time (s : State) (f : Fld) : (s.incSat f).time = s.time := rfl
@[simp] theorem State.incSat_pwr (s : State) (f : Fld) : (s.incSat f).pwr = s.pwr := rfl
@[simp] theorem State.incSat_prf (s : State) (f : Fld) : (s.incSat f).prf = s.prf := rfl
@[simp] theorem State.incSat_fact (s : State) (f : Fld) : (s.incSat f).fact = s.fact := rfl
@[simp] theorem State.incSat_stamps (s : State) (f : Fld) : (s.incSat f).stamps = s.stamps := rfl
@[simp] theorem State.incSat_clk (s : State) (f : Fld) : (s.incSat f).clk = s.clk := rfl
@[simp] theorem State.incSat_str (s : State) (f : Fld) : (s.incSat f).str = s.str := rfl
@[simp] theorem State.incSat_dsp (s : State) (f : Fld) : (s.incSat f).dsp = s.dsp := rfl
@[simp] theorem State.incSat_mem (s : State) (f : Fld) : (s.incSat f).mem = s.mem := rfl
@[simp] theorem State.incSat_pair (s : State) (f : Fld) : (s.incSat f).pair = s.pair := rfl
@[simp] theorem State.incSat_loc (s : State) (f : Fld) : (s.incSat f).loc = s.loc := rfl
@[simp] theorem State.incSat_amp (s : State) (f : Fld) : (s.incSat f).amp = s.amp := rfl
@[simp] theorem State.incSat_hlt (s : State) (f : Fld) : (s.incSat f).hlt = s.hlt := rfl
@[simp] theorem State.incSat_pins (s : State) (f : Fld) : (s.incSat f).pins = s.pins := rfl
@[simp] theorem State.incSat_out (s : State) (f : Fld) : (s.incSat f).out = s.out := rfl
@[simp] theorem State.incSat_draws (s : State) (f : Fld) : (s.incSat f).draws = s.draws := rfl
@[simp] theorem State.incSat_pending (s : State) (f : Fld) : (s.incSat f).pending = s.pending := rfl

/-! ## modified -/

@[simp] theorem State.modified_units (s : State) : (s.modified).units = s.units := rfl
@[simp] theorem State.modified_shadows (s : State) : (s.modified).shadows = s.shadows := rfl
@[simp] theorem State.modified_readSnaps (s : State) : (s.modified).readSnaps = s.readSnaps := rfl
@[simp] theorem State.modified_bad (s : State) : (s.modified).bad = s.bad := rfl
@[simp] theorem State.modified_ev (s : State) : (s.modified).ev = s.ev := rfl
@[simp] theorem State.modified_log (s : State) : (s.modified).log = s.log := rfl
@[simp] theorem State.modified_bankA (s : State) : (s.modified).bankA = s.bankA := rfl
@[simp] theorem State.modified_bankB (s : State) : (s.modified).bankB = s.bankB := rfl
@[simp] theorem State.modified_factory (s : State) : (s.modified).factory = s.factory := rfl
@[simp] theorem State.modified_car (s : State) : (s.modified).car = s.car := rfl
@[simp] theorem State.modified_time (s : State) : (s.modified).time = s.time := rfl
@[simp] theorem State.modified_pwr (s : State) : (s.modified).pwr = s.pwr := rfl
@[simp] theorem State.modified_prf (s : State) : (s.modified).prf = s.prf := rfl
@[simp] theorem State.modified_fact (s : State) : (s.modified).fact = s.fact := rfl
@[simp] theorem State.modified_stamps (s : State) : (s.modified).stamps = s.stamps := rfl
@[simp] theorem State.modified_clk (s : State) : (s.modified).clk = s.clk := rfl
@[simp] theorem State.modified_str (s : State) : (s.modified).str = s.str := rfl
@[simp] theorem State.modified_dsp (s : State) : (s.modified).dsp = s.dsp := rfl
@[simp] theorem State.modified_mem (s : State) : (s.modified).mem = s.mem := rfl
@[simp] theorem State.modified_pair (s : State) : (s.modified).pair = s.pair := rfl
@[simp] theorem State.modified_loc (s : State) : (s.modified).loc = s.loc := rfl
@[simp] theorem State.modified_amp (s : State) : (s.modified).amp = s.amp := rfl
@[simp] theorem State.modified_hlt (s : State) : (s.modified).hlt = s.hlt := rfl
@[simp] theorem State.modified_pins (s : State) : (s.modified).pins = s.pins := rfl
@[simp] theorem State.modified_out (s : State) : (s.modified).out = s.out := rfl
@[simp] theorem State.modified_draws (s : State) : (s.modified).draws = s.draws := rfl
@[simp] theorem State.modified_pending (s : State) : (s.modified).pending = s.pending := rfl

/-! ## setUnit -/

@[simp] theorem State.setUnit_regs (s : State) (k : Nat) (u : UnitCB) : (s.setUnit k u).regs = s.regs := rfl
@[simp] theorem State.setUnit_shadows (s : State) (k : Nat) (u : UnitCB) : (s.setUnit k u).shadows = s.shadows := rfl
@[simp] theorem State.setUnit_readSnaps (s : State) (k : Nat) (u : UnitCB) : (s.setUnit k u).readSnaps = s.readSnaps := rfl
@[simp] theorem State.setUnit_bad (s : State) (k : Nat) (u : UnitCB) : (s.setUnit k u).bad = s.bad := rfl
@[simp] theorem State.setUnit_ev (s : State) (k : Nat) (u : UnitCB) : (s.setUnit k u).ev = s.ev := rfl
@[simp] theorem State.setUnit_log (s : State) (k : Nat) (u : UnitCB) : (s.setUnit k u).log = s.log := rfl
@[simp] theorem State.setUnit_bankA (s : State) (k : Nat) (u : UnitCB) : (s.setUnit k u).bankA = s.bankA := rfl
@[simp] theorem State.setUnit_bankB (s : State) (k : Nat) (u : UnitCB) : (s.setUnit k u).bankB = s.bankB := rfl
@[simp] theorem State.setUnit_factory (s : State) (k : Nat) (u : UnitCB) : (s.setUnit k u).factory = s.factory := rfl
@[simp] theorem State.setUnit_car (s : State) (k : Nat) (u : UnitCB) : (s.setUnit k u).car = s.car := rfl
@[simp] theorem State.setUnit_time (s : State) (k : Nat) (u : UnitCB) : (s.setUnit k u).time = s.time := rfl
@[simp] theorem State.setUnit_pwr (s : State) (k : Nat) (u : UnitCB) : (s.setUnit k u).pwr = s.pwr := rfl
@[simp] theorem State.setUnit_prf (s : State) (k : Nat) (u : UnitCB) : (s.setUnit k u).prf = s.prf := rfl
@[simp] theorem State.setUnit_fact (s : State) (k : Nat) (u : UnitCB) : (s.setUnit k u).fact = s.fact := rfl
@[simp] theorem State.setUnit_stamps (s : State) (k : Nat) (u : UnitCB) : (s.setUnit k u).stamps = s.stamps := rfl
@[simp] theorem State.setUnit_clk (s : State) (k : Nat) (u : UnitCB) : (s.setUnit k u).clk = s.clk := rfl
@[simp] theorem State.setUnit_str (s : State) (k : Nat) (u : UnitCB) : (s.setUnit k u).str = s.str := rfl
@[simp] theorem State.setUnit_dsp (s : State) (k : Nat) (u : UnitCB) : (s.setUnit k u).dsp = s.dsp := rfl
@[simp] theorem State.setUnit_mem (s : State) (k : Nat) (u : UnitCB) : (s.setUnit k u).mem = s.mem := rfl
@[simp] theorem State.setUnit_pair (s : State) (k : Nat) (u : UnitCB) : (s.setUnit k u).pair = s.pair := rfl
@[simp] theorem State.setUnit_loc (s : State) (k : Nat) (u : UnitCB) : (s.setUnit k u).loc = s.loc := rfl
@[simp] theorem State.setUnit_amp (s : State) (k : Nat) (u : UnitCB) : (s.setUnit k u).amp = s.amp := rfl
@[simp] theorem State.setUnit_hlt (s : State) (k : Nat) (u : UnitCB) : (s.setUnit k u).hlt = s.hlt := rfl
@[simp] theorem State.setUnit_pins (s : State) (k : Nat) (u : UnitCB) : (s.setUnit k u).pins = s.pins := rfl
@[simp] theorem State.setUnit_out (s : State) (k : Nat) (u : UnitCB) : (s.setUnit k u).out = s.out := rfl
@[simp] theorem State.setUnit_draws (s : State) (k : Nat) (u : UnitCB) : (s.setUnit k u).draws = s.draws := rfl
@[simp] theorem State.setUnit_pending (s : State) (k : Nat) (u : UnitCB) : (s.setUnit k u).pending = s.pending := rfl

/-! ## emit -/

@[simp] theorem State.emit_regs (s : State) (e : Emit) : (s.emit e).regs = s.regs := rfl
@[simp] theorem State.emit_units (s : State) (e : Emit) : (s.emit e).units = s.units := rfl
@[simp] theorem State.emit_shadows (s : State) (e : Emit) : (s.emit e).shadows = s.shadows := rfl
@[simp] theorem State.emit_readSnaps (s : State) (e : Emit) : (s.emit e).readSnaps = s.readSnaps := rfl
@[simp] theorem State.emit_bad (s : State) (e : Emit) : (s.emit e).bad = s.bad := rfl
@[simp] theorem State.emit_ev (s : State) (e : Emit) : (s.emit e).ev = s.ev := rfl
@[simp] theorem State.emit_log (s : State) (e : Emit) : (s.emit e).log = s.log := rfl
@[simp] theorem State.emit_bankA (s : State) (e : Emit) : (s.emit e).bankA = s.bankA := rfl
@[simp] theorem State.emit_bankB (s : State) (e : Emit) : (s.emit e).bankB = s.bankB := rfl
@[simp] theorem State.emit_factory (s : State) (e : Emit) : (s.emit e).factory = s.factory := rfl
@[simp] theorem State.emit_car (s : State) (e : Emit) : (s.emit e).car = s.car := rfl
@[simp] theorem State.emit_time (s : State) (e : Emit) : (s.emit e).time = s.time := rfl
@[simp] theorem State.emit_pwr (s : State) (e : Emit) : (s.emit e).pwr = s.pwr := rfl
@[simp] theorem State.emit_prf (s : State) (e : Emit) : (s.emit e).prf = s.prf := rfl
@[simp] theorem State.emit_fact (s : State) (e : Emit) : (s.emit e).fact = s.fact := rfl
@[simp] theorem State.emit_stamps (s : State) (e : Emit) : (s.emit e).stamps = s.stamps := rfl
@[simp] theorem State.emit_clk (s : State) (e : Emit) : (s.emit e).clk = s.clk := rfl
@[simp] theorem State.emit_str (s : State) (e : Emit) : (s.emit e).str = s.str := rfl
@[simp] theorem State.emit_dsp (s : State) (e : Emit) : (s.emit e).dsp = s.dsp := rfl
@[simp] theorem State.emit_mem (s : State) (e : Emit) : (s.emit e).mem = s.mem := rfl
@[simp] theorem State.emit_pair (s : State) (e : Emit) : (s.emit e).pair = s.pair := rfl
@[simp] theorem State.emit_loc (s : State) (e : Emit) : (s.emit e).loc = s.loc := rfl
@[simp] theorem State.emit_amp (s : State) (e : Emit) : (s.emit e).amp = s.amp := rfl
@[simp] theorem State.emit_hlt (s : State) (e : Emit) : (s.emit e).hlt = s.hlt := rfl
@[simp] theorem State.emit_pins (s : State) (e : Emit) : (s.emit e).pins = s.pins := rfl
@[simp] theorem State.emit_draws (s : State) (e : Emit) : (s.emit e).draws = s.draws := rfl
@[simp] theorem State.emit_pending (s : State) (e : Emit) : (s.emit e).pending = s.pending := rfl

/-! ## setRaw -/

@[simp] theorem State.setRaw_regs (s : State) (src : Nat) (on : Bool) : (s.setRaw src on).regs = s.regs := rfl
@[simp] theorem State.setRaw_units (s : State) (src : Nat) (on : Bool) : (s.setRaw src on).units = s.units := rfl
@[simp] theorem State.setRaw_shadows (s : State) (src : Nat) (on : Bool) : (s.setRaw src on).shadows = s.shadows := rfl
@[simp] theorem State.setRaw_readSnaps (s : State) (src : Nat) (on : Bool) : (s.setRaw src on).readSnaps = s.readSnaps := rfl
@[simp] theorem State.setRaw_bad (s : State) (src : Nat) (on : Bool) : (s.setRaw src on).bad = s.bad := rfl
@[simp] theorem State.setRaw_log (s : State) (src : Nat) (on : Bool) : (s.setRaw src on).log = s.log := rfl
@[simp] theorem State.setRaw_bankA (s : State) (src : Nat) (on : Bool) : (s.setRaw src on).bankA = s.bankA := rfl
@[simp] theorem State.setRaw_bankB (s : State) (src : Nat) (on : Bool) : (s.setRaw src on).bankB = s.bankB := rfl
@[simp] theorem State.setRaw_factory (s : State) (src : Nat) (on : Bool) : (s.setRaw src on).factory = s.factory := rfl
@[simp] theorem State.setRaw_car (s : State) (src : Nat) (on : Bool) : (s.setRaw src on).car = s.car := rfl
@[simp] theorem State.setRaw_time (s : State) (src : Nat) (on : Bool) : (s.setRaw src on).time = s.time := rfl
@[simp] theorem State.setRaw_pwr (s : State) (src : Nat) (on : Bool) : (s.setRaw src on).pwr = s.pwr := rfl
@[simp] theorem State.setRaw_prf (s : State) (src : Nat) (on : Bool) : (s.setRaw src on).prf = s.prf := rfl
@[simp] theorem State.setRaw_fact (s : State) (src : Nat) (on : Bool) : (s.setRaw src on).fact = s.fact := rfl
@[simp] theorem State.setRaw_stamps (s : State) (src : Nat) (on : Bool) : (s.setRaw src on).stamps = s.stamps := rfl
@[simp] theorem State.setRaw_clk (s : State) (src : Nat) (on : Bool) : (s.setRaw src on).clk = s.clk := rfl
@[simp] theorem State.setRaw_str (s : State) (src : Nat) (on : Bool) : (s.setRaw src on).str = s.str := rfl
@[simp] theorem State.setRaw_dsp (s : State) (src : Nat) (on : Bool) : (s.setRaw src on).dsp = s.dsp := rfl
@[simp] theorem State.setRaw_mem (s : State) (src : Nat) (on : Bool) : (s.setRaw src on).mem = s.mem := rfl
@[simp] theorem State.setRaw_pair (s : State) (src : Nat) (on : Bool) : (s.setRaw src on).pair = s.pair := rfl
@[simp] theorem State.setRaw_loc (s : State) (src : Nat) (on : Bool) : (s.setRaw src on).loc = s.loc := rfl
@[simp] theorem State.setRaw_amp (s : State) (src : Nat) (on : Bool) : (s.setRaw src on).amp = s.amp := rfl
@[simp] theorem State.setRaw_hlt (s : State) (src : Nat) (on : Bool) : (s.setRaw src on).hlt = s.hlt := rfl
@[simp] theorem State.setRaw_pins (s : State) (src : Nat) (on : Bool) : (s.setRaw src on).pins = s.pins := rfl
@[simp] theorem State.setRaw_out (s : State) (src : Nat) (on : Bool) : (s.setRaw src on).out = s.out := rfl
@[simp] theorem State.setRaw_draws (s : State) (src : Nat) (on : Bool) : (s.setRaw src on).draws = s.draws := rfl
@[simp] theorem State.setRaw_pending (s : State) (src : Nat) (on : Bool) : (s.setRaw src on).pending = s.pending := rfl

/-! ## setPairD -/

@[simp] theorem State.setPairD_regs (s : State) (p : PairState) : (s.setPairD p).regs = s.regs := rfl
@[simp] theorem State.setPairD_units (s : State) (p : PairState) : (s.setPairD p).units = s.units := rfl
@[simp] theorem State.setPairD_shadows (s : State) (p : PairState) : (s.setPairD p).shadows = s.shadows := rfl
@[simp] theorem State.setPairD_readSnaps (s : State) (p : PairState) : (s.setPairD p).readSnaps = s.readSnaps := rfl
@[simp] theorem State.setPairD_bad (s : State) (p : PairState) : (s.setPairD p).bad = s.bad := rfl
@[simp] theorem State.setPairD_ev (s : State) (p : PairState) : (s.setPairD p).ev = s.ev := rfl
@[simp] theorem State.setPairD_log (s : State) (p : PairState) : (s.setPairD p).log = s.log := rfl
@[simp] theorem State.setPairD_bankA (s : State) (p : PairState) : (s.setPairD p).bankA = s.bankA := rfl
@[simp] theorem State.setPairD_bankB (s : State) (p : PairState) : (s.setPairD p).bankB = s.bankB := rfl
@[simp] theorem State.setPairD_factory (s : State) (p : PairState) : (s.setPairD p).factory = s.factory := rfl
@[simp] theorem State.setPairD_car (s : State) (p : PairState) : (s.setPairD p).car = s.car := rfl
@[simp] theorem State.setPairD_time (s : State) (p : PairState) : (s.setPairD p).time = s.time := rfl
@[simp] theorem State.setPairD_pwr (s : State) (p : PairState) : (s.setPairD p).pwr = s.pwr := rfl
@[simp] theorem State.setPairD_prf (s : State) (p : PairState) : (s.setPairD p).prf = s.prf := rfl
@[simp] theorem State.setPairD_fact (s : State) (p : PairState) : (s.setPairD p).fact = s.fact := rfl
@[simp] theorem State.setPairD_stamps (s : State) (p : PairState) : (s.setPairD p).stamps = s.stamps := rfl
@[simp] theorem State.setPairD_clk (s : State) (p : PairState) : (s.setPairD p).clk = s.clk := rfl
@[simp] theorem State.setPairD_str (s : State) (p : PairState) : (s.setPairD p).str = s.str := rfl
@[simp] theorem State.setPairD_dsp (s : State) (p : PairState) : (s.setPairD p).dsp = s.dsp := rfl
@[simp] theorem State.setPairD_mem (s : State) (p : PairState) : (s.setPairD p).mem = s.mem := rfl
@[simp] theorem State.setPairD_loc (s : State) (p : PairState) : (s.setPairD p).loc = s.loc := rfl
@[simp] theorem State.setPairD_amp (s : State) (p : PairState) : (s.setPairD p).amp = s.amp := rfl
@[simp] theorem State.setPairD_hlt (s : State) (p : PairState) : (s.setPairD p).hlt = s.hlt := rfl
@[simp] theorem State.setPairD_pins (s : State) (p : PairState) : (s.setPairD p).pins = s.pins := rfl
@[simp] theorem State.setPairD_out (s : State) (p : PairState) : (s.setPairD p).out = s.out := rfl
@[simp] theorem State.setPairD_draws (s : State) (p : PairState) : (s.setPairD p).draws = s.draws := rfl
@[simp] theorem State.setPairD_pending (s : State) (p : PairState) : (s.setPairD p).pending = s.pending := rfl

/-! ## flagWindow -/

@[simp] theorem State.flagWindow_regs (s : State) : (s.flagWindow).regs = s.regs := rfl
@[simp] theorem State.flagWindow_units (s : State) : (s.flagWindow).units = s.units := rfl
@[simp] theorem State.flagWindow_shadows (s : State) : (s.flagWindow).shadows = s.shadows := rfl
@[simp] theorem State.flagWindow_readSnaps (s : State) : (s.flagWindow).readSnaps = s.readSnaps := rfl
@[simp] theorem State.flagWindow_bad (s : State) : (s.flagWindow).bad = s.bad := rfl
@[simp] theorem State.flagWindow_ev (s : State) : (s.flagWindow).ev = s.ev := rfl
@[simp] theorem State.flagWindow_log (s : State) : (s.flagWindow).log = s.log := rfl
@[simp] theorem State.flagWindow_bankA (s : State) : (s.flagWindow).bankA = s.bankA := rfl
@[simp] theorem State.flagWindow_bankB (s : State) : (s.flagWindow).bankB = s.bankB := rfl
@[simp] theorem State.flagWindow_factory (s : State) : (s.flagWindow).factory = s.factory := rfl
@[simp] theorem State.flagWindow_car (s : State) : (s.flagWindow).car = s.car := rfl
@[simp] theorem State.flagWindow_time (s : State) : (s.flagWindow).time = s.time := rfl
@[simp] theorem State.flagWindow_pwr (s : State) : (s.flagWindow).pwr = s.pwr := rfl
@[simp] theorem State.flagWindow_prf (s : State) : (s.flagWindow).prf = s.prf := rfl
@[simp] theorem State.flagWindow_fact (s : State) : (s.flagWindow).fact = s.fact := rfl
@[simp] theorem State.flagWindow_stamps (s : State) : (s.flagWindow).stamps = s.stamps := rfl
@[simp] theorem State.flagWindow_clk (s : State) : (s.flagWindow).clk = s.clk := rfl
@[simp] theorem State.flagWindow_str (s : State) : (s.flagWindow).str = s.str := rfl
@[simp] theorem State.flagWindow_dsp (s : State) : (s.flagWindow).dsp = s.dsp := rfl
@[simp] theorem State.flagWindow_mem (s : State) : (s.flagWindow).mem = s.mem := rfl
@[simp] theorem State.flagWindow_loc (s : State) : (s.flagWindow).loc = s.loc := rfl
@[simp] theorem State.flagWindow_amp (s : State) : (s.flagWindow).amp = s.amp := rfl
@[simp] theorem State.flagWindow_hlt (s : State) : (s.flagWindow).hlt = s.hlt := rfl
@[simp] theorem State.flagWindow_pins (s : State) : (s.flagWindow).pins = s.pins := rfl
@[simp] theorem State.flagWindow_out (s : State) : (s.flagWindow).out = s.out := rfl
@[simp] theorem State.flagWindow_draws (s : State) : (s.flagWindow).draws = s.draws := rfl
@[simp] theorem State.flagWindow_pending (s : State) : (s.flagWindow).pending = s.pending := rfl

/-! ## What the updates write -/

@[simp] theorem State.setPairD_pair (s : State) (p : PairState) : (s.setPairD p).pair = p := rfl
@[simp] theorem State.emit_out (s : State) (e : Emit) : (s.emit e).out = s.out ++ [e] := rfl
@[simp] theorem State.setRaw_sticky (s : State) (src : Nat) (on : Bool) : (s.setRaw src on).ev.sticky = s.ev.sticky := rfl
@[simp] theorem State.setRaw_counts (s : State) (src : Nat) (on : Bool) : (s.setRaw src on).ev.counts = s.ev.counts := rfl

end Sys2Proof.Machine
end

