-- ==== Sys2Proof/Laws/Fields.lean ====
section
/-!
SUPPORT. Laws/Fields.lean: reading register fields after a change of fields or of other parts of the state.
-/

namespace Sys2Proof.Machine

/-- A field reads the value written, cut to its width. -/
@[simp] theorem State.getF_setF_self (s : State) (f : Fld) (v : Nat) : (s.setF f v).getF f = v % 2 ^ f.width := by
  simp [State.getF, State.setF]

/-- A field written reads as written through any field of the same place. -/
theorem State.getF_setF_same (s : State) {f g : Fld} (v : Nat) (ha : g.addr = f.addr) (hl : g.lo = f.lo) :
    (s.setF f v).getF g = v % 2 ^ f.width := by
  simp [State.getF, State.setF, Fld.key, ha, hl]

/-- A field of another key is untouched. -/
theorem State.getF_setF_ne (s : State) {f g : Fld} (v : Nat) (h : g.key ≠ f.key) : (s.setF f v).getF g = s.getF g := by
  simp [State.getF, State.setF, KV.get_put_ne _ _ _ _ h]

/-- Fields of different addresses, word-aligned, have different keys. -/
theorem Fld.key_ne_of_addr {f g : Fld} (hf : f.lo < 32) (hg : g.lo < 32) (af : f.addr % 4 = 0) (ag : g.addr % 4 = 0)
    (h : g.addr ≠ f.addr) : g.key ≠ f.key := by
  simp only [Fld.key, fieldKey]
  omega

/-- Fields of one register at different places have different keys. -/
theorem Fld.key_ne_of_lo {f g : Fld} (h : g.lo ≠ f.lo) (ha : g.addr = f.addr) : g.key ≠ f.key := by
  simp only [Fld.key, fieldKey]
  omega

/-- Reading a field looks at the stored fields only. -/
theorem State.getF_congr {s t : State} (f : Fld) (h : s.regs = t.regs) : s.getF f = t.getF f := by
  simp [State.getF, h]

theorem State.on_congr {s t : State} (f : Fld) (h : s.regs = t.regs) : s.on f = t.on f := by
  simp [State.on, State.getF_congr f h]

/-- A one-bit field set to 1 is on. -/
@[simp] theorem State.on_setF_one (s : State) (f : Fld) (h : f.width = 1) : (s.setF f 1).on f = true := by
  simp [State.on, h]

/-- A one-bit field set to 0 is off. -/
@[simp] theorem State.on_setF_zero (s : State) (f : Fld) : (s.setF f 0).on f = false := by
  simp [State.on]

/-- A saturating counter below its top moves on by one. -/
theorem State.getF_incSat_self (s : State) (f : Fld) (h : s.getF f + 1 < 2 ^ f.width) :
    (s.incSat f).getF f = s.getF f + 1 := by
  have h2 : satNat f.width (s.getF f + 1) = s.getF f + 1 := by
    simp only [satNat]; split <;> omega
  simp [State.incSat, State.addSat, h2, Nat.mod_eq_of_lt h]

theorem State.getF_incSat_ne (s : State) {f g : Fld} (h : g.key ≠ f.key) : (s.incSat f).getF g = s.getF g := by
  simp [State.incSat, State.addSat, State.getF_setF_ne _ _ h]

theorem State.getF_addSat_ne (s : State) {f g : Fld} (n : Nat) (h : g.key ≠ f.key) : (s.addSat f n).getF g = s.getF g := by
  simp [State.addSat, State.getF_setF_ne _ _ h]

/-- A unit's common block reads as written. -/
@[simp] theorem State.unit_setUnit_self (s : State) (k : Nat) (u : UnitCB) : (s.setUnit k u).unit k = u := by
  simp [State.unit, State.setUnit]

theorem State.unit_setUnit_ne (s : State) {j k : Nat} (u : UnitCB) (h : j ≠ k) : (s.setUnit k u).unit j = s.unit j := by
  simp [State.unit, State.setUnit, KV.get_put_ne _ _ _ _ h]

end Sys2Proof.Machine
end

