-- ==== Sys2Proof/Laws/Traces.lean ====
section
/-!
SUPPORT. Laws/Traces.lean: what firing an event, making a log entry and starting a commit leave alone: a state and one that
differs from it by such traces only.
-/

namespace Sys2Proof.Machine

/-- The sessions of two states have the same role, event flag and key. -/
def State.SameSessions (s t : State) : Prop := ∀ n,
  (KV.get {} t.car.sessions n).role = (KV.get {} s.car.sessions n).role ∧
  (KV.get {} t.car.sessions n).evFlag = (KV.get {} s.car.sessions n).evFlag ∧
  (KV.get {} t.car.sessions n).key = (KV.get {} s.car.sessions n).key

theorem State.SameSessions.refl {s t : State} (h : t.car.sessions = s.car.sessions) : State.SameSessions s t :=
  fun n => by rw [h]; exact ⟨rfl, rfl, rfl⟩

theorem State.SameSessions.trans {s t u : State} (h : State.SameSessions s t) (g : State.SameSessions t u) :
    State.SameSessions s u := fun n =>
  ⟨(g n).1.trans (h n).1, (g n).2.1.trans (h n).2.1, (g n).2.2.trans (h n).2.2⟩

/-- A state differs from another by traces only: events fired (no raw bit moved), log entries and their commit, reports sent. -/
structure State.Traces (s t : State) : Prop where
  regs : t.regs = s.regs
  units : t.units = s.units
  shadows : t.shadows = s.shadows
  readSnaps : t.readSnaps = s.readSnaps
  bad : t.bad = s.bad
  bankA : t.bankA = s.bankA
  bankB : t.bankB = s.bankB
  factory : t.factory = s.factory
  time : t.time = s.time
  pwr : t.pwr = s.pwr
  prf : t.prf = s.prf
  fact : t.fact = s.fact
  stamps : t.stamps = s.stamps
  clk : t.clk = s.clk
  str : t.str = s.str
  dsp : t.dsp = s.dsp
  mem : t.mem = s.mem
  pair : t.pair = s.pair
  loc : t.loc = s.loc
  amp : t.amp = s.amp
  hlt : t.hlt = s.hlt
  pins : t.pins = s.pins
  draws : t.draws = s.draws
  pending : t.pending = s.pending
  car : t.car = { s.car with sessions := t.car.sessions }
  session : State.SameSessions s t
  ring : t.log.ring = s.log.ring
  commitOn : s.log.commit.isSome = true → t.log.commit.isSome = true
  raw : t.ev.raw = s.ev.raw
  msixPend : t.ev.msixPend = s.ev.msixPend
  msixOn : t.ev.msixOn = s.ev.msixOn
  msixUnmasked : t.ev.msixUnmasked = s.ev.msixUnmasked
  msixBits : t.ev.msixBits = s.ev.msixBits
  sticky : ∀ n ∈ s.ev.sticky, n ∈ t.ev.sticky
  out : s.out <+: t.out

theorem State.Traces.refl (s : State) : State.Traces s s := by
  constructor <;> first | rfl | exact fun _ h => h | exact id | exact State.SameSessions.refl rfl

theorem State.Traces.trans {s t u : State} (h : State.Traces s t) (g : State.Traces t u) : State.Traces s u where
  regs := g.regs.trans h.regs
  units := g.units.trans h.units
  shadows := g.shadows.trans h.shadows
  readSnaps := g.readSnaps.trans h.readSnaps
  bad := g.bad.trans h.bad
  bankA := g.bankA.trans h.bankA
  bankB := g.bankB.trans h.bankB
  factory := g.factory.trans h.factory
  time := g.time.trans h.time
  pwr := g.pwr.trans h.pwr
  prf := g.prf.trans h.prf
  fact := g.fact.trans h.fact
  stamps := g.stamps.trans h.stamps
  clk := g.clk.trans h.clk
  str := g.str.trans h.str
  dsp := g.dsp.trans h.dsp
  mem := g.mem.trans h.mem
  pair := g.pair.trans h.pair
  loc := g.loc.trans h.loc
  amp := g.amp.trans h.amp
  hlt := g.hlt.trans h.hlt
  pins := g.pins.trans h.pins
  draws := g.draws.trans h.draws
  pending := g.pending.trans h.pending
  car := by rw [g.car, h.car]
  session := h.session.trans g.session
  ring := g.ring.trans h.ring
  commitOn := fun x => g.commitOn (h.commitOn x)
  raw := g.raw.trans h.raw
  msixPend := g.msixPend.trans h.msixPend
  msixOn := g.msixOn.trans h.msixOn
  msixUnmasked := g.msixUnmasked.trans h.msixUnmasked
  msixBits := g.msixBits.trans h.msixBits
  sticky := fun n hn => g.sticky n (h.sticky n hn)
  out := h.out.trans g.out

/-- Fields read the same over traces. -/
theorem State.Traces.getF {s t : State} (h : State.Traces s t) (f : Fld) : t.getF f = s.getF f := State.getF_congr f h.regs
theorem State.Traces.on {s t : State} (h : State.Traces s t) (f : Fld) : t.on f = s.on f := State.on_congr f h.regs

/-! ## Which operations leave traces only -/

theorem State.traces_emit (s : State) (e : Emit) : State.Traces s (s.emit e) := by
  constructor <;> first | rfl | exact fun _ h => h | exact id | exact State.SameSessions.refl rfl | exact List.prefix_append _ _

theorem State.traces_emitTo (l : List (Nat × Session)) (f : Nat × Session → Emit) (s : State) :
    State.Traces s (l.foldl (fun (s : State) p => if p.2.takesEvents then s.emit (f p) else s) s) := by
  induction l generalizing s with
  | nil => exact State.Traces.refl s
  | cons p l ih =>
    rw [List.foldl_cons]
    refine State.Traces.trans ?_ (ih _)
    split
    · exact s.traces_emit _
    · exact State.Traces.refl s

theorem State.traces_sendNetReport (s : State) (r : Report) (src : Nat) : State.Traces s (s.sendNetReport r src) := by
  unfold State.sendNetReport
  refine (s.traces_emitTo s.car.sessions (fun p => .datagram p.1 p.2.srcAddr p.2.srcPort
    (tagged p.2 p.1 (reportPacket r src (p.2.evSeq % 65536) p.1)))).trans ?_
  constructor
  case session =>
    intro n
    dsimp only
    rw [KV.get_mapV _ _ (fun _ => rfl)]
    split <;> exact ⟨rfl, rfl, rfl⟩
  all_goals first | rfl | exact fun _ h => h | exact id

theorem State.traces_fireWith (s : State) (src obj detail : Nat) (late : Bool) :
    State.Traces s (s.fireWith src obj detail late) := by
  unfold State.fireWith
  dsimp only
  have base : ∀ (e : EvState), e.raw = s.ev.raw → e.msixPend = s.ev.msixPend → e.msixOn = s.ev.msixOn →
      e.msixUnmasked = s.ev.msixUnmasked → e.msixBits = s.ev.msixBits → (∀ n ∈ s.ev.sticky, n ∈ e.sticky) →
      State.Traces s { s with ev := e } := by
    intro e h1 h2 h3 h4 h5 h6
    constructor <;> first | assumption | rfl | exact State.SameSessions.refl rfl | exact id
  split
  · refine State.Traces.trans ?_ (State.traces_sendNetReport _ _ _)
    refine base _ rfl rfl rfl rfl rfl ?_
    intro n hn
    dsimp only
    split
    · exact hn
    · exact List.mem_cons_of_mem _ hn
  · refine base _ rfl rfl rfl rfl rfl ?_
    intro n hn
    dsimp only
    split
    · exact hn
    · exact List.mem_cons_of_mem _ hn

theorem State.traces_fire (s : State) (src obj detail : Nat) : State.Traces s (s.fire src obj detail) :=
  s.traces_fireWith src obj detail false

/-- A log with another RAM, counts and a commit that does not vanish. -/
theorem State.traces_log (s : State) (l : LogState) (hr : l.ring = s.log.ring)
    (hc : s.log.commit.isSome = true → l.commit.isSome = true) : State.Traces s { s with log := l } := by
  constructor <;> first | assumption | rfl | exact fun _ h => h | exact State.SameSessions.refl rfl

theorem State.traces_startCommit (s : State) : State.Traces s s.startCommit := by
  unfold State.startCommit
  split
  · exact s.traces_log _ rfl (fun _ => rfl)
  · split
    · exact State.Traces.refl s
    · exact s.traces_log _ rfl (fun _ => rfl)

theorem State.traces_logRoom (s : State) : State.Traces s s.logRoom := by
  unfold State.logRoom
  split
  · exact State.Traces.refl s
  · dsimp only
    refine State.Traces.trans ?_ (State.traces_fire _ _ _ _)
    refine s.traces_log _ ?_ (fun h => ?_)
    · rfl
    · dsimp only
      rw [Option.isSome_map]
      exact h

theorem State.traces_logE (s : State) (origin oid kind : Nat) (addr : Bool) (obj old new : Nat) :
    State.Traces s (s.logE origin oid kind addr obj old new) := by
  unfold State.logE
  dsimp only
  split
  · refine State.Traces.trans (s.traces_logRoom.trans ?_) (State.traces_startCommit _)
    exact State.traces_log _ _ rfl id
  · refine s.traces_logRoom.trans ?_
    exact State.traces_log _ _ rfl id

theorem State.traces_logState (s : State) (origin obj old new : Nat) : State.Traces s (s.logState origin obj old new) :=
  s.traces_logE _ _ _ _ _ _ _

theorem State.traces_logDenied (s : State) (o : Origin) (addr : Bool) (obj opcode data : Nat) :
    State.Traces s (s.logDenied o addr obj opcode data) := s.traces_logE _ _ _ _ _ _ _

/-! ## What an event and an entry leave -/

/-- A source that fires is sticky (R82). -/
theorem State.fireWith_sticky (s : State) (src obj detail : Nat) (late : Bool) :
    src ∈ (s.fireWith src obj detail late).ev.sticky := by
  unfold State.fireWith
  dsimp only
  have h : src ∈ (if s.ev.sticky.contains src then s.ev.sticky else src :: s.ev.sticky) := by
    split
    · next h => exact List.contains_iff_mem.1 h
    · exact List.mem_cons_self
  split
  · exact (State.traces_sendNetReport _ _ _).sticky src h
  · exact h

theorem State.fire_sticky (s : State) (src obj detail : Nat) : src ∈ (s.fire src obj detail).ev.sticky :=
  s.fireWith_sticky src obj detail false

/-- Sending reports leaves the events and the log as they are. -/
theorem State.sendNetReport_keeps (s : State) (r : Report) (src : Nat) :
    (s.sendNetReport r src).ev = s.ev ∧ (s.sendNetReport r src).log = s.log := by
  unfold State.sendNetReport
  have : ∀ (l : List (Nat × Session)) (f : Nat × Session → Emit) (s : State),
      (l.foldl (fun (s : State) p => if p.2.takesEvents then s.emit (f p) else s) s).ev = s.ev ∧
      (l.foldl (fun (s : State) p => if p.2.takesEvents then s.emit (f p) else s) s).log = s.log := by
    intro l f
    induction l with
    | nil => exact fun s => ⟨rfl, rfl⟩
    | cons p l ih =>
      intro s
      rw [List.foldl_cons, (ih _).1, (ih _).2]
      split <;> exact ⟨rfl, rfl⟩
  exact this _ (fun p => .datagram p.1 p.2.srcAddr p.2.srcPort
    (tagged p.2 p.1 (reportPacket r src (p.2.evSeq % 65536) p.1))) s

theorem State.sendNetReport_ev (s : State) (r : Report) (src : Nat) : (s.sendNetReport r src).ev = s.ev :=
  (s.sendNetReport_keeps r src).1

theorem State.sendNetReport_log (s : State) (r : Report) (src : Nat) : (s.sendNetReport r src).log = s.log :=
  (s.sendNetReport_keeps r src).2

/-- Firing an event leaves the log as it is. -/
@[simp] theorem State.fireWith_log (s : State) (src obj detail : Nat) (late : Bool) :
    (s.fireWith src obj detail late).log = s.log := by
  unfold State.fireWith
  dsimp only
  split
  · rw [State.sendNetReport_log]
  · rfl

@[simp] theorem State.fire_log (s : State) (src obj detail : Nat) : (s.fire src obj detail).log = s.log :=
  s.fireWith_log src obj detail false

/-- A firing counts in its source's counter and in no other (R88). -/
theorem State.fireWith_counts (s : State) (src obj detail : Nat) (late : Bool) :
    (s.fireWith src obj detail late).ev.counts =
      KV.put 0 s.ev.counts src (satNat 32 (KV.get 0 s.ev.counts src + 1)) := by
  unfold State.fireWith
  dsimp only
  split
  · rw [State.sendNetReport_ev]
  · rfl

/-- With room in RAM, an entry is the newest one held (R91, R93). -/
theorem State.logE_ram (s : State) (origin oid kind : Nat) (addr : Bool) (obj old new : Nat) (h : s.log.ram.length < 4096) :
    (s.logE origin oid kind addr obj old new).log.ram = s.log.ram ++
      [{ seq := s.log.next, sec := s.stamp.1, ns := s.stamp.2.1, notime := s.stamp.2.2, origin := origin, kind := kind,
         oid := oid, addr := addr, obj := obj % 2 ^ 32, old := old % 65536, new := new % 65536 }] := by
  have hr : s.logRoom = s := by simp [State.logRoom, h]
  unfold State.logE
  rw [hr]
  dsimp only
  split
  · unfold State.startCommit
    dsimp only
    split
    · rfl
    · split <;> rfl
  · rfl

end Sys2Proof.Machine
end

