-- ==== Sys2Proof/Laws/Settle.lean ====
section
/-!
SUPPORT. Laws/Settle.lean: everything the end of a command can change: the role unit's causes, health, PAIR_OK and state with
their traces, MSI-X requests, and the pins that follow.
-/

namespace Sys2Proof.Machine

/-- The fields that the end of a command may write (R406, R431): causes, health, PAIR_OK and state of the role unit. -/
def settleKeys : List Nat :=
  [F.ROLE_CAUSES.key, F.ROLE_STATUS_HEALTH.key, F.ROLE_STATUS_OK_OUT.key, F.ROLE_STATUS_STATE.key]

/-- A state differs from another by what settles at the end of a command. -/
structure State.Settled (s t : State) : Prop where
  units : t.units = s.units
  shadows : t.shadows = s.shadows
  readSnaps : t.readSnaps = s.readSnaps
  bad : t.bad = s.bad
  bankA : t.bankA = s.bankA
  bankB : t.bankB = s.bankB
  factory : t.factory = s.factory
  time : t.time = s.time
  pwr : t.pwr = s.pwr
  prf : t.prf = s.prf
  fact : t.fact = s.fact
  stamps : t.stamps = s.stamps
  clk : t.clk = s.clk
  str : t.str = s.str
  dsp : t.dsp = s.dsp
  mem : t.mem = s.mem
  loc : t.loc = s.loc
  amp : t.amp = s.amp
  hlt : t.hlt = s.hlt
  draws : t.draws = s.draws
  pending : t.pending = s.pending
  getF : ∀ f : Fld, f.key ∉ settleKeys → t.getF f = s.getF f
  car : t.car = { s.car with sessions := t.car.sessions }
  session : State.SameSessions s t
  ring : t.log.ring = s.log.ring
  commitOn : s.log.commit.isSome = true → t.log.commit.isSome = true
  raw : t.ev.raw = s.ev.raw
  msixOn : t.ev.msixOn = s.ev.msixOn
  msixUnmasked : t.ev.msixUnmasked = s.ev.msixUnmasked
  msixBits : ∀ n ∈ s.ev.msixBits, n ∈ t.ev.msixBits
  sticky : ∀ n ∈ s.ev.sticky, n ∈ t.ev.sticky
  out : s.out <+: t.out
  pair : t.pair = { s.pair with syncRun := t.pair.syncRun, cut := t.pair.cut, bus := t.pair.bus, busFrom := t.pair.busFrom }
  svcEn : t.pins.svcEn = s.pins.svcEn
  pfwLow : t.pins.pfwLow = s.pins.pfwLow
  takeLow : t.pins.takeLow = s.pins.takeLow
  outputsOff : t.pins.outputsOff = s.pins.outputsOff

theorem State.Settled.refl (s : State) : State.Settled s s := by
  constructor <;> first | rfl | exact fun _ h => h | exact id | exact fun _ _ => rfl | exact State.SameSessions.refl rfl

theorem State.Settled.trans {s t u : State} (h : State.Settled s t) (g : State.Settled t u) : State.Settled s u where
  units := g.units.trans h.units
  shadows := g.shadows.trans h.shadows
  readSnaps := g.readSnaps.trans h.readSnaps
  bad := g.bad.trans h.bad
  bankA := g.bankA.trans h.bankA
  bankB := g.bankB.trans h.bankB
  factory := g.factory.trans h.factory
  time := g.time.trans h.time
  pwr := g.pwr.trans h.pwr
  prf := g.prf.trans h.prf
  fact := g.fact.trans h.fact
  stamps := g.stamps.trans h.stamps
  clk := g.clk.trans h.clk
  str := g.str.trans h.str
  dsp := g.dsp.trans h.dsp
  mem := g.mem.trans h.mem
  loc := g.loc.trans h.loc
  amp := g.amp.trans h.amp
  hlt := g.hlt.trans h.hlt
  draws := g.draws.trans h.draws
  pending := g.pending.trans h.pending
  getF := fun f hf => (g.getF f hf).trans (h.getF f hf)
  car := by rw [g.car, h.car]
  session := h.session.trans g.session
  ring := g.ring.trans h.ring
  commitOn := fun x => g.commitOn (h.commitOn x)
  raw := g.raw.trans h.raw
  msixOn := g.msixOn.trans h.msixOn
  msixUnmasked := g.msixUnmasked.trans h.msixUnmasked
  msixBits := fun n hn => g.msixBits n (h.msixBits n hn)
  sticky := fun n hn => g.sticky n (h.sticky n hn)
  out := h.out.trans g.out
  pair := by rw [g.pair, h.pair]
  svcEn := g.svcEn.trans h.svcEn
  pfwLow := g.pfwLow.trans h.pfwLow
  takeLow := g.takeLow.trans h.takeLow
  outputsOff := g.outputsOff.trans h.outputsOff

theorem State.Settled.on {s t : State} (h : State.Settled s t) (f : Fld) (hf : f.key ∉ settleKeys) : t.on f = s.on f := by
  simp [State.on, h.getF f hf]

/-- Traces settle. -/
theorem State.Traces.settled {s t : State} (h : State.Traces s t) : State.Settled s t where
  units := h.units
  shadows := h.shadows
  readSnaps := h.readSnaps
  bad := h.bad
  bankA := h.bankA
  bankB := h.bankB
  factory := h.factory
  time := h.time
  pwr := h.pwr
  prf := h.prf
  fact := h.fact
  stamps := h.stamps
  clk := h.clk
  str := h.str
  dsp := h.dsp
  mem := h.mem
  loc := h.loc
  amp := h.amp
  hlt := h.hlt
  draws := h.draws
  pending := h.pending
  getF := fun f _ => h.getF f
  car := h.car
  session := h.session
  ring := h.ring
  commitOn := h.commitOn
  raw := h.raw
  msixOn := h.msixOn
  msixUnmasked := h.msixUnmasked
  msixBits := fun n hn => by rw [h.msixBits]; exact hn
  sticky := h.sticky
  out := h.out
  pair := by rw [h.pair]
  svcEn := by rw [h.pins]
  pfwLow := by rw [h.pins]
  takeLow := by rw [h.pins]
  outputsOff := by rw [h.pins]

/-! ## The steps of settling -/

theorem State.settled_setF (s : State) {f : Fld} (v : Nat) (hf : f.key ∈ settleKeys) : State.Settled s (s.setF f v) := by
  constructor <;> first | rfl | exact fun _ h => h | exact id | exact List.prefix_refl _ | exact State.SameSessions.refl rfl | skip
  intro g hg
  exact State.getF_setF_ne _ _ (fun e => hg (e ▸ hf))

theorem State.settled_setPairAt (s : State) (new t : Nat) : State.Settled s (s.setPairAt new t) := by
  have cut : ∀ (s : State) c, State.Settled s (s.setPairD { s.pair with cut := c }) := by
    intro s c
    constructor <;> first | rfl | exact fun _ h => h | exact id | exact fun _ _ => rfl | exact State.SameSessions.refl rfl
  have run : ∀ (s : State) c, State.Settled s (s.setPairD { s.pair with syncRun := c }) := by
    intro s c
    constructor <;> first | rfl | exact fun _ h => h | exact id | exact fun _ _ => rfl | exact State.SameSessions.refl rfl
  unfold State.setPairAt
  dsimp only
  refine State.Settled.trans ?_ (cut _ _)
  unfold State.setPair
  dsimp only
  split
  · exact State.Settled.refl s
  · have h1 : State.Settled s ((s.setF F.ROLE_STATUS_STATE new).setPairD { s.pair with syncRun := 0 }) :=
      (s.settled_setF new (by decide)).trans (run _ 0)
    have h2 := (h1.trans (State.traces_fire _ Ev.ROLE_CHANGE roleObj (new + 16 * s.pairSt)).settled).trans
      (State.traces_logE _ 8 ((((s.setF F.ROLE_STATUS_STATE new).setPairD { s.pair with syncRun := 0 }).fire Ev.ROLE_CHANGE roleObj
        (new + 16 * s.pairSt)).partnerId) kSTATE false roleObj s.pairSt new).settled
    split
    · exact h2.trans (State.traces_fire _ _ _ _).settled
    · exact h2

theorem State.settled_setBus (s : State) (v : Bool) (t : Int) : State.Settled s (s.setBus v t) := by
  unfold State.setBus
  dsimp only
  constructor <;> first | rfl | exact fun _ h => h | exact id | exact fun _ _ => rfl | exact State.SameSessions.refl rfl

theorem State.settled_settlePair (s : State) : State.Settled s s.settlePair := by
  unfold State.settlePair
  dsimp only
  have fin2 : ∀ (s : State) (b : Bool), State.Settled s
      (((s.setF F.ROLE_CAUSES s.causes).setF F.ROLE_STATUS_HEALTH s.health).setF F.ROLE_STATUS_OK_OUT (b2n b)) := by
    intro s b
    exact ((s.settled_setF _ (by decide)).trans (State.settled_setF _ _ (by decide))).trans (State.settled_setF _ _ (by decide))
  have a : State.Settled s (if (decide (s.pairSt = psREADY) && decide (s.health = 2)) = true then s.setPairAt psSYNC s.in2ms else s) := by
    split
    · exact s.settled_setPairAt _ _
    · exact State.Settled.refl s
  generalize (if (decide (s.pairSt = psREADY) && decide (s.health = 2)) = true then s.setPairAt psSYNC s.in2ms else s) = u at a ⊢
  refine (a.trans ?_).trans (fin2 _ _)
  split
  · exact State.settled_setBus _ _ _
  · exact State.Settled.refl _

theorem State.settled_msixRequest (s : State) (v : Nat) : State.Settled s (s.msixRequest v) := by
  unfold State.msixRequest
  split
  · exact State.Settled.refl s
  · split
    · exact (State.traces_emit s _).settled
    · constructor <;> first | rfl | exact fun _ h => h | exact id | exact fun _ _ => rfl | exact State.SameSessions.refl rfl | exact List.prefix_refl _ | exact State.SameSessions.refl rfl | skip
      intro n hn
      dsimp only
      split
      · exact hn
      · exact List.mem_cons_of_mem _ hn

theorem State.settled_settleMsix (s : State) : State.Settled s s.settleMsix := by
  unfold State.settleMsix
  dsimp only
  have fold : ∀ (l : List Nat) (s : State), State.Settled s
      (l.foldl (fun s src => s.msixRequest (s.getF (F.EVT_EV_ROUTE_VEC (src / 16) (src % 16)))) s) := by
    intro l
    induction l with
    | nil => exact State.Settled.refl
    | cons a l ih => intro s; exact (s.settled_msixRequest _).trans (ih _)
  have a := fold (s.msixPending.filter (fun src => !s.ev.msixPend.contains src)) s
  generalize List.foldl _ s _ = u at a ⊢
  refine a.trans ?_
  constructor <;> first | rfl | exact fun _ h => h | exact id | exact fun _ _ => rfl | exact State.SameSessions.refl rfl

theorem State.settled_settlePins (s : State) : State.Settled s s.settlePins := by
  unfold State.settlePins
  constructor <;> first | rfl | exact fun _ h => h | exact id | exact fun _ _ => rfl | exact State.SameSessions.refl rfl

/-- The end of a command changes only what settles. -/
theorem State.settled_settleAll (s : State) : State.Settled s s.settleAll := by
  have leds : ∀ (s : State) l, State.Settled s { s with pins := { s.pins with leds := l } } := by
    intro s l
    constructor <;> first | rfl | exact fun _ h => h | exact id | exact fun _ _ => rfl | exact State.SameSessions.refl rfl
  have go : ∀ u : State, State.Settled s u → State.Settled s
      { u.settleMsix.settlePins with
        pins := { u.settleMsix.settlePins.pins with leds := u.settleMsix.settlePins.ledLevels } } := by
    intro u hu
    exact ((hu.trans u.settled_settleMsix).trans (State.settled_settlePins _)).trans (leds _ _)
  unfold State.settleAll
  dsimp only
  split
  · exact go _ s.settled_settlePair
  · exact go _ (s.settled_setF _ (by decide))

/-- Settling brings the pins in line with the state (R53, R86, R406). -/
theorem State.pins_settleAll (s : State) :
    s.settleAll.pins.irq0 = s.settleAll.irq0Level ∧ s.settleAll.pins.irq1 = s.settleAll.irq1Level ∧
    s.settleAll.pins.hostBusy = s.settleAll.busyLevel ∧ s.settleAll.pins.pairOk = s.settleAll.pairOkLevel := by
  have key : ∀ v : State, ∀ l : List Led,
      let w : State := { v.settlePins with pins := { v.settlePins.pins with leds := l } }
      w.pins.irq0 = w.irq0Level ∧ w.pins.irq1 = w.irq1Level ∧ w.pins.hostBusy = w.busyLevel ∧ w.pins.pairOk = w.pairOkLevel :=
    fun v l => ⟨rfl, rfl, rfl, rfl⟩
  exact key _ _

/-- What every meaning answers: its effect, and what settles at its end. -/
theorem happen_settled (body : State → State) (s : State) :
    ∃ t, happen body s = .next t ∧ State.Settled (body { s with out := [] }) t :=
  ⟨_, rfl, State.settled_settleAll _⟩

end Sys2Proof.Machine
end

