-- ==== Sys2Proof/Laws/Serve.lean ====
section
/-!
SUPPORT. Laws/Serve.lean: what the interpreter adds to an operation that is done: its entry, counters, mirror record and reply.
-/

namespace Sys2Proof.Machine

/-- The fields that concluding a request may write: those that settle, the carriers' counters, the mailbox's reply registers,
MODIFIED and the count of mirror records. -/
def serveKeys : List Nat :=
  settleKeys ++ [(F.CAR_RX_OK 0).key, (F.CAR_RX_OK 1).key, (F.CAR_RX_OK 2).key, (F.CAR_RX_OK 3).key,
    (F.CAR_ERR 0).key, (F.CAR_ERR 1).key, (F.CAR_ERR 2).key, (F.CAR_ERR 3).key,
    (F.CAR_BUSY_REJ 0).key, (F.CAR_BUSY_REJ 1).key, (F.CAR_BUSY_REJ 2).key, (F.CAR_BUSY_REJ 3).key, F.MBX_REPLY_LEN_LEN.key,
    F.MBX_STATUS_REPLY_OVW.key, F.MBX_STATUS_REPLY_READY.key, F.NVS_BANKS_MODIFIED.key, F.LINK_MIRRORS.key]

/-- A state differs from another by what concluding a request and settling do. -/
structure State.Served (s t : State) : Prop where
  units : t.units = s.units
  shadows : t.shadows = s.shadows
  readSnaps : t.readSnaps = s.readSnaps
  bad : t.bad = s.bad
  bankA : t.bankA = s.bankA
  bankB : t.bankB = s.bankB
  factory : t.factory = s.factory
  time : t.time = s.time
  pwr : t.pwr = s.pwr
  prf : t.prf = s.prf
  fact : t.fact = s.fact
  stamps : t.stamps = s.stamps
  clk : t.clk = s.clk
  str : t.str = s.str
  dsp : t.dsp = s.dsp
  mem : t.mem = s.mem
  loc : t.loc = s.loc
  amp : t.amp = s.amp
  hlt : t.hlt = s.hlt
  draws : t.draws = s.draws
  pending : t.pending = s.pending
  getF : ∀ f : Fld, f.key ∉ serveKeys → t.getF f = s.getF f
  car : t.car = { s.car with sessions := t.car.sessions, mbxRep := t.car.mbxRep, mbxRspCrc := t.car.mbxRspCrc,
                             spiReply := t.car.spiReply, uartBusy := t.car.uartBusy, executing := t.car.executing }
  session : State.SameSessions s t
  ring : t.log.ring = s.log.ring
  commitOn : s.log.commit.isSome = true → t.log.commit.isSome = true
  raw : t.ev.raw = s.ev.raw
  sticky : ∀ n ∈ s.ev.sticky, n ∈ t.ev.sticky
  out : s.out <+: t.out
  pair : t.pair = { s.pair with syncRun := t.pair.syncRun, cut := t.pair.cut, bus := t.pair.bus, busFrom := t.pair.busFrom,
                                reqAt := t.pair.reqAt, mirSeq := t.pair.mirSeq }
  svcEn : t.pins.svcEn = s.pins.svcEn
  pfwLow : t.pins.pfwLow = s.pins.pfwLow
  takeLow : t.pins.takeLow = s.pins.takeLow
  outputsOff : t.pins.outputsOff = s.pins.outputsOff

theorem State.Served.trans {s t u : State} (h : State.Served s t) (g : State.Served t u) : State.Served s u where
  units := g.units.trans h.units
  shadows := g.shadows.trans h.shadows
  readSnaps := g.readSnaps.trans h.readSnaps
  bad := g.bad.trans h.bad
  bankA := g.bankA.trans h.bankA
  bankB := g.bankB.trans h.bankB
  factory := g.factory.trans h.factory
  time := g.time.trans h.time
  pwr := g.pwr.trans h.pwr
  prf := g.prf.trans h.prf
  fact := g.fact.trans h.fact
  stamps := g.stamps.trans h.stamps
  clk := g.clk.trans h.clk
  str := g.str.trans h.str
  dsp := g.dsp.trans h.dsp
  mem := g.mem.trans h.mem
  loc := g.loc.trans h.loc
  amp := g.amp.trans h.amp
  hlt := g.hlt.trans h.hlt
  draws := g.draws.trans h.draws
  pending := g.pending.trans h.pending
  getF := fun f hf => (g.getF f hf).trans (h.getF f hf)
  car := by rw [g.car, h.car]
  session := h.session.trans g.session
  ring := g.ring.trans h.ring
  commitOn := fun x => g.commitOn (h.commitOn x)
  raw := g.raw.trans h.raw
  sticky := fun n hn => g.sticky n (h.sticky n hn)
  out := h.out.trans g.out
  pair := by rw [g.pair, h.pair]
  svcEn := g.svcEn.trans h.svcEn
  pfwLow := g.pfwLow.trans h.pfwLow
  takeLow := g.takeLow.trans h.takeLow
  outputsOff := g.outputsOff.trans h.outputsOff

theorem State.Settled.served {s t : State} (h : State.Settled s t) : State.Served s t where
  units := h.units
  shadows := h.shadows
  readSnaps := h.readSnaps
  bad := h.bad
  bankA := h.bankA
  bankB := h.bankB
  factory := h.factory
  time := h.time
  pwr := h.pwr
  prf := h.prf
  fact := h.fact
  stamps := h.stamps
  clk := h.clk
  str := h.str
  dsp := h.dsp
  mem := h.mem
  loc := h.loc
  amp := h.amp
  hlt := h.hlt
  draws := h.draws
  pending := h.pending
  getF := fun f hf => h.getF f (fun e => hf (List.mem_append_left _ e))
  car := by rw [h.car]
  session := h.session
  ring := h.ring
  commitOn := h.commitOn
  raw := h.raw
  sticky := h.sticky
  out := h.out
  pair := by rw [h.pair]
  svcEn := h.svcEn
  pfwLow := h.pfwLow
  takeLow := h.takeLow
  outputsOff := h.outputsOff

theorem State.Served.refl (s : State) : State.Served s s := (State.Settled.refl s).served

theorem State.Served.on {s t : State} (h : State.Served s t) (f : Fld) (hf : f.key ∉ serveKeys) : t.on f = s.on f := by
  simp [State.on, h.getF f hf]

/-! ## The steps -/

theorem State.served_setF (s : State) {f : Fld} (v : Nat) (hf : f.key ∈ serveKeys) : State.Served s (s.setF f v) := by
  constructor <;> first | rfl | exact fun _ h => h | exact id | exact State.SameSessions.refl rfl | skip
  intro g hg
  exact State.getF_setF_ne _ _ (fun e => hg (e ▸ hf))

theorem State.served_pair (s : State) (a : Option Int) (b : Nat) :
    State.Served s (s.setPairD { s.pair with reqAt := a, mirSeq := b }) := by
  constructor <;> first | rfl | exact fun _ h => h | exact id | exact fun _ _ => rfl | exact State.SameSessions.refl rfl

theorem State.served_car (s : State) (c : CarState)
    (h : c = { s.car with mbxRep := c.mbxRep, mbxRspCrc := c.mbxRspCrc, spiReply := c.spiReply,
                          uartBusy := c.uartBusy, executing := c.executing }) :
    State.Served s { s with car := c } := by
  have e : c.sessions = s.car.sessions := by rw [h]
  constructor
  case session => exact State.SameSessions.refl e
  case car => dsimp only at h ⊢; rw [← e] at h; exact h
  all_goals first | rfl | exact fun _ h => h | exact id | exact fun _ _ => rfl

theorem Carrier.rxOk_mem (c : Carrier) : (F.CAR_RX_OK c.idx).key ∈ serveKeys := by cases c <;> decide
theorem Carrier.err_mem (c : Carrier) : (F.CAR_ERR c.idx).key ∈ serveKeys := by cases c <;> decide
theorem Carrier.busyRej_mem (c : Carrier) : (F.CAR_BUSY_REJ c.idx).key ∈ serveKeys := by cases c <;> decide

theorem State.served_mbxFill (s : State) (b : List Byte) : State.Served s (s.mbxFill b) :=
  (s.served_car _ rfl).trans (State.served_setF _ _ (by decide))

theorem State.served_mbxReady (s : State) : State.Served s s.mbxReady := by
  have a : State.Served s (if s.on F.MBX_STATUS_REPLY_READY then s.setF F.MBX_STATUS_REPLY_OVW 1 else s) := by
    split
    · exact s.served_setF _ (by decide)
    · exact State.Served.refl s
  have b := a.trans (State.served_setF _ (f := F.MBX_STATUS_REPLY_READY) 1 (by decide))
  unfold State.mbxReady
  dsimp only
  generalize State.setF _ F.MBX_STATUS_REPLY_READY 1 = v at b ⊢
  split
  · exact b.trans (State.settled_msixRequest _ _).served
  · exact b

/-- A request's reply, on any carrier. -/
theorem State.served_reply (s : State) (q : Req) (st : Nat) (ps : List Byte) : State.Served s (s.reply q st ps) := by
  unfold State.reply
  dsimp only
  split
  · split
    · exact State.Served.refl s
    · exact (s.served_mbxFill _).trans (State.served_mbxReady _)
  · split
    · exact State.Served.refl s
    · exact s.served_car _ rfl
  · split
    · exact State.Served.refl s
    · exact (State.traces_emit s _).settled.served
  · exact (State.traces_emit s _).settled.served.trans (State.served_car _ _ rfl)

/-- What the mailbox holds once a reply is ready. -/
theorem State.mbxReady_holds (u : State) : u.mbxReady.on F.MBX_STATUS_REPLY_READY = true ∧
    u.mbxReady.getF F.MBX_REPLY_LEN_LEN = u.getF F.MBX_REPLY_LEN_LEN ∧
    u.mbxReady.car.mbxRspCrc = u.car.mbxRspCrc ∧ u.mbxReady.car.mbxRep = u.car.mbxRep := by
  have step : ∀ v : State, (v.on F.MBX_STATUS_REPLY_READY = true ∧ v.getF F.MBX_REPLY_LEN_LEN = u.getF F.MBX_REPLY_LEN_LEN ∧
      v.car.mbxRspCrc = u.car.mbxRspCrc ∧ v.car.mbxRep = u.car.mbxRep) → ∀ n,
      ((v.msixRequest n).on F.MBX_STATUS_REPLY_READY = true ∧ (v.msixRequest n).getF F.MBX_REPLY_LEN_LEN = u.getF F.MBX_REPLY_LEN_LEN ∧
      (v.msixRequest n).car.mbxRspCrc = u.car.mbxRspCrc ∧ (v.msixRequest n).car.mbxRep = u.car.mbxRep) := by
    intro v ⟨h1, h2, h3, h4⟩ n
    have m := v.settled_msixRequest n
    refine ⟨?_, ?_, ?_, ?_⟩
    · rw [m.on _ (by decide), h1]
    · rw [m.getF _ (by decide), h2]
    · rw [m.car, h3]
    · rw [m.car, h4]
  have base : ∀ w : State, w.getF F.MBX_REPLY_LEN_LEN = u.getF F.MBX_REPLY_LEN_LEN → w.car = u.car →
      ((w.setF F.MBX_STATUS_REPLY_READY 1).on F.MBX_STATUS_REPLY_READY = true ∧
      (w.setF F.MBX_STATUS_REPLY_READY 1).getF F.MBX_REPLY_LEN_LEN = u.getF F.MBX_REPLY_LEN_LEN ∧
      (w.setF F.MBX_STATUS_REPLY_READY 1).car.mbxRspCrc = u.car.mbxRspCrc ∧
      (w.setF F.MBX_STATUS_REPLY_READY 1).car.mbxRep = u.car.mbxRep) := by
    intro w h1 h2
    refine ⟨State.on_setF_one _ _ rfl, ?_, ?_, ?_⟩
    · rw [State.getF_setF_ne _ _ (by decide), h1]
    · rw [State.setF_car, h2]
    · rw [State.setF_car, h2]
  have b := base (if u.on F.MBX_STATUS_REPLY_READY then u.setF F.MBX_STATUS_REPLY_OVW 1 else u)
    (by split <;> [exact State.getF_setF_ne _ _ (by decide); rfl]) (by split <;> rfl)
  unfold State.mbxReady
  dsimp only
  generalize State.setF _ F.MBX_STATUS_REPLY_READY 1 = v at b ⊢
  split
  · exact step _ b _
  · exact b

/-- A request answered with an error. -/
theorem State.served_replyErr (s : State) (q : Req) (st off d : Nat) : State.Served s (s.replyErr q st off d) :=
  (s.served_setF _ q.carrier.err_mem).trans (State.served_reply _ _ _ _)

/-- A request answered BUSY. -/
theorem State.served_replyBusy (s : State) (q : Req) (i : Nat) : State.Served s (s.replyBusy q i) :=
  ((s.served_setF _ q.carrier.busyRej_mem).trans (State.traces_fire _ _ _ _).settled.served).trans (State.served_reply _ _ _ _)

/-- The words of a buffer filled from bytes. -/
theorem putWords_get : ∀ (n : Nat) (m : KV Nat) (i : Nat) (l : List Byte) (j : Nat),
    KV.get 0 (putWords n m i l) (i + j) =
      if j < n ∧ 4 * j < l.length then leNat ((l.drop (4 * j)).take 4) else KV.get 0 m (i + j) := by
  intro n
  induction n with
  | zero => intro m i l j; simp [putWords]
  | succ n ih =>
    intro m i l j
    unfold putWords
    by_cases he : l.isEmpty = true
    · have : l = [] := List.isEmpty_iff.1 he
      subst this
      simp
    · rw [if_neg he]
      have hl : 0 < l.length := by
        cases l with
        | nil => simp at he
        | cons a l => simp
      cases j with
      | zero =>
        have low : ∀ (n : Nat) (m : KV Nat) (i k : Nat) (l : List Byte), k < i → KV.get 0 (putWords n m i l) k = KV.get 0 m k := by
          intro n
          induction n with
          | zero => intro m i k l _; rfl
          | succ n ih2 =>
            intro m i k l hk
            unfold putWords
            split
            · rfl
            · rw [ih2 _ _ _ _ (by omega), KV.get_put_ne _ _ _ _ (by omega)]
        simp only [Nat.add_zero, Nat.mul_zero, List.drop_zero, Nat.zero_lt_succ, hl, and_self, if_true]
        rw [low n _ (i + 1) i _ (by omega), KV.get_put_self]
      | succ j =>
        have e : i + (j + 1) = (i + 1) + j := by omega
        rw [e, ih]
        have hd : 4 * j < (l.drop 4).length ↔ 4 * (j + 1) < l.length := by
          rw [List.length_drop]; omega
        rw [List.drop_drop, KV.get_put_ne _ _ _ _ (by omega : i + 1 + j ≠ i)]
        have e2 : 4 + 4 * j = 4 * (j + 1) := by omega
        by_cases hc : j < n ∧ 4 * j < (l.drop 4).length
        · rw [if_pos hc, if_pos ⟨by omega, hd.1 hc.2⟩, e2]
        · rw [if_neg hc, if_neg (fun h => hc ⟨by omega, hd.2 h.2⟩)]

theorem State.reply_answered (s : State) (q : Req) (st : Nat) (ps : List Byte) : (s.reply q st ps).Answered q st ps := by
  unfold State.Answered
  split
  · next hc =>
    by_cases hn : q.noreply = true
    · exact Or.inl hn
    · have e : s.reply q st ps = (s.mbxFill (q.replyBody st ps)).mbxReady := by simp [State.reply, hc, hn]
      rw [e]
      refine Or.inr ?_
      generalize q.replyBody st ps = b
      obtain ⟨h1, h2, h3, h4⟩ := State.mbxReady_holds (s.mbxFill b)
      refine ⟨h1, ?_, h3, fun i hi hb => ?_⟩
      · rw [h2]; exact State.getF_setF_self _ _ _
      · have := putWords_get 1024 s.car.mbxRep 0 b i
        rw [Nat.zero_add, if_pos ⟨hi, hb⟩] at this
        rw [h4]
        exact this
  · next hc =>
    by_cases hn : q.noreply = true
    · exact Or.inl hn
    · have e : s.reply q st ps = { s with car := { s.car with spiReply := some (q.replyPacket st ps) } } := by
        simp [State.reply, hc, hn]
      rw [e]
      exact Or.inr rfl
  · next hc =>
    by_cases hn : q.noreply = true
    · exact Or.inl hn
    · have e : s.reply q st ps = s.emit (.datagram q.session q.srcAddr q.srcPort
          (tagged (KV.get {} s.car.sessions q.session) q.session (q.replyPacket st ps))) := by simp [State.reply, hc, hn]
      rw [e]
      refine Or.inr ?_
      by_cases h0 : q.session = 0
      · refine ⟨[], fun _ => rfl, ?_⟩
        simp [State.emit, tagged, h0]
      · refine ⟨sessionTag (KV.get {} s.car.sessions q.session).key (q.replyPacket st ps), fun e => absurd e h0, ?_⟩
        simp [State.emit, tagged, h0]
  · next hc =>
    have e : s.reply q st ps = { (s.emit (.uart (uartReply st q.opcode ps))) with car := { s.car with uartBusy := true } } := by
      simp [State.reply, hc]
    rw [e]
    exact ⟨by simp [State.emit], rfl⟩

/-- A reply once written stays through what follows a request and what settles. -/
theorem State.Answered.settled {s t : State} {q : Req} {st : Nat} {ps : List Byte} (h : s.Answered q st ps)
    (g : State.Settled s t) : t.Answered q st ps := by
  unfold State.Answered at h ⊢
  split
  · next hc =>
    simp only [hc] at h
    rcases h with h | ⟨h1, h2, h3, h4⟩
    · exact Or.inl h
    · refine Or.inr ⟨?_, ?_, ?_, ?_⟩
      · rw [g.on _ (by decide), h1]
      · rw [g.getF _ (by decide), h2]
      · rw [g.car]; exact h3
      · rw [g.car]; exact h4
  · next hc =>
    simp only [hc] at h
    rcases h with h | h
    · exact Or.inl h
    · exact Or.inr (by rw [g.car]; exact h)
  · next hc =>
    simp only [hc] at h
    rcases h with h | ⟨tag, h1, h2⟩
    · exact Or.inl h
    · exact Or.inr ⟨tag, h1, g.out.subset h2⟩
  · next hc =>
    simp only [hc] at h
    exact ⟨g.out.subset h.1, by rw [g.car]; exact h.2⟩

/-- A reply once written stays where only what the interpreter executes changes. -/
theorem State.Answered.executing {s : State} {q : Req} {st : Nat} {ps : List Byte} (h : s.Answered q st ps)
    (c : Option Carrier) : State.Answered { s with car := { s.car with executing := c } } q st ps := by
  unfold State.Answered at h ⊢
  split <;> next hc => simp only [hc] at h; exact h

/-! ## A request that its operation has done -/

theorem State.served_finish_done (s0 u : State) (q : Req) (ps : List Byte) (log : Option Nat) :
    State.Served u (State.finish q s0 (.done u ps log)) ∧ (State.finish q s0 (.done u ps log)).Answered q stOK ps := by
  unfold State.finish
  dsimp only
  have a : State.Served u ((match log with
      | some obj => u.logE q.origin.code q.origin.id kCMD false obj q.opcode q.crc
      | none => u).incSat (F.CAR_RX_OK q.carrier.idx)) := by
    have : State.Served u (match log with
      | some obj => u.logE q.origin.code q.origin.id kCMD false obj q.opcode q.crc
      | none => u) := by
      split
      · exact (State.traces_logE _ _ _ _ _ _ _ _).settled.served
      · exact State.Served.refl u
    exact this.trans (State.served_setF _ _ q.carrier.rxOk_mem)
  exact ⟨a.trans (State.served_reply _ _ _ _), State.reply_answered _ _ _ _⟩

theorem State.served_sendMirror (s : State) (q : Req) (ps : List Byte) : State.Served s (s.sendMirror q ps) := by
  unfold State.sendMirror
  dsimp only
  have a := s.served_pair s.pair.reqAt (s.pair.mirSeq + 1)
  have b := a.trans (State.served_setF _ (f := F.LINK_MIRRORS)
    (satNat F.LINK_MIRRORS.width ((s.setPairD { s.pair with mirSeq := s.pair.mirSeq + 1 }).getF F.LINK_MIRRORS + 1)) (by decide))
  exact b.trans (State.traces_emit _ _).settled.served

/-- Concluding a request whose operation is done: its outcome and the reply (R40, R53, R413). -/
theorem State.served_conclude_done (s0 u : State) (q : Req) (m : Bool) (ps : List Byte) (log : Option Nat) :
    State.Served u (s0.conclude q m (.done u ps log)) ∧ (s0.conclude q m (.done u ps log)).Answered q stOK ps := by
  unfold State.conclude
  dsimp only
  have a : State.Served u (u.setPairD { u.pair with reqAt := none }) := u.served_pair none u.pair.mirSeq
  generalize u.setPairD { u.pair with reqAt := none } = v at a ⊢
  have b : State.Served u (if (m && (log.isSome || decide (q.opcode = 0x0110) || decide (q.opcode = 0x0111))) = true
      then v.sendMirror q ps else v) := by
    split
    · exact a.trans (State.served_sendMirror _ _ _)
    · exact a
  generalize (if (m && (log.isSome || decide (q.opcode = 0x0110) || decide (q.opcode = 0x0111))) = true
      then v.sendMirror q ps else v) = w at b ⊢
  generalize (log.isSome && ((decide (2 ≤ q.opcode % 256) && decide (q.opcode % 256 ≤ 4)) ||
      [0x0421, 0x0520, 0x0522].contains q.opcode)) = cfg
  have c : State.Served u (if cfg = true then w.modified else w) := by
    split
    · exact b.trans (State.served_setF _ _ (by decide))
    · exact b
  generalize (if cfg = true then w.modified else w) = x at c ⊢
  have d := State.served_finish_done x x q ps log
  exact ⟨(c.trans d.1).trans (State.served_car _ _ rfl), d.2.executing none⟩

/-- An operation works on the state as it stands but for the request's time and the carrier. -/
theorem State.opStart_eq (s : State) (q : Req) :
    ∃ a, s.opStart q = { s with pair := { s.pair with reqAt := a }, car := { s.car with executing := some q.carrier } } := by
  unfold State.opStart State.atRequest
  split
  · exact ⟨_, rfl⟩
  · exact ⟨s.pair.reqAt, rfl⟩

/-- A request that reaches its operation, which is done: what the operation leaves, and the reply. -/
theorem serveOp_done {s u : State} {op : Nat} {q : Req} {f : Req → State → OpOut} {ps : List Byte} {log : Option Nat}
    (h : s.Serves op q) (hf : f (q.as op) (s.opStart (q.as op)) = .done u ps log) :
    State.Served u (serveOp op f q s) ∧ (serveOp op f q s).Answered (q.as op) stOK ps := by
  have hr : s.reachable = true := by
    have := h.ready.alive
    unfold State.alive at this
    unfold State.reachable
    rw [Bool.and_eq_true] at this
    have h5 : s.pwr.boot = 5 := by simpa using this.1
    simp [h5, this.2]
  have e : serveOp op f q s = (s.perform (q.as op) f) := by
    unfold serveOp State.whenReached
    rw [if_pos hr]
    show s.answer (q.as op) f = _
    unfold State.answer
    rw [h.ready.free]
  have g : s.gate (q.as op) = none := h.gate
  rw [e]
  unfold State.perform
  rw [g]
  dsimp only
  rw [hf]
  simp only [h.ready.steady, Bool.false_and, Bool.false_eq_true, if_false]
  have c := State.served_conclude_done s u (q.as op) (s.sharesOp (q.as op)) ps log
  generalize s.conclude (q.as op) _ (OpOut.done u ps log) = v at c ⊢
  split
  · exact c
  · exact ⟨c.1.trans (State.served_car _ _ rfl), c.2.executing none⟩

/-- A request that reaches its operation, which is done: the command's next state. -/
theorem exec_done {s u : State} {op : Nat} {q : Req} {f : Req → State → OpOut} {ps : List Byte} {log : Option Nat}
    (h : s.fresh.Serves op q) (hf : f (q.as op) (s.fresh.opStart (q.as op)) = .done u ps log) :
    ∃ t, happen (serveOp op f q) s = .next t ∧ State.Served u t ∧ t.Answered (q.as op) stOK ps := by
  obtain ⟨a, b⟩ := serveOp_done h hf
  obtain ⟨t, e, g⟩ := happen_settled (serveOp op f q) s
  exact ⟨t, e, a.trans g.served, b.settled g⟩

/-- What the previous command sent has no part in whether a request is served. -/
theorem State.Serves.fresh {s : State} {op : Nat} {q : Req} (h : s.Serves op q) : s.fresh.Serves op q where
  ready := ⟨h.ready.alive, h.ready.free, h.ready.steady⟩
  gate := h.gate

@[simp] theorem Req.as_params (q : Req) (op : Nat) : (q.as op).params = q.params := rfl
@[simp] theorem Req.as_field (q : Req) (op a b : Nat) : (q.as op).field a b = q.field a b := rfl
@[simp] theorem Req.as_obj (q : Req) (op : Nat) : (q.as op).obj = q.obj := rfl
@[simp] theorem Req.as_opcode (q : Req) (op : Nat) : (q.as op).opcode = op := rfl
@[simp] theorem Req.as_origin (q : Req) (op : Nat) : (q.as op).origin = q.origin := rfl

/-- The state an operation works on, by the request time it may carry. -/
def State.at_ (s : State) (c : Carrier) (a : Option Int) : State :=
  { s with out := [], pair := { s.pair with reqAt := a }, car := { s.car with executing := some c } }

/-- A request whose operation is done whatever request time it carries: the operation's effect stands, and the reply. -/
theorem exec_op {s : State} {op : Nat} {q : Req} {f : Req → State → OpOut} {u : Option Int → State} {ps : Option Int → List Byte}
    {log : Option Int → Option Nat} (h : s.Serves op q)
    (hf : ∀ a, f (q.as op) (s.at_ q.carrier a) = .done (u a) (ps a) (log a)) :
    ∃ t a, happen (serveOp op f q) s = .next t ∧ State.Served (u a) t ∧ t.Answered (q.as op) stOK (ps a) := by
  obtain ⟨a, o⟩ := State.opStart_eq s.fresh (q.as op)
  have hf' : f (q.as op) (s.fresh.opStart (q.as op)) = .done (u a) (ps a) (log a) := by
    rw [o]
    exact hf a
  obtain ⟨t, e, g, b⟩ := exec_done h.fresh hf'
  exact ⟨t, a, e, g, b⟩

/-- A long operation begins: every waiting request is answered BUSY, and it runs. -/
theorem State.beginLong_longOp (s : State) (l : LongOp) : (s.beginLong l).car.longOp = some l ∧ (s.beginLong l).car.slots = [] := by
  have fold : ∀ (k : List (Nat × Req)) (u : State), State.Served u (k.foldl (fun s p => s.replyBusy p.2 l.idx) u) := by
    intro k
    induction k with
    | nil => exact State.Served.refl
    | cons a k ih => intro u; exact (u.served_replyBusy _ _).trans (ih _)
  unfold State.beginLong State.answerWaiting
  have a := fold s.car.slots { s with car := { s.car with longOp := some l, slots := [] } }
  constructor
  · exact (congrArg CarState.longOp a.car).trans rfl
  · exact (congrArg CarState.slots a.car).trans rfl

/-- Beginning a long operation leaves what serving a request leaves, beside the operation and the slots. -/
theorem State.served_beginLong (s : State) (l : LongOp) :
    State.Served { s with car := { s.car with longOp := some l, slots := [] } } (s.beginLong l) := by
  have fold : ∀ (k : List (Nat × Req)) (u : State), State.Served u (k.foldl (fun s p => s.replyBusy p.2 l.idx) u) := by
    intro k
    induction k with
    | nil => exact State.Served.refl
    | cons a k ih => intro u; exact (u.served_replyBusy _ _).trans (ih _)
  exact fold s.car.slots { s with car := { s.car with longOp := some l, slots := [] } }

/-- A request of a long operation that waits for no commit of the log: the operation runs, and its own effect stands. -/
theorem exec_long {s : State} {op : Nat} {q : Req} {f : Req → State → OpOut} {u : Option Int → State} {i a : Nat}
    (h : s.Serves op q) (hi : longIdx (q.as op) = (i, a)) (h1 : i ≠ 1) (h4 : i ≠ 4)
    (hf : ∀ r, f (q.as op) (s.at_ q.carrier r) = .long (u r)) :
    ∃ t r, happen (serveOp op f q) s = .next t ∧ t.car.longOp = some { idx := i, req := q.as op, arg := a } ∧
      State.Served { u r with car := { (u r).car with longOp := some { idx := i, req := q.as op, arg := a }, slots := [] } } t := by
  obtain ⟨r, o⟩ := State.opStart_eq s.fresh (q.as op)
  have hf' : f (q.as op) (s.fresh.opStart (q.as op)) = .long (u r) := by
    rw [o]
    exact hf r
  have hs := h.fresh
  obtain ⟨t, e, g⟩ := happen_settled (serveOp op f q) s
  have e1 : serveOp op f q s.fresh = (u r).beginLong { idx := i, req := q.as op, arg := a } := by
    have hr : s.fresh.reachable = true := by
      have := hs.ready.alive
      unfold State.alive at this
      unfold State.reachable
      rw [Bool.and_eq_true] at this
      have h5 : s.fresh.pwr.boot = 5 := by simpa using this.1
      simp [h5, this.2]
    unfold serveOp State.whenReached
    rw [if_pos hr]
    show s.fresh.answer (q.as op) f = _
    unfold State.answer
    rw [hs.ready.free]
    unfold State.perform
    have g : s.fresh.gate (q.as op) = none := hs.gate
    rw [g]
    dsimp only
    rw [hf']
    simp only [hs.ready.steady, Bool.false_and, Bool.false_eq_true, if_false]
    have c : s.fresh.conclude (q.as op) (s.fresh.sharesOp (q.as op)) (.long (u r)) =
        (u r).beginLong { idx := i, req := q.as op, arg := a } := by
      unfold State.conclude
      dsimp only
      rw [hi]
      dsimp only
      simp [h1, h4]
    rw [c]
    have l := ((u r).beginLong_longOp { idx := i, req := q.as op, arg := a }).1
    rw [l]
  have e2 : State.Settled (serveOp op f q s.fresh) t := g
  rw [e1] at e2
  have b := (u r).served_beginLong { idx := i, req := q.as op, arg := a }
  refine ⟨t, r, e, ?_, b.trans e2.served⟩
  rw [e2.car]
  exact ((u r).beginLong_longOp { idx := i, req := q.as op, arg := a }).1

/-- A request that only reads: its reply, and nothing else that an operation does. -/
theorem exec_read {s : State} {op : Nat} {q : Req} {f : Req → State → OpOut} {ps : List Byte} (h : s.Serves op q)
    (hf : ∀ a, f (q.as op) (s.at_ q.carrier a) = .done (s.at_ q.carrier a) ps none) :
    ∃ t, happen (serveOp op f q) s = .next t ∧ t.Answered (q.as op) stOK ps := by
  obtain ⟨t, a, e, _, b⟩ := exec_op h hf
  exact ⟨t, e, b⟩

end Sys2Proof.Machine
end

