-- ==== Sys2Proof/Laws/Frame.lean ====
section
/-!
SUPPORT. Laws/Frame.lean: how a frame is put together: a frame composes, a write inside its units keeps it, and a request, an
event and the end of a command keep every frame.
-/

namespace Sys2Proof.Machine

theorem bookFields_keys : bookFields.map Fld.key = serveKeys := by decide

theorem State.Touches.refl (s : State) (ps : List Part) (us : List Units) : s.Touches s ps us := by
  refine ⟨⟨rfl, fun p _ => ?_⟩, fun _ _ _ => rfl⟩
  cases p <;> first | rfl | exact ⟨rfl, rfl, rfl⟩ | exact ⟨rfl, rfl, rfl, rfl⟩ | exact ⟨rfl, fun _ => ⟨rfl, rfl, rfl⟩⟩

theorem Part.Same.trans {s t u : State} {p : Part} (h : Part.Same s t p) (g : Part.Same t u p) : Part.Same s u p := by
  cases p
  case carriers => exact ⟨by rw [g.1, h.1], fun n => ⟨(g.2 n).1.trans (h.2 n).1, (g.2 n).2.1.trans (h.2 n).2.1, (g.2 n).2.2.trans (h.2 n).2.2⟩⟩
  case pair => exact Eq.trans g (by rw [h])
  case inputs => exact ⟨g.1.trans h.1, g.2.1.trans h.2.1, g.2.2.1.trans h.2.2.1, g.2.2.2.trans h.2.2.2⟩
  case banks => exact ⟨g.1.trans h.1, g.2.1.trans h.2.1, g.2.2.trans h.2.2⟩
  all_goals exact Eq.trans g h

theorem State.Touches.trans {s t u : State} {ps : List Part} {us : List Units} (h : s.Touches t ps us)
    (g : t.Touches u ps us) : s.Touches u ps us :=
  ⟨⟨g.1.1.trans h.1.1, fun p hp => (h.1.2 p hp).trans (g.1.2 p hp)⟩, fun f hb hu => (g.2 f hb hu).trans (h.2 f hb hu)⟩

/-- A frame of less is a frame of more. -/
theorem State.Touches.mono {s t : State} {ps ps' : List Part} {us us' : List Units} (h : s.Touches t ps us)
    (hp : ∀ p ∈ ps, p ∈ ps') (hu : ∀ u ∈ us, u ∈ us') : s.Touches t ps' us' :=
  ⟨⟨h.1.1, fun p n => h.1.2 p (fun m => n (hp p m))⟩,
   fun f hb n => h.2 f hb (fun ⟨u, m, x⟩ => n ⟨u, hu u m, x⟩)⟩

/-- What concluding a request and settling change is in every frame. -/
theorem State.Served.touches {s t : State} (h : State.Served s t) (ps : List Part) (us : List Units) : s.Touches t ps us := by
  refine ⟨⟨h.pending, fun p _ => ?_⟩, fun f hb _ => h.getF f (by rw [← bookFields_keys]; exact hb)⟩
  cases p
  case common => exact h.units
  case shadows => exact h.shadows
  case snaps => exact h.readSnaps
  case parity => exact h.bad
  case banks => exact ⟨h.bankA, h.bankB, h.factory⟩
  case time => exact h.time
  case power => exact h.pwr
  case proof => exact h.prf
  case data => exact h.fact
  case stamps => exact h.stamps
  case clock => exact h.clk
  case streams => exact h.str
  case dsp => exact h.dsp
  case memory => exact h.mem
  case ports => exact h.loc
  case amps => exact h.amp
  case health => exact h.hlt
  case carriers => exact ⟨h.car, h.session⟩
  case pair => exact h.pair
  case inputs => exact ⟨h.svcEn, h.pfwLow, h.takeLow, h.outputsOff⟩
  case pages => exact h.ring
  case draws => exact h.draws

theorem State.Traces.touches {s t : State} (h : State.Traces s t) (ps : List Part) (us : List Units) : s.Touches t ps us :=
  h.settled.served.touches ps us

/-- A write of a field inside the frame's units. -/
theorem State.touches_setF (s : State) {f : Fld} (v : Nat) (ps : List Part) {us : List Units} (hf : f.within us) :
    s.Touches (s.setF f v) ps us := by
  refine ⟨⟨rfl, fun p _ => ?_⟩, fun g _ hg => State.getF_setF_ne _ _ (fun e => hg ?_)⟩
  · cases p <;> first | rfl | exact ⟨rfl, rfl, rfl⟩ | exact ⟨rfl, rfl, rfl, rfl⟩ | exact ⟨rfl, fun _ => ⟨rfl, rfl, rfl⟩⟩
  · unfold Fld.within at hf ⊢
    rw [e]
    exact hf

/-- What a happening answers stays in a frame that its effect stays in. -/
theorem happen_touches {body : State → State} {s t : State} {ps : List Part} {us : List Units} (e : happen body s = .next t)
    (h : s.fresh.Touches (body s.fresh) ps us) : s.Touches t ps us := by
  obtain ⟨u, e', g⟩ := happen_settled body s
  rw [e] at e'
  injection e' with e'
  subst e'
  have a : s.Touches s.fresh ps us := State.Touches.refl s ps us
  exact (a.trans h).trans (g.served.touches ps us)

/-- A happening of a running block. -/
theorem State.touches_whenAlive {s : State} {f : State → State} {ps : List Part} {us : List Units}
    (h : s.Touches (f s) ps us) : s.Touches (s.whenAlive f) ps us := by
  unfold State.whenAlive
  split
  · exact h
  · exact State.Touches.refl s ps us

/-- A port's happening. -/
theorem State.touches_whenPort {s : State} {p : Nat} {f : State → State} {ps : List Part} {us : List Units}
    (h : s.Touches (f s) ps us) : s.Touches (s.whenPort p f) ps us := by
  unfold State.whenPort
  split
  · exact h
  · exact State.Touches.refl s ps us

/-- What an operation's outcome changes stays in a frame. -/
def OpOut.Touches (s : State) (ps : List Part) (us : List Units) : OpOut → Prop
  | .done u _ _ => s.Touches u ps us
  | .failWith u _ _ _ => s.Touches u ps us
  | _ => True

/-- Concluding a request keeps a frame, whatever its outcome, but for a long operation that begins. -/
theorem State.touches_conclude {s0 : State} {q : Req} {m : Bool} {out : OpOut} {ps : List Part} {us : List Units}
    (h : out.Touches s0 ps us) (hl : ∀ u, out ≠ .long u) : s0.Touches (s0.conclude q m out) ps us := by
  cases out with
  | done u p l => exact State.Touches.trans h ((State.served_conclude_done s0 u q m p l).1.touches ps us)
  | fail st off d => exact (State.served_replyErr s0 q st off d).touches ps us
  | failWith u st off d =>
    have a : State.Served u (u.setPairD { u.pair with reqAt := none }) := u.served_pair none u.pair.mirSeq
    exact State.Touches.trans h ((a.trans (State.served_replyErr _ q st off d)).touches ps us)
  | denied obj =>
    have a : State.Traces s0 (s0.denyCommand q obj) := by
      unfold State.denyCommand
      exact (State.traces_logDenied _ _ _ _ _ _).trans (State.traces_fire _ _ _ _)
    exact (a.settled.served.trans (State.served_replyErr _ q stDENIED 0xFFFF 0)).touches ps us
  | long u => exact absurd rfl (hl u)

/-- A request whose operation begins no long operation keeps the frame of its operation. -/
theorem serveOp_touches {op : Nat} {f : Req → State → OpOut} {q : Req} {s : State} {ps : List Part} {us : List Units}
    (h : ∀ u, (f (q.as op) u).Touches u ps us) (hl : ∀ u v, f (q.as op) u ≠ .long v) : s.Touches (serveOp op f q s) ps us := by
  unfold serveOp State.whenReached
  split
  · show s.Touches (s.answer (q.as op) f) ps us
    unfold State.answer
    split
    · exact (State.served_replyBusy _ _ _).touches ps us
    · unfold State.perform
      split
      · next o ho =>
        have g : ∀ u, o ≠ .long u := by
          intro u e
          subst e
          unfold State.gate at ho
          repeat (split at ho; (injection ho with ho; exact OpOut.noConfusion ho))
          contradiction
        cases o with
        | done u p l =>
          exfalso
          unfold State.gate at ho
          repeat (split at ho; (injection ho with ho; exact OpOut.noConfusion ho))
          contradiction
        | failWith u st off d =>
          exfalso
          unfold State.gate at ho
          repeat (split at ho; (injection ho with ho; exact OpOut.noConfusion ho))
          contradiction
        | fail st off d => exact (State.served_replyErr s _ st off d).touches ps us
        | denied obj =>
          have a : State.Traces s (s.denyCommand (q.as op) obj) := by
            unfold State.denyCommand
            exact (State.traces_logDenied _ _ _ _ _ _).trans (State.traces_fire _ _ _ _)
          exact (a.settled.served.trans (State.served_replyErr _ _ stDENIED 0xFFFF 0)).touches ps us
        | long u => exact absurd rfl (g u)
      · dsimp only
        obtain ⟨a, o⟩ := State.opStart_eq s (q.as op)
        have st : s.Touches (s.opStart (q.as op)) ps us := by
          rw [o]
          refine State.Served.touches ?_ ps us
          exact (s.served_pair a s.pair.mirSeq).trans (State.served_car _ _ rfl)
        have h1 := h (s.opStart (q.as op))
        have h2 : (f (q.as op) (s.opStart (q.as op))).Touches s ps us := by
          generalize f (q.as op) (s.opStart (q.as op)) = out at h1
          cases out <;> first | exact st.trans h1 | trivial
        have hl' := hl (s.opStart (q.as op))
        generalize f (q.as op) (s.opStart (q.as op)) = out at h2 hl'
        have fin : ∀ out : OpOut, out.Touches s ps us → (∀ v, out ≠ .long v) → s.Touches
            (match (s.conclude (q.as op) (s.sharesOp (q.as op)) out).car.longOp with
              | some _ => s.conclude (q.as op) (s.sharesOp (q.as op)) out
              | none => { s.conclude (q.as op) (s.sharesOp (q.as op)) out with
                  car := { (s.conclude (q.as op) (s.sharesOp (q.as op)) out).car with executing := none } }) ps us := by
          intro out ho hn
          have c := State.touches_conclude (s0 := s) (q := q.as op) (m := s.sharesOp (q.as op)) ho hn
          generalize s.conclude (q.as op) (s.sharesOp (q.as op)) out = w at c ⊢
          split
          · exact c
          · exact c.trans ((State.served_car _ _ rfl).touches ps us)
        apply fin
        · split
          · split <;> trivial
          · exact h2
        · intro v e
          split at e
          · split at e <;> first | exact hl' v e | exact OpOut.noConfusion e
          · exact hl' v e
  · exact State.Touches.refl s ps us

end Sys2Proof.Machine
end

