-- ==== Sys2Proof/WellFormed.lean ====
section
/-!
DEFINITION. WellFormed.lean: what a command's operands must be for a carrier, a port or a measurement to be able to bring
them: the ranges of header fields, addresses, times, frames and samples. The meanings are total and do not rest on it.
-/

namespace Sys2Proof.Machine

/-- A request as a carrier can bring it (R33, R54): the opcode of its row, header fields of 16 bits, at most 4,080 parameter
bytes, privilege that goes with its origin code (Table 4.5). -/
def Req.wf (q : Req) (op : Nat) : Bool :=
  decide (q.opcode = op) && decide (op < 65536) && decide (q.params.length ≤ 4080) && decide (q.seq < 65536) &&
  decide (q.session < 65536) && decide (q.crc < 65536) && (q.origin.priv == [2, 4, 7].contains q.origin.code || decide (q.origin.code = 5) || decide (q.origin.code = 8))

/-- A time of 112 bits with nanoseconds below a second (R108). -/
def Tai.wf (t : Tai) : Bool := decide (t.sec < 2 ^ 64) && decide (t.ns < 1000000000) && decide (t.frac < 65536)

/-- A 32-bit address; a carrier can bring one that names no register (R57). -/
def addrOk (a : Nat) : Bool := decide (a < 2 ^ 32)

/-- A PTP message with the field widths of IEEE 1588 (R114). -/
def PtpMsg.wf (m : PtpMsg) : Bool :=
  decide (m.version < 16) && decide (m.msgType < 16) && decide (m.dom < 256) && decide (m.seq < 65536) &&
  decide (m.src < 2 ^ 80) && decide (m.reqSrc < 2 ^ 80) && decide (m.sec < 2 ^ 48) && decide (m.ns < 1000000000)

/-- An Announce's fields (R113). -/
def Announce.wf (a : Announce) : Bool :=
  decide (a.gm < 2 ^ 64) && decide (a.prio1 < 256) && decide (a.cls < 256) && decide (a.acc < 256) &&
  decide (a.variance < 65536) && decide (a.prio2 < 256) && decide (a.steps < 65536)

/-- A VLAN tag: priority and VLAN ID. -/
def tagOk (t : Option (Nat × Nat)) : Bool :=
  match t with
  | none => true
  | some (p, v) => decide (p < 8) && decide (v < 4096)

/-- A received frame. -/
def FrameIn.wf (f : FrameIn) : Bool := decide (f.dst < 2 ^ 48) && tagOk f.tag && f.at_.wf

/-- A media packet: both addresses of one IP version, header fields in their widths (R236). -/
def MediaPkt.wf (p : MediaPkt) : Bool :=
  (decide (p.src.length = 4) || decide (p.src.length = 16)) && decide (p.dst.length = p.src.length) &&
  decide (p.sport < 65536) && decide (p.dport < 65536) && decide (p.ttl < 256) && decide (p.dscp < 64) &&
  decide (p.ver < 4) && decide (p.pt < 128) && decide (p.ssrc < 2 ^ 32) && decide (p.seq < 65536) && decide (p.ts < 2 ^ 32)

/-- A signed value of 32 bits: a sample in Q1.31 (R3). -/
def sampleOk (v : Int) : Bool := decide (-(2 ^ 31) ≤ v) && decide (v < 2 ^ 31)

/-- What a tick boundary takes in: samples in range for eight PDM lanes' microphones and 32 rings. -/
def TickIn.wf (t : TickIn) : Bool :=
  t.pdm.all (fun p => decide (p.1 < 16) && p.2.all sampleOk) && t.rings.all (fun p => decide (p.1 < 32) && p.2.all sampleOk)

/-- A TDM frame: at most 32 slots, samples in range. -/
def TdmFrame.wf (f : TdmFrame) : Bool := decide (f.slots.length ≤ 32) && f.slots.all sampleOk

/-- The captures of seven references. -/
def RefTickIn.wf (t : RefTickIn) : Bool := decide (t.refs.length ≤ 7)

/-- A trip: half-bridges named at most once. -/
def TripIn.wf (t : TripIn) : Bool := decide (t.high.length ≤ 2) && decide (t.low.length ≤ 2)

/-- A heartbeat's fields (Table 18.1). -/
def Heartbeat.wf (h : Heartbeat) : Bool := decide (h.st < 8) && decide (h.mac < 2 ^ 48) && h.macs.all (fun m => decide (m < 2 ^ 48))

/-- A mirror record: a command or a register write in the widths of its carriers, or an offset of a sequence number. -/
def MirrorRec.wf (r : MirrorRec) : Bool :=
  match r with
  | .cmd op params _ crc at_ trg => decide (op < 65536) && decide (params.length ≤ 4080) && decide (crc < 65536) && at_.wf &&
      (match trg with
        | some k => decide (k < 32)
        | none => true)
  | .reg addr data _ _ => addrOk addr && decide (data < 2 ^ 32)
  | .seq e off => decide (e < 512) && decide (off < 65536)

/-- A clone's staged time. -/
def CloneIn.wf (c : CloneIn) : Bool := c.time.wf

/-- The day's measurements of eight channels. -/
def DayIn.wf (d : DayIn) : Bool := d.rdson.all (fun p => decide (p.1 < 8)) && d.tsw.all (fun p => decide (p.1 < 8))

/-- What step 2 of a cold start looks at: no more than the three I/O supplies that may be 3.3 V. -/
def StepTwo.wf (t : StepTwo) : Bool := decide (t.vio33.length ≤ 3)

/-- What steps 3 to 7 look at: one bit a patch block. -/
def ColdIn.wf (c : ColdIn) : Bool := decide (c.patch < 16)

/-- An MDIO answer of 16 bits, if the PHY answered. -/
def answerOk (a : Option Nat) : Bool :=
  match a with
  | none => true
  | some d => decide (d < 65536)

/-- A load in percent, where one is reported. -/
def pctOk (p : Option Nat) : Bool :=
  match p with
  | none => true
  | some n => decide (n < 65536)

end Sys2Proof.Machine

namespace Sys2Proof

open Sys2Proof.Machine

/-- A command whose operands its carrier, port or measurement can bring. -/
def Instr.wf (i : Instr) : Bool :=
  match i with
  | .store q => q.wf 0x0010
  | .recall q => q.wf 0x0011
  | .factoryRecall q => q.wf 0x0012
  | .logRead q => q.wf 0x0020
  | .logFlush q => q.wf 0x0021
  | .regRead q => q.wf 0x0030
  | .regWrite q => q.wf 0x0031
  | .selftest q => q.wf 0x0040
  | .fwBlock q => q.wf 0x0050
  | .fwCommit q => q.wf 0x0051
  | .info q => q.wf 0x0060
  | .sessionSet q => q.wf 0x0002
  | .objGet sub q => decide (sub < 15) && q.wf (sub * 256 + 1)
  | .objSet sub q => decide (sub < 15) && q.wf (sub * 256 + 2)
  | .objEnable sub q => decide (sub < 15) && q.wf (sub * 256 + 3)
  | .objDisable sub q => decide (sub < 15) && q.wf (sub * 256 + 4)
  | .objStatus sub q => decide (sub < 15) && q.wf (sub * 256 + 5)
  | .netPortSet q => q.wf 0x0302
  | .rxEntrySet q => q.wf 0x0402
  | .rxEntryEnable q => q.wf 0x0403
  | .rxEntryDisable q => q.wf 0x0404
  | .txEntrySet q => q.wf 0x0402
  | .txEntryEnable q => q.wf 0x0403
  | .txEntryDisable q => q.wf 0x0404
  | .graphHeaderSet q => q.wf 0x0502
  | .graphEnable q => q.wf 0x0503
  | .graphDisable q => q.wf 0x0504
  | .tdmDisable q => q.wf 0x0604
  | .tdmStatus q => q.wf 0x0605
  | .ampDisable q => q.wf 0x0804
  | .ampStatus q => q.wf 0x0805
  | .tsqRead q => q.wf 0x0112
  | .trgArm q => q.wf 0x0110
  | .trgDisarm q => q.wf 0x0111
  | .align q => q.wf 0x0210
  | .mdioRead q answer => q.wf 0x0310 && answerOk answer
  | .mdioWrite q => q.wf 0x0310
  | .rxSwap q => q.wf 0x0410
  | .dirRead q => q.wf 0x0420
  | .dirStream q => q.wf 0x0422
  | .sdpImport q => q.wf 0x0421
  | .dirImport q => q.wf 0x0423
  | .txSwap q => q.wf 0x0411
  | .sdpExport q => q.wf 0x0424
  | .graphSched q => q.wf 0x0512
  | .graphLoad q => q.wf 0x0520
  | .graphRead q => q.wf 0x0521
  | .graphParam q => q.wf 0x0522
  | .meterRead q => q.wf 0x0524
  | .graphSwap q => q.wf 0x0523
  | .memRetrain q => q.wf 0x0910
  | .diagOffline q => q.wf 0x0810
  | .diagLive q => q.wf 0x0811
  | .diagRead q => q.wf 0x0812
  | .plateStore q _ => q.wf 0x0813
  | .plateClear q _ => q.wf 0x0813
  | .pairTakeover q => q.wf 0x0A10
  | .pairHealth q => q.wf 0x0A11
  | .ledgerRead q => q.wf 0x0B20
  | .baselineReset q => q.wf 0x0B12
  | .calenderRun q => q.wf 0x0B10
  | .calenderApprove q => q.wf 0x0B11
  | .pwrState q => q.wf 0x0E10
  | .reset q => q.wf 0x0E12
  | .proofStart q _ _ => q.wf 0x0D10
  | .proofEnd q _ _ => q.wf 0x0D10
  | .proofStatus q _ _ => q.wf 0x0D10
  | .mailboxDoorbell _ _ => true
  | .mailboxReplyRelease _ _ => true
  | .spiCommandFrame _ bytes => decide (bytes.length ≤ 4104)
  | .spiReplyFetch _ => true
  | .spiEventFetch _ => true
  | .spiRegisterWrite _ bytes => decide (bytes.length ≤ 4104)
  | .netControlDatagram _ src sport off _ bytes => decide (src < 2 ^ 128) && decide (sport < 65536) && decide (off + bytes.length < 65536)
  | .datagramReassemblyTimeout src => decide (src < 2 ^ 128)
  | .uartLine _ line => decide (line.length ≤ 8256)
  | .uartLineTimeout => true
  | .interpreterServe _ _ => true
  | .longOpEnd _ => true
  | .uartEventLine => true
  | .regWriteGeneric _ addr be _ => addrOk addr && decide (be < 16)
  | .pcieWriteBurst _ addr data => addrOk addr && decide (2 ≤ data.length)
  | .pcieReadBurst _ addr count => addrOk addr && decide (2 ≤ count)
  | .multiwordLowerWrite _ addr _ => addrOk addr
  | .multiwordCommit _ addr _ _ => addrOk addr
  | .snapshotRead _ addr => addrOk addr
  | .timSnapRead _ => true
  | .tsqEntryRemove _ _ => true
  | .parityClr _ => true
  | .busErrClr _ => true
  | .stickyClear _ addr _ => addrOk addr
  | .unitEnSet _ addr _ => addrOk addr
  | .unitEnClear _ addr _ => addrOk addr
  | .bankSwapRequest _ addr => addrOk addr
  | .rxSwapRequest _ => true
  | .txSwapRequest _ => true
  | .grtSwapRequest _ => true
  | .tdmSwapRequest _ _ => true
  | .tbLoadCommit _ _ => true
  | .steerCommit _ _ => true
  | .trgArmReg _ _ => true
  | .trgDisarmReg _ _ => true
  | .asymClr _ => true
  | .calRunRequest _ => true
  | .calApproveWrite _ mask => decide (mask < 128)
  | .manualSet _ => true
  | .manualClear _ => true
  | .hoModeWrite _ mode => decide (mode < 4)
  | .burinEnClear _ _ => true
  | .burinEnSet _ _ => true
  | .hostRingProd _ _ prod => decide (prod < 65536)
  | .txrProdWrite _ _ prod => decide (prod < 65536)
  | .rxrProdWrite _ _ prod => decide (prod < 65536)
  | .msixVectorUnmask _ _ => true
  | .xdomFallback _ addr _ => addrOk addr
  | .parityScrub _ => true
  | .logCommitTimer => true
  | .logPageVerified _ => true
  | .logCommitEnd => true
  | .pfwNFall => true
  | .powerFailCommitEnd => true
  | .pfwNRise _ => true
  | .tickBoundary inp => inp.wf
  | .timeStep => true
  | .todChange => true
  | .ptpSyncRx _ m raw => m.wf && raw.wf
  | .ptpFollowUpRx _ m => m.wf
  | .ptpDelayRespRx _ m => m.wf
  | .ptpPdelayRespRx _ m fu raw => m.wf && fu.wf && raw.wf
  | .ptpAnnounceRx _ m a => m.wf && a.wf
  | .ptpDelayReqRx _ m raw => m.wf && raw.wf
  | .ptpMasterTxInterval _ _ => true
  | .ptpDelayReqTxInterval _ raw => raw.wf
  | .announceReceiptTimeout _ => true
  | .syncReceiptTimeout _ => true
  | .followUpTimeout _ => true
  | .delayResponseTimeout _ => true
  | .leapDayEnd => true
  | .asymTrackPeriod _ => true
  | .timedFrameLaunch _ at_ => at_.wf
  | .triggerFire _ at_ => at_.wf
  | .ccGridPoint _ => true
  | .refTick inp => inp.wf
  | .refQualify _ => true
  | .refDwellExpiry _ => true
  | .refClearExpiry _ => true
  | .wckStopDetect _ => true
  | .wckRateRecognised _ _ => true
  | .switchStart => true
  | .buildOut _ _ => true
  | .settleStep => true
  | .holdoverSecond _ => true
  | .mediaPllUnlock => true
  | .mediaPllLock => true
  | .alignAtS => true
  | .linkUp _ _ _ _ => true
  | .linkDown _ => true
  | .ingressFrame _ f => f.wf
  | .mediaPacketRx _ p at_ => p.wf && at_.wf
  | .bestEffortFrameRx _ _ tag _ at_ _ => tagOk tag && at_.wf
  | .pauseFrameRx _ _ en quanta => decide (en < 256) && quanta.all (fun n => decide (n < 65536))
  | .pauseExpiry _ _ => true
  | .esmcPduRx _ _ => true
  | .esmcTimeout _ => true
  | .announcementRx _ data => decide (data.length ≤ 1500)
  | .peerAgeOut dev => decide (dev < 65536)
  | .announceRound => true
  | .egressFrameStart _ at_ => at_.wf
  | .macUnderrun _ => true
  | .hostTxDescriptor _ _ _ at_ => at_.wf
  | .utilisationSecond meas => decide (meas.length ≤ 4)
  | .stepDownDue _ => true
  | .secondPortStep _ => true
  | .speedStepDone _ => true
  | .stepTimeout _ => true
  | .pendingStreamTimeout _ _ => true
  | .lpiEnter _ => true
  | .lpiExit _ => true
  | .fdEstimatorUpdate _ _ _ => true
  | .rxSwapAtTsw => true
  | .oldGroupLeave => true
  | .txSwapAtTsw => true
  | .graphSwapAtTsw => true
  | .graphParamApply => true
  | .sheetComplete _ _ => true
  | .backingSliceEnd _ _ pct => pctOk pct
  | .burinIdleRetry _ _ => true
  | .sheetDeadline => true
  | .burinSelftestDue _ => true
  | .dramMr4Change _ _ _ => true
  | .retrainDue => true
  | .retrainPassEnd margins _ => decide (margins.length ≤ 4)
  | .scrubPassEnd _ => true
  | .ddrPhyUnlock => true
  | .ddrPhyLock => true
  | .bwSecond avg p99 peak => decide (avg ≤ peak) && decide (p99 ≤ peak)
  | .tdmFrameSync _ f => f.wf
  | .tdmClockLost _ _ => true
  | .zcTimeout _ _ _ => true
  | .pdmClockLost _ => true
  | .pdmStuck _ _ _ => true
  | .pdmZcTimeout _ _ => true
  | .ampTrip _ t => t.wf
  | .ampBootstrapDone _ => true
  | .ampStopDone _ => true
  | .ampZcTimeout _ => true
  | .ampRetry _ => true
  | .ampProbeEnd _ _ _ _ => true
  | .ampBackoffReset _ => true
  | .ampHoldStart _ _ _ => true
  | .ampHoldClear _ _ => true
  | .clkmuteGatesOff _ => true
  | .clkmuteResume _ => true
  | .ampCalPassEnd _ _ _ => true
  | .diagOfflineEnd _ => true
  | .liveTestDue _ => true
  | .liveWindowEnd _ _ _ _ _ => true
  | .liveDeferTimeout _ _ => true
  | .heartbeatRx h => h.wf
  | .heartbeatTx => true
  | .heartbeatTimeout => true
  | .pairLaneLockLoss => true
  | .mirrorRecordRx _ r => r.wf
  | .lockstepShareRx _ => true
  | .digestWindowEnd => true
  | .digestRx _ digests _ => digests.all (fun d => decide (d < 2 ^ 32))
  | .healthReportTx => true
  | .healthReportRx bytes => decide (bytes.length ≤ 256)
  | .repairRequestRx _ seqs _ => seqs.all (fun n => decide (n < 65536))
  | .pairTakeAssert => true
  | .handoverAtTh => true
  | .cloneStagingDone c => c.wf
  | .cloneApply => true
  | .cloneTimeout => true
  | .cloneRetry => true
  | .ringOscSample _ => true
  | .replicaSample _ _ _ => true
  | .dieTempSample _ => true
  | .dailyLedger d => d.wf
  | .calenderPeriodic => true
  | .calenderRunEnd => true
  | .nvmRefreshDue => true
  | .lowerStateEnter => true
  | .wakeCapture src _ => src.all (fun w => decide (w.1 < 5))
  | .wakeComplete => true
  | .listenToRunDone => true
  | .powerOnResetRelease _ t => t.wf
  | .coldStartReady c => c.wf
  | .supplyRecheck t => t.wf
  | .refxoRetry t => t.wf
  | .refxoLost => true
  | .xo32Switch => true
  | .xo32FailTimeout => true
  | .resetNAssert t => t.wf
  | .resetCommandAct t => t.wf
  | .presentNRise => true
  | .presentNSettled t => t.wf
  | .perstNAssert => true
  | .perstNRise => true
  | .supplySample mv => decide (mv.length ≤ 32)
  | .proofHoldExpiry _ => true
  | .proofComplete _ _ _ => true
  | .xo32CrystalStop => true
  | .pdmClockReturn _ => true
  | .pdmStuckClear _ _ => true
  | .serdesEyeSample _ => true
  | .preMasterQualificationTimeout _ => true
  | .fetTemperatureWarning _ _ => true
  | .cycleByCycleLimit _ => true
  | .uartReplyLineSent => true
  | .nvmRefreshEnd _ => true
  | .pairTakeRelease => true

end Sys2Proof
end

