-- ==== Sys2Proof/Tests/Slice0.lean ====
section
/-!
SUPPORT. Tests/Slice0.lean: the model's own tests. Ill-formed operands that WellFormed refuses, the worked examples of the
spec, and for every clause of every obligation that has hypotheses a state and operands that meet all of them together
(theorem witness_<obligation>_<clause>).
-/

namespace Sys2Proof.Tests

open Sys2Proof Sys2Proof.Machine

/-- A block in RUN that executes commands. -/
def run : State := { State.reset with pwr := { State.reset.pwr with boot := 5, cmdReady := true } }

/-- A request with these parameter bytes, from the privileged mailbox. -/
def rq (ps : List Nat) : Req := { carrier := .mailbox, origin := { code := 2, priv := true }, params := ps.map (BitVec.ofNat 8 ·) }

/-- The bytes of a number, low byte first. -/
def le (n v : Nat) : List Nat := (List.range n).map (fun i => v / 256 ^ i % 256)

def descAt (a : Nat) : RegDesc :=
  match regTarget a with
  | some (.reg _ _ _ r) => r
  | _ => { off := 0, stride := 0, count := 0, mwIdx := 0, mwLen := 0, priv := false, fields := [] }

def rightOf {α β : Type} [Inhabited β] (x : α ⊕ β) : β :=
  match x with
  | .inr b => b
  | .inl _ => default

theorem right_of {α β : Type} {x : α ⊕ β} (h : x.isRight = true) : ∃ b, x = .inr b := Sum.isRight_iff.mp h

/-- A receive block: one channel of 48 kHz L16, packets of 6 samples, port N0, group 239.1.2.3 port 5060 (Table 10.1). -/
def rxBlk : List Byte :=
  (le 4 0x00010000 ++ [1, 0, 0, 1] ++ le 2 0 ++ [96, 0] ++ le 2 5060 ++ le 2 10 ++ le 4 1 ++ le 4 48 ++ le 8 0 ++ [239, 1, 2, 3] ++
    List.replicate 28 0).map (BitVec.ofNat 8 ·)

/-- A transmit block: one channel of the patch point 0x1000 to group 239.1.2.3 port 5060 by port N0 (Table 11.1). -/
def txBlk : List Byte :=
  (le 4 0x00010000 ++ [1, 0, 0, 1] ++ le 2 0x1000 ++ [96, 0] ++ le 2 5060 ++ le 2 0 ++ [64, 0, 0, 0] ++ le 12 0 ++ [239, 1, 2, 3] ++
    List.replicate 28 0).map (BitVec.ofNat 8 ·)

/-- The layer-3 block of a port: 10.0.0.2/24 (Table 9.2). -/
def l3Blk : List Nat := [10, 0, 0, 2, 24, 0, 0, 0] ++ List.replicate 56 0

/-- An image of one node: a meter on one channel (Tables 13.1 to 13.4). -/
def meterImg : List Byte :=
  (le 4 0x48505247 ++ [0, 0] ++ le 2 1 ++ le 4 36 ++ le 4 0 ++ [8, 0] ++ le 2 5 ++ le 2 1 ++ le 2 0xFFFF ++ le 2 1 ++ [1, 0] ++ le 4 0x2000 ++
    le 4 0).map (BitVec.ofNat 8 ·)

/-- A GAIN node on one channel, from the receive patch point 0 to a local output (Tables 13.1 to 13.4). -/
def gainImg : List Byte :=
  (le 4 0x48505247 ++ [0, 0] ++ le 2 1 ++ le 4 36 ++ le 4 0 ++ [1, 0] ++ le 2 5 ++ le 2 1 ++ le 2 0x1000 ++ le 2 1 ++ [1, 0] ++ le 4 0 ++
    le 4 0).map (BitVec.ofNat 8 ·)

/-- A PILOT node on the channel `x` of the power stage. -/
def pilotImg (x : Nat) : List Byte :=
  (le 4 0x48505247 ++ [0, 0] ++ le 2 1 ++ le 4 32 ++ le 4 0 ++ [11, 0] ++ le 2 4 ++ le 2 1 ++ le 2 (0x2500 + x) ++ le 2 1 ++ [1, 0] ++
    le 4 0).map (BitVec.ofNat 8 ·)

/-- An INFO request as a packet, without its CRC (Table 2.1). -/
def infoPkt : List Byte := ([0xC5, 0x4B, 2, 0] ++ le 2 1 ++ le 2 0x0060 ++ le 8 0).map (BitVec.ofNat 8 ·)

def nextOf (o : Host.Outcome State Fault Refusal) : State :=
  match o with
  | .next t => t
  | _ => State.reset

def goesOn (o : Host.Outcome State Fault Refusal) : Bool :=
  match o with
  | .next _ => true
  | _ => false

theorem next_of {o : Host.Outcome State Fault Refusal} (h : goesOn o = true) : o = .next (nextOf o) := by
  cases o <;> simp_all [goesOn, nextOf]

def wordsOf (x : WrFail ⊕ WrOp) : List (Nat × Nat × Nat) :=
  match x with
  | .inr (.words _ _ _ l) => l
  | _ => []

/-- An announcement of device 9 on port 3 (Table 10.7's format): magic, version, device, MAC address. -/
def annPkt : List Byte :=
  (le 4 0x4E414B43 ++ le 2 1 ++ le 2 0 ++ le 2 9 ++ le 2 0 ++ le 4 1000 ++ [2, 0, 0, 0, 0, 9] ++ List.replicate 22 0).map (BitVec.ofNat 8 ·)

def doneOf (o : OpOut) : State × List Byte × Option Nat :=
  match o with
  | .done t l x => (t, l, x)
  | _ => (State.reset, [], none)

def isDone (o : OpOut) : Bool :=
  match o with
  | .done _ _ _ => true
  | _ => false

theorem done_of {o : OpOut} (h : isDone o = true) : o = .done (doneOf o).1 (doneOf o).2.1 (doneOf o).2.2 := by
  cases o <;> simp_all [isDone, doneOf]

theorem tick_of {o : Option Nat} {n : Nat} (h : o.all (fun k => decide (k ≤ n)) = true) : ∀ k, o = some k → k ≤ n := by
  intro k e; subst e; simpa using h

theorem crcBit_lt {x : Nat} (h : x < 2 ^ 32) : crcBit 0x82F63B78 x < 2 ^ 32 := by
  have a : x / 2 < 2 ^ 32 := by omega
  unfold crcBit
  split
  · exact Nat.xor_lt_two_pow a (by decide)
  · exact a

theorem crcBits_lt : ∀ (k : Nat) {x : Nat}, x < 2 ^ 32 → crcBits 0x82F63B78 k x < 2 ^ 32
  | 0, _, h => h
  | k + 1, _, h => crcBits_lt k (crcBit_lt h)

/-- A CRC-32C fits its field of four bytes. -/
theorem crc32c_lt (l : List Byte) : crc32c l < 2 ^ 32 := by
  have h : ∀ (l : List Byte) (c : Nat), c < 2 ^ 32 →
      l.foldl (fun c b => crcBits 0x82F63B78 8 (Nat.xor c b.toNat)) c < 2 ^ 32 := by
    intro l
    induction l with
    | nil => exact fun c h => h
    | cons b l ih => exact fun c h => ih _ (crcBits_lt 8 (Nat.xor_lt_two_pow h (by have := b.isLt; omega)))
  exact Nat.xor_lt_two_pow (by decide) (h l _ (by decide))

theorem le4 {x : Nat} (h : x < 2 ^ 32) : leAt (leBytes 4 x) 0 4 = x := by
  simp [leAt, leBytes, leNat]; omega

/-- The request that commits the patch the state holds. -/
def fwReq (s : State) : Req :=
  { carrier := .mailbox, origin := { code := 2, priv := true }, params := leBytes 4 (crc32c s.patchBytes) }

def fwState : State := { run with car := { run.car with fwWritten := [0, 1, 2, 3] } }

theorem fwReq_field (s : State) : (fwReq s).field 0 4 = crc32c s.patchBytes := le4 (crc32c_lt _)

section Checks

set_option maxRecDepth 100000
set_option linter.unusedVariables false
set_option Elab.async false

/-! ## Ill-formed operands are refused (one for each check of WellFormed.lean) -/

def mb (op : Nat) (ps : List Nat) : Req := { rq ps with opcode := op }

theorem test_wf_request_well_formed : Instr.wf (.info (mb 0x0060 [])) = true := by decide +kernel
theorem test_wf_request_opcode : Instr.wf (.info (mb 0x0061 [])) = false := by decide +kernel
theorem test_wf_request_length : Instr.wf (.info { mb 0x0060 [] with params := List.replicate 4081 0#8 }) = false := by decide +kernel
theorem test_wf_request_sequence : Instr.wf (.info { mb 0x0060 [] with seq := 65536 }) = false := by decide +kernel
theorem test_wf_request_session : Instr.wf (.info { mb 0x0060 [] with session := 65536 }) = false := by decide +kernel
theorem test_wf_request_crc : Instr.wf (.info { mb 0x0060 [] with crc := 65536 }) = false := by decide +kernel
theorem test_wf_request_privilege : Instr.wf (.info { mb 0x0060 [] with origin := { code := 3, priv := true } }) = false := by decide +kernel
theorem test_wf_object_subsystem : Instr.wf (.objGet 15 (mb 0x0F01 [])) = false := by decide +kernel
theorem test_wf_time_seconds : Instr.wf (.timedFrameLaunch 3 { sec := 2 ^ 64 }) = false := by decide +kernel
theorem test_wf_time_nanoseconds : Instr.wf (.timedFrameLaunch 3 { ns := 1000000000 }) = false := by decide +kernel
theorem test_wf_time_fraction : Instr.wf (.triggerFire 0 { frac := 65536 }) = false := by decide +kernel
theorem test_wf_address : Instr.wf (.snapshotRead .bar4 (2 ^ 32)) = false := by decide +kernel
theorem test_wf_byte_enables : Instr.wf (.regWriteGeneric .bar4 0 16 0#32) = false := by decide +kernel
theorem test_wf_write_burst : Instr.wf (.pcieWriteBurst true 0 [0#32]) = false := by decide +kernel
theorem test_wf_read_burst : Instr.wf (.pcieReadBurst true 0 1) = false := by decide +kernel
theorem test_wf_ptp_version : Instr.wf (.ptpFollowUpRx 0 { version := 16 }) = false := by decide +kernel
theorem test_wf_ptp_type : Instr.wf (.ptpFollowUpRx 0 { msgType := 16 }) = false := by decide +kernel
theorem test_wf_ptp_domain : Instr.wf (.ptpFollowUpRx 0 { dom := 256 }) = false := by decide +kernel
theorem test_wf_ptp_sequence : Instr.wf (.ptpDelayRespRx 0 { seq := 65536 }) = false := by decide +kernel
theorem test_wf_ptp_source : Instr.wf (.ptpSyncRx 0 { src := 2 ^ 80 } {}) = false := by decide +kernel
theorem test_wf_ptp_requester : Instr.wf (.ptpPdelayRespRx 0 {} { reqSrc := 2 ^ 80 } {}) = false := by decide +kernel
theorem test_wf_ptp_seconds : Instr.wf (.ptpFollowUpRx 0 { sec := 2 ^ 48 }) = false := by decide +kernel
theorem test_wf_ptp_nanoseconds : Instr.wf (.ptpDelayReqRx 0 { ns := 1000000000 } {}) = false := by decide +kernel
theorem test_wf_announce_identity : Instr.wf (.ptpAnnounceRx 0 {} { gm := 2 ^ 64 }) = false := by decide +kernel
theorem test_wf_announce_priority1 : Instr.wf (.ptpAnnounceRx 0 {} { prio1 := 256 }) = false := by decide +kernel
theorem test_wf_announce_class : Instr.wf (.ptpAnnounceRx 0 {} { cls := 256 }) = false := by decide +kernel
theorem test_wf_announce_accuracy : Instr.wf (.ptpAnnounceRx 0 {} { acc := 256 }) = false := by decide +kernel
theorem test_wf_announce_variance : Instr.wf (.ptpAnnounceRx 0 {} { variance := 65536 }) = false := by decide +kernel
theorem test_wf_announce_priority2 : Instr.wf (.ptpAnnounceRx 0 {} { prio2 := 256 }) = false := by decide +kernel
theorem test_wf_announce_steps : Instr.wf (.ptpAnnounceRx 0 {} { steps := 65536 }) = false := by decide +kernel
theorem test_wf_tag_priority : tagOk (some (8, 1)) = false := by decide +kernel
theorem test_wf_tag_vlan : tagOk (some (0, 4096)) = false := by decide +kernel
theorem test_wf_media_length : MediaPkt.wf { src := [1#8], dst := [1#8] } = false := by decide +kernel
theorem test_wf_media_mixed : MediaPkt.wf { src := List.replicate 4 1#8, dst := List.replicate 16 1#8 } = false := by decide +kernel
theorem test_wf_media_sport : MediaPkt.wf { src := List.replicate 4 1#8, dst := List.replicate 4 1#8, sport := 65536 } = false :=
    by decide +kernel
theorem test_wf_media_dport : MediaPkt.wf { src := List.replicate 4 1#8, dst := List.replicate 4 1#8, dport := 65536 } = false :=
    by decide +kernel
theorem test_wf_media_ttl : MediaPkt.wf { src := List.replicate 4 1#8, dst := List.replicate 4 1#8, ttl := 256 } = false :=
    by decide +kernel
theorem test_wf_media_dscp : MediaPkt.wf { src := List.replicate 4 1#8, dst := List.replicate 4 1#8, dscp := 64 } = false :=
    by decide +kernel
theorem test_wf_media_ver : MediaPkt.wf { src := List.replicate 4 1#8, dst := List.replicate 4 1#8, ver := 4 } = false :=
    by decide +kernel
theorem test_wf_media_pt : MediaPkt.wf { src := List.replicate 4 1#8, dst := List.replicate 4 1#8, pt := 128 } = false :=
    by decide +kernel
theorem test_wf_media_ssrc : MediaPkt.wf { src := List.replicate 4 1#8, dst := List.replicate 4 1#8, ssrc := 2 ^ 32 } = false :=
    by decide +kernel
theorem test_wf_media_seq : MediaPkt.wf { src := List.replicate 4 1#8, dst := List.replicate 4 1#8, seq := 65536 } = false :=
    by decide +kernel
theorem test_wf_media_ts : MediaPkt.wf { src := List.replicate 4 1#8, dst := List.replicate 4 1#8, ts := 2 ^ 32 } = false :=
    by decide +kernel
theorem test_wf_media_frame : Instr.wf (.mediaPacketRx 0 { src := List.replicate 4 1#8, dst := List.replicate 4 1#8, ttl := 1 } { ns := 1000000000 }) = false :=
    by decide +kernel
theorem test_wf_sample_high : sampleOk (2 ^ 31) = false := by decide +kernel
theorem test_wf_sample_low : sampleOk (-(2 ^ 31) - 1) = false := by decide +kernel
theorem test_wf_tick_microphone : Instr.wf (.tickBoundary { pdm := [(16, [])] }) = false := by decide +kernel
theorem test_wf_tick_microphone_sample : Instr.wf (.tickBoundary { pdm := [(0, [2 ^ 31])] }) = false := by decide +kernel
theorem test_wf_tick_ring : Instr.wf (.tickBoundary { rings := [(32, [])] }) = false := by decide +kernel
theorem test_wf_tick_ring_sample : Instr.wf (.tickBoundary { rings := [(0, [2 ^ 31])] }) = false := by decide +kernel
theorem test_wf_tdm_slots : Instr.wf (.tdmFrameSync 0 { slots := List.replicate 33 0 }) = false := by decide +kernel
theorem test_wf_tdm_sample : Instr.wf (.tdmFrameSync 0 { slots := [2 ^ 31] }) = false := by decide +kernel
theorem test_wf_frame_address : Instr.wf (.ingressFrame 0 { dst := 2 ^ 48 }) = false := by decide +kernel
theorem test_wf_frame_tag : Instr.wf (.ingressFrame 0 { tag := some (8, 0) }) = false := by decide +kernel
theorem test_wf_frame_time : Instr.wf (.ingressFrame 0 { at_ := { ns := 1000000000 } }) = false := by decide +kernel
theorem test_wf_best_effort_tag : Instr.wf (.bestEffortFrameRx 0 64 (some (0, 4096)) false {} (0, 0)) = false := by decide +kernel
theorem test_wf_pause_enable : Instr.wf (.pauseFrameRx 0 true 256 []) = false := by decide +kernel
theorem test_wf_pause_quanta : Instr.wf (.pauseFrameRx 0 true 0 [65536]) = false := by decide +kernel
theorem test_wf_references : Instr.wf (.refTick { refs := List.replicate 8 {} }) = false := by decide +kernel
theorem test_wf_trip_high : Instr.wf (.ampTrip 0 { kind := 0, vp := 0, vn := 0, cur := 0, high := [0, 1, 0] }) = false :=
    by decide +kernel
theorem test_wf_trip_low : Instr.wf (.ampTrip 0 { kind := 0, vp := 0, vn := 0, cur := 0, low := [0, 1, 0] }) = false :=
    by decide +kernel
theorem test_wf_heartbeat_state : Instr.wf (.heartbeatRx { st := 8 }) = false := by decide +kernel
theorem test_wf_heartbeat_mac : Instr.wf (.heartbeatRx { mac := 2 ^ 48 }) = false := by decide +kernel
theorem test_wf_heartbeat_macs : Instr.wf (.heartbeatRx { macs := [2 ^ 48] }) = false := by decide +kernel
theorem test_wf_mirror_opcode : Instr.wf (.mirrorRecordRx 0 (.cmd 65536 [] false 0 {} none)) = false := by decide +kernel
theorem test_wf_mirror_length : Instr.wf (.mirrorRecordRx 0 (.cmd 0 (List.replicate 4081 0#8) false 0 {} none)) = false :=
    by decide +kernel
theorem test_wf_mirror_crc : Instr.wf (.mirrorRecordRx 0 (.cmd 0 [] false 65536 {} none)) = false := by decide +kernel
theorem test_wf_mirror_time : Instr.wf (.mirrorRecordRx 0 (.cmd 0 [] false 0 { frac := 65536 } none)) = false := by decide +kernel
theorem test_wf_mirror_trigger : Instr.wf (.mirrorRecordRx 0 (.cmd 0 [] false 0 {} (some 32))) = false := by decide +kernel
theorem test_wf_mirror_address : Instr.wf (.mirrorRecordRx 0 (.reg (2 ^ 32) 0 false 0)) = false := by decide +kernel
theorem test_wf_mirror_data : Instr.wf (.mirrorRecordRx 0 (.reg 0 (2 ^ 32) false 0)) = false := by decide +kernel
theorem test_wf_mirror_entry : Instr.wf (.mirrorRecordRx 0 (.seq 512 0)) = false := by decide +kernel
theorem test_wf_mirror_offset : Instr.wf (.mirrorRecordRx 0 (.seq 0 65536)) = false := by decide +kernel
theorem test_wf_clone_time : Instr.wf (.cloneStagingDone { time := { ns := 1000000000 } }) = false := by decide +kernel
theorem test_wf_day_resistance : Instr.wf (.dailyLedger { rdson := [(8, [])] }) = false := by decide +kernel
theorem test_wf_day_switching : Instr.wf (.dailyLedger { tsw := [(8, 0)] }) = false := by decide +kernel
theorem test_wf_start_supplies : Instr.wf (.powerOnResetRelease true { vio33 := [true, true, true, true] }) = false :=
    by decide +kernel
theorem test_wf_start_patch : Instr.wf (.coldStartReady { patch := 16 }) = false := by decide +kernel
theorem test_wf_mdio_answer : Instr.wf (.mdioRead (mb 0x0310 []) (some 65536)) = false := by decide +kernel
theorem test_wf_load_percent : Instr.wf (.backingSliceEnd 0 0 (some 65536)) = false := by decide +kernel
theorem test_wf_spi_frame : Instr.wf (.spiCommandFrame true (List.replicate 4105 0#8)) = false := by decide +kernel
theorem test_wf_spi_write : Instr.wf (.spiRegisterWrite true (List.replicate 4105 0#8)) = false := by decide +kernel
theorem test_wf_datagram_address : Instr.wf (.netControlDatagram 0 (2 ^ 128) 0 0 false []) = false := by decide +kernel
theorem test_wf_datagram_port : Instr.wf (.netControlDatagram 0 0 65536 0 false []) = false := by decide +kernel
theorem test_wf_datagram_length : Instr.wf (.netControlDatagram 0 0 0 65535 false [0#8]) = false := by decide +kernel
theorem test_wf_reassembly_address : Instr.wf (.datagramReassemblyTimeout (2 ^ 128)) = false := by decide +kernel
theorem test_wf_uart_line : Instr.wf (.uartLine false (List.replicate 8257 0x41#8)) = false := by decide +kernel
theorem test_wf_approve_mask : Instr.wf (.calApproveWrite .bar4 128) = false := by decide +kernel
theorem test_wf_holdover_mode : Instr.wf (.hoModeWrite .bar4 4) = false := by decide +kernel
theorem test_wf_host_ring : Instr.wf (.hostRingProd .bar4 0 65536) = false := by decide +kernel
theorem test_wf_transmit_ring : Instr.wf (.txrProdWrite .bar4 0 65536) = false := by decide +kernel
theorem test_wf_receive_ring : Instr.wf (.rxrProdWrite .bar4 0 65536) = false := by decide +kernel
theorem test_wf_announcement_length : Instr.wf (.announcementRx 0 (List.replicate 1501 0#8)) = false := by decide +kernel
theorem test_wf_peer : Instr.wf (.peerAgeOut 65536) = false := by decide +kernel
theorem test_wf_utilisation : Instr.wf (.utilisationSecond (List.replicate 5 (0, 0))) = false := by decide +kernel
theorem test_wf_lanes : Instr.wf (.retrainPassEnd (List.replicate 5 0) false) = false := by decide +kernel
theorem test_wf_bandwidth_mean : Instr.wf (.bwSecond 2 0 1) = false := by decide +kernel
theorem test_wf_bandwidth_p99 : Instr.wf (.bwSecond 0 2 1) = false := by decide +kernel
theorem test_wf_digest : Instr.wf (.digestRx 0 [2 ^ 32] false) = false := by decide +kernel
theorem test_wf_health_report : Instr.wf (.healthReportRx (List.replicate 257 0#8)) = false := by decide +kernel
theorem test_wf_repair : Instr.wf (.repairRequestRx 0 [65536] 0) = false := by decide +kernel
theorem test_wf_wake_source : Instr.wf (.wakeCapture [(5, 0)] 0) = false := by decide +kernel
theorem test_wf_supplies : Instr.wf (.supplySample (List.replicate 33 0)) = false := by decide +kernel

/-! ## The spec's worked examples -/

def chars (t : String) : List Byte := t.toList.map (fun c => BitVec.ofNat 8 c.toNat)

/-- The check value of the CRC-32C of R33 over the digits 1 to 9. -/
theorem test_crc32c_check : crc32c (chars "123456789") = 0xE3069283 := by decide +kernel

/-- The check value of the CRC-16 of R91 over the digits 1 to 9. -/
theorem test_crc16_check : crc16 (chars "123456789") = 0x29B1 := by decide +kernel

/-- Example 0.1: amplifier channel A3. -/
theorem test_example_0_1 : objId 8 3 0 = 0x08030000 ∧ unitBase 8 3 + 4 * 4 = 0x02030010 := by decide

/-- Example 1.1: Burins, the scheduler, the admission block. -/
theorem test_example_1_1 : unitBase 5 17 = 0x01510000 ∧ objId 5 17 0 = 0x05110000 ∧ unitBase 5 64 + 3 * 4 = 0x0140800C ∧
    unitBase 5 65 = 0x01418000 ∧ unitBase 5 1 = 0x01410000 := by decide

/-- The mailbox of Example 2.1 before its doorbell. -/
def chipIdMailbox : State :=
  let b := ([0xC5, 0x4B, 2, 0, 7, 0, 0x30, 0, 8] ++ List.replicate 7 0 ++ le 4 0 ++ le 4 1).map (BitVec.ofNat 8 ·)
  { run with car := { run.car with mbxReq := (List.range 6).map (fun i => (i, leAt b (4 * i) 4)), mbxReqCrc := crc32c b } }

def chipIdRung : State := nextOf (exec (.mailboxDoorbell .bar0 0x1FFF0018#32) chipIdMailbox)

/-- Example 2.1: the doorbell puts the request into the mailbox slot. -/
theorem test_example_2_1_doorbell : (chipIdRung.car.slots.map (fun p => (p.1, p.2.opcode, p.2.seq))) = [(0, 0x0030, 7)] := by
  decide +kernel

/-- Example 2.1: the reply in the reply area. -/
theorem test_example_2_1_reply :
    (List.range 5).map (KV.get 0 (nextOf (exec (.interpreterServe false {}) chipIdRung)).car.mbxRep) =
      [0x01024BC5, 0x00300007, 4, 0, 0x409600B1] := by decide +kernel

/-- Example 2.2: the chip ID read on the bench. -/
theorem test_example_2_2_read :
    (nextOf (exec (.interpreterServe false {}) (nextOf (exec (.uartLine false (chars "RD 0000_0000")) run)))).out =
      [.uart "OK 0000 OK 4096_00B1"] := by decide +kernel

/-- Example 2.2: STORE with SVC_EN low. -/
theorem test_example_2_2_denied :
    (nextOf (exec (.interpreterServe false {}) (nextOf (exec (.uartLine false (chars "STORE")) run)))).out =
      [.uart "ERR 0007 DENIED"] := by decide +kernel

def uartRate : State := nextOf (exec (.regWriteGeneric .bar0 0x03420000 15 0x001E0006#32) run)

/-- Example 3.1: the write is applied and logged as REG, old 0x0001, new 0x0007. -/
theorem test_example_3_1_applied : uartRate.regWord 13 2 0 = 7 ∧
    uartRate.log.ram.map (fun e => (e.origin, e.kind, e.addr, e.obj, e.old, e.new)) = [(1, 1, true, 0x03420000, 1, 7)] := by
  decide +kernel

def uartRefused : State := nextOf (exec (.regWriteGeneric .bar0 0x03420000 15 0x00100010#32) uartRate)

/-- Example 3.1: the illegal merged value changes nothing; BAD_VALUE is set, REFUSED increments, nothing is logged. -/
theorem test_example_3_1_refused : uartRefused.regWord 13 2 0 = 7 ∧ uartRefused.log.ram = uartRate.log.ram ∧
    uartRefused.units.map (fun p => (p.1, p.2.badValue, p.2.refused)) = [(unitKey 13 2, true, 1)] := by decide +kernel

def steerLow : State :=
  nextOf (exec (.multiwordLowerWrite .bar4 0x00890040 0xFFFFED30#32) (run.setLoopMode lmHOLDOVER 0))

def steerDone : State := nextOf (exec (.steerCommit .bar4 0xFFFFFFEC#32) steerLow)

/-- Example 3.2: -1,250,000 ppt applied with the commit, two REG entries of origin 0x02. -/
theorem test_example_3_2 : steerLow.steer = 0 ∧ steerDone.steer = -1250000 ∧ steerDone.shadows = [] ∧
    (steerDone.log.ram.filter (fun e => e.kind == 1)).map (fun e => e.origin) = [2, 2] := by decide +kernel

/-- Example 3.2: an SPI write between the steps takes the shadow, and the commit is refused. -/
theorem test_example_3_2_foreign :
    (nextOf (exec (.steerCommit .bar4 0xFFFFFFEC#32)
      (nextOf (exec (.spiRegisterWrite true ([2, 0, 0x89, 0, 0x40, 0xFF, 0xFF, 0x12, 0x34].map (BitVec.ofNat 8 ·))) steerLow)))).steer = 0 := by
  decide +kernel

def carOff : State := nextOf (exec (.unitEnClear .bar4 0x00010000 0x00010000#32) run)

/-- Example 3.3: the four writes of CAR.CTL up to NET_OPEN. -/
theorem test_example_3_3 : run.regWord 0 1 0 = 0x19 ∧
    (nextOf (exec (.regWriteGeneric .bar4 0x00010000 15 0x00200020#32) run)).regWord 0 1 0 = 0x19 ∧
    (nextOf (exec (.unitEnClear .bar4 0x00010000 0x00210020#32) run)).regWord 0 1 0 = 0x19 ∧ carOff.regWord 0 1 0 = 0x18 ∧
    (nextOf (exec (.regWriteGeneric .bar4 0x00010000 15 0x00200020#32) carOff)).regWord 0 1 0 = 0x38 := by decide +kernel

/-- The entry of Example 4.1. -/
def exampleEntry : LogEntry :=
  { seq := 0x1F42, sec := 1780549876, ns := 500000000, notime := false, origin := 1, kind := 1, oid := 0, addr := true,
    obj := 0x03420000, old := 1, new := 7 }

/-- Example 4.1: the first 30 bytes of the entry. -/
theorem test_example_4_1 : exampleEntry.bytes.take 30 =
    ([0x42, 0x1F, 0, 0, 0xF4, 0x08, 0x21, 0x6A, 0, 0, 0x00, 0x65, 0xCD, 0x1D, 1, 1, 0, 0, 2, 0, 0, 0, 0x42, 3, 1, 0, 7, 0, 0, 0].map
      (BitVec.ofNat 8 ·)) := by decide +kernel

/-- Example 5.1: t2 and t3 at the reference plane, in 2^-16 ns. -/
theorem test_example_5_1_plane :
    (run.setF (F.TSU_EFF_ING 0) 0x0192C000).planeIn 0 { sec := 1780549876, ns := 500001915, frac := 0x4000 } =
      ({ sec := 1780549876, ns := 500001512, frac := 0x8000 } : Tai).units ∧
    (run.setF (F.TSU_EFF_EGR 0) 0x00FB4000).planeOut 0 { sec := 1780549876, ns := 500020000 } =
      ({ sec := 1780549876, ns := 500020251, frac := 0x4000 } : Tai).units := by decide +kernel

/-- Example 5.1: the mean path delay of 700 ns reads 0x02BC_0000. -/
theorem test_example_5_1_delay : (run.takeDelay 0 (700 * 65536)).getF (F.D_MPD 0) = 0x02BC0000 := by decide +kernel

/-- The port N0 of Example 6.2 with its PHY's latencies at 10 Gb/s and the internal ones it names. -/
def phyLatency : State :=
  let s := { run with fact := { run.fact with latIn := List.replicate 7 0x00768000, latOut := List.replicate 7 0x00600000 } }
  let sp := s.getF (F.MAC_STATUS_SPEED 0)
  (((((s.setF (F.TSU_PHY_ING_LO 0 sp) 0x4000).setF (F.TSU_PHY_ING_HI 0 sp) 0x011C).setF (F.TSU_PHY_EGR_LO 0 sp) 0x4000).setF
    (F.TSU_PHY_EGR_HI 0 sp) 0x009B).setF (F.TSU_CTL_EXT_PHY 0) 1).refreshLatency 0

/-- Example 6.2: EFF_ING and EFF_EGR. -/
theorem test_example_6_2 : phyLatency.getF (F.TSU_EFF_ING 0) = 0x0192C000 ∧ phyLatency.getF (F.TSU_EFF_EGR 0) = 0x00FB4000 := by
  decide +kernel

/-- The holdover of Example 8.1 after `n` seconds. -/
def holdover (n : Nat) : State :=
  let s := run.setLoopMode lmHOLDOVER 0
  let s := ((s.setF F.HOLD_F0 40).setF F.HOLD_HO_ELAPSED n).setF (F.MON_TEMP 0) 20
  { s with clk := { s.clk with e0 := 2 * 65536, tempAt := 0, tempSum := 20 * n, calAge := 300, calSlope := 10 } }

/-- Example 8.1: PRED_ERR after an hour. -/
theorem test_example_8_1_hour : (nextOf (exec (.holdoverSecond 0) (holdover 3599))).getF F.HOLD_PRED_ERR = 240 := by decide +kernel

/-- Example 8.1: HO_LIMIT is passed in second 12,275 and not before. -/
theorem test_example_8_1_limit :
    (nextOf (exec (.holdoverSecond 0) (holdover 12273))).getF F.HOLD_HO_STATUS_OUT_OF_SPEC = 0 ∧
    (nextOf (exec (.holdoverSecond 0) (holdover 12274))).getF F.HOLD_HO_STATUS_OUT_OF_SPEC = 1 := by decide +kernel

/-- A block of Example 9.2: 64 channels of L24 at 48 kHz, packets of 6 samples. -/
def boxBlk : List Byte := [1#8, 0#8, 64#8] ++ rxBlk.drop 3

/-- Example 9.2: a frame of 1,210 bytes, and 78.72 Mb/s on the wire. -/
theorem test_example_9_2 : run.frameLen 0 boxBlk false = 1210 ∧ run.wireRate 0 boxBlk false = 78720000 := by decide +kernel

/-- A word of the table spells no command: the table gives its rows no bits. -/
theorem test_no_word_spells_a_command : decodeTableWord 0 0 = none ∧ decodeTableWord 16 0x0060 = none := by decide

/-- What step does on an empty queue is a cycle of the media clock. -/
theorem test_idle_step : step State.reset = .next State.reset.mediaCycle := rfl

/-! ## Witnesses of the hypotheses of the obligations -/

theorem witness_StepRunsFrontCommand_0 : ∃ (s : State) (c : Instr) (rest : List Instr),
    (s.pending = c :: rest) :=
  ⟨({ run with pending := [.leapDayEnd] }), .leapDayEnd, [], by decide +kernel⟩

theorem witness_StepRunsFrontCommand_1 : ∃ (s : State),
    (s.pending = []) :=
  ⟨run, by decide +kernel⟩

theorem witness_PinsFollowEveryStep : ∃ (s : State) (t : State),
    (s.PinsFollow) ∧ (s.PairOkBacked) ∧ (step s = .next t) :=
  ⟨State.reset, State.reset.mediaCycle, ⟨by decide +kernel, by decide +kernel, by decide +kernel, by decide +kernel⟩,
    fun h => absurd h (by decide +kernel), rfl⟩

theorem witness_PinsFollowEveryCommand : ∃ (c : Instr) (s : State) (t : State),
    (exec c s = .next t) :=
  ⟨.leapDayEnd, State.reset, (nextOf (exec .leapDayEnd State.reset)), rfl⟩

theorem witness_IllegalWritesLeaveEveryField_0 : ∃ (s : State) (a : Access) (addr : Nat) (sub : Nat) (u : Nat) (off : Nat) (r : RegDesc) (mask : Nat) (data : Nat),
    (s.ReachesStepSix a addr sub u off r mask data) ∧
    (s.writeLegal sub u off r mask (s.regWord sub u off % 65536) (merge16 (s.regWord sub u off % 65536) mask data) = false) :=
  ⟨run, Via.bar4.access, ((F.MAC_MTU 0).addr), 3, 0, ((F.MAC_MTU 0).addr % 0x10000), (descAt (((F.MAC_MTU 0).addr : Nat))),
    0xFFFF, 0xFFFF,
    ⟨by decide +kernel, by decide +kernel, by decide +kernel, by decide +kernel, by decide +kernel, by decide +kernel, by decide +kernel, by decide +kernel, by decide +kernel⟩,
    by decide +kernel⟩

theorem witness_IllegalWritesLeaveEveryField_1 : ∃ (s : State) (via : Via) (addr : Nat) (sub : Nat) (u : Nat) (off : Nat) (r : RegDesc) (data : Word),
    (s.reachable = true) ∧ (regTarget addr = some (.reg sub u off r)) ∧
    (s.fresh.judgeWrite via.access addr data.toNat = .inl .illegal) :=
  ⟨run, (.spi true), ((F.MAC_MTU 0).addr), 3, 0, ((F.MAC_MTU 0).addr % 0x10000), (descAt (((F.MAC_MTU 0).addr : Nat))),
    (BitVec.ofNat 32 (maskData 0xFFFF 0xFFFF)), by decide +kernel, by decide +kernel, by decide +kernel⟩

theorem witness_IllegalWritesLeaveEveryField_2 : ∃ (s : State) (q : Req) (sub : Nat) (u : Nat) (off : Nat) (r : RegDesc),
    (s.Serves 0x0031 q) ∧ (q.params.length = 12) ∧ (q.field 4 2 = 1) ∧ (q.field 6 2 = 0) ∧
    (regTarget (q.field 0 4) = some (.reg sub u off r)) ∧
    ((s.work 0x0031 q).judgeWrite (q.as 0x0031).access (q.field 0 4) (q.field 8 4) = .inl .illegal) :=
  ⟨run, (rq (le 4 ((F.MAC_MTU 0).addr) ++ le 2 (1) ++ le 2 (0) ++ le 4 (maskData 0xFFFF 0xFFFF))), 3, 0,
    ((F.MAC_MTU 0).addr % 0x10000),
    (descAt (((rq (le 4 ((F.MAC_MTU 0).addr) ++ le 2 (1) ++ le 2 (0) ++ le 4 (maskData 0xFFFF 0xFFFF)) : Req).field 0 4))),
    ⟨⟨by decide +kernel, by decide +kernel, by decide +kernel⟩, by decide +kernel⟩, by decide +kernel, by decide +kernel,
    by decide +kernel, by decide +kernel, by decide +kernel⟩

theorem witness_WritesAreJudgedOnTheMergedValue_0 : ∃ (cur : Nat) (mask : Nat) (data : Nat) (i : Nat),
    (cur < 65536) ∧ (mask < 65536) ∧ (data < 65536) :=
  ⟨0xF0F0, 0xFFFF, 0x1234, 15, by decide +kernel, by decide +kernel, by decide +kernel⟩

theorem witness_WritesAreJudgedOnTheMergedValue_1 : ∃ (s : State) (a : Access) (addr : Nat) (sub : Nat) (u : Nat) (off : Nat) (r : RegDesc) (mask : Nat) (data : Nat) (cur : Nat) (m : Nat),
    (s.ReachesStepSix a addr sub u off r mask data) ∧ (cur = s.regWord sub u off % 65536) ∧ (m = merge16 cur mask data) :=
  ⟨run, Via.bar4.access, ((F.MAC_MTU 0).addr), 3, 0, ((F.MAC_MTU 0).addr % 0x10000), (descAt (((F.MAC_MTU 0).addr : Nat))),
    0xFFFF, 9216, (((run : State).regWord (3 : Nat) (0 : Nat) ((F.MAC_MTU 0).addr % 0x10000 : Nat) % 65536)),
    ((merge16 (((run : State).regWord (3 : Nat) (0 : Nat) ((F.MAC_MTU 0).addr % 0x10000 : Nat) % 65536) : Nat) (0xFFFF : Nat) (9216 : Nat))),
    ⟨by decide +kernel, by decide +kernel, by decide +kernel, by decide +kernel, by decide +kernel, by decide +kernel, by decide +kernel, by decide +kernel, by decide +kernel⟩,
    rfl, rfl⟩

theorem witness_WritesAreJudgedOnTheMergedValue_2 : ∃ (s : State) (a : Access) (addr : Nat) (sub : Nat) (u : Nat) (off : Nat) (r : RegDesc) (mask : Nat) (data : Nat),
    (regTarget addr = some (.reg sub u off r)) ∧ (0 < mask) ∧ (mask < 65536) ∧ (data < 65536) ∧ (s.busyIndex = none) ∧
    (r.priv = true → a.origin.priv = true) ∧ (s.absent sub u = false) ∧ (s.isStandby = false) ∧ (r.mwIdx + 1 < r.mwLen) ∧
    (accMask r Acc.config ≠ 0) ∧ (KV.find s.shadows (unitBase sub u + (off - 4 * r.mwIdx)) = none) ∧
    (s.writeIgnored sub u off r mask (merge16 (s.regWord sub u off % 65536) mask data) = false) :=
  ⟨run, Via.bar4.access, ((F.TRG_TIME 31 5).addr), 1, 63, ((F.TRG_TIME 31 5).addr % 0x10000),
    (descAt (((F.TRG_TIME 31 5).addr : Nat))), 0xFFFF, 7, by decide +kernel, by decide +kernel, by decide +kernel,
    by decide +kernel, by decide +kernel, by decide +kernel, by decide +kernel, by decide +kernel, by decide +kernel,
    by decide +kernel, by decide +kernel, by decide +kernel⟩

theorem witness_OrdinaryOriginsCannotUsePrivilegedRegisters_0 : ∃ (s : State) (via : Via) (addr : Nat) (sub : Nat) (u : Nat) (off : Nat) (r : RegDesc),
    (s.reachable = true) ∧ (regTarget addr = some (.reg sub u off r)) ∧ (r.priv = true) ∧ (via.origin.priv = false) :=
  ⟨run, .bar0, ((unitBase 11 1 + 4)), 11, 1, 4, (descAt (((unitBase 11 1 + 4) : Nat))), by decide +kernel, by decide +kernel,
    by decide +kernel, by decide +kernel⟩

theorem witness_OrdinaryOriginsCannotUsePrivilegedRegisters_1 : ∃ (s : State) (q : Req) (sub : Nat) (u : Nat) (off : Nat) (r : RegDesc),
    (s.Serves 0x0030 q) ∧ (q.params.length = 8) ∧ (q.field 4 2 = 1) ∧ (q.field 6 2 = 0) ∧
    (regTarget (q.field 0 4) = some (.reg sub u off r)) ∧ (r.priv = true) ∧ (q.origin.priv = false) :=
  ⟨run, ({ (rq (le 4 ((unitBase 11 1 + 4)) ++ le 2 (1) ++ le 2 (0))) with origin := { code := 1 } }), 11, 1, 4,
    (descAt ((({ (rq (le 4 ((unitBase 11 1 + 4)) ++ le 2 (1) ++ le 2 (0))) with origin := { code := 1 } } : Req).field 0 4))),
    ⟨⟨by decide +kernel, by decide +kernel, by decide +kernel⟩, by decide +kernel⟩, by decide +kernel, by decide +kernel,
    by decide +kernel, by decide +kernel, by decide +kernel, by decide +kernel⟩

theorem witness_OrdinaryOriginsCannotUsePrivilegedRegisters_2 : ∃ (s : State) (via : Via) (addr : Nat) (sub : Nat) (u : Nat) (off : Nat) (r : RegDesc) (data : Word),
    (s.reachable = true) ∧ (s.busyIndex = none) ∧ (regTarget addr = some (.reg sub u off r)) ∧ (r.priv = true) ∧
    (via.origin.priv = false) ∧ (65536 ≤ data.toNat) :=
  ⟨run, (.spi false), ((unitBase 11 1 + 4)), 11, 1, 4, (descAt (((unitBase 11 1 + 4) : Nat))), (BitVec.ofNat 32 (maskData 1 1)),
    by decide +kernel, by decide +kernel, by decide +kernel, by decide +kernel, by decide +kernel, by decide +kernel⟩

theorem witness_ProofResourcesServeOneProof_3 : ∃ (s : State) (q : Req) (r : ProofRun) (y : ProofRun) (v0 : Int) (v1 : Int),
    (s.Serves 0x0D10 q) ∧ (q.params.length = 16) ∧ (q.obj = 0x0D020000) ∧
    (r = { g := q.field 4 1, i := q.field 5 1, a1 := q.field 8 4, a2 := q.field 12 4, hold := s.getF F.UART_PROOF_HOLD }) ∧
    (proofExists r.g r.i = true) ∧ (q.field 6 1 = 0) ∧ (q.field 7 1 = 0) ∧ (s.proofArgs r = true) ∧
    (KV.find s.prf.run (proofResource r.g) = some y) ∧ ((y.g, y.i) ≠ (r.g, r.i)) :=
  ⟨({ run with prf := { run.prf with run := [(1, { g := 2, i := 6, a1 := 15 })] } }),
    (rq (le 4 (0x0D020000) ++ le 1 (2) ++ le 1 (5) ++ le 1 (0) ++ le 1 (0) ++ le 4 (0) ++ le 4 (0))),
    (({ g := (rq (le 4 (0x0D020000) ++ le 1 (2) ++ le 1 (5) ++ le 1 (0) ++ le 1 (0) ++ le 4 (0) ++ le 4 (0)) : Req).field 4 1, i := (rq (le 4 (0x0D020000) ++ le 1 (2) ++ le 1 (5) ++ le 1 (0) ++ le 1 (0) ++ le 4 (0) ++ le 4 (0)) : Req).field 5 1, a1 := (rq (le 4 (0x0D020000) ++ le 1 (2) ++ le 1 (5) ++ le 1 (0) ++ le 1 (0) ++ le 4 (0) ++ le 4 (0)) : Req).field 8 4, a2 := (rq (le 4 (0x0D020000) ++ le 1 (2) ++ le 1 (5) ++ le 1 (0) ++ le 1 (0) ++ le 4 (0) ++ le 4 (0)) : Req).field 12 4, hold := ({ run with prf := { run.prf with run := [(1, { g := 2, i := 6, a1 := 15 })] } } : State).getF F.UART_PROOF_HOLD })),
    ({ g := 2, i := 6, a1 := 15 }), 0, 0, ⟨⟨by decide +kernel, by decide +kernel, by decide +kernel⟩, by decide +kernel⟩,
    by decide +kernel, by decide +kernel, rfl, by decide +kernel, by decide +kernel, by decide +kernel, by decide +kernel,
    by decide +kernel, by decide +kernel⟩

theorem witness_ProofResourcesServeOneProof_4 : ∃ (s : State) (q : Req) (r : ProofRun) (v0 : Int) (v1 : Int),
    (s.Serves 0x0D10 q) ∧ (q.params.length = 16) ∧ (q.obj = 0x0D020000) ∧
    (r = { g := q.field 4 1, i := q.field 5 1, a1 := q.field 8 4, a2 := q.field 12 4, hold := s.getF F.UART_PROOF_HOLD }) ∧
    (proofExists r.g r.i = true) ∧ (q.field 6 1 = 0) ∧ (q.field 7 1 = 0) ∧ (s.proofArgs r = true) ∧ (s.proofMay r = true) :=
  ⟨run, (rq (le 4 (0x0D020000) ++ le 1 (2) ++ le 1 (6) ++ le 1 (0) ++ le 1 (0) ++ le 4 (15) ++ le 4 (0))),
    (({ g := (rq (le 4 (0x0D020000) ++ le 1 (2) ++ le 1 (6) ++ le 1 (0) ++ le 1 (0) ++ le 4 (15) ++ le 4 (0)) : Req).field 4 1, i := (rq (le 4 (0x0D020000) ++ le 1 (2) ++ le 1 (6) ++ le 1 (0) ++ le 1 (0) ++ le 4 (15) ++ le 4 (0)) : Req).field 5 1, a1 := (rq (le 4 (0x0D020000) ++ le 1 (2) ++ le 1 (6) ++ le 1 (0) ++ le 1 (0) ++ le 4 (15) ++ le 4 (0)) : Req).field 8 4, a2 := (rq (le 4 (0x0D020000) ++ le 1 (2) ++ le 1 (6) ++ le 1 (0) ++ le 1 (0) ++ le 4 (15) ++ le 4 (0)) : Req).field 12 4, hold := (run : State).getF F.UART_PROOF_HOLD })),
    0, 0, ⟨⟨by decide +kernel, by decide +kernel, by decide +kernel⟩, by decide +kernel⟩, by decide +kernel, by decide +kernel,
    rfl, by decide +kernel, by decide +kernel, by decide +kernel, by decide +kernel, by decide +kernel⟩

theorem witness_MirroredWritesWaitForTheirTick : ∃ (s : State) (via : Via) (addr : Nat) (sub : Nat) (u : Nat) (off : Nat) (m : Nat) (mask : Nat) (data : Word),
    (s.reachable = true) ∧ (s.fresh.judgeWrite via.access addr data.toNat = .inr (.words sub u off [(off, m, mask)])) ∧
    (s.mirrored sub u off = true) ∧ (s.sharesRequests = true) :=
  ⟨({ run.setF F.ROLE_STATUS_STATE psACTIVE with pair := { run.pair with pState := psSYNC } }), .bar4, F.RXT_CTL_EN.addr, 4, 0, 0,
    1, 1, (BitVec.ofNat 32 (maskData 1 1)), by decide +kernel, by decide +kernel, by decide +kernel, by decide +kernel⟩

theorem witness_RefusedWritesTouchNoRegister_0 : ∃ (s : State) (t : State) (via : Via) (addr : Nat) (data : Word) (f : WrFail),
    (s.fresh.judgeWrite via.access addr data.toNat = .inl f) ∧ (exec (.regWriteGeneric via addr 15 data) s = .next t) :=
  ⟨run, (nextOf (exec (.regWriteGeneric .bar4 (F.MAC_MTU 0).addr 15 (BitVec.ofNat 32 (maskData 0xFFFF 0xFFFF))) run)), .bar4,
    ((F.MAC_MTU 0).addr), (BitVec.ofNat 32 (maskData 0xFFFF 0xFFFF)), .illegal, by decide +kernel, next_of (by decide +kernel)⟩

theorem witness_RefusedWritesTouchNoRegister_1 : ∃ (s : State) (t : State) (via : Via) (addr : Nat) (sub : Nat) (u : Nat) (off : Nat) (r : RegDesc) (data : Word),
    (regTarget addr = some (.reg sub u off r)) ∧ (data.toNat < 65536) ∧ (exec (.regWriteGeneric via addr 15 data) s = .next t) :=
  ⟨run, (nextOf (exec (.regWriteGeneric .bar4 (F.MAC_MTU 0).addr 15 65535) run)), .bar4, ((F.MAC_MTU 0).addr), 3, 0,
    ((F.MAC_MTU 0).addr % 0x10000), (descAt (((F.MAC_MTU 0).addr : Nat))), 65535, by decide +kernel, by decide +kernel,
    next_of (by decide +kernel)⟩

theorem witness_PartialAndUnalignedAccessesAreBusErrors_0 : ∃ (s : State) (via : Via) (addr : Nat) (be : Nat) (data : Word),
    (s.reachable = true) ∧ (via = .bar0 ∨ via = .bar4) ∧ (be ≠ 15) :=
  ⟨run, .bar4, ((F.MAC_MTU 0).addr), 7, 0, by decide +kernel, by decide +kernel, by decide +kernel⟩

theorem witness_PartialAndUnalignedAccessesAreBusErrors_1 : ∃ (s : State) (via : Via) (addr : Nat) (data : Word),
    (s.reachable = true) ∧ (addr % 4 ≠ 0) :=
  ⟨run, .bar4, ((F.MAC_MTU 0).addr + 3), 0, by decide +kernel, by decide +kernel⟩

theorem witness_PartialAndUnalignedAccessesAreBusErrors_2 : ∃ (s : State) (via : Via) (addr : Nat),
    (s.reachable = true) ∧ (addr % 4 ≠ 0) :=
  ⟨run, .bar4, ((F.MAC_MTU 0).addr + 1), by decide +kernel, by decide +kernel⟩

theorem witness_RefusedAndBusyRequestsTouchNothing : ∃ (c : Instr) (op : Nat) (q : Req) (s : State) (t : State),
    (requestOf c = some (op, q)) ∧ (s.busyIndex.isSome = true ∨ (s.gate (q.as op)).isSome = true) ∧ (exec c s = .next t) :=
  ⟨(.info (rq [])), 0x60, (rq []), State.reset, (nextOf (exec (.info (rq [])) State.reset)), by decide +kernel, by decide +kernel,
    next_of (by decide +kernel)⟩

theorem witness_LongOperationsBegin_0 : ∃ (s : State) (q : Req),
    (s.Serves 0x0010 q) ∧ (q.params = []) ∧ (s.on F.NVS_CTL_STORE_LOCK = false) ∧ (s.anySafe = false) ∧ (s.storeBarred = false) :=
  ⟨run, (rq []), ⟨⟨by decide +kernel, by decide +kernel, by decide +kernel⟩, by decide +kernel⟩, by decide +kernel,
    by decide +kernel, by decide +kernel, by decide +kernel⟩

theorem witness_LongOperationsBegin_1 : ∃ (s : State) (q : Req),
    (s.Serves 0x0011 q) ∧ (q.params = []) ∧ (s.storeBarred = false) ∧ (s.banksByAge ≠ []) :=
  ⟨({ run with bankA := { valid := true, gen := 1, stores := 1 } }), (rq []),
    ⟨⟨by decide +kernel, by decide +kernel, by decide +kernel⟩, by decide +kernel⟩, by decide +kernel, by decide +kernel,
    by decide +kernel⟩

theorem witness_LongOperationsBegin_2 : ∃ (s : State) (q : Req),
    (s.Serves 0x0012 q) ∧ (q.params = []) ∧ (s.storeBarred = false) ∧ (s.factory.valid = true) :=
  ⟨run, (rq []), ⟨⟨by decide +kernel, by decide +kernel, by decide +kernel⟩, by decide +kernel⟩, by decide +kernel,
    by decide +kernel, by decide +kernel⟩

theorem witness_LongOperationsBegin_3 : ∃ (s : State) (q : Req),
    (s.Serves 0x0021 q) ∧ (q.params = []) ∧ (s.pins.pfwLow = false) :=
  ⟨run, (rq []), ⟨⟨by decide +kernel, by decide +kernel, by decide +kernel⟩, by decide +kernel⟩, by decide +kernel,
    by decide +kernel⟩

theorem witness_LongOperationsBegin_4 : ∃ (s : State) (q : Req),
    (s.Serves 0x0040 q) ∧ (q.params.length = 4) ∧ (q.field 0 1 ≤ 0x0E ∨ q.field 0 1 = 0xFF) ∧ (q.field 1 3 = 0) :=
  ⟨run, (rq (le 1 (14) ++ le 3 (0))), ⟨⟨by decide +kernel, by decide +kernel, by decide +kernel⟩, by decide +kernel⟩,
    by decide +kernel, by decide +kernel, by decide +kernel⟩

theorem witness_LongOperationsBegin_5 : ∃ (s : State) (q : Req),
    (s.Serves 0x0910 q) ∧ (q.params.length = 8) ∧ (q.obj = objId 9 0 0) ∧ (q.field 4 4 = 1) :=
  ⟨run, (rq (le 4 (objId 9 0 0) ++ le 4 (1))), ⟨⟨by decide +kernel, by decide +kernel, by decide +kernel⟩, by decide +kernel⟩,
    by decide +kernel, by decide +kernel, by decide +kernel⟩

theorem witness_LongOperationsBegin_6 : ∃ (s : State) (q : Req),
    (s.Serves 0x0810 q) ∧ (q.params.length = 8) ∧ (s.diagParams q 1 = none) ∧ (s.on F.DIAG_CTL_EN = true) ∧
    (s.inSafe 8 9 = false) ∧ (∀ x ∈ maskList (q.field 4 1), s.ampSt x = aOFF ∧ s.ampHeld x = false) :=
  ⟨(run.setF F.DIAG_CTL_EN 1), (rq (le 4 (diagObj) ++ le 1 (1) ++ le 3 (0))),
    ⟨⟨by decide +kernel, by decide +kernel, by decide +kernel⟩, by decide +kernel⟩, by decide +kernel, by decide +kernel,
    by decide +kernel, by decide +kernel, by decide +kernel⟩

theorem witness_ReadRequestsAnswerTheState_0 : ∃ (s : State) (q : Req),
    (s.Serves 0x0060 q) ∧ (q.params = []) :=
  ⟨run, (rq []), ⟨⟨by decide +kernel, by decide +kernel, by decide +kernel⟩, by decide +kernel⟩, by decide +kernel⟩

theorem witness_ReadRequestsAnswerTheState_1 : ∃ (s : State) (q : Req),
    (s.Serves 0x0020 q) ∧ (q.params.length = 8) ∧ (q.field 6 2 = 0) ∧ (1 ≤ q.field 4 2) ∧ (q.field 4 2 ≤ 127) ∧
    (s.log.ring = []) ∧ (s.log.ram = []) :=
  ⟨run, (rq (le 4 (0) ++ le 2 (127) ++ le 2 (0))), ⟨⟨by decide +kernel, by decide +kernel, by decide +kernel⟩, by decide +kernel⟩,
    by decide +kernel, by decide +kernel, by decide +kernel, by decide +kernel, by decide +kernel, by decide +kernel⟩

theorem witness_ReadRequestsAnswerTheState_2 : ∃ (s : State) (q : Req) (sub : Nat) (u : Nat) (off : Nat) (r : RegDesc),
    (s.Serves 0x0030 q) ∧ (q.params.length = 8) ∧ (q.field 4 2 = 1) ∧ (q.field 6 2 = 0) ∧
    (regTarget (q.field 0 4) = some (.reg sub u off r)) ∧ (r.priv = false) ∧ (s.absent sub u = false) ∧ (r.mwLen ≤ 1) ∧
    (¬ (sub = 1 ∧ u = 0 ∧ 0x40 ≤ off)) ∧ (¬ (sub = 1 ∧ 4 ≤ u ∧ u < 8 ∧ 0x70 ≤ off)) ∧ (¬ (sub = 0 ∧ u = 2 ∧ off = 0x2008)) :=
  ⟨run, (rq (le 4 ((F.EVT_EV_EN_EN 3).addr) ++ le 2 (1) ++ le 2 (0))), 12, 3, 0x0C,
    (descAt (((rq (le 4 ((F.EVT_EV_EN_EN 3).addr) ++ le 2 (1) ++ le 2 (0)) : Req).field 0 4))),
    ⟨⟨by decide +kernel, by decide +kernel, by decide +kernel⟩, by decide +kernel⟩, by decide +kernel, by decide +kernel,
    by decide +kernel, by decide +kernel, by decide +kernel, by decide +kernel, by decide +kernel, by decide +kernel,
    by decide +kernel, by decide +kernel⟩

theorem witness_ReadRequestsAnswerTheState_3 : ∃ (s : State) (q : Req) (n : Nat),
    (s.Serves 0x0001 q) ∧ (q.params = leBytes 4 (objId 0 1 n)) ∧ (1 ≤ n) ∧ (n ≤ 15) :=
  ⟨run, (rq (le 4 (objId 0 1 15))), 15, ⟨⟨by decide +kernel, by decide +kernel, by decide +kernel⟩, by decide +kernel⟩,
    by decide +kernel, by decide +kernel, by decide +kernel⟩

theorem witness_ReadRequestsAnswerTheState_4 : ∃ (s : State) (q : Req) (p : Nat),
    (s.Serves 0x0301 q) ∧ (q.params = leBytes 4 (objId 3 p 0)) ∧ (p < 4) ∧ ((s.l3 p).length = 64) :=
  ⟨({ run with str := { run.str with l3 := [(2, List.replicate 64 1)] } }), (rq (le 4 (objId 3 2 0))), 2,
    ⟨⟨by decide +kernel, by decide +kernel, by decide +kernel⟩, by decide +kernel⟩, by decide +kernel, by decide +kernel,
    by decide +kernel⟩

theorem witness_ReadRequestsAnswerTheState_5 : ∃ (s : State) (q : Req),
    (s.Serves 0x0A11 q) ∧ (q.params.length = 8) ∧ (q.obj = roleObj) ∧ (q.field 4 1 = 0) ∧ (q.field 5 3 = 0) :=
  ⟨run, (rq (le 4 (roleObj) ++ le 4 (0))), ⟨⟨by decide +kernel, by decide +kernel, by decide +kernel⟩, by decide +kernel⟩,
    by decide +kernel, by decide +kernel, by decide +kernel, by decide +kernel⟩

theorem witness_ReadRequestsAnswerTheState_6 : ∃ (s : State) (q : Req),
    (s.Serves 0x0B20 q) ∧ (q.params.length = 8) ∧ (1 ≤ q.field 4 2) ∧ (q.field 4 2 ≤ 127) ∧ (q.field 6 1 ≤ 11) ∧
    (s.hlt.ledger = []) :=
  ⟨run, (rq (le 4 (0) ++ le 2 (127) ++ le 1 (11) ++ le 1 (0))),
    ⟨⟨by decide +kernel, by decide +kernel, by decide +kernel⟩, by decide +kernel⟩, by decide +kernel, by decide +kernel,
    by decide +kernel, by decide +kernel, by decide +kernel⟩

theorem witness_ReadRequestsAnswerTheState_7 : ∃ (s : State) (q : Req) (r : DiagRec),
    (s.Serves 0x0812 q) ∧ (q.params.length = 8) ∧ (q.obj = diagObj) ∧ (q.field 4 1 ≤ 7) ∧ (q.field 5 1 = 0) ∧ (q.field 6 2 = 0) ∧
    (KV.find s.amp.last (q.field 4 1) = some r) :=
  ⟨({ run with amp := { run.amp with last := [(7, { cls := 2, rdc := 4000 })] } }), (rq (le 4 (diagObj) ++ le 1 (7) ++ le 3 (0))),
    ({ cls := 2, rdc := 4000 }), ⟨⟨by decide +kernel, by decide +kernel, by decide +kernel⟩, by decide +kernel⟩,
    by decide +kernel, by decide +kernel, by decide +kernel, by decide +kernel, by decide +kernel, by decide +kernel⟩

theorem witness_StreamAndGraphReadsAnswer_0 : ∃ (s : State) (q : Req),
    (s.Serves 0x0420 q) ∧ (q.params.length = 8) ∧ (1 ≤ q.field 2 2) ∧ (q.field 2 2 ≤ 84) ∧ (q.field 4 4 = 0) :=
  ⟨({ run with str := { run.str with peers := [(7, { mac := [2, 0, 0, 0, 0, 9], descs := [(3, [0x76, 0x3D, 0x30])] })] } }),
    (rq (le 2 (0) ++ le 2 (84) ++ le 4 (0))), ⟨⟨by decide +kernel, by decide +kernel, by decide +kernel⟩, by decide +kernel⟩,
    by decide +kernel, by decide +kernel, by decide +kernel, by decide +kernel⟩

theorem witness_StreamAndGraphReadsAnswer_1 : ∃ (s : State) (q : Req) (x : Peer) (text : List Byte),
    (s.Serves 0x0422 q) ∧ (q.params.length = 8) ∧ (q.field 4 4 = 0) ∧ (KV.find s.str.peers (q.field 0 2) = some x) ∧
    (KV.find x.descs (q.field 2 2) = some text) :=
  ⟨({ run with str := { run.str with peers := [(7, { mac := [2, 0, 0, 0, 0, 9], descs := [(3, [0x76, 0x3D, 0x30])] })] } }),
    (rq (le 2 (7) ++ le 2 (3) ++ le 4 (0))), ({ mac := [2, 0, 0, 0, 0, 9], descs := [(3, [0x76, 0x3D, 0x30])] }),
    ([0x76, 0x3D, 0x30]), ⟨⟨by decide +kernel, by decide +kernel, by decide +kernel⟩, by decide +kernel⟩, by decide +kernel,
    by decide +kernel, by decide +kernel, by decide +kernel⟩

theorem witness_StreamAndGraphReadsAnswer_2 : ∃ (s : State) (q : Req) (e : Nat),
    (s.Serves 0x0424 q) ∧ (q.params.length = 4) ∧ (q.obj = txObj e) ∧ (e < 512) ∧ (bChannels (s.txB e) ≠ 0) :=
  ⟨({ run with str := { run.str with txBlk := [(511, txBlk)] } }), (rq (le 4 (txObj 511))), 511,
    ⟨⟨by decide +kernel, by decide +kernel, by decide +kernel⟩, by decide +kernel⟩, by decide +kernel, by decide +kernel,
    by decide +kernel, by decide +kernel⟩

theorem witness_StreamAndGraphReadsAnswer_3 : ∃ (s : State) (q : Req) (g : Nat),
    (s.Serves 0x0512 q) ∧ (q.params.length = 4) ∧ (q.obj = objId 5 64 g) ∧ (g < 256) ∧ (configured (s.gImg g) = true) ∧
    (KV.find s.dsp.comp g = none) :=
  ⟨({ run with dsp := { run.dsp with img := [(255, meterImg)] } }), (rq (le 4 (objId 5 64 255))), 255,
    ⟨⟨by decide +kernel, by decide +kernel, by decide +kernel⟩, by decide +kernel⟩, by decide +kernel, by decide +kernel,
    by decide +kernel, by decide +kernel, by decide +kernel⟩

theorem witness_StreamAndGraphReadsAnswer_4 : ∃ (s : State) (q : Req) (g : Bool × Nat),
    (s.Serves 0x0521 q) ∧ (q.params.length = 16) ∧ (graphOf q.obj = some g) ∧ (4 ≤ q.field 8 4) ∧ (q.field 8 4 ≤ 4072) ∧
    (q.field 4 4 + q.field 8 4 ≤ gLen (KV.get [] s.dsp.img (s.gKey g))) ∧ (q.field 12 4 = 0) :=
  ⟨({ run with dsp := { run.dsp with img := [(0, meterImg)] } }), (rq (le 4 (objId 5 64 0) ++ le 4 (0) ++ le 4 (16) ++ le 4 (0))),
    ((false, 0)), ⟨⟨by decide +kernel, by decide +kernel, by decide +kernel⟩, by decide +kernel⟩, by decide +kernel,
    by decide +kernel, by decide +kernel, by decide +kernel, by decide +kernel, by decide +kernel⟩

theorem witness_StreamAndGraphReadsAnswer_5 : ∃ (s : State) (q : Req) (g : Nat) (d : Node),
    (s.Serves 0x0524 q) ∧ (q.params.length = 12) ∧ (graphOf q.obj = some (false, g)) ∧
    ((imgNodeList (s.gImg g))[q.field 4 2]? = some d) ∧ (d.ty = tyMETER) ∧ (q.field 6 2 < d.ch) ∧ (q.field 8 2 = 1) ∧
    (q.field 10 2 = 0) ∧ (KV.find s.dsp.nst (nodeKey (s.stateKey g) (q.field 4 2) (q.field 6 2)) = none) :=
  ⟨({ run with dsp := { run.dsp with img := [(0, meterImg)] } }),
    (rq (le 4 (objId 5 64 0) ++ le 2 (0) ++ le 2 (0) ++ le 2 (1) ++ le 2 (0))), 0, ((imgNodeList meterImg).getD 0 {}),
    ⟨⟨by decide +kernel, by decide +kernel, by decide +kernel⟩, by decide +kernel⟩, by decide +kernel, by decide +kernel,
    by decide +kernel, by decide +kernel, by decide +kernel, by decide +kernel, by decide +kernel, by decide +kernel⟩

theorem witness_StreamAndGraphReadsAnswer_6 : ∃ (s : State) (q : Req) (x : Nat),
    (s.Serves 0x0805 q) ∧ (q.params.length = 4) ∧ (objParts q.obj = (8, x, 0)) ∧ (x < 8) :=
  ⟨run, (rq (le 4 (objId 8 7 0))), 7, ⟨⟨by decide +kernel, by decide +kernel, by decide +kernel⟩, by decide +kernel⟩,
    by decide +kernel, by decide +kernel, by decide +kernel⟩

theorem witness_StreamAndGraphReadsAnswer_7 : ∃ (s : State) (q : Req) (p : Nat),
    (s.Serves 0x0605 q) ∧ (q.params.length = 4) ∧ (objParts q.obj = (6, p, 0)) ∧ (p < 16) :=
  ⟨run, (rq (le 4 (objId 6 15 0))), 15, ⟨⟨by decide +kernel, by decide +kernel, by decide +kernel⟩, by decide +kernel⟩,
    by decide +kernel, by decide +kernel, by decide +kernel⟩

theorem witness_StreamAndGraphReadsAnswer_8 : ∃ (s : State) (q : Req) (x : Nat),
    (s.Serves 0x0805 q) ∧ (q.params.length = 4) ∧ (objParts q.obj = (8, x, 0)) ∧ (x < 8) :=
  ⟨run, (rq (le 4 (objId 8 7 0))), 7, ⟨⟨by decide +kernel, by decide +kernel, by decide +kernel⟩, by decide +kernel⟩,
    by decide +kernel, by decide +kernel, by decide +kernel⟩

theorem witness_SetRequestsStore_0 : ∃ (s : State) (q : Req) (n : Nat),
    (s.Serves 0x0002 q) ∧ (q.params.length = 40) ∧ (q.obj = objId 0 1 n) ∧ (1 ≤ n) ∧ (n ≤ 15) ∧ (q.field 4 1 ≤ 2) ∧
    (q.field 5 1 ≤ 1) ∧ (q.field 6 2 = 0) ∧ (((q.params.drop 8).take 32).all (· == 0#8) = false) :=
  ⟨run, (rq (le 4 (objId 0 1 15) ++ le 1 (2) ++ le 1 (1) ++ le 2 (0) ++ le 32 (5))), 15,
    ⟨⟨by decide +kernel, by decide +kernel, by decide +kernel⟩, by decide +kernel⟩, by decide +kernel, by decide +kernel,
    by decide +kernel, by decide +kernel, by decide +kernel, by decide +kernel, by decide +kernel, by decide +kernel⟩

theorem witness_SetRequestsStore_1 : ∃ (s : State) (q : Req) (p : Nat),
    (s.Serves 0x0302 q) ∧ (q.params.length = 68) ∧ (q.obj = objId 3 p 0) ∧ (p < 4) ∧ (l3Fault (q.params.drop 4) = none) ∧
    (s.on (F.MAC_CTL_EN p) = false) ∧ ((q.params.drop 4).all (· == 0#8) = false) :=
  ⟨run, (rq (le 4 (objId 3 3 0) ++ l3Blk)), 3, ⟨⟨by decide +kernel, by decide +kernel, by decide +kernel⟩, by decide +kernel⟩,
    by decide +kernel, by decide +kernel, by decide +kernel, by decide +kernel, by decide +kernel, by decide +kernel⟩

theorem witness_SetRequestsStore_2 : ∃ (s : State) (q : Req) (bank : Nat) (e : Nat),
    (s.Serves 0x0402 q) ∧ (q.params.length = 68) ∧ (objParts q.obj = (4, 0, q.obj % 65536)) ∧
    (entryOf s.rxBank (q.obj % 65536) = some (bank, e)) ∧ (rxFault (q.params.drop 4) = none) ∧ (s.rxFrozen bank e = false) :=
  ⟨run, (rq (le 4 (objId 4 0 511) ++ rxBlk.map (·.toNat))), 0, 511,
    ⟨⟨by decide +kernel, by decide +kernel, by decide +kernel⟩, by decide +kernel⟩, by decide +kernel, by decide +kernel,
    by decide +kernel, by decide +kernel, by decide +kernel⟩

theorem witness_SetRequestsStore_3 : ∃ (s : State) (q : Req) (bank : Nat) (e : Nat),
    (s.Serves 0x0402 q) ∧ (q.params.length = 68) ∧ (objParts q.obj = (4, 0, q.obj % 65536)) ∧
    (entryOf s.rxBank (q.obj % 65536) = some (bank, e)) ∧ (rxFault (q.params.drop 4) = none) ∧ (s.rxFrozen bank e = false) :=
  ⟨run, (rq (le 4 (objId 4 0 511) ++ rxBlk.map (·.toNat))), 0, 511,
    ⟨⟨by decide +kernel, by decide +kernel, by decide +kernel⟩, by decide +kernel⟩, by decide +kernel, by decide +kernel,
    by decide +kernel, by decide +kernel, by decide +kernel⟩

theorem witness_SetRequestsStore_4 : ∃ (s : State) (q : Req) (bank : Nat) (e : Nat),
    (s.Serves 0x0402 q) ∧ (q.params.length = 68) ∧ (objParts q.obj = (4, 1, q.obj % 65536)) ∧
    (entryOf s.txBank (q.obj % 65536) = some (bank, e)) ∧ (txFault (q.params.drop 4) = none) ∧ (s.txFrozen bank e = false) :=
  ⟨run, (rq (le 4 (objId 4 1 511) ++ txBlk.map (·.toNat))), 0, 511,
    ⟨⟨by decide +kernel, by decide +kernel, by decide +kernel⟩, by decide +kernel⟩, by decide +kernel, by decide +kernel,
    by decide +kernel, by decide +kernel, by decide +kernel⟩

theorem witness_SetRequestsStore_5 : ∃ (s : State) (q : Req) (g : Bool × Nat) (new : List Byte),
    (s.Serves 0x0502 q) ∧ (q.params.length = 20) ∧ (graphOf q.obj = some g) ∧ (s.imgFree g = true) ∧
    (new = putImg (KV.get [] s.dsp.img (s.gKey g)) 0 (q.params.drop 4)) ∧ (configured new = true) ∧ (16 ≤ gLen new) ∧
    (gLen new ≤ 262144) ∧ (gLen new % 4 = 0) ∧ (imageTotal (KV.set s.dsp.img (s.gKey g) new) ≤ 327680) :=
  ⟨run, (rq (le 4 (objId 5 64 255) ++ (meterImg.take 16).map (·.toNat))), ((false, 255)),
    ((putImg (KV.get [] (run : State).dsp.img ((run : State).gKey ((false, 255) : Bool × Nat))) 0 ((rq (le 4 (objId 5 64 255) ++ (meterImg.take 16).map (·.toNat)) : Req).params.drop 4))),
    ⟨⟨by decide +kernel, by decide +kernel, by decide +kernel⟩, by decide +kernel⟩, by decide +kernel, by decide +kernel,
    by decide +kernel, rfl, by decide +kernel, by decide +kernel, by decide +kernel, by decide +kernel, by decide +kernel⟩

theorem witness_SetRequestsStore_6 : ∃ (s : State) (q : Req) (g : Bool × Nat) (new : List Byte),
    (s.Serves 0x0520 q) ∧ (12 ≤ q.params.length) ∧ (q.params.length ≤ 4080) ∧ (q.params.length % 4 = 0) ∧
    (graphOf q.obj = some g) ∧ (s.imgFree g = true) ∧ (q.field 4 4 % 4 = 0) ∧
    (new = putImg (KV.get [] s.dsp.img (s.gKey g)) (q.field 4 4) (q.params.drop 8)) ∧ (configured new = true) ∧
    (q.field 4 4 + q.params.length ≤ gLen new + 8) ∧ (gLen new ≤ 262144) ∧ (gLen new % 4 = 0) ∧
    (imageTotal (KV.set s.dsp.img (s.gKey g) new) ≤ 327680) :=
  ⟨({ run with dsp := { run.dsp with img := [(255, meterImg.take 16)] } }),
    (rq (le 4 (objId 5 64 255) ++ le 4 16 ++ (meterImg.drop 16).map (·.toNat))), ((false, 255)),
    ((putImg (KV.get [] ({ run with dsp := { run.dsp with img := [(255, meterImg.take 16)] } } : State).dsp.img (({ run with dsp := { run.dsp with img := [(255, meterImg.take 16)] } } : State).gKey ((false, 255) : Bool × Nat))) ((rq (le 4 (objId 5 64 255) ++ le 4 16 ++ (meterImg.drop 16).map (·.toNat)) : Req).field 4 4) ((rq (le 4 (objId 5 64 255) ++ le 4 16 ++ (meterImg.drop 16).map (·.toNat)) : Req).params.drop 8))),
    ⟨⟨by decide +kernel, by decide +kernel, by decide +kernel⟩, by decide +kernel⟩, by decide +kernel, by decide +kernel,
    by decide +kernel, by decide +kernel, by decide +kernel, by decide +kernel, rfl, by decide +kernel, by decide +kernel,
    by decide +kernel, by decide +kernel, by decide +kernel⟩

theorem witness_SetRequestsStore_7 : ∃ (s : State) (q : Req) (bank : Nat) (e : Nat) (b : List Byte),
    (s.Serves 0x0421 q) ∧ (8 ≤ q.params.length) ∧ (objParts q.obj = (4, 0, q.obj % 65536)) ∧
    (entryOf s.rxBank (q.obj % 65536) = some (bank, e)) ∧ (q.field 4 2 < 128) ∧ (q.field 6 2 = 0) ∧ (s.rxFrozen bank e = false) ∧
    ((s.work 0x0421 q).sdpBlock (s.rxBlkAt bank e) (q.field 4 2 / 2) ((q.params.drop 8).drop (if bitOf (q.field 4 2) 0 then sapSkip (q.params.drop 8) else 0)) = .inr b) ∧
    (rxFault b = none) :=
  ⟨({ run with str := { run.str with txBlk := [(511, txBlk)], rxBlk := [(511, rxBlk)] } }),
    (rq (le 4 (objId 4 0 511) ++ le 4 0 ++ (({ run with str := { run.str with txBlk := [(511, txBlk)], rxBlk := [(511, rxBlk)] } } : State).sdpText 511 txBlk).map (·.toNat))),
    0, 511,
    (rightOf ((State.work { run with str := { run.str with txBlk := [(511, txBlk)], rxBlk := [(511, rxBlk)] } } 0x0421 (rq (le 4 (objId 4 0 511) ++ le 4 0 ++ (({ run with str := { run.str with txBlk := [(511, txBlk)], rxBlk := [(511, rxBlk)] } } : State).sdpText 511 txBlk).map (·.toNat)))).sdpBlock (State.rxBlkAt { run with str := { run.str with txBlk := [(511, txBlk)], rxBlk := [(511, rxBlk)] } } 0 511) 0 (((rq (le 4 (objId 4 0 511) ++ le 4 0 ++ (({ run with str := { run.str with txBlk := [(511, txBlk)], rxBlk := [(511, rxBlk)] } } : State).sdpText 511 txBlk).map (·.toNat))).params.drop 8).drop 0))),
    ⟨⟨by decide +kernel, by decide +kernel, by decide +kernel⟩, by decide +kernel⟩, by decide +kernel, by decide +kernel,
    by decide +kernel, by decide +kernel, by decide +kernel, by decide +kernel, by decide +kernel, by decide +kernel⟩

theorem witness_SetRequestsStore_8 : ∃ (s : State) (q : Req),
    (s.Serves 0x0423 q) ∧ (8 ≤ q.params.length) ∧ (q.field 4 2 < 128) ∧ (bitOf (q.field 4 2) 0 = false) ∧ (q.field 6 2 = 0) ∧
    ((KV.find (KV.get {} s.str.peers (q.field 0 2)).descs (q.field 2 2)).isSome = true) :=
  ⟨({ run with str := { run.str with peers := [(7, { mac := [2, 0, 0, 0, 0, 9], descs := [(3, [0x76, 0x3D, 0x30])] })] } }),
    (rq (le 2 (7) ++ le 2 (3) ++ le 2 (126) ++ le 2 (0) ++ le 3 (0x303D76))),
    ⟨⟨by decide +kernel, by decide +kernel, by decide +kernel⟩, by decide +kernel⟩, by decide +kernel, by decide +kernel,
    by decide +kernel, by decide +kernel, by decide +kernel⟩

theorem witness_SetRequestsStore_9 : ∃ (s : State) (q : Req),
    (s.Serves 0x0423 q) ∧ (8 ≤ q.params.length) ∧ (q.field 4 2 < 128) ∧ (bitOf (q.field 4 2) 0 = false) ∧ (q.field 6 2 = 0) ∧
    (s.str.peers = []) :=
  ⟨run, (rq (le 2 (7) ++ le 2 (3) ++ le 2 (126) ++ le 2 (0) ++ le 3 (0x303D76))),
    ⟨⟨by decide +kernel, by decide +kernel, by decide +kernel⟩, by decide +kernel⟩, by decide +kernel, by decide +kernel,
    by decide +kernel, by decide +kernel, by decide +kernel⟩

theorem witness_EnableAndDisableRequestsActOnFlags_0 : ∃ (s : State) (q : Req) (bank : Nat) (e : Nat),
    (s.Serves 0x0403 q) ∧ (q.params.length = 4) ∧ (objParts q.obj = (4, 0, q.obj % 65536)) ∧
    (entryOf s.rxBank (q.obj % 65536) = some (bank, e)) ∧ (bChannels (s.rxBlkAt bank e) ≠ 0) ∧
    (s.rxOn bank e = true ∨ (bank ≠ s.rxBank ∧ s.str.rxSwap = none) ∨ (bank = s.rxBank ∧ ∃ a, (s.work 0x0403 q).rxCheck e = .inr a)) :=
  ⟨({ (run.setF F.MEM_STATUS_TRAINED 1).setF F.MEM_STATUS_DENSITY 1 with str := { run.str with rxBlk := [(511, rxBlk)] } }),
    (rq (le 4 (objId 4 0 511))), 0, 511, ⟨⟨by decide +kernel, by decide +kernel, by decide +kernel⟩, by decide +kernel⟩,
    by decide +kernel, by decide +kernel, by decide +kernel, by decide +kernel,
    .inr (.inr ⟨by decide +kernel, right_of (by decide +kernel)⟩)⟩

theorem witness_EnableAndDisableRequestsActOnFlags_1 : ∃ (s : State) (q : Req) (bank : Nat) (e : Nat),
    (s.Serves 0x0404 q) ∧ (q.params.length = 4) ∧ (objParts q.obj = (4, 0, q.obj % 65536)) ∧
    (entryOf s.rxBank (q.obj % 65536) = some (bank, e)) ∧ (bank ≠ s.rxBank → s.str.rxSwap = none) :=
  ⟨({ run with str := { run.str with rxBlk := [(511, rxBlk)], rxFlag := [511] } }), (rq (le 4 (objId 4 0 511))), 0, 511,
    ⟨⟨by decide +kernel, by decide +kernel, by decide +kernel⟩, by decide +kernel⟩, by decide +kernel, by decide +kernel,
    by decide +kernel, by decide +kernel⟩

theorem witness_EnableAndDisableRequestsActOnFlags_2 : ∃ (s : State) (q : Req) (bank : Nat) (e : Nat),
    (s.Serves 0x0403 q) ∧ (q.params.length = 4) ∧ (objParts q.obj = (4, 1, q.obj % 65536)) ∧
    (entryOf s.txBank (q.obj % 65536) = some (bank, e)) ∧ (bChannels (s.txBlkAt bank e) ≠ 0) ∧
    (s.txOn bank e = true ∨ (bank ≠ s.txBank ∧ s.str.txSwap = none) ∨ (bank = s.txBank ∧ ∃ a, (s.work 0x0403 q).txCheck e = .inr a)) :=
  ⟨({ (run.setF (F.MAC_CTL_EN 0) 1).setF (F.MAC_STATUS_LINK 0) 1 with str := { run.str with txBlk := [(511, txBlk)] } }),
    (rq (le 4 (objId 4 1 511))), 0, 511, ⟨⟨by decide +kernel, by decide +kernel, by decide +kernel⟩, by decide +kernel⟩,
    by decide +kernel, by decide +kernel, by decide +kernel, by decide +kernel,
    .inr (.inr ⟨by decide +kernel, right_of (by decide +kernel)⟩)⟩

theorem witness_EnableAndDisableRequestsActOnFlags_3 : ∃ (s : State) (q : Req) (bank : Nat) (e : Nat),
    (s.Serves 0x0404 q) ∧ (q.params.length = 4) ∧ (objParts q.obj = (4, 1, q.obj % 65536)) ∧
    (entryOf s.txBank (q.obj % 65536) = some (bank, e)) ∧ (bank ≠ s.txBank → s.str.txSwap = none) :=
  ⟨({ run with str := { run.str with txBlk := [(511, txBlk)], txFlag := [511] } }), (rq (le 4 (objId 4 1 511))), 0, 511,
    ⟨⟨by decide +kernel, by decide +kernel, by decide +kernel⟩, by decide +kernel⟩, by decide +kernel, by decide +kernel,
    by decide +kernel, by decide +kernel⟩

theorem witness_EnableAndDisableRequestsActOnFlags_4 : ∃ (s : State) (q : Req) (g : Bool × Nat),
    (s.Serves 0x0503 q) ∧ (q.params.length = 4) ∧ (graphOf q.obj = some g) ∧
    (configured (KV.get [] s.dsp.img (s.gKey g)) = true) ∧
    (s.dsp.flag.contains (s.gKey g) = true ∨ (g.1 = true ∧ s.dsp.swap = none) ∨ (g.1 = false ∧ ∃ l, (s.work 0x0503 q).graphCheck g.2 = .inr l)) :=
  ⟨({ run with dsp := { run.dsp with img := [(255, gainImg)] } }), (rq (le 4 (objId 5 64 255))), ((false, 255)),
    ⟨⟨by decide +kernel, by decide +kernel, by decide +kernel⟩, by decide +kernel⟩, by decide +kernel, by decide +kernel,
    by decide +kernel, .inr (.inr ⟨by decide +kernel, right_of (by decide +kernel)⟩)⟩

theorem witness_EnableAndDisableRequestsActOnFlags_5 : ∃ (s : State) (q : Req) (g : Bool × Nat),
    (s.Serves 0x0504 q) ∧ (q.params.length = 4) ∧ (graphOf q.obj = some g) ∧ (g.1 = true → s.dsp.swap = none) :=
  ⟨({ run with dsp := { run.dsp with img := [(0, gainImg)], flag := [0] } }), (rq (le 4 (objId 5 64 0))), ((false, 0)),
    ⟨⟨by decide +kernel, by decide +kernel, by decide +kernel⟩, by decide +kernel⟩, by decide +kernel, by decide +kernel,
    by decide +kernel⟩

theorem witness_EnableAndDisableRequestsActOnFlags_6 : ∃ (s : State) (q : Req) (sub : Nat) (l : List (Nat × Nat)),
    (s.Serves (sub % 256 * 256 + 3) q) ∧ (q.params.length = 4) ∧ (sub ≠ 4) ∧ (sub ≠ 5) ∧ (enTargets sub q.obj = some l) ∧
    (∀ p ∈ l, s.on (enFld (unitBase sub p.1 + p.2)) = true ∨ s.mayEnable sub p = true) :=
  ⟨run, (rq (le 4 (objId 3 5 0))), 3, ([(5, 0)]), ⟨⟨by decide +kernel, by decide +kernel, by decide +kernel⟩, by decide +kernel⟩,
    by decide +kernel, by decide +kernel, by decide +kernel, by decide +kernel, by decide +kernel⟩

theorem witness_EnableAndDisableRequestsActOnFlags_7 : ∃ (s : State) (q : Req) (sub : Nat) (l : List (Nat × Nat)),
    (s.Serves (sub % 256 * 256 + 4) q) ∧ (q.params.length = 4) ∧ (sub ≠ 4) ∧ (sub ≠ 5) ∧ (enTargets sub q.obj = some l) ∧
    (∀ p ∈ l, s.on (enFld (unitBase sub p.1 + p.2)) = false ∨ (isEnReg sub p.1 p.2 = true ∧ s.proofHoldsUnit sub p.1 = false ∧ s.disLegal sub p.1 p.2 = true)) :=
  ⟨(run.setF F.DIAG_CTL_EN 1), (rq (le 4 (objId 8 9 0))), 8, ([(9, 0)]),
    ⟨⟨by decide +kernel, by decide +kernel, by decide +kernel⟩, by decide +kernel⟩, by decide +kernel, by decide +kernel,
    by decide +kernel, by decide +kernel, by decide +kernel⟩

theorem witness_EnableAndDisableRequestsActOnFlags_8 : ∃ (s : State) (q : Req) (p : Nat),
    (s.Serves 0x0604 q) ∧ (q.params.length = 4) ∧ (q.obj = objId 6 p 0) ∧ (p < 16) ∧ (s.on (F.TDM_CTL_EN p) = true) ∧
    (s.proofHoldsUnit 6 p = false) :=
  ⟨(run.setF (F.TDM_CTL_EN 15) 1), (rq (le 4 (objId 6 15 0))), 15,
    ⟨⟨by decide +kernel, by decide +kernel, by decide +kernel⟩, by decide +kernel⟩, by decide +kernel, by decide +kernel,
    by decide +kernel, by decide +kernel, by decide +kernel⟩

theorem witness_EnableAndDisableRequestsActOnFlags_9 : ∃ (s : State) (q : Req) (x : Nat),
    (s.Serves 0x0804 q) ∧ (q.params.length = 4) ∧ (q.obj = objId 8 x 0) ∧ (x < 8) ∧ (s.on (F.AMP_CTL_EN x) = true) ∧
    (s.ampSt x = aRUN) ∧ (s.proofHoldsUnit 8 x = false) :=
  ⟨((run.setF (F.AMP_CTL_EN 7) 1).setF (F.AMP_STATUS_STATE 7) aRUN), (rq (le 4 (objId 8 7 0))), 7,
    ⟨⟨by decide +kernel, by decide +kernel, by decide +kernel⟩, by decide +kernel⟩, by decide +kernel, by decide +kernel,
    by decide +kernel, by decide +kernel, by decide +kernel, by decide +kernel⟩

theorem witness_SwapRequestsWaitForTheirTick_0 : ∃ (s : State) (q : Req) (a : List (Nat × Nat) × List (Nat × OwnerC)),
    (s.Serves 0x0410 q) ∧ (q.params.length = 4) ∧ (q.obj = 0x0400FFFF) ∧ (s.on F.RXT_CTL_EN = true) ∧ (s.str.rxSwap = none) ∧
    ((s.work 0x0410 q).rxSwapCheck = .inr a) :=
  ⟨(run.setF F.RXT_CTL_EN 1), (rq (le 4 (0x0400FFFF))),
    (rightOf (((run.setF F.RXT_CTL_EN 1 : State).work 0x0410 (rq (le 4 (0x0400FFFF)) : Req)).rxSwapCheck)),
    ⟨⟨by decide +kernel, by decide +kernel, by decide +kernel⟩, by decide +kernel⟩, by decide +kernel, by decide +kernel,
    by decide +kernel, by decide +kernel, by decide +kernel⟩

theorem witness_SwapRequestsWaitForTheirTick_1 : ∃ (s : State) (q : Req),
    (s.Serves 0x0410 q) ∧ (q.params.length = 4) ∧ (q.obj = 0x0400FFFF) ∧ (s.on F.RXT_CTL_EN = false) :=
  ⟨(run.setF F.RXT_CTL_EN 0), (rq (le 4 (0x0400FFFF))),
    ⟨⟨by decide +kernel, by decide +kernel, by decide +kernel⟩, by decide +kernel⟩, by decide +kernel, by decide +kernel,
    by decide +kernel⟩

theorem witness_SwapRequestsWaitForTheirTick_2 : ∃ (s : State) (q : Req) (a : List (Nat × Nat)),
    (s.Serves 0x0411 q) ∧ (q.params.length = 4) ∧ (q.obj = 0x0401FFFF) ∧ (s.on F.TXT_CTL_EN = true) ∧ (s.str.txSwap = none) ∧
    ((s.work 0x0411 q).txSwapCheck = .inr a) :=
  ⟨(run.setF F.TXT_CTL_EN 1), (rq (le 4 (0x0401FFFF))),
    (rightOf (((run.setF F.TXT_CTL_EN 1 : State).work 0x0411 (rq (le 4 (0x0401FFFF)) : Req)).txSwapCheck)),
    ⟨⟨by decide +kernel, by decide +kernel, by decide +kernel⟩, by decide +kernel⟩, by decide +kernel, by decide +kernel,
    by decide +kernel, by decide +kernel, by decide +kernel⟩

theorem witness_SwapRequestsWaitForTheirTick_3 : ∃ (s : State) (q : Req),
    (s.Serves 0x0411 q) ∧ (q.params.length = 4) ∧ (q.obj = 0x0401FFFF) ∧ (s.on F.TXT_CTL_EN = false) :=
  ⟨(run.setF F.TXT_CTL_EN 0), (rq (le 4 (0x0401FFFF))),
    ⟨⟨by decide +kernel, by decide +kernel, by decide +kernel⟩, by decide +kernel⟩, by decide +kernel, by decide +kernel,
    by decide +kernel⟩

theorem witness_SwapRequestsWaitForTheirTick_4 : ∃ (s : State) (q : Req) (l : List (Nat × OwnerC)),
    (s.Serves 0x0523 q) ∧ (q.params.length = 4) ∧ (q.obj = graphTable) ∧ (s.dsp.swap = none) ∧
    ((s.work 0x0523 q).graphSwapCheck = .inr l) :=
  ⟨run, (rq (le 4 (graphTable))), (rightOf (((run : State).work 0x0523 (rq (le 4 (graphTable)) : Req)).graphSwapCheck)),
    ⟨⟨by decide +kernel, by decide +kernel, by decide +kernel⟩, by decide +kernel⟩, by decide +kernel, by decide +kernel,
    by decide +kernel, by decide +kernel⟩

theorem witness_SwapRequestsWaitForTheirTick_5 : ∃ (s : State) (q : Req) (n : Nat) (at_ : Nat) (k : Nat) (off : Nat) (d : Node) (l : List (Nat × Nat × Nat)),
    (s.Serves 0x0522 q) ∧ (n + 12 = q.params.length) ∧ (2 ≤ n) ∧ (n ≤ 4068) ∧ (n % 2 = 0) ∧ (graphOf q.obj = some (false, k)) ∧
    (s.dsp.flag.contains (s.gKey (false, k)) = true) ∧ (s.dsp.swap = none) ∧
    ((imgNodes (KV.get [] s.dsp.img (s.gKey (false, k))))[q.field 4 2]? = some (at_, d)) ∧ (d.ty ≠ tyPILOT) ∧ (q.field 6 2 = 0) ∧
    (off = q.field 8 4) ∧ (off + n ≤ 4 * d.len) ∧ (12 + 4 * d.nIn ≤ off) ∧ (d.liveSpan n (off - (12 + 4 * d.nIn)) 0 n = some l) ∧
    (∀ f ∈ l, s.liveLegal d f.1 (leAt (q.params.drop 12) f.2.1 f.2.2) = true) :=
  ⟨({ run with dsp := { run.dsp with img := [(0, gainImg)], flag := [0] } }),
    (rq (le 4 (objId 5 64 0) ++ le 2 (0) ++ le 2 (0) ++ le 4 (16) ++ le 2 (256))), 2, 16, 0, 16,
    ((imgNodeList gainImg).getD 0 {}), ([(0, 0, 2)]),
    ⟨⟨by decide +kernel, by decide +kernel, by decide +kernel⟩, by decide +kernel⟩, by decide +kernel, by decide +kernel,
    by decide +kernel, by decide +kernel, by decide +kernel, by decide +kernel, by decide +kernel, by decide +kernel,
    by decide +kernel, by decide +kernel, rfl, by decide +kernel, by decide +kernel, by decide +kernel, by decide +kernel⟩

theorem witness_TriggerClockAndRegisterRequestsAct_0 : ∃ (s : State) (q : Req) (k : Nat) (st : Nat) (due : Int),
    (s.Serves 0x0110 q) ∧ (q.params.length = 28) ∧ (q.field 0 2 = 1) ∧ (q.field 2 2 = 0) ∧ (q.field 4 1 = k) ∧ (k < 32) ∧
    ((trgEntry q 4).fault q 4 = none) ∧
    ((s.work 0x0110 q).trgJudge k (q.field 5 1) (q.field 8 4) (q.field 6 2) (Tai.ofBits (q.field 12 14)).units = .inr (st, due)) :=
  ⟨run, (rq (le 2 1 ++ le 2 0 ++ [31, 0] ++ le 2 10000 ++ le 4 0 ++ le 16 (2 * 2 ^ 48))), 31,
    ((rightOf (run.trgJudge 31 0 0 10000 ({ sec := 2 } : Tai).units)).1),
    ((rightOf (run.trgJudge 31 0 0 10000 ({ sec := 2 } : Tai).units)).2),
    ⟨⟨by decide +kernel, by decide +kernel, by decide +kernel⟩, by decide +kernel⟩, by decide +kernel, by decide +kernel,
    by decide +kernel, by decide +kernel, by decide +kernel, by decide +kernel, by decide +kernel⟩

theorem witness_TriggerClockAndRegisterRequestsAct_1 : ∃ (s : State) (q : Req),
    (s.Serves 0x0111 q) ∧ (q.params.length = 4) :=
  ⟨run, (rq (le 4 (2147483649))), ⟨⟨by decide +kernel, by decide +kernel, by decide +kernel⟩, by decide +kernel⟩, by decide +kernel⟩

theorem witness_TriggerClockAndRegisterRequestsAct_2 : ∃ (s : State) (q : Req) (p : Nat),
    (s.Serves 0x0112 q) ∧ (q.params.length = 8) ∧ (q.obj = objId 1 (4 + p) 0) ∧ (p < 4) ∧ (1 ≤ q.field 4 2) ∧ (q.field 4 2 ≤ 16) ∧
    (q.field 6 2 = 0) :=
  ⟨({ run with stamps := { run.stamps with queues := [(3, [{ id := 5 }])] } }),
    (rq (le 4 (objId 1 7 0) ++ le 2 (16) ++ le 2 (0))), 3,
    ⟨⟨by decide +kernel, by decide +kernel, by decide +kernel⟩, by decide +kernel⟩, by decide +kernel, by decide +kernel,
    by decide +kernel, by decide +kernel, by decide +kernel, by decide +kernel⟩

theorem witness_TriggerClockAndRegisterRequestsAct_3 : ∃ (s : State) (q : Req),
    (s.Serves 0x0210 q) ∧ (q.params.length = 16) ∧ (q.obj = objId 2 11 0) ∧ (q.field 4 4 < 32) ∧
    ((q.field 8 8 : Int) ≤ s.now.sec + 3600) ∧ (s.on F.OUT_MIS_ALIGN_PEND = false) ∧
    (s.now.units + 10000000 * 65536 ≤ ({ sec := q.field 8 8 } : Tai).units) ∧ (q.field 8 8 ≠ 0) ∧
    (Nat.land (q.field 4 4) (s.getF F.OUT_MIS_MASK) ≠ 0) :=
  ⟨(run.setF F.OUT_MIS_MASK 31), (rq (le 4 (objId 2 11 0) ++ le 4 (31) ++ le 8 (3600))),
    ⟨⟨by decide +kernel, by decide +kernel, by decide +kernel⟩, by decide +kernel⟩, by decide +kernel, by decide +kernel,
    by decide +kernel, by decide +kernel, by decide +kernel, by decide +kernel, by decide +kernel, by decide +kernel⟩

theorem witness_TriggerClockAndRegisterRequestsAct_4 : ∃ (s : State) (q : Req) (v : Nat),
    (s.Serves 0x0310 q) ∧ (q.params.length = 8) ∧ (q.field 0 1 ≤ 3) ∧
    (q.field 1 1 = 0 ∧ q.field 2 1 = 0 ∧ q.field 4 2 ≤ 31 ∨ q.field 1 1 = 2 ∧ q.field 2 1 ≤ 31) ∧ (q.field 3 1 = 0) ∧
    (s.on (F.MAC_STATUS_STEPPING (q.field 0 1)) = false) ∧ (s.mdioOk = true) :=
  ⟨(run.setF F.PHYM_CTL_EN 1), (rq (le 1 (3) ++ le 1 (0) ++ le 1 (0) ++ le 1 (0) ++ le 2 (31) ++ le 2 (0))), 0x1234,
    ⟨⟨by decide +kernel, by decide +kernel, by decide +kernel⟩, by decide +kernel⟩, by decide +kernel, by decide +kernel,
    by decide +kernel, by decide +kernel, by decide +kernel, by decide +kernel⟩

theorem witness_TriggerClockAndRegisterRequestsAct_5 : ∃ (s : State) (q : Req),
    (s.Serves 0x0310 q) ∧ (q.params.length = 8) ∧ (q.field 0 1 ≤ 3) ∧
    (q.field 1 1 = 1 ∧ q.field 2 1 = 0 ∧ q.field 4 2 ≤ 31 ∨ q.field 1 1 = 3 ∧ q.field 2 1 ≤ 31) ∧ (q.field 3 1 = 0) ∧
    (q.origin.priv = true) ∧ (s.on (F.MAC_STATUS_STEPPING (q.field 0 1)) = false) ∧ (s.mdioOk = true) :=
  ⟨(run.setF F.PHYM_CTL_EN 1), (rq (le 1 (3) ++ le 1 (3) ++ le 1 (31) ++ le 1 (0) ++ le 2 (65535) ++ le 2 (43981))),
    ⟨⟨by decide +kernel, by decide +kernel, by decide +kernel⟩, by decide +kernel⟩, by decide +kernel, by decide +kernel,
    by decide +kernel, by decide +kernel, by decide +kernel, by decide +kernel, by decide +kernel⟩

theorem witness_TriggerClockAndRegisterRequestsAct_6 : ∃ (s : State) (q : Req) (g : Nat) (v : Nat),
    (s.Serves 0x0031 q) ∧ (q.params.length = 12) ∧ (q.field 0 4 = (F.EVT_EV_EN_EN g).addr) ∧ (g < 16) ∧ (q.field 4 2 = 1) ∧
    (q.field 6 2 = 0) ∧ (v < 65536) ∧ (q.field 8 4 = maskData 0xFFFF v) :=
  ⟨run, (rq (le 4 ((F.EVT_EV_EN_EN 15).addr) ++ le 2 (1) ++ le 2 (0) ++ le 4 (maskData 0xFFFF 0xA5A5))), 15, 0xA5A5,
    ⟨⟨by decide +kernel, by decide +kernel, by decide +kernel⟩, by decide +kernel⟩, by decide +kernel, by decide +kernel,
    by decide +kernel, by decide +kernel, by decide +kernel, by decide +kernel, by decide +kernel⟩

theorem witness_ServiceRequestsAct_0 : ∃ (s : State) (q : Req),
    (s.Serves 0x0050 q) ∧ (q.params.length = 12) ∧ (q.field 0 1 ≤ 3) ∧ (q.field 1 1 = 0) ∧ (q.field 2 2 = 0) ∧
    (q.field 4 4 % 4 = 0) ∧ (q.field 4 4 + 4 ≤ 65536) :=
  ⟨run, (rq (le 1 (3) ++ le 1 (0) ++ le 2 (0) ++ le 4 (65532) ++ le 4 (287454020))),
    ⟨⟨by decide +kernel, by decide +kernel, by decide +kernel⟩, by decide +kernel⟩, by decide +kernel, by decide +kernel,
    by decide +kernel, by decide +kernel, by decide +kernel, by decide +kernel⟩

theorem witness_ServiceRequestsAct_1 : ∃ (s : State) (q : Req),
    (s.Serves 0x0050 q) ∧ (q.params.length = 12) ∧ (q.field 0 1 ≤ 3) ∧ (q.field 1 1 = 1) ∧ (q.field 2 2 = 0) ∧
    (q.field 4 4 % 4 = 0) ∧ (q.field 4 4 + 4 ≤ 65536) ∧ (s.pins.pfwLow = false) :=
  ⟨run, (rq (le 1 (0) ++ le 1 (1) ++ le 2 (0) ++ le 4 (0) ++ le 4 (287454020))),
    ⟨⟨by decide +kernel, by decide +kernel, by decide +kernel⟩, by decide +kernel⟩, by decide +kernel, by decide +kernel,
    by decide +kernel, by decide +kernel, by decide +kernel, by decide +kernel, by decide +kernel⟩

theorem witness_ServiceRequestsAct_2 : ∃ (s : State) (q : Req),
    (s.Serves 0x0051 q) ∧ (q.params.length = 4) ∧ (∀ b < 4, s.car.fwWritten.contains b = true) ∧
    (crc32c s.patchBytes = q.field 0 4) :=
  ⟨fwState, (fwReq fwState), ⟨⟨by decide +kernel, by decide +kernel, by decide +kernel⟩, by decide +kernel⟩, rfl,
    by decide +kernel, (fwReq_field _).symm⟩

theorem witness_ServiceRequestsAct_3 : ∃ (s : State) (q : Req),
    (s.Serves 0x0811 q) ∧ (q.params.length = 8) ∧ (s.diagParams q 0 = none) ∧ (∀ x ∈ maskList (q.field 4 1), s.liveRefusal x = 0) :=
  ⟨({ (run.setF F.DIAG_CTL_EN 1).setF (F.AMP_STATUS_STATE 6) aRUN with dsp := { run.dsp with img := [(0, pilotImg 6)], flag := [0] } }),
    (rq (le 4 (diagObj) ++ le 1 (64) ++ le 3 (0))),
    ⟨⟨by decide +kernel, by decide +kernel, by decide +kernel⟩, by decide +kernel⟩, by decide +kernel, by decide +kernel,
    by decide +kernel⟩

theorem witness_ServiceRequestsAct_4 : ∃ (s : State) (q : Req),
    (s.Serves 0x0813 q) ∧ (q.params.length = 8) ∧ (s.diagParams q 1 = none) ∧ (q.field 5 1 = 0) ∧
    (∀ x ∈ maskList (q.field 4 1), s.plateOk x = true) :=
  ⟨({ run with amp := { run.amp with last := [(0, { cls := 1 }), (7, { cls := 6 })] } }),
    (rq (le 4 (diagObj) ++ le 1 (129) ++ le 1 (0) ++ le 2 (0))),
    ⟨⟨by decide +kernel, by decide +kernel, by decide +kernel⟩, by decide +kernel⟩, by decide +kernel, by decide +kernel,
    by decide +kernel, by decide +kernel⟩

theorem witness_ServiceRequestsAct_5 : ∃ (s : State) (q : Req),
    (s.Serves 0x0813 q) ∧ (q.params.length = 8) ∧ (s.diagParams q 1 = none) ∧ (q.field 5 1 = 1) :=
  ⟨({ run with amp := { run.amp with plate := [(0, { cls := 1 })] } }),
    (rq (le 4 (diagObj) ++ le 1 (129) ++ le 1 (1) ++ le 2 (0))),
    ⟨⟨by decide +kernel, by decide +kernel, by decide +kernel⟩, by decide +kernel⟩, by decide +kernel, by decide +kernel,
    by decide +kernel⟩

theorem witness_ServiceRequestsAct_6 : ∃ (s : State) (q : Req),
    (s.Serves 0x0A10 q) ∧ (q.params.length = 8) ∧ (q.obj = roleObj) ∧ (q.field 4 1 ≤ 1) ∧ (q.field 5 3 = 0) ∧
    (s.pairSt = psACTIVE ∧ s.pair.pState = psREADY ∨ s.pairSt = psREADY ∨ s.pairSt = psSYNC ∧ q.field 4 1 = 1) :=
  ⟨(run.setF F.ROLE_STATUS_STATE psREADY), (rq (le 4 (roleObj) ++ le 1 (1) ++ le 3 (0))),
    ⟨⟨by decide +kernel, by decide +kernel, by decide +kernel⟩, by decide +kernel⟩, by decide +kernel, by decide +kernel,
    by decide +kernel, by decide +kernel, by decide +kernel⟩

theorem witness_ServiceRequestsAct_7 : ∃ (s : State) (q : Req),
    (s.Serves 0x0B12 q) ∧ (q.params.length = 8) ∧ (q.obj = monObj) ∧ (q.field 4 1 = 6 ∨ q.field 4 1 = 7) ∧
    (q.field 5 1 ≤ 7 ∨ q.field 5 1 = 0xFF) ∧ (q.field 6 2 = 0) :=
  ⟨({ run with hlt := { run.hlt with base := [(trendKey 7 7 3, [5])] } }),
    (rq (le 4 (monObj) ++ le 1 (7) ++ le 1 (255) ++ le 2 (0))),
    ⟨⟨by decide +kernel, by decide +kernel, by decide +kernel⟩, by decide +kernel⟩, by decide +kernel, by decide +kernel,
    by decide +kernel, by decide +kernel, by decide +kernel⟩

theorem witness_ServiceRequestsAct_8 : ∃ (s : State) (q : Req),
    (s.Serves 0x0B10 q) ∧ (q.params.length = 4) ∧ (q.obj = calObj) ∧ (s.calMayRun = true) :=
  ⟨((run.setF F.CAL_CTL_EN 1).setF F.CAL_STATUS_RUNNING 1), (rq (le 4 (calObj))),
    ⟨⟨by decide +kernel, by decide +kernel, by decide +kernel⟩, by decide +kernel⟩, by decide +kernel, by decide +kernel,
    by decide +kernel⟩

theorem witness_ServiceRequestsAct_9 : ∃ (s : State) (q : Req),
    (s.Serves 0x0B11 q) ∧ (q.params.length = 8) ∧ (q.obj = calObj) ∧ (q.field 5 3 = 0) ∧ (s.approveOk (q.field 4 1) = true) ∧
    (s.approveHeld (q.field 4 1) = false) :=
  ⟨(run.setF F.CAL_STATUS_PENDING 2), (rq (le 4 (calObj) ++ le 1 (2) ++ le 3 (0))),
    ⟨⟨by decide +kernel, by decide +kernel, by decide +kernel⟩, by decide +kernel⟩, by decide +kernel, by decide +kernel,
    by decide +kernel, by decide +kernel, by decide +kernel⟩

theorem witness_ServiceRequestsAct_10 : ∃ (s : State) (q : Req),
    (s.Serves 0x0E10 q) ∧ (q.params.length = 8) ∧ (q.obj = pwrObj) ∧ (s.powerSt < q.field 4 1) ∧ (q.field 4 1 = 3) ∧
    (q.field 5 3 = 0) ∧ (s.on F.PWR_STATUS_ENTERING = false) ∧ (s.pins.pfwLow = false) :=
  ⟨(run.setF F.PWR_STATUS_STATE 2), (rq (le 4 (pwrObj) ++ le 1 (3) ++ le 3 (0))),
    ⟨⟨by decide +kernel, by decide +kernel, by decide +kernel⟩, by decide +kernel⟩, by decide +kernel, by decide +kernel,
    by decide +kernel, by decide +kernel, by decide +kernel, by decide +kernel, by decide +kernel⟩

theorem witness_ServiceRequestsAct_11 : ∃ (s : State) (q : Req),
    (s.Serves 0x0E10 q) ∧ (q.params.length = 8) ∧ (q.obj = pwrObj) ∧ (q.field 4 1 < s.powerSt) ∧ (q.field 5 3 = 0) ∧
    (s.on F.PWR_STATUS_ENTERING = false) ∧ (s.pins.pfwLow = false) ∧ (∀ u < 3, s.inSafe 14 u = false) ∧ (s.pairSt = psACTIVE) ∧
    (s.pair.pState = psREADY) ∧ (q.field 4 1 = 2 → s.getF (F.MAC_CTL_MODE (s.getF F.PWR_CTL_LISTEN_PORT)) ≠ 1) ∧
    (q.field 4 1 < 4) :=
  ⟨({ run.setF F.ROLE_STATUS_STATE psACTIVE with pair := { run.pair with pState := psREADY } }),
    (rq (le 4 (pwrObj) ++ le 1 (0) ++ le 3 (0))), ⟨⟨by decide +kernel, by decide +kernel, by decide +kernel⟩, by decide +kernel⟩,
    by decide +kernel, by decide +kernel, by decide +kernel, by decide +kernel, by decide +kernel, by decide +kernel,
    by decide +kernel, by decide +kernel, by decide +kernel, by decide +kernel, by decide +kernel⟩

theorem witness_ServiceRequestsAct_12 : ∃ (s : State) (q : Req),
    (s.Serves 0x0E12 q) ∧ (q.params.length = 4) ∧ (q.obj = pwrObj) :=
  ⟨run, (rq (le 4 (pwrObj))), ⟨⟨by decide +kernel, by decide +kernel, by decide +kernel⟩, by decide +kernel⟩, by decide +kernel,
    by decide +kernel⟩

theorem witness_ProofRequestsAct_0 : ∃ (s : State) (q : Req) (r : ProofRun) (v0 : Int) (v1 : Int),
    (s.Serves 0x0D10 q) ∧ (q.params.length = 16) ∧ (q.obj = 0x0D020000) ∧
    (r = { g := q.field 4 1, i := q.field 5 1, a1 := q.field 8 4, a2 := q.field 12 4, hold := s.getF F.UART_PROOF_HOLD }) ∧
    (proofExists r.g r.i = true) ∧ (q.field 6 1 = 0) ∧ (q.field 7 1 = 0) ∧ (s.proofArgs r = true) ∧ (s.proofMay r = true) :=
  ⟨run, (rq (le 4 (0x0D020000) ++ le 1 (1) ++ le 1 (1) ++ le 1 (0) ++ le 1 (0) ++ le 4 (9) ++ le 4 (0))),
    (({ g := (rq (le 4 (0x0D020000) ++ le 1 (1) ++ le 1 (1) ++ le 1 (0) ++ le 1 (0) ++ le 4 (9) ++ le 4 (0)) : Req).field 4 1, i := (rq (le 4 (0x0D020000) ++ le 1 (1) ++ le 1 (1) ++ le 1 (0) ++ le 1 (0) ++ le 4 (9) ++ le 4 (0)) : Req).field 5 1, a1 := (rq (le 4 (0x0D020000) ++ le 1 (1) ++ le 1 (1) ++ le 1 (0) ++ le 1 (0) ++ le 4 (9) ++ le 4 (0)) : Req).field 8 4, a2 := (rq (le 4 (0x0D020000) ++ le 1 (1) ++ le 1 (1) ++ le 1 (0) ++ le 1 (0) ++ le 4 (9) ++ le 4 (0)) : Req).field 12 4, hold := (run : State).getF F.UART_PROOF_HOLD })),
    0, 0, ⟨⟨by decide +kernel, by decide +kernel, by decide +kernel⟩, by decide +kernel⟩, by decide +kernel, by decide +kernel,
    rfl, by decide +kernel, by decide +kernel, by decide +kernel, by decide +kernel, by decide +kernel⟩

theorem witness_ProofRequestsAct_1 : ∃ (s : State) (q : Req) (r : ProofRun) (v0 : Int) (v1 : Int),
    (s.Serves 0x0D10 q) ∧ (q.params.length = 16) ∧ (q.obj = 0x0D020000) ∧ (q.field 4 1 = r.g) ∧ (q.field 5 1 = r.i) ∧
    (proofExists r.g r.i = true) ∧ (q.field 6 1 = 1) ∧ (q.field 7 1 = 0) ∧ (KV.find s.prf.run (proofResource r.g) = some r) :=
  ⟨({ run with prf := { run.prf with run := [(1, { g := 2, i := 6, a1 := 15 })] } }),
    (rq (le 4 (0x0D020000) ++ le 1 (2) ++ le 1 (6) ++ le 1 (1) ++ le 1 (0) ++ le 4 (0) ++ le 4 (0))),
    ({ g := 2, i := 6, a1 := 15 }), 5, 0, ⟨⟨by decide +kernel, by decide +kernel, by decide +kernel⟩, by decide +kernel⟩,
    by decide +kernel, by decide +kernel, by decide +kernel, by decide +kernel, by decide +kernel, by decide +kernel,
    by decide +kernel, by decide +kernel⟩

theorem witness_ProofRequestsAct_2 : ∃ (s : State) (q : Req) (v0 : Int) (v1 : Int),
    (s.Serves 0x0D10 q) ∧ (q.params.length = 16) ∧ (q.obj = 0x0D020000) ∧ (q.field 4 1 = 0xFF) ∧ (q.field 6 1 = 1) ∧
    (s.prf.run = []) :=
  ⟨run, (rq (le 4 (0x0D020000) ++ le 1 (255) ++ le 1 (0) ++ le 1 (1) ++ le 1 (0) ++ le 4 (0) ++ le 4 (0))), 0, 0,
    ⟨⟨by decide +kernel, by decide +kernel, by decide +kernel⟩, by decide +kernel⟩, by decide +kernel, by decide +kernel,
    by decide +kernel, by decide +kernel, by decide +kernel⟩

theorem witness_ProofRequestsAct_3 : ∃ (s : State) (q : Req) (r : ProofRun) (v0 : Int) (v1 : Int),
    (s.Serves 0x0D10 q) ∧ (q.params.length = 16) ∧ (q.obj = 0x0D020000) ∧ (q.field 4 1 = r.g) ∧ (q.field 5 1 = r.i) ∧
    (proofExists r.g r.i = true) ∧ (q.field 6 1 = 2) ∧ (q.field 7 1 = 0) ∧ (KV.find s.prf.run (proofResource r.g) = some r) :=
  ⟨({ run with prf := { run.prf with run := [(1, { g := 2, i := 6, a1 := 15 })] } }),
    (rq (le 4 (0x0D020000) ++ le 1 (2) ++ le 1 (6) ++ le 1 (2) ++ le 1 (0) ++ le 4 (0) ++ le 4 (0))),
    ({ g := 2, i := 6, a1 := 15 }), 5, 0, ⟨⟨by decide +kernel, by decide +kernel, by decide +kernel⟩, by decide +kernel⟩,
    by decide +kernel, by decide +kernel, by decide +kernel, by decide +kernel, by decide +kernel, by decide +kernel,
    by decide +kernel, by decide +kernel⟩

theorem witness_ProofRequestsAct_4 : ∃ (s : State) (q : Req) (g : Nat) (i : Nat) (v0 : Int) (v1 : Int),
    (s.Serves 0x0D10 q) ∧ (q.params.length = 16) ∧ (q.obj = 0x0D020000) ∧ (q.field 4 1 = g) ∧ (q.field 5 1 = i) ∧
    (proofExists g i = true) ∧ (q.field 6 1 = 2) ∧ (q.field 7 1 = 0) ∧ (KV.find s.prf.run (proofResource g) = none) :=
  ⟨run, (rq (le 4 (0x0D020000) ++ le 1 (8) ++ le 1 (2) ++ le 1 (2) ++ le 1 (0) ++ le 4 (0) ++ le 4 (0))), 8, 2, 0, 0,
    ⟨⟨by decide +kernel, by decide +kernel, by decide +kernel⟩, by decide +kernel⟩, by decide +kernel, by decide +kernel,
    by decide +kernel, by decide +kernel, by decide +kernel, by decide +kernel, by decide +kernel, by decide +kernel⟩

theorem witness_RegisterAccessesTransferData_0 : ∃ (s : State) (via : Via) (g : Nat) (v : Nat) (data : Word),
    (s.reachable = true) ∧ (s.busyIndex = none) ∧ (g < 16) ∧ (v < 65536) ∧ (data.toNat = maskData 0xFFFF v) :=
  ⟨run, (.spi true), 15, 65535, (BitVec.ofNat 32 (maskData 0xFFFF 65535)), by decide +kernel, by decide +kernel,
    by decide +kernel, by decide +kernel, by decide +kernel⟩

theorem witness_RegisterAccessesTransferData_1 : ∃ (s : State) (bar4 : Bool) (i : Nat) (data : List Word),
    (s.reachable = true) ∧ (data.length ≤ 16) ∧ (i + data.length ≤ 1024) :=
  ⟨run, false, 1008, (List.replicate 16 0xA5A5A5A5), by decide +kernel, by decide +kernel, by decide +kernel⟩

theorem witness_RegisterAccessesTransferData_2 : ∃ (s : State) (bar4 : Bool) (i : Nat) (n : Nat),
    (s.reachable = true) ∧ (n ≤ 16) ∧ (i + n ≤ 1024) :=
  ⟨run, false, 1008, 16, by decide +kernel, by decide +kernel, by decide +kernel⟩

theorem witness_RegisterAccessesTransferData_3 : ∃ (s : State) (via : Via) (addr : Nat) (sub : Nat) (u : Nat) (off : Nat) (v : Nat) (r : RegDesc) (data : Word),
    (s.Accepts via addr data.toNat) ∧ (regTarget addr = some (.reg sub u off r)) ∧ (r.mwIdx + 1 < r.mwLen) ∧
    (accMask r Acc.config ≠ 0) ∧ (v < 65536) ∧ (data.toNat = maskData 0xFFFF v) :=
  ⟨run, .bar4, ((F.TRG_TIME 31 5).addr), 1, 63, ((F.TRG_TIME 31 5).addr % 0x10000), 65535,
    (descAt (((F.TRG_TIME 31 5).addr : Nat))), (BitVec.ofNat 32 (maskData 0xFFFF 65535)), ⟨by decide +kernel, by decide +kernel⟩,
    by decide +kernel, by decide +kernel, by decide +kernel, by decide +kernel, by decide +kernel⟩

theorem witness_RegisterAccessesTransferData_4 : ∃ (s : State) (via : Via) (k : Nat) (v : Nat) (data : Word),
    (s.Accepts via (F.TRG_TIME k 6).addr data.toNat) ∧ (k < 32) ∧ (v < 65536) ∧ (data.toNat = maskData 0xFFFF v) :=
  ⟨run, .bar4, 31, 65535, (BitVec.ofNat 32 (maskData 0xFFFF 65535)), ⟨by decide +kernel, by decide +kernel⟩, by decide +kernel,
    by decide +kernel, by decide +kernel⟩

theorem witness_RegisterAccessesTransferData_5 : ∃ (s : State) (via : Via) (addr : Nat) (sub : Nat) (u : Nat) (off : Nat) (r : RegDesc),
    (s.reachable = true) ∧ (regTarget addr = some (.reg sub u off r)) ∧ (r.mwIdx = 0) ∧ (1 < r.mwLen) ∧ (r.priv = false) ∧
    (s.absent sub u = false) ∧ (¬ (sub = 1 ∧ u = 0 ∧ 0x40 ≤ off)) ∧ (¬ (sub = 1 ∧ 4 ≤ u ∧ u < 8 ∧ 0x70 ≤ off)) :=
  ⟨run, .bar4, ((F.TRG_TIME 31 0).addr), 1, 63, ((F.TRG_TIME 31 0).addr % 0x10000), (descAt (((F.TRG_TIME 31 0).addr : Nat))),
    by decide +kernel, by decide +kernel, by decide +kernel, by decide +kernel, by decide +kernel, by decide +kernel,
    by decide +kernel, by decide +kernel⟩

theorem witness_RegisterAccessesTransferData_6 : ∃ (s : State) (via : Via),
    (s.reachable = true) ∧ (s.absent 1 0 = false) :=
  ⟨(run.setF F.LOOP_STATUS_PLL_LOCK 1), (.spi false), by decide +kernel, by decide +kernel⟩

theorem witness_RegisterAccessesTransferData_7 : ∃ (s : State) (via : Via) (p : Fin 4) (e : TsEntry) (l : List TsEntry),
    (s.reachable = true) ∧ (s.tsq p = e :: l) ∧ (KV.find s.stamps.headSnap (headKey via.reader p) = some e) :=
  ⟨({ run with stamps := { run.stamps with queues := [(3, [{ id := 5 }])], headSnap := [(headKey .bar4 3, { id := 5 })] } }),
    .bar4, 3, ({ id := 5 }), [], by decide +kernel, by decide +kernel, by decide +kernel⟩

theorem witness_RegisterAccessesTransferData_8 : ∃ (s : State) (via : Via) (addr : Nat) (sub : Nat) (u : Nat) (off : Nat) (r : RegDesc),
    (s.reachable = true) ∧ (regTarget addr = some (.reg sub u off r)) ∧ (r.priv = false) ∧ (s.absent sub u = true) :=
  ⟨(run.setF (F.TDM_CTL_EN 15) 1), .bar4, ((F.TDM_CTL_EN 15).addr), 6, 15, 0, (descAt (((F.TDM_CTL_EN 15).addr : Nat))),
    by decide +kernel, by decide +kernel, by decide +kernel, by decide +kernel⟩

theorem witness_RegisterActionsTakeEffect_0 : ∃ (s : State) (via : Via),
    (s.Accepts via 0x2C (maskData 1 1)) :=
  ⟨run, .bar4, ⟨by decide +kernel, by decide +kernel⟩⟩

theorem witness_RegisterActionsTakeEffect_1 : ∃ (s : State) (via : Via),
    (s.Accepts via 0x2C (maskData 2 2)) :=
  ⟨run, .bar4, ⟨by decide +kernel, by decide +kernel⟩⟩

theorem witness_RegisterActionsTakeEffect_2 : ∃ (s : State) (via : Via) (sub : Nat) (u : Nat) (bits : Nat) (data : Word),
    (s.reachable = true) ∧ (s.busyIndex = none) ∧ (unitExists sub u = true) ∧ (bits < 32) ∧ (bitOf bits 2 = false) ∧
    (data.toNat = maskData bits bits) :=
  ⟨run, .bar4, 12, 15, 27, (BitVec.ofNat 32 (maskData 27 27)), by decide +kernel, by decide +kernel, by decide +kernel,
    by decide +kernel, by decide +kernel, by decide +kernel⟩

theorem witness_RegisterActionsTakeEffect_3 : ∃ (s : State) (via : Via) (en : Fld) (data : Word),
    (en = F.PHYM_CTL_EN ∨ en = F.DIAG_CTL_EN) ∧ (data.toNat = maskData 1 1) ∧ (s.Accepts via en.addr data.toNat) :=
  ⟨(run.setF F.PHYM_CTL_EN 0), .bar4, F.PHYM_CTL_EN, (BitVec.ofNat 32 (maskData 1 1)), by decide +kernel, by decide +kernel,
    ⟨by decide +kernel, by decide +kernel⟩⟩

theorem witness_RegisterActionsTakeEffect_4 : ∃ (s : State) (via : Via) (en : Fld) (data : Word),
    (en = F.PHYM_CTL_EN ∨ en = F.DIAG_CTL_EN) ∧ (data.toNat = maskData 1 0) ∧ (s.Accepts via en.addr data.toNat) :=
  ⟨(run.setF F.DIAG_CTL_EN 1), .bar4, F.DIAG_CTL_EN, (BitVec.ofNat 32 (maskData 1 0)), by decide +kernel, by decide +kernel,
    ⟨by decide +kernel, by decide +kernel⟩⟩

theorem witness_RegisterActionsTakeEffect_5 : ∃ (s : State) (via : Via) (data : Word) (l : List (Nat × Nat × Nat)) (v : Nat),
    (s.reachable = true) ∧ (s.fresh.judgeWrite via.access (F.TB_LOAD 6).addr data.toNat = .inr (.words 1 0 0x10 l)) ∧
    (l.length = 7) ∧ (v = l.foldr (fun q acc => q.2.1 + 65536 * acc) 0) :=
  ⟨({ run.setF F.LOOP_STATUS_PLL_LOCK 1 with shadows := [(unitBase 1 0 + 0x10, { code := Via.bar4.origin.code, id := Via.bar4.origin.id, words := [(3, 2), (0, 0), (1, 0), (2, 0), (4, 0), (5, 0)] })] }),
    .bar4, (BitVec.ofNat 32 (maskData 0xFFFF 0)),
    (wordsOf (({ run.setF F.LOOP_STATUS_PLL_LOCK 1 with shadows := [(unitBase 1 0 + 0x10, { code := Via.bar4.origin.code, id := Via.bar4.origin.id, words := [(3, 2), (0, 0), (1, 0), (2, 0), (4, 0), (5, 0)] })] } : State).fresh.judgeWrite Via.bar4.access (F.TB_LOAD 6).addr (maskData 0xFFFF 0))),
    (2 * 2 ^ 48), by decide +kernel, by decide +kernel, by decide +kernel, rfl⟩

theorem witness_RegisterActionsTakeEffect_6 : ∃ (s : State) (via : Via) (data : Word) (v : Nat),
    (s.Accepts via F.LOOP_STEER_HI.addr data.toNat) ∧ (data.toNat = maskData 0xFFFF v) ∧ (v < 65536) :=
  ⟨run, .bar4, (BitVec.ofNat 32 (maskData 0xFFFF 65535)), 65535, ⟨by decide +kernel, by decide +kernel⟩, by decide +kernel,
    by decide +kernel⟩

theorem witness_RegisterActionsTakeEffect_7 : ∃ (s : State) (via : Via) (k : Fin 32),
    (s.Accepts via (F.TRG_ARM k).addr (maskData 1 1)) ∧ (s.trgMirrored k = false) :=
  ⟨(run.setF (F.TRG_TIME 31 3) 2), .bar4, 31, ⟨by decide +kernel, by decide +kernel⟩, by decide +kernel⟩

theorem witness_RegisterActionsTakeEffect_8 : ∃ (s : State) (via : Via) (k : Fin 32),
    (s.Accepts via (F.TRG_ARM k).addr (maskData 2 2)) ∧ (s.trgMirrored k = false) :=
  ⟨(run.setF (F.TRG_STATUS_STATE 31) 1), .bar4, 31, ⟨by decide +kernel, by decide +kernel⟩, by decide +kernel⟩

theorem witness_RegisterActionsTakeEffect_9 : ∃ (s : State) (via : Via),
    (s.Accepts via F.TB_CTL_ASYM_CLR.addr (maskData 0x0800 0x0800)) :=
  ⟨(run.setF F.LOOP_STATUS_PLL_LOCK 1), .bar4, ⟨by decide +kernel, by decide +kernel⟩⟩

theorem witness_RegisterActionsTakeEffect_10 : ∃ (s : State) (via : Via),
    (s.Accepts via F.CAL_CTL_RUN.addr (maskData 2 2)) ∧ (KV.find s.bad F.CAL_CTL_RUN.addr = none) ∧ (s.calMayRun = true) :=
  ⟨(run.setF F.CAL_CTL_EN 1), .bar4, ⟨by decide +kernel, by decide +kernel⟩, by decide +kernel, by decide +kernel⟩

theorem witness_RegisterActionsTakeEffect_11 : ∃ (s : State) (via : Via) (m : Nat),
    (m < 128) ∧ (m ≠ 0) ∧ (s.Accepts via F.CAL_APPROVE.addr (maskData 0x7F m)) :=
  ⟨((run.setF F.CAL_STATUS_PENDING 0x77).setF F.PROT_CTL_EN 0), .bar4, 0x77, by decide +kernel, by decide +kernel,
    ⟨by decide +kernel, by decide +kernel⟩⟩

theorem witness_RegisterActionsTakeEffect_12 : ∃ (s : State) (via : Via),
    (s.Accepts via F.LOOP_MAN_MANUAL.addr (maskData 1 1)) ∧ (s.regWord 2 9 8 = 0) :=
  ⟨run, .bar4, ⟨by decide +kernel, by decide +kernel⟩, by decide +kernel⟩

theorem witness_RegisterActionsTakeEffect_13 : ∃ (s : State) (via : Via),
    (s.Accepts via F.LOOP_MAN_MANUAL.addr (maskData 1 0)) ∧ (s.regWord 2 9 8 = 1) ∧ (s.loopMode = lmMANUAL) ∧
    (s.clk.running = false) ∧ (s.getF F.SEL_STATUS_SEL_REF < 7) :=
  ⟨((run.setF F.LOOP_MAN_MANUAL 1).setF F.LOOP_STATUS_MODE lmMANUAL |>.setF F.SEL_STATUS_SEL_REF 6), .bar4,
    ⟨by decide +kernel, by decide +kernel⟩, by decide +kernel, by decide +kernel, by decide +kernel, by decide +kernel⟩

theorem witness_RegisterActionsTakeEffect_14 : ∃ (s : State) (via : Via) (m : Nat),
    (m < 3) ∧ (s.Accepts via F.HOLD_CTL_HO_MODE.addr (maskData 6 (m * 2))) :=
  ⟨run, .bar4, 2, by decide +kernel, ⟨by decide +kernel, by decide +kernel⟩⟩

theorem witness_RegisterActionsTakeEffect_15 : ∃ (s : State) (via : Via) (n : Fin 64),
    (s.Accepts via (F.BUR_CTL_EN n).addr (maskData 1 0)) ∧ (s.regWord 5 n 0 = 1) ∧ (s.inService n = true) :=
  ⟨run, .bar4, 63, ⟨by decide +kernel, by decide +kernel⟩, by decide +kernel, by decide +kernel⟩

theorem witness_RegisterActionsTakeEffect_16 : ∃ (s : State) (via : Via) (n : Fin 64),
    (s.Accepts via (F.BUR_CTL_EN n).addr (maskData 1 1)) ∧ (s.regWord 5 n 0 = 0) ∧ (s.getF (F.BUR_STATUS_STATE n) = 4) ∧
    (s.inSafe 5 n = false) :=
  ⟨((run.setF (F.BUR_CTL_EN 63) 0).setF (F.BUR_STATUS_STATE 63) 4), .bar4, 63, ⟨by decide +kernel, by decide +kernel⟩,
    by decide +kernel, by decide +kernel, by decide +kernel⟩

theorem witness_SwapAndRingWritesTakeEffect_0 : ∃ (s : State) (via : Via) (p : Nat),
    (p < 16) ∧ (s.Accepts via (F.TDM_CTL_SWAP p).addr (maskData 0x2000 0x2000)) ∧ (s.pairSt ≠ psACTIVE) ∧
    (KV.find s.bad (F.TDM_CTL_SWAP p).addr = none) ∧ (bitOf (s.regWord 6 p 0) 13 = false) ∧ (s.getF (F.TDM_CTL_EN p) = 0) :=
  ⟨((run.setF F.LOOP_STATUS_PLL_LOCK 1)), .bar4, 15, by decide +kernel, ⟨by decide +kernel, by decide +kernel⟩, by decide +kernel,
    by decide +kernel, by decide +kernel, by decide +kernel⟩

theorem witness_SwapAndRingWritesTakeEffect_1 : ∃ (s : State) (via : Via) (p : Fin 16),
    (s.Accepts via (F.TDM_CTL_SWAP p).addr (maskData 0x2000 0x2000)) ∧ (s.pairSt ≠ psACTIVE) ∧
    (KV.find s.bad (F.TDM_CTL_SWAP p).addr = none) ∧ (bitOf (s.regWord 6 p 0) 13 = false) ∧ (s.getF (F.TDM_CTL_EN p) = 0) :=
  ⟨((run.setF F.LOOP_STATUS_PLL_LOCK 1)), .bar4, 15, ⟨by decide +kernel, by decide +kernel⟩, by decide +kernel, by decide +kernel,
    by decide +kernel, by decide +kernel⟩

theorem witness_SwapAndRingWritesTakeEffect_2 : ∃ (s : State) (via : Via) (p : Fin 16),
    (s.Accepts via (F.TDM_CTL_SWAP p).addr (maskData 0x2000 0x2000)) ∧ (s.pairSt ≠ psACTIVE) ∧
    (KV.find s.bad (F.TDM_CTL_SWAP p).addr = none) ∧ (bitOf (s.regWord 6 p 0) 13 = false) ∧ (s.on (F.TDM_CTL_EN p) = true) :=
  ⟨((run.setF F.LOOP_STATUS_PLL_LOCK 1).setF (F.TDM_CTL_EN 15) 1 |>.setF (F.TDM_CTL_MASTER 15) 1), .bar4, 15,
    ⟨by decide +kernel, by decide +kernel⟩, by decide +kernel, by decide +kernel, by decide +kernel, by decide +kernel⟩

theorem witness_SwapAndRingWritesTakeEffect_3 : ∃ (s : State) (via : Via),
    (s.Accepts via F.RXT_CTL_SWAP.addr (maskData 2 2)) ∧ (s.pairSt ≠ psACTIVE) ∧ (KV.find s.bad F.RXT_CTL_SWAP.addr = none) ∧
    (bitOf (s.regWord 4 0 0) 1 = false) ∧ (s.getF F.RXT_CTL_EN = 0) :=
  ⟨(run.setF F.RXT_CTL_EN 0), .bar4, ⟨by decide +kernel, by decide +kernel⟩, by decide +kernel, by decide +kernel,
    by decide +kernel, by decide +kernel⟩

theorem witness_SwapAndRingWritesTakeEffect_4 : ∃ (s : State) (via : Via),
    (s.Accepts via F.RXT_CTL_SWAP.addr (maskData 2 2)) ∧ (s.pairSt ≠ psACTIVE) ∧ (KV.find s.bad F.RXT_CTL_SWAP.addr = none) ∧
    (bitOf (s.regWord 4 0 0) 1 = false) ∧ (s.on F.RXT_CTL_EN = true) ∧ (s.str.rxSwap = none) ∧ (s.pair.reqAt = none) :=
  ⟨(run.setF F.RXT_CTL_EN 1), .bar4, ⟨by decide +kernel, by decide +kernel⟩, by decide +kernel, by decide +kernel,
    by decide +kernel, by decide +kernel, by decide +kernel, by decide +kernel⟩

theorem witness_SwapAndRingWritesTakeEffect_5 : ∃ (s : State) (via : Via),
    (s.Accepts via F.TXT_CTL_SWAP.addr (maskData 2 2)) ∧ (s.pairSt ≠ psACTIVE) ∧ (KV.find s.bad F.TXT_CTL_SWAP.addr = none) ∧
    (bitOf (s.regWord 4 1 0) 1 = false) ∧ (s.getF F.TXT_CTL_EN = 0) :=
  ⟨(run.setF F.TXT_CTL_EN 0), .bar4, ⟨by decide +kernel, by decide +kernel⟩, by decide +kernel, by decide +kernel,
    by decide +kernel, by decide +kernel⟩

theorem witness_SwapAndRingWritesTakeEffect_6 : ∃ (s : State) (via : Via),
    (s.Accepts via F.TXT_CTL_SWAP.addr (maskData 2 2)) ∧ (s.pairSt ≠ psACTIVE) ∧ (KV.find s.bad F.TXT_CTL_SWAP.addr = none) ∧
    (bitOf (s.regWord 4 1 0) 1 = false) ∧ (s.on F.TXT_CTL_EN = true) ∧ (s.str.txSwap = none) ∧ (s.pair.reqAt = none) :=
  ⟨(run.setF F.TXT_CTL_EN 1), .bar4, ⟨by decide +kernel, by decide +kernel⟩, by decide +kernel, by decide +kernel,
    by decide +kernel, by decide +kernel, by decide +kernel, by decide +kernel⟩

theorem witness_SwapAndRingWritesTakeEffect_7 : ∃ (s : State) (via : Via),
    (s.Accepts via F.GRT_CTL_SWAP.addr (maskData 1 1)) ∧ (s.pairSt ≠ psACTIVE) ∧ (KV.find s.bad F.GRT_CTL_SWAP.addr = none) ∧
    (bitOf (s.regWord 5 64 0x100) 0 = false) ∧ (s.dsp.swap = none) ∧ (s.pair.reqAt = none) :=
  ⟨run, .bar4, ⟨by decide +kernel, by decide +kernel⟩, by decide +kernel, by decide +kernel, by decide +kernel, by decide +kernel,
    by decide +kernel⟩

theorem witness_SwapAndRingWritesTakeEffect_8 : ∃ (s : State) (via : Via) (r : Fin 32) (v : Nat),
    (v < 65536) ∧ (s.Accepts via (F.RING_PROD r).addr (maskData 0xFFFF v)) :=
  ⟨(run.setF (F.RING_CFG_EN 31) 1), .bar4, 31, 15, by decide +kernel, ⟨by decide +kernel, by decide +kernel⟩⟩

theorem witness_SwapAndRingWritesTakeEffect_9 : ∃ (s : State) (via : Via) (p : Fin 4) (v : Nat),
    (v < 4096) ∧ (s.Accepts via (F.MAC_TXR_PROD p).addr (maskData 0xFFFF v)) :=
  ⟨run, .bar4, 3, 15, by decide +kernel, ⟨by decide +kernel, by decide +kernel⟩⟩

theorem witness_SwapAndRingWritesTakeEffect_10 : ∃ (s : State) (via : Via) (p : Fin 4) (v : Nat),
    (v < 4096) ∧ (s.Accepts via (F.MAC_RXR_PROD p).addr (maskData 0xFFFF v)) :=
  ⟨run, .bar4, 3, 15, by decide +kernel, ⟨by decide +kernel, by decide +kernel⟩⟩

theorem witness_RequestsEnterTheirSlots_0 : ∃ (s : State) (via : Via) (n : Nat) (data : Word) (h : List Byte) (p : Packet),
    (n ≤ 4096) ∧ (data.toNat = maskData 0xFFFF n) ∧ (s.Accepts via F.MBX_DOORBELL_LEN.addr data.toNat) ∧ (s.busyIndex = none) ∧
    (s.on F.MBX_CTL_EN = true) ∧ (∀ x ∈ s.car.slots, x.1 ≠ 0) ∧ (h = bufferBytes s.car.mbxReq n) ∧
    (p = parsePacket h s.car.mbxReqCrc) ∧ (frameOk h = true) ∧ (p.lengthOk = true) ∧ (p.crcOk = true) ∧
    (p.headerFault false = none) :=
  ⟨({ run with car := { run.car with mbxReq := [(0, leNat (infoPkt.take 4)), (1, leNat ((infoPkt.drop 4).take 4)), (2, leNat ((infoPkt.drop 8).take 4))], mbxReqCrc := crc32c infoPkt } }),
    .bar4, 16, (BitVec.ofNat 32 (maskData 0xFFFF 16)),
    ((bufferBytes ({ run with car := { run.car with mbxReq := [(0, leNat (infoPkt.take 4)), (1, leNat ((infoPkt.drop 4).take 4)), (2, leNat ((infoPkt.drop 8).take 4))], mbxReqCrc := crc32c infoPkt } } : State).car.mbxReq (16 : Nat))),
    ((parsePacket ((bufferBytes ({ run with car := { run.car with mbxReq := [(0, leNat (infoPkt.take 4)), (1, leNat ((infoPkt.drop 4).take 4)), (2, leNat ((infoPkt.drop 8).take 4))], mbxReqCrc := crc32c infoPkt } } : State).car.mbxReq (16 : Nat)) : List Byte) ({ run with car := { run.car with mbxReq := [(0, leNat (infoPkt.take 4)), (1, leNat ((infoPkt.drop 4).take 4)), (2, leNat ((infoPkt.drop 8).take 4))], mbxReqCrc := crc32c infoPkt } } : State).car.mbxReqCrc)),
    by decide +kernel, by decide +kernel, ⟨by decide +kernel, by decide +kernel⟩, by decide +kernel, by decide +kernel,
    by decide +kernel, rfl, rfl, by decide +kernel, by decide +kernel, by decide +kernel, by decide +kernel⟩

theorem witness_RequestsEnterTheirSlots_1 : ∃ (s : State) (secLow : Bool) (bytes : List Byte) (p : Packet),
    (s.reachable = true) ∧ (s.busyIndex = none) ∧ (s.on F.SPI_CTL_EN = true) ∧ (∀ x ∈ s.car.slots, x.1 ≠ 1) ∧
    (20 ≤ bytes.length) ∧ (bytes.head? = some 0xC5) ∧
    (p = parsePacket (bytes.take (bytes.length - 4)) (leAt bytes (bytes.length - 4) 4)) ∧
    (frameOk (bytes.take (bytes.length - 4)) = true) ∧ (p.lengthOk = true) ∧ (p.crcOk = true) ∧ (p.headerFault false = none) :=
  ⟨run, false, (infoPkt ++ leBytes 4 (crc32c infoPkt)),
    ((parsePacket ((infoPkt ++ leBytes 4 (crc32c infoPkt) : List Byte).take ((infoPkt ++ leBytes 4 (crc32c infoPkt) : List Byte).length - 4)) (leAt (infoPkt ++ leBytes 4 (crc32c infoPkt) : List Byte) ((infoPkt ++ leBytes 4 (crc32c infoPkt) : List Byte).length - 4) 4))),
    by decide +kernel, by decide +kernel, by decide +kernel, by decide +kernel, by decide +kernel, by decide +kernel, rfl,
    by decide +kernel, by decide +kernel, by decide +kernel, by decide +kernel⟩

theorem witness_RequestsEnterTheirSlots_2 : ∃ (s : State) (port : Fin 4) (src : Nat) (sport : Nat) (n : Nat) (k : Nat) (b : List Byte) (p : Packet) (o : Origin),
    (s.alive = true) ∧ (s.busyIndex = none) ∧ (s.unpowered 3 port = false) ∧ (s.on (F.MAC_STATUS_LINK port) = true) ∧
    (bitOf (s.getF F.CAR_CTL_NET_PORTS) port = true) ∧ (s.on F.CAR_CTL_EN = true) ∧ (∀ x ∈ s.car.slots, x.1 ≠ 2) ∧
    (20 + (if n = 0 then 0 else 16) ≤ b.length) ∧ (frameOk b = true) ∧ (n = leAt b 10 2) ∧
    (k = b.length - 4 - (if n = 0 then 0 else 16)) ∧ (p = parsePacket (b.take k) (leAt b k 4)) ∧ (p.lengthOk = true) ∧
    (p.crcOk = true) ∧ (p.headerFault true = none) ∧
    (n = 0 ∧ s.on F.CAR_CTL_NET_OPEN = true ∨ 0 < n ∧ n < 16 ∧ (KV.get {} s.car.sessions n).admits p (b.take k) (b.drop (k + 4)) = true) ∧
    (o = { code := 5, id := n, priv := (KV.get {} s.car.sessions n).role == 2 }) :=
  ⟨((((run.setF (F.MAC_STATUS_LINK 3) 1).setF F.CAR_CTL_NET_PORTS 8).setF F.CAR_CTL_EN 1).setF F.CAR_CTL_NET_OPEN 1), 3,
    0x0A000001, 6000, 0, 16, (infoPkt ++ leBytes 4 (crc32c infoPkt)),
    ((parsePacket ((infoPkt ++ leBytes 4 (crc32c infoPkt) : List Byte).take (16 : Nat)) (leAt (infoPkt ++ leBytes 4 (crc32c infoPkt) : List Byte) (16 : Nat) 4))),
    (({ code := 5, id := (0 : Nat), priv := (KV.get {} ((((run.setF (F.MAC_STATUS_LINK 3) 1).setF F.CAR_CTL_NET_PORTS 8).setF F.CAR_CTL_EN 1).setF F.CAR_CTL_NET_OPEN 1 : State).car.sessions (0 : Nat)).role == 2 })),
    by decide +kernel, by decide +kernel, by decide +kernel, by decide +kernel, by decide +kernel, by decide +kernel,
    by decide +kernel, by decide +kernel, by decide +kernel, rfl, rfl, rfl, by decide +kernel, by decide +kernel,
    by decide +kernel, by decide +kernel, rfl⟩

theorem witness_RequestsEnterTheirSlots_3 : ∃ (s : State) (svcEn : Bool) (line : List Byte) (op : Nat) (ps : List Byte),
    (s.reachable = true) ∧ (s.busyIndex = none) ∧ (s.on F.UART_CTL_EN = true) ∧ (∀ x ∈ s.car.slots, x.1 ≠ 3) ∧
    (line.length ≤ 8200) ∧ (uartParse ((splitB 0x20 line).filter (fun t => !t.isEmpty)) = some (op, some ps)) :=
  ⟨run, true, (asc "OP 0060"), 0x60, [], by decide +kernel, by decide +kernel, by decide +kernel, by decide +kernel,
    by decide +kernel, by decide +kernel⟩

theorem witness_RepliesReportsAndTimeoutsLeave_0 : ∃ (s : State) (via : Via) (data : Word),
    (data.toNat = maskData 4 4) ∧ (s.Accepts via F.MBX_STATUS_REPLY_READY.addr data.toNat) :=
  ⟨(run.setF F.MBX_STATUS_REPLY_READY 1), .bar4, (BitVec.ofNat 32 (maskData 4 4)), by decide +kernel,
    ⟨by decide +kernel, by decide +kernel⟩⟩

theorem witness_RepliesReportsAndTimeoutsLeave_1 : ∃ (s : State) (n : Nat) (p : List Byte),
    (s.reachable = true) ∧ (s.car.spiReply = some p) ∧ (p.length < n) :=
  ⟨({ run with car := { run.car with spiReply := some [1, 2, 3] } }), 4, ([1, 2, 3]), by decide +kernel, by decide +kernel,
    by decide +kernel⟩

theorem witness_RepliesReportsAndTimeoutsLeave_2 : ∃ (s : State) (n : Nat) (src : Nat) (r : Report),
    (s.reachable = true) ∧ (oldestReport s.ev.spi = some (src, r)) ∧ ((reportPacket r src s.car.spiEvSeq 0).length < n) :=
  ⟨({ run with ev := { run.ev with spi := [(9, { order := 5 }), (7, { obj := 3 })] } }), 100, 7, ({ obj := 3 }),
    by decide +kernel, by decide +kernel, by decide +kernel⟩

theorem witness_RepliesReportsAndTimeoutsLeave_3 : ∃ (s : State) (secLow : Bool) (bytes : List Byte) (g : Nat) (v : Nat),
    (s.reachable = true) ∧ (s.busyIndex = none) ∧ (9 ≤ bytes.length) ∧ (bytes.head? = some 0x02) ∧ (g < 16) ∧ (v < 65536) ∧
    (beAt bytes 1 4 = (F.EVT_EV_EN_EN g).addr) ∧ (beAt bytes 5 4 = maskData 0xFFFF v) :=
  ⟨run, false, (0x02 :: beBytes 4 (F.EVT_EV_EN_EN 15).addr ++ beBytes 4 (maskData 0xFFFF 65535)), 15, 65535, by decide +kernel,
    by decide +kernel, by decide +kernel, by decide +kernel, by decide +kernel, by decide +kernel, by decide +kernel,
    by decide +kernel⟩

theorem witness_RepliesReportsAndTimeoutsLeave_4 : ∃ (s : State) (src : Nat),
    (s.reachable = true) ∧ (s.car.reasm.any (fun r => r.srcAddr == src) = true) :=
  ⟨({ run with car := { run.car with reasm := [{ srcAddr := 5 }] } }), 5, by decide +kernel, by decide +kernel⟩

theorem witness_RepliesReportsAndTimeoutsLeave_5 : ∃ (s : State),
    (s.reachable = true) :=
  ⟨run, by decide +kernel⟩

theorem witness_RepliesReportsAndTimeoutsLeave_6 : ∃ (s : State) (src : Nat) (r : Report),
    (s.reachable = true) ∧ (s.car.uartBusy = false) ∧ (oldestReport s.ev.uart = some (src, r)) :=
  ⟨({ run with ev := { run.ev with uart := [(9, { order := 5 }), (7, { obj := 3 })] } }), 7, ({ obj := 3 }), by decide +kernel,
    by decide +kernel, by decide +kernel⟩

theorem witness_RepliesReportsAndTimeoutsLeave_7 : ∃ (s : State) (v : Fin 32),
    (s.reachable = true) ∧ (s.ev.msixBits.contains v.val = true) :=
  ⟨({ run with ev := { run.ev with msixBits := [31] } }), 31, by decide +kernel, by decide +kernel⟩

theorem witness_RepliesReportsAndTimeoutsLeave_8 : ∃ (s : State),
    (s.reachable = true) :=
  ⟨run, by decide +kernel⟩

theorem witness_TheInterpreterServesAndEnds_0 : ∃ (s : State) (svcEn : Bool) (o : Outside) (c : Nat) (q : Req),
    (s.Ready) ∧ (s.nextSlot = some (c, q)) ∧ (c ≠ 3) ∧ (q.opcode = 0x0060) ∧ (q.params = []) ∧ (s.gate q = none) :=
  ⟨({ run with car := { run.car with slots := [(0, rq []), (1, { rq [] with carrier := .spi, opcode := 0x0060 })], last := 0 } }),
    false, {}, 1, ({ rq [] with carrier := .spi, opcode := 0x0060 }), ⟨by decide +kernel, by decide +kernel, by decide +kernel⟩,
    by decide +kernel, by decide +kernel, by decide +kernel, by decide +kernel, by decide +kernel⟩

theorem witness_TheInterpreterServesAndEnds_1 : ∃ (s : State) (r : LongEnd) (l : LongOp),
    (s.alive = true) ∧ (s.car.longOp = some l) ∧ (l.idx = 4) ∧ (l.arg = 2) ∧ (l.safeHit = false) ∧ (l.failed = false) :=
  ⟨({ run with car := { run.car with longOp := some { idx := 4, arg := 2, req := { rq [] with opcode := 0x0021 } } } }), {},
    ({ idx := 4, arg := 2, req := { rq [] with opcode := 0x0021 } }), by decide +kernel, by decide +kernel, by decide +kernel,
    by decide +kernel, by decide +kernel, by decide +kernel⟩

theorem witness_TheInterpreterServesAndEnds_2 : ∃ (s : State) (r : LongEnd) (l : LongOp) (c : Saved),
    (s.alive = true) ∧ (s.car.longOp = some l) ∧ (l.idx = 1) ∧ (l.snap = some c) ∧ (l.safeHit = false) ∧ (r.ok = true) ∧
    (l.bank < 2) :=
  ⟨({ run with car := { run.car with longOp := some { idx := 1, req := { rq [] with opcode := 0x0010 }, snap := some {}, bank := 1, gen := 7 } } }),
    {}, ({ idx := 1, req := { rq [] with opcode := 0x0010 }, snap := some {}, bank := 1, gen := 7 }), {}, by decide +kernel,
    by decide +kernel, by decide +kernel, by decide +kernel, by decide +kernel, by decide +kernel, by decide +kernel⟩

theorem witness_TheInterpreterServesAndEnds_3 : ∃ (s : State) (r : LongEnd) (l : LongOp),
    (s.alive = true) ∧ (s.car.longOp = some l) ∧ (l.idx = 6) ∧ (l.arg ≤ 14) ∧ (l.arg ≠ 5) ∧ (l.safeHit = false) :=
  ⟨({ run with car := { run.car with longOp := some { idx := 6, req := { rq [] with opcode := 0x0040 }, arg := 14 } } }),
    ({ mask := 2 ^ 14 }), ({ idx := 6, req := { rq [] with opcode := 0x0040 }, arg := 14 }), by decide +kernel, by decide +kernel,
    by decide +kernel, by decide +kernel, by decide +kernel, by decide +kernel⟩

theorem witness_TheInterpreterServesAndEnds_4 : ∃ (s : State) (r : LongEnd) (l : LongOp),
    (s.alive = true) ∧ (s.car.longOp = some l) ∧ (l.safeHit = true) ∧
    (l.idx = 1 ∧ l.snap.isSome = true ∨ l.idx = 2 ∨ l.idx = 3 ∨ l.idx = 5 ∨ l.idx = 6 ∨ l.idx = 8) :=
  ⟨({ run with car := { run.car with longOp := some { idx := 2, req := { rq [] with opcode := 0x0011 }, safeHit := true } } }),
    {}, ({ idx := 2, req := { rq [] with opcode := 0x0011 }, safeHit := true }), by decide +kernel, by decide +kernel,
    by decide +kernel, by decide +kernel⟩

theorem witness_LogCommitsAndPowerFail_0 : ∃ (s : State),
    (s.alive = true) ∧ (s.log.ram ≠ []) ∧ (s.log.commit = none) ∧ (s.pins.pfwLow = false) :=
  ⟨({ run with log := { run.log with ram := [{ seq := 0, sec := 0, ns := 0, notime := true, origin := 1, kind := 0, oid := 0, addr := false, obj := 0, old := 0, new := 1 }], commit := none } }),
    by decide +kernel, by decide +kernel, by decide +kernel, by decide +kernel⟩

theorem witness_LogCommitsAndPowerFail_1 : ∃ (s : State) (c : Commit),
    (s.alive = true) ∧ (s.log.commit = some c) ∧ (c.pfw = false) ∧ (c.left = false) ∧ (c.covers ≠ 0) :=
  ⟨({ run with log := { run.log with ram := [{ seq := 0, sec := 0, ns := 0, notime := true, origin := 1, kind := 0, oid := 0, addr := false, obj := 0, old := 0, new := 1 }], commit := some { covers := 1, page := 1 } } }),
    ({ covers := 1, page := 1 }), by decide +kernel, by decide +kernel, by decide +kernel, by decide +kernel, by decide +kernel⟩

theorem witness_LogCommitsAndPowerFail_2 : ∃ (s : State) (c : Commit) (l : LongOp),
    (s.alive = true) ∧ (s.log.commit = some c) ∧ (c.pfw = false) ∧ (c.covers = 0) ∧ (s.car.longOp = some l) ∧ (l.idx = 4) ∧
    (l.arg = 1) :=
  ⟨({ run with log := { run.log with ram := [{ seq := 0, sec := 0, ns := 0, notime := true, origin := 1, kind := 0, oid := 0, addr := false, obj := 0, old := 0, new := 1 }], commit := some { covers := 0, page := 0 } }, car := { run.car with longOp := some { idx := 4, arg := 1, req := { rq [] with opcode := 0x0021 } } } }),
    ({ covers := 0, page := 0 }), ({ idx := 4, arg := 1, req := { rq [] with opcode := 0x0021 } }), by decide +kernel,
    by decide +kernel, by decide +kernel, by decide +kernel, by decide +kernel, by decide +kernel, by decide +kernel⟩

theorem witness_LogCommitsAndPowerFail_3 : ∃ (s : State),
    (s.alive = true) ∧ (s.pins.pfwLow = false) ∧ (s.ev.raw.contains Ev.PFW = false) :=
  ⟨run, by decide +kernel, by decide +kernel, by decide +kernel⟩

theorem witness_LogCommitsAndPowerFail_4 : ∃ (s : State) (c : Commit),
    (s.alive = true) ∧ (s.log.commit = some c) ∧ (c.pfw = true) :=
  ⟨({ run with log := { run.log with ram := [{ seq := 0, sec := 0, ns := 0, notime := true, origin := 1, kind := 0, oid := 0, addr := false, obj := 0, old := 0, new := 1 }], commit := some { pfw := true, covers := 1, page := 1 } } }),
    ({ pfw := true, covers := 1, page := 1 }), by decide +kernel, by decide +kernel, by decide +kernel⟩

theorem witness_LogCommitsAndPowerFail_5 : ∃ (s : State) (ms : Nat),
    (s.alive = true) ∧ (s.pins.pfwLow = true) :=
  ⟨({ run with pins := { run.pins with pfwLow := true } }), 10, by decide +kernel, by decide +kernel⟩

theorem witness_LogCommitsAndPowerFail_6 : ∃ (s : State) (addr : Nat) (u : Nat) (off : Nat) (v : Nat) (r : RegDesc),
    (s.alive = true) ∧ (regTarget addr = some (.reg 12 u off r)) ∧ (KV.find s.bad addr = none) ∧
    (s.regData addr % 65536 ≠ v % 65536) :=
  ⟨run, ((F.EVT_EV_EN_EN 15).addr), 15, 0x0C, 1, (descAt (((F.EVT_EV_EN_EN 15).addr : Nat))), by decide +kernel,
    by decide +kernel, by decide +kernel, by decide +kernel⟩

theorem witness_TicksStepsAndTriggersAct_0 : ∃ (s : State) (inp : TickIn),
    (s.alive = true) ∧ (s.time.load = none) ∧ (s.time.step = none) ∧ (s.time.onGrid = false) :=
  ⟨run, {}, by decide +kernel, by decide +kernel, by decide +kernel, by decide +kernel⟩

theorem witness_TicksStepsAndTriggersAct_1 : ∃ (s : State) (l : StepPend),
    (s.alive = true) ∧ (s.time.load = some l) ∧ (l.due ≤ (if s.time.onGrid then s.gridTick else s.gridTick + 1)) :=
  ⟨({ run with time := { run.time with load := some { ticks := 5, due := 1, load := true } } }),
    ({ ticks := 5, due := 1, load := true }), by decide +kernel, by decide +kernel, by decide +kernel⟩

theorem witness_TicksStepsAndTriggersAct_2 : ∃ (s : State) (d : Nat),
    (s.alive = true) ∧ (s.time.tod = some d) ∧ (d < 2) :=
  ⟨({ run with time := { run.time with tod := some 1 } }), 1, by decide +kernel, by decide +kernel, by decide +kernel⟩

theorem witness_TicksStepsAndTriggersAct_3 : ∃ (s : State),
    (s.alive = true) ∧ (s.on F.TB_STATUS_LEAP61 = true) :=
  ⟨(((run.setF (F.TB_STATUS_LEAP61) 1).setF (F.TB_STATUS_UTC_OFFSET) 37)), by decide +kernel, by decide +kernel⟩

theorem witness_TicksStepsAndTriggersAct_4 : ∃ (s : State),
    (s.alive = true) ∧ (s.on F.TB_STATUS_LEAP61 = false) ∧ (s.on F.TB_STATUS_LEAP59 = true) :=
  ⟨(((run.setF (F.TB_STATUS_LEAP59) 1).setF (F.TB_STATUS_UTC_OFFSET) 37)), by decide +kernel, by decide +kernel, by decide +kernel⟩

theorem witness_TicksStepsAndTriggersAct_5 : ∃ (s : State) (est : Int) (new : Int) (d : Nat),
    (s.alive = true) ∧ (s.asymActive = true) ∧ (65536 ≤ est.natAbs) ∧ (d = (if s.isTod 0 then 1 else 0)) ∧
    (new = (if est > 0 then s.getI (F.D_ASYM_ADJ d) + 1 else s.getI (F.D_ASYM_ADJ d) - 1)) ∧
    (new.natAbs ≤ [10, 30, 100, 300, 1000, 3000, 10000].getD s.trustCode 0) :=
  ⟨((((((((run.setF (F.TB_CTL_ASYM_TRACK) 1).setF (F.D_STATE_PORT 0) psSLAVE).setF (F.D_STATE_PORT 1) psSLAVE).setF (F.D_STATE_SERVO 0) svLOCKED).setF (F.D_STATE_SERVO 1) svLOCKED).setF (F.D_STATE_SAME_GM 0) 1).setF (F.D_CTL_PORT 1) 1)),
    -65536, -1, 1, by decide +kernel, by decide +kernel, by decide +kernel, rfl, rfl, by decide +kernel⟩

theorem witness_TicksStepsAndTriggersAct_6 : ∃ (s : State) (n : Fin 4),
    (s.alive = true) ∧ (s.on (F.CC_STATUS_RUNNING n) = true) :=
  ⟨(((run.setF (F.CC_STATUS_RUNNING 3) 1).setF (F.CC_PULSES 3) (2 ^ 32 - 1))), 3, by decide +kernel, by decide +kernel⟩

theorem witness_TicksStepsAndTriggersAct_7 : ∃ (s : State) (k : Fin 32) (at_ : Tai),
    (s.alive = true) ∧ (s.trgArmed k = true) ∧ (KV.get 0 s.stamps.due k ≤ at_.units) ∧ (s.getF (F.TRG_CTL_ACTION k) = 0) :=
  ⟨({ ((run.setF (F.TRG_STATUS_STATE 31) 1).setF (F.TRG_COUNT_FIRES 31) 65535) with stamps := { run.stamps with due := [(31, 5)] } }),
    31, ({ sec := 5 }), by decide +kernel, by decide +kernel, by decide +kernel, by decide +kernel⟩

theorem witness_TicksStepsAndTriggersAct_8 : ∃ (s : State) (k : Fin 32) (at_ : Tai) (n : Nat),
    (s.alive = true) ∧ (s.trgArmed k = true) ∧ (KV.get 0 s.stamps.due k ≤ at_.units) ∧ (s.getF (F.TRG_CTL_ACTION k) = 2) ∧
    (trgTarget (s.trgObjOf k) = some (.graph n)) ∧ (s.gOn s.gBank n = true) :=
  ⟨({ ((((run.setF (F.TRG_STATUS_STATE 31) 1).setF (F.TRG_CTL_ACTION 31) 2).setF (F.TRG_TARGET_LO 31) 255).setF (F.TRG_TARGET_HI 31) 0x0540) with dsp := { run.dsp with flag := [255] } }),
    31, ({ sec := 5 }), 255, by decide +kernel, by decide +kernel, by decide +kernel, by decide +kernel, by decide +kernel,
    by decide +kernel⟩

theorem witness_TicksStepsAndTriggersAct_9 : ∃ (s : State) (p : Fin 4) (at_ : Tai) (f : TimedFrame) (l : List TimedFrame),
    (s.alive = true) ∧ (s.unpowered 3 p = false) ∧ (s.timedQ p = f :: l) ∧ (f.late = true ∨ f.launch.units - 524288 ≤ at_.units) ∧
    ((s.openQueues p).contains f.q = true) ∧ (s.on (F.MAC_STATUS_LINK p) = true) :=
  ⟨({ (run.setF (F.MAC_STATUS_LINK 3) 1) with stamps := { run.stamps with timed := [(3, [{ launch := {}, tag := 9, q := 3, bytes := [1, 2] }, { launch := { sec := 1 }, tag := 1 }])] } }),
    3, {}, ({ launch := {}, tag := 9, q := 3, bytes := [1, 2] }), ([{ launch := { sec := 1 }, tag := 1 }]), by decide +kernel,
    by decide +kernel, by decide +kernel, by decide +kernel, by decide +kernel, by decide +kernel⟩

theorem witness_PtpMessagesAndTimersMoveTheDomains_0 : ∃ (s : State) (p : Fin 4) (d : Nat) (m : PtpMsg) (raw : Tai),
    (s.alive = true) ∧ (s.unpowered 3 p = false) ∧ (s.domainOf p m.dom = some d) ∧ (m.version = 2) ∧ (m.msgType = 0) ∧
    (s.fromMaster d m = true) ∧ (m.twoStep = true) :=
  ⟨({ ((((run.setF (F.D_CTL_EN 1) 1).setF (F.D_CTL_PORT 1) 1).setF (F.D_ID_DOMAIN_NUM 1) 127).setF (F.D_STATE_PORT 1) psSLAVE) with time := { run.time with domB := { run.time.domB with sel := some 77 } } }),
    1, 1, ({ msgType := 0, dom := 127, seq := 65535, src := 77, sec := 100, ns := 5, twoStep := true }),
    ({ sec := 100, ns := 900 }), by decide +kernel, by decide +kernel, by decide +kernel, by decide +kernel, by decide +kernel,
    by decide +kernel, by decide +kernel⟩

theorem witness_PtpMessagesAndTimersMoveTheDomains_1 : ∃ (s : State) (p : Fin 4) (d : Nat) (m : PtpMsg) (raw : Tai),
    (s.alive = true) ∧ (s.unpowered 3 p = false) ∧ (s.domainOf p m.dom = some d) ∧ (m.version = 2) ∧ (m.msgType = 0) ∧
    (s.fromMaster d m = true) ∧ (m.twoStep = false) :=
  ⟨({ ((((run.setF (F.D_CTL_EN 1) 1).setF (F.D_CTL_PORT 1) 1).setF (F.D_ID_DOMAIN_NUM 1) 127).setF (F.D_STATE_PORT 1) psSLAVE) with time := { run.time with domB := { run.time.domB with sel := some 77, delayKnown := true } } }),
    1, 1, ({ msgType := 0, dom := 127, seq := 65535, src := 77, sec := 100, ns := 5 }), ({ sec := 100, ns := 900 }),
    by decide +kernel, by decide +kernel, by decide +kernel, by decide +kernel, by decide +kernel, by decide +kernel,
    by decide +kernel⟩

theorem witness_PtpMessagesAndTimersMoveTheDomains_2 : ∃ (s : State) (p : Fin 4) (d : Nat) (m : PtpMsg) (t2 : Int) (c : Int),
    (s.alive = true) ∧ (s.unpowered 3 p = false) ∧ (s.domainOf p m.dom = some d) ∧ (m.version = 2) ∧ (m.msgType = 8) ∧
    (s.fromMaster d m = true) ∧ ((s.dom d).sync = some (m.seq, m.src, t2, c)) :=
  ⟨({ ((((run.setF (F.D_CTL_EN 1) 1).setF (F.D_CTL_PORT 1) 1).setF (F.D_ID_DOMAIN_NUM 1) 127).setF (F.D_STATE_PORT 1) psSLAVE) with time := { run.time with domB := { run.time.domB with sel := some 77, delayKnown := true, sync := some (65535, 77, 6553600000000, -5) } } }),
    1, 1, ({ msgType := 8, dom := 127, seq := 65535, src := 77, sec := 100, ns := 5 }), 6553600000000, -5, by decide +kernel,
    by decide +kernel, by decide +kernel, by decide +kernel, by decide +kernel, by decide +kernel, by decide +kernel⟩

theorem witness_PtpMessagesAndTimersMoveTheDomains_3 : ∃ (s : State) (p : Fin 4) (d : Nat) (m : PtpMsg) (t3 : Int) (f : Int),
    (s.alive = true) ∧ (s.unpowered 3 p = false) ∧ (s.domainOf p m.dom = some d) ∧ (m.version = 2) ∧ (m.msgType = 9) ∧
    (s.fromMaster d m = true) ∧ (s.on (F.D_CTL_DELAY d) = false) ∧ ((s.dom d).dreq = some (m.seq, t3)) ∧
    ((s.dom d).fwd = some f) ∧ (m.reqSrc = (s.dom d).ident) :=
  ⟨({ (((((run.setF (F.D_CTL_EN 1) 1).setF (F.D_CTL_PORT 1) 1).setF (F.D_ID_DOMAIN_NUM 1) 127).setF (F.D_CTL_DELAY 1) 0).setF (F.D_STATE_PORT 1) psSLAVE) with time := { run.time with domB := { run.time.domB with sel := some 77, dreq := some (65535, 6553600000000), fwd := some 131072 } } }),
    1, 1, ({ msgType := 9, dom := 127, seq := 65535, src := 77, sec := 100, ns := 5, reqSrc := 0 }), 6553600000000, 131072,
    by decide +kernel, by decide +kernel, by decide +kernel, by decide +kernel, by decide +kernel, by decide +kernel,
    by decide +kernel, by decide +kernel, by decide +kernel, by decide +kernel⟩

theorem witness_PtpMessagesAndTimersMoveTheDomains_4 : ∃ (s : State) (p : Fin 4) (d : Nat) (m : PtpMsg) (fu : PtpMsg) (raw : Tai) (t1 : Int),
    (s.alive = true) ∧ (s.unpowered 3 p = false) ∧ (s.domainOf p m.dom = some d) ∧ (m.version = 2) ∧ (m.msgType = 3) ∧
    (s.on (F.D_CTL_DELAY d) = true) ∧ ((s.dom d).dreq = some (m.seq, t1)) ∧ (fu.seq = m.seq) ∧ (m.reqSrc = (s.dom d).ident) :=
  ⟨({ (((((run.setF (F.D_CTL_EN 1) 1).setF (F.D_CTL_PORT 1) 1).setF (F.D_ID_DOMAIN_NUM 1) 127).setF (F.D_CTL_DELAY 1) 1).setF (F.D_STATE_PORT 1) psSLAVE) with time := { run.time with domB := { run.time.domB with sel := some 77, dreq := some (65535, 6553600000000) } } }),
    1, 1, ({ msgType := 3, dom := 127, seq := 65535, src := 77, sec := 100, ns := 5 }), ({ seq := 65535, sec := 100, ns := 7 }),
    {}, 6553600000000, by decide +kernel, by decide +kernel, by decide +kernel, by decide +kernel, by decide +kernel,
    by decide +kernel, by decide +kernel, by decide +kernel, by decide +kernel⟩

theorem witness_PtpMessagesAndTimersMoveTheDomains_5 : ∃ (s : State) (p : Fin 4) (d : Nat) (m : PtpMsg) (a : Announce),
    (s.alive = true) ∧ (s.unpowered 3 p = false) ∧ (s.domainOf p m.dom = some d) ∧ (m.version = 2) ∧ (m.msgType = 11) ∧
    (s.ptpPort d ≠ psFAULTY) ∧ (s.ptpPort d ≠ psDISABLED) :=
  ⟨({ ((((run.setF (F.D_CTL_EN 1) 1).setF (F.D_CTL_PORT 1) 1).setF (F.D_ID_DOMAIN_NUM 1) 127).setF (F.D_STATE_PORT 1) psLISTENING) with time := { run.time with domB := { run.time.domB with sel := some 77 } } }),
    1, 1, ({ msgType := 11, dom := 127, seq := 65535, src := 77, sec := 100, ns := 5 }), ({ gm := 77 }), by decide +kernel,
    by decide +kernel, by decide +kernel, by decide +kernel, by decide +kernel, by decide +kernel, by decide +kernel⟩

theorem witness_PtpMessagesAndTimersMoveTheDomains_6 : ∃ (s : State) (p : Fin 4) (d : Nat) (m : PtpMsg) (raw : Tai),
    (s.alive = true) ∧ (s.unpowered 3 p = false) ∧ (s.domainOf p m.dom = some d) ∧ (m.version = 2) ∧
    (m.msgType = 1 ∨ m.msgType = 2) ∧ (s.ptpPort d = psMASTER) :=
  ⟨({ ((((run.setF (F.D_CTL_EN 1) 1).setF (F.D_CTL_PORT 1) 1).setF (F.D_ID_DOMAIN_NUM 1) 127).setF (F.D_STATE_PORT 1) psMASTER) with time := { run.time with domB := { run.time.domB with sel := some 77 } } }),
    1, 1, ({ msgType := 1, dom := 127, seq := 65535, src := 77, sec := 100, ns := 5 }), {}, by decide +kernel, by decide +kernel,
    by decide +kernel, by decide +kernel, by decide +kernel, by decide +kernel⟩

theorem witness_PtpMessagesAndTimersMoveTheDomains_7 : ∃ (s : State) (d : Fin 2),
    (s.alive = true) ∧ (s.ptpPort d = psMASTER) :=
  ⟨({ ((((run.setF (F.D_CTL_EN 1) 1).setF (F.D_CTL_PORT 1) 1).setF (F.D_ID_DOMAIN_NUM 1) 127).setF (F.D_STATE_PORT 1) psMASTER) with time := { run.time with domB := { run.time.domB with sel := some 77 } } }),
    1, by decide +kernel, by decide +kernel⟩

theorem witness_PtpMessagesAndTimersMoveTheDomains_8 : ∃ (s : State) (d : Fin 2) (raw : Tai),
    (s.alive = true) ∧ (s.ptpPort d = psUNCALIBRATED ∨ s.ptpPort d = psSLAVE) :=
  ⟨({ ((((run.setF (F.D_CTL_EN 1) 1).setF (F.D_CTL_PORT 1) 1).setF (F.D_ID_DOMAIN_NUM 1) 127).setF (F.D_STATE_PORT 1) psSLAVE) with time := { run.time with domB := { run.time.domB with sel := some 77 } } }),
    1, {}, by decide +kernel, by decide +kernel⟩

theorem witness_PtpMessagesAndTimersMoveTheDomains_9 : ∃ (s : State) (d : Fin 2) (m : Nat),
    (s.alive = true) ∧ ((s.dom d).sel = some m) :=
  ⟨({ ((((run.setF (F.D_CTL_EN 1) 1).setF (F.D_CTL_PORT 1) 1).setF (F.D_ID_DOMAIN_NUM 1) 127).setF (F.D_STATE_PORT 1) psSLAVE) with time := { run.time with domB := { run.time.domB with sel := some 77, foreign := [{ src := 77, ann := {} }] } } }),
    1, 77, by decide +kernel, by decide +kernel⟩

theorem witness_PtpMessagesAndTimersMoveTheDomains_10 : ∃ (s : State) (d : Fin 2),
    (s.alive = true) ∧ (s.ptpServo d = svACQUIRE ∨ s.ptpServo d = svLOCKED) :=
  ⟨({ (((((run.setF (F.D_CTL_EN 1) 1).setF (F.D_CTL_PORT 1) 1).setF (F.D_ID_DOMAIN_NUM 1) 127).setF (F.D_STATE_SERVO 1) svLOCKED).setF (F.D_STATE_PORT 1) psSLAVE) with time := { run.time with domB := { run.time.domB with sel := some 77 } } }),
    1, by decide +kernel, by decide +kernel⟩

theorem witness_PtpMessagesAndTimersMoveTheDomains_11 : ∃ (s : State) (d : Fin 2),
    (s.alive = true) ∧ ((s.dom d).sync.isSome = true) :=
  ⟨({ ((((run.setF (F.D_CTL_EN 1) 1).setF (F.D_CTL_PORT 1) 1).setF (F.D_ID_DOMAIN_NUM 1) 127).setF (F.D_STATE_PORT 1) psSLAVE) with time := { run.time with domB := { run.time.domB with sel := some 77, sync := some (1, 77, 0, 0) } } }),
    1, by decide +kernel, by decide +kernel⟩

theorem witness_PtpMessagesAndTimersMoveTheDomains_12 : ∃ (s : State) (d : Fin 2),
    (s.alive = true) ∧ ((s.dom d).dreq.isSome = true) :=
  ⟨({ ((((run.setF (F.D_CTL_EN 1) 1).setF (F.D_CTL_PORT 1) 1).setF (F.D_ID_DOMAIN_NUM 1) 127).setF (F.D_STATE_PORT 1) psSLAVE) with time := { run.time with domB := { run.time.domB with sel := some 77, dreq := some (1, 0), missRun := 7 } } }),
    1, by decide +kernel, by decide +kernel⟩

theorem witness_PtpMessagesAndTimersMoveTheDomains_13 : ∃ (s : State) (d : Fin 2),
    (s.alive = true) ∧ (s.ptpPort d = psPRE_MASTER) :=
  ⟨({ ((((run.setF (F.D_CTL_EN 1) 1).setF (F.D_CTL_PORT 1) 1).setF (F.D_ID_DOMAIN_NUM 1) 127).setF (F.D_STATE_PORT 1) psPRE_MASTER) with time := { run.time with domB := { run.time.domB with sel := some 77 } } }),
    1, by decide +kernel, by decide +kernel⟩

theorem witness_MonitorsAndSwitchesMoveAsDue_0 : ∃ (s : State) (inp : RefTickIn),
    (s.alive = true) ∧ (1 ≤ s.getF F.SEL_STATUS_HOLDOFF_REMAIN) ∧ (s.getF F.SEL_STATUS_HOLDOFF_REMAIN ≤ 5000) :=
  ⟨((run.setF (F.SEL_STATUS_HOLDOFF_REMAIN) 5000)), {}, by decide +kernel, by decide +kernel, by decide +kernel⟩

theorem witness_MonitorsAndSwitchesMoveAsDue_1 : ∃ (s : State) (n : Fin 7),
    (s.alive = true) ∧ (s.qualDue n = true) :=
  ⟨(((run.setF (F.REF_STATUS_STATE 6) rsQUALIFYING).setF (F.REF_CTL_EN 6) 1)), 6, by decide +kernel, by decide +kernel⟩

theorem witness_MonitorsAndSwitchesMoveAsDue_2 : ∃ (s : State) (n : Fin 7),
    (s.alive = true) ∧ (s.dwellDue n = true) :=
  ⟨({ ((run.setF (F.REF_STATUS_STATE 6) rsSUSPECT).setF (F.REF_CTL_EN 6) 1) with clk := { run.clk with mons := [(6, { clear := 5 })] } }),
    6, by decide +kernel, by decide +kernel⟩

theorem witness_MonitorsAndSwitchesMoveAsDue_3 : ∃ (s : State) (n : Fin 7),
    (s.alive = true) ∧ (s.clearDue n = true) ∧ (s.selRef ≠ n.val) :=
  ⟨(((run.setF (F.REF_STATUS_STATE 6) rsSUSPECT).setF (F.REF_CTL_EN 6) 1)), 6, by decide +kernel, by decide +kernel,
    by decide +kernel⟩

theorem witness_MonitorsAndSwitchesMoveAsDue_4 : ∃ (s : State) (n : Fin 2),
    (s.alive = true) ∧ (s.on (F.REF_CTL_EN (4 + n)) = true) ∧ (s.refSt (4 + n) ≠ rsFAILED) ∧ ((s.mon (4 + n)).rate ≠ 0) :=
  ⟨({ ((run.setF (F.REF_STATUS_STATE 5) rsQUALIFIED).setF (F.REF_CTL_EN 5) 1) with clk := { run.clk with mons := [(5, { rate := 1 })] } }),
    1, by decide +kernel, by decide +kernel, by decide +kernel, by decide +kernel⟩

theorem witness_MonitorsAndSwitchesMoveAsDue_5 : ∃ (s : State) (n : Fin 2) (meas : Nat) (r : Nat),
    (s.alive = true) ∧ (s.on (F.REF_CTL_EN (4 + n)) = true) ∧ (s.refSt (4 + n) ≠ rsFAILED) ∧ ((s.mon (4 + n)).rate = 0) ∧
    ((s.refAccepted (4 + n)).find? (nearRate meas) = some r) :=
  ⟨(((run.setF (F.REF_STATUS_STATE 4) rsQUALIFYING).setF (F.REF_CTL_EN 4) 1)), 0, 768768, 48000, by decide +kernel,
    by decide +kernel, by decide +kernel, by decide +kernel, by decide +kernel⟩

theorem witness_MonitorsAndSwitchesMoveAsDue_6 : ∃ (s : State),
    (s.alive = true) ∧ (s.startDueSw = true) ∧ (s.clk.want < 7) :=
  ⟨({ run with clk := { run.clk with want := 6 } }), by decide +kernel, by decide +kernel, by decide +kernel⟩

theorem witness_MonitorsAndSwitchesMoveAsDue_7 : ∃ (s : State) (drift : Int) (resid : Int),
    (s.alive = true) ∧ (s.buildDue = true) ∧ (s.clk.rebuild = false) ∧ (s.clk.target < 7) :=
  ⟨({ (((run.setF (F.REF_STATUS_STATE 6) rsQUALIFIED).setF (F.REF_STATUS_STATE 0) rsACTIVE).setF (F.SEL_STATUS_SEL_REF) 0) with clk := { run.clk with running := true, target := 6, acc := 10, accN := 4 } }),
    3, 2, by decide +kernel, by decide +kernel, by decide +kernel, by decide +kernel⟩

theorem witness_MonitorsAndSwitchesMoveAsDue_8 : ∃ (s : State) (ms : Nat) (stage : Nat),
    (s.alive = true) ∧ (s.clk.settle = some (ms, stage)) ∧ (s.settleDue = true) ∧ (s.clk.settleRef < 7) ∧
    (s.bwCode s.clk.settleRef < 16) :=
  ⟨({ run with clk := { run.clk with settle := some (4000, 1), settleRef := 6 } }), 4000, 1, by decide +kernel, by decide +kernel,
    by decide +kernel, by decide +kernel, by decide +kernel⟩

theorem witness_MonitorsAndSwitchesMoveAsDue_9 : ∃ (s : State) (avg : Int),
    (s.alive = true) ∧ (s.loopMode = lmLOCKED) ∧ (s.clk.settle = none) ∧ (s.clk.frozenBy = none) :=
  ⟨((run.setF (F.LOOP_STATUS_MODE) lmLOCKED)), 5, by decide +kernel, by decide +kernel, by decide +kernel, by decide +kernel⟩

theorem witness_MonitorsAndSwitchesMoveAsDue_10 : ∃ (s : State) (avg : Int),
    (s.alive = true) ∧ (s.loopMode = lmHOLDOVER) :=
  ⟨((run.setF (F.LOOP_STATUS_MODE) lmHOLDOVER)), 5, by decide +kernel, by decide +kernel⟩

theorem witness_MonitorsAndSwitchesMoveAsDue_11 : ∃ (s : State),
    (s.alive = true) ∧ (s.on F.LOOP_STATUS_PLL_LOCK = true) :=
  ⟨({ (run.setF (F.LOOP_STATUS_PLL_LOCK) 1) with clk := { run.clk with outRun := [0, 6] } }), by decide +kernel, by decide +kernel⟩

theorem witness_MonitorsAndSwitchesMoveAsDue_12 : ∃ (s : State),
    (s.alive = true) ∧ (s.on F.LOOP_STATUS_PLL_LOCK = false) :=
  ⟨run, by decide +kernel, by decide +kernel⟩

theorem witness_MonitorsAndSwitchesMoveAsDue_13 : ∃ (s : State),
    (s.alive = true) ∧ (s.on F.OUT_MIS_ALIGN_PEND = true) ∧ (s.get64 F.OUT_ALIGN_SEC_LO F.OUT_ALIGN_SEC_HI ≤ s.now.sec) :=
  ⟨({ ((run.setF (F.OUT_MIS_ALIGN_PEND) 1).setF (F.OUT_MIS_MASK) 31) with clk := { run.clk with alignMask := 16, mis := [(4, 5)] } }),
    by decide +kernel, by decide +kernel, by decide +kernel⟩

theorem witness_MonitorsAndSwitchesMoveAsDue_14 : ∃ (s : State) (port : Fin 2) (ql : Ql),
    (s.alive = true) :=
  ⟨run, 1, .prc, by decide +kernel⟩

theorem witness_MonitorsAndSwitchesMoveAsDue_15 : ∃ (s : State) (port : Fin 2),
    (s.alive = true) :=
  ⟨({ run with clk := { run.clk with mons := [(3, { esmc := 2 })] } }), 1, by decide +kernel⟩

theorem witness_PortsMoveLinksFramesAndSpeeds_0 : ∃ (s : State) (p : Fin 4) (sp : Fin 4) (eee : Bool),
    (s.alive = true) ∧ (s.unpowered 3 p = false) ∧ (s.on (F.MAC_CTL_EN p) = true) ∧ (s.speedAllowed p sp = true) :=
  ⟨((run.setF (F.MAC_CTL_EN 3) 1)), 3, 3, false, by decide +kernel, by decide +kernel, by decide +kernel, by decide +kernel⟩

theorem witness_PortsMoveLinksFramesAndSpeeds_1 : ∃ (s : State) (p : Fin 4) (sp : Fin 4) (eee : Bool) (ref : Bool),
    (s.alive = true) ∧ (s.unpowered 3 p = false) ∧ (s.on (F.MAC_CTL_EN p) = true) ∧ (ref = true ∨ s.speedAllowed p sp = false) :=
  ⟨((run.setF (F.MAC_CTL_EN 3) 1)), 3, 2, false, false, by decide +kernel, by decide +kernel, by decide +kernel, by decide +kernel⟩

theorem witness_PortsMoveLinksFramesAndSpeeds_2 : ∃ (s : State) (p : Fin 4),
    (s.alive = true) ∧ (s.unpowered 3 p = false) ∧ (s.on (F.MAC_STATUS_LINK p) = true) :=
  ⟨({ ((run.setF (F.MAC_CTL_EN 3) 1).setF (F.MAC_STATUS_LINK 3) 1) with str := { run.str with ports := [(3, { pauseC := 1, q0 := [{ len := 64, body := .raw [] }] })] } }),
    3, by decide +kernel, by decide +kernel, by decide +kernel⟩

theorem witness_PortsMoveLinksFramesAndSpeeds_3 : ∃ (s : State) (p : Fin 4) (f : FrameIn),
    (s.alive = true) ∧ (s.unpowered 3 p = false) ∧ (s.on (F.MAC_CTL_EN p) = true) ∧ (s.on (F.MAC_STATUS_LINK p) = true) :=
  ⟨(((run.setF (F.MAC_CTL_EN 3) 1).setF (F.MAC_STATUS_LINK 3) 1)), 3, ({ dst := 0 }), by decide +kernel, by decide +kernel,
    by decide +kernel, by decide +kernel⟩

theorem witness_PortsMoveLinksFramesAndSpeeds_4 : ∃ (s : State) (p : Fin 4) (pfc : Bool) (en : Nat) (quanta : List Nat),
    (s.alive = true) ∧ (s.unpowered 3 p = false) ∧ (s.on (F.MAC_CTL_EN p) = true) ∧ (s.on (F.MAC_STATUS_LINK p) = true) :=
  ⟨((((run.setF (F.MAC_CTL_PFC_EN 3) 1).setF (F.MAC_CTL_EN 3) 1).setF (F.MAC_STATUS_LINK 3) 1)), 3, true, 12,
    ([0, 0, 9, 7, 0, 0, 0, 0]), by decide +kernel, by decide +kernel, by decide +kernel, by decide +kernel⟩

theorem witness_PortsMoveLinksFramesAndSpeeds_5 : ∃ (s : State) (p : Fin 4) (q : Fin 4),
    (s.alive = true) ∧ (s.unpowered 3 p = false) :=
  ⟨({ run with str := { run.str with ports := [(3, { pauseB := 9 })] } }), 3, 3, by decide +kernel, by decide +kernel⟩

theorem witness_PortsMoveLinksFramesAndSpeeds_6 : ∃ (s : State) (p : Fin 4) (at_ : Tai) (q : Nat) (f : QFrame) (l : List QFrame),
    (s.alive = true) ∧ (s.unpowered 3 p = false) ∧ (s.on (F.MAC_CTL_EN p) = true) ∧ (s.on (F.MAC_STATUS_LINK p) = true) ∧
    (s.on (F.MAC_STATUS_LPI_TX p) = false) ∧
    ((s.openQueues p).find? (fun q => match ((s.port p).queue q).head? with | some f => s.timedWindow p f.len at_.units | none => false) = some q) ∧
    ((s.port p).queue q = f :: l) :=
  ⟨({ ((run.setF (F.MAC_CTL_EN 3) 1).setF (F.MAC_STATUS_LINK 3) 1) with str := { run.str with ports := [(3, { q2 := [{ len := 64, body := .raw [1] }] })] } }),
    3, {}, 2, ({ len := 64, body := .raw [1] }), [], by decide +kernel, by decide +kernel, by decide +kernel, by decide +kernel,
    by decide +kernel, by decide +kernel, by decide +kernel⟩

theorem witness_PortsMoveLinksFramesAndSpeeds_7 : ∃ (s : State) (p : Fin 4),
    (s.alive = true) ∧ (s.unpowered 3 p = false) ∧ ((s.port p).dma.isSome = true) :=
  ⟨({ (((run.setF (F.MAC_TX_START 3) 8000).setF (F.MAC_CTL_EN 3) 1).setF (F.MAC_STATUS_LINK 3) 1) with str := { run.str with ports := [(3, { dma := some { len := 64, body := .raw [1], dma := true } })] } }),
    3, by decide +kernel, by decide +kernel, by decide +kernel⟩

theorem witness_PortsMoveLinksFramesAndSpeeds_8 : ∃ (s : State) (p : Fin 4) (desc : List Byte) (frame : List Byte) (at_ : Tai),
    (s.alive = true) ∧ (s.unpowered 3 p = false) ∧ (s.on (F.MAC_CTL_EN p) = true) ∧ (s.on (F.MAC_TXR_CFG_RING_EN p) = true) ∧
    (s.on F.HST_PCIE_CTL_EN = true) ∧ (s.getF (F.MAC_TXR_CONS p) ≠ s.getF (F.MAC_TXR_PROD p)) ∧
    (s.getF (F.MAC_TXR_CFG_SIZE p) ≤ 12) :=
  ⟨(((((((run.setF (F.MAC_TXR_CFG_RING_EN 3) 1).setF (F.HST_PCIE_CTL_EN) 1).setF (F.MAC_TXR_CFG_SIZE 3) 12).setF (F.MAC_TXR_CONS 3) 4095).setF (F.MAC_CTL_EN 3) 1).setF (F.MAC_STATUS_LINK 3) 1)),
    3, ([0, 0, 0, 0, 0, 0, 0, 0, 60, 0, 3, 0] ++ List.replicate 20 0), (List.replicate 60 0x11), {}, by decide +kernel,
    by decide +kernel, by decide +kernel, by decide +kernel, by decide +kernel, by decide +kernel, by decide +kernel⟩

theorem witness_PortsMoveLinksFramesAndSpeeds_9 : ∃ (s : State) (p : Fin 4) (len : Nat) (tag : Option (Nat × Nat)) (ptp : Bool) (at_ : Tai) (buf : Nat × Nat),
    (s.alive = true) ∧ (s.unpowered 3 p = false) ∧ (s.on (F.MAC_CTL_EN p) = true) ∧ (s.on (F.MAC_RXR_CFG_RING_EN p) = true) ∧
    (s.on F.HST_PCIE_CTL_EN = true) ∧ (s.getF (F.MAC_RXR_CONS p) ≠ s.getF (F.MAC_RXR_PROD p)) ∧
    (s.getF (F.MAC_RXR_CFG_SIZE p) ≤ 12) :=
  ⟨(((((((run.setF (F.MAC_RXR_CFG_RING_EN 3) 1).setF (F.HST_PCIE_CTL_EN) 1).setF (F.MAC_RXR_CFG_SIZE 3) 12).setF (F.MAC_RXR_CONS 3) 4095).setF (F.MAC_CTL_EN 3) 1).setF (F.MAC_STATUS_LINK 3) 1)),
    3, 64, none, false, {}, ((4096, 64)), by decide +kernel, by decide +kernel, by decide +kernel, by decide +kernel,
    by decide +kernel, by decide +kernel, by decide +kernel⟩

theorem witness_PortsMoveLinksFramesAndSpeeds_10 : ∃ (s : State) (meas : List (Nat × Nat)) (p : Fin 4),
    (s.alive = true) :=
  ⟨({ run with str := { run.str with ports := [(3, { barred := 1 })] } }), ([(1, 2), (3, 4), (5, 6), (7, 8)]), 3, by decide +kernel⟩

theorem witness_PortsMoveLinksFramesAndSpeeds_11 : ∃ (s : State) (p : Fin 2),
    (s.alive = true) ∧ (s.unpowered 3 p = false) ∧ (s.downDue p = true) ∧ (s.downDue (1 - p) = false ∨ s.firstPort = p.val) :=
  ⟨({ (((((run.setF (F.MAC_CTL_EN 1) 1).setF (F.MAC_STATUS_LINK 1) 1).setF (F.MAC_CTL_AUTO_STEP 1) 1).setF (F.MAC_CTL_STEP_UNPROT 1) 1).setF (F.MAC_CTL_SPEED_MAX 1) 0) with str := { run.str with ports := [(1, { under := 60 })] } }),
    1, by decide +kernel, by decide +kernel, by decide +kernel, by decide +kernel⟩

theorem witness_PortsMoveLinksFramesAndSpeeds_12 : ∃ (s : State) (p : Fin 2) (k : Nat),
    (s.alive = true) ∧ (s.unpowered 3 p = false) ∧ (s.on (F.MAC_STATUS_STEPPING p) = false) ∧
    (s.on (F.MAC_STATUS_STEPPING (1 - p)) = false) ∧ ((s.port p).target = some k) :=
  ⟨({ (((((run.setF (F.MAC_CTL_EN 1) 1).setF (F.MAC_STATUS_LINK 1) 1).setF (F.MAC_CTL_AUTO_STEP 1) 1).setF (F.MAC_CTL_STEP_UNPROT 1) 1).setF (F.MAC_CTL_SPEED_MAX 1) 0) with str := { run.str with ports := [(1, { target := some 2 })] } }),
    1, 2, by decide +kernel, by decide +kernel, by decide +kernel, by decide +kernel, by decide +kernel⟩

theorem witness_PortsMoveLinksFramesAndSpeeds_13 : ∃ (s : State) (p : Fin 2) (k : Nat),
    (s.alive = true) ∧ (s.unpowered 3 p = false) ∧ (s.on (F.MAC_STATUS_STEPPING p) = true) ∧ (s.on (F.MAC_CTL_EN p) = true) ∧
    ((s.port p).target = some k) ∧ (s.speedAllowed p k = true) :=
  ⟨({ ((((((run.setF (F.MAC_STATUS_STEPPING 1) 1).setF (F.MAC_CTL_EN 1) 1).setF (F.MAC_STATUS_LINK 1) 1).setF (F.MAC_CTL_AUTO_STEP 1) 1).setF (F.MAC_CTL_STEP_UNPROT 1) 1).setF (F.MAC_CTL_SPEED_MAX 1) 0) with str := { run.str with ports := [(1, { target := some 2 })] } }),
    1, 2, by decide +kernel, by decide +kernel, by decide +kernel, by decide +kernel, by decide +kernel, by decide +kernel⟩

theorem witness_PortsMoveLinksFramesAndSpeeds_14 : ∃ (s : State) (p : Fin 2),
    (s.alive = true) ∧ (s.unpowered 3 p = false) ∧ (s.on (F.MAC_STATUS_STEPPING p) = true) ∧ ((s.port p).target.isSome = true) :=
  ⟨({ ((((((run.setF (F.MAC_STATUS_STEPPING 1) 1).setF (F.MAC_CTL_EN 1) 1).setF (F.MAC_STATUS_LINK 1) 1).setF (F.MAC_CTL_AUTO_STEP 1) 1).setF (F.MAC_CTL_STEP_UNPROT 1) 1).setF (F.MAC_CTL_SPEED_MAX 1) 0) with str := { run.str with ports := [(1, { target := some 2 })] } }),
    1, by decide +kernel, by decide +kernel, by decide +kernel, by decide +kernel⟩

theorem witness_PortsMoveLinksFramesAndSpeeds_15 : ∃ (s : State) (p : Fin 4),
    (s.alive = true) ∧ (s.unpowered 3 p = false) ∧ (2 ≤ p.val) ∧ ((s.port p).eee = true) ∧ (s.on (F.MAC_STATUS_LINK p) = true) ∧
    (s.on (F.MAC_CTL_LPI_EN p) = true) ∧ (s.on (F.MAC_STATUS_LPI_TX p) = false) ∧ (∀ q < 4, (s.port p).queue q = []) ∧
    (∀ x ∈ s.str.tx, onPath (s.txB x.1) p = false) ∧ (s.timedQ p = []) :=
  ⟨({ (((run.setF (F.MAC_CTL_LPI_EN 3) 1).setF (F.MAC_CTL_EN 3) 1).setF (F.MAC_STATUS_LINK 3) 1) with str := { run.str with ports := [(3, { eee := true })] } }),
    3, by decide +kernel, by decide +kernel, by decide +kernel, by decide +kernel, by decide +kernel, by decide +kernel,
    by decide +kernel, by decide +kernel, by decide +kernel, by decide +kernel⟩

theorem witness_PortsMoveLinksFramesAndSpeeds_16 : ∃ (s : State) (p : Fin 4),
    (s.alive = true) ∧ (s.unpowered 3 p = false) :=
  ⟨((((run.setF (F.MAC_STATUS_LPI_TX 3) 1).setF (F.MAC_CTL_EN 3) 1).setF (F.MAC_STATUS_LINK 3) 1)), 3, by decide +kernel,
    by decide +kernel⟩

theorem witness_StreamsPeersAndSwapsMove_0 : ∃ (s : State) (path : Fin 5) (p : MediaPkt) (at_ : Tai) (e : Nat),
    (s.alive = true) ∧ (path.val < 4 → s.unpowered 3 path = false) ∧ (s.str.rxSwap = none) ∧
    (((s.str.rx.filter (fun q => q.2.st != 1 && rxMatches (s.rxB q.1) path p)).map (·.1)) = [e]) :=
  ⟨({ ((run.setF (F.MAC_CTL_EN 0) 1).setF (F.MAC_STATUS_LINK 0) 1) with str := { run.str with rxBlk := [(511, rxBlk)], rxFlag := [511], rx := [(511, {})] } }),
    0,
    ({ src := [10, 0, 0, 9], dst := [239, 1, 2, 3], sport := 5004, dport := 5060, pt := 96, seq := 65535, ts := 0, payload := List.replicate 12 0 }),
    {}, 511, by decide +kernel, by decide +kernel, by decide +kernel, by decide +kernel⟩

theorem witness_StreamsPeersAndSwapsMove_1 : ∃ (s : State) (port : Fin 4) (d : List Byte),
    (s.alive = true) ∧ (s.unpowered 3 port = false) ∧ (44 ≤ d.length) ∧ (leAt d 0 4 = 0x4E414B43) ∧ (leAt d 4 1 = 1) ∧
    (s.on (F.MAC_CTL_EN port) = true) ∧ (∀ p < 4, s.portMac p ≠ beAt d 16 6) ∧ (beAt d 16 6 ∉ s.pair.pMacs) :=
  ⟨((((((run.setF (F.MAC_CTL_EN 3) 1).setF (F.MAC_ADDR_LO 0) 1).setF (F.MAC_ADDR_LO 1) 2).setF (F.MAC_ADDR_LO 2) 3).setF (F.MAC_ADDR_LO 3) 4)),
    3, annPkt, by decide +kernel, by decide +kernel, by decide +kernel, by decide +kernel, by decide +kernel, by decide +kernel,
    by decide +kernel, by decide +kernel⟩

theorem witness_StreamsPeersAndSwapsMove_2 : ∃ (s : State) (dev : Nat) (x : Peer),
    (s.alive = true) ∧ (KV.find s.str.peers dev = some x) ∧ (x.imported = false) :=
  ⟨({ run with str := { run.str with peers := [(7, {})] } }), 7, {}, by decide +kernel, by decide +kernel, by decide +kernel⟩

theorem witness_StreamsPeersAndSwapsMove_3 : ∃ (s : State),
    (s.alive = true) ∧ (s.on F.TXT_CTL_ANN_EN = true) ∧ (s.getF F.ROLE_STATUS_STATE = 0 ∨ s.getF F.ROLE_STATUS_STATE = 4) :=
  ⟨(((run.setF (F.TXT_CTL_ANN_EN) 1).setF (F.ROLE_STATUS_STATE) 4)), by decide +kernel, by decide +kernel, by decide +kernel⟩

theorem witness_StreamsPeersAndSwapsMove_4 : ∃ (s : State) (k : Fin 64) (adj : Int) (ratio : Int),
    (s.alive = true) ∧ ((s.fdEst k).feed ≠ []) :=
  ⟨({ (run.setF (F.FD_CFG_EN 63) 1) with str := { run.str with fd := [(63, { feed := [(1, 2)] })] } }), 63, 0, 1100000001,
    by decide +kernel, by decide +kernel⟩

theorem witness_StreamsPeersAndSwapsMove_5 : ∃ (s : State) (e : Fin 512) (x : RxRun),
    (s.alive = true) ∧ (KV.find s.str.rx e = some x) ∧ (x.st = 1) :=
  ⟨({ run with str := { run.str with rxBlk := [(511, rxBlk)], rxFlag := [511], rx := [(511, { st := 1 })] } }), 511,
    ({ st := 1 }), by decide +kernel, by decide +kernel, by decide +kernel⟩

theorem witness_StreamsPeersAndSwapsMove_6 : ∃ (s : State) (e : Fin 512) (x : TxRun),
    (s.alive = true) ∧ (KV.find s.str.tx e = some x) ∧ (x.st = 1) :=
  ⟨({ run with str := { run.str with txBlk := [(511, txBlk)], txFlag := [511], tx := [(511, { st := 1 })] } }), 511,
    ({ st := 1 }), by decide +kernel, by decide +kernel, by decide +kernel⟩

theorem witness_StreamsPeersAndSwapsMove_7 : ∃ (s : State) (w : SwapPend),
    (s.alive = true) ∧ (s.str.rxSwap = some w) ∧ (w.tick ≤ s.toBoundary.gridTick) ∧ (s.rxBank ≤ 1) :=
  ⟨({ ((run.setF (F.RXT_CTL_EN) 1).setF (F.RXT_CTL_SWAP) 1) with str := { run.str with rxSwap := some { tick := 1, origin := { code := 2 } } } }),
    ({ tick := 1, origin := { code := 2 } }), by decide +kernel, by decide +kernel, by decide +kernel, by decide +kernel⟩

theorem witness_StreamsPeersAndSwapsMove_8 : ∃ (s : State) (w : SwapPend),
    (s.alive = true) ∧ (s.str.txSwap = some w) ∧ (w.tick ≤ s.toBoundary.gridTick) ∧ (s.txBank ≤ 1) :=
  ⟨({ ((run.setF (F.TXT_CTL_EN) 1).setF (F.TXT_CTL_SWAP) 1) with str := { run.str with txSwap := some { tick := 1, origin := { code := 2 } } } }),
    ({ tick := 1, origin := { code := 2 } }), by decide +kernel, by decide +kernel, by decide +kernel, by decide +kernel⟩

theorem witness_StreamsPeersAndSwapsMove_9 : ∃ (s : State) (k : Nat),
    (s.alive = true) ∧ (s.str.leaveAt = some k) ∧ (k ≤ s.toBoundary.gridTick) :=
  ⟨({ run with str := { run.str with leaveAt := some 1, ports := [(3, { oldGroups := [7] })] } }), 1, by decide +kernel,
    by decide +kernel, by decide +kernel⟩

theorem witness_GraphsBurinsAndTheReamAct_0 : ∃ (s : State) (w : SwapPend),
    (s.alive = true) ∧ (s.dsp.swap = some w) ∧ (w.tick ≤ s.toBoundary.gridTick) ∧ (s.gBank ≤ 1) :=
  ⟨({ (run.setF (F.GRT_CTL_SWAP) 1) with dsp := { run.dsp with swap := some { tick := 1, origin := { code := 2 } } } }),
    ({ tick := 1, origin := { code := 2 } }), by decide +kernel, by decide +kernel, by decide +kernel, by decide +kernel⟩

theorem witness_GraphsBurinsAndTheReamAct_1 : ∃ (s : State),
    (s.alive = true) ∧ (s.dsp.params ≠ []) ∧ (∀ p ∈ s.dsp.params, p.tick ≤ s.toBoundary.gridTick) :=
  ⟨({ run with dsp := { run.dsp with img := [(0, gainImg)], flag := [0], params := [{ tick := 1, graph := 0, node := 0, off := 32, data := [0, 1] }] } }),
    by decide +kernel, by decide +kernel, by decide +kernel⟩

theorem witness_GraphsBurinsAndTheReamAct_2 : ∃ (s : State) (b : Fin 64) (c : Nat) (id : Nat) (i : Nat) (r : Release),
    (s.alive = true) ∧ (s.job b = some (.sheet id i)) ∧ (s.rel id = some r) :=
  ⟨({ run with dsp := { run.dsp with rels := [{ id := 5, owner := 0, tick := 0, comp := { sheets := [{ slices := [], cost := 70 }] }, sheets := [{ home := 63, st := 1 }] }], busy := [(63, .sheet 5 0)], busyD := [(63, 30)] } }),
    63, 1000, 5, 0,
    ({ id := 5, owner := 0, tick := 0, comp := { sheets := [{ slices := [], cost := 70 }] }, sheets := [{ home := 63, st := 1 }] }),
    by decide +kernel, by decide +kernel, by decide +kernel⟩

theorem witness_GraphsBurinsAndTheReamAct_3 : ∃ (s : State) (b : Fin 64) (c : Nat) (k : Nat) (pct : Option Nat),
    (s.alive = true) ∧ (s.job b = some (.backing k)) :=
  ⟨({ run with dsp := { run.dsp with busy := [(63, .backing 2)] } }), 63, 1000, 2, none, by decide +kernel, by decide +kernel⟩

theorem witness_GraphsBurinsAndTheReamAct_4 : ∃ (s : State) (b : Fin 64) (c : Nat),
    (s.alive = true) ∧ (s.job b = none) ∧ (s.burinRuns b = true) :=
  ⟨run, 63, 1000, by decide +kernel, by decide +kernel, by decide +kernel⟩

theorem witness_GraphsBurinsAndTheReamAct_5 : ∃ (s : State),
    (s.alive = true) ∧ ((s.dsp.rels.map (·.id)).Nodup) ∧
    (∀ r ∈ s.dsp.rels, r.comp.cc = none → r.tick + 4 ≤ s.toBoundary.gridTick) :=
  ⟨({ run with dsp := { run.dsp with rels := [{ id := 5, owner := 0, tick := 0, comp := { cc := some 3 } }] } }),
    by decide +kernel, by decide +kernel, by decide +kernel⟩

theorem witness_GraphsBurinsAndTheReamAct_6 : ∃ (s : State) (f : Fin 4) (b : Nat),
    (s.alive = true) ∧ (b < 64) ∧
    (s.pair.test.head? = some b ∨ (s.pair.test = [] ∧ ((List.range 64).map (fun i => (s.dsp.testNext + i) % 64)).find? s.burinRuns = some b)) :=
  ⟨({ run with dsp := { run.dsp with testNext := 63 } }), 2, 63, by decide +kernel, by decide +kernel, by decide +kernel⟩

theorem witness_GraphsBurinsAndTheReamAct_7 : ∃ (s : State) (code : Fin 8) (mult : Fin 3) (derate : Bool),
    (s.alive = true) :=
  ⟨run, 7, 2, true, by decide +kernel⟩

theorem witness_GraphsBurinsAndTheReamAct_8 : ∃ (s : State),
    (s.alive = true) ∧ (s.getF F.MEM_DDR_CTL_RETRAIN_INT ≠ 0 ∨ s.getF F.MEM_DDR_CTL_TEMP_DELTA ≠ 3) ∧
    (s.on F.MEM_STATUS_SELF_REFRESH = false) ∧ (s.powerSt = 3) :=
  ⟨((run.setF (F.PWR_STATUS_STATE) 3)), by decide +kernel, by decide +kernel, by decide +kernel, by decide +kernel⟩

theorem witness_GraphsBurinsAndTheReamAct_9 : ∃ (s : State) (m : List Nat) (w : Bool),
    (s.alive = true) ∧ (s.mem.live = true) :=
  ⟨({ run with mem := { run.mem with live := true } }), ([25, 30, 300, 26]), false, by decide +kernel, by decide +kernel⟩

theorem witness_GraphsBurinsAndTheReamAct_10 : ∃ (s : State) (bad : Nat),
    (s.alive = true) ∧ (s.getF F.RM_CTL_SCRUB_INT ≠ 3) :=
  ⟨run, 2, by decide +kernel, by decide +kernel⟩

theorem witness_GraphsBurinsAndTheReamAct_11 : ∃ (s : State),
    (s.alive = true) ∧ (s.on F.MEM_STATUS_PHY_LOCK = true) :=
  ⟨((run.setF (F.MEM_STATUS_PHY_LOCK) 1)), by decide +kernel, by decide +kernel⟩

theorem witness_GraphsBurinsAndTheReamAct_12 : ∃ (s : State),
    (s.alive = true) ∧ (s.powerSt = 3) ∧ (s.on F.MEM_STATUS_PHY_LOCK = false) ∧ (s.on F.MEM_STATUS_SELF_REFRESH = false) :=
  ⟨(((run.setF (F.PWR_STATUS_STATE) 3).setF (F.MEM_STATUS_PHY_LOCK) 0)), by decide +kernel, by decide +kernel, by decide +kernel,
    by decide +kernel⟩

theorem witness_GraphsBurinsAndTheReamAct_13 : ∃ (s : State) (a : Nat) (p : Nat) (k : Nat),
    (s.alive = true) :=
  ⟨run, 5, 201, 3, by decide +kernel⟩

theorem witness_TdmAndPdmPortsAct_0 : ∃ (s : State) (p : Fin 16) (f : TdmFrame),
    (s.alive = true) ∧ (s.on (F.TDM_CTL_EN p) = true) ∧ (s.on (F.TDM_STATUS_CLK_OK p) = true) ∧
    (∀ k, (s.tdm p).startTick = some k → k ≤ s.gridTick) ∧ ((s.tdm p).startTick = none → s.on (F.TDM_CTL_MASTER p) = false) ∧
    (s.on (F.TDM_CTL_MASTER p) = true ∨ ((f.khz : Int) - s.tdmBclk p).natAbs * 100 ≤ s.tdmBclk p) :=
  ⟨({ (((((run.setF (F.TDM_CTL_EN 15) 1).setF (F.TDM_CTL_MASTER 15) 1).setF (F.TDM_STATUS_CLK_OK 15) 1).setF (F.TDM_CTL_SWAP 15) 1).setF (F.TDM_FRAME_CNT 15) (2 ^ 32 - 1)) with loc := { run.loc with tdm := [(15, { startTick := some 0, first := true, swap := some { code := 2 } })] } }),
    15, ({ slots := [], bclks := 256, khz := 12288 }), by decide +kernel, by decide +kernel, by decide +kernel,
    tick_of (by decide +kernel), by decide +kernel, by decide +kernel⟩

theorem witness_TdmAndPdmPortsAct_1 : ∃ (s : State) (p : Fin 16) (c : Fin 16),
    (s.alive = true) ∧ (s.on (F.TDM_CTL_MASTER p) = false) ∧ (s.on (F.TDM_STATUS_CLK_OK p) = true) :=
  ⟨(((run.setF (F.TDM_CTL_EN 15) 1).setF (F.TDM_STATUS_CLK_OK 15) 1)), 15, 2, by decide +kernel, by decide +kernel,
    by decide +kernel⟩

theorem witness_TdmAndPdmPortsAct_2 : ∃ (s : State) (p : Fin 16) (out : Bool) (i : Fin 32),
    (s.alive = true) ∧ ((s.zc (zcTdm p (b2n out) i)).wait ≠ 0) :=
  ⟨({ run with loc := { run.loc with zc := [(zcTdm 15 1 31, { on := true, wait := 4 })] } }), 15, true, 31, by decide +kernel,
    by decide +kernel⟩

theorem witness_TdmAndPdmPortsAct_3 : ∃ (s : State) (m : Fin 8),
    (s.alive = true) ∧ (s.on (F.PDM_CTL_EN m) = true) ∧ (s.on (F.PDM_STATUS_CLK_OK m) = true) :=
  ⟨(((run.setF (F.PDM_CTL_EN 7) 1).setF (F.PDM_STATUS_CLK_OK 7) 1)), 7, by decide +kernel, by decide +kernel, by decide +kernel⟩

theorem witness_TdmAndPdmPortsAct_4 : ∃ (s : State) (m : Fin 8),
    (s.alive = true) ∧ (s.on (F.PDM_CTL_EN m) = true) ∧ (s.on (F.PDM_STATUS_CLK_OK m) = false) ∧ (s.pllOk = true) :=
  ⟨(((run.setF (F.PDM_CTL_EN 7) 1).setF (F.LOOP_STATUS_PLL_LOCK) 1)), 7, by decide +kernel, by decide +kernel, by decide +kernel,
    by decide +kernel⟩

theorem witness_TdmAndPdmPortsAct_5 : ∃ (s : State) (m : Fin 8) (e : Fin 2) (lv : Bool),
    (s.alive = true) ∧ (s.on (F.PDM_CTL_EN m) = true) ∧ (bitOf (s.getF (F.PDM_STATUS_STUCK m)) e = false) :=
  ⟨((run.setF (F.PDM_CTL_EN 7) 1)), 7, 1, true, by decide +kernel, by decide +kernel, by decide +kernel⟩

theorem witness_TdmAndPdmPortsAct_6 : ∃ (s : State) (m : Fin 8) (e : Fin 2),
    (s.alive = true) :=
  ⟨((run.setF (F.PDM_STATUS_STUCK 7) 3)), 7, 1, by decide +kernel⟩

theorem witness_TdmAndPdmPortsAct_7 : ∃ (s : State) (m : Fin 8) (e : Fin 2),
    (s.alive = true) ∧ ((s.zc (zcPdm (2 * m + e))).wait ≠ 0) :=
  ⟨({ run with loc := { run.loc with zc := [(zcPdm 15, { on := true, wait := 4 })] } }), 7, 1, by decide +kernel, by decide +kernel⟩

theorem witness_AmplifierChannelsProtectAndTest_0 : ∃ (s : State) (x : Fin 8) (tr : TripIn) (y : Nat),
    (s.alive = true) ∧ (s.proofDrives x = false) ∧ (y = s.ampHead x) ∧ (s.amp.offline.contains y = false) ∧
    (s.ampSt y = aSTARTING ∨ s.ampSt y = aRUN ∨ s.ampSt y = aSTOPPING) :=
  ⟨({ (run.setF (F.AMP_STATUS_STATE 7) aRUN) with amp := { run.amp with ch := [(7, { gates := true })] } }), 7,
    ({ kind := 2, vp := 0, vn := 0, cur := 0 }),
    ((({ (run.setF (F.AMP_STATUS_STATE 7) aRUN) with amp := { run.amp with ch := [(7, { gates := true })] } } : State).ampHead (7 : Fin 8))),
    by decide +kernel, by decide +kernel, rfl, by decide +kernel, by decide +kernel⟩

theorem witness_AmplifierChannelsProtectAndTest_1 : ∃ (s : State) (x : Fin 8) (tr : TripIn),
    (s.alive = true) ∧ (s.proofDrives x = false) ∧ (s.ampHead x = x.val) ∧ (s.amp.offline.contains x.val = true) :=
  ⟨({ run with amp := { run.amp with offline := [6, 7] } }), 7, ({ kind := 0, vp := 0, vn := 0, cur := 100 }), by decide +kernel,
    by decide +kernel, by decide +kernel, by decide +kernel⟩

theorem witness_AmplifierChannelsProtectAndTest_2 : ∃ (s : State) (x : Fin 8),
    (s.alive = true) ∧ (s.ampSt x = aSTARTING) ∧ ((s.ampCh x).boot = false) :=
  ⟨((run.setF (F.AMP_STATUS_STATE 7) aSTARTING)), 7, by decide +kernel, by decide +kernel, by decide +kernel⟩

theorem witness_AmplifierChannelsProtectAndTest_3 : ∃ (s : State) (x : Fin 8),
    (s.alive = true) ∧ (s.ampSt x = aSTOPPING) ∧ ((s.zc (zcAmp x)).on = false) :=
  ⟨((run.setF (F.AMP_STATUS_STATE 7) aSTOPPING)), 7, by decide +kernel, by decide +kernel, by decide +kernel⟩

theorem witness_AmplifierChannelsProtectAndTest_4 : ∃ (s : State) (x : Fin 8),
    (s.alive = true) ∧ ((s.zc (zcAmp x)).wait ≠ 0) :=
  ⟨({ run with loc := { run.loc with zc := [(zcAmp 7, { on := true, wait := 4 })] } }), 7, by decide +kernel, by decide +kernel⟩

theorem witness_AmplifierChannelsProtectAndTest_5 : ∃ (s : State) (x : Fin 8),
    (s.alive = true) ∧ (s.ampSt x = aFAULT) :=
  ⟨(((run.setF (F.AMP_STATUS_STATE 7) aFAULT).setF (F.AMP_STATUS_CLASS 7) 4)), 7, by decide +kernel, by decide +kernel⟩

theorem witness_AmplifierChannelsProtectAndTest_6 : ∃ (s : State) (x : Fin 8) (r : Nat) (near : Bool) (acted : Bool),
    (s.alive = true) ∧ (s.ampSt x = aPROBE) :=
  ⟨((run.setF (F.AMP_STATUS_STATE 7) aPROBE)), 7, 100, true, false, by decide +kernel, by decide +kernel⟩

theorem witness_AmplifierChannelsProtectAndTest_7 : ∃ (s : State) (x : Fin 8),
    (s.alive = true) ∧ (s.ampSt x = aRUN) ∧ ((s.ampCh x).fresh = false) :=
  ⟨({ (run.setF (F.AMP_STATUS_STATE 7) aRUN) with amp := { run.amp with ch := [(7, { fresh := false, backoff := 9 })] } }), 7,
    by decide +kernel, by decide +kernel, by decide +kernel⟩

theorem witness_AmplifierChannelsProtectAndTest_8 : ∃ (s : State) (c : Fin 11) (v : Int) (hi : Bool),
    (s.alive = true) ∧ (s.protOn c = false) :=
  ⟨run, 10, 5, true, by decide +kernel, by decide +kernel⟩

theorem witness_AmplifierChannelsProtectAndTest_9 : ∃ (s : State) (c : Fin 11) (v : Int),
    (s.alive = true) ∧ (s.protOn c = true) :=
  ⟨(((((run.setF (F.AMP_STATUS_STATE 7) aHOLD).setF (F.PROT_CTL_EN) 1).setF (F.PROT_STATUS_VGD) 1).setF (F.AMP_CTL_EN 7) 1)), 2,
    5, by decide +kernel, by decide +kernel⟩

theorem witness_AmplifierChannelsProtectAndTest_10 : ∃ (s : State) (x : Fin 8),
    (s.alive = true) ∧ (s.ampSt x = aCLKMUTE) ∧ ((s.ampCh x).resume = false) :=
  ⟨({ (run.setF (F.AMP_STATUS_STATE 7) aCLKMUTE) with amp := { run.amp with ch := [(7, { gates := true })] } }), 7,
    by decide +kernel, by decide +kernel, by decide +kernel⟩

theorem witness_AmplifierChannelsProtectAndTest_11 : ∃ (s : State) (x : Fin 8),
    (s.alive = true) ∧ (s.ampSt x = aCLKMUTE) ∧ (s.pllOk = true) ∧ ((s.ampCh x).bad = 0) ∧ ((s.ampCh x).resume = false) :=
  ⟨(((run.setF (F.AMP_STATUS_STATE 7) aCLKMUTE).setF (F.LOOP_STATUS_PLL_LOCK) 1)), 7, by decide +kernel, by decide +kernel,
    by decide +kernel, by decide +kernel, by decide +kernel⟩

theorem witness_AmplifierChannelsProtectAndTest_12 : ∃ (s : State) (x : Fin 8) (off : Int) (gain : Int),
    (s.alive = true) ∧ (s.ampSt x = aRUN) ∧ (s.on (F.AMP_CTL_CAL_EN x) = true) :=
  ⟨(((run.setF (F.AMP_STATUS_STATE 7) aRUN).setF (F.AMP_CTL_CAL_EN 7) 1)), 7, 300, -5, by decide +kernel, by decide +kernel,
    by decide +kernel⟩

theorem witness_AmplifierChannelsProtectAndTest_13 : ∃ (s : State) (r : List (Nat × DiagMeas)) (l : LongOp),
    (s.alive = true) ∧ (s.car.longOp = some l) ∧ (l.idx = 7) :=
  ⟨({ run with car := { run.car with longOp := some { idx := 7, req := { rq [] with opcode := 0x0810 } } }, amp := { run.amp with offline := [7] } }),
    ([(7, { rdc := 4000, z := [4, 4, 4, 4], arg := [0, 0, 0, 0] })]), ({ idx := 7, req := { rq [] with opcode := 0x0810 } }),
    by decide +kernel, by decide +kernel, by decide +kernel⟩

theorem witness_AmplifierChannelsProtectAndTest_14 : ∃ (s : State) (x : Fin 8),
    (s.alive = true) ∧ (1 ≤ s.getF F.DIAG_CTL_LIVE_INT) ∧ (s.getF F.DIAG_CTL_LIVE_INT ≤ 4) ∧ (KV.find s.amp.live x = none) :=
  ⟨({ (((run.setF (F.AMP_STATUS_STATE 7) aRUN).setF (F.DIAG_CTL_LIVE_INT) 4).setF (F.DIAG_CTL_EN) 1) with dsp := { run.dsp with img := [(0, pilotImg 7)], flag := [0] } }),
    7, by decide +kernel, by decide +kernel, by decide +kernel, by decide +kernel⟩

theorem witness_AmplifierChannelsProtectAndTest_15 : ∃ (s : State) (x : Fin 8) (z : Nat) (arg : Int) (rdc : Nat) (r : LiveRun),
    (s.alive = true) ∧ (KV.find s.amp.live x = some r) :=
  ⟨({ run with amp := { run.amp with live := [(7, { k := 2, z := [1, 2], arg := [3, 4] })] } }), 7, 9, 5, 4,
    ({ k := 2, z := [1, 2], arg := [3, 4] }), by decide +kernel, by decide +kernel⟩

theorem witness_AmplifierChannelsProtectAndTest_16 : ∃ (s : State) (x : Fin 8) (rdc : Nat) (r : LiveRun),
    (s.alive = true) ∧ (KV.find s.amp.live x = some r) ∧ (r.k < 3) :=
  ⟨({ run with amp := { run.amp with live := [(7, { k := 2, z := [1, 2], arg := [3, 4] })] } }), 7, 4,
    ({ k := 2, z := [1, 2], arg := [3, 4] }), by decide +kernel, by decide +kernel, by decide +kernel⟩

theorem witness_AmplifierChannelsProtectAndTest_17 : ∃ (s : State) (k : Fin 4) (v : Int),
    (s.alive = true) ∧ (s.on F.PROT_GATE_TSNS_IGNORE = false ∨ bitOf (s.getF F.PROT_STATUS_TSNS_FAULT) k = false) :=
  ⟨run, 3, 5000, by decide +kernel, by decide +kernel⟩

theorem witness_AmplifierChannelsProtectAndTest_18 : ∃ (s : State) (x : Fin 8) (y : Nat),
    (s.alive = true) ∧ (y = s.ampHead x) ∧ (ampSwitches (s.ampSt y) = true) :=
  ⟨((run.setF (F.AMP_STATUS_STATE 7) aRUN)), 7, ((((run.setF (F.AMP_STATUS_STATE 7) aRUN) : State).ampHead (7 : Fin 8))),
    by decide +kernel, rfl, by decide +kernel⟩

theorem witness_ThePairFollowsItsLink_0 : ∃ (s : State) (h : Heartbeat),
    (s.alive = true) ∧ (s.on F.LINK_CTL_EN = true) ∧ (s.powerSt = 3) :=
  ⟨(((((run.setF (F.LINK_CTL_EN) 1).setF (F.LINK_STATUS_UP) 1).setF (F.PWR_STATUS_STATE) 3).setF (F.ROLE_STATUS_STATE) psREADY)),
    ({ st := 1, health := 2, dev := 65535, macs := [1, 2] }), by decide +kernel, by decide +kernel, by decide +kernel⟩

theorem witness_ThePairFollowsItsLink_1 : ∃ (s : State),
    (s.alive = true) ∧ (s.on F.LINK_CTL_EN = true) ∧ (s.powerSt = 3) :=
  ⟨(((((run.setF (F.LINK_CTL_EN) 1).setF (F.LINK_STATUS_UP) 1).setF (F.PWR_STATUS_STATE) 3).setF (F.ROLE_STATUS_STATE) psACTIVE)),
    by decide +kernel, by decide +kernel, by decide +kernel⟩

theorem witness_ThePairFollowsItsLink_2 : ∃ (s : State),
    (s.alive = true) ∧ (s.pair.timing = true) ∧ (s.lowering = false) :=
  ⟨({ ((((run.setF (F.LINK_CTL_EN) 1).setF (F.LINK_STATUS_UP) 1).setF (F.PWR_STATUS_STATE) 3).setF (F.ROLE_STATUS_STATE) psSYNC) with pair := { run.pair with timing := true } }),
    by decide +kernel, by decide +kernel, by decide +kernel⟩

theorem witness_ThePairFollowsItsLink_3 : ∃ (s : State),
    (s.alive = true) ∧ (s.on F.LINK_STATUS_LOCK = true) :=
  ⟨((((((run.setF (F.LINK_CTL_EN) 1).setF (F.LINK_STATUS_UP) 1).setF (F.PWR_STATUS_STATE) 3).setF (F.LINK_STATUS_LOCK) 1).setF (F.ROLE_STATUS_STATE) psACTIVE)),
    by decide +kernel, by decide +kernel⟩

theorem witness_ThePairFollowsItsLink_4 : ∃ (s : State) (seq : Nat) (addr : Nat) (data : Nat) (tick : Nat) (priv : Bool),
    (s.alive = true) ∧ (s.pairLinkUp = true) ∧ (s.isStandby = true) ∧ (s.gridTick < tick) :=
  ⟨(((((run.setF (F.LINK_CTL_EN) 1).setF (F.LINK_STATUS_UP) 1).setF (F.PWR_STATUS_STATE) 3).setF (F.ROLE_STATUS_STATE) psSYNC)),
    7, F.RXT_CTL_EN.addr, (maskData 1 1), 1, false, by decide +kernel, by decide +kernel, by decide +kernel, by decide +kernel⟩

theorem witness_ThePairFollowsItsLink_5 : ∃ (s : State) (t' : State) (seq : Nat) (op : Nat) (crc : Nat) (params : List Byte) (l : List Byte) (priv : Bool) (at_ : Tai) (trg : Option Nat) (log : Option Nat) (o : Origin),
    (s.alive = true) ∧ (s.pairLinkUp = true) ∧ (s.isStandby = true) ∧ (op ≠ 0x0110) ∧ (s.now.units ≤ at_.units) ∧
    (o = { code := 8, priv := priv, id := s.partnerId }) ∧
    (opCore {} { carrier := .mailbox, origin := o, opcode := op, params := params, noreply := true, crc := crc } (s.fresh.setPairD { s.pair with mirSeq := seq, reqAt := some at_.units }) = .done t' l log) :=
  ⟨(((((run.setF (F.LINK_CTL_EN) 1).setF (F.LINK_STATUS_UP) 1).setF (F.PWR_STATUS_STATE) 3).setF (F.ROLE_STATUS_STATE) psSYNC)),
    ((doneOf (opCore {} { carrier := .mailbox, origin := { code := 8, priv := true, id := State.partnerId ((((run.setF (F.LINK_CTL_EN) 1).setF (F.LINK_STATUS_UP) 1).setF (F.PWR_STATUS_STATE) 3).setF (F.ROLE_STATUS_STATE) psSYNC) }, opcode := 0x0404, params := (rq (le 4 0x04000005)).params, noreply := true, crc := 9 } ((((((run.setF (F.LINK_CTL_EN) 1).setF (F.LINK_STATUS_UP) 1).setF (F.PWR_STATUS_STATE) 3).setF (F.ROLE_STATUS_STATE) psSYNC) : State).fresh.setPairD { (((((run.setF (F.LINK_CTL_EN) 1).setF (F.LINK_STATUS_UP) 1).setF (F.PWR_STATUS_STATE) 3).setF (F.ROLE_STATUS_STATE) psSYNC) : State).pair with mirSeq := 7, reqAt := some 0 }))).1),
    7, 0x0404, 9, ((rq (le 4 0x04000005)).params),
    ((doneOf (opCore {} { carrier := .mailbox, origin := { code := 8, priv := true, id := State.partnerId ((((run.setF (F.LINK_CTL_EN) 1).setF (F.LINK_STATUS_UP) 1).setF (F.PWR_STATUS_STATE) 3).setF (F.ROLE_STATUS_STATE) psSYNC) }, opcode := 0x0404, params := (rq (le 4 0x04000005)).params, noreply := true, crc := 9 } ((((((run.setF (F.LINK_CTL_EN) 1).setF (F.LINK_STATUS_UP) 1).setF (F.PWR_STATUS_STATE) 3).setF (F.ROLE_STATUS_STATE) psSYNC) : State).fresh.setPairD { (((((run.setF (F.LINK_CTL_EN) 1).setF (F.LINK_STATUS_UP) 1).setF (F.PWR_STATUS_STATE) 3).setF (F.ROLE_STATUS_STATE) psSYNC) : State).pair with mirSeq := 7, reqAt := some 0 }))).2.1),
    true, {}, none,
    ((doneOf (opCore {} { carrier := .mailbox, origin := { code := 8, priv := true, id := State.partnerId ((((run.setF (F.LINK_CTL_EN) 1).setF (F.LINK_STATUS_UP) 1).setF (F.PWR_STATUS_STATE) 3).setF (F.ROLE_STATUS_STATE) psSYNC) }, opcode := 0x0404, params := (rq (le 4 0x04000005)).params, noreply := true, crc := 9 } ((((((run.setF (F.LINK_CTL_EN) 1).setF (F.LINK_STATUS_UP) 1).setF (F.PWR_STATUS_STATE) 3).setF (F.ROLE_STATUS_STATE) psSYNC) : State).fresh.setPairD { (((((run.setF (F.LINK_CTL_EN) 1).setF (F.LINK_STATUS_UP) 1).setF (F.PWR_STATUS_STATE) 3).setF (F.ROLE_STATUS_STATE) psSYNC) : State).pair with mirSeq := 7, reqAt := some 0 }))).2.2),
    ({ code := 8, priv := true, id := State.partnerId ((((run.setF (F.LINK_CTL_EN) 1).setF (F.LINK_STATUS_UP) 1).setF (F.PWR_STATUS_STATE) 3).setF (F.ROLE_STATUS_STATE) psSYNC) }),
    by decide +kernel, by decide +kernel, by decide +kernel, by decide +kernel, by decide +kernel, rfl,
    done_of (by decide +kernel)⟩

theorem witness_ThePairFollowsItsLink_6 : ∃ (s : State) (seq : Nat) (r : MirrorRec),
    (s.alive = true) ∧ (s.pairLinkUp = true) ∧ (s.isStandby = false) ∧ (s.pair.stage.isSome = true) :=
  ⟨({ ((((run.setF (F.LINK_CTL_EN) 1).setF (F.LINK_STATUS_UP) 1).setF (F.PWR_STATUS_STATE) 3).setF (F.ROLE_STATUS_STATE) psCLONING) with pair := { run.pair with cloning := true, stage := some {} } }),
    7, (.seq 5 3), by decide +kernel, by decide +kernel, by decide +kernel, by decide +kernel⟩

theorem witness_ThePairFollowsItsLink_7 : ∃ (s : State) (x : ShareIn),
    (s.alive = true) ∧ (s.pairSt = psSYNC ∨ s.pairSt = psREADY) ∧ (s.pairLinkUp = true) :=
  ⟨(((((run.setF (F.LINK_CTL_EN) 1).setF (F.LINK_STATUS_UP) 1).setF (F.PWR_STATUS_STATE) 3).setF (F.ROLE_STATUS_STATE) psREADY)),
    ({ tick := 5 }), by decide +kernel, by decide +kernel, by decide +kernel⟩

theorem witness_ThePairFollowsItsLink_8 : ∃ (s : State) (k : Nat),
    (s.alive = true) ∧ (s.str.lastTick = some k) ∧ (15 ≤ k) ∧ (s.on F.DIG_CTL_EN = true) ∧ (s.pairLinkUp = true) ∧
    (psSYNC ≤ s.pairSt) ∧ (∀ j < 16, (KV.find s.pair.win (16 * ((k + 1) / 16 - 1) + j)).isSome = true) ∧
    (∀ x ∈ s.pair.own, x.1 ≠ (k + 1) / 16 - 1) :=
  ⟨({ (((((run.setF (F.LINK_CTL_EN) 1).setF (F.LINK_STATUS_UP) 1).setF (F.PWR_STATUS_STATE) 3).setF (F.ROLE_STATUS_STATE) psREADY).setF (F.DIG_CTL_EN) 1) with str := { run.str with lastTick := some 15 }, pair := { run.pair with win := (List.range 16).map (fun j => (j, [])) } }),
    15, by decide +kernel, by decide +kernel, by decide +kernel, by decide +kernel, by decide +kernel, by decide +kernel,
    by decide +kernel, by decide +kernel⟩

theorem witness_ThePairFollowsItsLink_9 : ∃ (s : State) (w : Nat) (ds : List Nat) (own : List Nat) (fl : Bool) (fo : Bool),
    (s.alive = true) ∧ (s.pairLinkUp = true) ∧ (s.on F.DIG_CTL_EN = true) ∧ (psSYNC ≤ s.pairSt) ∧
    (s.pair.own.find? (fun x => x.1 == w) = some (w, own, fo)) :=
  ⟨({ (((((run.setF (F.LINK_CTL_EN) 1).setF (F.LINK_STATUS_UP) 1).setF (F.PWR_STATUS_STATE) 3).setF (F.ROLE_STATUS_STATE) psREADY).setF (F.DIG_CTL_EN) 1) with pair := { run.pair with own := [(3, [1, 2, 3, 4], false)] } }),
    3, ([1, 2, 3, 4]), ([1, 2, 3, 4]), false, false, by decide +kernel, by decide +kernel, by decide +kernel, by decide +kernel,
    by decide +kernel⟩

theorem witness_ThePairFollowsItsLink_10 : ∃ (s : State),
    (s.alive = true) ∧ (s.pairLinkUp = true) :=
  ⟨(((((run.setF (F.LINK_CTL_EN) 1).setF (F.LINK_STATUS_UP) 1).setF (F.PWR_STATUS_STATE) 3).setF (F.ROLE_STATUS_STATE) psREADY)),
    by decide +kernel, by decide +kernel⟩

theorem witness_ThePairFollowsItsLink_11 : ∃ (s : State) (b : List Byte),
    (s.alive = true) ∧ (s.pairLinkUp = true) :=
  ⟨(((((run.setF (F.LINK_CTL_EN) 1).setF (F.LINK_STATUS_UP) 1).setF (F.PWR_STATUS_STATE) 3).setF (F.ROLE_STATUS_STATE) psREADY)),
    [1], by decide +kernel, by decide +kernel⟩

theorem witness_ThePairFollowsItsLink_12 : ∃ (s : State) (e : Fin 512) (n : Nat) (room : Nat) (u : Int) (p : MediaPkt),
    (s.alive = true) ∧ (s.getF F.ROLE_CTL_REPAIR_MAX ≠ 0) ∧ (0 < room) ∧
    ((s.rxRun e).hist.find? (fun h => h.2.seq == n % 65536 && decide (s.now.units - h.1 ≤ 1310720000000)) = some (u, p)) :=
  ⟨({ ((((run.setF (F.LINK_CTL_EN) 1).setF (F.LINK_STATUS_UP) 1).setF (F.PWR_STATUS_STATE) 3).setF (F.ROLE_CTL_REPAIR_MAX) 2) with str := { run.str with rx := [(511, { hist := [(0, { seq := 0, ts := 5, payload := [1] })] })] } }),
    511, 65536, 1, 0, ({ seq := 0, ts := 5, payload := [1] }), by decide +kernel, by decide +kernel, by decide +kernel,
    by decide +kernel⟩

theorem witness_ThePairFollowsItsLink_13 : ∃ (s : State) (e : Fin 512) (n : Nat) (room : Nat),
    (s.alive = true) ∧
    ((s.rxRun e).hist.find? (fun h => h.2.seq == n % 65536 && decide (s.now.units - h.1 ≤ 1310720000000)) = none) :=
  ⟨run, 511, 65536, 1, by decide +kernel, by decide +kernel⟩

theorem witness_ThePairFollowsItsLink_14 : ∃ (s : State),
    (s.alive = true) :=
  ⟨((((((run.setF (F.LINK_CTL_EN) 1).setF (F.LINK_STATUS_UP) 1).setF (F.PWR_STATUS_STATE) 3).setF (F.ROLE_STATUS_STATE) psREADY).setF (F.ROLE_CTL_TAKE_PIN_EN) 1)),
    by decide +kernel⟩

theorem witness_ThePairFollowsItsLink_15 : ∃ (s : State),
    (s.alive = true) :=
  ⟨(((((run.setF (F.LINK_CTL_EN) 1).setF (F.LINK_STATUS_UP) 1).setF (F.PWR_STATUS_STATE) 3).setF (F.ROLE_STATUS_TAKE_IN) 1)),
    by decide +kernel⟩

theorem witness_ThePairFollowsItsLink_16 : ∃ (s : State) (k : Nat) (c : Nat),
    (s.alive = true) ∧ (s.pair.hand = some (k, c)) ∧ (k ≤ s.toBoundary.gridTick) ∧ (s.lowering = false) :=
  ⟨({ ((((run.setF (F.LINK_CTL_EN) 1).setF (F.LINK_STATUS_UP) 1).setF (F.PWR_STATUS_STATE) 3).setF (F.ROLE_STATUS_STATE) psACTIVE) with pair := { run.pair with hand := some (1, 5), pState := psREADY } }),
    1, 5, by decide +kernel, by decide +kernel, by decide +kernel, by decide +kernel⟩

theorem witness_ClonesStageApplyAndFail_0 : ∃ (s : State) (u : State) (c : CloneIn),
    (s.alive = true) ∧ (s.pairSt = psCLONING) ∧ (s.pair.cloning = true) ∧ (s.pair.stage = none) ∧
    (u = ((s.fresh.loadTimebase c.time.bits).restartAverages 0).restartAverages 1) :=
  ⟨({ ((((run.setF (F.LINK_CTL_EN) 1).setF (F.LINK_STATUS_UP) 1).setF (F.PWR_STATUS_STATE) 3).setF (F.ROLE_STATUS_STATE) psCLONING) with pair := { run.pair with cloning := true } }),
    (((({ ((((run.setF (F.LINK_CTL_EN) 1).setF (F.LINK_STATUS_UP) 1).setF (F.PWR_STATUS_STATE) 3).setF (F.ROLE_STATUS_STATE) psCLONING) with pair := { run.pair with cloning := true } } : State).fresh.loadTimebase ({ tc := 5 } : CloneIn).time.bits).restartAverages 0).restartAverages 1),
    ({ tc := 5 }), by decide +kernel, by decide +kernel, by decide +kernel, by decide +kernel, rfl⟩

theorem witness_ClonesStageApplyAndFail_1 : ∃ (s : State) (c : CloneIn),
    (s.alive = true) ∧ (s.pairSt = psCLONING) ∧ (s.pair.stage = some c) ∧ (c.tc ≤ s.toBoundary.gridTick) ∧ (s.pair.stageQ = []) :=
  ⟨({ ((((run.setF (F.LINK_CTL_EN) 1).setF (F.LINK_STATUS_UP) 1).setF (F.PWR_STATUS_STATE) 3).setF (F.ROLE_STATUS_STATE) psCLONING) with pair := { run.pair with cloning := true, stage := some {} } }),
    {}, by decide +kernel, by decide +kernel, by decide +kernel, by decide +kernel, by decide +kernel⟩

theorem witness_ClonesStageApplyAndFail_2 : ∃ (s : State),
    (s.alive = true) ∧ (s.pair.cloning = true) :=
  ⟨({ ((((run.setF (F.LINK_CTL_EN) 1).setF (F.LINK_STATUS_UP) 1).setF (F.PWR_STATUS_STATE) 3).setF (F.ROLE_STATUS_STATE) psCLONING) with pair := { run.pair with cloning := true }, car := { run.car with longOp := some { idx := 9, req := rq [] } } }),
    by decide +kernel, by decide +kernel⟩

theorem witness_ClonesStageApplyAndFail_3 : ∃ (s : State),
    (s.alive = true) ∧ (s.pairSt = psCLONING) ∧ (s.pair.cloning = false) ∧ (s.pairLinkUp = true) ∧ (s.car.longOp = none) :=
  ⟨(((((run.setF (F.LINK_CTL_EN) 1).setF (F.LINK_STATUS_UP) 1).setF (F.PWR_STATUS_STATE) 3).setF (F.ROLE_STATUS_STATE) psCLONING)),
    by decide +kernel, by decide +kernel, by decide +kernel, by decide +kernel, by decide +kernel⟩

theorem witness_MonitorsAndTheCalenderAct_0 : ∃ (s : State) (deg : List Int),
    (s.alive = true) ∧ (2 ≤ s.powerSt) ∧ (deg ≠ []) :=
  ⟨run, ([10, -3, 2]), by decide +kernel, by decide +kernel, by decide +kernel⟩

theorem witness_MonitorsAndTheCalenderAct_1 : ∃ (s : State) (sl : Int) (sens : Nat) (ack : Bool),
    (s.alive = true) ∧ (2 ≤ s.powerSt) :=
  ⟨({ run with hlt := { run.hlt with vcore := 840 } }), 29, 5, true, by decide +kernel, by decide +kernel⟩

theorem witness_MonitorsAndTheCalenderAct_2 : ∃ (s : State) (l : List Int),
    (s.alive = true) ∧ (2 ≤ s.powerSt) :=
  ⟨run, ([1101, 3]), by decide +kernel, by decide +kernel⟩

theorem witness_MonitorsAndTheCalenderAct_3 : ∃ (s : State) (d : DayIn),
    (s.alive = true) ∧ (2 ≤ s.powerSt) :=
  ⟨run, {}, by decide +kernel, by decide +kernel⟩

theorem witness_MonitorsAndTheCalenderAct_4 : ∃ (s : State),
    (s.alive = true) ∧ (s.calMayRun = true) ∧ (s.calPeriod.isSome = true) :=
  ⟨((((run.setF (F.CAL_CTL_EN) 1).setF (F.CAL_CTL_PERIOD) 1).setF (F.CAL_STATUS_RUNNING) 1)), by decide +kernel,
    by decide +kernel, by decide +kernel⟩

theorem witness_MonitorsAndTheCalenderAct_5 : ∃ (s : State),
    (s.alive = true) ∧ (s.on F.CAL_STATUS_RUNNING = true) :=
  ⟨((run.setF (F.CAL_STATUS_RUNNING) 1)), by decide +kernel, by decide +kernel⟩

theorem witness_MonitorsAndTheCalenderAct_6 : ∃ (s : State),
    (s.alive = true) ∧ (2 ≤ s.powerSt) ∧ (s.pins.pfwLow = false) :=
  ⟨run, by decide +kernel, by decide +kernel, by decide +kernel⟩

theorem witness_MonitorsAndTheCalenderAct_7 : ∃ (s : State) (m : Nat),
    (s.alive = true) ∧ (s.hlt.refreshing = true) :=
  ⟨({ run with hlt := { run.hlt with refreshing := true } }), 300, by decide +kernel, by decide +kernel⟩

theorem witness_MonitorsAndTheCalenderAct_8 : ∃ (s : State) (e : List Nat),
    (s.alive = true) ∧ (2 ≤ s.powerSt) ∧ (5 ≤ e.length) :=
  ⟨run, ([24, 25, 26, 27, 24]), by decide +kernel, by decide +kernel, by decide +kernel⟩

theorem witness_PowerStatesResetsAndStarts_0 : ∃ (s : State),
    (s.pwr.boot = 5) ∧ (s.lowering = true) ∧ (s.pwr.stopped = true) ∧ (s.pair.hand = none) ∧ (s.getF F.PWR_STATUS_TARGET < 3) ∧
    (s.getF F.PWR_STATUS_TARGET = 2 ∨ (s.log.commit = none ∧ (s.getF F.PWR_STATUS_TARGET = 0 ∨ s.on F.TB_STATUS_SET = false ∨ s.time.cyc = 0))) :=
  ⟨({ (((run.setF (F.PWR_STATUS_ENTERING) 1).setF (F.PWR_STATUS_TARGET) 2).setF (F.PWR_STATUS_STATE) 3) with pwr := { run.pwr with stopped := true } }),
    by decide +kernel, by decide +kernel, by decide +kernel, by decide +kernel, by decide +kernel, by decide +kernel⟩

theorem witness_PowerStatesResetsAndStarts_1 : ∃ (s : State) (src : List (Nat × Nat)) (n : Nat) (c : Nat) (l : List Nat),
    (s.pwr.boot = 5) ∧ (s.powerSt = 1) ∧ (s.on F.PWR_STATUS_ENTERING = false) ∧ ((s.aoTick n).wakeSources src = c :: l) :=
  ⟨((run.setF (F.PWR_STATUS_STATE) 1)), ([(1, 0)]), 1, 1, [], by decide +kernel, by decide +kernel, by decide +kernel,
    by decide +kernel⟩

theorem witness_PowerStatesResetsAndStarts_2 : ∃ (s : State),
    (s.pwr.boot = 5) ∧ (s.powerSt = 1) ∧ (s.on F.PWR_STATUS_ENTERING = true) :=
  ⟨({ (((run.setF (F.PWR_STATUS_STATE) 1).setF (F.PWR_STATUS_ENTERING) 1).setF (F.PWR_STATUS_TARGET) 2) with pwr := { run.pwr with wakeTo := 3 } }),
    by decide +kernel, by decide +kernel, by decide +kernel⟩

theorem witness_PowerStatesResetsAndStarts_3 : ∃ (s : State),
    (s.pwr.boot = 5) ∧ (s.powerSt = 2) ∧ (s.on F.PWR_STATUS_ENTERING = true) ∧ (s.getF F.PWR_STATUS_TARGET = 3) :=
  ⟨((((run.setF (F.PWR_STATUS_STATE) 2).setF (F.PWR_STATUS_ENTERING) 1).setF (F.PWR_STATUS_TARGET) 3)), by decide +kernel,
    by decide +kernel, by decide +kernel, by decide +kernel⟩

theorem witness_PowerStatesResetsAndStarts_5 : ∃ (s : State) (x : StepTwo),
    (s.pwr.boot ≠ 0) ∧ (s.pwr.boot ≠ 4) ∧ (s.pwr.boot = 5 → s.powerSt ≠ 0) :=
  ⟨run, ({ mv := [], refxo := 50000 }), by decide +kernel, by decide +kernel, by decide +kernel⟩

theorem witness_PowerStatesResetsAndStarts_6 : ∃ (s : State) (x : StepTwo),
    (s.pwr.resetDue = true) :=
  ⟨({ run with pwr := { run.pwr with resetDue := true } }), {}, by decide +kernel⟩

theorem witness_PowerStatesResetsAndStarts_7 : ∃ (s : State) (x : StepTwo),
    (s.pwr.boot = 4) :=
  ⟨({ run with pwr := { run.pwr with boot := 4 } }), {}, by decide +kernel⟩

theorem witness_PowerStatesResetsAndStarts_8 : ∃ (s : State) (x : StepTwo),
    (s.pwr.boot = 2) :=
  ⟨({ run with pwr := { run.pwr with boot := 2 } }), {}, by decide +kernel⟩

theorem witness_PowerStatesResetsAndStarts_9 : ∃ (s : State) (x : StepTwo),
    (s.pwr.boot = 3) :=
  ⟨({ run with pwr := { run.pwr with boot := 3 } }), {}, by decide +kernel⟩

theorem witness_PowerStatesResetsAndStarts_10 : ∃ (s : State) (c : ColdIn),
    (s.pwr.boot = 1) :=
  ⟨({ run with pwr := { run.pwr with boot := 1, cmdReady := false } }), ({ svcEn := true, ms := 70000 }), by decide +kernel⟩

theorem witness_PowerStatesResetsAndStarts_11 : ∃ (s : State),
    (s.pwr.boot = 1 ∨ s.alive = true) :=
  ⟨run, by decide +kernel⟩

theorem witness_PowerStatesResetsAndStarts_12 : ∃ (s : State),
    (s.pwr.boot ≠ 0) :=
  ⟨run, by decide +kernel⟩

theorem witness_PowerStatesResetsAndStarts_13 : ∃ (s : State),
    (s.pwr.boot ≠ 0) ∧ (s.on F.PWR_STATUS_XO32_OK = false) :=
  ⟨run, by decide +kernel, by decide +kernel⟩

theorem witness_PowerStatesResetsAndStarts_14 : ∃ (s : State),
    (s.on F.PWR_STATUS_XO32_OK = true) :=
  ⟨((run.setF (F.PWR_STATUS_XO32_OK) 1)), by decide +kernel⟩

theorem witness_PowerStatesResetsAndStarts_15 : ∃ (s : State),
    (s.alive = true) :=
  ⟨run, by decide +kernel⟩

theorem witness_SuppliesTheEndpointAndProofsAct_0 : ∃ (s : State) (mv : List Nat),
    (s.pwr.boot ≠ 0) ∧ (s.pwr.boot = 5 → s.powerSt ≠ 0) :=
  ⟨run, ([850, 1100, 600, 1800, 1800, 3300, 3300, 3300, 70000, 12000]), by decide +kernel, by decide +kernel⟩

theorem witness_SuppliesTheEndpointAndProofsAct_1 : ∃ (s : State),
    (s.alive = true) ∧ (s.on F.HST_STATUS_PERST = false) :=
  ⟨(((run.setF (F.HST_STATUS_PERST) 0).setF (F.RING_CFG_EN 31) 1)), by decide +kernel, by decide +kernel⟩

theorem witness_SuppliesTheEndpointAndProofsAct_2 : ∃ (s : State),
    (s.alive = true) ∧ (s.on F.HST_STATUS_PERST = true) :=
  ⟨((run.setF (F.HST_STATUS_PERST) 1)), by decide +kernel, by decide +kernel⟩

theorem witness_SuppliesTheEndpointAndProofsAct_3 : ∃ (s : State) (k : Fin 3) (r : ProofRun),
    (s.alive = true) ∧ (KV.find s.prf.run k = some r) ∧ (r.hold ≠ 3) :=
  ⟨({ run with prf := { run.prf with run := [(2, { g := 8, i := 2, a1 := 1, hold := 2 })] } }), 2,
    ({ g := 8, i := 2, a1 := 1, hold := 2 }), by decide +kernel, by decide +kernel, by decide +kernel⟩

theorem witness_SuppliesTheEndpointAndProofsAct_4 : ∃ (s : State) (pass : Bool) (v0 : Int) (v1 : Int) (r : ProofRun),
    (s.alive = true) ∧ (KV.find s.prf.run 2 = some r) ∧ (proofFixed r = true) :=
  ⟨({ run with prf := { run.prf with run := [(2, { g := 5, i := 1 })] } }), false, 3, 0, ({ g := 5, i := 1 }), by decide +kernel,
    by decide +kernel, by decide +kernel⟩

theorem witness_ReadRequestsTouchNothing : ∃ (q : Req),
    (∃ t : State, exec (.info q) State.reset = .next t) :=
  ⟨(rq []), ⟨_, rfl⟩⟩

theorem witness_SetAndActionRequestsTouchTheirTables : ∃ (q : Req) (v0 : Int) (v1 : Int) (a : Option Nat),
    (∃ t : State, exec (.sessionSet q) State.reset = .next t) ∧ (∃ t : State, exec (.memRetrain q) State.reset = .next t) ∧
    (∃ t : State, exec (.netPortSet q) State.reset = .next t) ∧ (∃ t : State, exec (.txEntryDisable q) State.reset = .next t) ∧
    (∃ t : State, exec (.graphHeaderSet q) State.reset = .next t) ∧ (∃ t : State, exec (.graphSwap q) State.reset = .next t) ∧
    (∃ t : State, exec (.trgDisarm q) State.reset = .next t) ∧ (∃ t : State, exec (.tsqRead q) State.reset = .next t) ∧
    (∃ t : State, exec (.align q) State.reset = .next t) ∧ (∃ t : State, exec (.mdioRead q a) State.reset = .next t) ∧
    (∃ t : State, exec (.pairTakeover q) State.reset = .next t) ∧ (∃ t : State, exec (.reset q) State.reset = .next t) ∧
    (∃ t : State, exec (.baselineReset q) State.reset = .next t) ∧ (∃ t : State, exec (.calenderRun q) State.reset = .next t) ∧
    (∃ t : State, exec (.calenderApprove q) State.reset = .next t) ∧
    (∃ t : State, exec (.proofStart q v0 v1) State.reset = .next t) :=
  ⟨(rq []), 0, 0, none, ⟨_, rfl⟩, ⟨_, rfl⟩, ⟨_, rfl⟩, ⟨_, rfl⟩, ⟨_, rfl⟩, ⟨_, rfl⟩, ⟨_, rfl⟩, ⟨_, rfl⟩, ⟨_, rfl⟩, ⟨_, rfl⟩,
    ⟨_, rfl⟩, ⟨_, rfl⟩, ⟨_, rfl⟩, ⟨_, rfl⟩, ⟨_, rfl⟩, ⟨_, rfl⟩⟩

theorem witness_CarrierAndReadAccessesTouchTheirBuffers : ∃ (b : Bool) (l : List Byte) (n : Nat) (q : Req),
    (∃ t : State, exec (.spiCommandFrame b l) State.reset = .next t) ∧ (∃ t : State, exec (.uartLine b l) State.reset = .next t) ∧
    (∃ t : State, exec (.uartLineTimeout) State.reset = .next t) ∧ (∃ t : State, exec (.spiReplyFetch n) State.reset = .next t) ∧
    (∃ t : State, exec (.uartEventLine) State.reset = .next t) ∧ (∃ t : State, exec (.regRead q) State.reset = .next t) :=
  ⟨false, [], 0, (rq []), ⟨_, rfl⟩, ⟨_, rfl⟩, ⟨_, rfl⟩, ⟨_, rfl⟩, ⟨_, rfl⟩, ⟨_, rfl⟩⟩

theorem witness_PtpMessagesAndTimersTouchTheirDomains : ∃ (p : Fin 4) (d : Fin 2) (m : PtpMsg) (raw : Tai) (e : Int) (b : Bool),
    (∃ t : State, exec (.ptpSyncRx p m raw) State.reset = .next t) ∧
    (∃ t : State, exec (.ptpDelayReqRx p m raw) State.reset = .next t) ∧
    (∃ t : State, exec (.ptpMasterTxInterval d b) State.reset = .next t) ∧
    (∃ t : State, exec (.ptpDelayReqTxInterval d raw) State.reset = .next t) ∧
    (∃ t : State, exec (.leapDayEnd) State.reset = .next t) ∧ (∃ t : State, exec (.todChange) State.reset = .next t) ∧
    (∃ t : State, exec (.asymTrackPeriod e) State.reset = .next t) :=
  ⟨0, 0, {}, {}, 0, false, ⟨_, rfl⟩, ⟨_, rfl⟩, ⟨_, rfl⟩, ⟨_, rfl⟩, ⟨_, rfl⟩, ⟨_, rfl⟩, ⟨_, rfl⟩⟩

theorem witness_ClockEventsTouchTheClockUnits : ∃ (r : Fin 7) (w : Fin 2) (p : Fin 2) (n : Nat) (a : Int) (b : Int) (ql : Ql),
    (∃ t : State, exec (.refQualify r) State.reset = .next t) ∧
    (∃ t : State, exec (.wckRateRecognised w n) State.reset = .next t) ∧
    (∃ t : State, exec (.switchStart) State.reset = .next t) ∧ (∃ t : State, exec (.buildOut a b) State.reset = .next t) ∧
    (∃ t : State, exec (.settleStep) State.reset = .next t) ∧ (∃ t : State, exec (.holdoverSecond a) State.reset = .next t) ∧
    (∃ t : State, exec (.alignAtS) State.reset = .next t) ∧ (∃ t : State, exec (.mediaPllLock) State.reset = .next t) ∧
    (∃ t : State, exec (.esmcPduRx p ql) State.reset = .next t) :=
  ⟨0, 0, 0, 0, 0, 0, .prc, ⟨_, rfl⟩, ⟨_, rfl⟩, ⟨_, rfl⟩, ⟨_, rfl⟩, ⟨_, rfl⟩, ⟨_, rfl⟩, ⟨_, rfl⟩, ⟨_, rfl⟩, ⟨_, rfl⟩⟩

theorem witness_PortEventsTouchTheirPorts : ∃ (p : Fin 4) (sp : Fin 4) (b : Bool) (c : Bool) (n : Nat) (l : List Byte) (k : Fin 64) (x : Int) (y : Int) (f : FrameIn) (at_ : Tai) (qs : List Nat) (tag : Option (Nat × Nat)) (g : Nat × Nat),
    (∃ t : State, exec (.linkUp p sp b c) State.reset = .next t) ∧ (∃ t : State, exec (.ingressFrame p f) State.reset = .next t) ∧
    (∃ t : State, exec (.bestEffortFrameRx p n tag b at_ g) State.reset = .next t) ∧
    (∃ t : State, exec (.pauseFrameRx p b n qs) State.reset = .next t) ∧
    (∃ t : State, exec (.egressFrameStart p at_) State.reset = .next t) ∧
    (∃ t : State, exec (.timedFrameLaunch p at_) State.reset = .next t) ∧
    (∃ t : State, exec (.announcementRx p l) State.reset = .next t) ∧ (∃ t : State, exec (.peerAgeOut n) State.reset = .next t) ∧
    (∃ t : State, exec (.fdEstimatorUpdate k x y) State.reset = .next t) ∧
    (∃ t : State, exec (.oldGroupLeave) State.reset = .next t) ∧ (∃ t : State, exec (.txSwapAtTsw) State.reset = .next t) :=
  ⟨0, 0, false, false, 0, [], 0, 0, 0, {}, {}, [], none, (0, 0), ⟨_, rfl⟩, ⟨_, rfl⟩, ⟨_, rfl⟩, ⟨_, rfl⟩, ⟨_, rfl⟩, ⟨_, rfl⟩,
    ⟨_, rfl⟩, ⟨_, rfl⟩, ⟨_, rfl⟩, ⟨_, rfl⟩, ⟨_, rfl⟩⟩

theorem witness_LocalPortEventsTouchTheirPort : ∃ (p : Fin 16) (f : TdmFrame) (c : Fin 16) (e : Fin 8) (m : Fin 2) (x : Fin 8) (k : Fin 4) (v : Int),
    (∃ t : State, exec (.tdmFrameSync p f) State.reset = .next t) ∧
    (∃ t : State, exec (.tdmClockLost p c) State.reset = .next t) ∧ (∃ t : State, exec (.pdmClockLost e) State.reset = .next t) ∧
    (∃ t : State, exec (.pdmZcTimeout e m) State.reset = .next t) ∧ (∃ t : State, exec (.ampZcTimeout x) State.reset = .next t) ∧
    (∃ t : State, exec (.ampBackoffReset x) State.reset = .next t) ∧
    (∃ t : State, exec (.ampBootstrapDone x) State.reset = .next t) ∧
    (∃ t : State, exec (.clkmuteGatesOff x) State.reset = .next t) ∧
    (∃ t : State, exec (.fetTemperatureWarning k v) State.reset = .next t) :=
  ⟨0, {}, 0, 0, 0, 0, 0, 0, ⟨_, rfl⟩, ⟨_, rfl⟩, ⟨_, rfl⟩, ⟨_, rfl⟩, ⟨_, rfl⟩, ⟨_, rfl⟩, ⟨_, rfl⟩, ⟨_, rfl⟩, ⟨_, rfl⟩⟩

theorem witness_MemoryHealthPairAndPowerEventsTouchTheirUnits : ∃ (c : Fin 8) (m : Fin 3) (b : Bool) (n : Nat) (l : List Int) (ns : List Nat) (x : ShareIn) (by_ : List Byte) (e : Fin 512) (r : Fin 3) (st : StepTwo),
    (∃ t : State, exec (.dramMr4Change c m b) State.reset = .next t) ∧ (∃ t : State, exec (.retrainDue) State.reset = .next t) ∧
    (∃ t : State, exec (.scrubPassEnd n) State.reset = .next t) ∧ (∃ t : State, exec (.ddrPhyUnlock) State.reset = .next t) ∧
    (∃ t : State, exec (.ddrPhyLock) State.reset = .next t) ∧ (∃ t : State, exec (.ringOscSample l) State.reset = .next t) ∧
    (∃ t : State, exec (.nvmRefreshDue) State.reset = .next t) ∧ (∃ t : State, exec (.calenderPeriodic) State.reset = .next t) ∧
    (∃ t : State, exec (.serdesEyeSample ns) State.reset = .next t) ∧ (∃ t : State, exec (.heartbeatTx) State.reset = .next t) ∧
    (∃ t : State, exec (.lockstepShareRx x) State.reset = .next t) ∧
    (∃ t : State, exec (.healthReportRx by_) State.reset = .next t) ∧
    (∃ t : State, exec (.repairRequestRx e ns n) State.reset = .next t) ∧
    (∃ t : State, exec (.pairTakeRelease) State.reset = .next t) ∧ (∃ t : State, exec (.cloneTimeout) State.reset = .next t) ∧
    (∃ t : State, exec (.pairLaneLockLoss) State.reset = .next t) ∧ (∃ t : State, exec (.xo32Switch) State.reset = .next t) ∧
    (∃ t : State, exec (.supplySample ns) State.reset = .next t) ∧ (∃ t : State, exec (.supplyRecheck st) State.reset = .next t) ∧
    (∃ t : State, exec (.perstNRise) State.reset = .next t) ∧ (∃ t : State, exec (.proofHoldExpiry r) State.reset = .next t) :=
  ⟨0, 0, false, 0, [], [], { tick := 0 }, [], 0, 0, {}, ⟨_, rfl⟩, ⟨_, rfl⟩, ⟨_, rfl⟩, ⟨_, rfl⟩, ⟨_, rfl⟩, ⟨_, rfl⟩, ⟨_, rfl⟩,
    ⟨_, rfl⟩, ⟨_, rfl⟩, ⟨_, rfl⟩, ⟨_, rfl⟩, ⟨_, rfl⟩, ⟨_, rfl⟩, ⟨_, rfl⟩, ⟨_, rfl⟩, ⟨_, rfl⟩, ⟨_, rfl⟩, ⟨_, rfl⟩, ⟨_, rfl⟩,
    ⟨_, rfl⟩, ⟨_, rfl⟩⟩

end Checks

end Sys2Proof.Tests
end

section
/-!
Power-on reset (R53, R57, R406, R474): no register field is stored, so each reads its table's value.
-/

namespace Sys2Proof.Machine

/-- With nothing stored, a field reads the reset value of its row of the register map (R57). -/
theorem State.getF_of_regs_nil {s : State} (h : s.regs = []) (f : Fld) : s.getF f = resetAt f.addr f.lo := by
  rw [State.getF, h, KV.get]

/-- The reset state stores no field. -/
@[simp] theorem State.reset_regs : State.reset.regs = [] := rfl

/-- A field reads its table's value at power-on reset. -/
@[simp] theorem State.reset_getF (f : Fld) : State.reset.getF f = resetAt f.addr f.lo :=
  State.getF_of_regs_nil State.reset_regs f

/-- The register map gives CHIP_ID the identity of R2. -/
theorem resetAt_chipId : resetAt F.MGT_CHIP_ID.addr F.MGT_CHIP_ID.lo = 0x409600B1 := by decide

/-- At power-on reset no carrier holds a request and no long operation runs; the block is not command-ready (R53). -/
theorem State.reset_idle :
    State.reset.pending = [] ∧ State.reset.car.slots = [] ∧ State.reset.car.longOp = none ∧
      State.reset.pwr.cmdReady = false := ⟨rfl, rfl, rfl, rfl⟩

/-- The output pins at power-on reset: HOST_BUSY high (R474), PAIR_OK low (R406). -/
theorem State.reset_pins : State.reset.pins.hostBusy = true ∧ State.reset.pins.pairOk = false := ⟨rfl, rfl⟩

/-- At power-on reset no event is sticky, the log's RAM is empty and neither bank of stored settings is valid. -/
theorem State.reset_records :
    State.reset.ev.sticky = [] ∧ State.reset.log.ram = [] ∧ State.reset.bankA.valid = false ∧
      State.reset.bankB.valid = false := ⟨rfl, rfl, rfl, rfl⟩

/-- Settles O3: nothing is stored at reset, so every field reads its table's value, and the other parts of the
state stand at their initial values. -/
theorem resetLeavesTheTablesValues : Obligations.ResetLeavesTheTablesValues := by
  unfold Obligations.ResetLeavesTheTablesValues
  obtain ⟨hPending, hSlots, hLongOp, hReady⟩ := State.reset_idle
  obtain ⟨hBusy, hPair⟩ := State.reset_pins
  obtain ⟨hSticky, hRam, hBankA, hBankB⟩ := State.reset_records
  have hChip : State.reset.getF F.MGT_CHIP_ID = 0x409600B1 := (State.reset_getF _).trans resetAt_chipId
  exact ⟨State.reset_getF, hChip, hPending, hSlots, hLongOp, hReady, hBusy, hPair, hSticky, hRam, hBankA, hBankB⟩

end Sys2Proof.Machine
end

section
/-!
Frames, rule by rule: what each operation on the state leaves. A state stays another outside some parts and units, what was
sent stays sent, and what is sticky stays sticky; each rule adds one operation to such a frame.
-/

namespace Sys2Proof.Machine

/-- `t` differs from `s` in the named parts and units and in traces only; what `s` had sent and what was sticky still is. -/
structure State.Stays (s t : State) (ps : List Part) (us : List Units) : Prop where
  touches : s.Touches t ps us
  out : s.out <+: t.out
  sticky : ∀ n ∈ s.ev.sticky, n ∈ t.ev.sticky

/-- Whether a field lies in one of some units, as a test. -/
def Fld.inUnits (f : Fld) (us : List Units) : Bool :=
  us.any fun u => (addrUnit (f.key / 8)).1 == u.sub && decide (u.first ≤ (addrUnit (f.key / 8)).2.1) &&
    decide ((addrUnit (f.key / 8)).2.1 ≤ u.last)

theorem Fld.within_iff_inUnits (f : Fld) (us : List Units) : f.within us ↔ f.inUnits us = true := by
  simp [Fld.within, Fld.inUnits, and_assoc]

theorem Part.Same.refl (s : State) (p : Part) : p.Same s s := (State.Touches.refl s [] []).1.2 p (List.not_mem_nil)

section
variable {s t u : State} {ps ps' : List Part} {us us' : List Units}

theorem State.Stays.refl (s : State) (ps : List Part) (us : List Units) : s.Stays s ps us :=
  ⟨State.Touches.refl s ps us, List.prefix_rfl, fun _ h => h⟩

theorem State.Stays.trans (h : s.Stays t ps us) (g : t.Stays u ps us) : s.Stays u ps us :=
  ⟨h.touches.trans g.touches, h.out.trans g.out, fun n hn => g.sticky n (h.sticky n hn)⟩

/-- A frame of less is a frame of more. -/
theorem State.Stays.mono (h : s.Stays t ps us) (hp : ps ⊆ ps') (hu : us ⊆ us') : s.Stays t ps' us' :=
  ⟨h.touches.mono (fun _ m => hp m) (fun _ m => hu m), h.out, h.sticky⟩

/-- What concluding a request and settling change is in every frame. -/
theorem State.Served.stays (h : State.Served s t) (ps : List Part) (us : List Units) : s.Stays t ps us :=
  ⟨h.touches ps us, h.out, h.sticky⟩

/-! ## Fields -/

theorem State.Stays.setF (h : s.Stays t ps us) (f : Fld) (v : Nat) (hf : f.inUnits us = true) : s.Stays (t.setF f v) ps us :=
  h.trans ⟨t.touches_setF v ps ((f.within_iff_inUnits us).2 hf), List.prefix_rfl, fun _ m => m⟩

theorem State.Stays.setI (h : s.Stays t ps us) (f : Fld) (v : Int) (hf : f.inUnits us = true) : s.Stays (t.setI f v) ps us :=
  h.setF f _ hf

theorem State.Stays.setISat (h : s.Stays t ps us) (f : Fld) (v : Int) (hf : f.inUnits us = true) :
    s.Stays (t.setISat f v) ps us := h.setF f _ hf

theorem State.Stays.setSat (h : s.Stays t ps us) (f : Fld) (v : Nat) (hf : f.inUnits us = true) :
    s.Stays (t.setSat f v) ps us := h.setF f _ hf

theorem State.Stays.addSat (h : s.Stays t ps us) (f : Fld) (n : Nat) (hf : f.inUnits us = true) :
    s.Stays (t.addSat f n) ps us := h.setF f _ hf

theorem State.Stays.incSat (h : s.Stays t ps us) (f : Fld) (hf : f.inUnits us = true) : s.Stays (t.incSat f) ps us :=
  h.setF f _ hf

theorem State.Stays.set64 (h : s.Stays t ps us) (lo hi : Fld) (v : Nat) (hl : lo.inUnits us = true) (hh : hi.inUnits us = true) :
    s.Stays (t.set64 lo hi v) ps us := (h.setF lo _ hl).setF hi _ hh

theorem State.Stays.setWords (h : s.Stays t ps us) (f : Nat → Fld) (v n : Nat) (hf : ∀ i < n, (f i).inUnits us = true) :
    s.Stays (t.setWords f v n) ps us := by
  induction n with
  | zero => exact h
  | succ n ih => exact (ih fun i hi => hf i (by omega)).setF _ _ (hf n (by omega))

/-! ## Traces -/

theorem State.Stays.traces (h : s.Stays t ps us) (g : State.Traces t u) : s.Stays u ps us :=
  h.trans (g.settled.served.stays ps us)

theorem State.Stays.emit (h : s.Stays t ps us) (e : Emit) : s.Stays (t.emit e) ps us := h.traces (t.traces_emit e)

theorem State.Stays.fireWith (h : s.Stays t ps us) (src obj detail : Nat) (late : Bool) :
    s.Stays (t.fireWith src obj detail late) ps us := h.traces (t.traces_fireWith src obj detail late)

theorem State.Stays.fire (h : s.Stays t ps us) (src obj detail : Nat) : s.Stays (t.fire src obj detail) ps us :=
  h.traces (t.traces_fire src obj detail)

theorem State.Stays.logE (h : s.Stays t ps us) (org oid kind : Nat) (addr : Bool) (obj old new : Nat) :
    s.Stays (t.logE org oid kind addr obj old new) ps us := h.traces (t.traces_logE org oid kind addr obj old new)

theorem State.Stays.logState (h : s.Stays t ps us) (org obj old new : Nat) : s.Stays (t.logState org obj old new) ps us :=
  h.logE _ _ _ _ _ _ _

theorem State.Stays.modified (h : s.Stays t ps us) : s.Stays t.modified ps us :=
  h.trans ((t.served_setF _ (by decide)).stays ps us)

theorem State.Stays.logReg (h : s.Stays t ps us) (o : Origin) (addr old new : Nat) : s.Stays (t.logReg o addr old new) ps us :=
  (h.logE _ _ _ _ _ _ _).modified

theorem State.Stays.setRaw (h : s.Stays t ps us) (src : Nat) (on : Bool) : s.Stays (t.setRaw src on) ps us := by
  refine h.trans ⟨⟨⟨rfl, fun p _ => ?_⟩, fun _ _ _ => rfl⟩, List.prefix_rfl, fun _ m => m⟩
  exact Part.Same.refl t p

theorem State.Stays.raise (h : s.Stays t ps us) (src obj detail : Nat) : s.Stays (t.raise src obj detail) ps us := by
  unfold State.raise
  split
  · exact h
  · exact (h.setRaw src true).fire src obj detail

/-! ## Parts -/

/-- An update that leaves every part but one, the fields, the queue, the output and what is sticky. -/
theorem State.Stays.part (h : s.Stays t ps us) {p : Part} (hp : p ∈ ps) (pending : u.pending = t.pending)
    (regs : u.regs = t.regs) (out : u.out = t.out) (ev : u.ev = t.ev) (same : ∀ q, q ≠ p → q.Same t u) : s.Stays u ps us :=
  h.trans ⟨⟨⟨pending, fun q hq => same q fun e => hq (e ▸ hp)⟩, fun f _ _ => State.getF_congr f regs⟩,
    by rw [out], fun n hn => by rwa [ev]⟩

theorem State.Stays.setStr (h : s.Stays t ps us) (x : StreamState) (hp : .streams ∈ ps) : s.Stays { t with str := x } ps us := by
  refine h.part hp rfl rfl rfl rfl fun q hq => ?_
  have same := Part.Same.refl t q
  cases q
  case streams => exact absurd rfl hq
  all_goals exact same

theorem State.Stays.setDsp (h : s.Stays t ps us) (x : DspState) (hp : .dsp ∈ ps) : s.Stays { t with dsp := x } ps us := by
  refine h.part hp rfl rfl rfl rfl fun q hq => ?_
  have same := Part.Same.refl t q
  cases q
  case dsp => exact absurd rfl hq
  all_goals exact same

theorem State.Stays.setClk (h : s.Stays t ps us) (x : ClkState) (hp : .clock ∈ ps) : s.Stays { t with clk := x } ps us := by
  refine h.part hp rfl rfl rfl rfl fun q hq => ?_
  have same := Part.Same.refl t q
  cases q
  case clock => exact absurd rfl hq
  all_goals exact same

theorem State.Stays.setHealth (h : s.Stays t ps us) (x : HealthState) (hp : .health ∈ ps) : s.Stays { t with hlt := x } ps us := by
  refine h.part hp rfl rfl rfl rfl fun q hq => ?_
  have same := Part.Same.refl t q
  cases q
  case health => exact absurd rfl hq
  all_goals exact same

theorem State.Stays.setMem (h : s.Stays t ps us) (x : MemState) (hp : .memory ∈ ps) : s.Stays { t with mem := x } ps us := by
  refine h.part hp rfl rfl rfl rfl fun q hq => ?_
  have same := Part.Same.refl t q
  cases q
  case memory => exact absurd rfl hq
  all_goals exact same

theorem State.Stays.setPwr (h : s.Stays t ps us) (x : PowerState) (hp : .power ∈ ps) : s.Stays { t with pwr := x } ps us := by
  refine h.part hp rfl rfl rfl rfl fun q hq => ?_
  have same := Part.Same.refl t q
  cases q
  case power => exact absurd rfl hq
  all_goals exact same

theorem State.Stays.setPrf (h : s.Stays t ps us) (x : ProofState) (hp : .proof ∈ ps) : s.Stays { t with prf := x } ps us := by
  refine h.part hp rfl rfl rfl rfl fun q hq => ?_
  have same := Part.Same.refl t q
  cases q
  case proof => exact absurd rfl hq
  all_goals exact same

theorem State.Stays.setStamps (h : s.Stays t ps us) (x : StampState) (hp : .stamps ∈ ps) : s.Stays { t with stamps := x } ps us := by
  refine h.part hp rfl rfl rfl rfl fun q hq => ?_
  have same := Part.Same.refl t q
  cases q
  case stamps => exact absurd rfl hq
  all_goals exact same

theorem State.Stays.setPairPart (h : s.Stays t ps us) (x : PairState) (hp : .pair ∈ ps) : s.Stays { t with pair := x } ps us := by
  refine h.part hp rfl rfl rfl rfl fun q hq => ?_
  have same := Part.Same.refl t q
  cases q
  case pair => exact absurd rfl hq
  all_goals exact same

theorem State.Stays.setCar (h : s.Stays t ps us) (x : CarState) (hp : .carriers ∈ ps) : s.Stays { t with car := x } ps us := by
  refine h.part hp rfl rfl rfl rfl fun q hq => ?_
  have same := Part.Same.refl t q
  cases q
  case carriers => exact absurd rfl hq
  all_goals exact same

theorem State.Stays.setAmp (h : s.Stays t ps us) (x : AmpState) (hp : .amps ∈ ps) : s.Stays { t with amp := x } ps us := by
  refine h.part hp rfl rfl rfl rfl fun q hq => ?_
  have same := Part.Same.refl t q
  cases q
  case amps => exact absurd rfl hq
  all_goals exact same

/-! ## Composition -/

/-- A frame goes on through a step whose own frame it contains. -/
theorem State.Stays.andThen (h : s.Stays t ps us) (g : t.Stays u ps' us') (hp : ps' ⊆ ps := by decide)
    (hu : us' ⊆ us := by decide) : s.Stays u ps us := h.trans (g.mono hp hu)

/-- A frame goes on through a loop whose body keeps it. -/
theorem State.Stays.foldl {α : Type} {l : List α} {f : State → α → State} (h : s.Stays t ps us)
    (hf : ∀ u, ∀ a ∈ l, s.Stays u ps us → s.Stays (f u a) ps us) : s.Stays (l.foldl f t) ps us := by
  induction l generalizing t with
  | nil => exact h
  | cons a l ih => exact ih (hf t a List.mem_cons_self h) fun u b hb => hf u b (List.mem_cons_of_mem a hb)

theorem State.Stays.ite {c : Prop} [Decidable c] {v : State} (h : s.Stays t ps us) (g : s.Stays v ps us) :
    s.Stays (if c then t else v) ps us := by
  split
  · exact h
  · exact g

end
end Sys2Proof.Machine
end

section
/-!
Requests: what the gate of steps 6 to 10 of Table 2.2 lets through, what a refused request leaves, and the frame of a request
whose operation may begin a long operation (R26, R36, R53).
-/

namespace Sys2Proof.Machine

/-! ## Every command completes -/

/-- Settles O2: every command is a happening, and a happening answers a next state; on an empty queue a media cycle passes. -/
theorem everyCommandCompletes : Obligations.EveryCommandCompletes := by
  have hexec : ∀ (c : Instr) (s : State), Completes (exec c s) := fun c s => by
    obtain ⟨body, h⟩ := exec_happens c
    exact ⟨_, h s⟩
  refine ⟨hexec, fun s => ?_⟩
  unfold step
  split
  · exact ⟨_, rfl⟩
  · exact hexec _ _

/-! ## Requests that are refused -/

/-- A command that carries a request serves it. -/
theorem exec_of_requestOf {c : Instr} {op : Nat} {q : Req} (h : requestOf c = some (op, q)) :
    ∃ f, ∀ s, exec c s = happen (serveOp op f q) s := by
  unfold requestOf at h
  split at h
  case h_68 => exact absurd h (by simp)
  all_goals
    cases h
    exact ⟨_, fun _ => rfl⟩

/-- The gate stops a request by a failure or by a denial. -/
theorem State.gate_stops {s : State} {q : Req} {o : OpOut} (h : s.gate q = some o) :
    (∃ st off d, o = .fail st off d) ∨ ∃ obj, o = .denied obj := by
  unfold State.gate at h
  repeat' split at h
  all_goals cases h
  case isFalse.isTrue.refl => exact .inr ⟨_, rfl⟩
  all_goals exact .inl ⟨_, _, _, rfl⟩

/-- A request that reaches the device is answered (R53). -/
theorem serveOp_of_reachable {s : State} (op : Nat) (f : Req → State → OpOut) (q : Req) (h : s.reachable = true) :
    serveOp op f q s = s.answer (q.as op) f := if_pos h

/-- A request that does not reach the device changes nothing. -/
theorem serveOp_of_unreachable {s : State} (op : Nat) (f : Req → State → OpOut) (q : Req) (h : ¬ s.reachable = true) :
    serveOp op f q s = s := if_neg h

/-- A busy interface answers BUSY with the index of what runs (R53). -/
theorem State.answer_of_busy {s : State} {i : Nat} (q : Req) (f : Req → State → OpOut) (h : s.busyIndex = some i) :
    s.answer q f = s.replyBusy q i := by rw [State.answer, h]

/-- A request that the gate stops is answered, and nothing else of the block changes. -/
theorem State.served_finish_gate {s : State} {q : Req} {o : OpOut} (h : s.gate q = some o) :
    State.Served s (State.finish q s o) := by
  obtain ⟨st, off, d, rfl⟩ | ⟨obj, rfl⟩ := State.gate_stops h
  · exact s.served_replyErr q st off d
  · have denied : State.Traces s (s.denyCommand q obj) :=
      (State.traces_logDenied _ _ _ _ _ _).trans (State.traces_fire _ _ _ _)
    exact denied.settled.served.trans (State.served_replyErr _ q stDENIED 0xFFFF 0)

/-- A request that meets a busy interface, or that the gate stops, is answered without its operation. -/
theorem State.served_answer_refused {s : State} {q : Req} (f : Req → State → OpOut)
    (h : s.busyIndex.isSome = true ∨ (s.gate q).isSome = true) : State.Served s (s.answer q f) := by
  unfold State.answer
  split
  · exact s.served_replyBusy q _
  · next free =>
    obtain ⟨o, ho⟩ := Option.isSome_iff_exists.1 (h.resolve_left (by simp [free]))
    unfold State.perform
    rw [ho]
    exact State.served_finish_gate ho

/-- A request answered BUSY fires BUSY_REJECT (R53). -/
theorem State.busyReject_sticky (s : State) (q : Req) (i : Nat) : Ev.BUSY_REJECT ∈ (s.replyBusy q i).ev.sticky :=
  (State.served_reply _ q _ _).sticky _ (State.fire_sticky _ _ _ _)

/-- Settles O14: a request that the busy interface or the gate stops never reaches its operation, so only its answer and the
traces of its refusal change. -/
theorem refusedAndBusyRequestsTouchNothing : Obligations.RefusedAndBusyRequestsTouchNothing := by
  intro c op q s t hc refused ht
  obtain ⟨f, hf⟩ := exec_of_requestOf hc
  rw [hf] at ht
  constructor
  · refine happen_touches ht ?_
    by_cases reached : s.fresh.reachable = true
    · rw [serveOp_of_reachable op f q reached]
      exact (State.served_answer_refused f (s := s.fresh) refused).touches [] []
    · rw [serveOp_of_unreachable op f q reached]
      exact State.Touches.refl _ [] []
  · intro reached busy
    obtain ⟨i, hi⟩ := Option.isSome_iff_exists.1 busy
    obtain ⟨t', ht', settled⟩ := happen_settled (serveOp op f q) s
    obtain rfl : t = t' := by rw [ht] at ht'; injection ht'
    have answered : serveOp op f q s.fresh = s.fresh.replyBusy (q.as op) i :=
      (serveOp_of_reachable (s := s.fresh) op f q reached).trans (State.answer_of_busy _ f hi)
    refine settled.sticky _ ?_
    show _ ∈ (serveOp op f q s.fresh).ev.sticky
    rw [answered]
    exact State.busyReject_sticky _ _ i

/-! ## The frame of a request -/

/-- What an operation's outcome changes stays in a frame; a long operation takes a place among the carriers. -/
def OpOut.Stays (s : State) (ps : List Part) (us : List Units) : OpOut → Prop
  | .done u _ _ => s.Stays u ps us
  | .failWith u _ _ _ => s.Stays u ps us
  | .long u => s.Stays u ps us ∧ .carriers ∈ ps
  | _ => True

section
variable {s : State} {q : Req} {ps : List Part} {us : List Units}

/-- Of the operations only STORE begins the long operation 1. -/
theorem longIdx_ne_one {op : Nat} (h : op ≠ 0x0010) (q : Req) : (longIdx (q.as op)).1 ≠ 1 := by
  unfold longIdx
  split
  case h_1 e => exact absurd e h
  all_goals simp

/-- A long operation that begins changes the carriers. -/
theorem State.stays_beginLong (s : State) (l : LongOp) : s.Stays (s.beginLong l) [.carriers] [] :=
  ((State.Stays.refl s _ _).setCar _ (by simp)).trans ((s.served_beginLong l).stays _ _)

/-- Waiting for a commit of the log begins a long operation; STORE alone goes on to write its bank. -/
theorem State.stays_commitFor (s : State) {i : Nat} (q : Req) (h : i ≠ 1) : s.Stays (s.commitFor i q) [.carriers] [] := by
  unfold State.commitFor
  dsimp only
  generalize (if s.log.ram.isEmpty = true then 2 else if s.log.commit.isSome = true then 0 else 1) = arg
  split
  · have same : ∀ l : LongOp, l.idx ≠ 1 → (s.beginLong l).storeWrite = s.beginLong l := fun l hl => by
      unfold State.storeWrite
      rw [(s.beginLong_longOp l).1]
      simp [hl]
    rw [same _ h]
    exact s.stays_beginLong _
  · exact (s.stays_beginLong _).traces (State.traces_startCommit _)

/-- Concluding a request keeps the frame of its outcome. -/
theorem State.stays_conclude {out : OpOut} {m : Bool} (h : out.Stays s ps us) (hi : (longIdx q).1 ≠ 1) :
    s.Touches (s.conclude q m out) ps us := by
  cases out with
  | long u =>
    obtain ⟨h, carriers⟩ := h
    have sub : [Part.carriers] ⊆ ps := by simpa using carriers
    unfold State.conclude
    dsimp only
    split
    · exact (h.andThen (u.stays_commitFor q hi) sub (List.nil_subset _)).touches
    · exact (h.andThen (u.stays_beginLong _) sub (List.nil_subset _)).touches
  | done u p l => exact State.touches_conclude (out := .done u p l) h.touches fun _ e => OpOut.noConfusion e
  | failWith u st off d => exact State.touches_conclude (out := .failWith u st off d) h.touches fun _ e => OpOut.noConfusion e
  | fail st off d => exact State.touches_conclude (out := .fail st off d) trivial fun _ e => OpOut.noConfusion e
  | denied obj => exact State.touches_conclude (out := .denied obj) trivial fun _ e => OpOut.noConfusion e

/-- What the interpreter executes is in every frame. -/
theorem State.touches_executing (s : State) (c : Option Carrier) (ps : List Part) (us : List Units) :
    s.Touches { s with car := { s.car with executing := c } } ps us :=
  (s.served_car _ rfl).touches ps us

/-- The state an operation works on is in every frame. -/
theorem State.stays_opStart (s : State) (q : Req) (ps : List Part) (us : List Units) : s.Stays (s.opStart q) ps us := by
  obtain ⟨a, e⟩ := s.opStart_eq q
  rw [e]
  exact ((s.served_pair a s.pair.mirSeq).trans (State.served_car _ _ rfl)).stays ps us

theorem OpOut.Stays.after {s t : State} {out : OpOut} (g : s.Stays t ps us) (h : out.Stays t ps us) : out.Stays s ps us := by
  cases out with
  | done u _ _ => exact g.trans h
  | failWith u _ _ _ => exact g.trans h
  | long u => exact ⟨g.trans h.1, h.2⟩
  | fail => exact h
  | denied => exact h

/-- A request keeps the frame of its operation (R26). -/
theorem serveOp_stays {op : Nat} {f : Req → State → OpOut} (h : ∀ u, (f (q.as op) u).Stays u ps us)
    (hop : op ≠ 0x0010 := by decide) : s.Touches (serveOp op f q s) ps us := by
  by_cases reached : s.reachable = true
  case neg => rw [serveOp_of_unreachable op f q reached]; exact State.Touches.refl s ps us
  rw [serveOp_of_reachable op f q reached]
  unfold State.answer
  split
  · exact (s.served_replyBusy _ _).touches ps us
  unfold State.perform
  split
  · next ho => exact (State.served_finish_gate ho).touches ps us
  have out := (h (s.opStart (q.as op))).after (s.stays_opStart (q.as op) ps us)
  generalize f (q.as op) (s.opStart (q.as op)) = o at out ⊢
  have concluded : ∀ o : OpOut, o.Stays s ps us → s.Touches (s.conclude (q.as op) (s.sharesOp (q.as op)) o) ps us :=
    fun o ho => State.stays_conclude ho (longIdx_ne_one hop q)
  dsimp only
  have held : ∀ o : OpOut, o.Stays s ps us → s.Touches
      (match (s.conclude (q.as op) (s.sharesOp (q.as op)) o).car.longOp with
        | some _ => s.conclude (q.as op) (s.sharesOp (q.as op)) o
        | none => { s.conclude (q.as op) (s.sharesOp (q.as op)) o with
            car := { (s.conclude (q.as op) (s.sharesOp (q.as op)) o).car with executing := none } }) ps us := by
    intro o ho
    split
    · exact concluded o ho
    · exact (concluded o ho).trans (State.touches_executing _ _ ps us)
  apply held
  split
  · cases o <;> first | exact out | trivial
  · exact out

/-- A command that is a request of an operation keeps the operation's frame. -/
theorem exec_request_touches {op : Nat} {f : Req → State → OpOut} {t : State} (e : happen (serveOp op f q) s = .next t)
    (h : ∀ u, (f (q.as op) u).Stays u ps us) (hop : op ≠ 0x0010 := by decide) : s.Touches t ps us :=
  happen_touches e (serveOp_stays h hop)

end
end Sys2Proof.Machine
end

section
/-!
Frames of the operations on carriers, network, streams and graphs (R38, R43, R49, R208, R233, R262, R310, R311, R337): each
request that sets or acts changes its own tables.
-/

namespace Sys2Proof.Machine

section
variable {s u : State} {q : Req} {ps : List Part} {us : List Units}

/-! ## Outcomes -/

theorem OpOut.Stays.ite {c : Prop} [Decidable c] {o p : OpOut} (h : o.Stays s ps us) (g : p.Stays s ps us) :
    (if c then o else p).Stays s ps us := by
  split
  · exact h
  · exact g

/-! ## Objects -/

/-- An operation on an object of one unit keeps the operation's frame. -/
theorem onUnits_stays {f : Req → State → OpOut} (p : Nat → Nat → Bool) (h : (f q u).Stays s ps us) :
    (onUnits p f q u).Stays s ps us := by
  unfold onUnits
  dsimp only
  repeat' split
  case isFalse.isTrue => exact h
  all_goals exact True.intro

/-- An operation on a unit as a whole keeps the operation's frame. -/
theorem wholeUnit_stays {f : Req → State → OpOut} (h : (f q u).Stays s ps us) : (wholeUnit f q u).Stays s ps us := by
  unfold wholeUnit
  split
  · exact h
  · exact True.intro

/-! ## Carriers, sessions, long operations -/

theorem opSessionSet_stays (q : Req) (s : State) : (opSessionSet q s).Stays s [.carriers] [] := by
  unfold opSessionSet
  refine .ite True.intro ?_
  split
  · exact True.intro
  iterate 5 refine .ite True.intro ?_
  exact .ite (State.Stays.refl s _ _) ((State.Stays.refl s _ _).setCar _ (by decide))

theorem opFwBlock_stays (q : Req) (s : State) : (opFwBlock q s).Stays s [.carriers] [] := by
  have staged : ∀ c : CarState, s.Stays { s with car := c } [.carriers] [] := fun c =>
    (State.Stays.refl s _ _).setCar c (by decide)
  unfold opFwBlock
  iterate 6 refine .ite True.intro ?_
  exact .ite ⟨staged _, by decide⟩ (staged _)

theorem opFwCommit_stays (q : Req) (s : State) : (opFwCommit q s).Stays s [.carriers] [] := by
  unfold opFwCommit
  repeat' split
  any_goals exact True.intro
  exact (State.Stays.refl s _ _).setCar _ (by decide)

theorem opRecall_stays (q : Req) (s : State) : (opRecall q s).Stays s [.carriers] [] := by
  unfold opRecall
  repeat' split
  any_goals exact True.intro
  exact ⟨State.Stays.refl s _ _, by decide⟩

theorem opFactoryRecall_stays (q : Req) (s : State) : (opFactoryRecall q s).Stays s [.carriers] [] := by
  unfold opFactoryRecall
  repeat' split
  any_goals exact True.intro
  exact ⟨State.Stays.refl s _ _, by decide⟩

theorem opSelftest_stays (q : Req) (s : State) : (opSelftest q s).Stays s [.carriers] [] := by
  unfold opSelftest
  repeat' split
  any_goals exact True.intro
  exact ⟨State.Stays.refl s _ _, by decide⟩

theorem opLogFlush_stays (q : Req) (s : State) : (opLogFlush q s).Stays s [.carriers] [] := by
  unfold opLogFlush
  repeat' split
  any_goals exact True.intro
  exact ⟨State.Stays.refl s _ _, by decide⟩

theorem opMemRetrain_stays (q : Req) (s : State) : (opMemRetrain q s).Stays s [.carriers, .memory] [] := by
  unfold opMemRetrain
  repeat' split
  any_goals exact True.intro
  exact ⟨(State.Stays.refl s _ _).setMem _ (by decide), by decide⟩

/-! ## Network and streams -/

theorem State.Stays.setPort {t : State} (h : s.Stays t ps us) (p : Nat) (x : PortState) (hp : .streams ∈ ps) :
    s.Stays (t.setPort p x) ps us := h.setStr _ hp

/-- Bringing the ports' multicast groups in line changes the ports' group lists (R208, R209). -/
theorem State.stays_syncGroups (s : State) : s.Stays s.syncGroups [.streams] [] := by
  unfold State.syncGroups
  dsimp only
  refine (State.Stays.refl s _ _).foldl fun u p _ h => State.Stays.setPort ?_ _ _ (by decide)
  refine State.Stays.foldl ?_ fun v g _ hv => hv.emit _
  exact h.foldl fun v g _ hv => hv.emit _

theorem opNetPortSet_stays (q : Req) (s : State) : (opNetPortSet q s).Stays s [.streams] [] := by
  unfold opNetPortSet
  dsimp only
  repeat' split
  any_goals exact True.intro
  exact ((State.Stays.refl s _ _).setStr _ (by decide)).trans (State.stays_syncGroups _)

theorem opRxSet_stays (q : Req) (s : State) : (opRxSet q s).Stays s [.streams] [] := by
  unfold opRxSet
  dsimp only
  repeat' split
  any_goals exact True.intro
  exact (State.Stays.refl s _ _).setStr _ (by decide)

/-- A transmit entry's version moves on, with SDP_CHANGE where it is announced (R275). -/
theorem State.stays_bumpVersion (s : State) (e : Nat) : s.Stays (s.bumpVersion e) [.streams] [] := by
  have moved := (State.Stays.refl s [.streams] []).setStr
    { s.str with txVer := KV.put 1 s.str.txVer e (s.txVersion e + 1) } (by decide)
  unfold State.bumpVersion
  dsimp only
  split
  · exact moved.fire _ _ _
  · exact moved

theorem opTxSet_stays (q : Req) (s : State) : (opTxSet q s).Stays s [.streams] [] := by
  unfold opTxSet
  dsimp only
  split
  · exact True.intro
  split
  · exact True.intro
  split
  · exact True.intro
  split
  · exact True.intro
  next bank e _ _ _ _ =>
    have stored := (State.Stays.refl s [.streams] []).setStr
      { s.str with txBlk := KV.set s.str.txBlk (bank * 512 + e) (q.params.drop 4)
                   txBad := without s.str.txBad (bank * 512 + e) } (by decide)
    exact State.Stays.ite (stored.trans (State.stays_bumpVersion _ _)) stored

theorem opSdpImport_stays (q : Req) (s : State) : (opSdpImport q s).Stays s [.streams] [] := by
  unfold opSdpImport
  dsimp only
  repeat' split
  any_goals exact True.intro
  exact (State.Stays.refl s _ _).setStr _ (by decide)

theorem State.stays_touchPeer (s : State) (dev : Nat) : s.Stays (s.touchPeer dev) [.streams] [] := by
  unfold State.touchPeer
  split
  · exact State.Stays.refl s _ _
  · exact ((State.Stays.refl s _ _).setStr _ (by decide)).fire _ _ _

/-- A clash of multicast destinations leaves an event only (Table 11.7). -/
theorem State.stays_checkDup (s : State) (dev : Nat) (t : List Byte) : s.Stays (s.checkDup dev t) [] [] := by
  unfold State.checkDup
  split
  · exact State.Stays.refl s _ _
  · exact (State.Stays.refl s _ _).foldl fun u x _ h => State.Stays.ite (h.fire _ _ _) h

theorem State.stays_fileDesc (s : State) (dev i : Nat) (t : List Byte) : s.Stays (s.fileDesc dev i t).2 [.streams] [] := by
  unfold State.fileDesc
  dsimp only
  split
  · exact (State.Stays.refl s _ _).fire _ _ _
  · exact ((State.Stays.refl s _ _).setStr _ (by decide)).andThen (State.stays_checkDup _ _ _)

theorem opDirImport_stays (q : Req) (s : State) : (opDirImport q s).Stays s [.streams] [] := by
  have filed : ∀ (x : Peer) (t : List Byte),
      s.Stays (((s.touchPeer (q.field 0 2)).putPeer (q.field 0 2) x).fileDesc (q.field 0 2) (q.field 2 2) t).2 [.streams] [] :=
    fun x t => ((s.stays_touchPeer _).setStr _ (by decide)).trans (State.stays_fileDesc _ _ _ _)
  unfold opDirImport
  iterate 3 refine .ite True.intro ?_
  exact .ite (filed _ _) (filed _ _)

theorem State.stays_refreshTxt (s : State) : s.Stays s.refreshTxt [] [⟨4, 1, 1⟩] :=
  ((State.Stays.refl s _ _).setF _ _ (by decide)).setF _ _ (by decide)

theorem State.stays_refreshTxRaw (s : State) : s.Stays s.refreshTxRaw [] [] :=
  ((State.Stays.refl s _ _).setRaw _ _).setRaw _ _

theorem State.stays_refreshTsMiss (s : State) : s.Stays s.refreshTsMiss [.streams] [] := by
  unfold State.refreshTsMiss
  dsimp only
  refine State.Stays.setRaw ((State.Stays.refl s _ _).foldl fun u d _ h => ?_) _ _
  exact State.Stays.ite ((h.setStr _ (by decide)).fire _ _ _) (h.setStr _ (by decide))

/-- A transmit entry stops: its run, the table's counts and the conditions of the transmit path (R270). -/
theorem State.stays_txStop (s : State) (e : Nat) (stop : Int) : s.Stays (s.txStop e stop) [.streams] [⟨4, 1, 1⟩] := by
  have removed := (State.Stays.refl s [.streams] [⟨4, 1, 1⟩]).setStr { s.str with tx := KV.erase s.str.tx e } (by decide)
  unfold State.txStop
  dsimp only
  refine State.Stays.andThen (State.Stays.andThen (State.Stays.andThen ?_ (State.stays_refreshTxt _))
    (State.stays_refreshTxRaw _)) (State.stays_refreshTsMiss _)
  exact State.Stays.ite (removed.setStr _ (by decide)) removed

theorem State.stays_txRemove (s : State) (e : Nat) (stop : Int) : s.Stays (s.txRemove e stop) [.streams] [⟨4, 1, 1⟩] := by
  have cleared := (State.Stays.refl s [.streams] [⟨4, 1, 1⟩]).setStr
    { s.str with txFlag := without s.str.txFlag (s.txBank * 512 + e) } (by decide)
  exact State.Stays.ite (cleared.trans (State.stays_txStop _ _ _)) (cleared.andThen (State.stays_refreshTxt _))

theorem opTxDisable_stays (q : Req) (s : State) : (opTxDisable q s).Stays s [.streams] [⟨4, 1, 1⟩] := by
  unfold opTxDisable
  dsimp only
  repeat' split
  any_goals exact True.intro
  · exact State.Stays.refl s _ _
  · exact (State.Stays.refl s _ _).setStr _ (by decide)
  · exact s.stays_txRemove _ _

/-! ## Graphs -/

/-- The graph table's counts (Table 13.9). -/
theorem State.stays_refreshGrt (s : State) : s.Stays s.refreshGrt [] [⟨5, 64, 64⟩] :=
  (((State.Stays.refl s _ _).setF _ _ (by decide)).setF _ _ (by decide)).setSat _ _ (by decide)

theorem State.stays_storeImg (s : State) (key : Nat) (img : List Byte) : s.Stays (s.storeImg key img) [.dsp] [⟨5, 64, 64⟩] :=
  ((State.Stays.refl s _ _).setDsp _ (by decide)).andThen (State.stays_refreshGrt _)

theorem State.stays_writeImg (s : State) (q : Req) (g : Bool × Nat) (off : Nat) (data : List Byte) (lenAt : Nat) :
    (s.writeImg q g off data lenAt).Stays s [.dsp] [⟨5, 64, 64⟩] := by
  unfold State.writeImg
  dsimp only
  repeat' split
  any_goals exact True.intro
  exact s.stays_storeImg _ _

theorem opGraphSet_stays (q : Req) (s : State) : (opGraphSet q s).Stays s [.dsp] [⟨5, 64, 64⟩] := by
  unfold opGraphSet
  repeat' split
  any_goals exact True.intro
  exact s.stays_writeImg _ _ _ _ _

theorem opGraphLoad_stays (q : Req) (s : State) : (opGraphLoad q s).Stays s [.dsp] [⟨5, 64, 64⟩] := by
  unfold opGraphLoad
  dsimp only
  repeat' split
  any_goals exact True.intro
  all_goals exact s.stays_writeImg _ _ _ _ _

theorem opGraphParam_stays (q : Req) (s : State) : (opGraphParam q s).Stays s [.dsp] [⟨5, 64, 64⟩] := by
  unfold opGraphParam
  dsimp only
  repeat' split
  any_goals exact True.intro
  · exact s.stays_storeImg _ _
  all_goals exact (State.Stays.refl s _ _).setDsp _ (by decide)

/-- A graph's flag is cleared and its run ends (R321). -/
theorem State.stays_graphStop (s : State) (n stop : Nat) : s.Stays (s.graphStop n stop) [.dsp] [⟨5, 64, 64⟩] := by
  have cleared := (State.Stays.refl s [.dsp] [⟨5, 64, 64⟩]).setDsp
    { s.dsp with flag := without s.dsp.flag (s.gBank * 256 + n) } (by decide)
  unfold State.graphStop
  dsimp only
  split
  · exact (cleared.setDsp _ (by decide)).andThen (State.stays_refreshGrt _)
  · exact cleared.andThen (State.stays_refreshGrt _)

theorem opGraphDisable_stays (q : Req) (s : State) : (opGraphDisable q s).Stays s [.dsp] [⟨5, 64, 64⟩] := by
  unfold opGraphDisable
  dsimp only
  repeat' split
  any_goals exact True.intro
  · exact State.Stays.refl s _ _
  · exact (State.Stays.refl s _ _).setDsp _ (by decide)
  · exact s.stays_graphStop _ _

/-- The checks of a graph swap leave the trace of a full Ream or of a refused admission (R322). -/
theorem State.graphSwapCheck_stays {f : OpOut} (h : s.graphSwapCheck = .inl f) : f.Stays s [.dsp] [⟨5, 64, 65⟩] := by
  have refused : ∀ c, s.Stays (s.admitRefused c) [.dsp] [⟨5, 64, 65⟩] := fun c =>
    ((State.Stays.refl s _ _).incSat _ (by decide)).fire _ _ _
  unfold State.graphSwapCheck at h
  dsimp only at h
  repeat' split at h
  all_goals cases h
  any_goals exact True.intro
  · exact (State.Stays.refl s _ _).fire _ _ _
  all_goals exact refused _

theorem opGraphSwap_stays (q : Req) (s : State) : (opGraphSwap q s).Stays s [.dsp] [⟨5, 64, 65⟩] := by
  unfold opGraphSwap
  repeat' split
  any_goals exact True.intro
  · next h => exact State.graphSwapCheck_stays h
  · exact ((State.Stays.refl s _ _).setDsp _ (by decide)).setF _ _ (by decide)

end
end Sys2Proof.Machine
end

section
/-!
Frames of the operations on triggers, stamps, outputs, PHYs, pair, power, health and proofs (R141, R151, R199, R225, R423, R445,
R447, R449, R474, R487), and the frame of every request that sets or acts.
-/

namespace Sys2Proof.Machine

section
variable {s : State} {ps : List Part} {us : List Units}

/-! ## Triggers, stamps, outputs, PHYs -/

theorem trgState_inUnits : ∀ k < 32, (F.TRG_STATUS_STATE k).inUnits [⟨1, 32, 63⟩] = true := by decide

/-- The LENT states follow the generators (R154). -/
theorem State.stays_syncLent (s : State) : s.Stays s.syncLent [] [⟨1, 32, 63⟩] := by
  unfold State.syncLent
  refine (State.Stays.refl s _ _).foldl fun u k hk h => ?_
  have set : ∀ v, s.Stays (u.setF (F.TRG_STATUS_STATE k) v) [] [⟨1, 32, 63⟩] := fun v =>
    h.setF _ _ (trgState_inUnits k (List.mem_range.1 hk))
  dsimp only
  split
  · exact .ite (set 3) h
  · exact .ite (set 0) h

theorem State.stays_trgDrop (s : State) {k : Nat} (hk : k < 32) : s.Stays (s.trgDrop k) [] [⟨1, 32, 63⟩] :=
  have idle := (State.Stays.refl s [] [⟨1, 32, 63⟩]).setF (F.TRG_STATUS_STATE k) 0 (trgState_inUnits k hk)
  .ite (idle.trans (State.stays_syncLent _)) (State.Stays.refl s _ _)

theorem opTrgDisarm_stays (q : Req) (s : State) : (opTrgDisarm q s).Stays s [] [⟨1, 32, 63⟩] :=
  .ite True.intro ((State.Stays.refl s _ _).foldl fun u _ hk h =>
    .ite ((h.trans (u.stays_trgDrop (List.mem_range.1 hk))).logE _ _ _ _ _ _ _) h)

theorem State.stays_setTsq (s : State) {p : Nat} (l : List TsEntry) (hp : p < 4) : s.Stays (s.setTsq p l) [.stamps] [⟨1, 4, 7⟩] := by
  have level : ∀ p < 4, (F.TSU_Q_STATUS_LEVEL p).inUnits [⟨1, 4, 7⟩] = true := by decide
  exact ((State.Stays.refl s _ _).setStamps _ (by decide)).setF _ _ (level p hp)

theorem opTsqRead_stays (q : Req) (s : State) : (opTsqRead q s).Stays s [.stamps] [⟨1, 4, 7⟩] := by
  unfold opTsqRead
  dsimp only
  refine .ite True.intro ?_
  split
  · exact True.intro
  next unit =>
    simp only [Bool.or_eq_true, decide_eq_true_eq, not_or] at unit
    iterate 2 refine .ite True.intro ?_
    exact s.stays_setTsq _ (by omega)

theorem opAlign_stays (q : Req) (s : State) : (opAlign q s).Stays s [.clock] [⟨2, 11, 11⟩] := by
  have pending : ∀ (v m : Nat), s.Stays { (s.setF F.OUT_MIS_ALIGN_PEND 1).set64 F.OUT_ALIGN_SEC_LO F.OUT_ALIGN_SEC_HI v with
      clk := { s.clk with alignMask := m } } [.clock] [⟨2, 11, 11⟩] := fun v m =>
    (((State.Stays.refl s _ _).setF _ _ (by decide)).set64 _ _ _ (by decide) (by decide)).setClk _ (by decide)
  unfold opAlign
  iterate 6 refine .ite True.intro ?_
  exact .ite (State.Stays.refl s _ _) (pending _ _)

theorem opMdio_stays (a : Option Nat) (q : Req) (s : State) : (opMdio a q s).Stays s [] [⟨3, 5, 5⟩] := by
  have sent := fun e => (State.Stays.refl s [] [⟨3, 5, 5⟩]).emit e
  unfold opMdio
  refine .ite True.intro ?_
  dsimp only
  split
  · exact True.intro
  iterate 2 refine .ite True.intro ?_
  refine .ite (sent _) ?_
  split
  · exact sent _
  · exact ((sent _).incSat _ (by decide)).fire _ _ _

/-! ## Pair, power, health -/

theorem opPairTakeover_stays (q : Req) (s : State) : (opPairTakeover q s).Stays s [.pair] [] := by
  unfold opPairTakeover
  iterate 5 refine .ite True.intro ?_
  exact (State.Stays.refl s _ _).setPairPart _ (by decide)

theorem opReset_stays (q : Req) (s : State) : (opReset q s).Stays s [.power] [] := by
  unfold opReset
  iterate 2 refine .ite True.intro ?_
  exact (State.Stays.refl s _ _).setPwr _ (by decide)

/-- A ledger record (R442): the health part, and the record registers of the monitor unit. -/
theorem State.Stays.ledger {t : State} (h : s.Stays t ps us) (kind inst : Nat) (v : List Int) (hp : .health ∈ ps)
    (records : F.MON_NVM_RECORDS.inUnits us = true) (seq : F.MON_LEDGER_SEQ.inUnits us = true) :
    s.Stays (t.ledger kind inst v) ps us :=
  ((h.setHealth _ hp).setF _ _ records).setF _ _ seq

theorem opBaselineReset_stays (q : Req) (s : State) : (opBaselineReset q s).Stays s [.health] [⟨11, 0, 0⟩] := by
  unfold opBaselineReset
  iterate 5 refine .ite True.intro ?_
  refine State.Stays.ledger ?_ _ _ _ (by decide) (by decide) (by decide)
  exact (State.Stays.refl s _ _).foldl fun u x _ h => h.foldl fun v f _ hv => hv.setHealth _ (by decide)

theorem State.stays_calRequest (s : State) : s.Stays s.calRequest [.health] [⟨11, 1, 1⟩] := by
  have same := State.Stays.refl s [.health] [⟨11, 1, 1⟩]
  unfold State.calRequest
  exact .ite same (.ite (same.setF _ _ (by decide)) ((same.setF _ _ (by decide)).setHealth _ (by decide)))

theorem opCalRun_stays (q : Req) (s : State) : (opCalRun q s).Stays s [.health] [⟨11, 1, 1⟩] := by
  unfold opCalRun
  iterate 3 refine .ite True.intro ?_
  exact s.stays_calRequest

/-- The request for VDD_CORE changes (R452, R477). -/
theorem State.stays_setVcore (s : State) (mv : Nat) (now : Bool) (o : Origin) : s.Stays (s.setVcore mv now o) [.health] [] := by
  have asked := (State.Stays.refl s [.health] []).setHealth
    { s.hlt with vcore := mv, vsent := s.getF F.PWR_CTL_VCORE_IF ≠ 0 } (by decide)
  exact State.Stays.logE (State.Stays.fire (.ite (asked.emit _) asked) _ _ _) _ _ _ _ _ _ _

/-- An item of the Calender takes a value (R449). -/
theorem State.stays_setItem (s : State) (i : Nat) (v : Int) (o : Origin) :
    s.Stays (s.setItem i v o) [.clock, .health] [⟨8, 8, 8⟩] := by
  have same := State.Stays.refl s [.clock, .health] [⟨8, 8, 8⟩]
  have clock := fun c => (same.setClk c (by decide)).logE o.code o.id kSTATE false (calObj + i) (unsigned 16 (s.planned i)) (unsigned 16 v)
  have health := fun h => (same.setHealth h (by decide)).logE o.code o.id kSTATE false (calObj + i) (unsigned 16 (s.planned i)) (unsigned 16 v)
  unfold State.setItem
  refine .ite (same.andThen (s.stays_setVcore _ _ _)) ?_
  refine .ite (clock _) (.ite (clock _) (.ite (health _) (.ite ?_ (.ite (health _) same))))
  exact ((same.setF _ _ (by decide)).setHealth _ (by decide)).logReg _ _ _ _

/-- An approval (R449) takes the items of its mask. -/
theorem State.stays_approve (s : State) (m : Nat) (o : Origin) :
    s.Stays (s.approve m o) [.clock, .health] [⟨8, 8, 8⟩, ⟨11, 0, 1⟩] := by
  have proposed : ∀ i < 7, (F.CAL_PROPOSED i).inUnits [⟨8, 8, 8⟩, ⟨11, 0, 1⟩] = true := by decide
  unfold State.approve
  refine (State.Stays.refl s _ _).foldl fun u i hi h => ?_
  have hi : i < 7 := List.mem_range.1 (List.mem_of_mem_filter hi)
  have taken := h.andThen (u.stays_setItem i (u.getI (F.CAL_PROPOSED i)) o)
  have recorded := fun v => taken.ledger 10 i v (by decide) (by decide) (by decide)
  exact (((recorded _).setF _ _ (proposed i hi)).setF _ _ (by decide)).incSat _ (by decide)

theorem opCalApprove_stays (q : Req) (s : State) :
    (opCalApprove q s).Stays s [.clock, .health] [⟨8, 8, 8⟩, ⟨11, 0, 1⟩] := by
  unfold opCalApprove
  iterate 4 refine .ite True.intro ?_
  exact s.stays_approve _ _

/-! ## Proofs -/

/-- The register bits of the proof resources (R497). -/
theorem State.stays_showProofs (s : State) : s.Stays s.showProofs [.proof] [⟨13, 2, 2⟩] :=
  (((State.Stays.refl s _ _).setF _ _ (by decide)).setF _ _ (by decide)).setF _ _ (by decide)

theorem State.stays_proofStop (s : State) (k result : Nat) (v : Option (Int × Int)) :
    s.Stays (s.proofStop k result v) [.proof] [⟨13, 2, 2⟩] := by
  unfold State.proofStop
  split
  · exact State.Stays.refl s _ _
  · exact ((State.Stays.refl s _ _).setPrf _ (by decide)).trans (State.stays_showProofs _)

/-- A proof that starts holds its resource, and proof 7.1 fires its source (R487, R493). -/
theorem opProof_stays (v0 v1 : Int) (q : Req) (s : State) : (opProof v0 v1 q s).Stays s [.proof] [⟨13, 2, 2⟩] := by
  have same := State.Stays.refl s [.proof] [⟨13, 2, 2⟩]
  unfold opProof
  iterate 2 refine .ite True.intro ?_
  refine .ite (same.foldl fun u k _ h => h.trans (u.stays_proofStop k 0 none)) ?_
  iterate 3 refine .ite True.intro ?_
  refine .ite (.ite True.intro (.ite True.intro ?_)) ?_
  · have started := fun p => ((((same.setPrf p (by decide)).trans (State.stays_showProofs _)).setF F.UART_PROOF_LAST_LAST_G
      (q.field 4 1) (by decide)).setF F.UART_PROOF_LAST_LAST_I (q.field 5 1) (by decide))
    exact State.Stays.ite ((started _).fire _ _ _) (started _)
  · dsimp only
    split
    · exact .ite (.ite (s.stays_proofStop _ _ _) same) same
    · exact same

end

/-- An operation whose row names one action refuses the others (R225, R487). -/
theorem OpOut.stays_unless {s : State} {ps : List Part} {us : List Units} {c : Prop} [Decidable c] {o : OpOut} (off : Nat)
    (h : o.Stays s ps us) : (if c then .bad off else o).Stays s ps us := .ite True.intro h

/-- Settles O45: each request is answered by its operation, whose frame is that of its row. -/
theorem setAndActionRequestsTouchTheirTables : Obligations.SetAndActionRequestsTouchTheirTables := by
  intro s t q v0 v1 a
  simp only [List.forall_mem_cons, List.not_mem_nil, false_implies, implies_true, and_true]
  refine ⟨⟨?_, ?_, ?_, ?_, ?_, ?_, ?_⟩, ?_, ⟨?_, ?_, ?_, ?_, ?_⟩, ?_, ⟨?_, ?_, ?_, ?_⟩, ?_, ?_, ?_, ?_, ⟨?_, ?_⟩, ?_, ?_, ?_,
    ?_, ?_, ⟨?_, ?_, ?_⟩⟩ <;> intro e
  · exact exec_request_touches e fun u => onUnits_stays _ (opSessionSet_stays _ u)
  · exact exec_request_touches e fun u => opFwBlock_stays _ u
  · exact exec_request_touches e fun u => opFwCommit_stays _ u
  · exact exec_request_touches e fun u => opRecall_stays _ u
  · exact exec_request_touches e fun u => opFactoryRecall_stays _ u
  · exact exec_request_touches e fun u => opSelftest_stays _ u
  · exact exec_request_touches e fun u => opLogFlush_stays _ u
  · exact exec_request_touches e fun u => opMemRetrain_stays _ u
  · exact exec_request_touches e fun u => onUnits_stays _ (wholeUnit_stays (opNetPortSet_stays _ u))
  · exact exec_request_touches e fun u => onUnits_stays _ (opRxSet_stays _ u)
  · exact exec_request_touches e fun u => onUnits_stays _ (opTxSet_stays _ u)
  · exact exec_request_touches e fun u => opSdpImport_stays _ u
  · exact exec_request_touches e fun u => opDirImport_stays _ u
  · exact exec_request_touches e fun u => onUnits_stays _ (opTxDisable_stays _ u)
  · exact exec_request_touches e fun u => onUnits_stays _ (opGraphSet_stays _ u)
  · exact exec_request_touches e fun u => opGraphLoad_stays _ u
  · exact exec_request_touches e fun u => opGraphParam_stays _ u
  · exact exec_request_touches e fun u => onUnits_stays _ (opGraphDisable_stays _ u)
  · exact exec_request_touches e fun u => opGraphSwap_stays _ u
  · exact exec_request_touches e fun u => opTrgDisarm_stays _ u
  · exact exec_request_touches e fun u => opTsqRead_stays _ u
  · exact exec_request_touches e fun u => opAlign_stays _ u
  · exact exec_request_touches e fun u => OpOut.stays_unless 17 (opMdio_stays a _ u)
  · exact exec_request_touches e fun u => OpOut.stays_unless 17 (opMdio_stays none _ u)
  · exact exec_request_touches e fun u => opPairTakeover_stays _ u
  · exact exec_request_touches e fun u => opReset_stays _ u
  · exact exec_request_touches e fun u => opBaselineReset_stays _ u
  · exact exec_request_touches e fun u => opCalRun_stays _ u
  · exact exec_request_touches e fun u => opCalApprove_stays _ u
  · exact exec_request_touches e fun u => OpOut.stays_unless 22 (opProof_stays v0 v1 _ u)
  · exact exec_request_touches e fun u => OpOut.stays_unless 22 (opProof_stays v0 v1 _ u)
  · exact exec_request_touches e fun u => OpOut.stays_unless 22 (opProof_stays v0 v1 _ u)

end Sys2Proof.Machine
end

section
/-!
Acts on the timebase (R13, R109, R113, R124, R125, R127, R129): tick boundaries, steps, time-of-day changes, leaps and
asymmetry.
-/

namespace Sys2Proof.Machine

/-! ## Reading over a frame, and number facts -/

section
variable {s t : State} {ps : List Part} {us : List Units}

/-- A field outside a frame's units, and none that every command may write, reads the same. -/
theorem State.Stays.getF (h : s.Stays t ps us) (f : Fld) (hu : f.inUnits us = false) (hb : f.key ∉ serveKeys := by decide) :
    t.getF f = s.getF f :=
  h.touches.2 f (by rwa [bookFields_keys]) fun w => by simp [(f.within_iff_inUnits us).1 w] at hu

theorem State.Stays.on (h : s.Stays t ps us) (f : Fld) (hu : f.inUnits us = false) (hb : f.key ∉ serveKeys := by decide) :
    t.on f = s.on f := by simp [State.on, h.getF f hu hb]

theorem State.Stays.time (h : s.Stays t ps us) (hp : .time ∉ ps := by decide) : t.time = s.time := h.touches.1.2 .time hp

theorem State.Stays.dsp (h : s.Stays t ps us) (hp : .dsp ∉ ps := by decide) : t.dsp = s.dsp := h.touches.1.2 .dsp hp

end

theorem satNat_lt (w v : Nat) : satNat w v < 2 ^ w := by
  have := Nat.two_pow_pos w
  unfold satNat
  split <;> omega

theorem unsigned_lt (w : Nat) (v : Int) : unsigned w v < 2 ^ w := by
  have pos : (0 : Int) < (2 ^ w : Nat) := by exact_mod_cast Nat.two_pow_pos w
  have := Int.emod_lt_of_pos v pos
  have := Int.emod_nonneg v pos.ne'
  unfold unsigned
  omega

/-- A number that fits 16 bits is read back from its two's complement. -/
theorem signed_unsigned_16 {v : Int} (h : v.natAbs < 2 ^ 15) : signed 16 (unsigned 16 v) = v := by
  unfold signed unsigned
  split <;> omega

/-- A saturating counter moves on by one and saturates. -/
theorem State.getF_incSat (s : State) (f : Fld) : (s.incSat f).getF f = satNat f.width (s.getF f + 1) := by
  rw [State.incSat, State.addSat, State.getF_setF_self, Nat.mod_eq_of_lt (satNat_lt _ _)]

/-! ## A happening of a running block -/

theorem happen_whenAlive (g : State → State) {s : State} (h : s.alive = true) :
    ∃ t, happen (fun s => s.whenAlive g) s = .next t ∧ State.Settled (g s.fresh) t := by
  obtain ⟨t, e, settled⟩ := happen_settled (fun s => s.whenAlive g) s
  have body : s.fresh.whenAlive g = g s.fresh := if_pos h
  exact ⟨t, e, body ▸ settled⟩

theorem happen_whenPort (g : State → State) {s : State} {p : Nat} (h : s.alive = true) (powered : s.unpowered 3 p = false) :
    ∃ t, happen (fun s => s.whenPort p g) s = .next t ∧ State.Settled (g s.fresh) t := by
  obtain ⟨t, e, settled⟩ := happen_settled (fun s => s.whenPort p g) s
  have runs : (s.fresh.alive && !s.fresh.unpowered 3 p) = true := by
    have : s.fresh.unpowered 3 p = false := powered
    simp [this, show s.fresh.alive = true from h]
  have body : s.fresh.whenPort p g = g s.fresh := if_pos runs
  exact ⟨t, e, body ▸ settled⟩

/-! ## The tick (R13) -/

/-- The grid position depends on the clock and on the rate family. -/
theorem State.gridTick_congr {s t : State} (ht : t.time.sec = s.time.sec) (hc : t.time.cyc = s.time.cyc)
    (hf : t.on F.LOOP_MEDIA_FAMILY = s.on F.LOOP_MEDIA_FAMILY) : t.gridTick = s.gridTick := by
  simp [State.gridTick, State.tps, State.rate, ht, hc, hf]

/-- A clock set to a whole tick stands on that tick: a second is a whole number of ticks in either family (R109). -/
theorem State.gridTick_setGrid (s : State) (n : Nat) : (s.setGrid (n * 3072)).gridTick = n := by
  have grid : (s.setGrid (n * 3072)).gridTick = n * 3072 / s.rate * s.tps + n * 3072 % s.rate / 3072 := rfl
  rw [grid]
  unfold State.tps State.rate
  split <;> omega

theorem State.aoTick_family (s : State) (n : Nat) : (s.aoTick n).on F.LOOP_MEDIA_FAMILY = s.on F.LOOP_MEDIA_FAMILY := by
  simp only [State.on, State.aoTick, State.set64]
  rw [State.getF_setF_ne _ _ (by decide), State.getF_setF_ne _ _ (by decide)]

/-- The next boundary of the grid is one tick on. -/
theorem State.gridTick_toBoundary {s : State} (h : s.time.onGrid = false) : s.toBoundary.gridTick = s.gridTick + 1 := by
  unfold State.toBoundary
  rw [h]
  simp only [Bool.false_eq_true, if_false]
  split
  · refine (State.gridTick_congr ?_ ?_ ?_).trans (s.gridTick_setGrid (s.gridTick + 1))
    · rfl
    · rfl
    · exact State.aoTick_family _ _
  · exact s.gridTick_setGrid (s.gridTick + 1)

/-- With no load and no step pending a boundary steps nothing. -/
theorem State.stepNow_of_idle {s : State} (load : s.time.load = none) (step : s.time.step = none) : s.stepNow = s := by
  unfold State.stepNow State.dueStep
  rw [load, step]

/-- A tick boundary with no step pending processes the next tick of the grid (R13). -/
theorem tickBoundary_acts {s : State} (inp : TickIn) (alive : s.alive = true) (load : s.time.load = none)
    (step : s.time.step = none) (grid : s.time.onGrid = false) :
    ∃ t, exec (.tickBoundary inp) s = .next t ∧ t.str.lastTick = some (s.gridTick + 1) ∧ t.time.onGrid = false := by
  obtain ⟨t, e, settled⟩ := happen_whenAlive (tickBoundary inp) alive
  refine ⟨t, e, ?_, by rw [settled.time]; rfl⟩
  have tick : s.fresh.stepNow.toBoundary.gridTick = s.gridTick + 1 := by
    rw [State.stepNow_of_idle (s := s.fresh) load step]
    exact State.gridTick_toBoundary (s := s.fresh) grid
  rw [settled.str, ← tick]
  rfl

/-! ## Steps of the timebase (R124, R125) -/

/-- Restarting a domain's averages leaves the registers and what is pending. -/
theorem State.restartAverages_keeps (s : State) (d : Nat) : (s.restartAverages d).regs = s.regs ∧
    (s.restartAverages d).time.load = s.time.load ∧ (s.restartAverages d).time.step = s.time.step := by
  unfold State.restartAverages State.setDom
  split <;> exact ⟨rfl, rfl, rfl⟩

/-- What a step does before the averages of the domains start anew (R124). -/
def State.stepCounted (s : State) (ticks : Int) : State :=
  let ns := (s.setGrid (((s.time.sec * s.rate + s.time.cyc : Nat) : Int) + ticks * 3072).toNat).ticksNs ticks
  ((((s.setGrid (((s.time.sec * s.rate + s.time.cyc : Nat) : Int) + ticks * 3072).toNat).setF F.TB_STATUS_SET 1).fire
    Ev.TIME_STEP (objId 1 0 0) (unsigned 32 (satSigned 32 ns))).set64 F.TB_LAST_STEP_LO F.TB_LAST_STEP_HI
    (unsigned 64 ns)).incSat F.TB_STEP_COUNT

theorem State.applyStep_eq (s : State) (ticks : Int) :
    s.applyStep ticks = ((s.stepCounted ticks).restartAverages 0).restartAverages 1 := rfl

theorem State.stepCounted_sets (s : State) (ticks : Int) : (s.stepCounted ticks).on F.TB_STATUS_SET = true ∧
    (s.stepCounted ticks).time.load = s.time.load ∧ (s.stepCounted ticks).time.step = s.time.step := by
  unfold State.stepCounted
  dsimp only
  set moved := s.setGrid (((s.time.sec * s.rate + s.time.cyc : Nat) : Int) + ticks * 3072).toNat
  set detail := unsigned 32 (satSigned 32 (moved.ticksNs ticks))
  have fired := (moved.setF F.TB_STATUS_SET 1).traces_fire Ev.TIME_STEP (objId 1 0 0) detail
  refine ⟨?_, (congrArg TimeState.load fired.time :), (congrArg TimeState.step fired.time :)⟩
  simp only [State.on, State.incSat, State.addSat, State.set64]
  rw [State.getF_setF_ne _ _ (by decide), State.getF_setF_ne _ _ (by decide), State.getF_setF_ne _ _ (by decide), fired.getF,
    State.getF_setF_self]
  rfl

/-- A step sets SET and leaves what is pending (R124). -/
theorem State.applyStep_sets (s : State) (ticks : Int) : (s.applyStep ticks).on F.TB_STATUS_SET = true ∧
    (s.applyStep ticks).time.load = s.time.load ∧ (s.applyStep ticks).time.step = s.time.step := by
  obtain ⟨set, load, step⟩ := s.stepCounted_sets ticks
  obtain ⟨regs0, load0, step0⟩ := (s.stepCounted ticks).restartAverages_keeps 0
  obtain ⟨regs1, load1, step1⟩ := ((s.stepCounted ticks).restartAverages 0).restartAverages_keeps 1
  rw [State.applyStep_eq, State.on_congr _ (regs1.trans regs0), load1, load0, step1, step0]
  exact ⟨set, load, step⟩

/-- A load that is due is taken: SET stands and nothing is pending (R125). -/
theorem State.dueStep_of_load {s : State} {l : StepPend} (load : s.time.load = some l)
    (due : l.due ≤ (if s.time.onGrid then s.gridTick else s.gridTick + 1)) :
    s.dueStep.2.on F.TB_STATUS_SET = true ∧ s.dueStep.2.time.load = none ∧ s.dueStep.2.time.step = none := by
  unfold State.dueStep
  rw [load]
  simp only [if_pos due]
  split
  · exact ⟨State.on_setF_one _ _ rfl, rfl, rfl⟩
  · exact State.applyStep_sets _ _

/-! What follows a step moves the streams, the graphs, the amplifiers, the stamps and the outputs with it. -/

theorem State.stays_rxStep (s : State) (old : Nat) (n : Int) : s.Stays (s.rxStep old n) [.streams] [⟨4, 3, 3⟩] := by
  unfold State.rxStep
  dsimp only
  exact .ite (((State.Stays.refl s _ _).setStr _ (by decide)).addSat _ _ (by decide))
    (((State.Stays.refl s _ _).setStr _ (by decide)).setStr _ (by decide))

theorem State.stays_setTimed (s : State) {p : Nat} (l : List TimedFrame) (hp : p < 4) :
    s.Stays (s.setTimed p l) [.stamps] [⟨1, 4, 7⟩] := by
  have level : ∀ p < 4, (F.TSU_TTQ_STATUS_LEVEL p).inUnits [⟨1, 4, 7⟩] = true := by decide
  exact ((State.Stays.refl s _ _).setStamps _ (by decide)).setF _ _ (level p hp)

theorem State.stays_timedOvertaken (s : State) : s.Stays s.timedOvertaken [.stamps] [⟨1, 4, 7⟩] := by
  unfold State.timedOvertaken
  refine (State.Stays.refl s _ _).foldl fun u p hp h => h.trans (u.stays_setTimed _ ?_)
  rcases List.mem_pair.1 hp with rfl | rfl <;> decide

theorem State.stays_trgStep (s : State) (n : Int) : s.Stays (s.trgStep n) [.stamps] [⟨1, 32, 63⟩] := by
  unfold State.trgStep
  refine .ite (State.Stays.refl s _ _) ((State.Stays.refl s _ _).foldl fun u k hk h => .ite ?_ h)
  exact (h.setF _ _ (trgState_inUnits k (List.mem_range.1 hk))).setStamps _ (by decide)

theorem State.stays_refreshMis (s : State) : s.Stays s.refreshMis [] [⟨2, 11, 11⟩, ⟨1, 8, 11⟩] := by
  have generator : ∀ n < 4, (F.CC_STATUS_MISALIGNED n).inUnits [⟨2, 11, 11⟩, ⟨1, 8, 11⟩] = true := by decide
  unfold State.refreshMis
  dsimp only
  generalize (List.range 5).foldl (fun a b => a + (if s.misaligned b then 2 ^ b else 0)) 0 = m
  have shown := State.Stays.foldl (l := List.range 4) (f := fun u n => u.setF (F.CC_STATUS_MISALIGNED n) (b2n (m.testBit (n + 1))))
    (((State.Stays.refl s [] [⟨2, 11, 11⟩, ⟨1, 8, 11⟩]).setF F.OUT_MIS_MASK m (by decide)).setI F.OUT_PPS_OFF
      s.ppsOff (by decide)) fun u n hn h => h.setF _ _ (generator n (List.mem_range.1 hn))
  exact .ite (shown.setRaw _ _) shown

theorem State.stays_stepOutputs (s : State) (n : Int) : s.Stays (s.stepOutputs n) [.clock] [⟨2, 11, 11⟩, ⟨1, 8, 11⟩] := by
  unfold State.stepOutputs
  dsimp only
  refine State.Stays.ite (State.Stays.fire (State.Stays.setRaw ?_ _ _) _ _ _) ?_
  all_goals
    refine State.Stays.andThen ?_ (State.stays_refreshMis _)
    exact (State.Stays.refl s _ _).foldl fun u b _ h => .ite (h.setClk _ (by decide)) h

theorem State.stays_updateH (s : State) (d : Nat) : s.Stays (s.updateH d) [.streams] [] := by
  have moved : ∀ n, s.Stays (s.moveH d n) [.streams] [] := fun n => (State.Stays.refl s _ _).setStr _ (by decide)
  unfold State.updateH
  dsimp only
  refine .ite (State.Stays.refl s _ _) (.ite ((State.Stays.refl s _ _).setStr _ (by decide)) ?_)
  exact .ite (moved _) (.ite (moved _) (State.Stays.refl s _ _))

theorem State.stays_updateHs (s : State) : s.Stays s.updateHs [.streams] [] :=
  (s.stays_updateH 0).trans (State.stays_updateH _ 1)

/-- What follows a step leaves time and the registers of the timebase as the step set them. -/
theorem State.stays_stepNow (s : State) : s.dueStep.2.Stays s.stepNow [.streams, .dsp, .amps, .stamps, .clock]
    [⟨4, 3, 3⟩, ⟨1, 4, 7⟩, ⟨1, 32, 63⟩, ⟨2, 11, 11⟩, ⟨1, 8, 11⟩] := by
  unfold State.stepNow
  dsimp only
  split
  · next h => rw [h]; exact State.Stays.refl _ _ _
  · next n u h =>
    rw [h]
    refine State.Stays.andThen ?_ (State.stays_updateHs _)
    refine State.Stays.andThen ?_ (State.stays_stepOutputs _ n)
    refine State.Stays.andThen ?_ (State.stays_trgStep _ n)
    refine State.Stays.andThen ?_ (State.stays_timedOvertaken _)
    refine State.Stays.setAmp ?_ _ (by decide)
    refine State.Stays.setDsp ?_ _ (by decide)
    exact (State.Stays.refl u _ _).andThen (u.stays_rxStep _ n)

/-- A due load is taken and sets SET (R125). -/
theorem timeStep_acts {s : State} {l : StepPend} (alive : s.alive = true) (load : s.time.load = some l)
    (due : l.due ≤ (if s.time.onGrid then s.gridTick else s.gridTick + 1)) :
    ∃ t, exec .timeStep s = .next t ∧ t.on F.TB_STATUS_SET = true ∧ t.time.load = none ∧ t.time.step = none := by
  obtain ⟨t, e, settled⟩ := happen_whenAlive State.stepNow alive
  obtain ⟨set, noLoad, noStep⟩ := State.dueStep_of_load (s := s.fresh) load due
  have after := s.fresh.stays_stepNow
  refine ⟨t, e, ?_, ?_, ?_⟩
  · rw [settled.on _ (by decide), after.on _ (by decide), set]
  · rw [settled.time, after.time, noLoad]
  · rw [settled.time, after.time, noStep]

/-! ## The time of day (R113, R127, R129) -/

theorem State.stays_refreshGm (s : State) : s.Stays s.refreshGm [.streams] [] := by
  unfold State.refreshGm
  refine (State.Stays.refl s _ _).foldl fun u d _ h => ?_
  have last : ∀ x, s.Stays { u with str := x } [.streams] [] := fun x => h.setStr x (by decide)
  refine State.Stays.ite h (.ite (last _) ?_)
  exact (last _).foldl fun v e _ hv => .ite (hv.trans (v.stays_bumpVersion e)) hv

theorem State.stays_ptpSettle (s : State) : s.Stays s.ptpSettle [.streams] [] :=
  (s.stays_updateHs.trans (State.stays_refreshTsMiss _)).trans (State.stays_refreshGm _)

/-- The time of day a change sets. -/
def State.todSet (s : State) (d : Nat) : State :=
  (({ s with time := { s.time with tod := none, step := none } }.setF F.TB_STATUS_TOD_ACT (d + 1)).setF (F.D_STATE_TOD 0)
    (b2n (d == 0))).setF (F.D_STATE_TOD 1) (b2n (d == 1))

/-- A change of the time of day leaves a trace of what it set. -/
theorem todChange_traces {s : State} {d : Nat} (h : s.time.tod = some d) :
    State.Traces (s.toBoundary.todSet d) (todChange s) := by
  unfold todChange
  rw [h]
  dsimp only
  split
  · exact State.traces_logE _ _ _ _ _ _ _ _
  · exact State.Traces.refl _

theorem State.todSet_sets (s : State) {d : Nat} (h : d < 2) : (s.todSet d).isTod d = true ∧
    (s.todSet d).on (F.D_STATE_TOD d) = true ∧ (s.todSet d).on (F.D_STATE_TOD (1 - d)) = false := by
  unfold State.isTod State.on State.todSet
  obtain rfl | rfl : d = 0 ∨ d = 1 := by omega
  · rw [State.getF_setF_ne _ _ (by decide), State.getF_setF_ne _ _ (by decide), State.getF_setF_self,
      State.getF_setF_ne _ _ (by decide), State.getF_setF_self, State.getF_setF_self]
    decide
  · rw [State.getF_setF_ne _ _ (by decide), State.getF_setF_ne _ _ (by decide), State.getF_setF_self,
      State.getF_setF_self, State.getF_setF_ne _ _ (by decide), State.getF_setF_self]
    decide

/-- A change of time-of-day domain stands in TOD_ACT and in the domains' TOD bits (R127). -/
theorem todChange_acts {s : State} {d : Nat} (alive : s.alive = true) (tod : s.time.tod = some d) (hd : d < 2) :
    ∃ t, exec .todChange s = .next t ∧ t.isTod d = true ∧ t.on (F.D_STATE_TOD d) = true ∧
      t.on (F.D_STATE_TOD (1 - d)) = false ∧ t.time.tod = none := by
  obtain ⟨t, e, settled⟩ := happen_whenAlive (fun s => (todChange s).ptpSettle) alive
  have traces := todChange_traces (s := s.fresh) tod
  have after := (State.stays_ptpSettle (todChange s.fresh))
  have reads : ∀ f : Fld, f.key ∉ serveKeys → t.getF f = (s.fresh.toBoundary.todSet d).getF f := fun f hf => by
    rw [settled.getF f fun h => hf (List.mem_append_left _ h), after.getF f rfl hf, traces.getF]
  have tods : ∀ d < 2, (F.D_STATE_TOD d).key ∉ serveKeys := by decide
  obtain ⟨act, this, other⟩ := s.fresh.toBoundary.todSet_sets hd
  unfold State.on at this other
  unfold State.isTod at act
  rw [← reads _ (by decide)] at act
  rw [← reads _ (tods _ hd)] at this
  rw [← reads _ (tods _ (by omega))] at other
  exact ⟨t, e, act, this, other, by rw [settled.time, after.time, traces.time]; rfl⟩

/-- The offset of UTC takes a value at the end of a leap day: the event, and a trace in the log (R113). -/
def State.utcMove (s : State) (n : Int) : State :=
  ((s.setF F.TB_STATUS_UTC_OFFSET (unsigned 16 n)).fire Ev.LEAP (objId 1 0 0) (unsigned 16 n)).logState orgPtp (objId 1 0 2)
    (s.getF F.TB_STATUS_UTC_OFFSET) (unsigned 16 n)

theorem leapDayEnd_of_leap61 {s : State} (h : s.on F.TB_STATUS_LEAP61 = true) :
    leapDayEnd s = s.utcMove (s.getI F.TB_STATUS_UTC_OFFSET + 1) := if_pos h

theorem leapDayEnd_of_leap59 {s : State} (h61 : s.on F.TB_STATUS_LEAP61 = false) (h : s.on F.TB_STATUS_LEAP59 = true) :
    leapDayEnd s = s.utcMove (s.getI F.TB_STATUS_UTC_OFFSET - 1) :=
  (if_neg (by simp [h61])).trans (if_pos h)

theorem State.utcMove_moves (s : State) (n : Int) :
    (s.utcMove n).getF F.TB_STATUS_UTC_OFFSET = unsigned 16 n ∧ Ev.LEAP ∈ (s.utcMove n).ev.sticky := by
  set moved := s.setF F.TB_STATUS_UTC_OFFSET (unsigned 16 n)
  have logged := (moved.fire Ev.LEAP (objId 1 0 0) (unsigned 16 n)).traces_logE orgPtp 0 kSTATE false (objId 1 0 2)
    (s.getF F.TB_STATUS_UTC_OFFSET) (unsigned 16 n)
  refine ⟨?_, logged.sticky _ (State.fire_sticky _ _ _ _)⟩
  refine (((moved.traces_fire _ _ _).trans logged).getF _).trans ?_
  exact (State.getF_setF_self _ _ _).trans (Nat.mod_eq_of_lt (unsigned_lt 16 n))

/-- The end of a leap day moves UTC_OFFSET with LEAP (R113). -/
theorem leapDayEnd_acts {s : State} {n : Int} (alive : s.alive = true)
    (moves : leapDayEnd s.fresh = s.fresh.utcMove n) :
    ∃ t, exec .leapDayEnd s = .next t ∧ t.getF F.TB_STATUS_UTC_OFFSET = unsigned 16 n ∧ Ev.LEAP ∈ t.ev.sticky := by
  obtain ⟨t, e, settled⟩ := happen_whenAlive leapDayEnd alive
  rw [moves] at settled
  obtain ⟨offset, leap⟩ := s.fresh.utcMove_moves n
  exact ⟨t, e, (settled.getF _ (by decide)).trans offset, settled.sticky _ leap⟩

/-- The correction of a domain's asymmetry moves: the event, and a trace in the log (R129). -/
def State.asymMove (s : State) (d : Nat) (new : Int) : State :=
  (((((s.setF F.TB_STATUS_ASYM_AT_LIMIT 0).setRaw Ev.ASYM_LIMIT false).setI (F.D_ASYM_ADJ d) new).fire Ev.ASYM_STEP
    (objId 1 (d + 1) 0) (unsigned 16 new + 65536 * d)).logState orgPtp (objId 1 (d + 1) 3)
      (unsigned 16 (s.getI (F.D_ASYM_ADJ d))) (unsigned 16 new))

theorem State.asymMove_moves (s : State) {d : Nat} {new : Int} (small : new.natAbs < 2 ^ 15) :
    (s.asymMove d new).getI (F.D_ASYM_ADJ d) = new ∧ Ev.ASYM_STEP ∈ (s.asymMove d new).ev.sticky := by
  set moved := ((s.setF F.TB_STATUS_ASYM_AT_LIMIT 0).setRaw Ev.ASYM_LIMIT false).setI (F.D_ASYM_ADJ d) new with hm
  have logged := (moved.fire Ev.ASYM_STEP (objId 1 (d + 1) 0) (unsigned 16 new + 65536 * d)).traces_logE orgPtp 0 kSTATE
    false (objId 1 (d + 1) 3) (unsigned 16 (s.getI (F.D_ASYM_ADJ d))) (unsigned 16 new)
  refine ⟨?_, logged.sticky _ (State.fire_sticky _ _ _ _)⟩
  have reads : (s.asymMove d new).getF (F.D_ASYM_ADJ d) = unsigned 16 new := by
    refine (((moved.traces_fire _ _ _).trans logged).getF _).trans ?_
    exact (State.getF_setF_self _ _ _).trans (Nat.mod_eq_of_lt (unsigned_lt 16 new))
  rw [State.getI, reads]
  exact signed_unsigned_16 small

/-- An estimate far from zero moves the other domain's correction by one within the limit (R129). -/
theorem asymTrackPeriod_of_far {s : State} {lim d : Nat} {est new : Int} (active : s.asymActive = true)
    (far : 65536 ≤ est.natAbs) (hd : d = if s.isTod 0 then 1 else 0)
    (hnew : new = if est > 0 then s.getI (F.D_ASYM_ADJ d) + 1 else s.getI (F.D_ASYM_ADJ d) - 1) (hlim : new.natAbs ≤ lim) :
    asymTrackPeriod lim est s = (s.setISat F.TB_ASYM_EST est).asymMove d new := by
  have tod : (s.setISat F.TB_ASYM_EST est).isTod 0 = s.isTod 0 := by
    rw [State.isTod, State.isTod, State.setISat, State.getF_setF_ne _ _ (by decide)]
  have adj : (s.setISat F.TB_ASYM_EST est).getI (F.D_ASYM_ADJ d) = s.getI (F.D_ASYM_ADJ d) := by
    have other : ∀ d < 2, (F.D_ASYM_ADJ d).key ≠ F.TB_ASYM_EST.key := by decide
    rw [State.getI, State.getI, State.setISat, State.getF_setF_ne _ _ (other d (by rw [hd]; split <;> decide))]
  unfold asymTrackPeriod
  simp only [active, tod, ← hd, adj, ← hnew]
  rw [if_neg (by decide), if_neg (by omega), if_neg (by omega), ← adj]
  rfl

theorem State.stays_asymMinute (s : State) (est : Int) : s.Stays (s.asymMinute est) [.health] [] := by
  unfold State.asymMinute
  dsimp only
  exact .ite ((State.Stays.refl s _ _).setHealth _ (by decide)) ((State.Stays.refl s _ _).setHealth _ (by decide))

theorem asymLimit_le (k : Nat) : [10, 30, 100, 300, 1000, 3000, 10000].getD k 0 ≤ 10000 := by
  by_cases h : k < 7
  · interval_cases k <;> decide
  · rw [List.getD_eq_default _ _ (by simpa using h)]
    decide

/-- A period of asymmetry tracking moves the other domain's correction within the limit of trust (R129). -/
theorem asymTrackPeriod_acts {s : State} {est new : Int} {d : Nat} (alive : s.alive = true) (active : s.asymActive = true)
    (far : 65536 ≤ est.natAbs) (hd : d = if s.isTod 0 then 1 else 0)
    (hnew : new = if est > 0 then s.getI (F.D_ASYM_ADJ d) + 1 else s.getI (F.D_ASYM_ADJ d) - 1)
    (hlim : new.natAbs ≤ [10, 30, 100, 300, 1000, 3000, 10000].getD s.trustCode 0) :
    ∃ t, exec (.asymTrackPeriod est) s = .next t ∧ t.getI (F.D_ASYM_ADJ d) = new ∧ Ev.ASYM_STEP ∈ t.ev.sticky := by
  obtain ⟨t, e, settled⟩ := happen_whenAlive (asymPeriod est) alive
  have two : d < 2 := by rw [hd]; split <;> decide
  have := asymLimit_le s.trustCode
  obtain ⟨adj, step⟩ := (s.fresh.setISat F.TB_ASYM_EST est).asymMove_moves (d := d) (new := new) (by omega)
  rw [← asymTrackPeriod_of_far (s := s.fresh) active far hd hnew hlim] at adj step
  have after := State.stays_asymMinute (asymTrackPeriod ([10, 30, 100, 300, 1000, 3000, 10000].getD s.trustCode 0) est s.fresh) est
  have body : asymPeriod est s.fresh =
      (asymTrackPeriod ([10, 30, 100, 300, 1000, 3000, 10000].getD s.trustCode 0) est s.fresh).asymMinute est := if_pos active
  rw [body] at settled
  have kept : ∀ d < 2, (F.D_ASYM_ADJ d).key ∉ serveKeys := by decide
  refine ⟨t, e, ?_, settled.sticky _ (after.sticky _ step)⟩
  rw [← adj, State.getI, State.getI, settled.getF _ fun h => kept d two (List.mem_append_left _ h),
    after.getF _ rfl (kept d two)]

end Sys2Proof.Machine
end

section
/-!
Pulses, triggers and timed frames (R147, R153, R156), and the statement on everything that acts on time.
-/

namespace Sys2Proof.Machine

/-! ## Grid points of a generator (R153) -/

/-- The time of the block depends on the clock and on the rate family. -/
theorem State.now_congr {s t : State} (ht : t.time = s.time) (hf : t.on F.LOOP_MEDIA_FAMILY = s.on F.LOOP_MEDIA_FAMILY) :
    t.now = s.now := by
  simp [State.now, State.rate, ht, hf]

theorem State.traces_ccPulse (s : State) (n : Nat) :
    State.Traces ((s.setF (F.CC_PULSES n) (s.getF (F.CC_PULSES n) + 1)).emit
      (.pulse n (s.setF (F.CC_PULSES n) (s.getF (F.CC_PULSES n) + 1)).now)) (s.ccPulse n) := by
  unfold State.ccPulse
  dsimp only
  split
  · exact State.Traces.refl _
  · exact State.traces_fire _ _ _ _

/-- A pulse counts and leaves the block with its time. -/
theorem State.ccPulse_pulses (s : State) {n : Nat} (hn : n < 4) :
    (s.ccPulse n).getF (F.CC_PULSES n) = (s.getF (F.CC_PULSES n) + 1) % 2 ^ 32 ∧ Emit.pulse n s.now ∈ (s.ccPulse n).out := by
  have family : ∀ n < 4, F.LOOP_MEDIA_FAMILY.key ≠ (F.CC_PULSES n).key := by decide
  have now : (s.setF (F.CC_PULSES n) (s.getF (F.CC_PULSES n) + 1)).now = s.now :=
    State.now_congr rfl (by rw [State.on, State.on, State.getF_setF_ne _ _ (family n hn)])
  have traces := s.traces_ccPulse n
  refine ⟨(traces.getF _).trans (State.getF_setF_self _ _ _), traces.out.subset ?_⟩
  rw [now]
  exact List.mem_append_right _ (List.mem_singleton_self _)

theorem State.stays_release (s : State) (o : Nat) (comp : OwnerC) (img : List Byte) (tick at_ : Nat) (blks : KV Blk)
    (ecc : List Nat) : s.Stays (s.release o comp img tick at_ blks ecc) [.dsp] [⟨5, 64, 64⟩] :=
  (((State.Stays.refl s _ _).setDsp _ (by decide)).addSat F.SCHED_SPILLS _ (by decide)).setDsp _ (by decide)

/-- The releases a grid point makes are the graphs' own (R285, R312). -/
theorem State.stays_releaseControl (s : State) (gen : Nat) : s.Stays (s.releaseControl gen) [.dsp] [⟨5, 64, 64⟩] := by
  unfold State.releaseControl
  dsimp only
  refine .ite (State.Stays.refl s _ _) ((State.Stays.refl s _ _).foldl fun u q _ h => ?_)
  exact .ite h (.ite (h.fire _ _ _) (h.trans (u.stays_release _ _ _ _ _ _ _)))

/-- A grid point of a running generator counts and pulses (R153). -/
theorem ccGridPoint_acts {s : State} (n : Fin 4) (alive : s.alive = true) (running : s.on (F.CC_STATUS_RUNNING n) = true) :
    ∃ t, exec (.ccGridPoint n) s = .next t ∧ t.getF (F.CC_PULSES n) = (s.getF (F.CC_PULSES n) + 1) % 2 ^ 32 ∧
      Emit.pulse n s.now ∈ t.out := by
  obtain ⟨t, e, settled⟩ := happen_whenAlive (ccGridPoint n) alive
  have body : ccGridPoint n s.fresh = (s.fresh.ccPulse n).releaseControl n := if_pos running
  rw [body] at settled
  obtain ⟨pulses, pulse⟩ := s.fresh.ccPulse_pulses n.isLt
  have after := (s.fresh.ccPulse n).stays_releaseControl n
  have kept : ∀ n < 4, (F.CC_PULSES n).key ∉ serveKeys := by decide
  have outside : ∀ n < 4, (F.CC_PULSES n).inUnits [⟨5, 64, 64⟩] = false := by decide
  refine ⟨t, e, ?_, settled.out.subset (after.out.subset pulse)⟩
  rw [settled.getF _ fun h => kept n n.isLt (List.mem_append_left _ h), after.getF _ (outside n n.isLt) (kept n n.isLt)]
  exact pulses

/-! ## Triggers (R147) -/

/-- The LENT states follow the generators, and no other field does (R154). -/
theorem State.getF_syncLent (s : State) {f : Fld} (h : ∀ j, f.key ≠ (F.TRG_STATUS_STATE j).key) :
    s.syncLent.getF f = s.getF f := by
  unfold State.syncLent
  refine List.foldlRecOn (motive := fun u : State => u.getF f = s.getF f) _ _ rfl fun u hu j _ => ?_
  dsimp only
  repeat' split
  all_goals simpa only [State.getF_setF_ne _ _ (h j)] using hu

/-- A trigger that is not armed is not armed by lending (R154). -/
theorem State.trgArmed_syncLent {s : State} {k : Nat} (h : s.trgArmed k = false) : s.syncLent.trgArmed k = false := by
  have set : ∀ (u : State) (j v : Nat), u.trgArmed k = false → v = 0 ∨ v = 3 →
      (u.setF (F.TRG_STATUS_STATE j) v).trgArmed k = false := fun u j v hu hv => by
    unfold State.trgArmed at hu ⊢
    by_cases hj : j = k
    · rw [hj, State.getF_setF_self]
      rcases hv with rfl | rfl <;> rfl
    · rwa [State.getF_setF_ne _ _ (by simp only [Fld.key, fieldKey, F.TRG_STATUS_STATE]; omega)]
  unfold State.syncLent
  refine List.foldlRecOn (motive := fun u : State => u.trgArmed k = false) _ _ h fun u hu j _ => ?_
  have lent := set u j 3 hu (.inr rfl)
  have idle := set u j 0 hu (.inl rfl)
  dsimp only
  split <;> split
  exacts [lent, hu, idle, hu]

/-- The registers that tell of a trigger that fired (R147). -/
def State.trgMarked (s : State) (k : Nat) (at_ : Tai) (late fault : Bool) : State :=
  let s := ((((s.setWords (F.TRG_FIRED k) at_.bits 7).setF (F.TRG_STATUS_STATE k) 0).setF (F.TRG_STATUS_LAST_LATE k)
    (b2n late)).setF (F.TRG_STATUS_LAST_NOP k) (b2n fault)).incSat (F.TRG_COUNT_FIRES k)
  if late then s.incSat (F.TRG_COUNT_LATE k) else s

/-- A state to which a trigger goes over by firing, once it has acted on its target. -/
def State.TrgFired (s : State) (k : Nat) (t : State) : Prop :=
  ∃ (at_ : Tai) (late fault : Bool) (detail : Nat),
    t = (s.trgMarked k at_ late fault).syncLent.fireWith (Ev.TRG k) (trgObj k) detail late

theorem triggerFire_of_event {s : State} {k : Nat} {at_ : Tai} (armed : s.trgArmed k = true)
    (due : KV.get 0 s.stamps.due k ≤ at_.units) (action : s.getF (F.TRG_CTL_ACTION k) = 0) :
    s.TrgFired k (triggerFire k at_ s) := by
  unfold triggerFire
  dsimp only
  rw [if_neg (by simp [armed, due]), action]
  exact ⟨at_, _, _, _, rfl⟩

/-- A trigger that stops an enabled graph acts on it and fires (R147). -/
theorem triggerFire_of_stop {s : State} {k n : Nat} {at_ : Tai} (armed : s.trgArmed k = true)
    (due : KV.get 0 s.stamps.due k ≤ at_.units) (action : s.getF (F.TRG_CTL_ACTION k) = 2)
    (target : trgTarget (s.trgObjOf k) = some (.graph n)) (on : s.gOn s.gBank n = true) :
    (s.trgAct (KV.get { code := 0 } s.stamps.armedBy k) (.graph n) false (s.trgObjOf k) at_.units).TrgFired k
      (triggerFire k at_ s) := by
  have isOn : s.trgOn (.graph n) = true := on
  unfold triggerFire
  dsimp only
  rw [if_neg (by simp [armed, due]), action, target]
  simp only [OfNat.ofNat_ne_zero, if_false, Option.any_some, isOn, show ((2 : Nat) == 1) = false from rfl,
    show (true == false) = false from rfl, Bool.false_and, Bool.and_false, Bool.false_eq_true]
  exact ⟨at_, _, _, _, rfl⟩

section
variable {s t : State} {k : Nat}

theorem State.stays_trgMarked (s : State) (at_ : Tai) (late fault : Bool) (hk : k < 32) :
    s.Stays (s.trgMarked k at_ late fault) [] [⟨1, 32, 63⟩] := by
  have state := trgState_inUnits
  have fired : ∀ k < 32, ∀ i < 7, (F.TRG_FIRED k i).inUnits [⟨1, 32, 63⟩] = true := by decide
  have lastLate : ∀ k < 32, (F.TRG_STATUS_LAST_LATE k).inUnits [⟨1, 32, 63⟩] = true := by decide
  have lastNop : ∀ k < 32, (F.TRG_STATUS_LAST_NOP k).inUnits [⟨1, 32, 63⟩] = true := by decide
  have fires : ∀ k < 32, (F.TRG_COUNT_FIRES k).inUnits [⟨1, 32, 63⟩] = true := by decide
  have lates : ∀ k < 32, (F.TRG_COUNT_LATE k).inUnits [⟨1, 32, 63⟩] = true := by decide
  have counted := (((((State.Stays.refl s [] [⟨1, 32, 63⟩]).setWords (F.TRG_FIRED k) at_.bits 7 (fired k hk)).setF _ 0
    (state k hk)).setF _ (b2n late) (lastLate k hk)).setF _ (b2n fault) (lastNop k hk)).incSat _ (fires k hk)
  exact .ite (counted.incSat _ (lates k hk)) counted

theorem State.TrgFired.stays (h : s.TrgFired k t) (hk : k < 32) : s.Stays t [] [⟨1, 32, 63⟩] := by
  obtain ⟨at_, late, fault, detail, e⟩ := h
  rw [e]
  exact ((s.stays_trgMarked at_ late fault hk).trans (State.stays_syncLent _)).fireWith _ _ _ _

theorem State.trgArmed_trgMarked (s : State) (at_ : Tai) (late fault : Bool) :
    (s.trgMarked k at_ late fault).trgArmed k = false := by
  have state : (s.trgMarked k at_ late fault).getF (F.TRG_STATUS_STATE k) = 0 := by
    have counts : ∀ u : State, (u.incSat (F.TRG_COUNT_LATE k)).getF (F.TRG_STATUS_STATE k) = u.getF (F.TRG_STATUS_STATE k) :=
      fun u => State.getF_setF_ne _ _ (by simp only [Fld.key, fieldKey, F.TRG_STATUS_STATE, F.TRG_COUNT_LATE]; omega)
    unfold State.trgMarked
    dsimp only
    rw [apply_ite (fun u : State => u.getF (F.TRG_STATUS_STATE k)), counts, ite_self, State.incSat, State.addSat,
      State.getF_setF_ne _ _ (by simp only [Fld.key, fieldKey, F.TRG_STATUS_STATE, F.TRG_COUNT_FIRES]; omega),
      State.getF_setF_ne _ _ (by simp only [Fld.key, fieldKey, F.TRG_STATUS_STATE, F.TRG_STATUS_LAST_NOP]; omega),
      State.getF_setF_ne _ _ (by simp only [Fld.key, fieldKey, F.TRG_STATUS_STATE, F.TRG_STATUS_LAST_LATE]; omega),
      State.getF_setF_self]
    rfl
  simp [State.trgArmed, state]

theorem State.TrgFired.idle (h : s.TrgFired k t) : t.trgArmed k = false := by
  obtain ⟨at_, late, fault, detail, e⟩ := h
  rw [e]
  have idle := State.trgArmed_syncLent (s.trgArmed_trgMarked (k := k) at_ late fault)
  unfold State.trgArmed at idle ⊢
  rwa [(State.traces_fireWith _ _ _ _ _).getF]

theorem State.getF_setWords_ne (s : State) {f : Fld} {g : Nat → Fld} (v n : Nat) (h : ∀ i < n, f.key ≠ (g i).key) :
    (s.setWords g v n).getF f = s.getF f := by
  induction n with
  | zero => rfl
  | succ n ih => exact (State.getF_setF_ne _ _ (h n n.lt_succ_self)).trans (ih fun i hi => h i (Nat.lt_succ_of_lt hi))

theorem State.TrgFired.fires (h : s.TrgFired k t) :
    t.getF (F.TRG_COUNT_FIRES k) = satNat 16 (s.getF (F.TRG_COUNT_FIRES k) + 1) := by
  obtain ⟨at_, late, fault, detail, e⟩ := h
  rw [e]
  have states : ∀ j, (F.TRG_COUNT_FIRES k).key ≠ (F.TRG_STATUS_STATE j).key := fun j => by
    simp only [Fld.key, fieldKey, F.TRG_STATUS_STATE, F.TRG_COUNT_FIRES]; omega
  have late_ : ∀ u : State, (u.incSat (F.TRG_COUNT_LATE k)).getF (F.TRG_COUNT_FIRES k) = u.getF (F.TRG_COUNT_FIRES k) :=
    fun u => State.getF_setF_ne _ _ (by simp only [Fld.key, fieldKey, F.TRG_COUNT_FIRES, F.TRG_COUNT_LATE]; omega)
  rw [(State.traces_fireWith _ _ _ _ _).getF, State.getF_syncLent _ states]
  unfold State.trgMarked
  dsimp only
  rw [apply_ite (fun u : State => u.getF (F.TRG_COUNT_FIRES k)), late_, ite_self, State.getF_incSat,
    State.getF_setF_ne _ _ (by simp only [Fld.key, fieldKey, F.TRG_COUNT_FIRES, F.TRG_STATUS_LAST_NOP]; omega),
    State.getF_setF_ne _ _ (by simp only [Fld.key, fieldKey, F.TRG_COUNT_FIRES, F.TRG_STATUS_LAST_LATE]; omega),
    State.getF_setF_ne _ _ (states k),
    State.getF_setWords_ne _ _ _ fun i hi => by simp only [Fld.key, fieldKey, F.TRG_COUNT_FIRES, F.TRG_FIRED]; omega]
  rfl

theorem State.TrgFired.settle {u : State} (h : s.TrgFired k t) (settled : State.Settled t u) (hk : k < 32) :
    u.trgArmed k = false ∧ u.getF (F.TRG_COUNT_FIRES k) = satNat 16 (s.getF (F.TRG_COUNT_FIRES k) + 1) := by
  have keys : ∀ k < 32, (F.TRG_STATUS_STATE k).key ∉ settleKeys ∧ (F.TRG_COUNT_FIRES k).key ∉ settleKeys := by decide
  obtain ⟨state, fires⟩ := keys k hk
  have idle := h.idle
  unfold State.trgArmed at idle ⊢
  rw [settled.getF _ state, settled.getF _ fires]
  exact ⟨idle, h.fires⟩

theorem State.TrgFired.sticky (h : s.TrgFired k t) : Ev.TRG k ∈ t.ev.sticky := by
  obtain ⟨at_, late, fault, detail, e⟩ := h
  rw [e]
  exact State.fireWith_sticky _ _ _ _ _

end

theorem contains_without_self (l : List Nat) (n : Nat) : (without l n).contains n = false := by simp [without]

/-- A graph that stops is not enabled in the active bank. -/
theorem State.gOn_graphStop (s : State) (n stop : Nat) : (s.graphStop n stop).gOn s.gBank n = false := by
  unfold State.graphStop
  dsimp only
  split <;> exact contains_without_self _ _

/-- A trigger that stops a graph leaves everything but the graphs. -/
theorem State.stays_trgAct_stop (s : State) (o : Origin) (n obj : Nat) (u : Int) :
    s.Stays (s.trgAct o (.graph n) false obj u) [.dsp] [⟨5, 64, 64⟩] :=
  (s.stays_graphStop n (s.tickAt u)).modified.logE _ _ _ _ _ _ _

theorem State.gOn_trgAct_stop (s : State) (o : Origin) (n obj : Nat) (u : Int) :
    (s.trgAct o (.graph n) false obj u).gOn s.gBank n = false := by
  have logged := (s.graphStop n (s.tickAt u)).modified.traces_logE o.code o.id kSTATE false obj (b2n true) (b2n false)
  exact (congrArg (fun d : DspState => d.flag.contains (s.gBank * 256 + n)) logged.dsp).trans (s.gOn_graphStop n _)

/-- An armed trigger of an event whose time has come fires and counts (R147). -/
theorem triggerFire_acts {s : State} (k : Fin 32) {at_ : Tai} (alive : s.alive = true) (armed : s.trgArmed k = true)
    (due : KV.get 0 s.stamps.due k ≤ at_.units) (action : s.getF (F.TRG_CTL_ACTION k) = 0) :
    ∃ t, exec (.triggerFire k at_) s = .next t ∧ t.trgArmed k = false ∧ Ev.TRG k ∈ t.ev.sticky ∧
      t.getF (F.TRG_COUNT_FIRES k) = satNat 16 (s.getF (F.TRG_COUNT_FIRES k) + 1) := by
  obtain ⟨t, e, settled⟩ := happen_whenAlive (triggerFire k at_) alive
  have fired := triggerFire_of_event (s := s.fresh) armed due action
  obtain ⟨idle, fires⟩ := fired.settle settled k.isLt
  exact ⟨t, e, idle, settled.sticky _ fired.sticky, fires⟩

/-- An armed trigger whose time has come stops the graph it names, fires and counts (R147). -/
theorem triggerFire_stops {s : State} (k : Fin 32) {at_ : Tai} {n : Nat} (alive : s.alive = true) (armed : s.trgArmed k = true)
    (due : KV.get 0 s.stamps.due k ≤ at_.units) (action : s.getF (F.TRG_CTL_ACTION k) = 2)
    (target : trgTarget (s.trgObjOf k) = some (.graph n)) (on : s.gOn s.gBank n = true) :
    ∃ t, exec (.triggerFire k at_) s = .next t ∧ t.trgArmed k = false ∧ Ev.TRG k ∈ t.ev.sticky ∧ t.gOn s.gBank n = false ∧
      t.getF (F.TRG_COUNT_FIRES k) = satNat 16 (s.getF (F.TRG_COUNT_FIRES k) + 1) := by
  obtain ⟨t, e, settled⟩ := happen_whenAlive (triggerFire k at_) alive
  have fired := triggerFire_of_stop (s := s.fresh) armed due action target on
  obtain ⟨idle, fires⟩ := fired.settle settled k.isLt
  have acted := s.fresh.stays_trgAct_stop (KV.get { code := 0 } s.fresh.stamps.armedBy k) n (s.fresh.trgObjOf k) at_.units
  have count : ∀ k < 32, (F.TRG_COUNT_FIRES k).inUnits [⟨5, 64, 64⟩] = false ∧ (F.TRG_COUNT_FIRES k).key ∉ serveKeys := by decide
  obtain ⟨outside, kept⟩ := count k k.isLt
  refine ⟨t, e, idle, settled.sticky _ fired.sticky, ?_, ?_⟩
  · rw [State.gOn, settled.dsp, (fired.stays k.isLt).dsp]
    exact s.fresh.gOn_trgAct_stop _ _ _ _
  · rw [fires, acted.getF _ outside kept]
    rfl

/-! ## Timed frames (R156) -/

/-- An entry of the timestamp queue leaves the timed frames and what was sent. -/
theorem State.pushTs_keeps (s : State) (p : Nat) (e : TsEntry) :
    (s.pushTs p e).timedQ p = s.timedQ p ∧ s.out <+: (s.pushTs p e).out := by
  have fired : ∀ (u : State) (src obj detail : Nat), u.timedQ p = s.timedQ p → u.out = s.out →
      (u.fire src obj detail).timedQ p = s.timedQ p ∧ s.out <+: (u.fire src obj detail).out := fun u src obj detail q o => by
    have traces := u.traces_fire src obj detail
    rw [State.timedQ, traces.stamps, ← o]
    exact ⟨q, traces.out⟩
  unfold State.pushTs
  dsimp only
  split
  · exact fired _ _ _ _ rfl rfl
  · exact ⟨rfl, List.prefix_rfl⟩

/-- A timed frame that leaves: the queue behind it, the frame, its count, and the count of the late ones (R156). -/
def State.timedSent (s : State) (p : Nat) (f : TimedFrame) (l : List TimedFrame) (late : Bool) : State :=
  let s := (((s.setTimed p l).emit (.frame p f.q (.raw f.bytes))).lpiWake p).incSat (F.MAC_TX_OK p)
  if late then (s.incSat (F.TSU_TTQ_STATUS_LATE p)).fire Ev.TIMED_LATE (objId 1 (4 + p) 0) f.tag else s

theorem State.timedSent_sends (s : State) (p : Nat) (f : TimedFrame) (l : List TimedFrame) (late : Bool) :
    (s.timedSent p f l late).timedQ p = l ∧ Emit.frame p f.q (.raw f.bytes) ∈ (s.timedSent p f l late).out := by
  have queue : KV.get [] (KV.put [] s.stamps.timed p l) p = l := KV.get_put_self _ _ _ _
  have sent : Emit.frame p f.q (.raw f.bytes) ∈ s.out ++ [Emit.frame p f.q (.raw f.bytes)] :=
    List.mem_append_right _ (List.mem_singleton_self _)
  unfold State.timedSent
  dsimp only
  split
  · refine ⟨?_, (State.traces_fire _ _ _ _).out.subset sent⟩
    rw [State.timedQ, (State.traces_fire _ _ _ _).stamps]
    exact queue
  · exact ⟨queue, sent⟩

/-- A frame that is due, in an open queue of a linked port, leaves with its time stamp. -/
theorem timedLaunch_of_due {s : State} {p : Nat} {at_ : Tai} {f : TimedFrame} {l : List TimedFrame} (queue : s.timedQ p = f :: l)
    (due : f.late = true ∨ f.launch.units - 524288 ≤ at_.units) (opened : (s.openQueues p).contains f.q = true)
    (link : s.on (F.MAC_STATUS_LINK p) = true) :
    timedLaunch p at_ s = (s.timedSent p f l (f.late || decide (at_.units > f.launch.units + 524288))).stampFrame p
      (some (f.tag, 0, 0)) (f.late || decide (at_.units > f.launch.units + 524288)) at_ := by
  have now : ¬ (!f.late && decide (at_.units < f.launch.units - 524288)) = true := by
    rcases due with h | h <;> simp [h]
  unfold timedLaunch
  rw [queue]
  dsimp only
  rw [if_neg now, if_neg (by simpa using opened), if_neg (by simp [link])]
  rfl

/-- A timed frame leaves at its launch (R156). -/
theorem timedFrameLaunch_acts {s : State} {p : Fin 4} {at_ : Tai} {f : TimedFrame} {l : List TimedFrame} (alive : s.alive = true)
    (powered : s.unpowered 3 p = false) (queue : s.timedQ p = f :: l)
    (due : f.late = true ∨ f.launch.units - 524288 ≤ at_.units) (opened : (s.openQueues p).contains f.q = true)
    (link : s.on (F.MAC_STATUS_LINK p) = true) :
    ∃ t, exec (.timedFrameLaunch p at_) s = .next t ∧ t.timedQ p = l ∧ Emit.frame p f.q (.raw f.bytes) ∈ t.out := by
  obtain ⟨t, e, settled⟩ := happen_whenPort (timedLaunch p at_) alive powered
  rw [timedLaunch_of_due (s := s.fresh) queue due opened link] at settled
  obtain ⟨left, sent⟩ := s.fresh.timedSent_sends p f l (f.late || decide (at_.units > f.launch.units + 524288))
  obtain ⟨kept, out⟩ := State.pushTs_keeps
    (s.fresh.timedSent p f l (f.late || decide (at_.units > f.launch.units + 524288))) p _
  refine ⟨t, e, ?_, settled.out.subset (out.subset sent)⟩
  rw [State.timedQ, settled.stamps]
  exact kept.trans left

/-- Settles O31: every clause is what the happening does to a running block, read back from the settled state. -/
theorem ticksStepsAndTriggersAct : Obligations.TicksStepsAndTriggersAct := by
  refine ⟨fun s inp => tickBoundary_acts inp, fun s l => timeStep_acts, fun s d => todChange_acts, fun s alive leap => ?_,
    fun s alive no61 leap => ?_, fun s est new d => asymTrackPeriod_acts, fun s n => ccGridPoint_acts n,
    fun s k at_ => triggerFire_acts k, fun s k at_ n => triggerFire_stops k, fun s p at_ f l => timedFrameLaunch_acts⟩
  · exact leapDayEnd_acts alive (leapDayEnd_of_leap61 (s := s.fresh) leap)
  · exact leapDayEnd_acts alive (leapDayEnd_of_leap59 (s := s.fresh) no61 leap)

end Sys2Proof.Machine
end

section
/-!
The pins (R53, R86, R406): the interrupt, busy and pair pins stand as the state says, and PAIR_OK is high only where the
conditions of R406 hold, after power-on reset and after every step.
-/

namespace Sys2Proof.Machine

/-- Settles O4: at power-on reset nothing is sticky, the block is not command-ready and the role unit reports no PAIR_OK. -/
theorem resetMeetsTheInvariant : Obligations.ResetMeetsTheInvariant := by
  unfold Obligations.ResetMeetsTheInvariant
  obtain ⟨hostBusy, pairOk⟩ := State.reset_pins
  have okOut : State.reset.pairOkLevel = false := by decide
  exact ⟨⟨rfl, rfl, rfl, pairOk.trans okOut.symm⟩, fun high => absurd (pairOk.symm.trans high) (by decide)⟩

/-- The health level is one of three. -/
theorem healthOf_lt (c : Nat) : healthOf c < 2 ^ F.ROLE_STATUS_HEALTH.width := by
  unfold healthOf
  split
  · decide
  · split <;> decide

/-- The holding of bussed ports is no cause of Table 18.7. -/
theorem State.health_setBus (s : State) (v : Bool) (at_ : Int) : (s.setBus v at_).health = s.health := rfl

/-- PAIR_OK of the role unit, once the pair has settled, stands on the conditions of R406. -/
theorem State.settlePair_okOut {s : State} (high : s.settlePair.on F.ROLE_STATUS_OK_OUT = true) :
    s.pwr.cmdReady = true ∧ s.settlePair.on F.ROLE_CTL_EN = true ∧ s.settlePair.getF F.ROLE_STATUS_HEALTH ≠ 2 ∧
      s.settlePair.pairSt ≠ psCLONING ∧ s.pins.pfwLow = false := by
  have demoted : State.Settled s (if s.pairSt = psREADY && s.health = 2 then s.setPairAt psSYNC s.in2ms else s) := by
    split
    · exact s.settled_setPairAt _ _
    · exact State.Settled.refl s
  unfold State.settlePair at high ⊢
  dsimp only at high ⊢
  generalize (if (decide (s.pairSt = psREADY) && decide (s.health = 2)) = true then s.setPairAt psSYNC s.in2ms else s) = u
    at demoted high ⊢
  have bussed : ∀ v : State, v = (if (u.on F.ROLE_STATUS_OK_OUT && !u.pairOk) = true then
      u.setBus false (u.now.units + micros 5) else u) → v.regs = u.regs ∧ v.health = u.health := by
    rintro v rfl
    split
    · exact ⟨rfl, u.health_setBus _ _⟩
    · exact ⟨rfl, rfl⟩
  generalize (if (u.on F.ROLE_STATUS_OK_OUT && !u.pairOk) = true then u.setBus false (u.now.units + micros 5) else u) = v
    at bussed high ⊢
  obtain ⟨regs, health⟩ := bussed v rfl
  have ok : u.pairOk = true := by
    by_contra low
    simp [Bool.eq_false_of_not_eq_true low, b2n] at high
  simp only [State.pairOk, Bool.and_eq_true, bne_iff_ne, Bool.not_eq_true'] at ok
  obtain ⟨⟨⟨⟨ready, en⟩, healthy⟩, state⟩, pfw⟩ := ok
  refine ⟨demoted.pwr ▸ ready, ?_, ?_, ?_, demoted.pfwLow ▸ pfw⟩
  · rw [← en]
    simp only [State.on]
    rw [State.getF_setF_ne _ _ (by decide), State.getF_setF_ne _ _ (by decide), State.getF_setF_ne _ _ (by decide),
      State.getF_congr _ regs]
  · rw [State.getF_setF_ne _ _ (by decide), State.getF_setF_self, health, State.health, Nat.mod_eq_of_lt (healthOf_lt _)]
    exact healthy
  · rw [State.pairSt, State.getF_setF_ne _ _ (by decide), State.getF_setF_ne _ _ (by decide), State.getF_setF_ne _ _ (by decide),
      State.getF_congr _ regs]
    exact state

/-- MSI-X requests change no register field. -/
theorem State.settleMsix_regs (s : State) : s.settleMsix.regs = s.regs := by
  have one : ∀ (u : State) (v : Nat), (u.msixRequest v).regs = u.regs := fun u v => by
    unfold State.msixRequest
    split
    · rfl
    · split <;> rfl
  unfold State.settleMsix
  dsimp only
  exact List.foldlRecOn (motive := fun u : State => u.regs = s.regs) _ _ rfl fun u hu src _ => (one u _).trans hu

/-- After any command the pins stand as the state says (R53, R86, R406). -/
theorem State.pinsFollow_settleAll (s : State) : s.settleAll.PinsFollow := s.pins_settleAll

/-- After any command PAIR_OK is high only on the conditions of R406. -/
theorem State.pairOkBacked_settleAll (s : State) : s.settleAll.PairOkBacked := by
  intro high
  have settled := s.settled_settleAll
  have level := s.pins_settleAll.2.2.2.symm.trans high
  have regs : s.settleAll.regs = (if s.alive then s.settlePair else s.setF F.ROLE_STATUS_OK_OUT 0).regs :=
    State.settleMsix_regs _
  have alive : s.settleAll.alive = s.alive := by
    unfold State.alive State.powerSt
    rw [settled.pwr, settled.getF _ (by decide)]
  rw [State.pairOkLevel, State.on_congr _ regs] at level
  cases running : s.alive with
  | false => simp [running] at level
  | true =>
    rw [running, if_pos rfl] at level regs
    obtain ⟨ready, en, health, state, pfw⟩ := State.settlePair_okOut level
    rw [State.on_congr _ regs, State.getF_congr _ regs, State.pairSt, State.getF_congr _ regs, settled.pwr, settled.pfwLow]
    exact ⟨alive.trans running, ready, en, health, state, pfw⟩

/-- Whatever the state a command starts from, it brings the pins in line (R53, R86, R406). -/
theorem exec_pinsFollow {c : Instr} {s t : State} (h : exec c s = .next t) : t.PinsFollow ∧ t.PairOkBacked := by
  obtain ⟨u, rfl⟩ := exec_settles h
  exact ⟨u.pinsFollow_settleAll, u.pairOkBacked_settleAll⟩

/-- Moving the always-on seconds leaves every other field. -/
theorem State.getF_aoTick_ne (s : State) (n : Nat) {f : Fld} (h : f.key ≠ F.PWR_AO_SEC_LO.key ∧ f.key ≠ F.PWR_AO_SEC_HI.key) :
    (s.aoTick n).getF f = s.getF f := (State.getF_setF_ne _ _ h.2).trans (State.getF_setF_ne _ _ h.1)

theorem State.on_aoTick_ne (s : State) (n : Nat) {f : Fld} (h : f.key ≠ F.PWR_AO_SEC_LO.key ∧ f.key ≠ F.PWR_AO_SEC_HI.key) :
    (s.aoTick n).on f = s.on f := congrArg (· == 1) (s.getF_aoTick_ne n h)

/-- The always-on seconds lie in no register that an interrupt route reads. -/
theorem State.anyPending_aoTick (s : State) (n : Nat) (r : Nat → Nat → Fld)
    (routes : ∀ g i, i < 16 → (r g i).key ≠ F.PWR_AO_SEC_LO.key ∧ (r g i).key ≠ F.PWR_AO_SEC_HI.key) :
    (s.aoTick n).anyPending r = s.anyPending r := by
  have enables : ∀ g, (F.EVT_EV_EN_EN g).key ≠ F.PWR_AO_SEC_LO.key ∧ (F.EVT_EV_EN_EN g).key ≠ F.PWR_AO_SEC_HI.key := fun g => by
    simp only [Fld.key, fieldKey, F.EVT_EV_EN_EN, F.PWR_AO_SEC_LO, F.PWR_AO_SEC_HI]; omega
  have groups : ∀ g, (F.EVT_CTL_EN g).key ≠ F.PWR_AO_SEC_LO.key ∧ (F.EVT_CTL_EN g).key ≠ F.PWR_AO_SEC_HI.key := fun g => by
    simp only [Fld.key, fieldKey, F.EVT_CTL_EN, F.PWR_AO_SEC_LO, F.PWR_AO_SEC_HI]; omega
  have pending : (s.aoTick n).evPending r = s.evPending r := funext fun src => by
    unfold State.evPending State.evEnabled State.evGroupOn State.evRoute
    rw [s.getF_aoTick_ne n (enables _), s.on_aoTick_ne n (groups _), s.on_aoTick_ne n (routes _ _ (Nat.mod_lt _ (by decide)))]
    rfl
  rw [State.anyPending, pending]
  rfl

/-- A cycle of the media clock leaves the pins and what they stand for. -/
theorem State.PinsFollow.aoTick {s : State} (h : s.PinsFollow) (n : Nat) : (s.aoTick n).PinsFollow := by
  obtain ⟨irq0, irq1, busy, pairOk⟩ := h
  have level0 : (s.aoTick n).irq0Level = s.irq0Level := s.anyPending_aoTick n _ fun g i hi => by
    simp only [Fld.key, fieldKey, F.EVT_EV_ROUTE_IRQ0, F.PWR_AO_SEC_LO, F.PWR_AO_SEC_HI]; omega
  have level1 : (s.aoTick n).irq1Level = s.irq1Level := s.anyPending_aoTick n _ fun g i hi => by
    simp only [Fld.key, fieldKey, F.EVT_EV_ROUTE_IRQ1, F.PWR_AO_SEC_LO, F.PWR_AO_SEC_HI]; omega
  have out : (s.aoTick n).pairOkLevel = s.pairOkLevel := s.on_aoTick_ne n (by decide)
  exact ⟨irq0.trans level0.symm, irq1.trans level1.symm, busy, pairOk.trans out.symm⟩

theorem State.PairOkBacked.aoTick {s : State} (h : s.PairOkBacked) (n : Nat) : (s.aoTick n).PairOkBacked := by
  intro high
  obtain ⟨alive, ready, en, health, state, pfw⟩ := h high
  have power : (s.aoTick n).powerSt = s.powerSt := s.getF_aoTick_ne n (by decide)
  refine ⟨?_, ready, (s.on_aoTick_ne n (by decide)).trans en, ?_, ?_, pfw⟩
  · simp only [State.alive, power]
    exact alive
  · rwa [s.getF_aoTick_ne n (by decide)]
  · rwa [State.pairSt, s.getF_aoTick_ne n (by decide)]

/-- A cycle of the media clock keeps the invariant: it moves the timebase and the always-on seconds only. -/
theorem State.mediaCycle_pins {s : State} (h : s.PinsFollow) (g : s.PairOkBacked) :
    s.mediaCycle.PinsFollow ∧ s.mediaCycle.PairOkBacked := by
  have moved : ∀ t : TimeState, ({ s with time := t } : State).PinsFollow ∧ ({ s with time := t } : State).PairOkBacked :=
    fun t => ⟨h, g⟩
  unfold State.mediaCycle
  dsimp only
  split
  · exact ⟨h, g⟩
  · split
    · exact ⟨(moved _).1.aoTick 1, (moved _).2.aoTick 1⟩
    · exact moved _

/-- Settles O5: a command brings the pins in line at its end, and a cycle of the media clock leaves them in line. -/
theorem pinsFollowEveryStep : Obligations.PinsFollowEveryStep := by
  intro s t follow backed h
  unfold step at h
  split at h
  · injection h with h
    exact h ▸ State.mediaCycle_pins follow backed
  · exact exec_pinsFollow h

end Sys2Proof.Machine
end

section
/-!
Requests that read (R38, R41, R98, R253, R275, R306, R311, R316, R345, R386, R401, R432, R444): the operation answers the state it
was given, so that only answering it leaves anything behind.
-/

namespace Sys2Proof.Machine

/-- An operation's outcome that leaves the state as it is: it is done on that very state, or it fails without a trace. -/
def OpOut.Reads (s : State) : OpOut → Prop
  | .done u _ _ => u = s
  | .fail _ _ _ => True
  | .failWith _ _ _ _ => False
  | .denied _ => True
  | .long _ => False

theorem OpOut.Reads.stays {s : State} {o : OpOut} (h : o.Reads s) (ps : List Part) (us : List Units) : o.Stays s ps us := by
  cases o with
  | done u _ _ => exact Eq.subst (motive := fun u => s.Stays u ps us) (Eq.symm h) (State.Stays.refl s ps us)
  | fail => trivial
  | failWith => exact h.elim
  | denied => trivial
  | long => exact h.elim

theorem OpOut.Reads.ite {s : State} {c : Prop} [Decidable c] {o p : OpOut} (h : o.Reads s) (g : p.Reads s) :
    (if c then o else p).Reads s := by
  split
  · exact h
  · exact g

theorem OpOut.reads_done (s : State) (ps : List Byte) (log : Option Nat) : (OpOut.done s ps log).Reads s := rfl

theorem OpOut.reads_fail (s : State) (st off d : Nat) : (OpOut.fail st off d).Reads s := trivial

theorem OpOut.reads_bad (s : State) (off : Nat) : (OpOut.bad off).Reads s := trivial

theorem badLen_reads (s : State) : badLen.Reads s := trivial

section
variable {s : State} {q : Req}

theorem onUnits_reads {f : Req → State → OpOut} (p : Nat → Nat → Bool) (h : (f q s).Reads s) : (onUnits p f q s).Reads s :=
  .ite (badLen_reads s) (.ite h (OpOut.reads_bad s 16))

theorem wholeUnit_reads {f : Req → State → OpOut} (h : (f q s).Reads s) : (wholeUnit f q s).Reads s :=
  .ite h (OpOut.reads_bad s 16)

/-- A request whose operation reads touches nothing. -/
theorem exec_request_reads {op : Nat} {f : Req → State → OpOut} {t : State} (e : happen (serveOp op f q) s = .next t)
    (h : ∀ u, (f (q.as op) u).Reads u) (hop : op ≠ 0x0010) : s.Touches t [] [] :=
  exec_request_touches e (fun u => (h u).stays [] []) hop

end

/-! ## The operations -/

section
variable (q : Req) (s : State)

theorem opInfo_reads : (opInfo q s).Reads s := .ite (badLen_reads s) (OpOut.reads_done s _ _)

theorem opTdmStatus_reads : (opTdmStatus q s).Reads s := .ite (badLen_reads s) (OpOut.reads_done s _ _)

theorem opAmpStatus_reads : (opAmpStatus q s).Reads s := .ite (badLen_reads s) (OpOut.reads_done s _ _)

theorem opNetPortGet_reads : (opNetPortGet q s).Reads s := .ite (badLen_reads s) (OpOut.reads_done s _ _)

theorem opLogRead_reads : (opLogRead q s).Reads s := by
  unfold opLogRead
  dsimp only
  iterate 4 refine .ite trivial ?_
  split
  · exact OpOut.reads_done s _ _
  · exact .ite trivial (OpOut.reads_done s _ _)

theorem opSessionGet_reads : (opSessionGet q s).Reads s := by
  refine .ite trivial ?_
  split
  · trivial
  · exact .ite trivial (OpOut.reads_done s _ _)

theorem opRxGet_reads : (opRxGet q s).Reads s := by
  unfold opRxGet
  split
  · trivial
  · exact .ite trivial (OpOut.reads_done s _ _)

theorem opTxGet_reads : (opTxGet q s).Reads s := by
  unfold opTxGet
  split
  · trivial
  · exact .ite trivial (OpOut.reads_done s _ _)

theorem opGraphGet_reads : (opGraphGet q s).Reads s := by
  unfold opGraphGet
  split
  · trivial
  · exact .ite trivial (OpOut.reads_done s _ _)

theorem opRxStatus_reads : (opRxStatus q s).Reads s := by
  unfold opRxStatus
  split
  · trivial
  · exact .ite trivial (OpOut.reads_done s _ _)

theorem opTxStatus_reads : (opTxStatus q s).Reads s := by
  unfold opTxStatus
  split
  · trivial
  · exact .ite trivial (OpOut.reads_done s _ _)

theorem opGraphStatus_reads : (opGraphStatus q s).Reads s := by
  refine .ite trivial ?_
  split
  · trivial
  · exact OpOut.reads_done s _ _

theorem opObjGet_reads (sub : Nat) : (opObjGet sub q s).Reads s :=
  onUnits_reads _ (.ite (opSessionGet_reads q s) (.ite (wholeUnit_reads (opNetPortGet_reads q s))
    (.ite (opRxGet_reads q s) (.ite (opTxGet_reads q s) (.ite (opGraphGet_reads q s) (OpOut.reads_bad s 16))))))

theorem opObjStatus_reads (sub : Nat) : (opObjStatus sub q s).Reads s :=
  onUnits_reads _ (.ite (opRxStatus_reads q s) (.ite (opTxStatus_reads q s) (.ite (opGraphStatus_reads q s)
    (.ite (wholeUnit_reads (opTdmStatus_reads q s)) (.ite (wholeUnit_reads (opAmpStatus_reads q s)) (OpOut.reads_bad s 16))))))

theorem opDirRead_reads : (opDirRead q s).Reads s :=
  .ite trivial (.ite trivial (.ite trivial (OpOut.reads_done s _ _)))

theorem opDirStream_reads : (opDirStream q s).Reads s := by
  refine .ite trivial (.ite trivial ?_)
  split
  · exact OpOut.reads_done s _ _
  · trivial

theorem opSdpExport_reads : (opSdpExport q s).Reads s := by
  refine .ite trivial (.ite trivial ?_)
  split
  · trivial
  · exact .ite trivial (OpOut.reads_done s _ _)

theorem opGraphSched_reads : (opGraphSched q s).Reads s := by
  refine .ite trivial (.ite ?_ (.ite ?_ trivial))
  · exact .ite (OpOut.reads_done s _ _) trivial
  · exact .ite trivial (.ite (OpOut.reads_done s _ _) trivial)

theorem opGraphRead_reads : (opGraphRead q s).Reads s := by
  refine .ite trivial ?_
  split
  · trivial
  · exact .ite trivial (.ite trivial (.ite trivial (OpOut.reads_done s _ _)))

theorem opMeterRead_reads : (opMeterRead q s).Reads s := by
  refine .ite trivial ?_
  split
  · trivial
  dsimp only
  split
  · trivial
  · iterate 4 refine .ite trivial ?_
    exact OpOut.reads_done s _ _

theorem opDiagRead_reads : (opDiagRead q s).Reads s := by
  unfold opDiagRead
  iterate 5 refine .ite trivial ?_
  split
  · exact OpOut.reads_done s _ _
  · trivial

theorem opPairHealth_reads : (opPairHealth q s).Reads s := by
  unfold opPairHealth
  iterate 4 refine .ite trivial ?_
  refine .ite (OpOut.reads_done s _ _) ?_
  split
  · exact OpOut.reads_done s _ _
  · trivial

theorem opLedgerRead_reads : (opLedgerRead q s).Reads s := by
  unfold opLedgerRead
  dsimp only
  iterate 3 refine .ite trivial ?_
  split
  · exact OpOut.reads_done s _ _
  · exact .ite trivial (OpOut.reads_done s _ _)

end

/-- No generic request on an object (R38) has the opcode of STORE. -/
theorem objOp_ne_store (sub : Nat) {k : Nat} (h : k < 16) : sub % 256 * 256 + k ≠ 0x0010 := by omega

/-- Settles O44: each operation answers the state it was given. -/
theorem readRequestsTouchNothing : Obligations.ReadRequestsTouchNothing := by
  intro s t q sub
  simp only [List.forall_mem_cons, List.not_mem_nil, false_implies, implies_true, and_true]
  refine ⟨?_, ?_, ?_, ?_, ?_, ?_, ?_, ?_, ?_, ?_, ?_, ?_, ?_, ?_, ?_⟩ <;> intro e
  · exact exec_request_reads e (opInfo_reads _) (by decide)
  · exact exec_request_reads e (opLogRead_reads _) (by decide)
  · exact exec_request_reads e (fun u => opObjGet_reads _ u sub) (objOp_ne_store sub (by decide))
  · exact exec_request_reads e (fun u => opObjStatus_reads _ u sub) (objOp_ne_store sub (by decide))
  · exact exec_request_reads e (fun u => onUnits_reads _ (wholeUnit_reads (opTdmStatus_reads _ u))) (by decide)
  · exact exec_request_reads e (fun u => onUnits_reads _ (wholeUnit_reads (opAmpStatus_reads _ u))) (by decide)
  · exact exec_request_reads e (opDirRead_reads _) (by decide)
  · exact exec_request_reads e (opDirStream_reads _) (by decide)
  · exact exec_request_reads e (opSdpExport_reads _) (by decide)
  · exact exec_request_reads e (opGraphSched_reads _) (by decide)
  · exact exec_request_reads e (opGraphRead_reads _) (by decide)
  · exact exec_request_reads e (opMeterRead_reads _) (by decide)
  · exact exec_request_reads e (opDiagRead_reads _) (by decide)
  · exact exec_request_reads e (opPairHealth_reads _) (by decide)
  · exact exec_request_reads e (opLedgerRead_reads _) (by decide)

end Sys2Proof.Machine
end

section
/-!
Frames of carrier events and of register reads (R35, R42, R45, R46, R48, R50, R51, R64, R76, R77, R79, R84, R87, R90, R94, R132,
R140): what a unit that a carrier discards, a request that arrives, a report that leaves and a word that is read leave behind.
-/

namespace Sys2Proof.Machine

/-! ## Parts -/

section
variable {s t : State} {ps : List Part} {us : List Units}

/-- Other events, where what was sticky still is. -/
theorem State.Stays.setEv (h : s.Stays t ps us) (x : EvState) (sticky : x.sticky = t.ev.sticky := by rfl) :
    s.Stays { t with ev := x } ps us := by
  refine h.trans ⟨⟨⟨rfl, fun p _ => ?_⟩, fun _ _ _ => rfl⟩, List.prefix_rfl, fun n hn => ?_⟩
  · exact Part.Same.refl t p
  · exact sticky ▸ hn

theorem State.Stays.setTime (h : s.Stays t ps us) (x : TimeState) (hp : .time ∈ ps) : s.Stays { t with time := x } ps us := by
  refine h.part hp rfl rfl rfl rfl fun q hq => ?_
  have same := Part.Same.refl t q
  cases q
  case time => exact absurd rfl hq
  all_goals exact same

theorem State.Stays.setUnit (h : s.Stays t ps us) (k : Nat) (x : UnitCB) (hp : .common ∈ ps) : s.Stays (t.setUnit k x) ps us := by
  refine h.part hp rfl rfl rfl rfl fun q hq => ?_
  have same := Part.Same.refl t q
  cases q
  case common => exact absurd rfl hq
  all_goals exact same

theorem State.Stays.setSnaps (h : s.Stays t ps us) (x : KV (List Nat)) (hp : .snaps ∈ ps) :
    s.Stays { t with readSnaps := x } ps us := by
  refine h.part hp rfl rfl rfl rfl fun q hq => ?_
  have same := Part.Same.refl t q
  cases q
  case snaps => exact absurd rfl hq
  all_goals exact same

theorem State.Stays.setDraws (h : s.Stays t ps us) (n : Nat) (hp : .draws ∈ ps) : s.Stays { t with draws := n } ps us := by
  refine h.part hp rfl rfl rfl rfl fun q hq => ?_
  have same := Part.Same.refl t q
  cases q
  case draws => exact absurd rfl hq
  all_goals exact same

theorem State.Stays.setSvcEn (h : s.Stays t ps us) (b : Bool) (hp : .inputs ∈ ps) :
    s.Stays { t with pins := { t.pins with svcEn := b } } ps us := by
  refine h.part hp rfl rfl rfl rfl fun q hq => ?_
  have same := Part.Same.refl t q
  cases q
  case inputs => exact absurd rfl hq
  all_goals exact same

/-! ## Happenings -/

theorem happen_stays {body : State → State} (e : happen body s = .next t) (h : s.fresh.Stays (body s.fresh) ps us) :
    s.Touches t ps us := happen_touches e h.touches

theorem happen_whenReached_stays {g : State → State} (e : happen (fun s => s.whenReached g) s = .next t)
    (h : s.fresh.Stays (g s.fresh) ps us) : s.Touches t ps us := happen_stays e (.ite h (State.Stays.refl _ ps us))

theorem happen_whenAlive_stays {g : State → State} (e : happen (fun s => s.whenAlive g) s = .next t)
    (h : s.fresh.Stays (g s.fresh) ps us) : s.Touches t ps us := happen_stays e (.ite h (State.Stays.refl _ ps us))

theorem happen_whenPort_stays {g : State → State} {p : Nat} (e : happen (fun s => s.whenPort p g) s = .next t)
    (h : s.fresh.Stays (g s.fresh) ps us) : s.Touches t ps us := happen_stays e (.ite h (State.Stays.refl _ ps us))

theorem State.Stays.replyErr (h : s.Stays t ps us) (q : Req) (st off d : Nat) : s.Stays (t.replyErr q st off d) ps us :=
  h.trans ((t.served_replyErr q st off d).stays ps us)

end

/-! ## What arrives and what leaves on the carriers -/

section
variable (s : State)

/-- A unit that a carrier discards is counted (R36, R84). -/
theorem State.stays_discard (c : Carrier) : s.Stays (s.discard c) [] [⟨0, 1, 1⟩] := by
  have counter : (F.CAR_DISCARD c.idx).inUnits [⟨0, 1, 1⟩] = true := by cases c <;> decide
  exact ((State.Stays.refl s _ _).incSat _ counter).fire _ _ _

theorem State.stays_enterSlot (q : Req) : s.Stays (s.enterSlot q) [.carriers] [] := by
  unfold State.enterSlot
  split
  · exact (s.served_replyBusy q _).stays _ _
  · exact .ite ((s.served_replyBusy q 0).stays _ _) ((State.Stays.refl s _ _).setCar _ (by decide))

theorem State.stays_arrive (c : Carrier) (o : Origin) (h : List Byte) (crc : Nat) :
    s.Stays (s.arrive c o h crc) [.carriers] [⟨0, 1, 1⟩] := by
  have same := State.Stays.refl s [.carriers] [⟨0, 1, 1⟩]
  refine .ite (same.andThen (s.stays_discard c)) (.ite (same.replyErr _ _ _ _) (.ite (same.replyErr _ _ _ _) ?_))
  split
  · exact same.replyErr _ _ _ _
  · exact same.andThen (s.stays_enterSlot _)

theorem spiCommand_stays (secLow : Bool) (bytes : List Byte) : s.Stays (spiCommand secLow bytes s) [.carriers] [⟨0, 1, 1⟩] := by
  have same := State.Stays.refl s [.carriers] [⟨0, 1, 1⟩]
  unfold spiCommand
  split
  · exact same
  · exact .ite same (.ite (same.andThen (s.stays_discard _)) (s.stays_arrive _ _ _ _))

theorem State.stays_datagram (src sport : Nat) (b : List Byte) : s.Stays (s.datagram src sport b) [.carriers] [⟨0, 1, 1⟩] := by
  have same := State.Stays.refl s [.carriers] [⟨0, 1, 1⟩]
  have failed := (same.incSat (F.CAR_DISCARD 2) (by decide)).fire Ev.AUTH_FAIL (objId 0 1 0) (leAt b 10 2)
  refine .ite (same.andThen (s.stays_discard .net)) (.ite (same.replyErr _ _ _ _) (.ite (same.replyErr _ _ _ _) (.ite failed ?_)))
  dsimp only
  have known : ∀ t : State, s.Stays t [.carriers] [⟨0, 1, 1⟩] → ∀ (p : Packet) (q : Req), s.Stays (match p.headerFault true with
      | some off => t.replyErr q stBAD_PARAM off 0
      | none => t.enterSlot q) [.carriers] [⟨0, 1, 1⟩] := fun t h p q => by
    split
    · exact h.replyErr _ _ _ _
    · exact h.andThen (t.stays_enterSlot q)
  exact known _ (.ite same (same.setCar _ (by decide))) _ _

/-- A fragment joins those of its source: too long a datagram is discarded, a complete one is judged (R48). -/
def State.collect (s : State) (r : Reasm) (src sport off : Nat) (more : Bool) (bytes : List Byte) : State :=
  let r := { r with parts := r.parts ++ [(off, bytes)], total := if more then r.total else some (off + bytes.length) }
  let rest := s.car.reasm.filter (fun r => r.srcAddr != src)
  if decide (off + bytes.length > 4116) then ({ s with car := { s.car with reasm := rest } }).discard .net
  else match r.total.bind (fun t => joinParts t (r.parts.length + 1) 0 r.parts) with
    | some b => ({ s with car := { s.car with reasm := rest } }).datagram src sport b
    | none => { s with car := { s.car with reasm := r :: rest } }

theorem State.stays_collect (r : Reasm) (src sport off : Nat) (more : Bool) (bytes : List Byte) :
    s.Stays (s.collect r src sport off more bytes) [.carriers] [⟨0, 1, 1⟩] := by
  have reassembled : ∀ c : CarState, s.Stays { s with car := c } [.carriers] [⟨0, 1, 1⟩] := fun c =>
    (State.Stays.refl s _ _).setCar c (by decide)
  refine .ite ((reassembled _).andThen (State.stays_discard _ .net)) ?_
  split
  · exact (reassembled _).trans (State.stays_datagram _ src sport _)
  · exact reassembled _

theorem netDatagram_stays (port src sport off : Nat) (more : Bool) (bytes : List Byte) :
    s.Stays (netDatagram port src sport off more bytes s) [.carriers] [⟨0, 1, 1⟩] := by
  have same := State.Stays.refl s [.carriers] [⟨0, 1, 1⟩]
  have discarded := same.andThen (s.stays_discard .net)
  refine .ite same (.ite discarded (.ite (s.stays_datagram src sport bytes) ?_))
  generalize s.car.reasm.find? (fun r => r.srcAddr == src) = old
  cases old with
  | none => exact s.stays_collect { srcAddr := src } src sport off more bytes
  | some r =>
    dsimp only
    cases repeated : r.parts.any fun q => q.1 == off with
    | false => exact s.stays_collect r src sport off more bytes
    | true => exact discarded.trans ((s.discard .net).stays_collect { srcAddr := src } src sport off more bytes)

theorem reassemblyTimeout_stays (src : Nat) : s.Stays (reassemblyTimeout src s) [.carriers] [⟨0, 1, 1⟩] := by
  have same := State.Stays.refl s [.carriers] [⟨0, 1, 1⟩]
  exact .ite ((same.setCar _ (by decide)).andThen (State.stays_discard _ .net)) same

theorem uartLine_stays (line : List Byte) : s.Stays (uartLine line s) [.carriers, .draws, .inputs] [⟨0, 1, 1⟩] := by
  have same := State.Stays.refl s [.carriers, .draws, .inputs] [⟨0, 1, 1⟩]
  refine .ite (.ite same (same.andThen (s.stays_discard .uart))) (.ite (same.replyErr _ _ _ _) (.ite same ?_))
  split
  · exact same.replyErr _ _ _ _
  · exact same.replyErr _ _ _ _
  · exact (same.setDraws _ (by decide)).andThen (State.stays_enterSlot _ _)

theorem spiReplyFetch_stays (clocked : Nat) : s.Stays (spiReplyFetch clocked s) [.carriers] [] := by
  have sent := fun e => (State.Stays.refl s [.carriers] []).emit e
  unfold spiReplyFetch
  split
  · exact sent _
  · exact .ite (sent _) ((sent _).setCar _ (by decide))

theorem spiEventFetch_stays (clocked : Nat) : s.Stays (spiEventFetch clocked s) [.carriers] [] := by
  have sent := fun e => (State.Stays.refl s [.carriers] []).emit e
  unfold spiEventFetch
  split
  · exact sent _
  · have taken : ∀ (t : State) (e : EvState) (c : CarState), s.Stays t [.carriers] [] → e.sticky = t.ev.sticky →
        s.Stays { t with ev := e, car := c } [.carriers] [] := fun t e c h sticky => (h.setEv e sticky).setCar c (by decide)
    exact .ite (sent _) (taken _ _ _ (sent _) rfl)

theorem uartReplySent_stays : s.Stays (uartReplySent s) [.carriers] [] := (State.Stays.refl s _ _).setCar _ (by decide)

theorem uartEvent_stays : s.Stays (uartEvent s) [] [] := by
  have same := State.Stays.refl s [] []
  refine .ite same ?_
  split
  · exact same
  · exact (same.emit _).setEv _

theorem msixUnmask_stays (v : Nat) (on : Bool) : s.Stays (msixUnmask v on s) [] [] := by
  have unmasked := fun l => (State.Stays.refl s [] []).setEv { s.ev with msixOn := on, msixUnmasked := l }
  refine .ite ?_ (unmasked _)
  exact State.Stays.emit ((unmasked _).setEv { s.ev with msixOn := on, msixUnmasked := _, msixBits := _ }) _

theorem logCommitTimer_stays : s.Stays (logCommitTimer s) [] [] :=
  .ite (State.Stays.refl s _ _) ((State.Stays.refl s _ _).traces (State.traces_startCommit s))

end

/-! ## Register reads -/

/-- The parts that a register read may change: the common block of an absent unit, the reader's snapshots, time stamp queues and
captured time. -/
def readParts : List Part := [.common, .snaps, .stamps, .time]

/-- The units that a register read may change: the bus error record, the levels of the time stamp queues. -/
def readUnits : List Units := [⟨0, 0, 0⟩, ⟨1, 4, 7⟩]

section
variable (s : State)

/-- A bus error fires and is recorded (R77). -/
theorem State.stays_busError (o : Origin) (cause addr : Nat) : s.Stays (s.busError o cause addr) readParts readUnits := by
  have fired := (State.Stays.refl s readParts readUnits).fire Ev.BUS_ERR noUnit addr
  have address := fired.setF F.MGT_BUS_ERR_ADDR_ADDR addr (by decide)
  have origin := address.setF F.MGT_BUS_ERR_INFO_ORIGIN o.code (by decide)
  have cause := origin.setF F.MGT_BUS_ERR_INFO_CAUSE cause (by decide)
  have count := cause.setF F.MGT_BUS_ERR_INFO_COUNT 1 (by decide)
  exact .ite (fired.incSat _ (by decide)) (count.setF F.MGT_BUS_ERR_INFO_VALID 1 (by decide))

/-- An access to an absent unit marks it (R79). -/
theorem State.stays_raiseAbsent (sub u addr : Nat) : s.Stays (s.raiseAbsent sub u addr) readParts readUnits :=
  ((State.Stays.refl s _ _).setUnit _ _ (by decide)).fire _ _ _

/-- Capturing the times for TIM.SNAP (R132). -/
theorem State.stays_captureSnap (r : Reader) : s.Stays (s.captureSnap r) readParts readUnits :=
  (State.Stays.refl s _ _).setTime _ (by decide)

/-- Capturing a queue's head (R140). -/
theorem State.stays_snapHead (r : Reader) (p : Nat) : s.Stays (s.snapHead r p) readParts readUnits :=
  (State.Stays.refl s _ _).setStamps _ (by decide)

/-- Reading the last word of a queue's entry removes the entry (R140). -/
theorem State.stays_readEnt4 (r : Reader) {p : Nat} (hp : p < 4) : s.Stays (s.readEnt4 r p).2 readParts readUnits := by
  have same := State.Stays.refl s readParts readUnits
  unfold State.readEnt4
  split
  · exact same
  · dsimp only
    split
    · split
      · exact same.andThen (s.stays_setTsq _ hp)
      · exact same
    · exact same

theorem State.stays_readDefined (rd : Reader) (sub u off : Nat) (r : RegDesc) :
    s.Stays (s.readDefined rd sub u off r).2 readParts readUnits := by
  have same := State.Stays.refl s readParts readUnits
  unfold State.readDefined
  split
  · exact .ite (s.stays_captureSnap rd) same
  split
  · next port =>
    simp only [Bool.and_eq_true, decide_eq_true_eq] at port
    dsimp only
    split
    · exact s.stays_snapHead _ _
    · split
      · exact s.stays_readEnt4 _ (by omega)
      · exact same
  split
  · exact same
  · dsimp only
    split
    · exact same.setSnaps _ (by decide)
    · exact same

theorem State.stays_readTarget (a : Access) (addr : Nat) (t : RegTarget) : s.Stays (s.readTarget a addr t).2 readParts readUnits := by
  have same := State.Stays.refl s readParts readUnits
  cases t with
  | reg sub u off r =>
    dsimp only [State.readTarget]
    split
    · exact same
    split
    · exact s.stays_raiseAbsent _ _ _
    · exact s.stays_readDefined _ _ _ _ _
  | common => exact same
  | request => exact same
  | answer => exact same
  | reqCrc => exact same
  | rspCrc => exact same

theorem State.stays_readWords (a : Access) (l : List Nat) : s.Stays (s.readWords a l).2 readParts readUnits := by
  induction l generalizing s with
  | nil => exact State.Stays.refl s _ _
  | cons addr l ih =>
    unfold State.readWords
    split
    · exact State.Stays.refl s _ _
    · exact (s.stays_readTarget a addr _).trans (ih _)

theorem hostRead_stays (via : Via) (addr : Nat) : s.Stays (hostRead via addr s) readParts readUnits := by
  unfold hostRead
  split
  · dsimp only
    split <;> exact (s.stays_busError _ _ _).emit _
  · dsimp only
    split <;> exact (s.stays_readTarget _ _ _).emit _

theorem readBurst_stays (bar4 : Bool) (addr count : Nat) : s.Stays (readBurst bar4 addr count s) readParts readUnits := by
  refine .ite ((s.stays_busError _ _ _).emit _) ?_
  split
  · exact (s.stays_busError _ _ _).emit _
  · exact (s.stays_readWords _ _).emit _

theorem opRegRead_stays (q : Req) : (opRegRead q s).Stays s readParts readUnits := by
  refine .ite trivial (.ite trivial (.ite trivial ?_))
  dsimp only
  split
  · exact s.stays_busError _ _ _
  · exact .ite (s.stays_readWords _ _) (s.stays_readWords _ _)

end

/-- Settles O46: each event and each read keeps the frame of its row. -/
theorem carrierAndReadAccessesTouchTheirBuffers : Obligations.CarrierAndReadAccessesTouchTheirBuffers := by
  intro s t b l n m k via p v q
  simp only [List.forall_mem_cons, List.not_mem_nil, false_implies, implies_true, and_true]
  refine ⟨⟨?_, ?_, ?_⟩, ?_, ?_, ⟨?_, ?_, ?_⟩, ⟨?_, ?_, ?_⟩, ?_, ?_, ?_, ?_, ?_⟩ <;> intro e
  · exact happen_whenReached_stays e (spiCommand_stays _ b l)
  · exact happen_whenPort_stays e (netDatagram_stays _ p n m k b l)
  · exact happen_whenReached_stays e (reassemblyTimeout_stays _ n)
  · have sampled := (State.Stays.refl s.fresh [.carriers, .draws, .inputs] [⟨0, 1, 1⟩]).setSvcEn b (by decide)
    exact happen_whenReached_stays e (sampled.trans (uartLine_stays _ l))
  · exact happen_whenReached_stays e (State.stays_discard _ .uart)
  · exact happen_whenReached_stays e (spiReplyFetch_stays _ n)
  · exact happen_whenReached_stays e (spiEventFetch_stays _ n)
  · exact happen_whenReached_stays e (uartReplySent_stays _)
  · exact happen_whenReached_stays e (uartEvent_stays _)
  · exact happen_whenReached_stays e (msixUnmask_stays _ v b)
  · exact happen_whenAlive_stays e (logCommitTimer_stays _)
  · exact exec_request_touches e fun u => opRegRead_stays u _
  · exact happen_whenReached_stays e (hostRead_stays _ via n)
  · exact happen_whenReached_stays e (hostRead_stays _ via _)
  · exact happen_whenReached_stays e (hostRead_stays _ via _)
  · exact happen_whenReached_stays e (readBurst_stays _ b n m)

end Sys2Proof.Machine
end

section
/-!
Long operations (R53, R94, R101, R104, R105, R300, R337, R390): a request whose operation begins one makes the interface busy.
-/

namespace Sys2Proof.Machine

/-- What is reachable of a device that serves (R473). -/
theorem State.Serves.reachable {s : State} {op : Nat} {q : Req} (h : s.Serves op q) : s.reachable = true := by
  have alive := h.ready.alive
  simp only [State.alive, Bool.and_eq_true, beq_iff_eq] at alive
  simp [State.reachable, alive.1, alive.2]

/-- A frame without the carriers keeps what runs as a long operation. -/
theorem State.Stays.longOp {s t : State} {ps : List Part} {us : List Units} (h : s.Stays t ps us)
    (hp : .carriers ∉ ps := by decide) : t.car.longOp = s.car.longOp := by
  obtain ⟨car, -⟩ := h.touches.1.2 .carriers hp
  rw [car]

/-- A threshold of a monitor crossed fires, and may call for a Calender run (R440, R447). -/
theorem State.stays_crossRun (s : State) (mon ch : Nat) (on : Bool) : s.Stays (s.crossRun mon ch on) [.health] [⟨11, 1, 1⟩] := by
  have crossed : s.Stays (s.cross mon ch on).2 [.health] [⟨11, 1, 1⟩] := by
    have same := State.Stays.refl s [.health] [⟨11, 1, 1⟩]
    unfold State.cross
    dsimp only
    split
    · exact same
    · split
      · exact (same.setHealth _ (by decide)).fire _ _ _
      · exact same.setHealth _ (by decide)
  exact .ite (crossed.trans (State.stays_calRequest _)) crossed

/-- The wear of a bank that is written anew (R440). -/
theorem State.stays_storeWear (s : State) : s.Stays s.storeWear [.health] [⟨11, 1, 1⟩] :=
  ((State.Stays.refl s _ _).setHealth _ (by decide)).trans (State.stays_crossRun _ _ _ _)

theorem State.setBank_car (s : State) (b : Nat) (x : Bank) : (s.setBank b x).car = s.car := by
  unfold State.setBank
  split <;> rfl

/-- Writing the bank of a STORE leaves the operation that runs the same (R102). -/
theorem State.storeWrite_idx (s : State) : s.storeWrite.car.longOp.map (·.idx) = s.car.longOp.map (·.idx) := by
  have fired : ∀ (c : Prop) [Decidable c] (u : State) (src obj d : Nat), u.Stays (if c then u.fire src obj d else u) [] [] :=
    fun c _ u src obj d => .ite ((State.Stays.refl u _ _).fire _ _ _) (State.Stays.refl u _ _)
  unfold State.storeWrite
  split
  · next idle => rw [idle]
  · next l running =>
    split
    · rfl
    · dsimp only
      rw [(State.stays_storeWear _).longOp, (fired _ _ _ _ _).longOp, State.setBank_car, running]
      rfl

/-- A request that waits for a commit of the log runs as the operation it named (R94). -/
theorem State.commitFor_idx (s : State) (i : Nat) (q : Req) : (s.commitFor i q).car.longOp.map (·.idx) = some i := by
  have began : ∀ l : LongOp, (s.beginLong l).car.longOp = some l := fun l => (s.beginLong_longOp l).1
  unfold State.commitFor
  dsimp only
  generalize (if s.log.ram.isEmpty = true then 2 else if s.log.commit.isSome = true then 0 else 1) = arg
  split
  · rw [State.storeWrite_idx, began]
    rfl
  · rw [(State.traces_startCommit _).car]
    dsimp only
    rw [began]
    rfl

/-- An operation that begins runs under its index of Table 2.7. -/
theorem State.conclude_long_idx (s u : State) (q : Req) (m : Bool) :
    (s.conclude q m (.long u)).car.longOp.map (·.idx) = some (longIdx q).1 := by
  unfold State.conclude
  dsimp only
  split
  · exact u.commitFor_idx _ q
  · rw [(u.beginLong_longOp _).1]
    rfl

/-- A request served whose operation begins a long one is concluded by its beginning. -/
theorem serveOp_long {s u : State} {op : Nat} {q : Req} {f : Req → State → OpOut} (h : s.Serves op q)
    (hf : f (q.as op) (s.opStart (q.as op)) = .long u) :
    serveOp op f q s = s.conclude (q.as op) (s.sharesOp (q.as op)) (.long u) := by
  obtain ⟨l, running, _⟩ := Option.map_eq_some_iff.1 (s.conclude_long_idx u (q.as op) (s.sharesOp (q.as op)))
  have gate : s.gate (q.as op) = none := h.gate
  rw [serveOp_of_reachable op f q h.reachable, State.answer, h.ready.free]
  unfold State.perform
  rw [gate]
  simp only [hf, h.ready.steady, Bool.false_and, Bool.false_eq_true, if_false, running]

/-- HOST_BUSY is high while a long operation runs (R53). -/
theorem State.PinsFollow.hostBusy {t : State} (h : t.PinsFollow) {i : Nat} (running : t.car.longOp.map (·.idx) = some i) :
    t.pins.hostBusy = true := by
  obtain ⟨l, e, _⟩ := Option.map_eq_some_iff.1 running
  obtain ⟨-, -, busy, -⟩ := h
  rw [busy, State.busyLevel, e]
  rfl

/-- A request whose operation begins a long one: it runs, and HOST_BUSY is high. -/
theorem exec_begins {s : State} {op : Nat} {q : Req} {f : Req → State → OpOut} {u : Option Int → State} {i : Nat} (h : s.Serves op q)
    (idx : (longIdx (q.as op)).1 = i) (hf : ∀ r, f (q.as op) (s.at_ q.carrier r) = .long (u r)) :
    ∃ t, happen (serveOp op f q) s = .next t ∧ t.car.longOp.map (·.idx) = some i ∧ t.pins.hostBusy = true := by
  obtain ⟨r, started⟩ := State.opStart_eq s.fresh (q.as op)
  have begins : f (q.as op) (s.fresh.opStart (q.as op)) = .long (u r) := by
    rw [started]
    exact hf r
  obtain ⟨t, e, settled⟩ := happen_settled (serveOp op f q) s
  have running : t.car.longOp.map (·.idx) = some i := by
    rw [settled.car]
    show (serveOp op f q s.fresh).car.longOp.map (·.idx) = some i
    rw [serveOp_long h.fresh begins, State.conclude_long_idx, idx]
  refine ⟨t, e, running, State.PinsFollow.hostBusy ?_ running⟩
  obtain rfl : (serveOp op f q s.fresh).settleAll = t := by injection e
  exact State.pinsFollow_settleAll _

/-! ## The operations, where their conditions hold -/

section
variable {s : State} {q : Req}

theorem opStore_long (params : q.params = []) (lock : s.on F.NVS_CTL_STORE_LOCK = false) (safe : s.anySafe = false)
    (barred : s.storeBarred = false) : opStore q s = .long s := by
  simp [opStore, params, lock, safe, barred]

theorem opRecall_long (params : q.params = []) (barred : s.storeBarred = false) (banks : s.banksByAge ≠ []) :
    opRecall q s = .long s := by
  simp [opRecall, params, barred, banks]

theorem opFactoryRecall_long (params : q.params = []) (barred : s.storeBarred = false) (valid : s.factory.valid = true) :
    opFactoryRecall q s = .long s := by
  simp [opFactoryRecall, params, barred, valid]

theorem opLogFlush_long (params : q.params = []) (pfw : s.pins.pfwLow = false) : opLogFlush q s = .long s := by
  simp [opLogFlush, params, pfw]

theorem opSelftest_long (length : q.params.length = 4) (named : q.field 0 1 ≤ 0x0E ∨ q.field 0 1 = 0xFF) (pad : q.field 1 3 = 0) :
    opSelftest q s = .long s := by
  have named' : ¬ (q.field 0 1 > 0x0E ∧ q.field 0 1 ≠ 0xFF) := by omega
  unfold opSelftest
  rw [if_neg (by simp [length]), if_neg (by simpa using named'), if_neg (by simp [pad])]

theorem opMemRetrain_long (length : q.params.length = 8) (obj : q.obj = objId 9 0 0) (force : q.field 4 4 = 1) :
    opMemRetrain q s = .long { s with mem := { s.mem with live := false, offline := true } } := by
  simp [opMemRetrain, length, obj, force]

theorem opDiagOffline_long (length : q.params.length = 8) (params : s.diagParams q 1 = none) (enabled : s.on F.DIAG_CTL_EN = true)
    (safe : s.inSafe 8 9 = false) (off : ∀ x ∈ maskList (q.field 4 1), s.ampSt x = aOFF ∧ s.ampHeld x = false) :
    opDiagOffline q s = .long ({ s with
      amp := { s.amp with offline := maskList (q.field 4 1), dcOnly := bitOf (q.field 5 1) 0 } }.refreshDiag) := by
  have idle : ((maskList (q.field 4 1)).any fun x => s.ampSt x != aOFF || s.ampHeld x) = false :=
    List.any_eq_false.2 fun x hx => by simp [(off x hx).1, (off x hx).2]
  simp [opDiagOffline, length, params, enabled, safe, idle]

/-- MEM_RETRAIN stops the live retrain pass (R337). -/
theorem memRetrain_begins (h : s.Serves 0x0910 q) (length : q.params.length = 8) (obj : q.obj = objId 9 0 0)
    (force : q.field 4 4 = 1) :
    ∃ t, exec (.memRetrain q) s = .next t ∧ t.car.longOp.map (·.idx) = some 5 ∧ t.pins.hostBusy = true ∧ t.mem.live = false := by
  have begins := fun r => opMemRetrain_long (s := s.at_ q.carrier r) (q := q.as 0x0910) length obj force
  obtain ⟨t, e, idx, busy⟩ := exec_begins h rfl begins
  obtain ⟨t', r, e', -, served⟩ := exec_long h rfl (by decide) (by decide) begins
  obtain rfl : t = t' := by rw [e] at e'; injection e'
  exact ⟨t, e, idx, busy, congrArg MemState.live served.mem⟩

/-- DIAG_OFFLINE takes the channels of its mask (R390). -/
theorem diagOffline_begins (h : s.Serves 0x0810 q) (length : q.params.length = 8) (params : s.diagParams q 1 = none)
    (enabled : s.on F.DIAG_CTL_EN = true) (safe : s.inSafe 8 9 = false)
    (off : ∀ x ∈ maskList (q.field 4 1), s.ampSt x = aOFF ∧ s.ampHeld x = false) :
    ∃ t, exec (.diagOffline q) s = .next t ∧ t.car.longOp.map (·.idx) = some 7 ∧ t.pins.hostBusy = true ∧
      t.amp.offline = maskList (q.field 4 1) := by
  have begins := fun r => opDiagOffline_long (s := s.at_ q.carrier r) (q := q.as 0x0810) length params enabled safe off
  obtain ⟨t, e, idx, busy⟩ := exec_begins h rfl begins
  obtain ⟨t', r, e', -, served⟩ := exec_long h rfl (by decide) (by decide) begins
  obtain rfl : t = t' := by rw [e] at e'; injection e'
  exact ⟨t, e, idx, busy, congrArg AmpState.offline served.amp⟩

end

/-- Settles O15: with its own conditions met each operation begins, and what begins makes the interface busy. -/
theorem longOperationsBegin : Obligations.LongOperationsBegin :=
  ⟨fun _ _ h params lock safe barred => exec_begins h rfl fun _ => opStore_long params lock safe barred,
    fun _ _ h params barred banks => exec_begins h rfl fun _ => opRecall_long params barred banks,
    fun _ _ h params barred valid => exec_begins h rfl fun _ => opFactoryRecall_long params barred valid,
    fun _ _ h params pfw => exec_begins h rfl fun _ => opLogFlush_long params pfw,
    fun _ _ h length named pad => exec_begins h rfl fun _ => opSelftest_long length named pad,
    fun _ _ h length obj force => memRetrain_begins h length obj force,
    fun _ _ h length params en safe off => diagOffline_begins h length params en safe off⟩

end Sys2Proof.Machine
end

section
/-!
Requests that read, and what they answer (R38, R41, R42, R49, R98, R208, R401, R432, R444): the reply carries the bytes of the state.
-/

namespace Sys2Proof.Machine

/-! ## Bytes -/

@[simp] theorem length_leBytes (k v : Nat) : (leBytes k v).length = k := by
  induction k generalizing v with
  | zero => rfl
  | succ k ih => simp [leBytes, ih]

theorem leNat_leBytes (k v : Nat) : leNat (leBytes k v) = v % 256 ^ k := by
  induction k generalizing v with
  | zero => simp [leBytes, leNat, Nat.mod_one]
  | succ k ih =>
    rw [leBytes, leNat, ih, BitVec.toNat_ofNat, pow_succ' 256 k, Nat.mod_mul (x := v) (a := 256)]

/-- A request whose parameters are one 32-bit number names it. -/
theorem Req.obj_of_leBytes {q : Req} {v : Nat} (h : q.params = leBytes 4 v) (small : v < 2 ^ 32) : q.obj = v := by
  have whole : (leBytes 4 v).take 4 = leBytes 4 v := List.take_of_length_le (by simp)
  rw [Req.obj, Req.field, leAt, h, List.drop_zero, whole, leNat_leBytes]
  exact Nat.mod_eq_of_lt small

/-- The parts of an object ID (R7). -/
theorem objParts_objId {sub u e : Nat} (hs : sub < 256) (hu : u < 256) (he : e < 65536) : objParts (objId sub u e) = (sub, u, e) := by
  simp only [objParts, objId, Prod.mk.injEq]
  omega

/-! ## The operations -/

section
variable {s : State} {q : Req}

theorem opInfo_done (params : q.params = []) : opInfo q s = .done s
    (leBytes 4 (s.getF F.MGT_CHIP_ID) ++ leBytes 4 (Config.firmwareVersion s.pwr.fwCrc).toNat ++ leBytes 4 (s.getF F.NVS_RUN_GEN_GEN) ++
      leBytes 1 (s.getF F.PWR_STATUS_STATE) ++ leBytes 1 (s.getF F.ROLE_STATUS_STATE) ++ leBytes 2 0) none :=
  if_neg (by simp [params])

/-- A log without entries (R98). -/
theorem opLogRead_empty (length : q.params.length = 8) (flags : q.field 6 2 = 0) (low : 1 ≤ q.field 4 2) (high : q.field 4 2 ≤ 127)
    (ring : s.log.ring = []) (ram : s.log.ram = []) :
    opLogRead q s = .done s (leBytes 4 0 ++ leBytes 2 0 ++ leBytes 2 2) none := by
  have held : s.logHeld = [] := by simp [State.logHeld, ring, ram]
  have count : ¬ (q.field 4 2 < 1 ∨ q.field 4 2 > 127) := by omega
  unfold opLogRead
  dsimp only
  rw [if_neg (by simp [length]), if_neg (by simp [flags]), if_neg (by simp [flags]), if_neg (by simpa using count), held]

/-- A ledger without records (R444). -/
theorem opLedgerRead_empty (length : q.params.length = 8) (low : 1 ≤ q.field 4 2) (high : q.field 4 2 ≤ 127) (kind : q.field 6 1 ≤ 11)
    (ledger : s.hlt.ledger = []) : opLedgerRead q s = .done s (leBytes 4 0 ++ leBytes 2 0 ++ leBytes 2 2) none := by
  have count : ¬ (q.field 4 2 < 1 ∨ q.field 4 2 > 127) := by omega
  unfold opLedgerRead
  dsimp only
  rw [if_neg (by simp [length]), if_neg (by simpa using count), if_neg (by simpa using kind), ledger]

/-- A session's role and flag; its key is not read back (R49). -/
theorem opObjGet_session {n : Nat} (params : q.params = leBytes 4 (objId 0 1 n)) (low : 1 ≤ n) (high : n ≤ 15) :
    opObjGet 0 q s = .done s (leBytes 1 (KV.get {} s.car.sessions n).role ++
      leBytes 1 (b2n (KV.get {} s.car.sessions n).evFlag) ++ leBytes 2 0 ++ List.replicate 32 0) none := by
  have parts : objParts q.obj = (0, 1, n) := by
    rw [Req.obj_of_leBytes params (by unfold objId; omega), objParts_objId (by decide) (by decide) (by omega)]
  have session : sessionOf q = some n := by simp [sessionOf, parts]
  have kept : ¬ (n = 0 ∨ n > 15) := by omega
  have got : opSessionGet q s = .done s (leBytes 1 (KV.get {} s.car.sessions n).role ++
      leBytes 1 (b2n (KV.get {} s.car.sessions n).evFlag) ++ leBytes 2 0 ++ List.replicate 32 0) none := by
    unfold opSessionGet
    rw [if_neg (by simp [params]), session]
    exact if_neg (by simpa using kept)
  rw [← got]
  simp [opObjGet, onUnits, parts, params]

/-- A port's layer-3 block (R208). -/
theorem opObjGet_port {p : Nat} (params : q.params = leBytes 4 (objId 3 p 0)) (port : p < 4) (block : (s.l3 p).length = 64) :
    opObjGet 3 q s = .done s (s.l3 p) none := by
  have parts : objParts q.obj = (3, p, 0) := by
    rw [Req.obj_of_leBytes params (by unfold objId; omega), objParts_objId (by decide) (by omega) (by decide)]
  have whole : (s.l3 p ++ List.replicate 64 0).take 64 = s.l3 p := by rw [← block, List.take_left]
  have got : opNetPortGet q s = .done s (s.l3 p) none := by
    rw [opNetPortGet, if_neg (by simp [params]), parts]
    exact congrArg (OpOut.done s · none) whole
  rw [← got]
  simp [opObjGet, onUnits, wholeUnit, parts, params, port]

/-- This unit's health report (R432). -/
theorem opPairHealth_own (length : q.params.length = 8) (obj : q.obj = roleObj) (own : q.field 4 1 = 0) (pad : q.field 5 3 = 0) :
    opPairHealth q s = .done s s.healthReport none := by
  simp [opPairHealth, length, obj, own, pad]

/-- A channel's last result (R401). -/
theorem opDiagRead_last {r : DiagRec} (length : q.params.length = 8) (obj : q.obj = diagObj) (channel : q.field 4 1 ≤ 7)
    (last : q.field 5 1 = 0) (pad : q.field 6 2 = 0) (stored : KV.find s.amp.last (q.field 4 1) = some r) :
    opDiagRead q s = .done s r.bytes none := by
  have named : ¬ 7 < q.field 4 1 := by omega
  simp [opDiagRead, length, obj, named, last, pad, stored]

/-! ## Registers -/

/-- A register of one word that takes no snapshot reads as it stands (R59, R64). -/
theorem State.readDefined_word {sub u off : Nat} {r : RegDesc} (rd : Reader) (oneWord : r.mwLen ≤ 1)
    (notSnap : ¬ (sub = 1 ∧ u = 0 ∧ 0x40 ≤ off)) (notQueue : ¬ (sub = 1 ∧ 4 ≤ u ∧ u < 8 ∧ 0x70 ≤ off)) :
    s.readDefined rd sub u off r = (s.regWord sub u off, s) := by
  unfold State.readDefined
  rw [if_neg (by simpa [and_assoc] using notSnap), if_neg (by simpa [and_assoc] using notQueue), if_pos oneWord]

/-- REG_READ of one word (R42). -/
theorem opRegRead_word {sub u off : Nat} {r : RegDesc} (length : q.params.length = 8) (one : q.field 4 2 = 1) (pad : q.field 6 2 = 0)
    (target : regTarget (q.field 0 4) = some (.reg sub u off r)) (ordinary : r.priv = false) (present : s.absent sub u = false)
    (oneWord : r.mwLen ≤ 1) (notSnap : ¬ (sub = 1 ∧ u = 0 ∧ 0x40 ≤ off)) (notQueue : ¬ (sub = 1 ∧ 4 ≤ u ∧ u < 8 ∧ 0x70 ≤ off)) :
    opRegRead q s = .done s (leBytes 4 (s.regWord sub u off)) none := by
  simp [opRegRead, length, one, pad, target, State.readWords, State.readTarget, ordinary, present,
    State.readDefined_word _ oneWord notSnap notQueue]

/-- But for MBX.STATUS a register reads the same once the interpreter executes (R44). -/
theorem State.regWord_at (s : State) (c : Carrier) (a : Option Int) {sub u off : Nat} (h : ¬ (sub = 0 ∧ u = 2 ∧ off = 0x2008)) :
    (s.at_ c a).regWord sub u off = s.regWord sub u off := by
  have derived : (s.at_ c a).derived sub u off = s.derived sub u off := by
    unfold State.derived
    by_cases mgt : sub = 0
    · have status : ¬ (decide (u = 2) && decide (off = 0x2008)) = true := by simpa using fun hu ho => h ⟨mgt, hu, ho⟩
      rw [if_pos mgt, if_pos mgt, if_neg status, if_neg status]
      rfl
    · rw [if_neg mgt, if_neg mgt]
      rfl
  have data : ∀ addr, (s.at_ c a).regData addr = s.regData addr := fun _ => rfl
  simp only [State.regWord, derived, data]
  rfl

end

/-- Settles O16: each operation answers what the state holds, which is what the request found. -/
theorem readRequestsAnswerTheState : Obligations.ReadRequestsAnswerTheState :=
  ⟨fun _ _ h params => exec_read h fun _ => opInfo_done params,
    fun _ _ h length flags low high ring ram => exec_read h fun _ => opLogRead_empty length flags low high ring ram,
    fun s q _ _ _ _ h length one pad target ordinary present oneWord notSnap notQueue notStatus => exec_read h fun a =>
      s.regWord_at q.carrier a notStatus ▸ opRegRead_word length one pad target ordinary present oneWord notSnap notQueue,
    fun _ _ _ h params low high => exec_read h fun _ => opObjGet_session params low high,
    fun _ _ _ h params port block => exec_read h fun _ => opObjGet_port params port block,
    fun _ _ h length obj own pad => exec_read h fun _ => opPairHealth_own length obj own pad,
    fun _ _ h length low high kind ledger => exec_read h fun _ => opLedgerRead_empty length low high kind ledger,
    fun _ _ _ h length obj channel last pad stored => exec_read h fun _ => opDiagRead_last length obj channel last pad stored⟩

end Sys2Proof.Machine
end

section
/-!
SET requests and imports (R38, R49, R208, R231, R233, R254, R262, R310, R311): what passes the checks of its operation is stored.
-/

namespace Sys2Proof.Machine

/-! ## Operations that are done -/

/-- An operation is done: its reply and what holds of the state it leaves. -/
def OpOut.Does (ps : List Byte) (P : State → Prop) : OpOut → Prop
  | .done u b _ => b = ps ∧ P u
  | _ => False

/-- What concluding a request and settling keep. -/
def Kept (P : State → Prop) : Prop := ∀ u t : State, State.Served u t → P u → P t

/-- An operation works on the state it found, but for the request's time and the carrier. -/
theorem State.work_eq (s : State) (op : Nat) (q : Req) : ∃ a, s.work op q = s.at_ q.carrier a := State.opStart_eq s.fresh (q.as op)

/-- A request whose operation is done: the reply, and what holds of the state that the operation leaves. -/
theorem exec_work {s : State} {op : Nat} {q : Req} {f : Req → State → OpOut} {ps : List Byte} {P : State → Prop}
    (h : s.Serves op q) (kept : Kept P) (does : (f (q.as op) (s.work op q)).Does ps P) :
    ∃ t, happen (serveOp op f q) s = .next t ∧ t.Answered (q.as op) stOK ps ∧ P t := by
  cases out : f (q.as op) (s.work op q) with
  | done u b log =>
    rw [out] at does
    obtain ⟨rfl, holds⟩ := does
    obtain ⟨t, e, served, answered⟩ := exec_done h.fresh out
    exact ⟨t, e, answered, kept u t served holds⟩
  | _ => rw [out] at does; exact does.elim

theorem exec_does {s : State} {op : Nat} {q : Req} {f : Req → State → OpOut} {ps : List Byte} {P : State → Prop}
    (h : s.Serves op q) (kept : Kept P) (does : ∀ a, (f (q.as op) (s.at_ q.carrier a)).Does ps P) :
    ∃ t, happen (serveOp op f q) s = .next t ∧ t.Answered (q.as op) stOK ps ∧ P t := by
  obtain ⟨a, e⟩ := s.work_eq op q
  exact exec_work h kept (e ▸ does a)

/-- What is read from the stream tables is kept. -/
theorem kept_str (P : StreamState → Prop) : Kept fun t => P t.str := fun _ _ served h => (congrArg P served.str).mpr h

/-- What is read from the graphs is kept. -/
theorem kept_dsp (P : DspState → Prop) : Kept fun t => P t.dsp := fun _ _ served h => (congrArg P served.dsp).mpr h

/-- An operation of units does what it does where its object names one of them. -/
theorem onUnits_does {p : Nat → Nat → Bool} {f : Req → State → OpOut} {q : Req} {s : State} {ps : List Byte} {P : State → Prop}
    {sub u e : Nat} (parts : objParts q.obj = (sub, u, e)) (named : p sub u = true) (long : 4 ≤ q.params.length)
    (does : (f q s).Does ps P) : (onUnits p f q s).Does ps P := by
  have same : onUnits p f q s = f q s := by simp [onUnits, parts, named, Nat.not_lt.2 long]
  exact same ▸ does

/-- A session with what SESSION_SET gives it (R49): its counters start anew where its role or key changes. -/
def Session.given (x : Session) (role : Nat) (flag : Bool) (key : List Byte) : Session :=
  if x.role = role && x.key = key then { x with evFlag := flag } else { role := role, evFlag := flag, key := key, evSeq := x.evSeq }

/-- A session has this role, flag and key. -/
def Session.Holds (x : Session) (role : Nat) (flag : Bool) (key : List Byte) : Prop := x.role = role ∧ x.evFlag = flag ∧ x.key = key

theorem Session.given_holds (x : Session) (role : Nat) (flag : Bool) (key : List Byte) : (x.given role flag key).Holds role flag key := by
  unfold Session.given
  split
  · next same =>
    obtain ⟨role, key⟩ : x.role = role ∧ x.key = key := by simpa using same
    exact ⟨role, rfl, key⟩
  · exact ⟨rfl, rfl, rfl⟩

theorem wholeUnit_does {f : Req → State → OpOut} {q : Req} {s : State} {ps : List Byte} {P : State → Prop} {sub u : Nat}
    (parts : objParts q.obj = (sub, u, 0)) (does : (f q s).Does ps P) : (wholeUnit f q s).Does ps P := by
  rwa [wholeUnit, if_pos (by rw [parts])]

/-- The generic SET of a receive entry is the SET of a receive entry. -/
theorem opObjSet_rx (q : Req) (s : State) {e : Nat} (parts : objParts q.obj = (4, 0, e)) (long : 4 ≤ q.params.length) :
    opObjSet 4 q s = opRxSet q s := by
  simp [opObjSet, onUnits, parts, Nat.not_lt.2 long]

/-- A graph is an object of the graph unit. -/
theorem graphOf_parts {obj : Nat} {g : Bool × Nat} (graph : graphOf obj = some g) :
    objParts obj = (5, 64, (objParts obj).2.2) := by
  unfold graphOf at graph
  dsimp only at graph
  split at graph
  · next unit =>
    obtain ⟨sub, u⟩ : (objParts obj).1 = 5 ∧ (objParts obj).2.1 = 64 := by simpa using unit
    rw [← sub, ← u]
  · cases graph

section
variable {s : State} {q : Req}

/-! ## Sessions and ports -/

/-- SESSION_SET stores the role, the flag and the key (R49). -/
theorem opSessionSet_does {n : Nat} (length : q.params.length = 40) (session : sessionOf q = some n) (low : 1 ≤ n) (high : n ≤ 15)
    (role : q.field 4 1 ≤ 2) (flag : q.field 5 1 ≤ 1) (pad : q.field 6 2 = 0)
    (key : ((q.params.drop 8).take 32).all (· == 0#8) = false) :
    (opSessionSet q s).Does [] fun t =>
      (KV.get {} t.car.sessions n).Holds (q.field 4 1) (q.field 5 1 == 1) ((q.params.drop 8).take 32) := by
  have kept : ¬ (n = 0 ∨ n > 15) := by omega
  unfold opSessionSet
  rw [if_neg (by simp [length]), session]
  dsimp only
  rw [if_neg (by omega), if_neg (by omega), if_neg (by simp [pad]), if_neg (by simp [key]), if_neg (by simpa using kept)]
  have key' : ((q.params.drop 8).take 32).all (· == (0 : Byte)) = false := key
  simp only [key', Bool.false_eq_true, if_false]
  have stored := (KV.get {} s.car.sessions n).given_holds (q.field 4 1) (q.field 5 1 == 1) ((q.params.drop 8).take 32)
  change (ite (Session.given _ _ _ _ = _) _ _ : OpOut).Does _ _
  split
  · next same => exact ⟨rfl, by rwa [same] at stored⟩
  · refine ⟨rfl, ?_⟩
    dsimp only
    rw [KV.get_put_self]
    exact stored

theorem kept_session (n role : Nat) (flag : Bool) (key : List Byte) : Kept fun t => (KV.get {} t.car.sessions n).Holds role flag key := by
  intro u t served ⟨role, flag, key⟩
  obtain ⟨role', flag', key'⟩ := served.session n
  exact ⟨role'.trans role, flag'.trans flag, key'.trans key⟩

/-- Sending a report to each of a list leaves the streams as they are. -/
theorem State.str_foldl_emit {α : Type} (l : List α) (e : α → Emit) (s : State) :
    (l.foldl (fun s a => s.emit (e a)) s).str = s.str := by
  induction l generalizing s with
  | nil => rfl
  | cons a l ih => exact ih _

/-- Bringing the ports' groups in line leaves the layer-3 blocks (R208). -/
theorem State.l3_syncGroups (s : State) : s.syncGroups.str.l3 = s.str.l3 := by
  have port : ∀ (s : State) p x, (s.setPort p x).str.l3 = s.str.l3 := fun _ _ _ => rfl
  unfold State.syncGroups
  generalize List.range 4 = l
  induction l generalizing s with
  | nil => rfl
  | cons p l ih =>
    rw [List.foldl_cons, ih, port, State.str_foldl_emit, State.str_foldl_emit]

theorem State.l3_setL3 (s : State) (p : Nat) {b : List Byte} (nonzero : b.all (· == 0#8) = false) : (s.setL3 p b).l3 p = b := by
  unfold State.setL3 State.l3
  rw [State.l3_syncGroups, if_neg (by simp [nonzero])]
  exact KV.get_set_self _ _ _ _

/-- SET of a network port stores its layer-3 block (R208). -/
theorem opNetPortSet_does {p : Nat} (length : q.params.length = 68) (parts : objParts q.obj = (3, p, 0)) (port : p < 4)
    (sound : l3Fault (q.params.drop 4) = none) (off : s.on (F.MAC_CTL_EN p) = false)
    (some : (q.params.drop 4).all (· == 0#8) = false) :
    (opNetPortSet q s).Does [] fun t => t.l3 p = q.params.drop 4 := by
  have named : ¬ 3 < p := by omega
  unfold opNetPortSet
  rw [if_neg (by simp [length]), parts]
  dsimp only
  rw [if_neg (by simp [named]), sound]
  dsimp only
  rw [if_neg (by simp [off])]
  exact ⟨rfl, s.l3_setL3 p some⟩

/-! ## Entries -/

/-- SET of a receive entry stores its block (R231). -/
theorem opRxSet_does {bank e : Nat} (length : q.params.length = 68) (entry : entryOf s.rxBank (q.obj % 65536) = some (bank, e))
    (sound : rxFault (q.params.drop 4) = none) (free : s.rxFrozen bank e = false) :
    (opRxSet q s).Does [] fun t => t.rxBlkAt bank e = q.params.drop 4 := by
  unfold opRxSet
  rw [if_neg (by simp [length]), entry]
  dsimp only
  rw [sound]
  dsimp only
  rw [if_neg (by simp [free])]
  exact ⟨rfl, KV.get_set_self _ _ _ _⟩

theorem State.txBlk_bumpVersion (s : State) (e : Nat) : (s.bumpVersion e).str.txBlk = s.str.txBlk := by
  unfold State.bumpVersion
  dsimp only
  split
  · rw [(State.traces_fire _ _ _ _).str]
  · rfl

/-- SET of a transmit entry stores its block (R262). -/
theorem opTxSet_does {bank e : Nat} (length : q.params.length = 68) (entry : entryOf s.txBank (q.obj % 65536) = some (bank, e))
    (sound : txFault (q.params.drop 4) = none) (free : s.txFrozen bank e = false) :
    (opTxSet q s).Does [] fun t => t.txBlkAt bank e = q.params.drop 4 := by
  unfold opTxSet
  rw [if_neg (by simp [length]), entry]
  dsimp only
  rw [sound]
  dsimp only
  rw [if_neg (by simp [free])]
  refine ⟨rfl, ?_⟩
  unfold State.txBlkAt
  split
  · rw [State.txBlk_bumpVersion]
    exact KV.get_set_self _ _ _ _
  · exact KV.get_set_self _ _ _ _

/-- SDP_IMPORT stores the block that the description spells (R233). -/
theorem opSdpImport_does {bank e : Nat} {b : List Byte} (long : 8 ≤ q.params.length) (parts : objParts q.obj = (4, 0, q.obj % 65536))
    (entry : entryOf s.rxBank (q.obj % 65536) = some (bank, e)) (flags : q.field 4 2 < 128) (pad : q.field 6 2 = 0)
    (free : s.rxFrozen bank e = false)
    (block : s.sdpBlock (s.rxBlkAt bank e) (q.field 4 2 / 2)
      ((q.params.drop 8).drop (if bitOf (q.field 4 2) 0 then sapSkip (q.params.drop 8) else 0)) = .inr b)
    (sound : rxFault b = none) : (opSdpImport q s).Does b fun t => t.rxBlkAt bank e = b := by
  unfold opSdpImport
  rw [if_neg (by omega), parts]
  dsimp only
  rw [if_neg (by simp), entry]
  dsimp only
  rw [if_neg (by omega), if_neg (by simp [pad]), if_neg (by simp [free]), block]
  dsimp only
  rw [sound]
  exact ⟨rfl, KV.get_set_self _ _ _ _⟩

/-! ## Graphs -/

/-- Storing an image of a configured graph stores its bytes (R311). -/
theorem State.img_storeImg (s : State) (key : Nat) {img : List Byte} (header : configured img = true) :
    KV.get [] (s.storeImg key img).dsp.img key = img := by
  have counts : ∀ u : State, u.refreshGrt.dsp = u.dsp := fun _ => rfl
  rw [State.storeImg, counts, if_pos header]
  exact KV.get_set_self _ _ _ _

theorem State.writeImg_does {g : Bool × Nat} {off lenAt : Nat} {data new : List Byte} (free : s.imgFree g = true)
    (image : putImg (KV.get [] s.dsp.img (s.gKey g)) off data = new) (header : configured new = true)
    (short : gLen new ≤ 262144) (aligned : gLen new % 4 = 0) (inside : off + data.length ≤ max 16 (gLen new))
    (room : imageTotal (KV.set s.dsp.img (s.gKey g) new) ≤ 327680) :
    (s.writeImg q g off data lenAt).Does [] fun t => KV.get [] t.dsp.img (s.gKey g) = new := by
  unfold State.writeImg
  rw [if_neg (by simp [free])]
  dsimp only
  rw [image, if_neg (by simp [header, aligned, short]), if_neg (by omega), if_neg (by omega)]
  exact ⟨rfl, s.img_storeImg _ header⟩

/-- SET of a graph header (R310). -/
theorem opGraphSet_does {g : Bool × Nat} {new : List Byte} (length : q.params.length = 20) (graph : graphOf q.obj = some g)
    (free : s.imgFree g = true) (image : new = putImg (KV.get [] s.dsp.img (s.gKey g)) 0 (q.params.drop 4))
    (header : configured new = true) (short : gLen new ≤ 262144) (aligned : gLen new % 4 = 0)
    (room : imageTotal (KV.set s.dsp.img (s.gKey g) new) ≤ 327680) :
    (opGraphSet q s).Does [] fun t => KV.get [] t.dsp.img (s.gKey g) = new := by
  unfold opGraphSet
  rw [graph]
  dsimp only
  rw [if_neg (by simp [length])]
  exact State.writeImg_does free image.symm header short aligned (by simp [length]) room

/-- GRAPH_LOAD (R311). -/
theorem opGraphLoad_does {g : Bool × Nat} {new : List Byte} (long : 12 ≤ q.params.length) (fits : q.params.length ≤ 4080)
    (words : q.params.length % 4 = 0) (graph : graphOf q.obj = some g) (free : s.imgFree g = true) (word : q.field 4 4 % 4 = 0)
    (image : new = putImg (KV.get [] s.dsp.img (s.gKey g)) (q.field 4 4) (q.params.drop 8)) (header : configured new = true)
    (inside : q.field 4 4 + q.params.length ≤ gLen new + 8) (short : gLen new ≤ 262144) (aligned : gLen new % 4 = 0)
    (room : imageTotal (KV.set s.dsp.img (s.gKey g) new) ≤ 327680) :
    (opGraphLoad q s).Does [] fun t => KV.get [] t.dsp.img (s.gKey g) = new := by
  have bytes : ¬ ((q.params.length < 12 ∨ q.params.length - 8 > 4072) ∨ (q.params.length - 8) % 4 ≠ 0) := by omega
  have place : ¬ (q.field 4 4 % 4 ≠ 0 ∨ q.field 4 4 ≥ 262144) := by omega
  have within : q.field 4 4 + (q.params.drop 8).length ≤ max 16 (gLen new) := by rw [List.length_drop]; omega
  unfold opGraphLoad
  rw [if_neg (by simpa using bytes), graph]
  dsimp only
  rw [if_neg (by simpa using place)]
  exact State.writeImg_does free image.symm header short aligned within room

/-! ## The directory -/

/-- With room, a filed description is held (R254). -/
theorem State.fileDesc_files {dev i : Nat} {t : List Byte}
    (room : (KV.find (KV.get {} s.str.peers dev).descs i).isSome = true ∨ s.descCount < 32768) :
    (s.fileDesc dev i t).1 = true ∧ KV.find (KV.get {} (s.fileDesc dev i t).2.str.peers dev).descs i = some t := by
  have held : ¬ ((KV.find (KV.get {} s.str.peers dev).descs i).isNone = true ∧ 32768 ≤ s.descCount) := by
    rintro ⟨absent, full⟩
    rcases room with known | room
    · simp [Option.isNone_iff_eq_none.1 absent] at known
    · omega
  have put : ∀ (u : State) (x : Peer), KV.get {} (u.putPeer dev x).str.peers dev = x := fun u x => KV.get_set_self _ _ _ _
  unfold State.fileDesc
  rw [if_neg (by simpa using held)]
  refine ⟨rfl, ?_⟩
  have str := (State.stays_checkDup (s.putPeer dev { KV.get {} s.str.peers dev with
    descs := KV.set (KV.get {} s.str.peers dev).descs i t }) dev t).touches.1.2 .streams (by decide)
  rw [str, put]
  exact KV.find_set_self _ _ _

theorem State.get_touchPeer (s : State) (dev : Nat) : KV.get {} (s.touchPeer dev).str.peers dev = KV.get {} s.str.peers dev := by
  unfold State.touchPeer
  split
  · rfl
  · next absent =>
    rw [(State.traces_fire _ _ _ _).str, KV.get_eq_find {} s.str.peers, Option.not_isSome_iff_eq_none.1 absent]
    exact KV.get_set_self _ _ _ _

/-- The directory's first peer has room. -/
theorem State.descCount_first {dev : Nat} {x : Peer} (empty : s.str.peers = []) (descs : x.descs = (KV.get {} s.str.peers dev).descs) :
    ((s.touchPeer dev).putPeer dev x).descCount < 32768 := by
  have touched : (s.touchPeer dev).str.peers = [(dev, {})] := by
    rw [State.touchPeer, if_neg (by simp [empty, KV.find]), (State.traces_fire _ _ _ _).str]
    simp [State.putPeer, empty, KV.set, KV.erase, KV.insert]
  have only : ((s.touchPeer dev).putPeer dev x).str.peers = [(dev, x)] := by
    simp [State.putPeer, touched, KV.set, KV.erase, KV.insert]
  have none : x.descs = [] := by rw [descs, empty]; rfl
  simp [State.descCount, only, none]

/-- DIR_IMPORT files its description where the directory holds the device's peer as `x` and has room. -/
theorem opDirImport_does (long : 8 ≤ q.params.length) (flags : q.field 4 2 < 128) (whole : bitOf (q.field 4 2) 0 = false)
    (pad : q.field 6 2 = 0)
    (room : ∀ x : Peer, x.descs = (KV.get {} s.str.peers (q.field 0 2)).descs →
      (KV.find x.descs (q.field 2 2)).isSome = true ∨ ((s.touchPeer (q.field 0 2)).putPeer (q.field 0 2) x).descCount < 32768) :
    (opDirImport q s).Does [] fun t => KV.find (KV.get {} t.str.peers (q.field 0 2)).descs (q.field 2 2) = some (q.params.drop 8) := by
  have touched : KV.get {} (s.touchPeer (q.field 0 2)).str.peers (q.field 0 2) = KV.get {} s.str.peers (q.field 0 2) :=
    s.get_touchPeer _
  unfold opDirImport
  rw [if_neg (by omega)]
  dsimp only
  rw [if_neg (by omega), if_neg (by simp [pad]), if_neg (c := bitOf _ _ = true) (by simp [whole])]
  generalize hx : ({ KV.get {} (s.touchPeer (q.field 0 2)).str.peers (q.field 0 2) with imported := _, sec := _ } : Peer) = x
  have descs : x.descs = (KV.get {} s.str.peers (q.field 0 2)).descs := by rw [← hx, touched]
  obtain ⟨filed, held⟩ := State.fileDesc_files (t := q.params.drop 8) ((room x descs).imp_left fun known => by
    rwa [show KV.get {} ((s.touchPeer (q.field 0 2)).putPeer (q.field 0 2) x).str.peers (q.field 0 2) = x from KV.get_set_self _ _ _ _])
  rw [if_pos filed]
  exact ⟨rfl, held⟩

end

/-- Settles O18: each operation stores what it carries, and concluding a request keeps what is stored. -/
theorem setRequestsStore : Obligations.SetRequestsStore := by
  refine ⟨?_, ?_, ?_, ?_, ?_, ?_, ?_, ?_, ?_, ?_⟩
  · intro s q n h length obj low high role flag pad key
    have parts : objParts q.obj = (0, 1, n) := by rw [obj, objParts_objId (by decide) (by decide) (by omega)]
    exact exec_does h (kept_session _ _ _ _) fun a => onUnits_does parts rfl (by simp [length])
      (opSessionSet_does length (by simp [sessionOf, parts]) low high role flag pad key)
  · intro s q p h length obj port sound off some
    have parts : objParts q.obj = (3, p, 0) := by rw [obj, objParts_objId (by decide) (by omega) (by decide)]
    exact exec_does h (kept_str fun x => KV.get [] x.l3 p = _) fun a => onUnits_does parts (by simp [port]) (by simp [length])
      (wholeUnit_does parts (opNetPortSet_does length parts port sound off some))
  · intro s q bank e h length parts entry sound free
    exact exec_does h (kept_str fun x => KV.get [] x.rxBlk (bank * 512 + e) = _) fun a => onUnits_does parts rfl (by simp [length])
      (opRxSet_does length entry sound free)
  · intro s q bank e h length parts entry sound free
    exact exec_does h (kept_str fun x => KV.get [] x.rxBlk (bank * 512 + e) = _) fun a =>
      (opObjSet_rx _ _ parts (by simp [length])).symm ▸ opRxSet_does length entry sound free
  · intro s q bank e h length parts entry sound free
    exact exec_does h (kept_str fun x => KV.get [] x.txBlk (bank * 512 + e) = _) fun a => onUnits_does parts rfl (by simp [length])
      (opTxSet_does length entry sound free)
  · intro s q g new h length graph free image header _ short aligned room
    exact exec_does h (kept_dsp fun x => KV.get [] x.img (s.gKey g) = _) fun a => onUnits_does (graphOf_parts graph) rfl (by simp [length])
      (opGraphSet_does (s := s.at_ q.carrier a) length graph free image header short aligned room)
  · intro s q g new h long fits words graph free word image header inside short aligned room
    exact exec_does h (kept_dsp fun x => KV.get [] x.img (s.gKey g) = _) fun a =>
      opGraphLoad_does (s := s.at_ q.carrier a) long fits words graph free word image header inside short aligned room
  · intro s q bank e b h long parts entry flags pad free block sound
    refine exec_work h (kept_str fun x => KV.get [] x.rxBlk (bank * 512 + e) = _) ?_
    obtain ⟨a, start⟩ := s.work_eq 0x0421 q
    rw [start] at block ⊢
    exact opSdpImport_does long parts entry flags pad free block sound
  · intro s q h long flags whole pad known
    exact exec_does h (kept_str fun x => KV.find (KV.get {} x.peers (q.field 0 2)).descs (q.field 2 2) = _) fun a =>
      opDirImport_does long flags whole pad fun x descs => .inl (descs ▸ known)
  · intro s q h long flags whole pad empty
    exact exec_does h (kept_str fun x => KV.find (KV.get {} x.peers (q.field 0 2)).descs (q.field 2 2) = _) fun a =>
      opDirImport_does long flags whole pad fun x descs => .inr (State.descCount_first empty descs)

end Sys2Proof.Machine
end

section
/-!
ENABLE and DISABLE (R38, R39, R66, R231, R234, R261, R310, R320, R321, R345, R375): the flags of table entries and graphs, and the
enable bits of units.
-/

namespace Sys2Proof.Machine

/-! ## The flags of entries and graphs -/

/-- The enable flags of receive entries, of transmit entries and of graphs. -/
def State.flags (s : State) : List Nat × List Nat × List Nat := (s.str.rxFlag, s.str.txFlag, s.dsp.flag)

theorem State.flags_congr {s t : State} (str : t.str = s.str) (dsp : t.dsp = s.dsp) : t.flags = s.flags := by
  rw [State.flags, State.flags, str, dsp]

theorem State.rxFlag_of_flags {s t : State} (h : t.flags = s.flags) : t.str.rxFlag = s.str.rxFlag := congrArg (·.1) h
theorem State.txFlag_of_flags {s t : State} (h : t.flags = s.flags) : t.str.txFlag = s.str.txFlag := congrArg (·.2.1) h
theorem State.flag_of_flags {s t : State} (h : t.flags = s.flags) : t.dsp.flag = s.dsp.flag := congrArg (·.2.2) h

theorem State.Traces.flags {s t : State} (h : State.Traces s t) : t.flags = s.flags := State.flags_congr h.str h.dsp

@[simp] theorem State.flags_fire (s : State) (src obj detail : Nat) : (s.fire src obj detail).flags = s.flags :=
  (s.traces_fire src obj detail).flags

@[simp] theorem State.flags_logE (s : State) (origin oid kind : Nat) (addr : Bool) (obj old new : Nat) :
    (s.logE origin oid kind addr obj old new).flags = s.flags := (s.traces_logE origin oid kind addr obj old new).flags

@[simp] theorem State.flags_setF (s : State) (f : Fld) (v : Nat) : (s.setF f v).flags = s.flags := rfl
@[simp] theorem State.flags_emit (s : State) (e : Emit) : (s.emit e).flags = s.flags := rfl
@[simp] theorem State.flags_setRaw (s : State) (src : Nat) (on : Bool) : (s.setRaw src on).flags = s.flags := rfl
@[simp] theorem State.flags_setPort (s : State) (p : Nat) (x : PortState) : (s.setPort p x).flags = s.flags := rfl
@[simp] theorem State.flags_setIn (s : State) (p : Nat) (v : Blk) : (s.setIn p v).flags = s.flags := rfl
@[simp] theorem State.flags_setRx (s : State) (e : Nat) (x : RxRun) : (s.setRx e x).flags = s.flags := rfl
@[simp] theorem State.flags_setTx (s : State) (e : Nat) (x : TxRun) : (s.setTx e x).flags = s.flags := rfl
@[simp] theorem State.flags_setOwner (s : State) (o : Nat) (x : OwnerRun) : (s.setOwner o x).flags = s.flags := rfl
@[simp] theorem State.flags_clearKey (s : State) (k : Nat) : (s.clearKey k).flags = s.flags := rfl
@[simp] theorem State.flags_refreshReam (s : State) : s.refreshReam.flags = s.flags := by simp only [State.refreshReam, State.flags_setF]
@[simp] theorem State.flags_refreshRxt (s : State) : s.refreshRxt.flags = s.flags := by simp only [State.refreshRxt, State.flags_setF, State.flags_refreshReam]
@[simp] theorem State.flags_refreshTxt (s : State) : s.refreshTxt.flags = s.flags := by simp only [State.refreshTxt, State.flags_setF]
@[simp] theorem State.flags_refreshRxRaw (s : State) : s.refreshRxRaw.flags = s.flags := rfl
@[simp] theorem State.flags_refreshTxRaw (s : State) : s.refreshTxRaw.flags = s.flags := rfl
@[simp] theorem State.flags_refreshGrt (s : State) : s.refreshGrt.flags = s.flags := rfl
@[simp] theorem State.flags_refreshUtil (s : State) (p : Nat) : (s.refreshUtil p).flags = s.flags := rfl

theorem State.flags_foldl {α : Type} {f : State → α → State} (step : ∀ s a, (f s a).flags = s.flags) (l : List α) (s : State) :
    (l.foldl f s).flags = s.flags := by
  induction l generalizing s with
  | nil => rfl
  | cons a l ih => exact (ih _).trans (step s a)

theorem State.flags_ite {c : Prop} [Decidable c] {s t u : State} (yes : t.flags = s.flags) (no : u.flags = s.flags) :
    (if c then t else u).flags = s.flags := by
  split
  · exact yes
  · exact no

@[simp] theorem State.flags_raise (s : State) (src obj detail : Nat) : (s.raise src obj detail).flags = s.flags :=
  State.flags_ite rfl (State.flags_fire _ _ _ _)

@[simp] theorem State.flags_refreshAdm (s : State) : s.refreshAdm.flags = s.flags := by
  unfold State.refreshAdm
  dsimp only
  have homed : ∀ (f : State → Nat → State), (∀ s b, (f s b).flags = s.flags) → ∀ u : State, u.flags = s.flags →
      ((List.range 64).foldl f u).flags = s.flags := fun f step u h => (State.flags_foldl step _ u).trans h
  refine State.flags_ite ((State.flags_raise _ _ _ _).trans ?_) (Eq.trans rfl ?_)
  all_goals exact homed _ (fun _ _ => rfl) _ rfl

@[simp] theorem State.flags_commitOwners (s : State) (l : List (Nat × OwnerC)) : (s.commitOwners l).flags = s.flags := by
  unfold State.commitOwners
  rw [State.flags_refreshReam, State.flags_refreshAdm]
  rfl

@[simp] theorem State.flags_freeOwner (s : State) (o : Nat) : (s.freeOwner o).flags = s.flags := by
  unfold State.freeOwner
  rw [State.flags_refreshReam, State.flags_refreshAdm]
  rfl

@[simp] theorem State.flags_syncGroups (s : State) : s.syncGroups.flags = s.flags := by
  unfold State.syncGroups
  refine State.flags_foldl (fun u p => ?_) _ _
  rw [State.flags_setPort, State.flags_foldl fun _ _ => State.flags_emit _ _, State.flags_foldl fun _ _ => State.flags_emit _ _]

@[simp] theorem State.flags_fdAfter (s : State) (b : List Byte) : (s.fdAfter b).flags = s.flags := by
  have unlocked : ∀ (u : State) k c, (u.fdUnlock k c).flags = u.flags := fun u k c => State.flags_fire _ _ _ _
  refine State.flags_ite ?_ rfl
  unfold State.fdRefresh
  simp only [State.flags_setF]
  exact State.flags_ite (State.flags_ite rfl (unlocked _ _ _)) rfl

@[simp] theorem State.flags_silence (s : State) (b : List Byte) (n c : Nat) : (s.silence b n c).flags = s.flags := by
  induction c with
  | zero => rfl
  | succ c ih => exact ih

@[simp] theorem State.flags_refreshTsMiss (s : State) : s.refreshTsMiss.flags = s.flags := by
  unfold State.refreshTsMiss
  dsimp only
  rw [State.flags_setRaw]
  refine State.flags_foldl (fun u d => ?_) _ _
  split
  · rw [State.flags_fire]
    rfl
  · rfl

@[simp] theorem State.flags_advertise (s : State) (p code : Nat) : (s.advertise p code).flags = s.flags := State.flags_ite rfl rfl

@[simp] theorem State.flags_startStep (s : State) (p target : Nat) : (s.startStep p target).flags = s.flags := by
  have pathDown : ∀ u : State, (u.rxPathDown p).flags = u.flags := by
    intro u
    unfold State.rxPathDown
    rw [State.flags_refreshRxRaw]
    refine State.flags_foldl (fun v q => State.flags_ite ?_ rfl) _ _
    rw [State.flags_fire, State.flags_setRx]
  unfold State.startStep
  rw [State.flags_refreshUtil, State.flags_advertise, pathDown]
  rfl

@[simp] theorem State.flags_stepUps (s : State) (l : List (Nat × Nat)) : (s.stepUps l).flags = s.flags := by
  unfold State.stepUps
  dsimp only
  generalize stepped : l.foldl _ s = u
  have steps : u.flags = s.flags := by
    rw [← stepped]
    refine State.flags_foldl (fun v p => ?_) l s
    split
    · rw [State.flags_advertise, State.flags_setPort]
    · rfl
  split
  · exact steps
  split
  · rw [State.flags_startStep, steps]
  split
  · rw [State.flags_startStep, steps]
  · exact steps

@[simp] theorem State.flags_convertStop (s : State) (e : Nat) : (s.convertStop e).flags = s.flags :=
  State.flags_ite (State.flags_freeOwner _ _) rfl

@[simp] theorem State.flags_drawSeq (s : State) (o : Origin) (e : Nat) : (s.drawSeq o e).flags = s.flags := by
  unfold State.drawSeq
  dsimp only
  refine State.flags_ite ?_ rfl
  rw [State.flags_logE]
  exact State.flags_ite rfl rfl

theorem contains_withN_self (l : List Nat) (n : Nat) : (withN l n).contains n = true := by
  unfold withN
  split
  · assumption
  · simp

/-! ## Entries and graphs, enabled and disabled -/

section
variable {s : State} {q : Req}

/-- An admitted receive entry's flag stands. -/
theorem State.rxOn_rxAdmit (s : State) (e : Nat) (a : List (Nat × Nat) × List (Nat × OwnerC)) :
    (s.rxAdmit e a).rxOn s.rxBank e = true := by
  have flags : (s.rxAdmit e a).flags =
      ({ s with str := { s.str with rxFlag := withN s.str.rxFlag (s.rxBank * 512 + e) } } : State).flags := by
    have started : ∀ (u : State) p, (u.rxStart e p).flags = u.flags := fun u p => by simp [State.rxStart]
    have converted : ∀ u : State, (u.convertStart e).flags = u.flags := fun u => State.flags_setOwner _ _ _
    unfold State.rxAdmit
    simp only [apply_ite State.flags, State.flags_refreshRxt, State.flags_stepUps, started, converted, State.flags_commitOwners, ite_self]
  rw [State.rxOn, State.rxFlag_of_flags flags]
  exact contains_withN_self _ _

theorem opRxEnable_does {bank e : Nat} (length : q.params.length = 4) (entry : entryOf s.rxBank (q.obj % 65536) = some (bank, e))
    (configured : bChannels (s.rxBlkAt bank e) ≠ 0)
    (may : s.rxOn bank e = true ∨ (bank ≠ s.rxBank ∧ s.str.rxSwap = none) ∨ (bank = s.rxBank ∧ ∃ a, s.rxCheck e = .inr a)) :
    (opRxEnable q s).Does [] fun t => t.rxOn bank e = true := by
  unfold opRxEnable
  rw [if_neg (by simp [length]), entry]
  dsimp only
  rw [if_neg configured]
  split
  · next on => exact ⟨rfl, on⟩
  next off =>
  rcases may with on | ⟨other, free⟩ | ⟨rfl, a, admitted⟩
  · exact absurd on off
  · rw [if_pos other, if_neg (by simp [free])]
    exact ⟨rfl, contains_withN_self _ _⟩
  · rw [if_neg (by simp), admitted]
    exact ⟨rfl, s.rxOn_rxAdmit e a⟩

/-- A removed receive entry's flag is clear. -/
theorem State.rxOn_rxRemove (s : State) (e : Nat) : (s.rxRemove e).rxOn s.rxBank e = false := by
  have flags : (s.rxRemove e).flags =
      ({ s with str := { s.str with rxFlag := without s.str.rxFlag (s.rxBank * 512 + e) } } : State).flags := by
    have stopped : ∀ u : State, (u.rxStop e).flags = u.flags := by
      intro u
      simp only [State.rxStop, State.flags_syncGroups, State.flags_refreshRxRaw, State.flags_refreshRxt, State.flags_fdAfter,
        State.flags_silence]
      rfl
    unfold State.rxRemove
    simp only [State.flags_convertStop, apply_ite State.flags, stopped, State.flags_refreshRxt, ite_self]
  rw [State.rxOn, State.rxFlag_of_flags flags]
  exact contains_without_self _ _

theorem opRxDisable_does {bank e : Nat} (length : q.params.length = 4) (entry : entryOf s.rxBank (q.obj % 65536) = some (bank, e))
    (free : bank ≠ s.rxBank → s.str.rxSwap = none) : (opRxDisable q s).Does [] fun t => t.rxOn bank e = false := by
  unfold opRxDisable
  rw [if_neg (by simp [length]), entry]
  dsimp only
  split
  · next off => exact ⟨rfl, by simpa using off⟩
  split
  · next other =>
    rw [if_neg (by simp [free other])]
    exact ⟨rfl, contains_without_self _ _⟩
  · next active =>
    obtain rfl : bank = s.rxBank := by simpa using active
    exact ⟨rfl, s.rxOn_rxRemove e⟩

/-- An admitted transmit entry's flag stands. -/
theorem State.txOn_txAdmit (s : State) (o : Origin) (e : Nat) (steps : List (Nat × Nat)) (start : Int) :
    (s.txAdmit o e steps start).txOn s.txBank e = true := by
  have flags : (s.txAdmit o e steps start).flags =
      ({ s with str := { s.str with txFlag := withN s.str.txFlag (s.txBank * 512 + e) } } : State).flags := by
    have started : ∀ (u : State) p, (u.txStart e p start).flags = u.flags := fun u p => by simp [State.txStart]
    unfold State.txAdmit
    simp only [apply_ite State.flags, State.flags_refreshTxt, State.flags_stepUps, started, State.flags_drawSeq, ite_self]
  rw [State.txOn, State.txFlag_of_flags flags]
  exact contains_withN_self _ _

theorem opTxEnable_does {bank e : Nat} (length : q.params.length = 4) (entry : entryOf s.txBank (q.obj % 65536) = some (bank, e))
    (configured : bChannels (s.txBlkAt bank e) ≠ 0)
    (may : s.txOn bank e = true ∨ (bank ≠ s.txBank ∧ s.str.txSwap = none) ∨ (bank = s.txBank ∧ ∃ a, s.txCheck e = .inr a)) :
    (opTxEnable q s).Does [] fun t => t.txOn bank e = true := by
  unfold opTxEnable
  rw [if_neg (by simp [length]), entry]
  dsimp only
  rw [if_neg configured]
  split
  · next on => exact ⟨rfl, on⟩
  next off =>
  rcases may with on | ⟨other, free⟩ | ⟨rfl, a, admitted⟩
  · exact absurd on off
  · rw [if_pos other, if_neg (by simp [free])]
    exact ⟨rfl, contains_withN_self _ _⟩
  · rw [if_neg (by simp), admitted]
    exact ⟨rfl, s.txOn_txAdmit _ e a _⟩

/-- A removed transmit entry's flag is clear. -/
theorem State.txOn_txRemove (s : State) (e : Nat) (stop : Int) : (s.txRemove e stop).txOn s.txBank e = false := by
  have flags : (s.txRemove e stop).flags =
      ({ s with str := { s.str with txFlag := without s.str.txFlag (s.txBank * 512 + e) } } : State).flags := by
    have stopped : ∀ u : State, (u.txStop e stop).flags = u.flags := by
      intro u
      simp only [State.txStop, State.flags_refreshTsMiss, State.flags_refreshTxRaw, State.flags_refreshTxt]
      exact State.flags_ite rfl rfl
    exact State.flags_ite (stopped _) (State.flags_refreshTxt _)
  rw [State.txOn, State.txFlag_of_flags flags]
  exact contains_without_self _ _

theorem opTxDisable_does {bank e : Nat} (length : q.params.length = 4) (entry : entryOf s.txBank (q.obj % 65536) = some (bank, e))
    (free : bank ≠ s.txBank → s.str.txSwap = none) : (opTxDisable q s).Does [] fun t => t.txOn bank e = false := by
  unfold opTxDisable
  rw [if_neg (by simp [length]), entry]
  dsimp only
  split
  · next off => exact ⟨rfl, by simpa using off⟩
  split
  · next other =>
    rw [if_neg (by simp [free other])]
    exact ⟨rfl, contains_without_self _ _⟩
  · next active =>
    obtain rfl : bank = s.txBank := by simpa using active
    exact ⟨rfl, s.txOn_txRemove e _⟩

/-- The key of a graph of the active bank. -/
theorem State.gKey_active (s : State) (n : Nat) : s.gKey (false, n) = s.gBank * 256 + n := rfl

theorem opGraphEnable_does {g : Bool × Nat} (length : q.params.length = 4) (graph : graphOf q.obj = some g)
    (header : configured (KV.get [] s.dsp.img (s.gKey g)) = true)
    (may : s.dsp.flag.contains (s.gKey g) = true ∨ (g.1 = true ∧ s.dsp.swap = none) ∨
      (g.1 = false ∧ ∃ l, s.graphCheck g.2 = .inr l)) :
    (opGraphEnable q s).Does [] fun t => t.dsp.flag.contains (s.gKey g) = true := by
  have started : ∀ n l start, (s.graphStart n l start).flags =
      ({ s with dsp := { s.dsp with flag := withN s.dsp.flag (s.gBank * 256 + n) } } : State).flags := fun n l start => by
    simp only [State.graphStart, State.flags_refreshGrt, State.flags_commitOwners, State.flags_setOwner, State.flags_clearKey]
  unfold opGraphEnable
  rw [if_neg (by simp [length]), graph]
  dsimp only
  rw [if_neg (by simp [header])]
  split
  · next on => exact ⟨rfl, on⟩
  next off =>
  rcases may with on | ⟨other, free⟩ | ⟨active, l, admitted⟩
  · exact absurd on off
  · rw [if_pos other, if_neg (by simp [free])]
    exact ⟨rfl, contains_withN_self _ _⟩
  · rw [if_neg (by simp [active]), admitted]
    refine ⟨rfl, ?_⟩
    obtain ⟨_, n⟩ := g
    obtain rfl := active
    rw [State.gKey_active, State.flag_of_flags (started _ _ _)]
    exact contains_withN_self _ _

theorem opGraphDisable_does {g : Bool × Nat} (length : q.params.length = 4) (graph : graphOf q.obj = some g)
    (free : g.1 = true → s.dsp.swap = none) : (opGraphDisable q s).Does [] fun t => t.dsp.flag.contains (s.gKey g) = false := by
  unfold opGraphDisable
  rw [if_neg (by simp [length]), graph]
  dsimp only
  split
  · next off => exact ⟨rfl, by simpa using off⟩
  split
  · next other =>
    rw [if_neg (by simp [free other])]
    exact ⟨rfl, contains_without_self _ _⟩
  · next active =>
    obtain ⟨b, n⟩ := g
    obtain rfl : b = false := by simpa using active
    refine ⟨rfl, ?_⟩
    have stopped := s.gOn_graphStop n (s.ticksAhead 2)
    exact stopped

end

end Sys2Proof.Machine
end

section
/-!
ENABLE and DISABLE of units (R39, R66, R345, R375): each idle unit named rises, each enabled unit named falls.
-/

namespace Sys2Proof.Machine

/-! ## One unit -/

/-- A unit's enable bit rises (R66). -/
def State.enableUnit (s : State) (sub : Nat) (p : Nat × Nat) : State :=
  let s := s.setF (enFld (unitBase sub p.1 + p.2)) 1
  if s.inSafe sub p.1 then s.enSafe sub p.1 p.2 else s.enRise sub p.1 p.2

/-- A unit's enable bit falls (R66). -/
def State.disableUnit (s : State) (sub : Nat) (p : Nat × Nat) : State :=
  (s.setF (enFld (unitBase sub p.1 + p.2)) 0).enFall sub p.1 p.2

/-- Of the units named those that are idle rise. -/
def State.enableUnits (s : State) (sub : Nat) (l : List (Nat × Nat)) : State :=
  (l.filter (fun p => !s.on (enFld (unitBase sub p.1 + p.2)))).foldl (fun s p => s.enableUnit sub p) s

/-- Of the units named those that are enabled fall. -/
def State.disableUnits (s : State) (sub : Nat) (l : List (Nat × Nat)) : State :=
  (l.filter (fun p => s.on (enFld (unitBase sub p.1 + p.2)))).foldl (fun s p => s.disableUnit sub p) s

theorem enTargets_sub {sub o : Nat} {l : List (Nat × Nat)} (h : enTargets sub o = some l) : (objParts o).1 = sub := by
  by_contra other
  simp [enTargets, other] at h

section
variable {s : State} {q : Req} {sub : Nat} {l : List (Nat × Nat)}

theorem State.enableUnits_single (p : Nat × Nat) :
    s.enableUnits sub [p] = if s.on (enFld (unitBase sub p.1 + p.2)) = true then s else s.enableUnit sub p := by
  unfold State.enableUnits
  cases h : s.on (enFld (unitBase sub p.1 + p.2)) <;> simp [h]

theorem State.disableUnits_single (p : Nat × Nat) :
    s.disableUnits sub [p] = if s.on (enFld (unitBase sub p.1 + p.2)) = true then s.disableUnit sub p else s := by
  unfold State.disableUnits
  cases h : s.on (enFld (unitBase sub p.1 + p.2)) <;> simp [h]

/-- ENABLE of units all of which may change. -/
theorem opUnitEnable_does {P : State → Prop} (length : q.params.length = 4) (targets : enTargets sub q.obj = some l)
    (may : ∀ p ∈ l, s.on (enFld (unitBase sub p.1 + p.2)) = true ∨ s.mayEnable sub p = true) (holds : P (s.enableUnits sub l)) :
    (opUnitEnable sub q s).Does [] P := by
  unfold State.enableUnits at holds
  unfold opUnitEnable
  rw [if_neg (by simp [length]), targets]
  dsimp only
  split
  · next none =>
    rw [List.isEmpty_iff.1 none] at holds
    exact ⟨rfl, holds⟩
  · rw [if_neg]
    · exact ⟨rfl, holds⟩
    · simp only [List.any_eq_true, List.mem_filter, Bool.not_eq_true', not_exists, not_and]
      rintro p ⟨named, idle⟩
      simpa [idle] using may p named

/-- DISABLE of units all of which may change. -/
theorem opUnitDisable_does {P : State → Prop} (length : q.params.length = 4) (targets : enTargets sub q.obj = some l)
    (may : ∀ p ∈ l, s.on (enFld (unitBase sub p.1 + p.2)) = false ∨
      (isEnReg sub p.1 p.2 = true ∧ s.proofHoldsUnit sub p.1 = false ∧ s.disLegal sub p.1 p.2 = true))
    (holds : P (s.disableUnits sub l)) : (opUnitDisable sub q s).Does [] P := by
  have free : ∀ p ∈ l.filter (fun p => s.on (enFld (unitBase sub p.1 + p.2))),
      isEnReg sub p.1 p.2 = true ∧ s.proofHoldsUnit sub p.1 = false ∧ s.disLegal sub p.1 p.2 = true := by
    intro p named
    obtain ⟨named, on⟩ := List.mem_filter.1 named
    simpa [on] using may p named
  unfold State.disableUnits at holds
  unfold opUnitDisable
  rw [if_neg (by simp [length]), targets]
  dsimp only
  split
  · next none =>
    rw [List.isEmpty_iff.1 none] at holds
    exact ⟨rfl, holds⟩
  · rw [if_neg, if_neg]
    · exact ⟨rfl, holds⟩
    · simp only [List.any_eq_true, not_exists, not_and]
      intro p named
      obtain ⟨-, held, legal⟩ := free p named
      simp [held, legal]
    · simp only [List.any_eq_true, not_exists, not_and]
      intro p named
      simp [(free p named).1]

theorem opObjEnable_does {P : State → Prop} (tables : sub ≠ 4) (graphs : sub ≠ 5) (length : q.params.length = 4)
    (targets : enTargets sub q.obj = some l)
    (may : ∀ p ∈ l, s.on (enFld (unitBase sub p.1 + p.2)) = true ∨ s.mayEnable sub p = true) (holds : P (s.enableUnits sub l)) :
    (opObjEnable sub q s).Does [] P := by
  have units : opObjEnable sub q s = opUnitEnable sub q s := by
    simp [opObjEnable, onUnits, enTargets_sub targets, length, tables, graphs]
  exact units ▸ opUnitEnable_does length targets may holds

theorem opObjDisable_does {P : State → Prop} (tables : sub ≠ 4) (graphs : sub ≠ 5) (length : q.params.length = 4)
    (targets : enTargets sub q.obj = some l)
    (may : ∀ p ∈ l, s.on (enFld (unitBase sub p.1 + p.2)) = false ∨
      (isEnReg sub p.1 p.2 = true ∧ s.proofHoldsUnit sub p.1 = false ∧ s.disLegal sub p.1 p.2 = true))
    (holds : P (s.disableUnits sub l)) : (opObjDisable sub q s).Does [] P := by
  have units : opObjDisable sub q s = opUnitDisable sub q s := by
    simp [opObjDisable, onUnits, enTargets_sub targets, length, tables, graphs]
  exact units ▸ opUnitDisable_does length targets may holds

/-! ## The units without a run of their own -/

/-- A unit in its safe state that does nothing at its rise leaves the registers (R78). -/
theorem State.regs_enSafe {u off : Nat} (plain : ∀ v : State, v.enRise sub u off = v) (noRef : sub ≠ 2) (noBurin : sub ≠ 5)
    (noCal : sub ≠ 11) (noAmp : sub = 8 → 8 < u) : (s.enSafe sub u off).regs = s.regs := by
  have checked : (s.safeCheck sub u).2.regs = s.regs := by
    unfold State.safeCheck
    dsimp only
    split <;> rfl
  have noCh : ¬ (sub = 8 ∧ u < 8) := fun h => absurd (noAmp h.1) (by omega)
  have noProt : ¬ (sub = 8 ∧ u = 8) := fun h => absurd (noAmp h.1) (by omega)
  unfold State.enSafe
  generalize s.safeCheck sub u = c at checked ⊢
  obtain ⟨_ | _, v⟩ := c
  · simpa [noRef] using checked
  · simpa [noBurin, noCal, noCh, noProt, plain] using checked

theorem State.on_enableUnit {u : Nat} (plain : ∀ v : State, v.enRise sub u 0 = v) (noRef : sub ≠ 2) (noBurin : sub ≠ 5)
    (noCal : sub ≠ 11) (noAmp : sub = 8 → 8 < u) : (s.enableUnit sub (u, 0)).on (enFld (unitBase sub u + 0)) = true := by
  unfold State.enableUnit
  dsimp only
  refine Eq.trans (State.on_congr _ ?_) (State.on_setF_one s _ rfl)
  split
  · exact State.regs_enSafe plain noRef noBurin noCal noAmp
  · rw [plain]

/-- The PHY management unit is enabled (R225). -/
theorem State.phym_enableUnits : (s.enableUnits 3 [(5, 0)]).on F.PHYM_CTL_EN = true := by
  rw [State.enableUnits_single]
  split
  · assumption
  · exact State.on_enableUnit (fun _ => rfl) (by decide) (by decide) (by decide) (by decide)

/-- The diagnosis unit is enabled (R389). -/
theorem State.diag_enableUnits : (s.enableUnits 8 [(9, 0)]).on F.DIAG_CTL_EN = true := by
  rw [State.enableUnits_single]
  split
  · assumption
  · exact State.on_enableUnit (fun _ => rfl) (by decide) (by decide) (by decide) (by decide)

theorem State.phym_disableUnits : (s.disableUnits 3 [(5, 0)]).on F.PHYM_CTL_EN = false := by
  rw [State.disableUnits_single]
  split
  · exact State.on_setF_zero s _
  · next off => exact Bool.eq_false_iff.2 off

/-! ## Diagnosis and amplifier channels -/

/-- The fields that show which tests run. -/
def diagStatusKeys : List Nat := [F.DIAG_STATUS_OFFLINE.key, F.DIAG_STATUS_LIVE.key, F.DIAG_STATUS_PLATE.key]

theorem State.getF_refreshDiag {f : Fld} (hf : f.key ∉ diagStatusKeys) : s.refreshDiag.getF f = s.getF f := by
  simp only [diagStatusKeys, List.mem_cons, List.not_mem_nil, or_false, not_or] at hf
  obtain ⟨offline, live, plate⟩ := hf
  simp only [State.refreshDiag, State.getF_setF_ne _ _ offline, State.getF_setF_ne _ _ live, State.getF_setF_ne _ _ plate]

theorem State.getF_liveAbandon {f : Fld} (x cause : Nat) (hf : f.key ∉ diagStatusKeys) : (s.liveAbandon x cause).getF f = s.getF f := by
  unfold State.liveAbandon
  split
  · rfl
  · exact ((State.traces_fire _ _ _ _).getF f).trans (State.getF_refreshDiag hf)

theorem State.getF_offlineAbandon {f : Fld} (x cause : Nat) (hf : f.key ∉ diagStatusKeys) :
    (s.offlineAbandon x cause).getF f = s.getF f := by
  unfold State.offlineAbandon
  split
  · rfl
  · exact ((State.traces_fire _ _ _ _).getF f).trans (State.getF_refreshDiag hf)

theorem State.getF_diagAbandon {f : Fld} (hf : f.key ∉ diagStatusKeys) : s.diagAbandon.getF f = s.getF f := by
  have each : ∀ (l : List Nat) (v : State),
      (l.foldl (fun s x => (s.liveAbandon x 5).offlineAbandon x 5) v).getF f = v.getF f := by
    intro l
    induction l with
    | nil => exact fun v => rfl
    | cons x l ih => exact fun v => (ih _).trans ((State.getF_offlineAbandon x 5 hf).trans (State.getF_liveAbandon x 5 hf))
  unfold State.diagAbandon
  dsimp only
  generalize swept : List.foldl _ s (List.range 8) = u
  have kept : u.getF f = s.getF f := swept ▸ each _ s
  split
  · split <;> exact kept
  · exact kept

theorem State.diag_disableUnits : (s.disableUnits 8 [(9, 0)]).on F.DIAG_CTL_EN = false := by
  have fall : ∀ v : State, v.enFall 8 9 0 = v.diagAbandon := fun v => by simp [State.enFall]
  have falls : s.disableUnit 8 (9, 0) = (s.setF F.DIAG_CTL_EN 0).diagAbandon := fall _
  rw [State.disableUnits_single]
  split
  · rw [falls, State.on, State.getF_diagAbandon (by decide)]
    exact State.on_setF_zero s _
  · next off => exact Bool.eq_false_iff.2 off

/-- A channel's state, changed (R372). -/
theorem State.getF_setAmp {x new : Nat} {f : Fld} (changes : s.ampSt x ≠ new) (hf : f.key ∉ diagStatusKeys) :
    (s.setAmp x new).getF f = (s.setF (F.AMP_STATUS_STATE x) new).getF f := by
  have raw : ∀ v : State, v.refreshAmpRaw.getF f = v.getF f := fun v => State.getF_congr f rfl
  have cleared : ∀ (c : Prop) [Decidable c] (v : State) r z, ((if c then v else (v.setCh x r).setZc (zcAmp x) z) : State).getF f = v.getF f :=
    fun c _ v r z => by split <;> rfl
  have logged := (State.traces_logState (s.setF (F.AMP_STATUS_STATE x) new) orgProtection (ampObj x) (s.ampSt x) new).getF f
  unfold State.setAmp
  dsimp only
  rw [if_neg changes, raw]
  split
  · rw [State.getF_liveAbandon x 2 hf, cleared, logged]
  · rw [cleared, logged]

/-- A running channel that is disabled stops (R375). -/
theorem State.ampStop_stops {x : Nat} (hx : x < 8) (running : s.ampSt x = aRUN) :
    (s.ampStop x).ampSt x = aSTOPPING ∧ (s.ampStop x).on (F.AMP_CTL_EN x) = s.on (F.AMP_CTL_EN x) := by
  have status : ∀ x < 8, (F.AMP_STATUS_STATE x).key ∉ diagStatusKeys := by decide
  have enable : ∀ x < 8, (F.AMP_CTL_EN x).key ∉ diagStatusKeys ∧ (F.AMP_CTL_EN x).key ≠ (F.AMP_STATUS_STATE x).key := by decide
  obtain ⟨notDiag, notState⟩ := enable x hx
  have crossing : ∀ (v : State) (k w : Nat) (f : Fld), (v.zcDue k w).getF f = v.getF f := by
    intro v k w f
    unfold State.zcDue
    dsimp only
    split
    · rfl
    · split <;> rfl
  generalize hv : s.setCh x { s.ampCh x with pend := false, fault := false, due := false, recover := none, restart := false } = v
  have stopped : s.ampStop x = (v.setAmp x aSTOPPING).zcDue (zcAmp x) 1 := by
    rw [← hv]
    exact if_pos running
  have regs : v.regs = s.regs := by rw [← hv]; rfl
  have changes : v.ampSt x ≠ aSTOPPING := by
    rw [State.ampSt, State.getF_congr _ regs]
    exact fun h => absurd (running.symm.trans h) (by decide)
  rw [stopped]
  constructor
  · rw [State.ampSt, crossing, State.getF_setAmp changes (status x hx)]
    exact State.getF_setF_self _ _ _
  · rw [State.on, State.on, crossing, State.getF_setAmp changes notDiag, State.getF_setF_ne _ _ notState, State.getF_congr _ regs]

/-! ## TDM ports -/

theorem State.regs_foldl {α : Type} {f : State → α → State} (step : ∀ s a, (f s a).regs = s.regs) (l : List α) (s : State) :
    (l.foldl f s).regs = s.regs := by
  induction l generalizing s with
  | nil => rfl
  | cons a l ih => exact (ih _).trans (step s a)

/-- A TDM port stops: of its registers the marks of its run fall (R345). -/
theorem State.regs_tdmStop (s : State) (t : Nat) :
    (s.tdmStop t).regs = (((s.setF (F.TDM_STATUS_RUNNING t) 0).setF (F.TDM_CTL_SWAP t) 0).setF (F.TDM_STATUS_BUS_DRIVING t) 0).regs := by
  have crossing : ∀ (v : State) (k w : Nat), (v.zcDue k w).regs = v.regs := by
    intro v k w
    unfold State.zcDue
    dsimp only
    split
    · rfl
    · split <;> rfl
  have all : ∀ v : State, (v.tdmAll t 1).regs = v.regs := fun v =>
    State.regs_foldl (fun u d => State.regs_foldl (fun _ _ => crossing _ _ _) _ _) _ _
  have raw : ∀ v : State, v.refreshTdmRaw.regs = v.regs := fun v => rfl
  unfold State.tdmStop
  dsimp only
  rw [raw]
  split
  · rw [State.fireTdm, (State.traces_fire _ _ _ _).regs, all]
    rfl
  · rw [all]
    rfl

/-- Only a port's own enable bit lies at its place. -/
theorem State.tdmStop_stops {t : Nat} (ht : t < 16) :
    (s.tdmStop t).on (F.TDM_STATUS_RUNNING t) = false ∧ (s.tdmStop t).on (F.TDM_CTL_EN t) = s.on (F.TDM_CTL_EN t) := by
  have keys : ∀ t < 16, (F.TDM_STATUS_RUNNING t).key ≠ (F.TDM_CTL_SWAP t).key ∧
      (F.TDM_STATUS_RUNNING t).key ≠ (F.TDM_STATUS_BUS_DRIVING t).key ∧ (F.TDM_CTL_EN t).key ≠ (F.TDM_STATUS_RUNNING t).key ∧
      (F.TDM_CTL_EN t).key ≠ (F.TDM_CTL_SWAP t).key ∧ (F.TDM_CTL_EN t).key ≠ (F.TDM_STATUS_BUS_DRIVING t).key := by decide
  obtain ⟨runSwap, runBus, enRun, enSwap, enBus⟩ := keys t ht
  have stopped := s.regs_tdmStop t
  constructor
  · rw [State.on_congr _ stopped, State.on, State.getF_setF_ne _ _ runBus, State.getF_setF_ne _ _ runSwap]
    exact State.on_setF_zero s _
  · rw [State.on_congr _ stopped, State.on, State.getF_setF_ne _ _ enBus, State.getF_setF_ne _ _ enSwap, State.getF_setF_ne _ _ enRun]
    rfl

/-! ## The requests -/

theorem tdm_unit : ∀ p < 16, enTargets 6 (objId 6 p 0) = some [(p, 0)] ∧ isEnReg 6 p 0 = true ∧
    enFld (unitBase 6 p + 0) = F.TDM_CTL_EN p ∧ (F.TDM_CTL_EN p).key ∉ serveKeys ∧ (F.TDM_STATUS_RUNNING p).key ∉ serveKeys := by
  decide

theorem amp_unit : ∀ x < 8, enTargets 8 (objId 8 x 0) = some [(x, 0)] ∧ isEnReg 8 x 0 = true ∧
    enFld (unitBase 8 x + 0) = F.AMP_CTL_EN x ∧ (F.AMP_CTL_EN x).key ∉ serveKeys ∧ (F.AMP_STATUS_STATE x).key ∉ serveKeys := by
  decide

/-- DISABLE of a TDM port (R345). -/
theorem opUnitDisable_tdm {p : Nat} (length : q.params.length = 4) (obj : q.obj = objId 6 p 0) (hp : p < 16)
    (on : s.on (F.TDM_CTL_EN p) = true) (free : s.proofHoldsUnit 6 p = false) :
    (opUnitDisable 6 q s).Does [] fun t => t.on (F.TDM_CTL_EN p) = false ∧ t.on (F.TDM_STATUS_RUNNING p) = false := by
  obtain ⟨targets, reg, field, -⟩ := tdm_unit p hp
  have legal : s.disLegal 6 p 0 = true := by simp [State.disLegal]
  refine opUnitDisable_does length (obj ▸ targets) (by simp [reg, free, legal]) ?_
  have fall : ∀ v : State, v.enFall 6 p 0 = v.tdmStop p := fun v => by simp [State.enFall]
  rw [State.disableUnits_single, field, if_pos on, State.disableUnit, fall]
  obtain ⟨running, enable⟩ := (s.setF (enFld (unitBase 6 p + 0)) 0).tdmStop_stops hp
  refine ⟨enable.trans ?_, running⟩
  rw [field]
  exact State.on_setF_zero s _

/-- DISABLE of an amplifier channel (R375). -/
theorem opUnitDisable_amp {x : Nat} (length : q.params.length = 4) (obj : q.obj = objId 8 x 0) (hx : x < 8)
    (on : s.on (F.AMP_CTL_EN x) = true) (running : s.ampSt x = aRUN) (free : s.proofHoldsUnit 8 x = false) :
    (opUnitDisable 8 q s).Does [] fun t => t.on (F.AMP_CTL_EN x) = false ∧ t.ampSt x = aSTOPPING := by
  obtain ⟨targets, reg, field, -⟩ := amp_unit x hx
  have legal : s.disLegal 8 x 0 = true := by simp [State.disLegal]
  refine opUnitDisable_does length (obj ▸ targets) (by simp [reg, free, legal]) ?_
  have fall : ∀ v : State, v.enFall 8 x 0 = v.ampStop x := fun v => by simp [State.enFall, hx]
  have others : ∀ x < 8, (F.AMP_STATUS_STATE x).key ≠ (F.AMP_CTL_EN x).key := by decide
  rw [State.disableUnits_single, field, if_pos on, State.disableUnit, fall]
  obtain ⟨stopping, enable⟩ := (s.setF (enFld (unitBase 8 x + 0)) 0).ampStop_stops hx (by
    rw [field, State.ampSt, State.getF_setF_ne _ _ (others x hx)]
    exact running)
  refine ⟨enable.trans ?_, stopping⟩
  rw [field]
  exact State.on_setF_zero s _

/-- Outside the tables, whether a unit may be enabled does not depend on the request. -/
theorem State.mayEnable_at (s : State) (c : Carrier) (a : Option Int) (tables : sub ≠ 4) (p : Nat × Nat) :
    (s.at_ c a).mayEnable sub p = s.mayEnable sub p := by
  simp only [State.mayEnable, State.enLegal, tables, if_false]
  rfl

theorem kept_on {f : Fld} {b : Bool} (hf : f.key ∉ serveKeys) : Kept fun t => t.on f = b := fun _ _ served h => (served.on f hf).trans h

theorem kept_getF {f : Fld} {v : Nat} (hf : f.key ∉ serveKeys) : Kept fun t => t.getF f = v :=
  fun _ _ served h => (served.getF f hf).trans h

theorem Kept.and {P Q : State → Prop} (hp : Kept P) (hq : Kept Q) : Kept fun t => P t ∧ Q t :=
  fun u t served h => ⟨hp u t served h.1, hq u t served h.2⟩

theorem Kept.imp {P : State → Prop} {c : Prop} (hp : Kept P) : Kept fun t => c → P t := fun u t served h hc => hp u t served (h hc)

end

/-- Settles O19: the flag or the enable bit follows each operation, and concluding a request keeps it. -/
theorem enableAndDisableRequestsActOnFlags : Obligations.EnableAndDisableRequestsActOnFlags := by
  refine ⟨?_, ?_, ?_, ?_, ?_, ?_, ?_, ?_, ?_, ?_⟩
  · intro s q bank e h length parts entry blk may
    refine exec_work h (kept_str fun x => x.rxFlag.contains (bank * 512 + e) = true) ?_
    obtain ⟨a, start⟩ := s.work_eq 0x0403 q
    rw [start] at may ⊢
    exact onUnits_does parts rfl (by simp [length]) (opRxEnable_does length entry blk may)
  · intro s q bank e h length parts entry free
    exact exec_does h (kept_str fun x => x.rxFlag.contains (bank * 512 + e) = false) fun a =>
      onUnits_does parts rfl (by simp [length]) (opRxDisable_does length entry free)
  · intro s q bank e h length parts entry blk may
    refine exec_work h (kept_str fun x => x.txFlag.contains (bank * 512 + e) = true) ?_
    obtain ⟨a, start⟩ := s.work_eq 0x0403 q
    rw [start] at may ⊢
    exact onUnits_does parts rfl (by simp [length]) (opTxEnable_does length entry blk may)
  · intro s q bank e h length parts entry free
    exact exec_does h (kept_str fun x => x.txFlag.contains (bank * 512 + e) = false) fun a =>
      onUnits_does parts rfl (by simp [length]) (opTxDisable_does length entry free)
  · intro s q g h length graph header may
    refine exec_work h (kept_dsp fun x => x.flag.contains (s.gKey g) = true) ?_
    obtain ⟨a, start⟩ := s.work_eq 0x0503 q
    rw [start] at may ⊢
    exact onUnits_does (graphOf_parts graph) rfl (by simp [length])
      (opGraphEnable_does (s := s.at_ q.carrier a) length graph header may)
  · intro s q g h length graph free
    exact exec_does h (kept_dsp fun x => x.flag.contains (s.gKey g) = false) fun a =>
      onUnits_does (graphOf_parts graph) rfl (by simp [length])
        (opGraphDisable_does (s := s.at_ q.carrier a) length graph free)
  · intro s q sub l h length tables graphs targets may
    refine exec_does h ((kept_on (by decide)).imp.imp.and (kept_on (by decide)).imp.imp) fun a =>
      opObjEnable_does tables graphs length targets
        (fun p hp => (may p hp).imp_right (s.mayEnable_at q.carrier a tables p).trans) ⟨?_, ?_⟩
    · rintro rfl rfl
      exact State.phym_enableUnits
    · rintro rfl rfl
      exact State.diag_enableUnits
  · intro s q sub l h length tables graphs targets may
    refine exec_does h ((kept_on (by decide)).imp.imp.and (kept_on (by decide)).imp.imp) fun a =>
      opObjDisable_does tables graphs length targets may ⟨?_, ?_⟩
    · rintro rfl rfl
      exact State.phym_disableUnits
    · rintro rfl rfl
      exact State.diag_disableUnits
  · intro s q p h length obj hp on free
    obtain ⟨-, -, -, enable, running⟩ := tdm_unit p hp
    have parts : objParts q.obj = (6, p, 0) := by rw [obj, objParts_objId (by decide) (by omega) (by decide)]
    exact exec_does h ((kept_on enable).and (kept_on running)) fun a =>
      onUnits_does parts (by simp [hp]) (by simp [length]) (opUnitDisable_tdm length obj hp on free)
  · intro s q x h length obj hx on running free
    obtain ⟨-, -, -, enable, status⟩ := amp_unit x hx
    have parts : objParts q.obj = (8, x, 0) := by rw [obj, objParts_objId (by decide) (by omega) (by decide)]
    exact exec_does h ((kept_on enable).and (kept_getF status)) fun a =>
      onUnits_does parts (by simp [hx]) (by simp [length]) (opUnitDisable_amp (s := s.at_ q.carrier a) length obj hx on running free)

end Sys2Proof.Machine
end

section
/-!
Register writes (R59, R61, R62): a write of an event-enable register, by any access that the busy interface does not turn away, is
accepted and stores its word.
-/

namespace Sys2Proof.Machine

/-- The row of a group's event-enable register (Table 6.3). -/
def evtEnableRow (g : Nat) : RegDesc := ⟨0x000C, 4, 1, 0, 1, false, [⟨0, 16, .l, (if g == 0 then 1 else 0)⟩]⟩

theorem regTarget_evtEnable : ∀ g < 16, regTarget (F.EVT_EV_EN_EN g).addr = some (.reg 12 g 0x0C (evtEnableRow g)) := by decide

theorem findRow_evtEnable : ∀ g < 16, findRow (unitRows 12 g) 0x0C = some (evtEnableRow g, 0) := by decide

theorem isEnReg_evtEnable : ∀ g < 16, isEnReg 12 g 0x0C = false := by decide

theorem evtEnable_key : ∀ g < 16, (F.EVT_EV_EN_EN g).key ∉ serveKeys := by decide

theorem accMask_evtEnable (g : Nat) (p : Acc → Bool) : accMask (evtEnableRow g) p = if p .l then 0xFFFF else 0 := by
  cases h : p .l <;> simp [accMask, evtEnableRow, h]

/-- A mask of all ones replaces the word. -/
theorem merge16_full (cur : Nat) {v : Nat} (hv : v < 65536) : merge16 cur 0xFFFF v = v := by
  have keep : v &&& 0xFFFF = v := Nat.and_two_pow_sub_one_of_lt_two_pow (n := 16) hv
  show cur &&& 0 ||| v &&& 0xFFFF = v
  rw [keep, Nat.and_zero, Nat.zero_or]

/-- Where the mask lets the data through, a merged word is the data. -/
theorem land_merge16 (cur data : Nat) {mask : Nat} (hm : mask < 65536) : Nat.land (merge16 cur mask data) mask = Nat.land data mask := by
  refine Nat.eq_of_testBit_eq fun i => ?_
  show ((cur &&& (mask ^^^ 0xFFFF) ||| data &&& mask) &&& mask).testBit i = (data &&& mask).testBit i
  simp only [Nat.testBit_and, Nat.testBit_or, Nat.testBit_xor]
  have ones : Nat.testBit 0xFFFF i = decide (i < 16) := Nat.testBit_two_pow_sub_one 16 i
  cases inMask : mask.testBit i with
  | false => simp
  | true =>
    have low : i < 16 := by
      by_contra high
      have := Nat.testBit_lt_two_pow (x := mask) (i := i) (lt_of_lt_of_le hm (Nat.pow_le_pow_right (n := 2) (by decide) (by omega : 16 ≤ i)))
      rw [this] at inMask
      cases inMask
    simp [ones, low]

section
variable {s : State} {g v : Nat}

/-- An accepted write of a register of one word applies that word, merged (R59, R61). -/
theorem State.judgeWrite_word {a : Access} {addr w sub u off : Nat} {r : RegDesc} (target : regTarget addr = some (.reg sub u off r))
    (masked : w / 65536 % 65536 ≠ 0) (single : r.mwLen ≤ 1) (accepted : (s.judgeWrite a addr w).isRight = true) :
    s.judgeWrite a addr w = .inr (.words sub u off
      [(off, merge16 (s.regWord sub u off % 65536) (w / 65536 % 65536) (w % 65536), w / 65536 % 65536)]) := by
  have word : ¬ (r.mwLen > 1 ∧ accMask r Acc.config ≠ 0) := fun h => by omega
  obtain ⟨op, judged⟩ := Sum.isRight_iff.1 accepted
  rw [judged]
  unfold State.judgeWrite at judged
  rw [target] at judged
  dsimp only at judged
  rw [if_neg masked] at judged
  iterate 3
    split at judged
    · cases judged
  split at judged
  · split at judged <;> cases judged
  rw [if_neg (by simpa using word)] at judged
  iterate 2
    split at judged
    · cases judged
  split at judged
  · exact judged.symm
  · cases judged

/-- A word applied to a register that a pair does not share (R61, R413). -/
theorem State.applyOp_word {a : Access} {addr w sub u off merged mask i : Nat} {r : RegDesc} (own : s.mirrored sub u off = false)
    (row : findRow (unitRows sub u) off = some (r, i)) :
    s.applyOp a addr w (.words sub u off [(off, merged, mask)]) = s.applyWord a sub u off r merged mask := by
  unfold State.applyOp
  dsimp only
  rw [own, if_neg (by simp)]
  unfold State.applyWords
  dsimp only
  rw [row]

/-- The entry that a register's change leaves in the log, if any (R62, R91). -/
def State.logChange (s : State) (o : Origin) (quiet config : Bool) (addr old new : Nat) : State :=
  if quiet then s else if config then s.logReg o addr old new else s.logE o.code o.id kREG true addr old new

theorem State.stays_logChange (s : State) (o : Origin) (quiet config : Bool) (addr old new : Nat) :
    s.Stays (s.logChange o quiet config addr old new) [] [] :=
  .ite (State.Stays.refl s _ _) (.ite ((State.Stays.refl s _ _).logReg _ _ _ _) ((State.Stays.refl s _ _).logE _ _ _ _ _ _ _))

/-- But for MODIFIED every field reads the same after it. -/
theorem State.getF_logChange (s : State) (o : Origin) (quiet config : Bool) (addr old new : Nat) {f : Fld}
    (hf : f.key ≠ F.NVS_BANKS_MODIFIED.key) : (s.logChange o quiet config addr old new).getF f = s.getF f := by
  unfold State.logChange
  split
  · rfl
  split
  · exact (State.getF_setF_ne _ _ hf).trans ((State.traces_logE _ _ _ _ _ _ _ _).getF f)
  · exact (State.traces_logE _ _ _ _ _ _ _ _).getF f

/-- What a proof owns are enable bits, each in the first register of its unit (R490). -/
theorem State.pinOwners_first (s : State) (c : Nat) {x : Nat × Nat} (owned : x ∈ s.pinOwners c) : x.1 % 0x10000 = 0 := by
  have opt : ∀ (b : Prop) [Decidable b] (f : Fld), f.addr % 0x10000 = 0 → x ∈ (if b then [(f.addr, f.lo)] else []) → x.1 % 0x10000 = 0 := by
    intro b _ f first owned
    split at owned
    · rw [List.mem_singleton.1 owned]
      exact first
    · cases owned
  have one : ∀ f : Fld, f.addr % 0x10000 = 0 → x ∈ [(f.addr, f.lo)] → x.1 % 0x10000 = 0 := fun f first owned => by
    rw [List.mem_singleton.1 owned]
    exact first
  unfold State.pinOwners at owned
  dsimp only at owned
  split at owned
  · simp only [List.append_assoc, List.mem_append] at owned
    rcases owned with owned | owned | owned
    · obtain ⟨n, -, rfl⟩ := List.mem_map.1 owned
      simp only [F.CC_CTL_EN]
      omega
    · exact opt _ _ (by decide) owned
    · exact opt _ _ (by decide) owned
  iterate 3
    split at owned
    · exact one _ (by decide) owned
  split at owned
  · split at owned
    · cases owned
    · exact one _ (by simp only [F.TDM_CTL_EN]; omega) owned
  split at owned
  · exact one _ (by simp only [F.PDM_CTL_EN]; omega) owned
  split at owned
  · exact one _ (by simp only [F.AMP_CTL_EN]; omega) owned
  · cases owned

theorem State.proofOwners_first (s : State) (r : ProofRun) {x : Nat × Nat} (owned : x ∈ s.proofOwners r) : x.1 % 0x10000 = 0 := by
  unfold State.proofOwners at owned
  split at owned
  · exact s.pinOwners_first _ owned
  split at owned
  · rw [List.mem_singleton.1 owned]
    simp only [F.AMP_CTL_EN]
    omega
  split at owned
  · split at owned
    · rw [List.mem_singleton.1 owned]
      simp only [F.MAC_CTL_EN]
      omega
    · rw [List.mem_singleton.1 owned]
      rfl
  · cases owned

/-- No proof turns away a write beyond the first register of a unit (R490). -/
theorem State.proofBlocks_beyond {addr mask merged : Nat} (beyond : addr % 0x10000 ≠ 0) : s.proofBlocks addr mask merged = false := by
  unfold State.proofBlocks
  split
  · rfl
  next r _ =>
    have owners : (s.proofOwners r).any (fun q => q.1 == addr && bitOf mask q.2 && bitOf merged q.2 && !s.on ⟨q.1, q.2, 1⟩) = false := by
      refine List.any_eq_false.2 fun x owned => ?_
      have other : ¬ x.1 = addr := fun h => beyond (h ▸ s.proofOwners_first r owned)
      simp [other]
    have clocks : ((List.range 4).any fun n => addr == (F.CC_CTL_EN n).addr && bitOf mask 0 && bitOf merged 0 &&
        bitsOf merged 5 1 == r.a1 + 1) = false := by
      refine List.any_eq_false.2 fun n _ => ?_
      have other : ¬ addr = (F.CC_CTL_EN n).addr := fun h => beyond (by rw [h]; simp only [F.CC_CTL_EN]; omega)
      simp [other]
    rw [owners, clocks, Bool.and_false, Bool.or_false]

/-- A whole write of an event-enable register is accepted (R59). -/
theorem State.judgeWrite_evtEnable {a : Access} (free : (!a.interp && !a.mirror && s.busyIndex.isSome) = false) (hg : g < 16)
    (hv : v < 65536) : s.judgeWrite a (F.EVT_EV_EN_EN g).addr (maskData 0xFFFF v) = .inr (.words 12 g 0x0C [(0x0C, v, 0xFFFF)]) := by
  have mask : maskData 0xFFFF v / 65536 % 65536 = 0xFFFF := by unfold maskData; omega
  have data : maskData 0xFFFF v % 65536 = v := by unfold maskData; omega
  have present : s.absent 12 g = false := by simp [State.absent, State.unpowered, unitDomain]
  have local_ : s.mirrored 12 g 0x0C = false := by simp [State.mirrored]
  have beyond : (unitBase 12 g + 0x0C) % 0x10000 ≠ 0 := by unfold unitBase; split <;> omega
  have heeded : s.writeIgnored 12 g 0x0C (evtEnableRow g) 0xFFFF v = false := by
    simp [State.writeIgnored, accMask_evtEnable, isEnReg_evtEnable g hg, State.proofBlocks_beyond beyond]
  have legal : ∀ cur, s.writeLegal 12 g 0x0C (evtEnableRow g) 0xFFFF cur v = true := by
    intro cur
    simp [State.writeLegal, bitsLegal, accMask_evtEnable, Acc.writable, State.legalWord, State.actionLegal, swapBit,
      isEnReg_evtEnable g hg]
  unfold State.judgeWrite
  dsimp only
  rw [mask, data, free, regTarget_evtEnable g hg]
  dsimp only
  rw [if_neg (by decide), present, local_, isEnReg_evtEnable g hg, merge16_full _ hv, heeded, legal]
  simp [evtEnableRow]

/-- An event group does nothing of its own at a write. -/
theorem State.afterWrite_evt (u off old new : Nat) : s.afterWrite 12 u off old new = s := by
  by_cases same : old = new
  · rw [State.afterWrite, if_pos same]
  · rw [State.afterWrite, if_neg same]
    rfl

theorem State.writeAction_evt (before : State) (a : Access) (u off set : Nat) : s.writeAction before a 12 u off set = s := rfl

theorem State.clearW1c_evtEnable (u bits : Nat) : s.clearW1c 12 u 0x0C (evtEnableRow g) bits = s := by
  simp [State.clearW1c, evtEnableRow]

theorem State.getF_storeWord_evtEnable (hv : v < 65536) :
    (s.storeWord (evtEnableRow g) (unitBase 12 g + 0x0C) v).getF ⟨unitBase 12 g + 0x0C, 0, 16⟩ = v := by
  have word : bitsOf v 15 0 = v := by simp [bitsOf, Nat.mod_eq_of_lt hv]
  have stored : s.storeWord (evtEnableRow g) (unitBase 12 g + 0x0C) v = s.setF ⟨unitBase 12 g + 0x0C, 0, 16⟩ v := by
    simp [State.storeWord, evtEnableRow, Acc.config, word]
  rw [stored, State.getF_setF_self]
  exact Nat.mod_eq_of_lt hv

/-- A word applied to an event-enable register is stored, with its log entry (R61, R62). -/
theorem State.applyWord_evtEnable {a : Access} (hg : g < 16) (hv : v < 65536) :
    (s.applyWord a 12 g 0x0C (evtEnableRow g) v 0xFFFF).getF (F.EVT_EV_EN_EN g) = v := by
  have field : F.EVT_EV_EN_EN g = ⟨unitBase 12 g + 0x0C, 0, 16⟩ := by
    have g64 : g % 64 = g := by omega
    have low : ¬ g ≥ 64 := by omega
    simp only [F.EVT_EV_EN_EN, unitBase, g64, low, if_false, Fld.mk.injEq, and_true]
    omega
  have holds : holdsNothing 12 g 0x0C = false := by simp [holdsNothing]
  have swap : swapBit 12 g 0x0C = none := by simp [swapBit]
  unfold State.applyWord
  simp only [holds, swap, isEnReg_evtEnable g hg, State.clearW1c_evtEnable, State.afterWrite_evt, State.writeAction_evt,
    Option.any_none, Bool.false_and, Bool.false_eq_true, if_false]
  rw [field]
  have stored := s.getF_storeWord_evtEnable (g := g) hv
  generalize s.storeWord (evtEnableRow g) (unitBase 12 g + 0x0C) v = t at stored ⊢
  have erased : ({ t with bad := KV.erase t.bad (unitBase 12 g + 0x0C) } : State).getF ⟨unitBase 12 g + 0x0C, 0, 16⟩ = v := stored
  generalize ({ t with bad := KV.erase t.bad (unitBase 12 g + 0x0C) } : State) = u at erased ⊢
  exact ((u.stays_logChange _ _ _ _ _ _).getF _ rfl (field ▸ evtEnable_key g hg)).trans erased

/-- A word of an event-enable register is stored (R61). -/
theorem State.applyOp_evtEnable {a : Access} {addr w : Nat} (hg : g < 16) (hv : v < 65536) :
    (s.applyOp a addr w (.words 12 g 0x0C [(0x0C, v, 0xFFFF)])).getF (F.EVT_EV_EN_EN g) = v := by
  rw [State.applyOp_word (by simp [State.mirrored]) (findRow_evtEnable g hg)]
  exact State.applyWord_evtEnable hg hv

end
end Sys2Proof.Machine
end

section
/-!
Requests on triggers, timestamp queues, the clock outputs, the PHYs and registers (R41, R141, R146, R151, R199, R225).
-/

namespace Sys2Proof.Machine

section
variable {s : State} {q : Req}

/-! ## Triggers -/

/-- A trigger that is disarmed is not armed, and no other becomes so (R151). -/
theorem State.trgArmed_trgDrop (k : Nat) : (s.trgDrop k).trgArmed k = false := by
  unfold State.trgDrop
  dsimp only
  split
  · refine State.trgArmed_syncLent ?_
    unfold State.trgArmed
    rw [State.getF_setF_self]
    rfl
  · next idle => simpa [State.trgArmed] using idle

theorem State.trgArmed_trgDrop_of_idle {j : Nat} (k : Nat) (idle : s.trgArmed j = false) : (s.trgDrop k).trgArmed j = false := by
  by_cases same : k = j
  · exact same ▸ State.trgArmed_trgDrop k
  · have other : (F.TRG_STATUS_STATE j).key ≠ (F.TRG_STATUS_STATE k).key := by
      simp only [Fld.key, fieldKey, F.TRG_STATUS_STATE]
      omega
    unfold State.trgDrop
    dsimp only
    split
    · refine State.trgArmed_syncLent ?_
      simpa only [State.trgArmed, State.getF_setF_ne _ _ other] using idle
    · exact idle

/-- A trigger of the mask is disarmed, with its entry in the log (R151). -/
def State.trgDisarm (q : Req) (s : State) (k : Nat) : State :=
  if (q.field 0 4).testBit k && s.trgArmed k then
    (s.trgDrop k).logE q.origin.code q.origin.id kCMD false (trgObj k) q.opcode q.crc
  else s

theorem State.trgArmed_trgDisarm {j k : Nat} (idle : (q.field 0 4).testBit k = true ∧ k = j ∨ s.trgArmed j = false) :
    (s.trgDisarm q k).trgArmed j = false := by
  have logged : ∀ u : State, ((u.logE q.origin.code q.origin.id kCMD false (trgObj k) q.opcode q.crc).trgArmed j) = u.trgArmed j :=
    fun u => by simp only [State.trgArmed, (State.traces_logE _ _ _ _ _ _ _ _).getF]
  unfold State.trgDisarm
  split
  · rw [logged]
    rcases idle with ⟨-, rfl⟩ | idle
    · exact State.trgArmed_trgDrop k
    · exact State.trgArmed_trgDrop_of_idle k idle
  · next unarmed =>
    rcases idle with ⟨named, rfl⟩ | idle
    · simpa [named] using unarmed
    · exact idle

theorem State.trgArmed_disarmed (l : List Nat) {j : Nat} (s : State)
    (idle : (q.field 0 4).testBit j = true ∧ j ∈ l ∨ s.trgArmed j = false) :
    (l.foldl (State.trgDisarm q) s).trgArmed j = false := by
  induction l generalizing s with
  | nil => simpa using idle
  | cons k l ih =>
    rw [List.foldl_cons]
    refine ih _ ?_
    rcases idle with ⟨named, mem⟩ | idle
    · rcases List.mem_cons.1 mem with rfl | later
      · exact .inr (State.trgArmed_trgDisarm (.inl ⟨named, rfl⟩))
      · exact .inl ⟨named, later⟩
    · exact .inr (State.trgArmed_trgDisarm (.inr idle))

/-- TRG_DISARM leaves no named unit armed (R151). -/
theorem opTrgDisarm_does (length : q.params.length = 4) :
    (opTrgDisarm q s).Does [] fun t => ∀ k < 32, (q.field 0 4).testBit k = true → t.trgArmed k = false := by
  unfold opTrgDisarm
  rw [if_neg (by simp [length])]
  exact ⟨rfl, fun k hk named => State.trgArmed_disarmed (List.range 32) s (.inl ⟨named, List.mem_range.2 hk⟩)⟩

/-- What an entry of TRG_ARM leaves of its unit (R151). -/
structure State.TrgTaken (t : State) (k action st : Nat) (due : Int) : Prop where
  state : t.getF (F.TRG_STATUS_STATE k) = st
  armed : t.trgArmed k = true
  action : t.getF (F.TRG_CTL_ACTION k) = action
  due : KV.get 0 t.stamps.due k = due

/-- An arming that is due is on time or late (R146). -/
theorem State.trgDue_state {lead win st : Nat} {at_ due : Int} (h : s.trgDue lead win at_ = some (st, due)) : st = 1 ∨ st = 2 := by
  unfold State.trgDue at h
  dsimp only at h
  split at h
  · cases h
    exact .inl rfl
  split at h
  · cases h
    exact .inr rfl
  · cases h

theorem State.trgJudge_state {k action obj win st : Nat} {at_ due : Int} (judged : s.trgJudge k action obj win at_ = .inr (st, due)) :
    st = 1 ∨ st = 2 := by
  unfold State.trgJudge at judged
  dsimp only at judged
  generalize (if action = 0 then none else trgTarget obj) = target at judged
  iterate 4
    split at judged
    · cases judged
  split at judged
  · cases judged
  · next d isDue =>
    cases judged
    exact State.trgDue_state isDue

/-- The fields of a trigger that an arming writes lie apart (Table 6.5). -/
theorem trg_keys (k : Nat) : (F.TRG_STATUS_STATE k).key ≠ (F.TRG_STATUS_RESULT k).key ∧
    (F.TRG_CTL_ACTION k).key ≠ (F.TRG_STATUS_RESULT k).key ∧ (F.TRG_CTL_ACTION k).key ≠ (F.TRG_STATUS_STATE k).key ∧
    (F.TRG_CTL_ACTION k).key ≠ F.NVS_BANKS_MODIFIED.key ∧ (∀ i < 7, (F.TRG_CTL_ACTION k).key ≠ (F.TRG_TIME k i).key) ∧
    (F.TRG_CTL_ACTION k).key ≠ (F.TRG_TARGET_HI k).key ∧ (F.TRG_CTL_ACTION k).key ≠ (F.TRG_TARGET_LO k).key ∧
    (F.TRG_CTL_ACTION k).key ≠ (F.TRG_LATE_WIN k).key := by
  simp only [Fld.key, fieldKey, F.TRG_STATUS_STATE, F.TRG_STATUS_RESULT, F.TRG_CTL_ACTION, F.NVS_BANKS_MODIFIED, F.TRG_TIME,
    F.TRG_TARGET_HI, F.TRG_TARGET_LO, F.TRG_LATE_WIN]
  refine ⟨?_, ?_, ?_, ?_, fun i hi => ?_, ?_, ?_, ?_⟩
  all_goals omega

/-- An armed unit's state, and what arming leaves of its other fields (R146). -/
theorem State.getF_trgArmAt_state (k : Nat) (o : Origin) {d : Nat × Int} (hd : d.1 < 4) :
    (s.trgArmAt k o d).getF (F.TRG_STATUS_STATE k) = d.1 := by
  have set : ((s.setF (F.TRG_STATUS_STATE k) d.1).setF (F.TRG_STATUS_RESULT k) 0).getF (F.TRG_STATUS_STATE k) = d.1 := by
    rw [State.getF_setF_ne _ _ (trg_keys k).1, State.getF_setF_self]
    exact Nat.mod_eq_of_lt hd
  exact set

theorem State.getF_trgArmAt_ne (k : Nat) (o : Origin) (d : Nat × Int) {f : Fld} (state : f.key ≠ (F.TRG_STATUS_STATE k).key)
    (result : f.key ≠ (F.TRG_STATUS_RESULT k).key) : (s.trgArmAt k o d).getF f = s.getF f := by
  have kept : ((s.setF (F.TRG_STATUS_STATE k) d.1).setF (F.TRG_STATUS_RESULT k) 0).getF f = s.getF f := by
    rw [State.getF_setF_ne _ _ result, State.getF_setF_ne _ _ state]
  exact kept

/-- A unit that an entry of TRG_ARM takes is armed as its time was judged (R151). -/
theorem State.trgTaken_trgTake {x : TrgEntry} {k st : Nat} {due : Int}
    (judged : s.trgJudge k x.action x.obj x.win (Tai.ofBits x.time).units = .inr (st, due)) (sound : x.action ≤ 2) :
    (s.trgTake q k x).TrgTaken k x.action st due := by
  obtain ⟨-, acResult, acState, acModified, acTime, acHi, acLo, acWin⟩ := trg_keys k
  have st12 := State.trgJudge_state judged
  have action : ((((((s.setF (F.TRG_CTL_ACTION k) x.action).setF (F.TRG_LATE_WIN k) x.win).setF (F.TRG_TARGET_LO k) x.obj).setF
      (F.TRG_TARGET_HI k) (x.obj / 65536)).setWords (F.TRG_TIME k) x.time 7).modified).getF (F.TRG_CTL_ACTION k) = x.action := by
    rw [State.modified, State.getF_setF_ne _ _ acModified, State.getF_setWords_ne _ _ _ acTime, State.getF_setF_ne _ _ acHi,
      State.getF_setF_ne _ _ acLo, State.getF_setF_ne _ _ acWin, State.getF_setF_self]
    exact Nat.mod_eq_of_lt (show x.action < 4 by omega)
  unfold State.trgTake
  rw [judged]
  dsimp only
  generalize State.modified _ = v at action ⊢
  have logged := State.traces_logE (v.trgArmAt k q.origin (st, due)) q.origin.code q.origin.id kCMD false (trgObj k) q.opcode q.crc
  have state := (logged.getF (F.TRG_STATUS_STATE k)).trans (v.getF_trgArmAt_state k q.origin (d := (st, due)) (by dsimp only; omega))
  refine ⟨state, ?_, ?_, ?_⟩
  · unfold State.trgArmed
    rw [state]
    rcases st12 with rfl | rfl <;> rfl
  · rw [logged.getF, State.getF_trgArmAt_ne _ _ _ acState acResult, action]
  · rw [logged.stamps]
    exact KV.get_set_self _ _ _ _

/-- An entry without a fault asks for one of three actions. -/
theorem TrgEntry.action_le {x : TrgEntry} {o : Nat} (sound : x.fault q o = none) : x.action ≤ 2 := by
  unfold TrgEntry.fault at sound
  split at sound
  · cases sound
  split at sound
  · cases sound
  · omega

/-- TRG_ARM of one named unit arms it (R151). -/
theorem opTrgArm_does {k st : Nat} {due : Int} (length : q.params.length = 28) (one : q.field 0 2 = 1) (pad : q.field 2 2 = 0)
    (unit : q.field 4 1 = k) (hk : k < 32) (sound : (trgEntry q 4).fault q 4 = none)
    (judged : s.trgJudge k (q.field 5 1) (q.field 8 4) (q.field 6 2) (Tai.ofBits (q.field 12 14)).units = .inr (st, due)) :
    (opTrgArm q s).Does (leBytes 2 1 ++ leBytes 2 0 ++ [BitVec.ofNat 8 k] ++ List.replicate 3 0)
      fun t => t.TrgTaken k (q.field 5 1) st due := by
  have judged' : s.trgJudge k (trgEntry q 4).action (trgEntry q 4).obj (trgEntry q 4).win (Tai.ofBits (trgEntry q 4).time).units =
      .inr (st, due) := judged
  have taken := s.trgTaken_trgTake (q := q) judged' (TrgEntry.action_le sound)
  have named : (trgEntry q 4).unit = k := unit
  have notAny : k ≠ 255 := by omega
  have picked : ∀ pool, trgPick pool [trgEntry q 4] = some [k] := fun pool => by simp [trgPick, named, notAny]
  have refused : s.trgRefusal 4 [(k, trgEntry q 4)] = none := by simp [State.trgRefusal, judged']
  unfold opTrgArm
  rw [one]
  dsimp only
  rw [if_neg (by omega), if_neg (by decide), if_neg (by omega), if_neg (by simp [pad])]
  have entries : (List.range 1).map (fun i => trgEntry q (4 + 24 * i)) = [trgEntry q 4] := rfl
  have faults : (List.range 1).findSome? (fun i => (trgEntry q (4 + 24 * i)).fault q (4 + 24 * i)) = none := by
    simp [List.range_succ, sound]
  rw [entries, faults]
  dsimp only
  rw [picked]
  have zipped : [k].zip [trgEntry q 4] = [(k, trgEntry q 4)] := rfl
  dsimp only
  rw [zipped, refused]
  dsimp only
  rw [if_neg (by simp [twice, named, notAny])]
  exact ⟨rfl, taken⟩

/-! ## Timestamp queues and the clock outputs -/

/-- TSQ_READ takes the entries it returns (R141). -/
theorem opTsqRead_does {p : Nat} (length : q.params.length = 8) (obj : q.obj = objId 1 (4 + p) 0) (hp : p < 4)
    (low : 1 ≤ q.field 4 2) (high : q.field 4 2 ≤ 16) (pad : q.field 6 2 = 0) :
    (opTsqRead q s).Does (leBytes 2 ((s.tsq p).take (q.field 4 2)).length ++ leBytes 2 0 ++
      ((s.tsq p).take (q.field 4 2)).flatMap TsEntry.bytes) fun t => t.tsq p = (s.tsq p).drop (q.field 4 2) := by
  have parts : objParts q.obj = (1, 4 + p, 0) := by rw [obj, objParts_objId (by decide) (by omega) (by decide)]
  have unit : ¬ (((1 ≠ 1 ∨ 4 + p < 4) ∨ 4 + p > 7) ∨ 0 ≠ 0) := by omega
  have count : ¬ (q.field 4 2 < 1 ∨ q.field 4 2 > 16) := by omega
  unfold opTsqRead
  rw [if_neg (by simp [length]), parts]
  dsimp only
  rw [if_neg (by simpa using unit), if_neg (by simpa using count), if_neg (by simp [pad]), Nat.add_sub_cancel_left]
  exact ⟨rfl, KV.get_put_self _ _ _ _⟩

/-- ALIGN makes an alignment pend for its second (R199). -/
theorem opAlign_does (length : q.params.length = 16) (obj : q.obj = objId 2 11 0) (mask : q.field 4 4 < 32)
    (soon : (q.field 8 8 : Int) ≤ s.now.sec + 3600) (idle : s.on F.OUT_MIS_ALIGN_PEND = false)
    (ahead : s.now.units + 10000000 * 65536 ≤ ({ sec := q.field 8 8 } : Tai).units) (given : q.field 8 8 ≠ 0)
    (meets : Nat.land (q.field 4 4) (s.getF F.OUT_MIS_MASK) ≠ 0) :
    (opAlign q s).Does (leBytes 8 (q.field 8 8)) fun t => t.on F.OUT_MIS_ALIGN_PEND = true ∧
      t.getF F.OUT_ALIGN_SEC_LO = q.field 8 8 % 2 ^ 32 ∧ t.clk.alignMask = q.field 4 4 := by
  unfold opAlign
  dsimp only
  rw [if_neg (by simp [length]), if_neg (by simp [obj]), if_neg (by omega), if_neg (by omega), if_neg (by simp [idle]),
    if_neg (by simpa [given] using ahead), if_neg meets, if_neg given]
  refine ⟨rfl, ?_, ?_, rfl⟩
  · have pend : ∀ u : State, (((u.setF F.OUT_MIS_ALIGN_PEND 1).set64 F.OUT_ALIGN_SEC_LO F.OUT_ALIGN_SEC_HI (q.field 8 8)).on
        F.OUT_MIS_ALIGN_PEND) = true := fun u => by
      rw [State.on, State.set64, State.getF_setF_ne _ _ (by decide), State.getF_setF_ne _ _ (by decide), State.getF_setF_self]
      rfl
    exact pend s
  · have second : ∀ u : State, ((u.set64 F.OUT_ALIGN_SEC_LO F.OUT_ALIGN_SEC_HI (q.field 8 8)).getF F.OUT_ALIGN_SEC_LO) =
        q.field 8 8 % 2 ^ 32 := fun u => by
      rw [State.set64, State.getF_setF_ne _ _ (by decide), State.getF_setF_self]
      rfl
    exact second _

/-! ## The PHYs -/

/-- The checks of an MDIO request of either kind (Table 10.10). -/
theorem mdioChecks {q : Req} (port : q.field 0 1 ≤ 3) (op : q.field 1 1 ≤ 3) (pad : q.field 3 1 = 0)
    (place : q.field 1 1 < 2 ∧ q.field 2 1 = 0 ∧ q.field 4 2 ≤ 31 ∨ 2 ≤ q.field 1 1 ∧ q.field 2 1 ≤ 31) :
    firstBad [(16, decide (q.field 0 1 ≤ 3)), (17, decide (q.field 1 1 ≤ 3)),
      (18, if decide (q.field 1 1 ≥ 2) then decide (q.field 2 1 ≤ 31) else q.field 2 1 == 0), (19, q.field 3 1 == 0),
      (20, decide (q.field 1 1 ≥ 2) || decide (q.field 4 2 ≤ 31))] = none := by
  rcases place with ⟨clause22, device, reg⟩ | ⟨clause45, device⟩
  · have old : ¬ 2 ≤ q.field 1 1 := by omega
    simp [firstBad, port, op, pad, old, device, reg]
  · simp [firstBad, port, op, pad, clause45, device]

/-- An MDIO read sends its frame and answers what the PHY says (R225). -/
theorem opMdio_reads {v : Nat} (length : q.params.length = 8) (port : q.field 0 1 ≤ 3)
    (place : q.field 1 1 = 0 ∧ q.field 2 1 = 0 ∧ q.field 4 2 ≤ 31 ∨ q.field 1 1 = 2 ∧ q.field 2 1 ≤ 31) (pad : q.field 3 1 = 0)
    (steady : s.on (F.MAC_STATUS_STEPPING (q.field 0 1)) = false) (ok : s.mdioOk = true) :
    (opMdio (some v) q s).Does (leBytes 2 v ++ leBytes 2 0)
      fun t => Emit.mdio (q.field 0 1) false (s.phyAddr (q.field 0 1)) (q.field 2 1 * 65536 + q.field 4 2) 0 ∈ t.out := by
  have read : q.field 1 1 % 2 = 0 := by omega
  unfold opMdio
  rw [if_neg (by simp [length])]
  dsimp only
  rw [mdioChecks port (by omega) pad (by omega)]
  dsimp only
  rw [if_neg (by simp [read]), if_neg (by simp [steady, ok]), if_neg (by omega)]
  exact ⟨rfl, List.mem_append_right _ (List.mem_singleton_self _)⟩

/-- An MDIO write sends its frame (R225). -/
theorem opMdio_writes (length : q.params.length = 8) (port : q.field 0 1 ≤ 3)
    (place : q.field 1 1 = 1 ∧ q.field 2 1 = 0 ∧ q.field 4 2 ≤ 31 ∨ q.field 1 1 = 3 ∧ q.field 2 1 ≤ 31) (pad : q.field 3 1 = 0)
    (priv : q.origin.priv = true) (steady : s.on (F.MAC_STATUS_STEPPING (q.field 0 1)) = false) (ok : s.mdioOk = true) :
    (opMdio none q s).Does []
      fun t => Emit.mdio (q.field 0 1) true (s.phyAddr (q.field 0 1)) (q.field 2 1 * 65536 + q.field 4 2) (q.field 6 2) ∈ t.out := by
  have write : q.field 1 1 % 2 = 1 := by omega
  unfold opMdio
  rw [if_neg (by simp [length])]
  dsimp only
  rw [mdioChecks port (by omega) pad (by omega)]
  dsimp only
  rw [if_neg (by simp [priv]), if_neg (by simp [steady, ok]), if_pos write]
  exact ⟨rfl, List.mem_append_right _ (List.mem_singleton_self _)⟩

/-- An operation behind a check that passes. -/
theorem OpOut.Does.unless {c : Prop} [Decidable c] {o p : OpOut} {ps : List Byte} {P : State → Prop} (passes : ¬ c) (does : p.Does ps P) :
    (if c then o else p).Does ps P := by rwa [if_neg passes]

/-! ## Registers -/

/-- REG_WRITE of one event-enable register (R41). -/
theorem opRegWrite_evtEnable {g v : Nat} (length : q.params.length = 12) (addr : q.field 0 4 = (F.EVT_EV_EN_EN g).addr) (hg : g < 16)
    (one : q.field 4 2 = 1) (pad : q.field 6 2 = 0) (hv : v < 65536) (data : q.field 8 4 = maskData 0xFFFF v) :
    (opRegWrite q s).Does [] fun t => t.getF (F.EVT_EV_EN_EN g) = v := by
  have words : (List.range 1).map (fun i => (q.field 0 4 + 4 * i, q.field (8 + 4 * i) 4)) =
      [((F.EVT_EV_EN_EN g).addr, maskData 0xFFFF v)] := by simp [List.range_succ, addr, data]
  have accepted : s.judgeAll q.access 0 [((F.EVT_EV_EN_EN g).addr, maskData 0xFFFF v)] =
      .inr [.words 12 g 0x0C [(0x0C, v, 0xFFFF)]] := by
    unfold State.judgeAll
    rw [State.judgeWrite_evtEnable rfl hg hv]
    rfl
  have target : [((F.EVT_EV_EN_EN g).addr, maskData 0xFFFF v)].find? (fun x => (regTarget x.1).isNone) = none := by
    simp [regTarget_evtEnable g hg]
  unfold opRegWrite
  dsimp only
  rw [one, if_neg (by omega), if_neg (by decide), if_neg (by simp [pad]), if_neg (by omega), words, target]
  dsimp only
  rw [accepted]
  exact ⟨rfl, State.applyOp_evtEnable hg hv⟩

/-! ## What is kept -/

theorem kept_out (e : Emit) : Kept fun t => e ∈ t.out := fun _ _ served h => served.out.subset h

theorem trg_kept (k : Nat) (hk : k < 32) : (F.TRG_STATUS_STATE k).key ∉ serveKeys ∧ (F.TRG_CTL_ACTION k).key ∉ serveKeys := by
  have all : ∀ k < 32, (F.TRG_STATUS_STATE k).key ∉ serveKeys ∧ (F.TRG_CTL_ACTION k).key ∉ serveKeys := by decide
  exact all k hk

theorem State.Served.trgArmed {u t : State} (h : State.Served u t) {k : Nat} (hk : k < 32) : t.trgArmed k = u.trgArmed k := by
  simp only [State.trgArmed, h.getF _ (trg_kept k hk).1]

theorem kept_trgTaken {k action st : Nat} {due : Int} (hk : k < 32) : Kept fun t => t.TrgTaken k action st due := by
  intro u t served taken
  obtain ⟨state, action⟩ := trg_kept k hk
  exact ⟨(served.getF _ state).trans taken.state, (served.trgArmed hk).trans taken.armed, (served.getF _ action).trans taken.action,
    served.stamps ▸ taken.due⟩

end

/-- Settles O21: each operation has its effect on any state, and concluding the request keeps it. -/
theorem triggerClockAndRegisterRequestsAct : Obligations.TriggerClockAndRegisterRequestsAct := by
  refine ⟨?_, ?_, ?_, ?_, ?_, ?_, ?_⟩
  · intro s q k st due h length one pad unit hk sound judged
    obtain ⟨a, start⟩ := s.work_eq 0x0110 q
    rw [start] at judged
    obtain ⟨t, e, answered, taken⟩ := exec_work h (kept_trgTaken hk)
      (start ▸ opTrgArm_does (s := s.at_ q.carrier a) (q := q.as 0x0110) length one pad unit hk sound judged)
    exact ⟨t, e, answered, taken.state, taken.armed, taken.action, taken.due⟩
  · intro s q h length
    refine exec_does h (fun u t served idle k hk named => ?_) fun a =>
      opTrgDisarm_does (s := s.at_ q.carrier a) (q := q.as 0x0111) length
    rw [served.trgArmed hk]
    exact idle k hk named
  · intro s q p h length obj hp low high pad
    obtain ⟨t, e, answered, queue⟩ := exec_does (f := opTsqRead) h
      (ps := leBytes 2 ((s.tsq p).take (q.field 4 2)).length ++ leBytes 2 0 ++ ((s.tsq p).take (q.field 4 2)).flatMap TsEntry.bytes)
      (P := fun t => t.tsq p = (s.tsq p).drop (q.field 4 2))
      (fun u t served queue => (congrArg (fun x : StampState => KV.get [] x.queues p) served.stamps).trans queue)
      fun a => opTsqRead_does (s := s.at_ q.carrier a) (q := q.as 0x0112) length obj hp low high pad
    exact ⟨t, e, queue, answered⟩
  · intro s q h length obj mask soon idle ahead given meets
    refine exec_does h (fun u t served done => ?_) fun a =>
      opAlign_does (s := s.at_ q.carrier a) (q := q.as 0x0210) length obj mask soon idle ahead given meets
    obtain ⟨pend, second, align⟩ := done
    exact ⟨(served.on _ (by decide)).trans pend, (served.getF _ (by decide)).trans second, by rw [served.clk]; exact align⟩
  · intro s q v h length port place pad steady ok
    have read : ¬ (q.params.length = 8 ∧ q.field 1 1 % 2 = 1) := by omega
    exact exec_does h (kept_out _) fun a => OpOut.Does.unless
      (by rw [Bool.and_eq_true, decide_eq_true_eq, decide_eq_true_eq]; exact read)
      (opMdio_reads (s := s.at_ q.carrier a) length port place pad steady ok)
  · intro s q h length port place pad priv steady ok
    have write : ¬ (q.params.length = 8 ∧ q.field 1 1 % 2 = 0) := by omega
    exact exec_does h (kept_out _) fun a => OpOut.Does.unless
      (by rw [Bool.and_eq_true, decide_eq_true_eq, decide_eq_true_eq]; exact write)
      (opMdio_writes (s := s.at_ q.carrier a) length port place pad priv steady ok)
  · intro s q g v h length addr hg one pad hv data
    exact exec_does h (kept_getF (evtEnable_key g hg)) fun a => opRegWrite_evtEnable length addr hg one pad hv data

end Sys2Proof.Machine
end

section
/-!
What leaves the block on a carrier, and what a timeout takes away (R44, R45, R46, R48, R50, R51, R84, R87, R90).
-/

namespace Sys2Proof.Machine

/-- A happening of a reachable block. -/
theorem happen_whenReached (g : State → State) {s : State} (h : s.reachable = true) :
    ∃ t, happen (fun s => s.whenReached g) s = .next t ∧ State.Settled (g s.fresh) t := by
  obtain ⟨t, e, settled⟩ := happen_settled (fun s => s.whenReached g) s
  have body : s.fresh.whenReached g = g s.fresh := if_pos h
  exact ⟨t, e, body ▸ settled⟩

section
variable {s : State}

/-! ## The mailbox's reply (R44) -/

/-- The row of MBX.STATUS (Table 2.6). -/
def mbxStatusRow : RegDesc := ⟨0x2008, 4, 1, 0, 1, false, [⟨0, 1, .ro, 0⟩, ⟨1, 1, .ro, 0⟩, ⟨2, 1, .w1c, 0⟩, ⟨3, 1, .w1c, 0⟩, ⟨4, 1, .ro, 0⟩]⟩

theorem regTarget_mbxStatus : regTarget F.MBX_STATUS_REPLY_READY.addr = some (.reg 0 2 0x2008 mbxStatusRow) := by decide

theorem findRow_mbxStatus : findRow (unitRows 0 2) 0x2008 = some (mbxStatusRow, 0) := by decide

/-- Clearing REPLY_READY by a 1 leaves it clear. -/
theorem State.replyReady_clearW1c : (s.clearW1c 0 2 0x2008 mbxStatusRow 4).on F.MBX_STATUS_REPLY_READY = false := by
  have cleared : ∀ v, (s.setF F.MBX_STATUS_REPLY_READY (Nat.land v 0)).on F.MBX_STATUS_REPLY_READY = false := fun v => by
    rw [show Nat.land v 0 = 0 from Nat.and_zero v]
    exact State.on_setF_zero s _
  have other : ∀ (t : State) v, (t.setF F.MBX_STATUS_REPLY_OVW v).on F.MBX_STATUS_REPLY_READY = t.on F.MBX_STATUS_REPLY_READY :=
    fun t v => by rw [State.on, State.on, State.getF_setF_ne _ _ (by decide)]
  have fields : s.clearW1c 0 2 0x2008 mbxStatusRow 4 =
      (s.setF F.MBX_STATUS_REPLY_READY (Nat.land (s.getF F.MBX_STATUS_REPLY_READY) 0)).setF F.MBX_STATUS_REPLY_OVW
        (Nat.land ((s.setF F.MBX_STATUS_REPLY_READY (Nat.land (s.getF F.MBX_STATUS_REPLY_READY) 0)).getF F.MBX_STATUS_REPLY_OVW) 1) := rfl
  rw [fields, other, cleared]

/-- A word of MBX.STATUS that names REPLY_READY clears it. -/
theorem State.replyReady_applyWord {a : Access} {merged : Nat} (named : Nat.land merged 4 = 4) :
    (s.applyWord a 0 2 0x2008 mbxStatusRow merged 4).on F.MBX_STATUS_REPLY_READY = false := by
  have holds : holdsNothing 0 2 0x2008 = false := rfl
  have swap : swapBit 0 2 0x2008 = none := rfl
  have plain : isEnReg 0 2 0x2008 = false := by decide
  have stores : ∀ w, s.storeWord mbxStatusRow (unitBase 0 2 + 0x2008) w = s := fun w => rfl
  have w1c : Nat.land 4 (accMask mbxStatusRow (· == .w1c)) = 4 := by decide
  have config : accMask mbxStatusRow Acc.config = 0 := by decide
  have after : ∀ (t : State) old new, t.afterWrite 0 2 0x2008 old new = t := fun t old new => by
    by_cases same : old = new
    · rw [State.afterWrite, if_pos same]
    · rw [State.afterWrite, if_neg same]
      rfl
  have acts : ∀ (t b : State) set, t.writeAction b a 0 2 0x2008 set = t := fun _ _ _ => rfl
  unfold State.applyWord
  simp only [holds, swap, plain, stores, named, w1c, config, after, acts, Option.any_none, Bool.false_and, Bool.false_eq_true, if_false]
  have cleared := ({ s with bad := KV.erase s.bad (unitBase 0 2 + 0x2008) } : State).replyReady_clearW1c
  generalize State.clearW1c _ 0 2 0x2008 mbxStatusRow 4 = u at cleared ⊢
  have logged : ∀ o quiet config addr old new, (u.logChange o quiet config addr old new).on F.MBX_STATUS_REPLY_READY = false :=
    fun o quiet config addr old new => by rwa [State.on, State.getF_logChange _ _ _ _ _ _ _ (by decide)]
  exact logged _ _ _ _ _ _

/-- Releasing the mailbox's reply clears REPLY_READY (R44). -/
theorem hostWrite_replyRelease (via : Via) (accepted : (s.judgeWrite via.access F.MBX_STATUS_REPLY_READY.addr (maskData 4 4)).isRight = true) :
    (hostWrite via F.MBX_STATUS_REPLY_READY.addr (maskData 4 4) s).on F.MBX_STATUS_REPLY_READY = false := by
  have judged := State.judgeWrite_word regTarget_mbxStatus (by decide) (by decide) accepted
  have answered : ∀ t : State, (t.writeAnswer via none).on F.MBX_STATUS_REPLY_READY = t.on F.MBX_STATUS_REPLY_READY := fun t => by
    cases via <;> rfl
  unfold hostWrite State.writeReg
  rw [judged]
  dsimp only
  rw [answered, State.applyOp_word (by simp [State.mirrored]) findRow_mbxStatus]
  exact State.replyReady_applyWord (land_merge16 _ _ (by decide))

/-! ## The SPI (R45, R46) -/

/-- A fetch of the whole reply sends it and releases it. -/
theorem spiReplyFetch_whole {n : Nat} {p : List Byte} (reply : s.car.spiReply = some p) (whole : p.length < n) :
    spiReplyFetch n s = { s with out := s.out ++ [.spi (1 :: p)], car := { s.car with spiReply := none } } := by
  have all : (1 :: p).take n = 1 :: p := List.take_of_length_le (by simpa using whole)
  unfold spiReplyFetch
  rw [reply]
  dsimp only
  rw [if_neg (by omega), all]
  rfl

/-- A fetch of a whole event report sends it and moves the sequence on. -/
theorem spiEventFetch_whole {n src : Nat} {r : Report} (oldest : oldestReport s.ev.spi = some (src, r))
    (whole : (reportPacket r src s.car.spiEvSeq 0).length < n) :
    spiEventFetch n s = { s with
      out := s.out ++ [.spi (1 :: reportPacket r src s.car.spiEvSeq 0)]
      ev := { s.ev with spi := KV.erase s.ev.spi src }
      car := { s.car with spiEvSeq := (s.car.spiEvSeq + 1) % 65536 } } := by
  have all : (1 :: reportPacket r src s.car.spiEvSeq 0).take n = 1 :: reportPacket r src s.car.spiEvSeq 0 :=
    List.take_of_length_le (by simpa using whole)
  unfold spiEventFetch
  rw [oldest]
  dsimp only
  rw [if_neg (by omega), all]
  rfl

/-- A register write frame of an event-enable register stores its word and is answered (R47). -/
theorem spiWriteFrame_evtEnable (secLow : Bool) {bytes : List Byte} {g v : Nat} (free : s.busyIndex = none) (long : 9 ≤ bytes.length)
    (kind : bytes.head? = some 0x02) (hg : g < 16) (hv : v < 65536) (addr : beAt bytes 1 4 = (F.EVT_EV_EN_EN g).addr)
    (data : beAt bytes 5 4 = maskData 0xFFFF v) :
    (spiWriteFrame secLow bytes s).getF (F.EVT_EV_EN_EN g) = v ∧ Emit.spi [0xA0] ∈ (spiWriteFrame secLow bytes s).out := by
  have judged := s.judgeWrite_evtEnable (a := (Via.spi secLow).access) (by simp [free]) hg hv
  have stored := s.applyOp_evtEnable (a := (Via.spi secLow).access) (addr := (F.EVT_EV_EN_EN g).addr) (w := maskData 0xFFFF v) hg hv
  unfold spiWriteFrame
  rw [if_neg (by simp [kind, long]), addr, data]
  unfold hostWrite State.writeReg
  rw [judged]
  exact ⟨stored, List.mem_append_right _ (List.mem_singleton_self _)⟩

/-! ## MSI-X (R87) -/

/-- Unmasking a pending vector sends its message. -/
theorem msixUnmask_sends {v : Nat} (pending : s.ev.msixBits.contains v = true) :
    Emit.msix v ∈ (msixUnmask v true s).out ∧ v ∈ (msixUnmask v true s).ev.msixUnmasked ∧ (msixUnmask v true s).ev.msixOn = true := by
  have unmasked : v ∈ if s.ev.msixUnmasked.contains v then s.ev.msixUnmasked else v :: s.ev.msixUnmasked := by
    split
    · next held => exact List.contains_iff_mem.1 held
    · exact List.mem_cons_self
  unfold msixUnmask
  dsimp only
  rw [Bool.true_and, if_pos pending]
  exact ⟨List.mem_append_right _ (List.mem_singleton_self _), unmasked, rfl⟩

/-! ## Discards (R36, R84) -/

theorem State.getF_discard (c : Carrier) : (s.discard c).getF (F.CAR_DISCARD c.idx) = satNat 32 (s.getF (F.CAR_DISCARD c.idx) + 1) :=
  ((State.traces_fire _ _ _ _).getF _).trans (s.getF_incSat _)

theorem State.discard_sticky (c : Carrier) : Ev.CARRIER_DISC ∈ (s.discard c).ev.sticky := State.fire_sticky _ _ _ _

theorem State.discard_reasm (c : Carrier) : (s.discard c).car.reasm = s.car.reasm := by
  have fired := (State.traces_fire (s.incSat (F.CAR_DISCARD c.idx)) Ev.CARRIER_DISC (objId 0 1 0) c.idx).car
  rw [State.discard, fired]
  rfl

theorem carDiscard_key (c : Carrier) : (F.CAR_DISCARD c.idx).key ∉ settleKeys := by cases c <;> decide

end

/-- Settles O28: each event does its part, and settling keeps it. -/
theorem repliesReportsAndTimeoutsLeave : Obligations.RepliesReportsAndTimeoutsLeave := by
  refine ⟨?_, ?_, ?_, ?_, ?_, ?_, ?_, ?_, ?_⟩
  · intro s via data isMask accepts
    obtain ⟨reachable, accepted⟩ := accepts
    rw [isMask] at accepted
    obtain ⟨t, e, settled⟩ := happen_whenReached (hostWrite via 0x00022008 data.toNat) reachable
    rw [isMask] at settled
    exact ⟨t, e, (settled.on _ (by decide)).trans (hostWrite_replyRelease via accepted)⟩
  · intro s n p reachable reply whole
    obtain ⟨t, e, settled⟩ := happen_whenReached (spiReplyFetch n) reachable
    rw [spiReplyFetch_whole (s := s.fresh) reply whole] at settled
    exact ⟨t, e, settled.out.subset (List.mem_append_right _ (List.mem_singleton_self _)), by rw [settled.car]⟩
  · intro s n src r reachable oldest whole
    obtain ⟨t, e, settled⟩ := happen_whenReached (spiEventFetch n) reachable
    rw [spiEventFetch_whole (s := s.fresh) oldest whole] at settled
    exact ⟨t, e, settled.out.subset (List.mem_append_right _ (List.mem_singleton_self _)), by rw [settled.car]; rfl⟩
  · intro s secLow bytes g v reachable free long kind hg hv addr data
    obtain ⟨t, e, settled⟩ := happen_whenReached (spiWriteFrame secLow bytes) reachable
    obtain ⟨stored, sent⟩ := spiWriteFrame_evtEnable (s := s.fresh) secLow free long kind hg hv addr data
    exact ⟨t, e, (settled.served.getF _ (evtEnable_key g hg)).trans stored, settled.out.subset sent⟩
  · intro s src reachable some
    obtain ⟨t, e, settled⟩ := happen_whenReached (reassemblyTimeout src) reachable
    have body : reassemblyTimeout src s.fresh = ({ s.fresh with
        car := { s.fresh.car with reasm := s.car.reasm.filter (fun r => r.srcAddr != src) } } : State).discard .net := if_pos some
    rw [body] at settled
    refine ⟨t, e, ?_, (settled.getF _ (carDiscard_key .net)).trans (State.getF_discard .net),
      settled.sticky _ (State.discard_sticky .net)⟩
    rw [settled.car]
    exact State.discard_reasm .net
  · intro s reachable
    obtain ⟨t, e, settled⟩ := happen_whenReached (fun s => s.discard .uart) reachable
    exact ⟨t, e, (settled.getF _ (carDiscard_key .uart)).trans (State.getF_discard .uart), settled.sticky _ (State.discard_sticky .uart)⟩
  · intro s src r reachable idle oldest
    obtain ⟨t, e, settled⟩ := happen_whenReached uartEvent reachable
    have sent : Emit.uart (r.line src) ∈ (uartEvent s.fresh).out := by
      have idle' : s.fresh.car.uartBusy = false := idle
      have oldest' : oldestReport s.fresh.ev.uart = some (src, r) := oldest
      unfold uartEvent
      rw [idle', oldest']
      exact List.mem_singleton_self _
    exact ⟨t, e, settled.out.subset sent⟩
  · intro s v reachable pending
    obtain ⟨t, e, settled⟩ := happen_whenReached (msixUnmask v true) reachable
    obtain ⟨sent, unmasked, on⟩ := msixUnmask_sends (s := s.fresh) pending
    exact ⟨t, e, settled.out.subset sent, settled.msixUnmasked ▸ unmasked, settled.msixOn.trans on⟩
  · intro s reachable
    obtain ⟨t, e, settled⟩ := happen_whenReached uartReplySent reachable
    exact ⟨t, e, by rw [settled.car]; rfl, by rw [settled.car]; rfl⟩

end Sys2Proof.Machine
end

section
/-!
A sound request enters the slot of its carrier (R36, R44, R45, R48, R50, R52).
-/

namespace Sys2Proof.Machine

section
variable {s : State}

/-- With the interface free and its carrier's slot empty, a request waits behind the others (R52). -/
theorem State.enterSlot_enters {q : Req} (free : s.busyIndex = none) (empty : ∀ x ∈ s.car.slots, x.1 ≠ q.carrier.idx) :
    s.enterSlot q = { s with car := { s.car with slots := s.car.slots ++ [(q.carrier.idx, q)] } } := by
  have vacant : (s.car.slots.any fun p => p.1 == q.carrier.idx) = false :=
    List.any_eq_false.2 fun x hx => by simpa using empty x hx
  unfold State.enterSlot
  rw [free]
  dsimp only
  rw [if_neg (by simp [vacant])]

/-- A packet that passes its checks enters its carrier's slot (R36, R52). -/
theorem State.arrive_enters {c : Carrier} {o : Origin} {h : List Byte} {crc : Nat} (free : s.busyIndex = none)
    (empty : ∀ x ∈ s.car.slots, x.1 ≠ c.idx) (frame : frameOk h = true) (length : (parsePacket h crc).lengthOk = true)
    (sum : (parsePacket h crc).crcOk = true) (header : (parsePacket h crc).headerFault false = none) :
    (s.arrive c o h crc).car.slots = s.car.slots ++ [(c.idx, (parsePacket h crc).req c o)] := by
  unfold State.arrive
  rw [if_neg (by simp [frame])]
  dsimp only
  rw [if_neg (by simp [length]), if_neg (by simp [sum]), header]
  exact congrArg (·.car.slots) (State.enterSlot_enters (q := (parsePacket h crc).req c o) free empty)

/-- A command frame on the enabled SPI enters its slot (R45). -/
theorem spiCommand_enters {secLow : Bool} {bytes : List Byte} (free : s.busyIndex = none) (enabled : s.on F.SPI_CTL_EN = true)
    (empty : ∀ x ∈ s.car.slots, x.1 ≠ 1) (long : 20 ≤ bytes.length) (kind : bytes.head? = some 0xC5)
    (frame : frameOk (bytes.take (bytes.length - 4)) = true)
    (length : (parsePacket (bytes.take (bytes.length - 4)) (leAt bytes (bytes.length - 4) 4)).lengthOk = true)
    (sum : (parsePacket (bytes.take (bytes.length - 4)) (leAt bytes (bytes.length - 4) 4)).crcOk = true)
    (header : (parsePacket (bytes.take (bytes.length - 4)) (leAt bytes (bytes.length - 4) 4)).headerFault false = none) :
    (spiCommand secLow bytes s).car.slots = s.car.slots ++
      [(1, (parsePacket (bytes.take (bytes.length - 4)) (leAt bytes (bytes.length - 4) 4)).req .spi (Via.spi secLow).origin)] := by
  cases bytes with
  | nil => cases kind
  | cons b l =>
    obtain rfl : b = 0xC5 := by simpa using kind
    have command : spiCommand secLow (0xC5 :: l) s = s.arrive .spi (Via.origin (.spi secLow))
        ((0xC5 :: l).take ((0xC5 :: l).length - 4)) (leAt (0xC5 :: l) ((0xC5 :: l).length - 4) 4) := by
      have tail : 19 ≤ l.length := by simpa using long
      unfold spiCommand
      dsimp only
      rw [if_neg (by decide), if_neg (by simp [enabled, tail])]
    rw [command]
    exact State.arrive_enters free empty frame length sum header

/-- A whole datagram of an open session or of one that admits it enters the network's slot (R48). -/
theorem State.datagram_enters {src sport n k : Nat} {b : List Byte} {p : Packet} {o : Origin} (free : s.busyIndex = none)
    (empty : ∀ x ∈ s.car.slots, x.1 ≠ 2) (long : 20 + (if n = 0 then 0 else 16) ≤ b.length) (frame : frameOk b = true)
    (hn : n = leAt b 10 2) (hk : k = b.length - 4 - (if n = 0 then 0 else 16)) (hp : p = parsePacket (b.take k) (leAt b k 4))
    (length : p.lengthOk = true) (sum : p.crcOk = true) (header : p.headerFault true = none)
    (admitted : n = 0 ∧ s.on F.CAR_CTL_NET_OPEN = true ∨
      0 < n ∧ n < 16 ∧ (KV.get {} s.car.sessions n).admits p (b.take k) (b.drop (k + 4)) = true)
    (ho : o = { code := 5, id := n, priv := (KV.get {} s.car.sessions n).role == 2 }) :
    (s.datagram src sport b).car.slots = s.car.slots ++ [(2, { p.req .net o with srcAddr := src, srcPort := sport })] := by
  have ok : (if n = 0 then s.on F.CAR_CTL_NET_OPEN
      else decide (n < 16) && (KV.get {} s.car.sessions n).admits p (b.take k) (b.drop (k + 4))) = true := by
    rcases admitted with ⟨zero, isOpen⟩ | ⟨pos, small, admits⟩
    · rw [if_pos zero, isOpen]
    · rw [if_neg (by omega), admits]
      simp [small]
  have enters : ∀ t : State, t.busyIndex = none → t.car.slots = s.car.slots →
      (t.enterSlot { p.req .net o with srcAddr := src, srcPort := sport }).car.slots =
        s.car.slots ++ [(2, { p.req .net o with srcAddr := src, srcPort := sport })] := by
    intro t free slots
    rw [State.enterSlot_enters free (by rw [slots]; exact empty), ← slots]
    rfl
  unfold State.datagram
  rw [← hn]
  dsimp only
  rw [← hk, ← hp, ← ho]
  rw [if_neg (by simp [frame]; omega), if_neg (by simp [length]; omega), if_neg (by simp [sum]), if_neg (by simp [ok]), header]
  dsimp only
  split
  · exact enters s free rfl
  · exact enters _ free rfl

/-- A line that parses enters the UART's slot (R50). -/
theorem uartLine_enters {line : List Byte} {op : Nat} {ps : List Byte} (free : s.busyIndex = none)
    (enabled : s.on F.UART_CTL_EN = true) (empty : ∀ x ∈ s.car.slots, x.1 ≠ 3) (short : line.length ≤ 8200)
    (parsed : uartParse ((splitB 0x20 line).filter (fun t => !t.isEmpty)) = some (op, some ps)) :
    uartLine line s = { s with
      draws := s.draws + 1
      car := { s.car with slots := s.car.slots ++ [(3, { carrier := .uart, origin := { code := 6 }, opcode := op, params := ps, crc := (Config.lineCrc s.draws).toNat })] } } := by
  have tokens : ((splitB 0x20 line).filter (fun t => !t.isEmpty)).isEmpty = false := by
    cases ts : (splitB 0x20 line).filter (fun t => !t.isEmpty) with
    | nil => rw [ts] at parsed; cases parsed
    | cons => rfl
  unfold uartLine
  dsimp only
  rw [if_neg (by simp [enabled]), if_neg (by omega), tokens, if_neg (by simp), parsed]
  exact State.enterSlot_enters (s := { s with draws := s.draws + 1 })
    (q := { carrier := .uart, origin := { code := 6 }, opcode := op, params := ps, crc := (Config.lineCrc s.draws).toNat }) free empty

/-! ## The mailbox (R44) -/

/-- The row of MBX.DOORBELL (Table 2.6). -/
def mbxDoorbellRow : RegDesc := ⟨0x2004, 4, 1, 0, 1, false, [⟨0, 13, .l, 0⟩]⟩

theorem regTarget_mbxDoorbell : regTarget F.MBX_DOORBELL_LEN.addr = some (.reg 0 2 0x2004 mbxDoorbellRow) := by decide

theorem findRow_mbxDoorbell : findRow (unitRows 0 2) 0x2004 = some (mbxDoorbellRow, 0) := by decide

/-- What the log leaves of the carriers' requests. -/
theorem State.Stays.mailbox {t : State} (h : s.Stays t [] []) : t.car.slots = s.car.slots ∧ t.car.mbxReq = s.car.mbxReq ∧
    t.car.mbxReqCrc = s.car.mbxReqCrc ∧ t.busyIndex = s.busyIndex := by
  obtain ⟨car, -⟩ := h.touches.1.2 .carriers (by decide)
  have pwr : t.pwr = s.pwr := h.touches.1.2 .power (by decide)
  refine ⟨by rw [car], by rw [car], by rw [car], ?_⟩
  rw [State.busyIndex, State.busyIndex, car, pwr]

/-- A write of MBX.DOORBELL rings with the length it stores, on a state otherwise as it was. -/
theorem State.doorbell_applyWord {a : Access} {n : Nat} (hn : n < 8192) :
    ∃ u : State, s.applyWord a 0 2 0x2004 mbxDoorbellRow n 0xFFFF = u.ring a.origin ∧ u.getF F.MBX_DOORBELL_LEN = n ∧
      u.on F.MBX_CTL_EN = s.on F.MBX_CTL_EN ∧ u.car.slots = s.car.slots ∧ u.car.mbxReq = s.car.mbxReq ∧
      u.car.mbxReqCrc = s.car.mbxReqCrc ∧ u.busyIndex = s.busyIndex := by
  have holds : holdsNothing 0 2 0x2004 = false := rfl
  have swap : swapBit 0 2 0x2004 = none := rfl
  have plain : isEnReg 0 2 0x2004 = false := by decide
  have length : bitsOf n 12 0 = n := by simp [bitsOf, Nat.mod_eq_of_lt hn]
  have stores : s.storeWord mbxDoorbellRow (unitBase 0 2 + 0x2004) n = s.setF F.MBX_DOORBELL_LEN (bitsOf n 12 0) := rfl
  have keeps : ∀ (t : State) bits, t.clearW1c 0 2 0x2004 mbxDoorbellRow bits = t := fun t bits => by
    simp [State.clearW1c, mbxDoorbellRow]
  have after : ∀ (t : State) old new, t.afterWrite 0 2 0x2004 old new = t := fun t old new => by
    by_cases same : old = new
    · rw [State.afterWrite, if_pos same]
    · rw [State.afterWrite, if_neg same]
      rfl
  have acts : ∀ (t b : State) set, t.writeAction b a 0 2 0x2004 set = t.ring a.origin := fun _ _ _ => rfl
  unfold State.applyWord
  simp only [holds, swap, plain, stores, keeps, after, acts, length, Option.any_none, Bool.false_and, Bool.false_eq_true, if_false]
  generalize hv : ({ s.setF F.MBX_DOORBELL_LEN n with bad := _ } : State) = v
  have written : v.getF F.MBX_DOORBELL_LEN = n := by
    rw [← hv]
    exact (State.getF_setF_self _ _ _).trans (Nat.mod_eq_of_lt hn)
  have enable : v.getF F.MBX_CTL_EN = s.getF F.MBX_CTL_EN := by
    rw [← hv]
    exact State.getF_setF_ne s n (by decide)
  have rest : v.car = s.car ∧ v.pwr = s.pwr := by
    rw [← hv]
    exact ⟨rfl, rfl⟩
  obtain ⟨car, pwr⟩ := rest
  refine ⟨v.logChange a.origin _ _ _ _ _, rfl, (v.getF_logChange _ _ _ _ _ _ (by decide)).trans written, ?_⟩
  obtain ⟨slots, request, sum, busy⟩ := (v.stays_logChange a.origin _ _ _ _ _).mailbox
  refine ⟨?_, slots.trans (by rw [car]), request.trans (by rw [car]), sum.trans (by rw [car]), busy.trans ?_⟩
  · rw [State.on, State.on, State.getF_logChange _ _ _ _ _ _ _ (by decide), enable]
  · rw [State.busyIndex, State.busyIndex, car, pwr]

/-- A doorbell rung on the enabled mailbox puts its request into the slot (R44). -/
theorem hostWrite_doorbell {via : Via} {n : Nat} {h : List Byte} {p : Packet} (hn : n ≤ 4096)
    (accepted : (s.judgeWrite via.access F.MBX_DOORBELL_LEN.addr (maskData 0xFFFF n)).isRight = true) (free : s.busyIndex = none)
    (enabled : s.on F.MBX_CTL_EN = true) (empty : ∀ x ∈ s.car.slots, x.1 ≠ 0) (hh : h = bufferBytes s.car.mbxReq n)
    (hp : p = parsePacket h s.car.mbxReqCrc) (frame : frameOk h = true) (length : p.lengthOk = true) (sum : p.crcOk = true)
    (header : p.headerFault false = none) :
    (hostWrite via F.MBX_DOORBELL_LEN.addr (maskData 0xFFFF n) s).car.slots = s.car.slots ++ [(0, p.req .mailbox via.origin)] := by
  have mask : maskData 0xFFFF n / 65536 % 65536 = 0xFFFF := by unfold maskData; omega
  have data : maskData 0xFFFF n % 65536 = n := by unfold maskData; omega
  have judged := State.judgeWrite_word regTarget_mbxDoorbell (by rw [mask]; decide) (by decide) accepted
  rw [mask, data, merge16_full _ (by omega)] at judged
  have answered : ∀ t : State, (t.writeAnswer via none).car = t.car := fun t => by cases via <;> rfl
  obtain ⟨u, rings, len, enable, slots, request, crc, busy⟩ := s.doorbell_applyWord (a := via.access) (n := n) (by omega)
  unfold hostWrite State.writeReg
  rw [judged]
  dsimp only
  rw [answered, State.applyOp_word (by simp [State.mirrored]) findRow_mbxDoorbell, rings]
  unfold State.ring
  rw [if_neg (by simp [enable, enabled]), len, request, crc, ← slots, ← hh]
  subst hp
  exact State.arrive_enters (c := .mailbox) (busy.trans free) (by rw [slots]; exact empty) frame length sum header

end

/-- Settles O27: each carrier's request enters its slot, and settling keeps the slots. -/
theorem requestsEnterTheirSlots : Obligations.RequestsEnterTheirSlots := by
  have kept : ∀ {u t : State}, State.Settled u t → t.car.slots = u.car.slots := fun settled => by rw [settled.car]
  refine ⟨?_, ?_, ?_, ?_⟩
  · intro s via n data h p hn isData accepts free enabled empty hh hp frame length sum header
    obtain ⟨reachable, accepted⟩ := accepts
    rw [isData] at accepted
    obtain ⟨t, e, settled⟩ := happen_whenReached (hostWrite via 0x00022004 data.toNat) reachable
    rw [isData] at settled
    exact ⟨t, e, (kept settled).trans
      (hostWrite_doorbell (s := s.fresh) hn accepted free enabled empty hh hp frame length sum header)⟩
  · rintro s secLow bytes _ reachable free enabled empty long kind rfl frame length sum header
    obtain ⟨t, e, settled⟩ := happen_whenReached (spiCommand secLow bytes) reachable
    exact ⟨t, e, (kept settled).trans (spiCommand_enters (s := s.fresh) free enabled empty long kind frame length sum header)⟩
  · intro s port src sport n k b p o alive free powered link named enabled empty long frame hn hk hp length sum header admitted ho
    obtain ⟨t, e, settled⟩ := happen_whenPort (netDatagram port src sport 0 false b) alive powered
    have body : netDatagram port src sport 0 false b s.fresh = s.fresh.datagram src sport b := by
      have link' : s.fresh.on (F.MAC_STATUS_LINK port) = true := link
      have named' : bitOf (s.fresh.getF F.CAR_CTL_NET_PORTS) port = true := named
      have enabled' : s.fresh.on F.CAR_CTL_EN = true := enabled
      unfold netDatagram
      rw [if_neg (by simp [link', named']), if_neg (by simp [enabled']), if_pos (by simp)]
    rw [body] at settled
    exact ⟨t, e, (kept settled).trans
      (State.datagram_enters (s := s.fresh) free empty long frame hn hk hp length sum header admitted ho)⟩
  · intro s svcEn line op ps reachable free enabled empty short parsed
    obtain ⟨t, e, settled⟩ := happen_whenReached
      (fun s => uartLine line { s with pins := { s.pins with svcEn := svcEn } }) reachable
    have enters := uartLine_enters (s := { s.fresh with pins := { s.pins with svcEn := svcEn } }) free enabled empty short parsed
    exact ⟨t, e, settled.svcEn.trans (congrArg (·.pins.svcEn) enters), (kept settled).trans (congrArg (·.car.slots) enters)⟩

end Sys2Proof.Machine
end


section
/-!
The interpreter serves the slot next in turn, and a long operation ends with its reply (R52 to R54).
-/

namespace Sys2Proof.Machine

variable {s u : State} {q : Req} {l : LongOp} {r : LongEnd} {ps : List Byte} {log : Option Nat}

/-! ## The interpreter -/

/-- The state in which the interpreter executes the request taken from a carrier's slot. -/
def State.taken (s : State) (svcEn : Bool) (c : Nat) : State :=
  { s with pins := { s.pins with svcEn := svcEn }, car := { s.car with slots := s.car.slots.filter (fun p => p.1 != c), last := c } }

/-- A request of a carrier other than the UART is served in the state its slot was freed in, as a command of its opcode is. -/
theorem interpreterServe_eq (svcEn : Bool) (o : Outside) {c : Nat} (reached : s.reachable = true) (next : s.nextSlot = some (c, q))
    (notUart : c ≠ 3) : interpreterServe svcEn o s = serveOp q.opcode (opCore o) q (s.taken svcEn c) := by
  have next' : State.nextSlot { s with pins := { s.pins with svcEn := svcEn } } = some (c, q) := next
  have reached' : (s.taken svcEn c).reachable = true := reached
  unfold interpreterServe serveOp State.whenReached
  rw [if_pos reached, if_pos reached']
  dsimp only
  rw [next']
  dsimp only
  rw [if_neg notUart]
  rfl

theorem opCore_info (o : Outside) (info : q.opcode = 0x0060) : opCore o q s = opInfo q s := by
  unfold opCore
  simp only [info]
  rfl

/-- INFO does not see the request's time or the carrier it came by. -/
theorem opInfo_opStart (params : q.params = []) : opInfo q (s.opStart q) = .done (s.opStart q)
    (leBytes 4 (s.getF F.MGT_CHIP_ID) ++ leBytes 4 (Config.firmwareVersion s.pwr.fwCrc).toNat ++ leBytes 4 (s.getF F.NVS_RUN_GEN_GEN) ++
      leBytes 1 (s.getF F.PWR_STATUS_STATE) ++ leBytes 1 (s.getF F.ROLE_STATUS_STATE) ++ leBytes 2 0) none := by
  rw [opInfo_done params]
  obtain ⟨a, e⟩ := s.opStart_eq q
  rw [e]
  rfl

/-! ## The end of a long operation -/

/-- No long operation runs any more. -/
def State.longOver (s : State) : State := { s with car := { s.car with longOp := none, executing := none } }

/-- A long operation that is done leaves what its end leaves, beside its reply and LONG_DONE. -/
theorem State.endLong_done {f : State → OpOut} (done : f s.longOver = .done u ps log) :
    State.Served u (s.endLong l f) ∧ (s.endLong l f).Answered l.req stOK ps ∧ Ev.LONG_DONE ∈ (s.endLong l f).ev.sticky := by
  obtain ⟨served, answered⟩ := State.served_finish_done s.longOver u l.req ps log
  rw [← done] at served answered
  have fired := (State.traces_fire (State.finish l.req s.longOver (f s.longOver)) Ev.LONG_DONE (objId 0 1 0)
    (l.idx + 256 * l.req.carrier.idx + 65536 * (f s.longOver).status)).settled
  exact ⟨served.trans fired.served, answered.settled fired, State.fire_sticky _ _ _ _⟩

/-- A long operation that fails answers its error, and LONG_DONE fires all the same. -/
theorem State.endLong_fail {f : State → OpOut} {st off d : Nat} (fails : f s.longOver = .fail st off d) :
    State.Served s.longOver (s.endLong l f) ∧ (s.endLong l f).Answered l.req st (errParams off d) ∧
      Ev.LONG_DONE ∈ (s.endLong l f).ev.sticky := by
  have served : State.Served s.longOver (State.finish l.req s.longOver (f s.longOver)) := fails ▸ s.longOver.served_replyErr l.req st off d
  have answered : (State.finish l.req s.longOver (f s.longOver)).Answered l.req st (errParams off d) := fails ▸ State.reply_answered _ _ _ _
  have fired := (State.traces_fire (State.finish l.req s.longOver (f s.longOver)) Ev.LONG_DONE (objId 0 1 0)
    (l.idx + 256 * l.req.carrier.idx + 65536 * (f s.longOver).status)).settled
  exact ⟨served.trans fired.served, answered.settled fired, State.fire_sticky _ _ _ _⟩

/-- The command's next state, where the step ends the operation: settling keeps what its end left. -/
theorem exec_longOpEnd {v : State} {st : Nat} (alive : s.alive = true)
    (ends : State.Served u v ∧ v.Answered l.req st ps ∧ Ev.LONG_DONE ∈ v.ev.sticky) (step : longOpEnd r s.fresh = v) :
    ∃ t, exec (.longOpEnd r) s = .next t ∧ State.Served u t ∧ t.Answered l.req st ps ∧ Ev.LONG_DONE ∈ t.ev.sticky := by
  obtain ⟨t, e, settled⟩ := happen_whenAlive (longOpEnd r) alive
  rw [step] at settled
  obtain ⟨served, answered, fired⟩ := ends
  exact ⟨t, e, served.trans settled.served, answered.settled settled, settled.sticky _ fired⟩

theorem State.Served.longOp {t : State} (h : State.Served s t) : t.car.longOp = s.car.longOp := by rw [h.car]

/-! ## The operations -/

theorem longOpEnd_logFlush (running : s.car.longOp = some l) (flush : l.idx = 4) (left : l.arg = 2) (powered : l.safeHit = false) :
    longOpEnd r s = s.endLong l (fun s => if l.failed then .fail stNVM_FAIL 0xFFFF 0 else .done s [] none) := by
  simp [longOpEnd, running, flush, left, powered]

theorem longOpEnd_store (running : s.car.longOp = some l) (store : l.idx = 1) (snap : l.snap.isSome = true)
    (powered : l.safeHit = false) : longOpEnd r s = s.endLong l (storeEnd r.ok l) := by
  simp [longOpEnd, running, store, Option.isSome_iff_ne_none.1 snap, powered]

theorem longOpEnd_selftest (running : s.car.longOp = some l) (test : l.idx = 6) (powered : l.safeHit = false) :
    longOpEnd r s = s.endLong l (selftestEnd r l) := by
  simp [longOpEnd, running, test, powered]

/-- The unit of the operation entered its safe state (R53). -/
theorem longOpEnd_safe (running : s.car.longOp = some l) (safe : l.safeHit = true)
    (ends : l.idx = 1 ∧ l.snap.isSome = true ∨ l.idx = 2 ∨ l.idx = 3 ∨ l.idx = 5 ∨ l.idx = 6 ∨ l.idx = 8) :
    ∃ v : State, longOpEnd r s = v.endLong l (fun _ => .fail stBAD_STATE 0xFFFF 2) := by
  unfold longOpEnd
  rw [running]
  obtain ⟨i, snap⟩ | i | i | i | i | i := ends
  · exact ⟨s, by simp [i, Option.isSome_iff_ne_none.1 snap, safe]⟩
  all_goals exact ⟨_, by simp [i, safe]; rfl⟩

theorem State.bank_setBank {b : Nat} (hb : b < 2) (x : Bank) : (s.setBank b x).bank b = x := by
  obtain rfl | rfl : b = 0 ∨ b = 1 := by omega
  all_goals rfl

theorem State.Served.bank {t : State} (h : State.Served s t) (b : Nat) : t.bank b = s.bank b := by
  unfold State.bank
  rw [h.bankA, h.bankB]

/-- A STORE that verified: its bank holds the configuration under its generation, and is valid (R102). -/
theorem storeEnd_verified {c : Saved} (snap : l.snap = some c) (bank : l.bank < 2) :
    ∃ u, storeEnd true l s = .done u (leBytes 4 l.gen) (some (noObject 0x0010)) ∧ u.car = s.car ∧
      (u.bank l.bank).valid = true ∧ (u.bank l.bank).gen = l.gen ∧ (u.bank l.bank).cfg = c := by
  have stored := s.bank_setBank bank { s.bank l.bank with valid := true, gen := l.gen, cfg := c }
  unfold storeEnd
  rw [snap]
  refine ⟨_, rfl, s.setBank_car _ _, ?_⟩
  exact ⟨(congrArg Bank.valid stored :), (congrArg Bank.gen stored :), (congrArg Bank.cfg stored :)⟩

/-- The bits that a fold over the tests gathers, where one test only is in scope. -/
theorem foldl_one_bit (a : Nat) (p : Nat → Bool) (n : Nat) :
    (List.range n).foldl (fun m k => if a == k && p k then m + 2 ^ k else m) 0 = if a < n ∧ p a = true then 2 ^ a else 0 := by
  induction n with
  | zero => simp
  | succ n ih =>
    rw [List.range_succ, List.foldl_append, ih]
    obtain rfl | other := eq_or_ne a n
    · simp
    · have : a < n + 1 ↔ a < n := by omega
      simp [other, this]

/-- A self-test of one test that is not the Burins': nothing but the reply, with the bit of that test (R40). -/
theorem selftestEnd_one (low : l.arg ≤ 14) (notBurins : l.arg ≠ 5) :
    selftestEnd r l s = .done s (leBytes 4 (if bitOf r.mask l.arg then 2 ^ l.arg else 0)) none := by
  have one : (l.arg == 0xFF) = false := by simp; omega
  have burins : (l.arg == 5) = false := by simp [notBurins]
  have bits := foldl_one_bit l.arg (fun n => if n = 5 then (List.range 64).any r.list.contains else bitOf r.mask n) 15
  have range : l.arg < 15 := by omega
  unfold selftestEnd
  simp only [one, burins, Bool.or_false, Bool.false_eq_true, if_false, bits, notBurins, range, true_and]

/-- Settles O29: a slot's request is served as a command of its opcode is, and each end of a long operation goes through the
one end that frees the interface, answers and fires LONG_DONE. -/
theorem theInterpreterServesAndEnds : Obligations.TheInterpreterServesAndEnds := by
  refine ⟨?_, ?_, ?_, ?_, ?_⟩
  · intro s svcEn o c q ready next notUart info params gate
    have serves : (s.fresh.taken svcEn c).Serves q.opcode q := ⟨⟨ready.alive, ready.free, ready.steady⟩, gate⟩
    have done := (opCore_info (s := (s.fresh.taken svcEn c).opStart q) o info).trans (opInfo_opStart params)
    obtain ⟨served, answered⟩ := serveOp_done serves done
    rw [← interpreterServe_eq (s := s.fresh) svcEn o serves.reachable next notUart] at served answered
    obtain ⟨a, start⟩ := (s.fresh.taken svcEn c).opStart_eq q
    obtain ⟨t, e, settled⟩ := happen_settled (interpreterServe svcEn o) s
    have whole := served.trans settled.served
    rw [start] at whole
    exact ⟨t, e, by rw [whole.car]; rfl, by rw [whole.car]; rfl, whole.svcEn, answered.settled settled⟩
  · intro s r l alive running flush left powered succeeded
    obtain ⟨t, e, served, answered, fired⟩ := exec_longOpEnd (r := r) alive
      (State.endLong_done (if_neg (by simp [succeeded]))) (longOpEnd_logFlush (s := s.fresh) running flush left powered)
    exact ⟨t, e, served.longOp, answered, fired⟩
  · intro s r l c alive running store snap powered ok bank
    obtain ⟨u, stored, car, valid, gen, cfg⟩ := storeEnd_verified (s := s.fresh.longOver) snap bank
    rw [← ok] at stored
    obtain ⟨t, e, served, answered, fired⟩ := exec_longOpEnd alive (State.endLong_done stored)
      (longOpEnd_store (s := s.fresh) running store (by simp [snap]) powered)
    rw [← served.bank] at valid gen cfg
    exact ⟨t, e, served.longOp.trans (by rw [car]; rfl), answered, fired, valid, gen, cfg⟩
  · intro s r l alive running test low notBurins powered
    obtain ⟨t, e, served, answered, fired⟩ := exec_longOpEnd alive (State.endLong_done (selftestEnd_one low notBurins))
      (longOpEnd_selftest (s := s.fresh) running test powered)
    exact ⟨t, e, served.longOp, fired, answered⟩
  · intro s r l alive running safe ends
    obtain ⟨v, step⟩ := longOpEnd_safe (s := s.fresh) (r := r) running safe ends
    obtain ⟨t, e, served, answered, fired⟩ := exec_longOpEnd alive (State.endLong_fail rfl) step
    exact ⟨t, e, served.longOp, fired, answered⟩

end Sys2Proof.Machine
end

section
/-!
The judgement of a write on its merged value (R60, R62).
-/

namespace Sys2Proof.Machine

/-- Bit by bit, a merged word has the written bit under the mask and the current bit elsewhere (R60). -/
theorem testBit_merge16 {cur mask data : Nat} (hc : cur < 65536) (i : Nat) :
    (merge16 cur mask data).testBit i = if mask.testBit i then data.testBit i else cur.testBit i := by
  have ones : Nat.testBit 0xFFFF i = decide (i < 16) := Nat.testBit_two_pow_sub_one 16 i
  have word : cur.testBit i = (cur.testBit i && decide (i < 16)) := by
    rw [← ones, ← Nat.testBit_and, show cur &&& 0xFFFF = cur from Nat.and_two_pow_sub_one_of_lt_two_pow (n := 16) hc]
  show ((cur &&& (mask ^^^ 0xFFFF)) ||| (data &&& mask)).testBit i = _
  rw [Nat.testBit_or, Nat.testBit_and, Nat.testBit_and, Nat.testBit_xor, ones]
  cases mask.testBit i
  · rw [Bool.and_false, Bool.or_false, Bool.false_xor, ← word]
    rfl
  · cases inside : decide (i < 16) <;> rw [word, inside] <;> simp

section
variable {s : State} {a : Access} {addr sub u off mask data : Nat} {r : RegDesc}

/-- Mask and data of a mask-data word (R5). -/
theorem maskData_parts (masked : mask < 65536) (sized : data < 65536) :
    (mask * 65536 + data) / 65536 % 65536 = mask ∧ (mask * 65536 + data) % 65536 = data := by omega

/-- A write of a register that passes steps 1 to 4 of Table 3.3 is judged by what follows them: as a word of a multi-word value,
or as the register of one word that it is. -/
theorem State.judgeWrite_beyondStepFour (target : regTarget addr = some (.reg sub u off r)) (named : 0 < mask) (masked : mask < 65536)
    (sized : data < 65536) (free : s.busyIndex = none) (priv : r.priv = true → a.origin.priv = true)
    (clocked : s.absent sub u = false) (own : a.mirror = true ∨ s.isStandby = false ∨ s.mirrored sub u off = false) :
    s.judgeWrite a addr (mask * 65536 + data) =
      if r.mwLen > 1 ∧ accMask r Acc.config ≠ 0 then s.judgeMulti a sub u off r mask data
      else if s.writeIgnored sub u off r mask (merge16 (s.regWord sub u off % 65536) mask data) = true then .inl .ignored
      else if (isEnReg sub u off && bitOf mask 0 && bitOf (merge16 (s.regWord sub u off % 65536) mask data) 0 &&
          !bitOf (s.regWord sub u off % 65536) 0 &&
          !(s.storeWord r addr (merge16 (s.regWord sub u off % 65536) mask data)).enLegal sub u off) = true then .inl .illegal
      else if s.writeLegal sub u off r mask (s.regWord sub u off % 65536) (merge16 (s.regWord sub u off % 65536) mask data) = true then
        .inr (.words sub u off [(off, merge16 (s.regWord sub u off % 65536) mask data, mask)])
      else .inl .illegal := by
  obtain ⟨isMask, isData⟩ := maskData_parts masked sized
  have denied : ¬ (r.priv && !a.origin.priv) = true := by
    cases h : r.priv
    · simp
    · simp [priv h]
  have foreign : ¬ (!a.mirror && s.isStandby && s.mirrored sub u off) = true := by
    rcases own with h | h | h <;> simp [h]
  unfold State.judgeWrite
  dsimp only
  rw [target, isMask, isData, free]
  dsimp only
  rw [if_neg (by omega), if_neg (by simp), if_neg denied, if_neg (by simp [clocked]), if_neg foreign]
  simp only [Bool.and_eq_true, decide_eq_true_eq]

/-- A write that reaches step 6 is applied with its merged value where that is legal, else refused as illegal (R60, R66). -/
theorem State.judgeWrite_stepSix (h : s.ReachesStepSix a addr sub u off r mask data) :
    s.judgeWrite a addr (mask * 65536 + data) =
      if s.writeLegal sub u off r mask (s.regWord sub u off % 65536) (merge16 (s.regWord sub u off % 65536) mask data) = true ∧
          ((isEnReg sub u off && bitOf mask 0 && bitOf (merge16 (s.regWord sub u off % 65536) mask data) 0 &&
              !bitOf (s.regWord sub u off % 65536) 0) = true →
            (s.storeWord r addr (merge16 (s.regWord sub u off % 65536) mask data)).enLegal sub u off = true)
      then .inr (.words sub u off [(off, merge16 (s.regWord sub u off % 65536) mask data, mask)]) else .inl .illegal := by
  obtain ⟨target, ⟨named, masked⟩, sized, free, priv, clocked, own, oneWord, rule⟩ := h
  have single : ¬ (r.mwLen > 1 ∧ accMask r Acc.config ≠ 0) := fun ⟨long, config⟩ => oneWord.elim (by omega) config
  rw [State.judgeWrite_beyondStepFour target named masked sized free priv clocked own, if_neg single, rule]
  generalize (isEnReg sub u off && _ && _ && _) = rises
  generalize State.enLegal _ sub u off = mayEnable
  generalize State.writeLegal _ sub u off r mask _ _ = legal
  cases rises <;> cases mayEnable <;> cases legal <;> rfl

/-- A lower word of a multi-word value merges with the current word into a shadow that is not there yet (R62). -/
theorem State.judgeWrite_lowerWord (target : regTarget addr = some (.reg sub u off r)) (named : 0 < mask) (masked : mask < 65536)
    (sized : data < 65536) (free : s.busyIndex = none) (priv : r.priv = true → a.origin.priv = true)
    (clocked : s.absent sub u = false) (own : s.isStandby = false) (lower : r.mwIdx + 1 < r.mwLen) (config : accMask r Acc.config ≠ 0)
    (empty : KV.find s.shadows (unitBase sub u + (off - 4 * r.mwIdx)) = none)
    (rule : s.writeIgnored sub u off r mask (merge16 (s.regWord sub u off % 65536) mask data) = false) :
    s.judgeWrite a addr (mask * 65536 + data) =
      .inr (.shadow (unitBase sub u + (off - 4 * r.mwIdx)) r.mwIdx (merge16 (s.regWord sub u off % 65536) mask data)) := by
  rw [State.judgeWrite_beyondStepFour target named masked sized free priv clocked (.inr (.inl own)), if_pos ⟨by omega, config⟩]
  unfold State.judgeMulti
  dsimp only
  rw [if_pos lower, empty]
  dsimp only
  rw [rule, if_neg Bool.false_ne_true]

end

/-- Settles O8: the bits of a merged word, and steps 5 and 6 of Table 3.3 on it. -/
theorem writesAreJudgedOnTheMergedValue : Obligations.WritesAreJudgedOnTheMergedValue := by
  refine ⟨fun cur mask data i hc _ _ => testBit_merge16 hc i, ?_, ?_⟩
  · rintro s a addr sub u off r mask data _ _ h rfl rfl
    exact State.judgeWrite_stepSix h
  · intro s a addr sub u off r mask data target named masked sized free priv clocked own lower config empty rule
    exact State.judgeWrite_lowerWord target named masked sized free priv clocked own lower config empty rule

end Sys2Proof.Machine
end

section
/-!
Accesses that are refused: bus errors (R75, R77) and privileged registers met by an ordinary origin (R70).
-/

namespace Sys2Proof.Machine

section
variable {s t u : State} {addr : Nat}

/-! ## Bus errors -/

/-- What a bus error leaves: BUS_ERR fired, its record filled, and nothing else changed but the record. -/
structure State.BusErred (s t : State) : Prop where
  fired : Ev.BUS_ERR ∈ t.ev.sticky
  recorded : t.on F.MGT_BUS_ERR_INFO_VALID = true
  stays : s.Stays t [] [⟨0, 0, 0⟩]

theorem State.BusErred.settled (h : s.BusErred t) (g : State.Settled t u) : s.BusErred u :=
  ⟨g.sticky _ h.fired, (g.on _ (by decide)).trans h.recorded, h.stays.trans (g.served.stays _ _)⟩

theorem State.BusErred.emit (h : s.BusErred t) (e : Emit) : s.BusErred (t.emit e) := h.settled (t.traces_emit e).settled

/-- The record is filled, or counts where it was (R77). -/
theorem State.busRecord_valid (o : Origin) (cause addr : Nat) : (s.busRecord o cause addr).on F.MGT_BUS_ERR_INFO_VALID = true := by
  unfold State.busRecord
  split
  · next filled => rwa [State.on, State.getF_incSat_ne _ (by decide)]
  · exact State.on_setF_one _ _ rfl

theorem State.stays_busRecord (o : Origin) (cause addr : Nat) : s.Stays (s.busRecord o cause addr) [] [⟨0, 0, 0⟩] := by
  have same := State.Stays.refl s [] [⟨0, 0, 0⟩]
  have address := same.setF F.MGT_BUS_ERR_ADDR_ADDR addr (by decide)
  have origin := address.setF F.MGT_BUS_ERR_INFO_ORIGIN o.code (by decide)
  have cause := origin.setF F.MGT_BUS_ERR_INFO_CAUSE cause (by decide)
  have count := cause.setF F.MGT_BUS_ERR_INFO_COUNT 1 (by decide)
  exact .ite (same.incSat _ (by decide)) (count.setF F.MGT_BUS_ERR_INFO_VALID 1 (by decide))

theorem State.busErred_busError (o : Origin) (cause addr : Nat) : s.BusErred (s.busError o cause addr) := by
  have recorded := (s.fire Ev.BUS_ERR noUnit addr).stays_busRecord o cause addr
  exact ⟨recorded.sticky _ (State.fire_sticky _ _ _ _), State.busRecord_valid _ _ _,
    ((State.Stays.refl s _ _).fire _ _ _).trans recorded⟩

/-- No register stands at an address that is not a multiple of 4 (R57). -/
theorem regTarget_unaligned (unaligned : addr % 4 ≠ 0) : regTarget addr = none := by
  unfold regTarget
  rw [if_pos (by simp [unaligned])]

theorem hostWrite_unaligned (via : Via) (v : Nat) (unaligned : addr % 4 ≠ 0) : s.BusErred (hostWrite via addr v s) := by
  have judged : s.judgeWrite via.access addr v = .inl (.bus 2) := by
    unfold State.judgeWrite
    rw [regTarget_unaligned unaligned]
    dsimp only
    rw [if_pos unaligned]
  have erred := s.busErred_busError via.origin 2 addr
  have answered : hostWrite via addr v s = (s.busError via.origin 2 addr).writeAnswer via (some (.bus 2)) := by
    unfold hostWrite State.writeReg
    rw [judged]
    rfl
  rw [answered]
  cases via <;> exact erred.emit _

theorem hostRead_unaligned (via : Via) (unaligned : addr % 4 ≠ 0) : s.BusErred (hostRead via addr s) := by
  unfold hostRead
  rw [regTarget_unaligned unaligned]
  cases via <;> exact (s.busErred_busError _ _ _).emit _

/-- A PCIe write of less than a DWORD is a bus error, and is answered as one (R75, R77). -/
theorem plainWrite_partial {via : Via} {be v : Nat} (pcie : via = .bar0 ∨ via = .bar4) (part : be ≠ 15) :
    plainWrite via addr be v s = (s.busError via.origin 2 addr).emit (.pcieUr true) := by
  rcases pcie with rfl | rfl <;> exact if_neg part

/-- A whole write is a register write on every way in (R75). -/
theorem plainWrite_whole (via : Via) (v : Nat) : plainWrite via addr 15 v s = hostWrite via addr v s := by cases via <;> rfl

/-- A write's answer is sent, and that is all. -/
theorem State.traces_writeAnswer (s : State) (via : Via) (f : Option WrFail) : State.Traces s (s.writeAnswer via f) := by
  unfold State.writeAnswer
  split
  · exact s.traces_emit _
  · split
    · exact s.traces_emit _
    · exact State.Traces.refl s

theorem State.writeAnswer_log (via : Via) (f : Option WrFail) : (s.writeAnswer via f).log = s.log := by
  unfold State.writeAnswer
  split
  · rfl
  · split <;> rfl

end

/-- A host's access that is a bus error: what it leaves of the state it came to. -/
theorem happen_busErred {s : State} {g : State → State} (reachable : s.reachable = true) (erred : s.fresh.BusErred (g s.fresh)) :
    ∃ t, happen (fun s => s.whenReached g) s = .next t ∧ State.Settled (g s.fresh) t ∧ Ev.BUS_ERR ∈ t.ev.sticky ∧
      t.on F.MGT_BUS_ERR_INFO_VALID = true ∧ s.Touches t [] [⟨0, 0, 0⟩] := by
  obtain ⟨t, e, settled⟩ := happen_whenReached g reachable
  obtain ⟨fired, recorded, -⟩ := erred.settled settled
  exact ⟨t, e, settled, fired, recorded, happen_whenReached_stays e erred.stays⟩

/-- Settles O13: each of these accesses comes to the one bus error, and settling keeps what it leaves. -/
theorem partialAndUnalignedAccessesAreBusErrors : Obligations.PartialAndUnalignedAccessesAreBusErrors := by
  refine ⟨?_, ?_, ?_⟩
  · intro s via addr be data reachable pcie part
    have body := plainWrite_partial (s := s.fresh) (addr := addr) (v := data.toNat) pcie part
    obtain ⟨t, e, settled, fired, recorded, touches⟩ := happen_busErred (g := plainWrite via addr be data.toNat) reachable
      (body ▸ (s.fresh.busErred_busError via.origin 2 addr).emit (.pcieUr true))
    rw [body] at settled
    exact ⟨t, e, fired, settled.out.subset (List.mem_append_right _ (List.mem_singleton_self _)), recorded, touches⟩
  · intro s via addr data reachable unaligned
    obtain ⟨t, e, -, rest⟩ := happen_busErred (g := plainWrite via addr 15 data.toNat) reachable
      (plainWrite_whole (s := s.fresh) via data.toNat ▸ hostWrite_unaligned via data.toNat unaligned)
    exact ⟨t, e, rest⟩
  · intro s via addr reachable unaligned
    obtain ⟨t, e, -, rest⟩ := happen_busErred (g := hostRead via addr) reachable (hostRead_unaligned via unaligned)
    exact ⟨t, e, rest⟩

/-! ## Privileged registers -/

section
variable {s : State} {a : Access} {addr sub u off : Nat} {r : RegDesc}

/-- The addresses of registers lie below 2^26 (R57). -/
theorem regTarget_lt {x : RegTarget} (target : regTarget addr = some x) : addr < 2 ^ 26 := by
  by_contra beyond
  rw [regTarget, if_pos (by simp; omega)] at target
  cases target

/-- An ordinary origin reads a privileged register as 0 (R70). -/
theorem State.readTarget_privileged (priv : r.priv = true) (ordinary : a.origin.priv = false) :
    s.readTarget a addr (.reg sub u off r) = ((0, false), s) := by
  dsimp only [State.readTarget]
  rw [if_pos (by simp [priv, ordinary])]

/-- How a word read reaches the host (R46, R79). -/
def Via.readAnswer (via : Via) (absent : Bool) (w : Nat) : Emit :=
  match via with
  | .spi _ => .spi ((if absent then [0xE5] else [0xA0]) ++ beBytes 4 w)
  | _ => .readData [w]

/-- A read of a defined address does what its target does, and answers the word. -/
theorem hostRead_target (via : Via) {x : RegTarget} (target : regTarget addr = some x) :
    hostRead via addr s = (s.readTarget via.access addr x).2.emit
      (via.readAnswer (s.readTarget via.access addr x).1.2 (s.readTarget via.access addr x).1.1) := by
  unfold hostRead
  rw [target]
  cases via <;> rfl

theorem hostRead_privileged (via : Via) (target : regTarget addr = some (.reg sub u off r)) (priv : r.priv = true)
    (ordinary : via.origin.priv = false) : hostRead via addr s = s.emit (via.readAnswer false 0) := by
  rw [hostRead_target via target, State.readTarget_privileged (a := via.access) priv ordinary]

theorem opRegRead_privileged {q : Req} (length : q.params.length = 8) (one : q.field 4 2 = 1) (pad : q.field 6 2 = 0)
    (target : regTarget (q.field 0 4) = some (.reg sub u off r)) (priv : r.priv = true) (ordinary : q.origin.priv = false) :
    opRegRead q s = .done s (leBytes 4 0) none := by
  have zero := State.readTarget_privileged (s := s) (a := q.access) (addr := q.field 0 4) (sub := sub) (u := u) (off := off) priv ordinary
  simp [opRegRead, length, one, pad, target, State.readWords, zero]

/-- The newest entry of the log is the one just made (R91). -/
theorem State.logE_newest (origin oid kind : Nat) (isAddr : Bool) (obj old new : Nat) :
    ∃ e, (s.logE origin oid kind isAddr obj old new).log.ram.getLast? = some e ∧ e.kind = kind ∧ e.origin = origin ∧ e.oid = oid ∧
      e.addr = isAddr ∧ e.obj = obj % 2 ^ 32 ∧ e.new = new % 65536 := by
  have commit : ∀ t : State, t.startCommit.log.ram = t.log.ram := fun t => by
    unfold State.startCommit
    split
    · rfl
    · split <;> rfl
  unfold State.logE
  dsimp only
  split
  · rw [commit]
    exact ⟨_, List.getLast?_concat, rfl, rfl, rfl, rfl, rfl, rfl⟩
  · exact ⟨_, List.getLast?_concat, rfl, rfl, rfl, rfl, rfl, rfl⟩

/-- An ordinary origin cannot write a privileged register (R59, R70). -/
theorem State.judgeWrite_privileged {v : Nat} (free : s.busyIndex = none) (target : regTarget addr = some (.reg sub u off r))
    (priv : r.priv = true) (ordinary : a.origin.priv = false) (masked : v / 65536 % 65536 ≠ 0) :
    s.judgeWrite a addr v = .inl .denied := by
  unfold State.judgeWrite
  dsimp only
  rw [target, free]
  dsimp only
  rw [if_neg masked, if_neg (by simp), if_pos (by simp [priv, ordinary])]

/-- What a denied write leaves (R28, R70). -/
theorem State.refuse_denied (target : regTarget addr = some (.reg sub u off r)) (v : Nat) :
    ∃ e, s.Stays (s.refuse a addr v .denied) [.common] [] ∧ ((s.refuse a addr v .denied).unit (unitKey sub u)).denied = true ∧
      Ev.DENIED ∈ (s.refuse a addr v .denied).ev.sticky ∧ (s.refuse a addr v .denied).log.ram.getLast? = some e ∧
      e.kind = kDENIED ∧ e.origin = a.origin.code ∧ e.oid = a.origin.id ∧ e.addr = true ∧ e.obj = addr ∧ e.new = v % 65536 := by
  have small := regTarget_lt target
  obtain ⟨e, newest, kind, origin, oid, isAddr, obj, new⟩ := s.logE_newest a.origin.code a.origin.id kDENIED true addr 0 (v % 65536)
  have logged := (State.Stays.refl s [.common] []).logE a.origin.code a.origin.id kDENIED true addr 0 (v % 65536)
  unfold State.refuse
  rw [target]
  dsimp only [Option.map, Option.getD, RegTarget.unit]
  rw [State.logDenied]
  generalize s.logE a.origin.code a.origin.id kDENIED true addr 0 (v % 65536) = l at newest logged ⊢
  have counted : ∀ x : UnitCB, x.denied = true →
      (((l.setUnit (unitKey sub u) x).fire Ev.DENIED (objId sub u 0) addr).unit (unitKey sub u)).denied = true := fun x h => by
    rw [State.unit, (State.traces_fire _ _ _ _).units]
    exact (congrArg UnitCB.denied (l.unit_setUnit_self _ x)).trans h
  refine ⟨e, ((logged.setUnit _ _ (by decide)).setUnit _ _ (by decide)).fire _ _ _, ?_, State.fire_sticky _ _ _ _, ?_, kind, origin,
    oid, isAddr, obj.trans (Nat.mod_eq_of_lt (by omega)), new.trans (Nat.mod_mod _ _)⟩
  · rw [State.unit, (State.traces_fire _ _ _ _).units]
    show ((State.setUnit _ _ _).unit _).denied = true
    rw [State.unit_setUnit_self]
    show ((State.setUnit _ _ _).unit _).denied = true
    rw [State.unit_setUnit_self]
  · rw [State.fire_log]
    exact newest

end

/-- Settles O9: the read of a privileged register answers 0, and its write leaves the traces of a denial. -/
theorem ordinaryOriginsCannotUsePrivilegedRegisters : Obligations.OrdinaryOriginsCannotUsePrivilegedRegisters := by
  refine ⟨?_, ?_, ?_, rfl⟩
  · intro s via addr sub u off r reachable target priv ordinary
    have body : s.fresh.whenReached (hostRead via addr) = s.fresh.emit (via.readAnswer false 0) :=
      (if_pos reachable).trans (hostRead_privileged via target priv ordinary)
    have answer : exec (.snapshotRead via addr) s = .next (s.fresh.emit (via.readAnswer false 0)).settleAll :=
      congrArg (fun x : State => Host.Outcome.next x.settleAll) body
    rw [answer]
    cases via <;> rfl
  · intro s q sub u off r h length one pad target priv ordinary
    have found : s.Touches (s.work 0x0030 q) [] [] :=
      (State.Touches.refl s [] []).trans (s.fresh.stays_opStart (q.as 0x0030) [] []).touches
    refine exec_work h (fun u t served touches => State.Touches.trans touches (served.touches [] [])) ?_
    rw [opRegRead_privileged (q := q.as 0x0030) length one pad target priv ordinary]
    exact ⟨rfl, found⟩
  · intro s via addr sub u off r data reachable free target priv ordinary masked
    have small := data.isLt
    obtain ⟨e, stays, denied, fired, newest, traces⟩ := s.fresh.refuse_denied (a := via.access) target data.toNat
    have refused : plainWrite via addr 15 data.toNat s.fresh =
        (s.fresh.refuse via.access addr data.toNat .denied).writeAnswer via (some .denied) := by
      rw [plainWrite_whole, hostWrite, State.writeReg,
        State.judgeWrite_privileged (s := s.fresh) (a := via.access) free target priv ordinary (by omega)]
    have answered := (s.fresh.refuse via.access addr data.toNat .denied).traces_writeAnswer via (some .denied)
    have found : s.Touches s.fresh [.common] [] := State.Touches.refl s _ _
    refine ⟨_, e, congrArg (fun x : State => Host.Outcome.next x.settleAll) ((if_pos reachable).trans refused),
      found.trans (stays.traces answered).touches, ?_, answered.sticky _ fired, ?_, traces⟩
    · rw [State.unit, answered.units]
      exact denied
    · rw [State.writeAnswer_log]
      exact newest

end Sys2Proof.Machine
end

section
/-!
A write of HO_MODE that changes no register data (R61, R186): where HOLD.CTL.EN is stored wider than its one bit, what overflows
stands in the bits of HO_MODE as the register reads, so a mode can differ from them and the write still store what is there.
-/

namespace Sys2Proof.Machine

/-- A running block whose HOLD.CTL.EN is stored as 3: the register reads 211, with 1 in the place of HO_MODE, which is stored as 0. -/
def overfullHold : State := { regs := [(F.HOLD_CTL_EN.key, 3)], pwr := { boot := 5, cmdReady := true } }

theorem overfullHold_reads : overfullHold.regWord 2 10 0 = 211 ∧ overfullHold.getF F.HOLD_CTL_HO_MODE = 0 := by decide

/-- The write of mode 0 to it passes the checks of Table 3.3. -/
theorem overfullHold_accepts : overfullHold.Accepts .bar0 F.HOLD_CTL_HO_MODE.addr (maskData 6 (0 * 2)) := by
  constructor <;> decide

/-- The write of mode 0 stores what is stored, so the holdover does not learn of it. -/
theorem overfullHold_unwritten :
    (hostWrite .bar0 F.HOLD_CTL_HO_MODE.addr (maskData 6 (0 % 4 * 2)) overfullHold.fresh).clk.hoWritten = false := by decide

/-- Refutes O25 by its clause on HO_MODE: `overfullHold`, which the statement does not exclude, is written with mode 0. The bits read
in HO_MODE's place are 1 and so other than the mode, but the data before and after the write are the same. -/
theorem not_registerActionsTakeEffect : ¬ Obligations.RegisterActionsTakeEffect := by
  rintro ⟨-, -, -, -, -, -, -, -, -, -, -, -, -, -, hoMode, -, -⟩
  obtain ⟨t, e, -, written⟩ := hoMode overfullHold .bar0 0 (by decide) overfullHold_accepts
  obtain ⟨reads, -⟩ := overfullHold_reads
  obtain ⟨u, e', settled⟩ := happen_whenReached
    (hostWrite .bar0 F.HOLD_CTL_HO_MODE.addr (maskData 6 (0 % 4 * 2))) overfullHold_accepts.1
  obtain rfl : u = t := Host.Outcome.next.inj (e'.symm.trans e)
  have kept := (congrArg ClkState.hoWritten settled.clk).trans overfullHold_unwritten
  rw [written (by rw [reads]; decide) (by rw [reads]; decide)] at kept
  cases kept

end Sys2Proof.Machine
end


section
/-!
Log commits, the power-fail sequence and the scrubber (R71, R72, R94 to R97).
-/

namespace Sys2Proof.Machine

/-! ## What a power-fail warning leaves -/

/-- The pin's state, the warning's raw bit, what is sticky and a running commit outlast an operation. -/
structure State.WarnKept (s t : State) : Prop where
  low : t.pins.pfwLow = s.pins.pfwLow
  sticky : ∀ n ∈ s.ev.sticky, n ∈ t.ev.sticky
  raw : Ev.PFW ∈ s.ev.raw → Ev.PFW ∈ t.ev.raw
  commitOn : s.log.commit.isSome = true → t.log.commit.isSome = true

section
variable {s t u : State}

theorem State.WarnKept.of_eq (pins : t.pins = s.pins) (ev : t.ev = s.ev) (log : t.log = s.log) : s.WarnKept t :=
  ⟨by rw [pins], fun _ => ev ▸ id, ev ▸ id, log ▸ id⟩

theorem State.WarnKept.refl (s : State) : s.WarnKept s := .of_eq rfl rfl rfl

theorem State.WarnKept.trans (h : s.WarnKept t) (g : t.WarnKept u) : s.WarnKept u :=
  ⟨g.low.trans h.low, fun n m => g.sticky n (h.sticky n m), g.raw ∘ h.raw, g.commitOn ∘ h.commitOn⟩

theorem State.Served.warnKept (h : State.Served s t) : s.WarnKept t :=
  ⟨h.pfwLow, h.sticky, h.raw ▸ id, h.commitOn⟩

theorem State.Traces.warnKept (h : State.Traces s t) : s.WarnKept t := h.settled.served.warnKept

theorem State.WarnKept.ite {c : Prop} [Decidable c] (h : s.WarnKept t) (g : s.WarnKept u) : s.WarnKept (if c then t else u) := by
  split
  · exact h
  · exact g

theorem State.WarnKept.foldl {α : Type} {f : State → α → State} (each : ∀ (t : State) (a : α), t.WarnKept (f t a)) (l : List α) (s : State) :
    s.WarnKept (l.foldl f s) :=
  List.foldlRecOn (motive := s.WarnKept) l f (.refl s) fun t h a _ => h.trans (each t a)

theorem State.warnKept_setRaw {src : Nat} (other : src ≠ Ev.PFW) (on : Bool) : s.WarnKept (s.setRaw src on) := by
  refine ⟨rfl, fun _ => id, fun warned => ?_, id⟩
  cases on
  · exact List.mem_filter.2 ⟨warned, by simpa using other.symm⟩
  · show Ev.PFW ∈ if s.ev.raw.contains src = true then s.ev.raw else src :: s.ev.raw
    split
    · exact warned
    · exact List.mem_cons_of_mem _ warned

variable (s)

theorem State.warnKept_fire (src obj detail : Nat) : s.WarnKept (s.fire src obj detail) := (s.traces_fire src obj detail).warnKept

theorem State.warnKept_logState (origin obj old new : Nat) : s.WarnKept (s.logState origin obj old new) :=
  (s.traces_logState origin obj old new).warnKept

/-! ## Amplifier channels -/

theorem State.warnKept_liveAbandon (x cause : Nat) : s.WarnKept (s.liveAbandon x cause) := by
  have cleared : s.WarnKept { s with amp := { s.amp with live := KV.erase s.amp.live x } }.refreshDiag := .of_eq rfl rfl rfl
  exact .ite (.refl s) (cleared.trans (State.warnKept_fire _ _ _ _))

theorem State.warnKept_offlineAbandon (x cause : Nat) : s.WarnKept (s.offlineAbandon x cause) := by
  have cleared : s.WarnKept { s with amp := { s.amp with offline := without s.amp.offline x } }.refreshDiag := .of_eq rfl rfl rfl
  exact .ite (.refl s) (cleared.trans (State.warnKept_fire _ _ _ _))

/-- The levels of the channels are other sources than PFW. -/
theorem State.warnKept_refreshAmpRaw : s.WarnKept s.refreshAmpRaw := by
  have one : ∀ (t : State) (src : Nat) (on : Bool), src ≠ Ev.PFW → t.WarnKept (t.setRaw src on) := fun t _ on other =>
    State.warnKept_setRaw other on
  exact (((one _ _ _ (by decide)).trans (one _ _ _ (by decide))).trans (one _ _ _ (by decide))).trans (one _ _ _ (by decide))

theorem State.warnKept_setAmp (x new : Nat) : s.WarnKept (s.setAmp x new) := by
  unfold State.setAmp
  dsimp only
  split
  · exact .refl s
  · refine State.WarnKept.trans ?_ (State.warnKept_refreshAmpRaw _)
    have state : s.WarnKept (s.setF (F.AMP_STATUS_STATE x) new) := .of_eq rfl rfl rfl
    have logged := state.trans (State.warnKept_logState _ orgProtection (ampObj x) (s.ampSt x) new)
    generalize (s.setF (F.AMP_STATUS_STATE x) new).logState orgProtection (ampObj x) (s.ampSt x) new = l at logged ⊢
    have idle : s.WarnKept ((l.setCh x { l.ampCh x with gates := false, boot := false, start := 0, resume := false }).setZc (zcAmp x) {}) :=
      logged.trans (.of_eq rfl rfl rfl)
    have switched := State.WarnKept.ite (c := ampSwitches new = true) logged idle
    exact .ite (switched.trans (State.warnKept_liveAbandon _ x 2)) switched

theorem State.warnKept_ampListen : s.WarnKept s.ampListen :=
  .foldl (fun t x => .ite (t.warnKept_setAmp x aOFF) (.refl t)) _ s

theorem State.warnKept_ampBegin (x start : Nat) : s.WarnKept (s.ampBegin x start) :=
  .ite (s.warnKept_setAmp x aHOLD) ((s.warnKept_setAmp x aSTARTING).trans (.of_eq rfl rfl rfl))

theorem State.warnKept_ampEnable (x : Nat) (start : Option Nat) : s.WarnKept (s.ampEnable x start) := by
  have abandoned := s.warnKept_offlineAbandon x 1
  exact .ite (abandoned.trans (.of_eq rfl rfl rfl)) (.ite abandoned (abandoned.trans (State.warnKept_ampBegin _ x _)))

theorem State.warnKept_ampResume : s.WarnKept s.ampResume :=
  .foldl (fun t x => .ite (t.warnKept_ampEnable x none) (.refl t)) _ s

/-! ## Proofs and long operations -/

theorem State.warnKept_proofDevice (k result : Nat) (v : Option (Int × Int)) : s.WarnKept (s.proofDevice k result v) := by
  unfold State.proofDevice
  split
  · exact .refl s
  · refine State.WarnKept.trans ?_ (State.warnKept_logState _ _ _ _ _)
    unfold State.proofStop
    split
    · exact .refl s
    · exact .of_eq rfl rfl rfl

theorem State.warnKept_proofsEnd : s.WarnKept s.proofsEnd := .foldl (fun t k => t.warnKept_proofDevice k 6 none) _ s

theorem State.warnKept_abandonLong : s.WarnKept s.abandonLong := by
  unfold State.abandonLong
  split
  · next l _ =>
    have freed : s.WarnKept s.longOver := .of_eq rfl rfl rfl
    obtain ⟨served, -⟩ := State.endLong_fail (s := s) (l := l) (f := fun _ => .fail stNVM_FAIL 0xFFFF 1) rfl
    exact .ite (freed.trans served.warnKept) (.refl s)
  · exact .refl s

end

/-! ## The power-fail sequence (R97) -/

/-- What the sequence shows from its start on: the pin's state, the warning with its level, and the commit. -/
structure State.Warned (t : State) : Prop where
  low : t.pins.pfwLow = true
  fired : Ev.PFW ∈ t.ev.sticky
  raised : Ev.PFW ∈ t.ev.raw
  saving : t.log.commit.isSome = true

/-- A condition that begins is sticky, its level stands, and the pins are left. -/
theorem State.raise_begins {s : State} {src : Nat} (quiet : s.ev.raw.contains src = false) (obj detail : Nat) :
    src ∈ (s.raise src obj detail).ev.sticky ∧ src ∈ (s.raise src obj detail).ev.raw ∧ (s.raise src obj detail).pins = s.pins := by
  have silent : ¬ s.ev.raw.contains src = true := by rw [quiet]; exact Bool.false_ne_true
  unfold State.raise
  rw [if_neg silent, (State.traces_fire _ _ _ _).raw, (State.traces_fire _ _ _ _).pins]
  refine ⟨State.fire_sticky _ _ _ _, ?_, rfl⟩
  show src ∈ if s.ev.raw.contains src = true then s.ev.raw else src :: s.ev.raw
  rw [if_neg silent]
  exact List.mem_cons_self

theorem State.powerFail_warns {s : State} (removed : Bool) (quiet : s.ev.raw.contains Ev.PFW = false) : (s.powerFail removed).Warned := by
  unfold State.powerFail
  extract_lets st _ low raised logged stopped _ saving
  obtain ⟨fired, level, pins⟩ : Ev.PFW ∈ raised.ev.sticky ∧ Ev.PFW ∈ raised.ev.raw ∧ raised.pins = low.pins :=
    State.raise_begins (s := low) quiet (objId 14 0 0) (b2n removed)
  have pinLow : raised.pins.pfwLow = true := by rw [pins]
  clear_value raised
  have ended : raised.WarnKept stopped := ((raised.warnKept_logState orgPower (objId 14 0 0) st st).trans
    logged.warnKept_abandonLong).trans logged.abandonLong.warnKept_proofsEnd
  clear_value stopped
  have begun : saving.Warned := ⟨ended.low.trans pinLow, ended.sticky _ fired, ended.raw level, rfl⟩
  clear_value saving
  obtain ⟨low, sticky, raw, commitOn⟩ :=
    State.WarnKept.ite (c := saving.on F.PWR_CTL_PFW_AMP_OFF = true) saving.warnKept_ampListen (.refl saving)
  exact ⟨low.trans begun.low, sticky _ begun.fired, raw begun.raised, commitOn begun.saving⟩

/-- In LISTEN and RUN the fall begins the sequence. -/
theorem pfwNFall_alive {s : State} (alive : s.alive = true) (high : s.pins.pfwLow = false) : pfwNFall s = s.powerFail false := by
  have up : 2 ≤ s.getF F.PWR_STATUS_STATE := of_decide_eq_true (Bool.and_eq_true_iff.1 alive).2
  unfold pfwNFall
  rw [high, if_neg (by rw [Bool.false_or, decide_eq_true_eq]; omega)]

/-- The ring takes the entries and keeps its newest (R96). -/
theorem State.commitFirst_ring (s : State) (n : Nat) :
    (s.commitFirst n).log.ring = (s.log.ring ++ s.log.ram.take n).drop ((s.log.ring ++ s.log.ram.take n).length - 65536) := by
  unfold State.commitFirst
  dsimp only

/-- The power-fail commit's end, from the ring's new state on. -/
def State.pfwReport (s : State) (n : Nat) : State :=
  ({ s with log := { s.log with commit := none, pfwLast := true } }).fire Ev.LOG_PFW_DONE logObj n

/-- A LOG_FLUSH that waited answers. -/
def State.flushAnswer (s : State) : State :=
  match s.car.longOp with
  | some l => if l.idx = 4 then s.endLong l (fun s => .done s [] none) else s
  | none => s

theorem powerFailCommitEnd_eq {s : State} {c : Commit} (running : s.log.commit = some c) (pfw : c.pfw = true) :
    powerFailCommitEnd s = ((s.commitFirst c.covers).pfwReport c.covers).flushAnswer := by
  unfold powerFailCommitEnd
  split
  · next idle => exact absurd (idle.symm.trans running) nofun
  · next c' running' =>
    obtain rfl : c' = c := Option.some.inj (running'.symm.trans running)
    rw [if_neg (by simp [pfw])]
    extract_lets n first _ ended reported
    have start : reported = (s.commitFirst c'.covers).pfwReport c'.covers := rfl
    clear_value reported
    rw [← start]
    unfold State.flushAnswer
    rfl

theorem State.served_flushAnswer (s : State) : State.Served s.longOver s.flushAnswer ∨ s.flushAnswer = s := by
  unfold State.flushAnswer
  split
  · next l _ =>
    split
    · exact .inl (State.endLong_done (s := s) (l := l) (f := fun s => .done s [] none) rfl).1
    · exact .inr rfl
  · exact .inr rfl

/-- The report is made, and a LOG_FLUSH's answer leaves it and the ring. -/
theorem State.pfwReport_flushAnswer (s : State) (n : Nat) :
    Ev.LOG_PFW_DONE ∈ (s.pfwReport n).flushAnswer.ev.sticky ∧ (s.pfwReport n).flushAnswer.log.ring = s.log.ring := by
  have fired : Ev.LOG_PFW_DONE ∈ (s.pfwReport n).ev.sticky := State.fire_sticky _ _ _ _
  have ring : (s.pfwReport n).log.ring = s.log.ring := (State.traces_fire _ _ _ _).ring
  rcases (s.pfwReport n).served_flushAnswer with served | same
  · exact ⟨served.sticky _ fired, served.ring.trans ring⟩
  · rw [same]
    exact ⟨fired, ring⟩

/-- The warning's end: the pin's state, the level and the report of it. -/
def State.pfwHigh (s : State) (ms : Nat) : State :=
  (({ s with pins := { s.pins with pfwLow := false } }).setRaw Ev.PFW false).fire Ev.PFW_END (objId 14 0 0) (satNat 32 ms)

/-- The warning ends: the pin's state and the report. -/
theorem pfwNRise_ends {s : State} (ms : Nat) (low : s.pins.pfwLow = true) (alive : s.alive = true) :
    (pfwNRise ms s).pins.pfwLow = false ∧ Ev.PFW_END ∈ (pfwNRise ms s).ev.sticky := by
  have started : s.pwr.boot ≠ 4 := by
    have up : s.pwr.boot = 5 := beq_iff_eq.1 (Bool.and_eq_true_iff.1 alive).1
    omega
  have goes : (pfwNRise ms s) = if (s.pfwHigh ms).getF F.PWR_STATUS_STATE = 3 then (s.pfwHigh ms).ampResume else s.pfwHigh ms :=
    if_neg (by simp [low, started])
  have kept := State.WarnKept.ite (c := (s.pfwHigh ms).getF F.PWR_STATUS_STATE = 3) (s.pfwHigh ms).warnKept_ampResume (.refl _)
  rw [goes]
  refine ⟨kept.low.trans ?_, kept.sticky _ (State.fire_sticky _ _ _ _)⟩
  rw [State.pfwHigh, (State.traces_fire _ _ _ _).pins]
  rfl

/-! ## Commits (R94, R96) -/

/-- A commit starts where something is uncommitted and PFW_N is high. -/
theorem State.startCommit_starts {s : State} (waiting : s.log.ram ≠ []) (high : s.pins.pfwLow = false) :
    s.startCommit.log.commit.isSome = true := by
  unfold State.startCommit
  split
  · rfl
  · rw [if_neg (by simp [waiting, high])]
    rfl

/-- The running commit goes on with the next page. -/
def State.nextPage (s : State) (c : Commit) (covers : Nat) : State :=
  { s with log := { s.log with
    commit := some { c with covers := covers, page := pageRun (min 64 covers) s.log.ram, rewrite := false } } }

theorem State.nextPage_ring (s : State) (c : Commit) (covers : Nat) : (s.nextPage c covers).log.ring = s.log.ring := rfl

/-- A verified page is committed, and the commit goes on. -/
theorem logPageVerified_eq {s : State} {c : Commit} (running : s.log.commit = some c) (pfw : c.pfw = false) (kept : c.left = false)
    (covers : c.covers ≠ 0) : logPageVerified true s = (s.commitFirst c.page).nextPage c (c.covers - c.page) := by
  unfold logPageVerified
  split
  · next idle => exact absurd (idle.symm.trans running) nofun
  · next c' running' =>
    obtain rfl : c' = c := Option.some.inj (running'.symm.trans running)
    rw [if_neg (by simp [pfw, kept, covers]), if_pos rfl]
    rfl

/-- The end of the commit that a LOG_FLUSH waits for lets it go on. -/
theorem logCommitEnd_flush {s : State} {c : Commit} {l : LongOp} (running : s.log.commit = some c) (pfw : c.pfw = false)
    (written : c.covers = 0) (long : s.car.longOp = some l) (flush : l.idx = 4) (own : l.arg = 1) :
    (logCommitEnd s).car.longOp = some { l with arg := 2, failed := c.left } := by
  unfold logCommitEnd
  rw [running]
  show (if _ then s else _).car.longOp = _
  rw [if_neg (by simp [pfw, written])]
  extract_lets _ ended _ woken
  have held : woken.car.longOp = some { l with arg := 2, failed := c.left } := by
    show (match s.car.longOp with | some l => _ | none => ended).car.longOp = _
    rw [long]
    dsimp only
    rw [if_neg (by simp [flush]), if_neg (by omega), if_pos own]
    unfold State.storeWrite
    dsimp only
    rw [if_pos (by simp [flush])]
    simp [flush]
  clear_value woken
  split
  · rw [(State.traces_startCommit woken).car]
    exact held
  · split
    · exact held
    · exact held

/-! ## The scrubber (R71, R72) -/

/-- A report marks and counts the unit, and fires CFG_PARITY (R72). -/
theorem State.parityReport_counts (s : State) (sub u addr old : Nat) :
    (s.parityReport sub u addr old).bad = s.bad ∧ ((s.parityReport sub u addr old).unit (unitKey sub u)).parity = true ∧
      ((s.parityReport sub u addr old).unit (unitKey sub u)).parCnt = satNat 16 ((s.unit (unitKey sub u)).parCnt + 1) ∧
      Ev.CFG_PARITY ∈ (s.parityReport sub u addr old).ev.sticky := by
  unfold State.parityReport
  extract_lets fired recorded x marked
  have firedBad : recorded.bad = s.bad ∧ recorded.units = s.units ∧ Ev.CFG_PARITY ∈ recorded.ev.sticky := by
    have traces : State.Traces s fired := s.traces_fire Ev.CFG_PARITY (objId sub u 0) addr
    have sticky : Ev.CFG_PARITY ∈ fired.ev.sticky := State.fire_sticky _ _ _ _
    clear_value fired
    unfold recorded
    split
    · exact ⟨traces.bad, traces.units, sticky⟩
    · exact ⟨traces.bad, traces.units, sticky⟩
  clear_value recorded
  obtain ⟨bad, units, sticky⟩ := firedBad
  have logged := marked.traces_logE orgIntegrity 0 kSTATE true addr old 0
  have block : (marked.logE orgIntegrity 0 kSTATE true addr old 0).unit (unitKey sub u) =
      { x with parity := true, parCnt := satNat 16 (x.parCnt + 1) } := by
    rw [State.unit, logged.units]
    exact recorded.unit_setUnit_self _ _
  have same : x = s.unit (unitKey sub u) := by rw [State.unit, ← units]; rfl
  exact ⟨logged.bad.trans bad, by rw [block], by rw [block, same], logged.sticky _ sticky⟩

/-- A unit enters its safe state. -/
def State.enterSafe (s : State) (sub u first : Nat) : State :=
  ((s.setUnit (unitKey sub u) { s.unit (unitKey sub u) with inSafe := true, firstOff := first }).proofUnitSafe sub u).longHit sub u

theorem State.stays_proofUnitSafe (s : State) (sub u : Nat) : s.Stays (s.proofUnitSafe sub u) [.proof] [⟨13, 2, 2⟩] := by
  refine .ite ?_ (.refl s _ _)
  unfold State.proofDevice
  split
  · exact .refl s _ _
  · exact (s.stays_proofStop _ _ _).logState _ _ _ _

theorem State.stays_longHit (s : State) (sub u : Nat) : s.Stays (s.longHit sub u) [.carriers] [] := by
  have same := State.Stays.refl s [.carriers] []
  unfold State.longHit
  split
  · exact .ite (same.setCar _ (by decide)) same
  · exact same

/-- Entering the safe state leaves the parity counters. -/
theorem State.enterSafe_parity (s : State) (sub u first : Nat) :
    (s.enterSafe sub u first).bad = s.bad ∧ ((s.enterSafe sub u first).unit (unitKey sub u)).parity = (s.unit (unitKey sub u)).parity ∧
      ((s.enterSafe sub u first).unit (unitKey sub u)).parCnt = (s.unit (unitKey sub u)).parCnt ∧
      ∀ n ∈ s.ev.sticky, n ∈ (s.enterSafe sub u first).ev.sticky := by
  unfold State.enterSafe
  set marked := s.setUnit (unitKey sub u) { s.unit (unitKey sub u) with inSafe := true, firstOff := first } with markedDef
  have block : marked.unit (unitKey sub u) = { s.unit (unitKey sub u) with inSafe := true, firstOff := first } :=
    s.unit_setUnit_self _ _
  have proved := (marked.stays_proofUnitSafe sub u).mono (ps' := [.proof, .carriers]) (by decide) (List.Subset.refl _)
  have hit := proved.trans (((marked.proofUnitSafe sub u).stays_longHit sub u).mono (by decide) (by decide))
  obtain ⟨⟨⟨-, same⟩, -⟩, -, sticky⟩ := hit
  have units : ((marked.proofUnitSafe sub u).longHit sub u).units = marked.units := same .common (by decide)
  have bad : ((marked.proofUnitSafe sub u).longHit sub u).bad = marked.bad := same .parity (by decide)
  have kept : ((marked.proofUnitSafe sub u).longHit sub u).unit (unitKey sub u) =
      { s.unit (unitKey sub u) with inSafe := true, firstOff := first } := by
    rw [State.unit, units]
    exact block
  exact ⟨bad, by rw [kept], by rw [kept], sticky⟩

/-- An event unit's safe state leaves its parity counters: no output stops with it. -/
theorem State.unitSafe_event (s : State) (u addr : Nat) :
    (s.unitSafe 12 u addr).bad = s.bad ∧ ((s.unitSafe 12 u addr).unit (unitKey 12 u)).parity = (s.unit (unitKey 12 u)).parity ∧
      ((s.unitSafe 12 u addr).unit (unitKey 12 u)).parCnt = (s.unit (unitKey 12 u)).parCnt ∧
      ∀ n ∈ s.ev.sticky, n ∈ (s.unitSafe 12 u addr).ev.sticky := by
  have entered := s.enterSafe_parity 12 u (addr % 2 ^ 15 / 4)
  have body : s.unitSafe 12 u addr = if s.inSafe 12 u = true then s else s.enterSafe 12 u (addr % 2 ^ 15 / 4) := rfl
  rw [body]
  split
  · exact ⟨rfl, rfl, rfl, fun _ => id⟩
  · exact entered

/-- A mismatch of an event register is held, reported and counted. -/
theorem State.parityHit_event {s : State} {addr u off v : Nat} {r : RegDesc} (target : regTarget addr = some (.reg 12 u off r))
    (sound : KV.find s.bad addr = none) (differs : s.regData addr % 65536 ≠ v % 65536) :
    KV.find (s.parityHit (.reg addr v)).bad addr = some (v % 65536) ∧
      ((s.parityHit (.reg addr v)).unit (unitKey 12 u)).parity = true ∧
      ((s.parityHit (.reg addr v)).unit (unitKey 12 u)).parCnt = satNat 16 ((s.unit (unitKey 12 u)).parCnt + 1) ∧
      Ev.CFG_PARITY ∈ (s.parityHit (.reg addr v)).ev.sticky := by
  have met : s.parityHit (.reg addr v) = (({ s with bad := KV.set s.bad addr (v % 65536) }).parityReport 12 u (unitBase 12 u + off)
      (v % 65536)).unitSafe 12 u addr := by
    unfold State.parityHit
    dsimp only
    rw [target]
    dsimp only
    rw [if_neg (by simp [sound, differs])]
  obtain ⟨bad, parity, counted, fired⟩ := State.parityReport_counts { s with bad := KV.set s.bad addr (v % 65536) } 12 u
    (unitBase 12 u + off) (v % 65536)
  rw [met]
  generalize State.parityReport _ 12 u (unitBase 12 u + off) (v % 65536) = reported at bad parity counted fired ⊢
  obtain ⟨sameBad, sameParity, sameCount, sticky⟩ := reported.unitSafe_event u addr
  exact ⟨by rw [sameBad, bad]; exact KV.find_set_self _ _ _, sameParity.trans parity, sameCount.trans counted, sticky _ fired⟩

/-- Settles O30: each step of a commit, of the power-fail sequence and of the scrubber, kept through what settles after it. -/
theorem logCommitsAndPowerFail : Obligations.LogCommitsAndPowerFail := by
  refine ⟨?_, ?_, ?_, ?_, ?_, ?_, ?_⟩
  · intro s alive waiting _ high
    obtain ⟨t, e, settled⟩ := happen_whenAlive logCommitTimer alive
    have body : logCommitTimer s.fresh = s.fresh.startCommit := if_neg (by rw [show s.fresh.log.ram = s.log.ram from rfl]; simpa using waiting)
    rw [body] at settled
    exact ⟨t, e, settled.commitOn (State.startCommit_starts waiting high)⟩
  · intro s c alive running pfw kept covers
    obtain ⟨t, e, settled⟩ := happen_whenAlive (logPageVerified true) alive
    rw [logPageVerified_eq (s := s.fresh) running pfw kept covers] at settled
    have ring : t.log.ring = (s.fresh.commitFirst c.page).log.ring := settled.ring.trans (State.nextPage_ring _ _ _)
    rw [State.commitFirst_ring] at ring
    exact ⟨t, e, ring⟩
  · intro s c l alive running pfw written long flush own
    obtain ⟨t, e, settled⟩ := happen_whenAlive logCommitEnd alive
    have goes := logCommitEnd_flush (s := s.fresh) running pfw written long flush own
    exact ⟨t, e, by rw [settled.car]; exact goes⟩
  · intro s alive high quiet
    obtain ⟨t, e, settled⟩ := happen_whenAlive pfwNFall alive
    have body : pfwNFall s.fresh = s.fresh.powerFail false := pfwNFall_alive (s := s.fresh) alive high
    obtain ⟨low, sticky, raw, commit⟩ := State.powerFail_warns (s := s.fresh) false quiet
    rw [body] at settled
    exact ⟨t, e, settled.pfwLow.trans low, settled.sticky _ sticky, by rw [settled.raw]; exact raw, settled.commitOn commit⟩
  · intro s c alive running pfw
    obtain ⟨t, e, settled⟩ := happen_settled (fun s => if s.alive || s.pwr.boot = 4 then powerFailCommitEnd s else s) s
    have body : (if s.fresh.alive || s.fresh.pwr.boot = 4 then powerFailCommitEnd s.fresh else s.fresh) = powerFailCommitEnd s.fresh :=
      if_pos (by rw [show s.fresh.alive = true from alive, Bool.true_or])
    replace settled : State.Settled (powerFailCommitEnd s.fresh) t := body ▸ settled
    rw [powerFailCommitEnd_eq (s := s.fresh) running pfw] at settled
    obtain ⟨fired, ring⟩ := State.pfwReport_flushAnswer (s.fresh.commitFirst c.covers) c.covers
    replace ring := settled.ring.trans ring
    rw [State.commitFirst_ring] at ring
    exact ⟨t, e, settled.sticky _ fired, ring⟩
  · intro s ms alive low
    obtain ⟨t, e, settled⟩ := happen_settled (pfwNRise ms) s
    obtain ⟨high, fired⟩ := pfwNRise_ends (s := s.fresh) ms low alive
    exact ⟨t, e, settled.pfwLow.trans high, settled.sticky _ fired⟩
  · intro s addr u off v r alive target sound differs
    obtain ⟨t, e, settled⟩ := happen_whenAlive (parityScrub [.reg addr v]) alive
    obtain ⟨held, parity, counted, fired⟩ := State.parityHit_event (s := s.fresh) target sound differs
    refine ⟨t, e, by rw [settled.bad]; exact held, ?_, ?_, settled.sticky _ fired⟩
    · rw [State.unit, settled.units]
      exact parity
    · rw [State.unit, settled.units]
      exact counted

end Sys2Proof.Machine
end


section
/-!
A write of one word on its way through the register interface (R59 to R61): what it stores, what follows it, and what a request to
swap becomes.
-/

namespace Sys2Proof.Machine

section
variable {s : State} {a : Access} {addr sub u off : Nat} {r : RegDesc}

/-! ## Addresses and stored words -/

/-- A register's address is its unit's base and its offset (R9, R12). -/
theorem regTarget_reg (target : regTarget addr = some (.reg sub u off r)) :
    addrUnit addr = (sub, u, off) ∧ addr = unitBase sub u + off ∧ ∃ i, findRow (unitRows sub u) off = some (r, i) := by
  have small := regTarget_lt target
  unfold regTarget at target
  split at target
  · cases target
  dsimp only at target
  iterate 6
    split at target
    · cases target
  obtain ⟨⟨row, i⟩, found, same⟩ := Option.map_eq_some_iff.1 target
  injection same with sub_eq u_eq off_eq row_eq
  subst sub_eq u_eq off_eq row_eq
  refine ⟨rfl, ?_, i, found⟩
  have blocks : addr / 2 ^ 22 = addr / 2 ^ 15 / 128 ∧ addr / 2 ^ 16 = addr / 2 ^ 15 / 2 :=
    ⟨(Nat.div_div_eq_div_mul addr (2 ^ 15) 128).symm, (Nat.div_div_eq_div_mul addr (2 ^ 15) 2).symm⟩
  have whole := Nat.div_add_mod addr (2 ^ 15)
  have below : addr / 2 ^ 15 < 2048 := by omega
  unfold addrUnit unitBase
  dsimp only
  rw [blocks.1, blocks.2]
  generalize addr / 2 ^ 15 = block at whole below ⊢
  generalize addr % 2 ^ 15 = off at whole ⊢
  have unit : (block / 2 % 64 + 64 * (block % 2)) % 64 = block / 2 % 64 := by omega
  rw [unit]
  split <;> omega

/-- Bits of a register that no field of its row stores into are left. -/
theorem State.getF_storeWord_other {w : Nat} {g : Fld} (other : ∀ f ∈ r.fields, f.acc.config = true → g.key ≠ fieldKey addr f.lo) :
    (s.storeWord r addr w).getF g = s.getF g := by
  refine List.foldlRecOn (motive := fun t : State => t.getF g = s.getF g) r.fields _ rfl fun t kept f mem => ?_
  split
  · next config => exact (State.getF_setF_ne _ _ (other f mem config)).trans kept
  · exact kept

/-- A stored field holds its bits of the word. -/
theorem State.getF_storeFields {w : Nat} {f : FieldDesc} (config : f.acc.config = true) (l : List FieldDesc)
    (apart : l.Pairwise (fun f g => f.lo ≠ g.lo)) (mem : f ∈ l) (s : State) :
    (l.foldl (fun s f => if f.acc.config then s.setF ⟨addr, f.lo, f.width⟩ (bitsOf w (f.lo + f.width - 1) f.lo) else s) s).getF
      ⟨addr, f.lo, f.width⟩ = bitsOf w (f.lo + f.width - 1) f.lo % 2 ^ f.width := by
  induction l generalizing s with
  | nil => cases mem
  | cons g l ih =>
    obtain ⟨first, rest⟩ := List.pairwise_cons.1 apart
    rw [List.foldl_cons]
    rcases List.mem_cons.1 mem with rfl | later
    · rw [if_pos config]
      refine (State.getF_storeWord_other (r := { off := 0, stride := 0, count := 0, mwIdx := 0, mwLen := 0, priv := false, fields := l })
        fun g hg _ => ?_).trans (State.getF_setF_self _ _ _)
      exact Fld.key_ne_of_lo (f := ⟨addr, g.lo, g.width⟩) (first g hg) rfl
    · exact ih rest later _

/-- The lowest bit of a register is that of the field that stands there. -/
theorem State.regData_mod_two {f : FieldDesc} {l : List FieldDesc} (row : findReg addr = some r) (fields : r.fields = f :: l)
    (low : f.lo = 0) (rest : ∀ g ∈ l, 1 ≤ g.lo) : s.regData addr % 2 = s.getF ⟨addr, 0, f.width⟩ % 2 := by
  unfold State.regData
  rw [row]
  dsimp only
  rw [fields, List.foldl_cons, low, Nat.zero_add, Nat.pow_zero, Nat.mul_one]
  refine List.foldlRecOn (motive := fun n => n % 2 = s.getF ⟨addr, 0, f.width⟩ % 2) l _ rfl fun n kept g mem => ?_
  obtain ⟨k, hk⟩ := Nat.exists_eq_add_of_le (rest g mem)
  rw [hk, Nat.pow_add, Nat.pow_one, ← Nat.mul_assoc, Nat.mul_right_comm, Nat.add_mul_mod_self_right]
  exact kept

/-! ## The stages of a write -/

/-- What a write of one word stores: its configuration, and what its W1C bits clear. -/
def State.wordStored (s : State) (sub u off : Nat) (r : RegDesc) (store clear : Nat) : State :=
  let t := if holdsNothing sub u off then s else s.storeWord r (unitBase sub u + off) store
  ({ t with bad := KV.erase t.bad (unitBase sub u + off) }).clearW1c sub u off r clear

/-- What follows the stored word: the chapter's own effect, and a rise or fall of EN. -/
def State.wordFollowed (s : State) (sub u off cur now : Nat) : State :=
  let t := if isEnReg sub u off then s.afterWrite sub u off (cur - cur % 2) (now - now % 2) else s.afterWrite sub u off cur now
  if isEnReg sub u off && bitOf cur 0 != bitOf now 0 then
    (if !bitOf now 0 then t.enFall sub u off else if t.inSafe sub u then t.enSafe sub u off else t.enRise sub u off)
  else t

/-- A register without a SWAP bit: its word is stored, logged and followed. -/
theorem State.applyWord_plain {merged mask : Nat} (swap : swapBit sub u off = none) :
    ∃ quiet config new now clear, s.applyWord a sub u off r merged mask =
      (((s.wordStored sub u off r merged clear).logChange a.origin quiet config (unitBase sub u + off)
        (s.regWord sub u off % 65536) new).wordFollowed sub u off (s.regWord sub u off % 65536) now).writeAction s a sub u off
        (Nat.land merged mask) := by
  unfold State.applyWord
  simp only [swap, Option.any_none, Bool.false_and, Bool.false_eq_true, if_false]
  refine ⟨_, _, _, _, _, rfl⟩

/-- A new SWAP request: the word is stored without the bit, logged and followed, and the swap is requested. -/
theorem State.applyWord_swap {merged mask b : Nat} (swap : swapBit sub u off = some b) (idle : bitOf (s.regWord sub u off % 65536) b = false)
    (asked : bitOf (Nat.land mask merged) b = true) (set : bitOf merged b = true) :
    ∃ quiet config new clear, s.applyWord a sub u off r merged mask =
      ((((s.wordStored sub u off r (merged - 2 ^ b) clear).logChange a.origin quiet config (unitBase sub u + off)
        (s.regWord sub u off % 65536) new).wordFollowed sub u off (s.regWord sub u off % 65536)
          ((s.wordStored sub u off r (merged - 2 ^ b) clear).regWord sub u off % 65536)).requestSwap s a.origin sub u).writeAction s a sub u
        off (Nat.land merged mask) := by
  unfold State.applyWord
  simp only [swap, Option.any_some, idle, asked, set, Bool.not_false, Bool.and_true, Bool.false_eq_true, if_false, if_true]
  refine ⟨_, _, _, _, rfl⟩

/-! ## Without W1C bits and without a partner -/

/-- Only W1C bits and the wrapping fault records are cleared. -/
theorem State.clearW1c_none {bits : Nat} (none_ : ∀ f ∈ r.fields, (f.acc == .w1c) = false) (sticky : (sub = 12 && off = 8) = false)
    (record : ((sub = 4 && (off = 0x10 || off = 0x2C)) || (sub = 5 && u = 64 && off = 0x118)) = false) :
    s.clearW1c sub u off r bits = s := by
  unfold State.clearW1c
  dsimp only
  rw [sticky, record, Bool.and_false, if_neg Bool.false_ne_true, if_neg Bool.false_ne_true]
  refine List.foldlRecOn (motive := fun t : State => t = s) r.fields _ rfl fun t kept f mem => ?_
  rw [none_ f mem, kept]
  rfl

/-- An accepted write is legal in every field (step 6 of Table 3.3). -/
theorem State.judgeWrite_legal {w : Nat} (target : regTarget addr = some (.reg sub u off r)) (masked : w / 65536 % 65536 ≠ 0)
    (single : r.mwLen ≤ 1) (accepted : (s.judgeWrite a addr w).isRight = true) :
    s.writeLegal sub u off r (w / 65536 % 65536) (s.regWord sub u off % 65536)
      (merge16 (s.regWord sub u off % 65536) (w / 65536 % 65536) (w % 65536)) = true := by
  have word : ¬ (r.mwLen > 1 ∧ accMask r Acc.config ≠ 0) := fun h => by omega
  obtain ⟨op, judged⟩ := Sum.isRight_iff.1 accepted
  unfold State.judgeWrite at judged
  rw [target] at judged
  dsimp only at judged
  rw [if_neg masked] at judged
  iterate 3
    split at judged
    · cases judged
  split at judged
  · split at judged <;> cases judged
  rw [if_neg (by simpa using word)] at judged
  iterate 2
    split at judged
    · cases judged
  split at judged
  · assumption
  · cases judged

/-- A unit that is not active applies its word at once. -/
theorem State.applyOp_alone {w merged mask i : Nat} (alone : s.pairSt ≠ psACTIVE) (row : findRow (unitRows sub u) off = some (r, i)) :
    s.applyOp a addr w (.words sub u off [(off, merged, mask)]) = s.applyWord a sub u off r merged mask := by
  unfold State.applyOp
  dsimp only
  rw [if_neg (by simp [alone])]
  unfold State.applyWords
  dsimp only
  rw [row]

/-- An accepted write of a register of one word that no partner shares. -/
theorem hostWrite_word {via : Via} {mask data : Nat} (target : regTarget addr = some (.reg sub u off r)) (named : 0 < mask)
    (masked : mask < 65536) (sized : data < 65536) (single : r.mwLen ≤ 1)
    (accepted : (s.judgeWrite via.access addr (maskData mask data)).isRight = true)
    (own : s.mirrored sub u off = false ∨ s.pairSt ≠ psACTIVE) :
    hostWrite via addr (maskData mask data) s = (s.applyWord via.access sub u off r (merge16 (s.regWord sub u off % 65536) mask data)
      mask).writeAnswer via none := by
  obtain ⟨isMask, isData⟩ := maskData_parts masked sized
  obtain ⟨-, -, i, row⟩ := regTarget_reg target
  have judged := State.judgeWrite_word target (w := maskData mask data) (by rw [maskData, isMask]; omega) single accepted
  rw [show maskData mask data / 65536 % 65536 = mask from isMask, show maskData mask data % 65536 = data from isData] at judged
  unfold hostWrite State.writeReg
  rw [judged]
  dsimp only
  rcases own with own | alone
  · rw [State.applyOp_word own row]
  · rw [State.applyOp_alone alone row]

/-! ## The bit of a request -/

/-- The written bit of a request stands in the merged word; its other bits are as before. -/
theorem merge16_request {cur b : Nat} (hc : cur < 65536) (hb : b < 16) :
    bitOf (merge16 cur (2 ^ b) (2 ^ b)) b = true ∧ bitOf (Nat.land (2 ^ b) (merge16 cur (2 ^ b) (2 ^ b))) b = true ∧
      (0 < b → (merge16 cur (2 ^ b) (2 ^ b) - 2 ^ b) % 2 = cur % 2) := by
  have set : (merge16 cur (2 ^ b) (2 ^ b)).testBit b = true := by rw [testBit_merge16 hc]; simp
  refine ⟨set, ?_, fun pos => ?_⟩
  · show (2 ^ b &&& merge16 cur (2 ^ b) (2 ^ b)).testBit b = true
    rw [Nat.testBit_and, set]
    simp
  · have low : (merge16 cur (2 ^ b) (2 ^ b)).testBit 0 = cur.testBit 0 := by
      rw [testBit_merge16 hc, if_neg (by simp; omega)]
    have big : 2 ^ b ≤ merge16 cur (2 ^ b) (2 ^ b) := Nat.ge_two_pow_of_testBit set
    have even : 2 ^ b % 2 = 0 := by
      obtain ⟨k, rfl⟩ := Nat.exists_eq_add_of_le' pos
      rw [Nat.pow_succ]
      omega
    rw [Nat.testBit_zero, Nat.testBit_zero, decide_eq_decide] at low
    omega

end

end Sys2Proof.Machine
end


section
/-!
SWAP bits and producer indices written through registers (R68, R221, R223, R322, R352, R366).
-/

namespace Sys2Proof.Machine

section
variable {s : State} {a : Access} {sub u off : Nat} {r : RegDesc} {f : Fld}

/-! ## A stored word that nothing follows -/

/-- A stored word keeps its fields, and its parity is sound again (R71). -/
theorem State.wordStored_eq {store clear : Nat} (holds : holdsNothing sub u off = false)
    (cleared : ∀ (t : State) (bits : Nat), t.clearW1c sub u off r bits = t) :
    s.wordStored sub u off r store clear =
      { s.storeWord r (unitBase sub u + off) store with bad := KV.erase s.bad (unitBase sub u + off) } := by
  have sameBad : (s.storeWord r (unitBase sub u + off) store).bad = s.bad := by
    refine List.foldlRecOn (motive := fun t : State => t.bad = s.bad) r.fields _ rfl fun t kept f _ => ?_
    split
    · exact kept
    · exact kept
  unfold State.wordStored
  rw [cleared, holds, if_neg Bool.false_ne_true]
  show ({ s.storeWord r (unitBase sub u + off) store with bad := _ } : State) = _
  rw [sameBad]

/-- A register that a host writes for its data only: without SWAP and EN, W1C bits, actions or effects of its own. -/
structure DataReg (sub u off : Nat) (r : RegDesc) : Prop where
  swap : swapBit sub u off = none
  holds : holdsNothing sub u off = false
  enable : isEnReg sub u off = false
  cleared : ∀ (t : State) (bits : Nat), t.clearW1c sub u off r bits = t
  quiet : ∀ (t : State) (old new : Nat), t.afterWrite sub u off old new = t
  action : ∀ (t before : State) (a : Access) (set : Nat), t.writeAction before a sub u off set = t

/-- Its fields read as they were stored. -/
theorem State.getF_applyWord_data {merged mask : Nat} (data : DataReg sub u off r) (kept : f.key ≠ F.NVS_BANKS_MODIFIED.key) :
    (s.applyWord a sub u off r merged mask).getF f = (s.storeWord r (unitBase sub u + off) merged).getF f := by
  obtain ⟨quiet, config, new, now, clear, stages⟩ := State.applyWord_plain (s := s) (a := a) (r := r) (merged := merged) (mask := mask) data.swap
  rw [stages, data.action, State.wordFollowed, data.enable]
  rw [Bool.false_and, if_neg Bool.false_ne_true, if_neg Bool.false_ne_true, data.quiet, State.getF_logChange _ _ _ _ _ _ _ kept,
    State.wordStored_eq data.holds data.cleared]
  rfl

/-- A register of one field at its low end: an index that the host moves. -/
def indexRow (off stride count width : Nat) : RegDesc := ⟨off, stride, count, 0, 1, false, [⟨0, width, .l, 0⟩]⟩

/-- An accepted write of an index stores it. -/
theorem hostWrite_index {via : Via} {v first stride count width : Nat} (field : f.lo = 0 ∧ f.width = width)
    (target : regTarget f.addr = some (.reg sub u off (indexRow first stride count width)))
    (data : DataReg sub u off (indexRow first stride count width)) (own : s.mirrored sub u off = false)
    (kept : f.key ≠ F.NVS_BANKS_MODIFIED.key) (fits : v < 2 ^ width) (narrow : width ≤ 16) (wide : 0 < width)
    (accepted : (s.judgeWrite via.access f.addr (maskData 0xFFFF v)).isRight = true) :
    (hostWrite via f.addr (maskData 0xFFFF v) s).getF f = v := by
  have sized : v < 65536 := lt_of_lt_of_le fits (Nat.pow_le_pow_right (by decide) narrow)
  obtain ⟨-, place, -⟩ := regTarget_reg target
  obtain ⟨addr, lo, w⟩ := f
  obtain ⟨low, full⟩ := field
  dsimp only at low full
  subst low full
  rw [hostWrite_word target (by decide) (by decide) sized (by exact Nat.le_refl 1) accepted (.inl own),
    ((State.traces_writeAnswer _ via none).getF _), State.getF_applyWord_data data kept, merge16_full _ sized]
  rw [show unitBase sub u + off = addr from place.symm]
  refine (State.getF_storeFields (f := ⟨0, w, .l, 0⟩) rfl _ (List.pairwise_singleton _ _) (List.mem_singleton_self _) s).trans ?_
  have word : bitsOf v (0 + w - 1) 0 = v := by
    unfold bitsOf
    rw [Nat.pow_zero, Nat.div_one, show 0 + w - 1 - 0 + 1 = w by omega, Nat.mod_eq_of_lt fits]
  rw [word]
  exact Nat.mod_eq_of_lt fits

theorem dataReg_ring {i : Nat} (hi : i < 32) : DataReg 13 0 (0x21C + 64 * i) (indexRow 0x21C 64 32 16) where
  swap := by simp [swapBit]
  holds := by simp [holdsNothing]
  enable := by
    revert i
    decide
  cleared := fun _ _ => State.clearW1c_none (by simp [indexRow]) (by simp) (by simp)
  quiet := fun t old new => by simp [State.afterWrite]
  action := fun _ _ _ _ => rfl

theorem dataReg_port {p off : Nat} (hp : p < 4) (ho : off = 0x34 ∨ off = 0x54) : DataReg 3 p off (indexRow off 4 1 12) where
  swap := by rcases ho with rfl | rfl <;> simp [swapBit]
  holds := by simp [holdsNothing]
  enable := by
    revert p
    rcases ho with rfl | rfl <;> decide
  cleared := fun _ _ => State.clearW1c_none (by simp [indexRow]) (by simp) (by simp)
  quiet := fun t old new => by rcases ho with rfl | rfl <;> simp [State.afterWrite]
  action := fun _ _ _ _ => rfl

theorem regTarget_ringProd : ∀ i < 32, regTarget (F.RING_PROD i).addr = some (.reg 13 0 (0x21C + 64 * i) (indexRow 0x21C 64 32 16)) := by
  decide

theorem regTarget_portProd : ∀ p < 4, regTarget (F.MAC_TXR_PROD p).addr = some (.reg 3 p 0x34 (indexRow 0x34 4 1 12)) ∧
    regTarget (F.MAC_RXR_PROD p).addr = some (.reg 3 p 0x54 (indexRow 0x54 4 1 12)) := by decide

/-! ## A request to swap -/

/-- A register with EN at its low end and a SWAP bit above it. -/
structure SwapReg (sub u off b : Nat) (r : RegDesc) (l : List FieldDesc) : Prop where
  swap : swapBit sub u off = some b
  place : 0 < b ∧ b < 16
  holds : holdsNothing sub u off = false
  enable : isEnReg sub u off = true
  fields : r.fields = ⟨0, 1, .rw, 0⟩ :: l
  apart : r.fields.Pairwise fun f g => f.lo ≠ g.lo
  above : ∀ g ∈ l, 1 ≤ g.lo
  row : findReg (unitBase sub u + off) = some r
  derived : ∀ t : State, t.derived sub u off = 0
  cleared : ∀ (t : State) (bits : Nat), t.clearW1c sub u off r bits = t
  action : ∀ (t before : State) (a : Access) (set : Nat), t.writeAction before a sub u off set = t

section
variable {b : Nat} {l : List FieldDesc}

/-- Its lowest bit is EN. -/
theorem SwapReg.regWord_mod_two (reg : SwapReg sub u off b r l) (sound : KV.find s.bad (unitBase sub u + off) = none) :
    s.regWord sub u off % 65536 % 2 = s.getF (enFld (unitBase sub u + off)) % 2 := by
  have word : s.regWord sub u off = s.regData (unitBase sub u + off) := by
    unfold State.regWord
    dsimp only
    rw [sound, reg.derived, Nat.add_zero]
  have low : ∀ n : Nat, n % 65536 % 2 = n % 2 := fun n => by omega
  rw [word, low]
  exact State.regData_mod_two reg.row reg.fields rfl reg.above

/-- The request's word is stored without its SWAP bit: EN and what the host cannot write stay. -/
def State.requestStored (s : State) (sub u off b : Nat) (r : RegDesc) : State :=
  { s.storeWord r (unitBase sub u + off) (merge16 (s.regWord sub u off % 65536) (2 ^ b) (2 ^ b) - 2 ^ b) with
    bad := KV.erase s.bad (unitBase sub u + off) }

theorem SwapReg.getF_requestStored (reg : SwapReg sub u off b r l) (sound : KV.find s.bad (unitBase sub u + off) = none)
    (bit : s.getF (enFld (unitBase sub u + off)) < 2) :
    (s.requestStored sub u off b r).getF (enFld (unitBase sub u + off)) = s.getF (enFld (unitBase sub u + off)) := by
  obtain ⟨-, -, others⟩ := merge16_request (cur := s.regWord sub u off % 65536) (Nat.mod_lt _ (by decide)) reg.place.2
  have first : (⟨0, 1, .rw, 0⟩ : FieldDesc) ∈ r.fields := by rw [reg.fields]; exact List.mem_cons_self
  refine (State.getF_storeFields (f := ⟨0, 1, .rw, 0⟩) rfl r.fields reg.apart first s).trans ?_
  show _ / 2 ^ 0 % 2 ^ 1 % 2 ^ 1 = _
  rw [Nat.pow_zero, Nat.div_one, Nat.pow_one, Nat.mod_mod, others reg.place.1, reg.regWord_mod_two sound, Nat.mod_eq_of_lt bit]

/-- A new request is stored and logged, and passed on: EN neither rises nor falls. -/
theorem SwapReg.applyWord_request (reg : SwapReg sub u off b r l) (sound : KV.find s.bad (unitBase sub u + off) = none)
    (idle : bitOf (s.regWord sub u off) b = false) (bit : s.getF (enFld (unitBase sub u + off)) < 2) :
    ∃ quiet config new old now, s.applyWord a sub u off r (merge16 (s.regWord sub u off % 65536) (2 ^ b) (2 ^ b)) (2 ^ b) =
      (((s.requestStored sub u off b r).logChange a.origin quiet config (unitBase sub u + off) (s.regWord sub u off % 65536)
        new).afterWrite sub u off old now).requestSwap s a.origin sub u := by
  have small : s.regWord sub u off % 65536 < 65536 := Nat.mod_lt _ (by decide)
  obtain ⟨set, asked, -⟩ := merge16_request small reg.place.2
  have clear16 : bitOf (s.regWord sub u off % 65536) b = false := by
    show (s.regWord sub u off % 2 ^ 16).testBit b = false
    rw [Nat.testBit_mod_two_pow]
    simp [show (s.regWord sub u off).testBit b = false from idle]
  obtain ⟨quiet, config, new, clear, stages⟩ := State.applyWord_swap (a := a) (r := r) reg.swap clear16 asked set
  have stored : s.wordStored sub u off r (merge16 (s.regWord sub u off % 65536) (2 ^ b) (2 ^ b) - 2 ^ b) clear =
    s.requestStored sub u off b r := State.wordStored_eq reg.holds reg.cleared
  have sound' : KV.find (s.requestStored sub u off b r).bad (unitBase sub u + off) = none := KV.find_erase_self _ _
  have same : bitOf (s.regWord sub u off % 65536) 0 = bitOf ((s.requestStored sub u off b r).regWord sub u off % 65536) 0 := by
    show Nat.testBit _ 0 = Nat.testBit _ 0
    rw [Nat.testBit_zero, Nat.testBit_zero, reg.regWord_mod_two sound, reg.regWord_mod_two sound', reg.getF_requestStored sound bit]
  rw [stored, reg.action] at stages
  rw [State.wordFollowed, reg.enable, same, bne_self_eq_false, Bool.and_false, if_neg Bool.false_ne_true, if_pos rfl] at stages
  exact ⟨quiet, config, new, _, _, stages⟩

/-- A field that the host cannot write outlasts the request's word. -/
theorem State.getF_requestStored_other {f : Fld} (other : ∀ g ∈ r.fields, g.acc.config = true → f.key ≠ fieldKey (unitBase sub u + off) g.lo) :
    (s.requestStored sub u off b r).getF f = s.getF f :=
  (State.getF_storeWord_other (w := merge16 (s.regWord sub u off % 65536) (2 ^ b) (2 ^ b) - 2 ^ b) other :)

/-- An accepted request of a unit that is not active reaches the swap. -/
theorem SwapReg.hostWrite_request (reg : SwapReg sub u off b r l) {via : Via} {addr : Nat} (target : regTarget addr = some (.reg sub u off r))
    (single : r.mwLen ≤ 1) (alone : s.pairSt ≠ psACTIVE) (sound : KV.find s.bad addr = none)
    (idle : bitOf (s.regWord sub u off) b = false) (bit : s.getF (enFld addr) < 2)
    (accepted : (s.judgeWrite via.access addr (maskData (2 ^ b) (2 ^ b))).isRight = true) :
    ∃ quiet config new old now, hostWrite via addr (maskData (2 ^ b) (2 ^ b)) s =
      ((((s.requestStored sub u off b r).logChange via.origin quiet config addr (s.regWord sub u off % 65536) new).afterWrite sub u off old
        now).requestSwap s via.origin sub u).writeAnswer via none := by
  obtain ⟨-, place, -⟩ := regTarget_reg target
  have small : 2 ^ b < 65536 := Nat.pow_lt_pow_right (a := 2) (m := b) (n := 16) (by decide) reg.place.2
  rw [place] at sound bit
  obtain ⟨quiet, config, new, old, now, applied⟩ := reg.applyWord_request (a := via.access) sound idle bit
  refine ⟨quiet, config, new, old, now, ?_⟩
  rw [hostWrite_word target (Nat.two_pow_pos b) small small single accepted (.inr alone), applied, ← place]
  rfl

end

/-! ## TDM ports (R352) -/

def tdmTail : List FieldDesc := [⟨1, 1, .rw, 0⟩, ⟨2, 2, .rw, 2⟩, ⟨4, 5, .rw, 7⟩, ⟨9, 2, .rw, 2⟩, ⟨11, 2, .rw, 0⟩, ⟨13, 1, .l, 0⟩, ⟨14, 1, .ro, 0⟩]

/-- The row of TDM.CTL (Table 15.1). -/
def tdmRow : RegDesc := ⟨0, 4, 1, 0, 1, false, ⟨0, 1, .rw, 0⟩ :: tdmTail⟩

theorem swapReg_tdm {p : Nat} (hp : p < 16) : SwapReg 6 p 0 13 tdmRow tdmTail where
  swap := by simp [swapBit, F.TDM_CTL_SWAP]
  place := by decide
  holds := by simp [holdsNothing]
  enable := by
    revert p
    decide
  fields := rfl
  apart := by decide
  above := by decide
  row := by
    revert p
    decide
  derived := fun _ => rfl
  cleared := fun _ _ => State.clearW1c_none (by decide) (by simp) (by simp)
  action := fun _ _ _ _ => rfl

theorem regTarget_tdm : ∀ p < 16, regTarget (F.TDM_CTL_SWAP p).addr = some (.reg 6 p 0 tdmRow) := by decide

/-- The fields of a port that its swap looks at are left by what follows a write of TDM.CTL. -/
theorem State.getF_afterWrite_tdm {p old new : Nat} (count : f.key ≠ (F.TDM_STATUS_RX_CH p).key ∧ f.key ≠ (F.TDM_STATUS_TX_CH p).key) :
    (s.afterWrite 6 p 0 old new).getF f = s.getF f := by
  have counted : (s.afterWrite 6 p 0 old new) = s ∨ (s.afterWrite 6 p 0 old new) = s.refreshTdmCh p := by
    by_cases same : old = new
    · exact .inl (if_pos same)
    · exact .inr (if_neg same)
  rcases counted with h | h <;> rw [h]
  exact (State.getF_setF_ne _ _ count.2).trans (State.getF_setF_ne _ _ count.1)

/-- The keys of TDM.CTL are not those that a write, a swap and settling change beside them. -/
theorem tdmCtl_keys {p lo width : Nat} (hl : lo < 32) :
    (⟨0x01800000 + p * 0x10000, lo, width⟩ : Fld).key ∉ settleKeys ∧
      (⟨0x01800000 + p * 0x10000, lo, width⟩ : Fld).key ≠ F.NVS_BANKS_MODIFIED.key ∧
      (⟨0x01800000 + p * 0x10000, lo, width⟩ : Fld).key ≠ (F.TDM_STATUS_RX_CH p).key ∧
      (⟨0x01800000 + p * 0x10000, lo, width⟩ : Fld).key ≠ (F.TDM_STATUS_TX_CH p).key ∧
      (⟨0x01800000 + p * 0x10000, lo, width⟩ : Fld).key ≠ (F.TDM_SWAP_FRAME p).key := by
  simp only [settleKeys, List.mem_cons, List.not_mem_nil, or_false, Fld.key, fieldKey, F.ROLE_CAUSES, F.ROLE_STATUS_HEALTH,
    F.ROLE_STATUS_OK_OUT, F.ROLE_STATUS_STATE, F.NVS_BANKS_MODIFIED, F.TDM_STATUS_RX_CH, F.TDM_STATUS_TX_CH, F.TDM_SWAP_FRAME]
  omega

/-- A swap at once exchanges the banks. -/
theorem State.tdmSwapNow_bank {p : Nat} (o : Origin) :
    (s.tdmSwapNow p o false).getF (F.TDM_CTL_ACT_BANK p) = 1 - s.getF (F.TDM_CTL_ACT_BANK p) := by
  obtain ⟨-, modified, rx, tx, frame⟩ := tdmCtl_keys (p := p) (lo := 14) (width := 1) (by decide)
  have swap : (F.TDM_CTL_ACT_BANK p).key ≠ (F.TDM_CTL_SWAP p).key := Fld.key_ne_of_lo (show 14 ≠ 13 by decide) rfl
  unfold State.tdmSwapNow
  dsimp only
  rw [if_neg Bool.false_ne_true]
  refine ((State.getF_setF_ne _ _ tx).trans (State.getF_setF_ne _ _ rx)).trans ?_
  rw [(State.traces_logE _ _ _ _ _ _ _ _).getF]
  refine (State.getF_setF_ne _ _ modified).trans ((State.getF_setF_ne _ _ frame).trans ((State.getF_setF_ne _ _ swap).trans ?_))
  rw [State.getF_setF_self]
  exact Nat.mod_eq_of_lt (by show 1 - _ < 2; omega)

/-- A request on a port whose EN is 1 waits for the port's next frame sync. -/
theorem State.tdmSwapReq_waits {p : Nat} (o : Origin) (enabled : s.on (F.TDM_CTL_EN p) = true) :
    (s.tdmSwapReq p o).on (F.TDM_CTL_SWAP p) = true ∧ ((s.tdmSwapReq p o).tdm p).swap = some o := by
  have waiting : ((s.setF (F.TDM_CTL_SWAP p) 1).setTdm p { s.tdm p with swap := some o, skip := s.tdmLate p }).on (F.TDM_CTL_SWAP p) = true :=
    State.on_setF_one s (F.TDM_CTL_SWAP p) rfl
  have held : (((s.setF (F.TDM_CTL_SWAP p) 1).setTdm p { s.tdm p with swap := some o, skip := s.tdmLate p }).tdm p).swap = some o := by
    unfold State.tdm State.setTdm
    dsimp only
    rw [KV.get_put_self]
  unfold State.tdmSwapReq
  rw [enabled, Bool.not_true, if_neg Bool.false_ne_true]
  dsimp only
  generalize (s.setF (F.TDM_CTL_SWAP p) 1).setTdm p { s.tdm p with swap := some o, skip := s.tdmLate p } = t at waiting held ⊢
  split
  · refine ⟨?_, ?_⟩
    · rw [State.fireTdm, State.Traces.on (State.traces_fire _ _ _ _)]
      exact waiting
    · rw [State.fireTdm, State.tdm, (State.traces_fire _ _ _ _).loc]
      exact held
  · exact ⟨waiting, held⟩

/-- An accepted SWAP of a port reaches its swap with the port's EN and active bank as they were. -/
theorem hostWrite_tdmSwap {via : Via} {p : Nat} (hp : p < 16) (alone : s.pairSt ≠ psACTIVE)
    (sound : KV.find s.bad (F.TDM_CTL_SWAP p).addr = none) (idle : bitOf (s.regWord 6 p 0) 13 = false) (bit : s.getF (F.TDM_CTL_EN p) < 2)
    (accepted : (s.judgeWrite via.access (F.TDM_CTL_SWAP p).addr (maskData 0x2000 0x2000)).isRight = true) :
    ∃ t : State, hostWrite via (F.TDM_CTL_SWAP p).addr (maskData 0x2000 0x2000) s = (t.tdmSwapReq p via.origin).writeAnswer via none ∧
      t.getF (F.TDM_CTL_EN p) = s.getF (F.TDM_CTL_EN p) ∧ t.getF (F.TDM_CTL_ACT_BANK p) = s.getF (F.TDM_CTL_ACT_BANK p) := by
  have reg := swapReg_tdm hp
  obtain ⟨-, place, -⟩ := regTarget_reg (regTarget_tdm p hp)
  obtain ⟨quiet, config, new, old, now, e⟩ := reg.hostWrite_request (via := via) (regTarget_tdm p hp) (Nat.le_refl 1) alone sound idle bit accepted
  have base : unitBase 6 p + 0 = 0x01800000 + p * 0x10000 := place.symm
  have bank : (s.requestStored 6 p 0 13 tdmRow).getF (F.TDM_CTL_ACT_BANK p) = s.getF (F.TDM_CTL_ACT_BANK p) := by
    refine State.getF_requestStored_other fun g mem config => ?_
    rw [base]
    have apart : ∀ g ∈ tdmRow.fields, g.acc.config = true → 14 ≠ g.lo := by decide
    exact fun same => apart g mem config (Nat.add_left_cancel same)
  have enabled : (s.requestStored 6 p 0 13 tdmRow).getF (F.TDM_CTL_EN p) = s.getF (F.TDM_CTL_EN p) := by
    have field : F.TDM_CTL_EN p = enFld (unitBase 6 p + 0) := by rw [base]; rfl
    rw [field] at bit ⊢
    exact reg.getF_requestStored (place ▸ sound) bit
  refine ⟨_, e, ?_, ?_⟩
  · obtain ⟨-, modified, rx, tx, -⟩ := tdmCtl_keys (p := p) (lo := 0) (width := 1) (by decide)
    exact (State.getF_afterWrite_tdm ⟨rx, tx⟩).trans ((State.getF_logChange _ _ _ _ _ _ _ modified).trans enabled)
  · obtain ⟨-, modified, rx, tx, -⟩ := tdmCtl_keys (p := p) (lo := 14) (width := 1) (by decide)
    exact (State.getF_afterWrite_tdm ⟨rx, tx⟩).trans ((State.getF_logChange _ _ _ _ _ _ _ modified).trans bank)

theorem hostWrite_tdmSwapNow {via : Via} {p : Nat} (hp : p < 16) (alone : s.pairSt ≠ psACTIVE)
    (sound : KV.find s.bad (F.TDM_CTL_SWAP p).addr = none) (idle : bitOf (s.regWord 6 p 0) 13 = false) (disabled : s.getF (F.TDM_CTL_EN p) = 0)
    (accepted : (s.judgeWrite via.access (F.TDM_CTL_SWAP p).addr (maskData 0x2000 0x2000)).isRight = true) :
    (hostWrite via (F.TDM_CTL_SWAP p).addr (maskData 0x2000 0x2000) s).getF (F.TDM_CTL_ACT_BANK p) =
      1 - s.getF (F.TDM_CTL_ACT_BANK p) := by
  obtain ⟨t, e, enable, bank⟩ := hostWrite_tdmSwap hp alone sound idle (by omega) accepted
  have now : t.tdmSwapReq p via.origin = t.tdmSwapNow p via.origin false := if_pos (by simp [State.on, enable, disabled])
  rw [e, (State.traces_writeAnswer _ _ _).getF, now, State.tdmSwapNow_bank, bank]

theorem hostWrite_tdmSwapWaits {via : Via} {p : Nat} (hp : p < 16) (alone : s.pairSt ≠ psACTIVE)
    (sound : KV.find s.bad (F.TDM_CTL_SWAP p).addr = none) (idle : bitOf (s.regWord 6 p 0) 13 = false)
    (enabled : s.on (F.TDM_CTL_EN p) = true)
    (accepted : (s.judgeWrite via.access (F.TDM_CTL_SWAP p).addr (maskData 0x2000 0x2000)).isRight = true) :
    (hostWrite via (F.TDM_CTL_SWAP p).addr (maskData 0x2000 0x2000) s).on (F.TDM_CTL_SWAP p) = true ∧
      ((hostWrite via (F.TDM_CTL_SWAP p).addr (maskData 0x2000 0x2000) s).tdm p).swap = some via.origin := by
  obtain ⟨t, e, enable, -⟩ := hostWrite_tdmSwap hp alone sound idle (by rw [beq_iff_eq.1 enabled]; decide) accepted
  obtain ⟨swap, waits⟩ := State.tdmSwapReq_waits (s := t) via.origin ((congrArg (· == 1) enable).trans enabled)
  rw [e, (State.traces_writeAnswer _ _ _).on, State.tdm, (State.traces_writeAnswer _ _ _).loc]
  exact ⟨swap, waits⟩

end

end Sys2Proof.Machine
end


section
/-!
SWAP bits of the stream tables and of the graph table (R68, R250, R272, R322).
-/

namespace Sys2Proof.Machine

/-! ## What a table's swap shows -/

/-- The control fields of the two stream tables, the swaps that wait and the boundary a new one would wait for. -/
structure SwapView where
  rxCtl : Nat × Nat × Nat
  txCtl : Nat × Nat × Nat
  rx : Option SwapPend
  tx : Option SwapPend
  graph : Option SwapPend
  ahead : Nat

def State.swapView (s : State) : SwapView where
  rxCtl := (s.getF F.RXT_CTL_EN, s.getF F.RXT_CTL_SWAP, s.getF F.RXT_CTL_ACT_BANK)
  txCtl := (s.getF F.TXT_CTL_EN, s.getF F.TXT_CTL_SWAP, s.getF F.TXT_CTL_ACT_BANK)
  rx := s.str.rxSwap
  tx := s.str.txSwap
  graph := s.dsp.swap
  ahead := s.ticksAhead 2

/-- The fields it looks at. -/
def swapFlds : List Fld :=
  [F.RXT_CTL_EN, F.RXT_CTL_SWAP, F.RXT_CTL_ACT_BANK, F.TXT_CTL_EN, F.TXT_CTL_SWAP, F.TXT_CTL_ACT_BANK, F.LOOP_MEDIA_FAMILY]

def swapKeys : List Nat := swapFlds.map Fld.key

section
variable {s t : State}

/-- The next boundary depends on the clock, on the rate family and on the time of a shared request. -/
theorem State.ticksAhead_congr (time : t.time = s.time) (pair : t.pair.reqAt = s.pair.reqAt)
    (family : t.getF F.LOOP_MEDIA_FAMILY = s.getF F.LOOP_MEDIA_FAMILY) (n : Nat) : t.ticksAhead n = s.ticksAhead n := by
  unfold State.ticksAhead State.tps State.rate State.on
  rw [time, pair, family]

theorem State.swapView_congr (flds : ∀ f ∈ swapFlds, t.getF f = s.getF f) (time : t.time = s.time) (pair : t.pair = s.pair)
    (rx : t.str.rxSwap = s.str.rxSwap) (tx : t.str.txSwap = s.str.txSwap) (graph : t.dsp.swap = s.dsp.swap) : t.swapView = s.swapView := by
  have family := flds F.LOOP_MEDIA_FAMILY (by decide)
  have ahead := State.ticksAhead_congr time (congrArg _ pair) family 2
  unfold State.swapView
  rw [flds F.RXT_CTL_EN (by decide), flds F.RXT_CTL_SWAP (by decide), flds F.RXT_CTL_ACT_BANK (by decide), flds F.TXT_CTL_EN (by decide),
    flds F.TXT_CTL_SWAP (by decide), flds F.TXT_CTL_ACT_BANK (by decide), rx, tx, graph, ahead]

/-! ## What leaves it -/

theorem State.Traces.swapView (h : State.Traces s t) : t.swapView = s.swapView :=
  State.swapView_congr (fun f _ => h.getF f) h.time h.pair (by rw [h.str]) (by rw [h.str]) (by rw [h.dsp])

theorem State.swapView_setF {f : Fld} (other : f.key ∉ swapKeys) (s : State) (v : Nat) : (s.setF f v).swapView = s.swapView :=
  State.swapView_congr (fun _ mem => State.getF_setF_ne _ _ fun same => other (same ▸ List.mem_map_of_mem mem)) rfl rfl rfl rfl rfl

variable (s)

theorem State.swapView_fire (src obj detail : Nat) : (s.fire src obj detail).swapView = s.swapView := (s.traces_fire src obj detail).swapView
theorem State.swapView_emit (e : Emit) : (s.emit e).swapView = s.swapView := (s.traces_emit e).swapView
theorem State.swapView_logE (origin oid kind : Nat) (addr : Bool) (obj old new : Nat) :
    (s.logE origin oid kind addr obj old new).swapView = s.swapView := (s.traces_logE origin oid kind addr obj old new).swapView
theorem State.swapView_setPort (p : Nat) (x : PortState) : (s.setPort p x).swapView = s.swapView := rfl
theorem State.swapView_setRaw (src : Nat) (on : Bool) : (s.setRaw src on).swapView = s.swapView := rfl
theorem State.swapView_refreshRxRaw : s.refreshRxRaw.swapView = s.swapView := rfl
theorem State.swapView_refreshTxRaw : s.refreshTxRaw.swapView = s.swapView := rfl

theorem State.swapView_foldl {α : Type} {f : State → α → State} (each : ∀ (t : State) (a : α), (f t a).swapView = t.swapView) (l : List α) :
    (l.foldl f s).swapView = s.swapView :=
  List.foldlRecOn (motive := fun t : State => t.swapView = s.swapView) l f rfl fun t kept a _ => (each t a).trans kept

variable {s}

theorem State.swapView_ite {c : Prop} [Decidable c] {u : State} (yes : t.swapView = s.swapView) (no : u.swapView = s.swapView) :
    (if c then t else u).swapView = s.swapView := by
  split
  · exact yes
  · exact no

variable (s)

theorem State.swapView_raise (src obj detail : Nat) : (s.raise src obj detail).swapView = s.swapView :=
  State.swapView_ite rfl (State.swapView_fire _ _ _ _)

theorem State.swapView_refreshReam : s.refreshReam.swapView = s.swapView := by
  unfold State.refreshReam
  dsimp only
  iterate 6 rw [State.swapView_setF (by decide)]

theorem State.swapView_refreshRxt : s.refreshRxt.swapView = s.swapView := by
  unfold State.refreshRxt
  dsimp only
  rw [State.swapView_refreshReam, State.swapView_setF (by decide), State.swapView_setF (by decide)]

theorem State.swapView_refreshTxt : s.refreshTxt.swapView = s.swapView := by
  unfold State.refreshTxt
  dsimp only
  rw [State.swapView_setF (by decide), State.swapView_setF (by decide)]

/-- The fields of Burins stand elsewhere. -/
theorem burinFlds_apart (b : Nat) : (F.BUR_STATUS_HOMED b).key ∉ swapKeys ∧ (F.BUR_COMMITTED b).key ∉ swapKeys ∧
    (F.BUR_STATUS_GATED b).key ∉ swapKeys := by
  simp only [swapKeys, swapFlds, List.map_cons, List.map_nil, List.mem_cons, List.not_mem_nil, or_false, Fld.key, fieldKey, F.RXT_CTL_EN,
    F.RXT_CTL_SWAP, F.RXT_CTL_ACT_BANK, F.TXT_CTL_EN, F.TXT_CTL_SWAP, F.TXT_CTL_ACT_BANK, F.LOOP_MEDIA_FAMILY, F.BUR_STATUS_HOMED,
    F.BUR_COMMITTED, F.BUR_STATUS_GATED]
  omega

theorem State.swapView_refreshAdm : s.refreshAdm.swapView = s.swapView := by
  have counted : ∀ (u : State) (f : State → Nat → State), (∀ (t : State) (b : Nat), (f t b).swapView = t.swapView) → u.swapView = s.swapView →
      ((List.range 64).foldl f u).swapView = s.swapView := fun u f each h => (State.swapView_foldl u each _).trans h
  have burin : ∀ (t : State) (b h cy : Nat) (g : Bool), (((t.setSat (F.BUR_STATUS_HOMED b) h).setF (F.BUR_COMMITTED b) cy).setF
      (F.BUR_STATUS_GATED b) (b2n g)).swapView = t.swapView := fun t b h cy g => by
    obtain ⟨homed, committed, gated⟩ := burinFlds_apart b
    rw [State.swapView_setF gated, State.swapView_setF committed, State.setSat, State.swapView_setF homed]
  unfold State.refreshAdm
  dsimp only
  refine State.swapView_ite ((State.swapView_raise _ _ _ _).trans ?_) ((State.swapView_setRaw _ _ _).trans ?_)
  all_goals
    refine counted _ _ (fun t b => burin t b _ _ _) ?_
    rw [State.setSat, State.swapView_setF (by decide), State.swapView_setF (by decide), State.swapView_setF (by decide),
      State.swapView_setF (by decide), State.setI, State.swapView_setF (by decide), State.swapView_setF (by decide),
      State.swapView_setF (by decide), State.swapView_setF (by decide)]

/-- The fields of FD generators and of ports stand elsewhere. -/
theorem fdFlds_apart (k : Nat) : (F.FD_STATUS_STATE k).key ∉ swapKeys ∧ (F.FD_STATUS_LEAD k).key ∉ swapKeys ∧
    (F.FD_STATUS_CROSS k).key ∉ swapKeys ∧ (F.FD_BOUND k).key ∉ swapKeys ∧ (F.FD_UNLOCKS k).key ∉ swapKeys := by
  simp only [swapKeys, swapFlds, List.map_cons, List.map_nil, List.mem_cons, List.not_mem_nil, or_false, Fld.key, fieldKey, F.RXT_CTL_EN,
    F.RXT_CTL_SWAP, F.RXT_CTL_ACT_BANK, F.TXT_CTL_EN, F.TXT_CTL_SWAP, F.TXT_CTL_ACT_BANK, F.LOOP_MEDIA_FAMILY, F.FD_STATUS_STATE,
    F.FD_STATUS_LEAD, F.FD_STATUS_CROSS, F.FD_BOUND, F.FD_UNLOCKS]
  omega

theorem portFlds_apart (p : Nat) : (F.MAC_STATUS_STEPPING p).key ∉ swapKeys ∧ (F.MAC_STATUS_UTIL p).key ∉ swapKeys ∧
    (F.MAC_STATUS_PROTECTED p).key ∉ swapKeys := by
  simp only [swapKeys, swapFlds, List.map_cons, List.map_nil, List.mem_cons, List.not_mem_nil, or_false, Fld.key, fieldKey, F.RXT_CTL_EN,
    F.RXT_CTL_SWAP, F.RXT_CTL_ACT_BANK, F.TXT_CTL_EN, F.TXT_CTL_SWAP, F.TXT_CTL_ACT_BANK, F.LOOP_MEDIA_FAMILY, F.MAC_STATUS_STEPPING,
    F.MAC_STATUS_UTIL, F.MAC_STATUS_PROTECTED]
  omega

theorem State.swapView_fdRefresh (k : Nat) : (s.fdRefresh k).swapView = s.swapView := by
  obtain ⟨state, lead, cross, bound, unlocks⟩ := fdFlds_apart k
  unfold State.fdRefresh
  dsimp only
  rw [State.swapView_setF bound, State.swapView_setF cross, State.swapView_setF lead]
  refine State.swapView_ite (State.swapView_ite (State.swapView_setF state _ _) ?_) rfl
  rw [State.fdUnlock, State.swapView_fire, State.incSat, State.addSat, State.swapView_setF unlocks, State.swapView_setF state]

theorem State.swapView_bumpVersion (e : Nat) : (s.bumpVersion e).swapView = s.swapView :=
  State.swapView_ite (State.swapView_fire _ _ _ _) rfl

theorem State.swapView_syncGroups : s.syncGroups.swapView = s.swapView := by
  unfold State.syncGroups
  refine State.swapView_foldl s (fun t p => ?_) _
  dsimp only
  rw [State.swapView_setPort, State.swapView_foldl _ fun t g => t.swapView_emit _, State.swapView_foldl _ fun t g => t.swapView_emit _]

theorem State.swapView_refreshTsMiss : s.refreshTsMiss.swapView = s.swapView := by
  unfold State.refreshTsMiss
  dsimp only
  rw [State.swapView_setRaw]
  refine State.swapView_foldl s (fun t d => ?_) _
  exact State.swapView_ite (State.swapView_fire _ _ _ _) rfl

theorem State.swapView_startStep (p target : Nat) : (s.startStep p target).swapView = s.swapView := by
  obtain ⟨stepping, util, guarded⟩ := portFlds_apart p
  obtain ⟨-, util', guarded'⟩ := portFlds_apart (1 - p)
  have pathDown : ∀ t : State, (t.rxPathDown p).swapView = t.swapView := fun t => by
    unfold State.rxPathDown
    rw [State.swapView_refreshRxRaw]
    refine State.swapView_foldl t (fun u q => ?_) _
    split
    · rw [State.swapView_fire]
      rfl
    · rfl
  have advertised : ∀ t : State, (t.advertise p target).swapView = t.swapView := fun t => State.swapView_ite (t.swapView_emit _) rfl
  unfold State.startStep State.refreshUtil
  dsimp only
  rw [State.swapView_setF guarded', State.setSat, State.swapView_setF util', advertised, pathDown, State.swapView_setF stepping]
  rfl

theorem State.swapView_stepUps (l : List (Nat × Nat)) : (s.stepUps l).swapView = s.swapView := by
  unfold State.stepUps
  extract_lets stepped idle
  have steps : stepped.swapView = s.swapView := by
    refine State.swapView_foldl s (fun t q => ?_) l
    split
    · exact (State.swapView_ite (State.swapView_emit _ _) rfl).trans (State.swapView_setPort _ _ _)
    · rfl
  clear_value stepped idle
  refine State.swapView_ite steps ?_
  split
  · rw [State.swapView_startStep, steps]
  · split
    · rw [State.swapView_startStep, steps]
    · exact steps

/-! ## The swaps -/

/-- The bank that a swap selects outlasts the other fields it sets. -/
theorem State.getF_exchanged {act swap count : Fld} (width : act.width = 1) (apart : act.key ≠ swap.key ∧ act.key ≠ count.key) (old : Nat) :
    (((s.setF act (1 - old)).setF swap 0).incSat count).getF act = 1 - old := by
  rw [State.getF_incSat_ne _ apart.2, State.getF_setF_ne _ _ apart.1, State.getF_setF_self, width]
  exact Nat.mod_eq_of_lt (by omega)

/-- A swap at once of the receive table exchanges its banks. -/
theorem State.rxSwapNow_bank (o : Origin) : (s.rxSwapNow o false).rxBank = 1 - s.rxBank := by
  unfold State.rxSwapNow
  extract_lets old same changed span keep gone held stopped _ emptied exchanged next stay _ owned converted grouped shown refreshed logged
  have bank : exchanged.swapView.rxCtl.2.2 = 1 - old := State.getF_exchanged _ rfl (by decide) old
  clear_value exchanged
  have start : grouped.swapView = exchanged.swapView := by
    unfold grouped
    rw [if_neg Bool.false_ne_true]
    exact State.swapView_foldl owned (fun t q => by rw [Bool.false_and, if_neg Bool.false_ne_true]) _
  clear_value grouped
  have final : logged.swapView = exchanged.swapView := by
    have refresh : refreshed.swapView = shown.swapView := State.swapView_foldl shown (fun t k => t.swapView_fdRefresh k) _
    have show_ : shown.swapView = grouped.swapView := by
      unfold shown
      rw [State.swapView_syncGroups, State.swapView_refreshRxRaw, State.swapView_refreshRxt, State.swapView_refreshAdm]
    have entered : logged.swapView = refreshed.swapView := State.swapView_logE _ _ _ _ _ _ _ _
    exact entered.trans (refresh.trans (show_.trans start))
  clear_value logged
  rw [if_neg Bool.false_ne_true]
  show logged.swapView.rxCtl.2.2 = 1 - old
  rw [final, bank]

/-- A swap at once of the transmit table exchanges its banks. -/
theorem State.txSwapNow_bank (o : Origin) : (s.txSwapNow o false).txBank = 1 - s.txBank := by
  unfold State.txSwapNow
  extract_lets old changed now stopped _ emptied exchanged started bumped shown logged
  have bank : exchanged.swapView.txCtl.2.2 = 1 - old := State.getF_exchanged _ rfl (by decide) old
  have start : started = exchanged := if_neg Bool.false_ne_true
  clear_value started exchanged
  have final : logged.swapView = exchanged.swapView := by
    have bump : bumped.swapView = started.swapView := State.swapView_foldl started (fun t e => t.swapView_bumpVersion e) _
    have show_ : shown.swapView = bumped.swapView := by
      unfold shown
      rw [State.swapView_refreshTxRaw, State.swapView_refreshTxt]
    have entered : logged.swapView = shown.swapView := State.swapView_logE _ _ _ _ _ _ _ _
    exact entered.trans (show_.trans (bump.trans (congrArg _ start)))
  clear_value logged
  rw [if_neg Bool.false_ne_true]
  show logged.swapView.txCtl.2.2 = 1 - old
  rw [final, bank]

/-- A receive swap that has passed waits for its boundary. -/
theorem State.rxSwapSet_waits (o : Origin) (a : List (Nat × Nat) × List (Nat × OwnerC)) :
    (s.rxSwapSet o a).on F.RXT_CTL_SWAP = true ∧ (s.rxSwapSet o a).str.rxSwap = some { tick := s.ticksAhead 2, origin := o } := by
  unfold State.rxSwapSet
  extract_lets bank es pend runs _ _ waiting shown
  have swap : shown.swapView.rxCtl.2.1 = 1 := by
    unfold shown
    rw [State.swapView_syncGroups]
    exact State.getF_setF_self _ _ _
  have wait : shown.swapView.rx = some { tick := s.ticksAhead 2, origin := o } := by
    unfold shown
    rw [State.swapView_syncGroups]
    rfl
  clear_value shown
  have final : (if a.1.isEmpty = true then shown else shown.stepUps a.1).swapView = shown.swapView :=
    State.swapView_ite rfl (shown.swapView_stepUps a.1)
  exact ⟨beq_iff_eq.2 ((congrArg (fun v : SwapView => v.rxCtl.2.1) final).trans swap), (congrArg SwapView.rx final).trans wait⟩

/-- A transmit swap that has passed waits for its boundary. -/
theorem State.txSwapSet_waits (o : Origin) (steps : List (Nat × Nat)) :
    (s.txSwapSet o steps).on F.TXT_CTL_SWAP = true ∧ (s.txSwapSet o steps).str.txSwap = some { tick := s.ticksAhead 2, origin := o } := by
  unfold State.txSwapSet
  extract_lets _ waiting
  have swap : waiting.swapView.txCtl.2.1 = 1 := State.getF_setF_self _ _ _
  have wait : waiting.swapView.tx = some { tick := s.ticksAhead 2, origin := o } := rfl
  clear_value waiting
  have final : (if steps.isEmpty = true then waiting else waiting.stepUps steps).swapView = waiting.swapView :=
    State.swapView_ite rfl (waiting.swapView_stepUps steps)
  exact ⟨beq_iff_eq.2 ((congrArg (fun v : SwapView => v.txCtl.2.1) final).trans swap), (congrArg SwapView.tx final).trans wait⟩

end

/-! ## What the checks and the stored word leave -/

section
variable {s : State} {sub u off b : Nat} {r : RegDesc} {l : List FieldDesc}

/-- A request that is accepted has passed the checks of its swap (R68). -/
theorem State.swapRefused_of_accepted {via : Via} {addr : Nat} (swap : swapBit sub u off = some b) (small : b < 16)
    (other : sub ≠ 1 ∧ sub ≠ 11) (target : regTarget addr = some (.reg sub u off r)) (single : r.mwLen ≤ 1)
    (idle : bitOf (s.regWord sub u off) b = false)
    (accepted : (s.judgeWrite via.access addr (maskData (2 ^ b) (2 ^ b))).isRight = true) : s.swapRefused sub u = none := by
  have sized : 2 ^ b < 65536 := Nat.pow_lt_pow_right (a := 2) (m := b) (n := 16) (by decide) small
  obtain ⟨isMask, isData⟩ := maskData_parts sized sized
  have pos := Nat.two_pow_pos b
  have legal := State.judgeWrite_legal (w := maskData (2 ^ b) (2 ^ b)) target (by rw [maskData, isMask]; omega) single accepted
  rw [show maskData (2 ^ b) (2 ^ b) / 65536 % 65536 = 2 ^ b from isMask, show maskData (2 ^ b) (2 ^ b) % 65536 = 2 ^ b from isData] at legal
  obtain ⟨-, asked, -⟩ := merge16_request (cur := s.regWord sub u off % 65536) (Nat.mod_lt _ (by decide)) small
  unfold State.writeLegal at legal
  simp only [Bool.and_eq_true] at legal
  obtain ⟨⟨-, action⟩, -⟩ := legal
  unfold State.actionLegal at action
  dsimp only at action
  rw [if_neg (by simp [other.1]), if_neg (by simp [other.2]), swap] at action
  dsimp only at action
  rw [asked, idle] at action
  simpa using action

/-- Checks that leave no refusal have passed. -/
theorem State.passed_of_refusalTrace {α : Type} {c : OpOut ⊕ α} (passes : s.refusalTrace c = none) : ∃ x, c = .inr x := by
  cases c with
  | inr x => exact ⟨x, rfl⟩
  | inl o => cases o <;> cases passes

/-- A stored word changes fields only. -/
theorem State.storeWord_fields (s : State) (r : RegDesc) (addr w : Nat) : ∃ regs, s.storeWord r addr w = { s with regs := regs } := by
  refine List.foldlRecOn (motive := fun t : State => ∃ regs, t = { s with regs := regs }) r.fields _ ⟨s.regs, rfl⟩ fun t kept f _ => ?_
  obtain ⟨regs, rfl⟩ := kept
  split
  · exact ⟨_, rfl⟩
  · exact ⟨regs, rfl⟩

/-- The request's word leaves the clock, the pair and what waits. -/
theorem State.requestStored_parts (s : State) (sub u off b : Nat) (r : RegDesc) :
    (s.requestStored sub u off b r).str = s.str ∧ (s.requestStored sub u off b r).dsp = s.dsp ∧
      (s.requestStored sub u off b r).time = s.time ∧ (s.requestStored sub u off b r).pair = s.pair := by
  obtain ⟨regs, stored⟩ := s.storeWord_fields r (unitBase sub u + off) (merge16 (s.regWord sub u off % 65536) (2 ^ b) (2 ^ b) - 2 ^ b)
  unfold State.requestStored
  rw [stored]
  exact ⟨rfl, rfl, rfl, rfl⟩

theorem State.swapView_logChange (s : State) (o : Origin) (quiet config : Bool) (addr old new : Nat) :
    (s.logChange o quiet config addr old new).swapView = s.swapView := by
  refine State.swapView_ite rfl (State.swapView_ite ?_ (State.swapView_logE _ _ _ _ _ _ _ _))
  exact (State.swapView_setF (by decide) _ _).trans (State.swapView_logE _ _ _ _ _ _ _ _)

/-- What follows a write of a stream table's control register leaves its swap. -/
theorem State.swapView_afterWrite_table {u : Nat} (s : State) (old new : Nat) : (s.afterWrite 4 u 0 old new).swapView = s.swapView := by
  by_cases same : old = new
  · rw [State.afterWrite, if_pos same]
  · have body : s.afterWrite 4 u 0 old new = if u = 1 then s.refreshTsMiss.syncGroups else s := if_neg same
    rw [body]
    exact State.swapView_ite ((State.swapView_syncGroups _).trans (State.swapView_refreshTsMiss _)) rfl

/-- On the way from the stored word to the request the tables' control fields and swaps stay. -/
theorem State.swapView_requested {o : Origin} {quiet config : Bool} {addr old new cur now : Nat} :
    (((s.requestStored 4 u 0 b r).logChange o quiet config addr cur new).afterWrite 4 u 0 old now).swapView =
      (s.requestStored 4 u 0 b r).swapView :=
  (State.swapView_afterWrite_table _ _ _).trans (State.swapView_logChange _ _ _ _ _ _ _)

end

/-! ## The stream tables (R68, R250, R272) -/

section
variable {s : State} {via : Via} {u addr : Nat} {r : RegDesc} {l : List FieldDesc}

/-- An accepted SWAP of a stream table reaches its swap with EN, the active bank, what waits and the next boundaries as they were. -/
theorem SwapReg.hostWrite_table (reg : SwapReg 4 u 0 1 r l) (target : regTarget addr = some (.reg 4 u 0 r)) (single : r.mwLen ≤ 1)
    (bank : ∀ g ∈ r.fields, g.acc.config = true → fieldKey addr 2 ≠ fieldKey addr g.lo)
    (family : ∀ g ∈ r.fields, g.acc.config = true → F.LOOP_MEDIA_FAMILY.key ≠ fieldKey addr g.lo)
    (alone : s.pairSt ≠ psACTIVE) (sound : KV.find s.bad addr = none) (idle : bitOf (s.regWord 4 u 0) 1 = false)
    (bit : s.getF (enFld addr) < 2) (accepted : (s.judgeWrite via.access addr (maskData 2 2)).isRight = true) :
    ∃ t q : State, hostWrite via addr (maskData 2 2) s = (t.requestSwap s via.origin 4 u).writeAnswer via none ∧ t.swapView = q.swapView ∧
      q.getF (enFld addr) = s.getF (enFld addr) ∧ q.getF ⟨addr, 2, 1⟩ = s.getF ⟨addr, 2, 1⟩ ∧ q.str = s.str ∧
      q.ticksAhead 2 = s.ticksAhead 2 := by
  obtain ⟨-, place, -⟩ := regTarget_reg target
  obtain ⟨quiet, config, new, old, now, e⟩ := reg.hostWrite_request target single alone sound idle bit accepted
  obtain ⟨str, -, time, pair⟩ := s.requestStored_parts 4 u 0 1 r
  refine ⟨_, s.requestStored 4 u 0 1 r, e, State.swapView_requested (o := via.origin), ?_, ?_, str, ?_⟩
  · rw [place] at sound bit ⊢
    exact reg.getF_requestStored sound bit
  · exact State.getF_requestStored_other (place ▸ bank)
  · exact State.ticksAhead_congr time (congrArg (·.reqAt) pair) (State.getF_requestStored_other (place ▸ family)) 2

def rxtTail : List FieldDesc := [⟨1, 1, .l, 0⟩, ⟨2, 1, .ro, 0⟩]
def txtTail : List FieldDesc := [⟨1, 1, .l, 0⟩, ⟨2, 1, .ro, 0⟩, ⟨3, 1, .l, 0⟩]

/-- The rows of RXT.CTL and TXT.CTL. -/
def rxtRow : RegDesc := ⟨0, 4, 1, 0, 1, false, ⟨0, 1, .rw, 0⟩ :: rxtTail⟩
def txtRow : RegDesc := ⟨0, 4, 1, 0, 1, false, ⟨0, 1, .rw, 0⟩ :: txtTail⟩

theorem swapReg_rxt : SwapReg 4 0 0 1 rxtRow rxtTail where
  swap := rfl
  place := by decide
  holds := rfl
  enable := by decide
  fields := rfl
  apart := by decide
  above := by decide
  row := by decide
  derived := fun _ => rfl
  cleared := fun _ _ => State.clearW1c_none (by decide) rfl rfl
  action := fun _ _ _ _ => rfl

theorem swapReg_txt : SwapReg 4 1 0 1 txtRow txtTail where
  swap := rfl
  place := by decide
  holds := rfl
  enable := by decide
  fields := rfl
  apart := by decide
  above := by decide
  row := by decide
  derived := fun _ => rfl
  cleared := fun _ _ => State.clearW1c_none (by decide) rfl rfl
  action := fun _ _ _ _ => rfl

theorem regTarget_rxt : regTarget F.RXT_CTL_SWAP.addr = some (.reg 4 0 0 rxtRow) := by decide
theorem regTarget_txt : regTarget F.TXT_CTL_SWAP.addr = some (.reg 4 1 0 txtRow) := by decide

section
variable (alone : s.pairSt ≠ psACTIVE) (sound : KV.find s.bad F.RXT_CTL_SWAP.addr = none) (idle : bitOf (s.regWord 4 0 0) 1 = false)
  (accepted : (s.judgeWrite via.access F.RXT_CTL_SWAP.addr (maskData 2 2)).isRight = true)

include alone sound idle accepted

theorem hostWrite_rxSwap (bit : s.getF F.RXT_CTL_EN < 2) :
    ∃ t : State, hostWrite via F.RXT_CTL_SWAP.addr (maskData 2 2) s = (t.requestSwap s via.origin 4 0).writeAnswer via none ∧
      t.getF F.RXT_CTL_EN = s.getF F.RXT_CTL_EN ∧ t.rxBank = s.rxBank ∧ t.str.rxSwap = s.str.rxSwap ∧ t.ticksAhead 2 = s.ticksAhead 2 := by
  obtain ⟨t, q, e, view, enable, bank, str, ahead⟩ := swapReg_rxt.hostWrite_table (via := via) regTarget_rxt (Nat.le_refl 1) (by decide)
    (by decide) alone sound idle bit accepted
  exact ⟨t, e, (congrArg (fun v : SwapView => v.rxCtl.1) view).trans enable, (congrArg (fun v : SwapView => v.rxCtl.2.2) view).trans bank,
    (congrArg SwapView.rx view).trans (congrArg (·.rxSwap) str), (congrArg SwapView.ahead view).trans ahead⟩

/-- With EN = 0 the receive table's banks are exchanged at once. -/
theorem hostWrite_rxSwapNow (disabled : s.getF F.RXT_CTL_EN = 0) :
    (hostWrite via F.RXT_CTL_SWAP.addr (maskData 2 2) s).rxBank = 1 - s.rxBank := by
  obtain ⟨t, e, enable, bank, -, -⟩ := hostWrite_rxSwap alone sound idle accepted (by omega)
  have now : t.requestSwap s via.origin 4 0 = t.rxSwapNow via.origin false :=
    if_pos (show (!t.on F.RXT_CTL_EN) = true by simp [State.on, enable, disabled])
  rw [e, now, State.rxBank, (State.traces_writeAnswer _ _ _).getF]
  exact (State.rxSwapNow_bank t _).trans (by rw [bank])

/-- With EN = 1 the receive table's swap waits for its boundary. -/
theorem hostWrite_rxSwapWaits (enabled : s.on F.RXT_CTL_EN = true) (none_ : s.str.rxSwap = none) :
    (hostWrite via F.RXT_CTL_SWAP.addr (maskData 2 2) s).on F.RXT_CTL_SWAP = true ∧
      (hostWrite via F.RXT_CTL_SWAP.addr (maskData 2 2) s).str.rxSwap = some { tick := s.ticksAhead 2, origin := via.origin } := by
  obtain ⟨t, e, enable, -, waits, ahead⟩ := hostWrite_rxSwap alone sound idle accepted (by rw [beq_iff_eq.1 enabled]; decide)
  have passes := State.swapRefused_of_accepted (b := 1) rfl (by decide) (by decide) regTarget_rxt (Nat.le_refl 1) idle accepted
  obtain ⟨x, passed⟩ := State.passed_of_refusalTrace ((if_pos enabled).symm.trans passes)
  have on_ : t.on F.RXT_CTL_EN = true := (congrArg (· == 1) enable).trans enabled
  have request : t.requestSwap s via.origin 4 0 = t.rxSwapSet via.origin x := by
    unfold State.requestSwap
    rw [if_pos (by decide), on_, waits, none_, passed]
    rfl
  obtain ⟨swap, wait⟩ := t.rxSwapSet_waits via.origin x
  rw [e, request, (State.traces_writeAnswer _ _ _).on, (State.traces_writeAnswer _ _ _).str, ← ahead]
  exact ⟨swap, wait⟩

end

section
variable (alone : s.pairSt ≠ psACTIVE) (sound : KV.find s.bad F.TXT_CTL_SWAP.addr = none) (idle : bitOf (s.regWord 4 1 0) 1 = false)
  (accepted : (s.judgeWrite via.access F.TXT_CTL_SWAP.addr (maskData 2 2)).isRight = true)

include alone sound idle accepted

theorem hostWrite_txSwap (bit : s.getF F.TXT_CTL_EN < 2) :
    ∃ t : State, hostWrite via F.TXT_CTL_SWAP.addr (maskData 2 2) s = (t.requestSwap s via.origin 4 1).writeAnswer via none ∧
      t.getF F.TXT_CTL_EN = s.getF F.TXT_CTL_EN ∧ t.txBank = s.txBank ∧ t.str.txSwap = s.str.txSwap ∧ t.ticksAhead 2 = s.ticksAhead 2 := by
  obtain ⟨t, q, e, view, enable, bank, str, ahead⟩ := swapReg_txt.hostWrite_table (via := via) regTarget_txt (Nat.le_refl 1) (by decide)
    (by decide) alone sound idle bit accepted
  exact ⟨t, e, (congrArg (fun v : SwapView => v.txCtl.1) view).trans enable, (congrArg (fun v : SwapView => v.txCtl.2.2) view).trans bank,
    (congrArg SwapView.tx view).trans (congrArg (·.txSwap) str), (congrArg SwapView.ahead view).trans ahead⟩

/-- With EN = 0 the transmit table's banks are exchanged at once. -/
theorem hostWrite_txSwapNow (disabled : s.getF F.TXT_CTL_EN = 0) :
    (hostWrite via F.TXT_CTL_SWAP.addr (maskData 2 2) s).txBank = 1 - s.txBank := by
  obtain ⟨t, e, enable, bank, -, -⟩ := hostWrite_txSwap alone sound idle accepted (by omega)
  have now : t.requestSwap s via.origin 4 1 = t.txSwapNow via.origin false :=
    if_pos (show (!t.on F.TXT_CTL_EN) = true by simp [State.on, enable, disabled])
  rw [e, now, State.txBank, (State.traces_writeAnswer _ _ _).getF]
  exact (State.txSwapNow_bank t _).trans (by rw [bank])

/-- With EN = 1 the transmit table's swap waits for its boundary. -/
theorem hostWrite_txSwapWaits (enabled : s.on F.TXT_CTL_EN = true) (none_ : s.str.txSwap = none) :
    (hostWrite via F.TXT_CTL_SWAP.addr (maskData 2 2) s).on F.TXT_CTL_SWAP = true ∧
      (hostWrite via F.TXT_CTL_SWAP.addr (maskData 2 2) s).str.txSwap = some { tick := s.ticksAhead 2, origin := via.origin } := by
  obtain ⟨t, e, enable, -, waits, ahead⟩ := hostWrite_txSwap alone sound idle accepted (by rw [beq_iff_eq.1 enabled]; decide)
  have passes := State.swapRefused_of_accepted (b := 1) rfl (by decide) (by decide) regTarget_txt (Nat.le_refl 1) idle accepted
  obtain ⟨x, passed⟩ := State.passed_of_refusalTrace ((if_pos enabled).symm.trans passes)
  have on_ : t.on F.TXT_CTL_EN = true := (congrArg (· == 1) enable).trans enabled
  have request : t.requestSwap s via.origin 4 1 = t.txSwapSet via.origin x := by
    unfold State.requestSwap
    rw [if_neg (by decide), if_pos rfl, on_, waits, none_, passed]
    rfl
  obtain ⟨swap, wait⟩ := t.txSwapSet_waits via.origin x
  rw [e, request, (State.traces_writeAnswer _ _ _).on, (State.traces_writeAnswer _ _ _).str, ← ahead]
  exact ⟨swap, wait⟩

end

/-! ## The graph table (R322) -/

/-- The row of GRT.CTL. -/
def grtRow : RegDesc := ⟨0x100, 4, 1, 0, 1, false, [⟨0, 1, .l, 0⟩, ⟨1, 1, .ro, 0⟩]⟩

theorem regTarget_grt : regTarget F.GRT_CTL_SWAP.addr = some (.reg 5 64 0x100 grtRow) := by decide

/-- Nothing follows a write of GRT.CTL but its request. -/
theorem State.wordFollowed_grt (t : State) (cur now : Nat) : t.wordFollowed 5 64 0x100 cur now = t := by
  have quiet : t.afterWrite 5 64 0x100 cur now = t := by
    by_cases same : cur = now
    · rw [State.afterWrite, if_pos same]
    · exact if_neg same
  rw [State.wordFollowed, show isEnReg 5 64 0x100 = false by decide, Bool.false_and, if_neg Bool.false_ne_true,
    if_neg Bool.false_ne_true, quiet]

/-- An accepted SWAP of the graph table waits for its boundary. -/
theorem hostWrite_graphSwapWaits (alone : s.pairSt ≠ psACTIVE) (idle : bitOf (s.regWord 5 64 0x100) 0 = false) (none_ : s.dsp.swap = none)
    (accepted : (s.judgeWrite via.access F.GRT_CTL_SWAP.addr (maskData 1 1)).isRight = true) :
    (hostWrite via F.GRT_CTL_SWAP.addr (maskData 1 1) s).on F.GRT_CTL_SWAP = true ∧
      (hostWrite via F.GRT_CTL_SWAP.addr (maskData 1 1) s).dsp.swap = some { tick := s.ticksAhead 2, origin := via.origin } := by
  have passes := State.swapRefused_of_accepted (b := 0) rfl (by decide) (by decide) regTarget_grt (Nat.le_refl 1) idle accepted
  obtain ⟨x, passed⟩ := State.passed_of_refusalTrace (show s.refusalTrace s.graphSwapCheck = none from passes)
  have small : s.regWord 5 64 0x100 % 65536 < 65536 := Nat.mod_lt _ (by decide)
  obtain ⟨set, asked, -⟩ := merge16_request (b := 0) small (by decide)
  have clear16 : bitOf (s.regWord 5 64 0x100 % 65536) 0 = false := by
    show (s.regWord 5 64 0x100 % 2 ^ 16).testBit 0 = false
    rw [Nat.testBit_mod_two_pow, show (s.regWord 5 64 0x100).testBit 0 = false from idle, Bool.and_false]
  obtain ⟨quiet, config, new, clear, stages⟩ := State.applyWord_swap (a := via.access) (r := grtRow) (b := 0) rfl clear16 asked set
  have stored : s.wordStored 5 64 0x100 grtRow (merge16 (s.regWord 5 64 0x100 % 65536) (2 ^ 0) (2 ^ 0) - 2 ^ 0) clear =
    s.requestStored 5 64 0x100 0 grtRow := State.wordStored_eq rfl fun _ _ => State.clearW1c_none (by decide) rfl rfl
  rw [stored] at stages
  obtain ⟨-, dsp, time, pair⟩ := s.requestStored_parts 5 64 0x100 0 grtRow
  have ahead := State.ticksAhead_congr time (congrArg (·.reqAt) pair) (State.getF_requestStored_other (by decide)) 2
  have view := (s.requestStored 5 64 0x100 0 grtRow).swapView_logChange via.access.origin quiet config (unitBase 5 64 + 0x100)
    (s.regWord 5 64 0x100 % 65536) new
  have e := hostWrite_word (via := via) (mask := 1) (data := 1) regTarget_grt (by decide) (by decide) (by decide) (Nat.le_refl 1) accepted
    (.inr alone)
  generalize (s.requestStored 5 64 0x100 0 grtRow).logChange via.access.origin quiet config (unitBase 5 64 + 0x100)
    (s.regWord 5 64 0x100 % 65536) new = t at stages view
  have waits : t.dsp.swap = none := (congrArg SwapView.graph view).trans ((congrArg (·.swap) dsp).trans none_)
  have request : t.requestSwap s via.access.origin 5 64 = t.graphSwapSet via.origin x := by
    unfold State.requestSwap
    rw [if_neg (by decide), if_neg (by decide), if_pos rfl, waits, passed]
    rfl
  rw [t.wordFollowed_grt, request] at stages
  replace e := e.trans (congrArg (fun t : State => t.writeAnswer via none) stages)
  rw [e, (State.traces_writeAnswer _ _ _).on, (State.traces_writeAnswer _ _ _).dsp, ← (congrArg SwapView.ahead view).trans ahead]
  exact ⟨State.on_setF_one _ F.GRT_CTL_SWAP rfl, rfl⟩

end

/-- What a happening of a reachable block that stores a register field leaves of it. -/
theorem happen_getF {s : State} {f : Fld} {g : State → State} {n : Nat} (reachable : s.reachable = true) (kept : f.key ∉ settleKeys)
    (stored : (g s.fresh).getF f = n) : ∃ t, happen (fun s => s.whenReached g) s = .next t ∧ t.getF f = n := by
  obtain ⟨t, e, settled⟩ := happen_whenReached g reachable
  exact ⟨t, e, (settled.getF f kept).trans stored⟩

theorem tdmCtl_settle (p lo width : Nat) (hl : lo < 32) : (⟨0x01800000 + p * 0x10000, lo, width⟩ : Fld).key ∉ settleKeys :=
  (tdmCtl_keys hl).1

/-- A request that names its register only is the write of its SWAP bit. -/
theorem swapWrite_tdm (via : Via) {p : Nat} (hp : p < 16) (s : State) :
    swapWrite via (F.TDM_CTL_SWAP p).addr s = hostWrite via (F.TDM_CTL_SWAP p).addr (maskData 0x2000 0x2000) s := by
  obtain ⟨parts, -, -⟩ := regTarget_reg (regTarget_tdm p hp)
  unfold swapWrite
  rw [parts]
  dsimp only
  rw [(swapReg_tdm hp).swap]
  rfl

theorem ringKeys : ∀ i < 32, (F.RING_PROD i).key ≠ F.NVS_BANKS_MODIFIED.key ∧ (F.RING_PROD i).key ∉ settleKeys := by decide

theorem portKeys : ∀ p < 4, ((F.MAC_TXR_PROD p).key ≠ F.NVS_BANKS_MODIFIED.key ∧ (F.MAC_TXR_PROD p).key ∉ settleKeys) ∧
    (F.MAC_RXR_PROD p).key ≠ F.NVS_BANKS_MODIFIED.key ∧ (F.MAC_RXR_PROD p).key ∉ settleKeys := by decide

/-- Settles O26: each request is stored, logged and passed to its table's swap; an index is stored. -/
theorem swapAndRingWritesTakeEffect : Obligations.SwapAndRingWritesTakeEffect := by
  refine ⟨?_, ?_, ?_, ?_, ?_, ?_, ?_, ?_, ?_, ?_, ?_⟩
  · intro s via p hp accepted alone sound idle disabled
    refine happen_getF accepted.1 (tdmCtl_settle p 14 1 (by decide)) ?_
    rw [swapWrite_tdm via hp]
    exact hostWrite_tdmSwapNow (s := s.fresh) hp alone sound idle disabled accepted.2
  · intro s via p accepted alone sound idle disabled
    exact happen_getF accepted.1 (tdmCtl_settle p 14 1 (by decide)) (hostWrite_tdmSwapNow (s := s.fresh) p.isLt alone sound idle disabled
      accepted.2)
  · intro s via p accepted alone sound idle enabled
    obtain ⟨t, e, settled⟩ := happen_whenReached (hostWrite via (F.TDM_CTL_SWAP p).addr (maskData 0x2000 0x2000)) accepted.1
    obtain ⟨swap, waits⟩ := hostWrite_tdmSwapWaits (s := s.fresh) p.isLt alone sound idle enabled accepted.2
    exact ⟨t, e, (settled.on _ (tdmCtl_settle p 13 1 (by decide))).trans swap, by rw [State.tdm, settled.loc]; exact waits⟩
  · intro s via accepted alone sound idle disabled
    exact happen_getF accepted.1 (by decide) (hostWrite_rxSwapNow (s := s.fresh) alone sound idle accepted.2 disabled)
  · intro s via accepted alone sound idle enabled none_ _
    obtain ⟨t, e, settled⟩ := happen_whenReached (hostWrite via F.RXT_CTL_SWAP.addr (maskData 2 2)) accepted.1
    obtain ⟨swap, waits⟩ := hostWrite_rxSwapWaits (s := s.fresh) alone sound idle accepted.2 enabled none_
    exact ⟨t, e, (settled.on _ (by decide)).trans swap, by rw [settled.str]; exact waits⟩
  · intro s via accepted alone sound idle disabled
    exact happen_getF accepted.1 (by decide) (hostWrite_txSwapNow (s := s.fresh) alone sound idle accepted.2 disabled)
  · intro s via accepted alone sound idle enabled none_ _
    obtain ⟨t, e, settled⟩ := happen_whenReached (hostWrite via F.TXT_CTL_SWAP.addr (maskData 2 2)) accepted.1
    obtain ⟨swap, waits⟩ := hostWrite_txSwapWaits (s := s.fresh) alone sound idle accepted.2 enabled none_
    exact ⟨t, e, (settled.on _ (by decide)).trans swap, by rw [settled.str]; exact waits⟩
  · intro s via accepted alone _ idle none_ _
    obtain ⟨t, e, settled⟩ := happen_whenReached (hostWrite via F.GRT_CTL_SWAP.addr (maskData 1 1)) accepted.1
    obtain ⟨swap, waits⟩ := hostWrite_graphSwapWaits (s := s.fresh) alone idle none_ accepted.2
    exact ⟨t, e, (settled.on _ (by decide)).trans swap, by rw [settled.dsp]; exact waits⟩
  · intro s via i v hv accepted
    obtain ⟨modified, settles⟩ := ringKeys i i.isLt
    refine happen_getF accepted.1 settles ?_
    rw [Nat.mod_eq_of_lt hv]
    exact hostWrite_index (width := 16) ⟨rfl, rfl⟩ (regTarget_ringProd i i.isLt) (dataReg_ring i.isLt) (by simp [State.mirrored]) modified hv (by decide)
      (by decide) accepted.2
  · intro s via p v hv accepted
    obtain ⟨⟨modified, settles⟩, -⟩ := portKeys p p.isLt
    refine happen_getF accepted.1 settles ?_
    rw [Nat.mod_eq_of_lt (show v < 65536 by omega)]
    exact hostWrite_index (width := 12) ⟨rfl, rfl⟩ (regTarget_portProd p p.isLt).1 (dataReg_port p.isLt (.inl rfl)) (by simp [State.mirrored]) modified hv
      (by decide) (by decide) accepted.2
  · intro s via p v hv accepted
    obtain ⟨-, modified, settles⟩ := portKeys p p.isLt
    refine happen_getF accepted.1 settles ?_
    rw [Nat.mod_eq_of_lt (show v < 65536 by omega)]
    exact hostWrite_index (width := 12) ⟨rfl, rfl⟩ (regTarget_portProd p p.isLt).2 (dataReg_port p.isLt (.inr rfl)) (by simp [State.mirrored]) modified hv
      (by decide) (by decide) accepted.2

end Sys2Proof.Machine
end


section
/-!
Register accesses of every form: bursts (R76), multi-word values (R62 to R64), captures (R132, R140) and absent units (R79).
-/

namespace Sys2Proof.Machine

section
variable {s : State} {via : Via} {addr sub u off : Nat} {r : RegDesc}

/-! ## Whole writes -/

/-- A whole write of an event-enable register is stored, and answered on the SPI. -/
theorem hostWrite_evtEnable {g v : Nat} (free : s.busyIndex = none) (hg : g < 16) (hv : v < 65536) :
    (hostWrite via (F.EVT_EV_EN_EN g).addr (maskData 0xFFFF v) s).getF (F.EVT_EV_EN_EN g) = v ∧
      ∀ b, via = .spi b → Emit.spi [0xA0] ∈ (hostWrite via (F.EVT_EV_EN_EN g).addr (maskData 0xFFFF v) s).out := by
  unfold hostWrite State.writeReg
  rw [State.judgeWrite_evtEnable (by rw [free, Option.isSome_none, Bool.and_false]) hg hv]
  dsimp only
  refine ⟨((State.traces_writeAnswer _ via none).getF _).trans (State.applyOp_evtEnable hg hv), ?_⟩
  rintro b rfl
  exact List.mem_append_right _ (List.mem_singleton_self _)

/-! ## Bursts to the mailbox's request area (R44, R76) -/

theorem regTarget_request {i : Nat} (hi : i < 1024) : regTarget (0x00020000 + 4 * i) = some (.request i) := by
  have parts : addrUnit (0x00020000 + 4 * i) = (0, 2, 4 * i) := by
    unfold addrUnit
    rw [show (0x00020000 + 4 * i) / 2 ^ 22 % 16 = 0 by omega, show (0x00020000 + 4 * i) / 2 ^ 16 % 64 = 2 by omega,
      show (0x00020000 + 4 * i) / 2 ^ 15 % 2 = 0 by omega, show (0x00020000 + 4 * i) % 2 ^ 15 = 4 * i by omega]
  unfold regTarget
  rw [if_neg (by simp; omega), parts]
  dsimp only
  rw [if_neg (by decide), if_neg (by simp; omega), if_pos (by simp; omega), Nat.mul_div_cancel_left _ (by decide)]

/-- The words of a burst from word `i` of the request area on. -/
def requestWords (i : Nat) (data : List Nat) : List (Nat × Nat) :=
  (List.range data.length).map fun j => (0x00020000 + 4 * i + 4 * j, data.getD j 0)

theorem requestWords_cons (i w : Nat) (data : List Nat) :
    requestWords i (w :: data) = (0x00020000 + 4 * i, w) :: requestWords (i + 1) data := by
  unfold requestWords
  rw [List.length_cons, List.range_succ_eq_map, List.map_cons, List.map_map]
  refine congrArg₂ List.cons rfl (List.map_congr_left fun j _ => ?_)
  show (0x00020000 + 4 * i + 4 * (j + 1), _) = (0x00020000 + 4 * (i + 1) + 4 * j, _)
  rw [show 0x00020000 + 4 * i + 4 * (j + 1) = 0x00020000 + 4 * (i + 1) + 4 * j by omega]
  rfl

theorem State.judgeWrite_request {a : Access} {i w : Nat} (hi : i < 1024) : s.judgeWrite a (0x00020000 + 4 * i) w = .inr (.request i w) := by
  unfold State.judgeWrite
  rw [regTarget_request hi]

/-- Every word of such a burst is accepted, and stands in the buffer after it. -/
theorem State.judgeAll_request (a : Access) {data : List Nat} {i : Nat} (fits : i + data.length ≤ 1024) (n : Nat) :
    ∃ ops, s.judgeAll a n (requestWords i data) = .inr ops ∧
      ∀ t : State, (∀ j < i, KV.get 0 (t.applyAll a ((requestWords i data).zip ops)).car.mbxReq j = KV.get 0 t.car.mbxReq j) ∧
        ∀ j w, data[j]? = some w → KV.get 0 (t.applyAll a ((requestWords i data).zip ops)).car.mbxReq (i + j) = w := by
  induction data generalizing i n with
  | nil => exact ⟨[], rfl, fun t => ⟨fun _ _ => rfl, fun _ _ found => by simp at found⟩⟩
  | cons w data ih =>
    rw [List.length_cons] at fits
    obtain ⟨ops, judged, stored⟩ := ih (i := i + 1) (by omega) (n + 1)
    rw [requestWords_cons]
    refine ⟨.request i w :: ops, ?_, fun t => ?_⟩
    · rw [State.judgeAll, State.judgeWrite_request (by omega)]
      dsimp only [State.stage]
      rw [judged]
    · rw [List.zip_cons_cons, State.applyAll]
      obtain ⟨earlier, later⟩ := stored (t.applyOp a (0x00020000 + 4 * i) w (.request i w))
      have put : (t.applyOp a (0x00020000 + 4 * i) w (.request i w)).car.mbxReq = KV.put 0 t.car.mbxReq i w := rfl
      rw [put] at earlier
      refine ⟨fun j hj => (earlier j (by omega)).trans (KV.get_put_ne _ _ _ _ (by omega)), fun j x found => ?_⟩
      cases j with
      | zero =>
        obtain rfl : w = x := by simpa using found
        exact (earlier i (by omega)).trans (KV.get_put_self _ _ _ _)
      | succ j =>
        rw [show i + (j + 1) = i + 1 + j by omega]
        exact later j x (by simpa using found)

theorem writeBurst_request (bar4 : Bool) {data : List Nat} {i : Nat} (short : data.length ≤ 16) (fits : i + data.length ≤ 1024) :
    ∀ j w, data[j]? = some w → KV.get 0 (writeBurst bar4 (0x00020000 + 4 * i) data s).car.mbxReq (i + j) = w := by
  obtain ⟨ops, judged, stored⟩ := State.judgeAll_request (s := s) (if bar4 then Via.bar4 else .bar0).access fits 0
  unfold writeBurst
  dsimp only
  rw [if_neg (by omega), show (List.range data.length).map (fun j => (0x00020000 + 4 * i + 4 * j, data.getD j 0)) = requestWords i data from rfl,
    judged]
  exact (stored s).2

theorem State.readWords_request (a : Access) {l : List Nat} (inside : ∀ i ∈ l, i < 1024) :
    ∃ late, s.readWords a (l.map fun i => 0x00020000 + 4 * i) = ((l.map (KV.get 0 s.car.mbxReq), late), s) := by
  induction l with
  | nil => exact ⟨_, rfl⟩
  | cons i l ih =>
    obtain ⟨late, rest⟩ := ih fun j hj => inside j (List.mem_cons_of_mem _ hj)
    rw [List.map_cons, State.readWords, regTarget_request (inside i (List.mem_cons_self ..))]
    dsimp only [State.readTarget]
    rw [rest]
    exact ⟨_, rfl⟩

/-- A burst read of the request area answers its words. -/
theorem readBurst_request (bar4 : Bool) {i n : Nat} (short : n ≤ 16) (fits : i + n ≤ 1024) :
    Emit.readData ((List.range n).map fun j => KV.get 0 s.car.mbxReq (i + j)) ∈ (readBurst bar4 (0x00020000 + 4 * i) n s).out := by
  have words : (List.range n).map (fun j => 0x00020000 + 4 * i + 4 * j) = ((List.range n).map (i + ·)).map fun k => 0x00020000 + 4 * k := by
    rw [List.map_map]
    refine List.map_congr_left fun j _ => ?_
    show 0x00020000 + 4 * i + 4 * j = 0x00020000 + 4 * (i + j)
    omega
  have inside : ∀ k ∈ (List.range n).map (i + ·), k < 1024 := fun k hk => by
    obtain ⟨j, hj, rfl⟩ := List.mem_map.1 hk
    have := List.mem_range.1 hj
    omega
  have defined : (((List.range n).map (i + ·)).map fun k => 0x00020000 + 4 * k).find? (fun x => (regTarget x).isNone) = none := by
    rw [List.find?_eq_none]
    intro x hx
    obtain ⟨k, hk, rfl⟩ := List.mem_map.1 hx
    simp [regTarget_request (inside k hk)]
  obtain ⟨late, read⟩ := State.readWords_request (s := s) (if bar4 then Via.bar4 else .bar0).access inside
  unfold readBurst
  dsimp only
  rw [if_neg (by omega), words, defined, read, List.map_map]
  exact List.mem_append_right _ (List.mem_singleton_self _)

end
end Sys2Proof.Machine
end


section
/-!
Words of multi-word values (R62, R63): a lower word enters the shadow, the last commits the value.
-/

namespace Sys2Proof.Machine

section
variable {s : State} {a : Access} {via : Via} {addr sub u off v : Nat} {r : RegDesc}

/-- An accepted word of a multi-word value has come to steps 5 and 6 of Table 3.3. -/
theorem State.judgeWrite_multi (target : regTarget addr = some (.reg sub u off r)) (long : 1 < r.mwLen) (config : accMask r Acc.config ≠ 0)
    (sized : v < 65536) (accepted : (s.judgeWrite a addr (maskData 0xFFFF v)).isRight = true) :
    s.judgeWrite a addr (maskData 0xFFFF v) = s.judgeMulti a sub u off r 0xFFFF v := by
  obtain ⟨isMask, isData⟩ := maskData_parts (mask := 0xFFFF) (by decide) sized
  obtain ⟨op, judged⟩ := Sum.isRight_iff.1 accepted
  rw [judged]
  unfold State.judgeWrite at judged
  rw [target, maskData, isMask, isData] at judged
  dsimp only at judged
  rw [if_neg (by decide)] at judged
  iterate 3
    split at judged
    · cases judged
  split at judged
  · split at judged <;> cases judged
  rw [if_pos (by simp [long, config])] at judged
  exact judged.symm

/-- A word put into a shadow stands there, tagged with its origin. -/
theorem State.find_putShadow (o : Origin) (key i w : Nat) : ∃ h, KV.find (s.putShadow o key i w).shadows key = some h ∧
    h.code = o.code ∧ h.id = o.id ∧ h.words.find? (fun q => q.1 == i) = some (i, w) :=
  ⟨_, KV.find_set_self _ _ _, rfl, rfl, List.find?_cons_of_pos (beq_self_eq_true i)⟩

/-- An accepted lower word of a value enters the value's shadow. -/
theorem hostWrite_lowerWord (target : regTarget addr = some (.reg sub u off r)) (lower : r.mwIdx + 1 < r.mwLen)
    (config : accMask r Acc.config ≠ 0) (sized : v < 65536) (accepted : (s.judgeWrite via.access addr (maskData 0xFFFF v)).isRight = true) :
    hostWrite via addr (maskData 0xFFFF v) s =
      (s.putShadow via.origin (unitBase sub u + (off - 4 * r.mwIdx)) r.mwIdx v).writeAnswer via none := by
  have multi := State.judgeWrite_multi target (by omega) config sized accepted
  have judged : s.judgeWrite via.access addr (maskData 0xFFFF v) = .inr (.shadow (unitBase sub u + (off - 4 * r.mwIdx)) r.mwIdx v) := by
    rw [multi] at accepted ⊢
    unfold State.judgeMulti at accepted ⊢
    dsimp only at accepted ⊢
    simp only [if_pos lower, merge16_full _ sized] at accepted ⊢
    split at accepted
    · cases accepted
    · next follows => rw [if_neg follows]
  unfold hostWrite State.writeReg
  rw [judged]
  rfl

/-! ## The commit of a trigger's time -/

/-- The row of a word of TRG.TIME (Table 6.4). -/
def trgTimeRow (i : Nat) : RegDesc := ⟨0x10 + 4 * i, 4, 1, i, 7, false, [⟨0, 16, .l, 0⟩]⟩

theorem trgTime_addr (k i : Nat) (hk : k < 32) : (F.TRG_TIME k i).addr = unitBase 1 (32 + k) + (0x10 + 4 * i) := by
  unfold unitBase F.TRG_TIME
  dsimp only
  rw [if_neg (by omega)]
  omega

theorem regTarget_trgTime : ∀ k < 32, regTarget (F.TRG_TIME k 6).addr = some (.reg 1 (32 + k) 0x28 (trgTimeRow 6)) := by decide

theorem findRow_trgTime : ∀ k < 32, ∀ i < 7, findRow (unitRows 1 (32 + k)) (0x10 + 4 * i) = some (trgTimeRow i, 0) := by decide

theorem trgTime_keys : ∀ k < 32, ∀ i < 7, (F.TRG_TIME k i).key ≠ F.NVS_BANKS_MODIFIED.key ∧ (F.TRG_TIME k i).key ∉ settleKeys := by decide

/-- The words of a committed time (R62): the last as written, the others from the shadow where they were written. -/
def State.timeWord (s : State) (k v i : Nat) : Nat := if i = 6 then v else s.shadowWord 1 (32 + k) 0x10 i

/-- An accepted write of the last word is the commit of all seven. -/
theorem State.judgeWrite_trgTime {k : Nat} (hk : k < 32) (sized : v < 65536)
    (accepted : (s.judgeWrite a (F.TRG_TIME k 6).addr (maskData 0xFFFF v)).isRight = true) (sound : a.shadowBad = none) :
    s.judgeWrite a (F.TRG_TIME k 6).addr (maskData 0xFFFF v) =
      .inr (.words 1 (32 + k) 0x10 ((List.range 7).map fun i => (0x10 + 4 * i, s.timeWord k v i, 0xFFFF))) := by
  have multi := State.judgeWrite_multi (regTarget_trgTime k hk) (by decide) (by decide) sized accepted
  rw [multi] at accepted ⊢
  obtain ⟨op, judged⟩ := Sum.isRight_iff.1 accepted
  rw [judged]
  unfold State.judgeMulti at judged
  dsimp only at judged
  rw [if_neg (by decide)] at judged
  split at judged
  · cases judged
  rw [sound] at judged
  dsimp only at judged
  split at judged
  · cases judged
  split at judged
  · refine judged.symm.trans (congrArg (fun l => Sum.inr (WrOp.words 1 (32 + k) 0x10 l)) ?_)
    refine List.map_congr_left fun i hi => ?_
    rw [merge16_full _ sized, List.getD_eq_getElem?_getD, List.getElem?_map, List.getElem?_range (List.mem_range.1 hi), ite_self]
    rfl
  · cases judged

/-- A word of a commit is stored, and its parity with it. -/
def State.wordCommitted (s : State) (sub u : Nat) (q : Nat × Nat × Nat) : State :=
  match findRow (unitRows sub u) q.1 with
  | some (r, _) => { s.storeWord r (unitBase sub u + q.1) q.2.1 with bad := KV.erase s.bad (unitBase sub u + q.1) }
  | none => s

theorem State.wordCommitted_shadows (q : Nat × Nat × Nat) : (s.wordCommitted sub u q).shadows = s.shadows := by
  unfold State.wordCommitted
  split
  · next r _ _ =>
    obtain ⟨regs, stored⟩ := s.storeWord_fields r (unitBase sub u + q.1) q.2.1
    rw [stored]
  · rfl

theorem State.getF_wordCommitted {k i : Nat} (hk : k < 32) (hi : i < 7) (w m j : Nat) :
    (s.wordCommitted 1 (32 + k) (0x10 + 4 * i, w, m)).getF (F.TRG_TIME k j) = if j = i then w % 65536 else s.getF (F.TRG_TIME k j) := by
  unfold State.wordCommitted
  rw [findRow_trgTime k hk i hi, ← trgTime_addr k i hk]
  show (s.setF (F.TRG_TIME k i) (bitsOf w 15 0)).getF (F.TRG_TIME k j) = _
  split
  · next same =>
    rw [same, State.getF_setF_self]
    show bitsOf w 15 0 % 65536 = w % 65536
    unfold bitsOf
    omega
  · next other => exact State.getF_setF_ne _ _ (Fld.key_ne_of_addr (show 0 < 32 by decide) (show 0 < 32 by decide) (by unfold F.TRG_TIME; dsimp only; omega)
      (by unfold F.TRG_TIME; dsimp only; omega) (by unfold F.TRG_TIME; dsimp only; omega))

/-- Every word of a commit holds what it was given. -/
theorem State.getF_wordsCommitted {k j : Nat} (hk : k < 32) (w : Nat → Nat) {l : List Nat} (inside : ∀ i ∈ l, i < 7) (s : State) :
    ((l.map fun i => (0x10 + 4 * i, w i, 0xFFFF)).foldl (fun s q => s.wordCommitted 1 (32 + k) q) s).getF (F.TRG_TIME k j) =
      if j ∈ l then w j % 65536 else s.getF (F.TRG_TIME k j) := by
  induction l generalizing s with
  | nil => rfl
  | cons i l ih =>
    rw [List.map_cons, List.foldl_cons, ih fun x hx => inside x (List.mem_cons_of_mem _ hx),
      State.getF_wordCommitted hk (inside i (List.mem_cons_self ..))]
    by_cases same : j = i <;> simp [same]

/-- The entries of a commit. -/
def State.commitLogged (s : State) (o : Origin) (b : Nat) (l : List (Nat × Nat × Nat)) : State :=
  l.foldl (fun s q => if q.2.1 = q.2.2 then s else s.logReg o (b + q.1) q.2.1 q.2.2) s

theorem State.commitLogged_keeps (o : Origin) (b : Nat) (l : List (Nat × Nat × Nat)) (s : State) :
    (s.commitLogged o b l).shadows = s.shadows ∧
      ∀ f : Fld, f.key ≠ F.NVS_BANKS_MODIFIED.key → (s.commitLogged o b l).getF f = s.getF f := by
  refine List.foldlRecOn (motive := fun t : State => t.shadows = s.shadows ∧ ∀ f : Fld, f.key ≠ F.NVS_BANKS_MODIFIED.key → t.getF f = s.getF f)
    l _ ⟨rfl, fun _ _ => rfl⟩ fun t kept q _ => ?_
  obtain ⟨shadows, fields⟩ := kept
  split
  · exact ⟨shadows, fields⟩
  · have logged := t.traces_logE o.code o.id kREG true (b + q.1) q.2.1 q.2.2
    exact ⟨logged.shadows.trans shadows, fun f hf => (State.getF_setF_ne _ _ hf).trans ((logged.getF f).trans (fields f hf))⟩

/-- A commit's words in their registers, and the shadow emptied. -/
def State.timeCommitted (s : State) (k : Nat) (l : List (Nat × Nat × Nat)) : State :=
  l.foldl (fun t q => t.wordCommitted 1 (32 + k) q) { s with shadows := KV.erase s.shadows (unitBase 1 (32 + k) + 0x10) }

theorem State.timeCommitted_shadows (k : Nat) (l : List (Nat × Nat × Nat)) :
    (s.timeCommitted k l).shadows = KV.erase s.shadows (unitBase 1 (32 + k) + 0x10) :=
  List.foldlRecOn (motive := fun t : State => t.shadows = KV.erase s.shadows (unitBase 1 (32 + k) + 0x10)) l _ rfl
    fun _ kept _ _ => (State.wordCommitted_shadows _).trans kept

/-- A commit empties the shadow, stores its words and logs them; a trigger's time has no further effect. -/
theorem State.applyCommit_trgTime {k : Nat} (hk : k < 32) (l : List (Nat × Nat × Nat)) :
    ∃ olds, s.applyCommit a 1 (32 + k) 0x10 l = (s.timeCommitted k l).commitLogged a.origin (unitBase 1 (32 + k)) olds := by
  have quiet : ∀ (t : State) (n : Nat), t.afterCommit 1 (32 + k) 0x10 n = t := fun t n => by
    unfold State.afterCommit
    rw [if_pos rfl, if_neg (by omega), if_neg (by simp; omega)]
  unfold State.applyCommit
  dsimp only
  rw [quiet]
  exact ⟨_, rfl⟩

theorem hostWrite_trgTime {k : Nat} (hk : k < 32) (sized : v < 65536)
    (accepted : (s.judgeWrite via.access (F.TRG_TIME k 6).addr (maskData 0xFFFF v)).isRight = true) :
    (∀ i < 7, (hostWrite via (F.TRG_TIME k 6).addr (maskData 0xFFFF v) s).getF (F.TRG_TIME k i) = s.timeWord k v i % 65536) ∧
      KV.find (hostWrite via (F.TRG_TIME k 6).addr (maskData 0xFFFF v) s).shadows (F.TRG_TIME k 0).addr = none := by
  have judged := State.judgeWrite_trgTime hk sized accepted rfl
  generalize words : (List.range 7).map (fun i => (0x10 + 4 * i, s.timeWord k v i, 0xFFFF)) = l at judged
  obtain ⟨olds, applied⟩ := State.applyCommit_trgTime (s := s) (a := via.access) hk l
  have written : hostWrite via (F.TRG_TIME k 6).addr (maskData 0xFFFF v) s = (s.applyCommit via.access 1 (32 + k) 0x10 l).writeAnswer via none := by
    unfold hostWrite State.writeReg
    rw [judged]
    dsimp only [State.applyOp]
    rw [if_neg (by simp [State.mirrored])]
    subst words
    rfl
  obtain ⟨shadows, fields⟩ := State.commitLogged_keeps via.access.origin (unitBase 1 (32 + k)) olds (s.timeCommitted k l)
  rw [← applied] at shadows fields
  have answered := (s.applyCommit via.access 1 (32 + k) 0x10 l).traces_writeAnswer via none
  rw [written]
  refine ⟨fun i hi => ?_, ?_⟩
  · rw [answered.getF, fields _ (trgTime_keys k hk i hi).1, State.timeCommitted, ← words, State.getF_wordsCommitted hk _ fun i => List.mem_range.1,
      if_pos (List.mem_range.2 hi)]
  · rw [answered.shadows, shadows, trgTime_addr k 0 hk, State.timeCommitted_shadows]
    exact KV.find_erase_self _ _

end
end Sys2Proof.Machine
end


section
/-!
Reads of a host (R64, R79, R132, R140): snapshots, captures, the queues of timestamps and units that do not answer.
-/

namespace Sys2Proof.Machine

section
variable {s : State} {via : Via} {addr sub u off : Nat} {r : RegDesc}

/-! ## Reads of registers -/

/-- A read of a register that answers: its word, and what the reader's snapshot becomes. -/
theorem hostRead_defined (target : regTarget addr = some (.reg sub u off r)) (ordinary : r.priv = false) (present : s.absent sub u = false) :
    hostRead via addr s = (s.readDefined via.reader sub u off r).2.emit (via.readAnswer false (s.readDefined via.reader sub u off r).1) := by
  rw [hostRead_target via target]
  dsimp only [State.readTarget]
  rw [if_neg (by simp [ordinary]), if_neg (by simp [present])]
  rfl

/-- An answer on PCIe is the word, on the SPI a status and the word (R46, R79). -/
theorem Via.readAnswer_mem {absent : Bool} {w : Nat} {l : List Emit} (sent : via.readAnswer absent w ∈ l) :
    (via = .bar0 ∨ via = .bar4 → Emit.readData [w] ∈ l) ∧
      ∀ b, via = .spi b → Emit.spi ((if absent then [0xE5] else [0xA0]) ++ beBytes 4 w) ∈ l := by
  constructor
  · rintro (rfl | rfl) <;> exact sent
  · rintro b rfl
    exact sent

theorem State.mem_out_emit (s : State) (e : Emit) : e ∈ (s.emit e).out := List.mem_append_right _ (List.mem_singleton_self _)

/-- A register reads the same once what the previous command sent is gone. -/
theorem State.regWord_fresh (s : State) (sub u off : Nat) : s.fresh.regWord sub u off = s.regWord sub u off := by
  have derived : s.fresh.derived sub u off = s.derived sub u off := by
    unfold State.derived
    rfl
  have data : ∀ addr, s.fresh.regData addr = s.regData addr := fun _ => rfl
  simp only [State.regWord, derived, data]
  rfl

/-- The lowest word of a value: the reader's snapshot is taken of all its words (R64). -/
theorem State.readDefined_lowest (rd : Reader) (lowest : r.mwIdx = 0) (long : 1 < r.mwLen) (notSnap : ¬ (sub = 1 ∧ u = 0 ∧ 0x40 ≤ off))
    (notQueue : ¬ (sub = 1 ∧ 4 ≤ u ∧ u < 8 ∧ 0x70 ≤ off)) :
    s.readDefined rd sub u off r = (s.regWord sub u off,
      { s with readSnaps :=
          KV.set s.readSnaps (snapKey (unitBase sub u + off) rd) ((List.range r.mwLen).map fun i => s.regWord sub u (off + 4 * i)) }) := by
  unfold State.readDefined
  rw [if_neg (by simpa [and_assoc] using notSnap), if_neg (by simpa [and_assoc] using notQueue), if_neg (by omega)]
  dsimp only
  rw [if_pos lowest, lowest, Nat.mul_zero, Nat.sub_zero, List.getD_eq_getElem?_getD, List.getElem?_map, List.getElem?_range (by omega)]
  rfl

/-- TIM.SNAP takes the reader's capture (R132). -/
theorem State.readDefined_snap (rd : Reader) (r : RegDesc) : (s.readDefined rd 1 0 0x40 r).2 = s.captureSnap rd := rfl

/-- ENT_4 of a port's queue (R140). -/
theorem State.readDefined_ent4 (rd : Reader) {p : Nat} (hp : p < 4) (r : RegDesc) : s.readDefined rd 1 (4 + p) 0x80 r = s.readEnt4 rd p := by
  unfold State.readDefined
  rw [if_neg (by simp), if_pos (by simp; omega)]
  dsimp only
  rw [if_neg (by decide), if_pos rfl, Nat.add_sub_cancel_left]

theorem State.readEnt4_head {rd : Reader} {p : Nat} {e : TsEntry} {l : List TsEntry} (queued : s.tsq p = e :: l)
    (snapped : KV.find s.stamps.headSnap (headKey rd p) = some e) : s.readEnt4 rd p = (e.time.sec / 2 ^ 32, s.setTsq p l) := by
  unfold State.readEnt4
  rw [snapped, queued]
  exact if_pos rfl

theorem State.tsq_setTsq (p : Nat) (l : List TsEntry) : (s.setTsq p l).tsq p = l := KV.get_put_self _ _ _ _

/-- The timestamping units of the ports always answer. -/
theorem State.absent_port {p : Nat} (hp : p < 4) : s.absent 1 (4 + p) = false := by
  unfold State.absent State.unpowered unitDomain
  rw [if_neg (by decide), if_neg (by simp; omega), if_neg (by simp)]
  simp

theorem regTarget_snap : ∃ r, regTarget 0x00400040 = some (.reg 1 0 0x40 r) ∧ r.priv = false := ⟨_, rfl, rfl⟩

/-- The row of ENT_4 (Table 6.2). -/
def ent4Row : RegDesc := ⟨0x80, 4, 1, 4, 5, false, [⟨0, 32, .ro, 0⟩]⟩

theorem regTarget_ent4 : ∀ p < 4, regTarget (F.TSU_ENT_4_SEC_HI p).addr = some (.reg 1 (4 + p) 0x80 ent4Row) := by decide

/-! ## Units that do not answer (R79) -/

theorem fallback_absent (target : regTarget addr = some (.reg sub u off r)) (ordinary : r.priv = false) (absent : s.absent sub u = true) :
    fallback via addr none s = (s.raiseAbsent sub u addr).emit (via.readAnswer true 0) := by
  obtain ⟨parts, -, -⟩ := regTarget_reg target
  unfold fallback
  rw [parts]
  dsimp only
  rw [if_neg (by simp [absent]), hostRead_target via target]
  dsimp only [State.readTarget]
  rw [if_neg (by simp [ordinary]), if_pos absent]

/-- XDOM_ABSENT stands in the unit's sticky bits and fires (R79). -/
theorem State.raiseAbsent_xdom (addr : Nat) :
    ((s.raiseAbsent sub u addr).unit (unitKey sub u)).xdom = true ∧ Ev.XDOM_ABSENT ∈ (s.raiseAbsent sub u addr).ev.sticky := by
  refine ⟨?_, State.fire_sticky _ _ _ _⟩
  unfold State.raiseAbsent
  dsimp only
  rw [State.unit, (State.traces_fire _ _ _ _).units]
  exact congrArg UnitCB.xdom (s.unit_setUnit_self _ _)

end

/-- Settles O24: each access is followed to what it stores, takes or answers, and settling keeps it. -/
theorem registerAccessesTransferData : Obligations.RegisterAccessesTransferData := by
  refine ⟨?_, ?_, ?_, ?_, ?_, ?_, ?_, ?_, ?_⟩
  · intro s via g v data reachable free hg hv word
    obtain ⟨t, e, settled⟩ := happen_whenReached (plainWrite via (F.EVT_EV_EN_EN g).addr 15 data.toNat) reachable
    rw [plainWrite_whole, word] at settled
    obtain ⟨stored, answered⟩ := hostWrite_evtEnable (s := s.fresh) (via := via) free hg hv
    exact ⟨t, e, (settled.getF _ fun mem => evtEnable_key g hg (List.mem_append_left _ mem)).trans stored,
      fun b spi => settled.out.subset (answered b spi)⟩
  · intro s bar4 i data reachable short fits
    obtain ⟨t, e, settled⟩ := happen_whenReached (writeBurst bar4 (0x00020000 + 4 * i) (data.map BitVec.toNat)) reachable
    refine ⟨t, e, fun j w found => ?_⟩
    rw [settled.car]
    exact writeBurst_request (s := s.fresh) bar4 (by simpa using short) (by simpa using fits) j w.toNat (by simp [found])
  · intro s bar4 i n reachable short fits
    obtain ⟨t, e, settled⟩ := happen_whenReached (readBurst bar4 (0x00020000 + 4 * i) n) reachable
    exact ⟨t, e, settled.out.subset (readBurst_request (s := s.fresh) bar4 short fits)⟩
  · intro s via addr sub u off v r data accepted target lower config sized word
    obtain ⟨reachable, accepted⟩ := accepted
    rw [word] at accepted
    obtain ⟨t, e, settled⟩ := happen_whenReached (hostWrite via addr data.toNat) reachable
    rw [word, hostWrite_lowerWord target lower config sized accepted] at settled
    obtain ⟨h, found, tagged⟩ := s.fresh.find_putShadow via.origin (unitBase sub u + (off - 4 * r.mwIdx)) r.mwIdx v
    exact ⟨t, h, e, by rw [settled.shadows, (State.traces_writeAnswer _ _ _).shadows]; exact found, tagged⟩
  · intro s via k v data accepted hk sized word
    obtain ⟨reachable, accepted⟩ := accepted
    rw [word] at accepted
    obtain ⟨t, e, settled⟩ := happen_whenReached (commitWrite via (F.TRG_TIME k 6).addr data.toNat none) reachable
    have settled : State.Settled (hostWrite via (F.TRG_TIME k 6).addr data.toNat s.fresh) t := settled
    rw [word] at settled
    obtain ⟨words, emptied⟩ := hostWrite_trgTime (s := s.fresh) hk sized accepted
    have stored : ∀ i < 7, t.getF (F.TRG_TIME k i) = s.timeWord k v i % 65536 := fun i hi =>
      (settled.getF _ (trgTime_keys k hk i hi).2).trans (words i hi)
    refine ⟨t, e, (stored 6 (by decide)).trans (Nat.mod_eq_of_lt sized), fun i hi => ?_, by rw [settled.shadows]; exact emptied⟩
    rw [stored i (by omega), State.timeWord, if_neg (by omega)]
  · intro s via addr sub u off r reachable target lowest long ordinary present notSnap notQueue
    obtain ⟨t, e, settled⟩ := happen_whenReached (hostRead via addr) reachable
    obtain ⟨-, base, -⟩ := regTarget_reg target
    rw [hostRead_defined (s := s.fresh) target ordinary present, State.readDefined_lowest _ lowest long notSnap notQueue] at settled
    simp only [State.regWord_fresh] at settled
    refine ⟨t, e, ?_, Via.readAnswer_mem (settled.out.subset (State.mem_out_emit _ _))⟩
    rw [settled.readSnaps, base]
    exact KV.find_set_self _ _ _
  · intro s via reachable present
    obtain ⟨t, e, settled⟩ := happen_whenReached (hostRead via 0x00400040) reachable
    obtain ⟨r, target, ordinary⟩ := regTarget_snap
    rw [hostRead_defined (s := s.fresh) target ordinary present] at settled
    have captured : KV.get {} t.time.snaps via.reader.idx = KV.get {} (s.fresh.captureSnap via.reader).time.snaps via.reader.idx := by
      rw [settled.time]
      rfl
    refine ⟨t, e, ?_⟩
    rw [captured]
    unfold State.captureSnap
    dsimp only
    rw [KV.get_put_self]
    exact ⟨rfl, rfl, rfl, rfl, rfl⟩
  · intro s via p entry l reachable queued snapped
    obtain ⟨t, e, settled⟩ := happen_whenReached (hostRead via (F.TSU_ENT_4_SEC_HI p).addr) reachable
    rw [hostRead_defined (s := s.fresh) (regTarget_ent4 p p.isLt) rfl (State.absent_port p.isLt), State.readDefined_ent4 _ p.isLt,
      State.readEnt4_head (s := s.fresh) queued snapped] at settled
    refine ⟨t, e, ?_, (Via.readAnswer_mem (settled.out.subset (State.mem_out_emit _ _))).1⟩
    rw [State.tsq, settled.stamps]
    exact State.tsq_setTsq (s := s.fresh) p l
  · intro s via addr sub u off r reachable target ordinary absent
    obtain ⟨t, e, settled⟩ := happen_whenReached (fallback via addr none) reachable
    rw [fallback_absent (s := s.fresh) target ordinary absent] at settled
    obtain ⟨raised, fired⟩ := s.fresh.raiseAbsent_xdom (sub := sub) (u := u) addr
    refine ⟨t, e, ?_, settled.sticky _ fired, Via.readAnswer_mem (settled.out.subset (State.mem_out_emit _ _))⟩
    rw [State.unit, settled.units]
    exact raised

end Sys2Proof.Machine
end

section
/-!
Requests on firmware, diagnosis, the pair, health and power (R43, R393, R400, R423, R445, R447, R449, R465, R466, R474).
-/

namespace Sys2Proof.Machine

/-! ## Bits and stores -/

/-- A byte of a request is below 256. -/
theorem Req.field_byte_lt (q : Req) (o : Nat) : q.field o 1 < 256 := by
  unfold Req.field leAt
  rcases q.params.drop o with _ | ⟨b, l⟩
  · exact Nat.zero_lt_succ _
  · simpa [leNat] using b.isLt

/-- A mask of channels that is not 0 names one. -/
theorem maskList_ne_nil {m : Nat} (some : m ≠ 0) (byte : m < 256) : maskList m ≠ [] := fun none => by
  refine some (Nat.zero_of_testBit_eq_false fun i => ?_)
  by_cases channel : i < 8
  · exact Bool.eq_false_iff.2 (List.filter_eq_nil_iff.1 none i (List.mem_range.2 channel))
  · exact Nat.testBit_lt_two_pow (byte.trans_le (Nat.pow_le_pow_right (n := 2) (by decide) (Nat.le_of_not_lt channel)))

/-- A bit taken out of a mask leaves the others. -/
theorem bitOf_noBit (m b j : Nat) : bitOf (noBit m b) j = (bitOf m j && decide (j ≠ b)) := by
  unfold bitOf noBit
  split
  · next set =>
    obtain ⟨x, rfl⟩ := Nat.exists_eq_add_of_le (Nat.ge_two_pow_of_testBit set)
    have clear : x.testBit b = false := by simpa [bitOf, Nat.testBit_two_pow_add_eq] using set
    rw [Nat.add_sub_cancel_left]
    rcases lt_trichotomy j b with low | rfl | high
    · simp [Nat.testBit_two_pow_add_gt low, low.ne]
    · simp [clear]
    · obtain ⟨k, rfl⟩ := Nat.exists_eq_add_of_le (show b + 1 ≤ j from high)
      have above : ∀ y : Nat, y.testBit (b + 1 + k) = (y / 2 ^ b / 2).testBit k := fun y => by
        rw [Nat.div_div_eq_div_mul, ← pow_succ, Nat.testBit_div_two_pow, Nat.add_comm]
      have even : x / 2 ^ b % 2 = 0 := by simpa [Nat.testBit_eq_decide_div_mod_eq] using clear
      have same : (x / 2 ^ b + 1) / 2 = x / 2 ^ b / 2 := by omega
      rw [above, above, Nat.add_div_left _ (Nat.two_pow_pos b), same]
      simp [show b + 1 + k ≠ b by omega]
  · next clear =>
    by_cases same : j = b
    · simpa [same, bitOf] using clear
    · simp [same]

/-- What one step of a loop brings about for its own element, and every other step keeps, holds after the loop. -/
theorem foldl_brings {α σ : Type} {f : σ → α → σ} {P : σ → Prop} {a : α} {l : List α}
    (each : ∀ s, ∀ b ∈ l, a = b ∨ P s → P (f s b)) {s : σ} (given : a ∈ l ∨ P s) : P (l.foldl f s) := by
  induction l generalizing s with
  | nil => simpa using given
  | cons b l ih =>
    refine ih (fun s c mem => each s c (List.mem_cons_of_mem b mem)) ?_
    rcases given with mem | holds
    · exact (List.mem_cons.1 mem).symm.imp_right fun same => each s b List.mem_cons_self (.inl same)
    · exact .inr (each s b List.mem_cons_self (.inr holds))

/-- A key erased is not listed, and no other key becomes so. -/
theorem KV.find_erase_none {α : Type} {m : KV α} {j k : Nat} (gone : k = j ∨ KV.find m k = none) : KV.find (KV.erase m j) k = none := by
  by_cases same : k = j
  · exact same ▸ KV.find_erase_self m k
  · exact (KV.find_erase_ne m same).trans (gone.resolve_left same)

/-- Keys erased from a store are not listed. -/
theorem KV.find_foldl_erase {α : Type} {l : List Nat} {m : KV α} {k : Nat} (gone : k ∈ l ∨ KV.find m k = none) :
    KV.find (l.foldl KV.erase m) k = none :=
  foldl_brings (P := fun m => KV.find m k = none) (fun _ _ _ => KV.find_erase_none) gone

/-! ## What is kept -/

theorem kept_amp (P : AmpState → Prop) : Kept fun t => P t.amp := fun _ _ served h => (congrArg P served.amp).mpr h
theorem kept_hlt (P : HealthState → Prop) : Kept fun t => P t.hlt := fun _ _ served h => (congrArg P served.hlt).mpr h
theorem kept_pwr (P : PowerState → Prop) : Kept fun t => P t.pwr := fun _ _ served h => (congrArg P served.pwr).mpr h
theorem kept_sticky (n : Nat) : Kept fun t => n ∈ t.ev.sticky := fun _ _ served h => served.sticky n h

/-- A hand-over that is fixed stays fixed. -/
theorem kept_hand (h : Option (Nat × Nat)) : Kept fun t => t.pair.hand = h := fun _ _ served fixed =>
  (congrArg (·.hand) served.pair).trans fixed

/-- The firmware's staging buffer and patch area are kept. -/
theorem State.Served.firmware {u t : State} (h : State.Served u t) :
    t.car.fwStage = u.car.fwStage ∧ t.car.fwFresh = u.car.fwFresh ∧ t.car.fwWritten = u.car.fwWritten ∧
      t.car.fwCommitted = u.car.fwCommitted := by
  rw [h.car]
  exact ⟨rfl, rfl, rfl, rfl⟩

section
variable {s : State} {q : Req}

/-! ## Firmware -/

/-- The state with a word of FW_BLOCK in the staging buffer, which it fills anew after a block was written (R43). -/
def State.fwStaged (s : State) (i w : Nat) : State :=
  { s with car := { s.car with
      fwStage := KV.put 0xFFFFFFFF (if s.car.fwFresh then [] else s.car.fwStage) i w, fwFresh := false } }

theorem State.fwStage_fwStaged (i w : Nat) : KV.get 0xFFFFFFFF (s.fwStaged i w).car.fwStage i = w := KV.get_put_self _ _ _ _

/-- FW_BLOCK of one word that passes its checks stages it; FINAL begins the write of the block (R43). -/
theorem opFwBlock_word (length : q.params.length = 12) (block : q.field 0 1 ≤ 3) (final : q.field 1 1 ≤ 1) (pad : q.field 2 2 = 0)
    (word : q.field 4 4 % 4 = 0) (inside : q.field 4 4 + 4 ≤ 65536) (may : q.field 1 1 = 1 → s.pins.pfwLow = false) :
    opFwBlock q s = if q.field 1 1 = 1 then .long (s.fwStaged (q.field 4 4 / 4) (q.field 8 4))
      else .done (s.fwStaged (q.field 4 4 / 4) (q.field 8 4)) [] (some (noObject q.opcode)) := by
  have outside : ¬ q.field 4 4 + 4 > 65536 := by omega
  have barred : ¬ (q.field 1 1 = 1 ∧ s.pins.pfwLow = true) := fun h => by simp [may h.1] at h
  unfold opFwBlock
  dsimp only
  rw [length, if_neg (by decide), if_neg (by omega), if_neg (by omega), if_neg (by simp [pad]), if_neg (by simpa [word] using inside),
    if_neg (by simpa using barred)]
  rfl

/-- FW_COMMIT of four written blocks whose CRC is given makes them the patch (R43). -/
theorem opFwCommit_does (length : q.params.length = 4) (written : ∀ b < 4, s.car.fwWritten.contains b = true)
    (crc : crc32c s.patchBytes = q.field 0 4) :
    (opFwCommit q s).Does [] fun t => t.car.fwCommitted = some (q.field 0 4) ∧ t.car.fwWritten = [] := by
  have all : (List.range 4).all s.car.fwWritten.contains = true := List.all_eq_true.2 fun b hb => written b (List.mem_range.1 hb)
  unfold opFwCommit
  rw [if_neg (by simp [length]), if_neg (by simp [all]), if_neg (by simp [crc])]
  exact ⟨rfl, rfl, rfl⟩

/-! ## Diagnosis -/

/-- The checks of a diagnosis request let through masks that name a channel (R390). -/
theorem State.diagParams_mask {lim : Nat} (params : s.diagParams q lim = none) : maskList (q.field 4 1) ≠ [] := by
  refine maskList_ne_nil (fun zero => ?_) (q.field_byte_lt 4)
  unfold State.diagParams at params
  dsimp only at params
  rw [zero] at params
  split at params
  · cases params
  · rw [if_pos (by simp)] at params
    cases params

/-- A live test of a channel begins anew (R393). -/
def State.liveRestart (s : State) (x : Nat) : State := (s.liveAbandon x 1).liveStart x

theorem State.live_liveAbandon_ne {x y : Nat} (other : y ≠ x) (cause : Nat) :
    KV.find (s.liveAbandon x cause).amp.live y = KV.find s.amp.live y := by
  unfold State.liveAbandon
  split
  · rfl
  · rw [(State.traces_fire _ _ _ _).amp]
    exact KV.find_erase_ne _ other

theorem State.live_liveStart (x : Nat) : (s.liveStart x).amp.live = KV.set s.amp.live x {} := by
  rw [State.liveStart, (State.traces_fire _ _ _ _).amp]
  rfl

/-- Restarting a channel's test leaves it begun, and the others as they are. -/
theorem State.live_liveRestart {x y : Nat} (begun : y = x ∨ KV.find s.amp.live y = some {}) :
    KV.find (s.liveRestart x).amp.live y = some {} := by
  rw [State.liveRestart, State.live_liveStart]
  by_cases same : y = x
  · exact same ▸ KV.find_set_self _ _ _
  · rw [KV.find_set_ne _ _ same, State.live_liveAbandon_ne same]
    exact begun.resolve_left same

theorem State.live_foldl_liveRestart {l : List Nat} {y : Nat} (named : y ∈ l) :
    KV.find (l.foldl State.liveRestart s).amp.live y = some {} :=
  foldl_brings (P := fun s : State => KV.find s.amp.live y = some {}) (fun _ _ _ => State.live_liveRestart) (.inl named)

/-- A test that begins fires PILOT_START (R395). -/
theorem State.pilot_foldl_liveRestart {l : List Nat} {y : Nat} (named : y ∈ l) :
    Ev.PILOT_START ∈ (l.foldl State.liveRestart s).ev.sticky :=
  foldl_brings (P := fun s : State => Ev.PILOT_START ∈ s.ev.sticky) (fun _ _ _ _ => State.fire_sticky _ _ _ _) (.inl named)

/-- DIAG_LIVE begins a live test of every channel it names (R393). -/
theorem opDiagLive_does (length : q.params.length = 8) (params : s.diagParams q 0 = none)
    (may : ∀ x ∈ maskList (q.field 4 1), s.liveRefusal x = 0) :
    (opDiagLive q s).Does [] fun t =>
      (∀ x ∈ maskList (q.field 4 1), KV.find t.amp.live x = some {}) ∧ Ev.PILOT_START ∈ t.ev.sticky := by
  have none_ : (maskList (q.field 4 1)).any (fun x => s.liveRefusal x != 0) = false :=
    List.any_eq_false.2 fun x hx => by simp [may x hx]
  unfold opDiagLive
  rw [if_neg (by simp [length]), params]
  dsimp only
  rw [if_neg (by simp [none_])]
  obtain ⟨_, named⟩ := List.exists_mem_of_ne_nil _ (State.diagParams_mask params)
  exact ⟨rfl, fun x hx => State.live_foldl_liveRestart hx, State.pilot_foldl_liveRestart named⟩

/-- The Plates with a channel's last result, marked as a Plate (R400). -/
def storePlate (last plates : KV DiagRec) (x : Nat) : KV DiagRec :=
  match KV.find last x with
  | some r => KV.set plates x { r with flags := r.flags + 32 }
  | none => plates

/-- A Plate stored is its channel's last result, marked, and the others stay. -/
theorem find_storePlate {last plates : KV DiagRec} {x y : Nat} {r : DiagRec} (result : KV.find last x = some r)
    (stored : x = y ∨ KV.find plates x = some { r with flags := r.flags + 32 }) :
    KV.find (storePlate last plates y) x = some { r with flags := r.flags + 32 } := by
  by_cases same : x = y
  · subst same
    rw [storePlate, result]
    exact KV.find_set_self _ _ _
  · unfold storePlate
    split
    · exact (KV.find_set_ne _ _ same).trans (stored.resolve_left same)
    · exact stored.resolve_left same

theorem find_foldl_storePlate {last plates : KV DiagRec} {l : List Nat} {x : Nat} {r : DiagRec} (result : KV.find last x = some r)
    (named : x ∈ l) : KV.find (l.foldl (storePlate last) plates) x = some { r with flags := r.flags + 32 } :=
  foldl_brings (P := fun m => KV.find m x = some { r with flags := r.flags + 32 }) (fun _ _ _ => find_storePlate result) (.inl named)

/-- A channel that may have a Plate has a last result. -/
theorem State.plateOk_result {x : Nat} (ok : s.plateOk x = true) : ∃ r, KV.find s.amp.last x = some r := by
  unfold State.plateOk at ok
  split at ok
  · next r found => exact ⟨r, found⟩
  · cases ok

/-- Verified Plates are held, and PLATE_STORED fires (R400). -/
theorem State.plates_written (s : State) (plates : KV DiagRec) (detail : Nat) :
    (({ s with amp := { s.amp with plate := plates } }.refreshDiag).fire Ev.PLATE_STORED diagObj detail).amp.plate = plates := by
  rw [(State.traces_fire _ _ _ _).amp]
  rfl

/-- PLATE_STORE of channels that may makes their last results their Plates (R400). -/
theorem opPlateStore_does (ok : ∀ x ∈ maskList (q.field 4 1), s.plateOk x = true) :
    (opPlateStore true q s).Does [] fun t => Ev.PLATE_STORED ∈ t.ev.sticky ∧ ∀ x ∈ maskList (q.field 4 1),
      KV.find t.amp.plate x = (KV.find s.amp.last x).map (fun r => { r with flags := r.flags + 32 }) := by
  have all : (maskList (q.field 4 1)).any (fun x => !s.plateOk x) = false := List.any_eq_false.2 fun x hx => by simp [ok x hx]
  unfold opPlateStore
  dsimp only
  rw [if_neg (by simp [all]), if_neg (by decide)]
  refine ⟨rfl, State.fire_sticky _ _ _ _, fun x hx => ?_⟩
  obtain ⟨r, result⟩ := State.plateOk_result (ok x hx)
  rw [State.plates_written, result]
  exact find_foldl_storePlate result hx

/-- PLATE_STORE with CLEAR takes the Plates of its channels away (R400). -/
theorem opPlateClear_does :
    (opPlateClear true q s).Does [] fun t => Ev.PLATE_STORED ∈ t.ev.sticky ∧ ∀ x ∈ maskList (q.field 4 1),
      KV.find t.amp.plate x = none := by
  unfold opPlateClear
  dsimp only
  rw [if_neg (by decide)]
  refine ⟨rfl, State.fire_sticky _ _ _ _, fun x hx => ?_⟩
  rw [State.plates_written]
  exact KV.find_foldl_erase (.inl hx)

/-- The flag of opcode 0x0813 selects its form once the checks that both share are passed (R400). -/
theorem opPlate_form (verify : Bool) (length : q.params.length = 8) (params : s.diagParams q 1 = none) :
    opPlate verify q s = if bitOf (q.field 5 1) 0 then opPlateClear verify q s else opPlateStore verify q s := by
  unfold opPlate
  rw [if_neg (by simp [length]), params]

/-! ## The pair -/

/-- The tick 2 ms ahead depends on the clock and on the rate family. -/
theorem State.in2ms_congr {t : State} (time : t.time = s.time) (family : t.on F.LOOP_MEDIA_FAMILY = s.on F.LOOP_MEDIA_FAMILY) :
    t.in2ms = s.in2ms := by
  simp only [State.in2ms, State.now, State.tps, State.rate, time, family]

/-- PAIR_TAKEOVER fixes a hand-over 2 ms ahead, of a unit that is active and of one that takes over (R423). -/
theorem opPairTakeover_does (length : q.params.length = 8) (obj : q.obj = roleObj) (force : q.field 4 1 ≤ 1) (pad : q.field 5 3 = 0)
    (may : s.pairSt = psACTIVE ∧ s.pair.pState = psREADY ∨ s.pairSt = psREADY ∨ s.pairSt = psSYNC ∧ q.field 4 1 = 1) :
    (opPairTakeover q s).Does
      (leBytes 8 (Tai.ofUnits (s.tickUnits s.in2ms)).sec ++ leBytes 4 (Tai.ofUnits (s.tickUnits s.in2ms)).ns)
      fun t => t.pair.hand = some (s.in2ms, if s.pairSt = psACTIVE then 5 else 4) := by
  have allowed : ¬ (((s.pairSt = psALONE ∨ s.pairSt = psCLONING) ∨ s.pairSt = psSYNC ∧ q.field 4 1 = 0) ∨
      s.pairSt = psACTIVE ∧ s.pair.pState ≠ psREADY) := by
    unfold psACTIVE psREADY psSYNC at may
    unfold psALONE psCLONING psSYNC psACTIVE psREADY
    omega
  unfold opPairTakeover
  dsimp only
  generalize (if s.pairSt = psACTIVE then 5 else 4) = cause
  rw [if_neg (by simp [length]), if_neg (by simp [obj]), if_neg (by omega), if_neg (by simp [pad]), if_neg (by simpa using allowed)]
  exact ⟨rfl, rfl⟩

/-! ## Health -/

/-- A record written is the ledger's newest (R442). -/
theorem State.ledger_last (s : State) (kind inst : Nat) (v : List Int) :
    ((s.ledger kind inst v).hlt.ledger.getLast?).map (fun r => (r.kind, r.inst)) = some (kind, inst) := by
  have newest : ∀ (l : List LedgerRec) (r : LedgerRec),
      (if (l ++ [r]).length > 16128 then (l ++ [r]).drop 1 else l ++ [r]).getLast? = some r := by
    intro l r
    split
    · next full => rw [List.getLast?_drop, if_neg (by omega), List.getLast?_concat]
    · exact List.getLast?_concat
  unfold State.ledger
  dsimp only [State.setF_hlt, State.setHlt]
  rw [newest]
  rfl

/-- The trends of a channel start anew (R445). -/
def State.dropBaseline (kind : Nat) (s : State) (x : Nat) : State :=
  [0, 1, 2, 3].foldl (fun s f => s.setHlt { s.hlt with base := KV.erase s.hlt.base (trendKey kind x f) }) s

theorem State.base_dropBaseline (kind x : Nat) :
    (s.dropBaseline kind x).hlt.base = ([0, 1, 2, 3].map (trendKey kind x)).foldl KV.erase s.hlt.base := rfl

/-- A channel's baselines are empty once dropped, and stay so. -/
theorem State.find_dropBaseline {kind x y f : Nat} (hf : f < 4)
    (gone : x = y ∨ KV.find s.hlt.base (trendKey kind x f) = none) :
    KV.find (s.dropBaseline kind y).hlt.base (trendKey kind x f) = none := by
  rw [State.base_dropBaseline]
  refine KV.find_foldl_erase (gone.imp_left fun same => ?_)
  exact same ▸ List.mem_map_of_mem (List.mem_range (n := 4).2 hf)

theorem State.find_foldl_dropBaseline {l : List Nat} {kind x f : Nat} (hf : f < 4) (named : x ∈ l) :
    KV.find (l.foldl (State.dropBaseline kind) s).hlt.base (trendKey kind x f) = none :=
  foldl_brings (P := fun s : State => KV.find s.hlt.base (trendKey kind x f) = none) (fun _ _ _ => State.find_dropBaseline hf) (.inl named)

/-- BASELINE_RESET empties the baselines it names and records it (R445). -/
theorem opBaselineReset_does (length : q.params.length = 8) (obj : q.obj = monObj) (kind : q.field 4 1 = 6 ∨ q.field 4 1 = 7)
    (channel : q.field 5 1 ≤ 7 ∨ q.field 5 1 = 0xFF) (pad : q.field 6 2 = 0) :
    (opBaselineReset q s).Does [] fun t =>
      (∀ x < 8, ∀ f < 4, (q.field 5 1 = x ∨ q.field 5 1 = 0xFF) → KV.find t.hlt.base (trendKey (q.field 4 1) x f) = none) ∧
      (t.hlt.ledger.getLast?).map (fun r => (r.kind, r.inst)) = some (11, q.field 4 1) := by
  have known : ¬ (q.field 4 1 ≠ 6 ∧ q.field 4 1 ≠ 7) := by omega
  have named : ¬ (q.field 5 1 > 7 ∧ q.field 5 1 ≠ 0xFF) := by omega
  unfold opBaselineReset
  dsimp only
  rw [if_neg (by simp [length]), if_neg (by simp [obj]), if_neg (by simpa using known), if_neg (by simpa using named),
    if_neg (by simp [pad])]
  refine ⟨rfl, fun x hx f hf hit => ?_, State.ledger_last _ _ _ _⟩
  refine State.find_foldl_dropBaseline (kind := q.field 4 1) hf ?_
  split
  · exact List.mem_range.2 hx
  · next one => exact List.mem_singleton.2 (hit.resolve_right one).symm

/-- CALENDER_RUN starts a run, or queues one behind the run in progress (R447). -/
theorem opCalRun_does (length : q.params.length = 4) (obj : q.obj = calObj) (may : s.calMayRun = true) :
    (opCalRun q s).Does [] fun t => t.on F.CAL_STATUS_RUNNING = true ∧
      (s.on F.CAL_STATUS_RUNNING = true → t.on F.CAL_STATUS_QUEUED = true) := by
  unfold opCalRun
  rw [if_neg (by simp [length]), if_neg (by simp [obj]), if_neg (by simp [may])]
  refine ⟨rfl, ?_⟩
  unfold State.calRequest
  rw [if_neg (by simp [may])]
  split
  · next running =>
    exact ⟨by rwa [State.on, State.getF_setF_ne _ _ (by decide)], fun _ => State.on_setF_one _ _ rfl⟩
  · next idle => exact ⟨State.on_setF_one _ _ rfl, fun running => absurd running idle⟩

/-- An item of an approval takes effect (R449). -/
def State.approveItem (o : Origin) (s : State) (i : Nat) : State :=
  (((s.setItem i (s.getI (F.CAL_PROPOSED i)) o).ledger 10 i [s.planned i, s.getI (F.CAL_PROPOSED i), 2, o.code]).unpropose i).incSat
    F.CAL_APPROVALS

/-- An item withdrawn is not pending, and no other item becomes so (R448). -/
theorem State.calPending_unpropose {i j : Nat} (idle : j = i ∨ bitOf s.calPending j = false) :
    bitOf (s.unpropose i).calPending j = false := by
  have cleared : (s.unpropose i).calPending = noBit s.calPending i % 2 ^ 7 := State.getF_setF_self _ _ _
  rw [cleared, bitOf, Nat.testBit_mod_two_pow]
  have bit := bitOf_noBit s.calPending i j
  rw [bitOf] at bit
  rw [bit]
  rcases idle with rfl | idle
  · simp
  · simp [idle]

/-- An item that takes effect, and its record, leave what is pending. -/
theorem State.calPending_setItem_ledger (i : Nat) (v : Int) (o : Origin) (r : List Int) :
    ((s.setItem i v o).ledger 10 i r).calPending = s.calPending :=
  (((s.stays_setItem i v o).mono (List.Subset.refl _) (List.subset_append_left _ [⟨11, 0, 0⟩])).ledger 10 i r (by decide) (by decide)
    (by decide)).getF F.CAL_STATUS_PENDING (by decide)

theorem State.calPending_approveItem (o : Origin) {i j : Nat} (idle : j = i ∨ bitOf s.calPending j = false) :
    bitOf (s.approveItem o i).calPending j = false := by
  unfold State.approveItem State.calPending
  rw [State.getF_incSat_ne _ (by decide)]
  exact State.calPending_unpropose (idle.imp_right fun idle => by rwa [State.calPending_setItem_ledger])

theorem State.calPending_approve (o : Origin) {m j : Nat} (named : j ∈ maskItems m) : bitOf (s.approve m o).calPending j = false :=
  foldl_brings (f := State.approveItem o) (P := fun s : State => bitOf s.calPending j = false) (fun _ _ _ => State.calPending_approveItem o)
    (.inl named)

/-- CALENDER_APPROVE leaves no item of its mask pending (R449). -/
theorem opCalApprove_does (length : q.params.length = 8) (obj : q.obj = calObj) (pad : q.field 5 3 = 0)
    (ok : s.approveOk (q.field 4 1) = true) (free : s.approveHeld (q.field 4 1) = false) :
    (opCalApprove q s).Does [] fun t => ∀ i ∈ maskItems (q.field 4 1), bitOf t.calPending i = false := by
  unfold opCalApprove
  dsimp only
  rw [if_neg (by simp [length]), if_neg (by simp [obj]), if_neg (by simp [pad]), if_neg (by simp [ok, free])]
  exact ⟨rfl, fun i hi => State.calPending_approve q.origin hi⟩

/-! ## Power -/

/-- A transition under way shows its target (R465). -/
def State.Entering (t : State) (goal : Nat) : Prop := t.on F.PWR_STATUS_ENTERING = true ∧ t.getF F.PWR_STATUS_TARGET = goal

theorem kept_entering (goal : Nat) : Kept fun t => t.Entering goal := (kept_on (by decide)).and (kept_getF (by decide))

/-- The state with a transition to `goal` begun: nothing has stopped yet (R466). -/
def State.entering (s : State) (goal : Nat) : State :=
  { (s.setF F.PWR_STATUS_ENTERING 1).setF F.PWR_STATUS_TARGET goal with pwr := { s.pwr with stopped := false } }

theorem State.entering_entering {goal : Nat} (state : goal < 4) : (s.entering goal).Entering goal := by
  have target : (s.entering goal).getF F.PWR_STATUS_TARGET = goal % 4 := State.getF_setF_self _ _ _
  have on : (s.entering goal).on F.PWR_STATUS_ENTERING = (s.setF F.PWR_STATUS_ENTERING 1).on F.PWR_STATUS_ENTERING :=
    congrArg (· == 1) (State.getF_setF_ne _ _ (by decide))
  exact ⟨on.trans (State.on_setF_one _ _ rfl), target.trans (Nat.mod_eq_of_lt state)⟩

/-- Beginning a transition leaves every other field. -/
theorem State.getF_entering (goal : Nat) {f : Fld} (entering : f.key ≠ F.PWR_STATUS_ENTERING.key)
    (target : f.key ≠ F.PWR_STATUS_TARGET.key) : (s.entering goal).getF f = s.getF f :=
  (State.getF_setF_ne _ _ target).trans (State.getF_setF_ne _ _ entering)

/-- A transition to a higher state begins at once (R466). -/
theorem State.beginTransition_up {goal : Nat} (up : s.powerSt < goal) : s.beginTransition goal = s.entering goal := by
  have state : (s.entering goal).powerSt = s.powerSt := State.getF_entering goal (by decide) (by decide)
  exact if_pos (state.symm ▸ up)

/-- A transition to a lower state of an active unit with a ready partner begins with a hand-over (R423, R466). -/
theorem State.beginTransition_handOver {goal : Nat} (down : goal < s.powerSt) (active : s.pairSt = psACTIVE)
    (ready : s.pair.pState = psREADY) :
    s.beginTransition goal = (s.entering goal).setPairD { s.pair with hand := some (s.in2ms, 5) } := by
  have state : (s.entering goal).powerSt = s.powerSt := State.getF_entering goal (by decide) (by decide)
  have role : (s.entering goal).pairSt = s.pairSt := State.getF_entering goal (by decide) (by decide)
  have tick : (s.entering goal).in2ms = s.in2ms :=
    State.in2ms_congr rfl (congrArg (· == 1) (State.getF_entering goal (by decide) (by decide)))
  have fixed : (s.entering goal).setPairD { (s.entering goal).pair with hand := some ((s.entering goal).in2ms, 5) } =
      (s.entering goal).setPairD { s.pair with hand := some (s.in2ms, 5) } := by rw [tick]; rfl
  rw [← fixed]
  have lower : ¬ (s.entering goal).powerSt < goal := by omega
  have paired : (decide ((s.entering goal).pairSt = psACTIVE) && decide ((s.entering goal).pair.pState = psREADY)) = true := by
    simpa [role, active] using (show (s.entering goal).pair.pState = psREADY from ready)
  exact (if_neg lower).trans (if_pos paired)

/-- PWR_STATE of another state, with no transition under way: what stands after the checks (R465). -/
theorem opPwrState_begins {goal : Nat} (length : q.params.length = 8) (obj : q.obj = pwrObj) (named : q.field 4 1 = goal)
    (state : goal < 4) (pad : q.field 5 3 = 0) (other : goal ≠ s.powerSt) (idle : s.on F.PWR_STATUS_ENTERING = false)
    (power : s.pins.pfwLow = false) (safe : goal < s.powerSt → ∀ u < 3, s.inSafe 14 u = false)
    (listen : goal = 2 → s.getF (F.MAC_CTL_MODE (s.getF F.PWR_CTL_LISTEN_PORT)) ≠ 1) :
    opPwrState q s =
      .done ((if goal < s.powerSt then s else s.noteWake [6] goal).beginTransition goal) [] (some pwrObj) := by
  have lowering : s.lowering = false := by simp [State.lowering, idle]
  have held : ¬ (goal < s.powerSt ∧ (s.inSafe 14 0 = true ∨ s.inSafe 14 1 = true ∨ s.inSafe 14 2 = true)) := by
    rintro ⟨down, held⟩
    simp [safe down] at held
  have port : ¬ (goal = 2 ∧ s.getF (F.MAC_CTL_MODE (s.getF F.PWR_CTL_LISTEN_PORT)) = 1) := fun h => listen h.1 h.2
  unfold opPwrState
  dsimp only
  rw [named, if_neg (by simp [length]), if_neg (by simp [obj]), if_neg (by omega), if_neg (by simp [pad]), if_neg (by simp [lowering]),
    if_neg (by simp [other]), if_neg (by simpa [idle, power, or_assoc] using held), if_neg (by simpa using port)]

/-- PWR_STATE of RUN from a lower state begins the transition, with the command as its source (R465, R468). -/
theorem opPwrState_up (length : q.params.length = 8) (obj : q.obj = pwrObj) (up : s.powerSt < q.field 4 1) (run : q.field 4 1 = 3)
    (pad : q.field 5 3 = 0) (idle : s.on F.PWR_STATUS_ENTERING = false) (power : s.pins.pfwLow = false) :
    (opPwrState q s).Does [] fun t => t.Entering 3 ∧ t.pwr.wakeSrc = 6 ∧ t.pwr.wakeTo = 3 := by
  rw [run] at up
  have state : (s.noteWake [6] 3).powerSt = s.powerSt :=
    (State.getF_incSat_ne _ (by decide)).trans (State.getF_setF_ne _ _ (by decide))
  rw [opPwrState_begins length obj run (by decide) pad (by omega) idle power (fun down => by omega) (fun two => by omega),
    if_neg (by omega),
    State.beginTransition_up (by omega)]
  exact ⟨rfl, State.entering_entering (by decide), rfl, rfl⟩

/-- PWR_STATE of a lower state begins the transition, with a hand-over to the ready partner (R465, R466). -/
theorem opPwrState_down (length : q.params.length = 8) (obj : q.obj = pwrObj) (down : q.field 4 1 < s.powerSt) (pad : q.field 5 3 = 0)
    (idle : s.on F.PWR_STATUS_ENTERING = false) (power : s.pins.pfwLow = false) (safe : ∀ u < 3, s.inSafe 14 u = false)
    (active : s.pairSt = psACTIVE) (ready : s.pair.pState = psREADY)
    (listen : q.field 4 1 = 2 → s.getF (F.MAC_CTL_MODE (s.getF F.PWR_CTL_LISTEN_PORT)) ≠ 1) (state : q.field 4 1 < 4) :
    (opPwrState q s).Does [] fun t => t.Entering (q.field 4 1) ∧ t.pair.hand = some (s.in2ms, 5) := by
  rw [opPwrState_begins length obj rfl state pad down.ne idle power (fun _ => safe) listen, if_pos down,
    State.beginTransition_handOver down active ready]
  exact ⟨rfl, State.entering_entering (s := s) state, rfl⟩

/-- RESET falls due (R474). -/
theorem opReset_does (length : q.params.length = 4) (obj : q.obj = pwrObj) :
    (opReset q s).Does [] fun t => t.pwr.resetDue = true := by
  unfold opReset
  rw [if_neg (by simp [length]), if_neg (by simp [obj])]
  exact ⟨rfl, rfl⟩

end

/-- Settles O22: each operation has its effect on any state that passes its checks, and concluding the request keeps it. -/
theorem serviceRequestsAct : Obligations.ServiceRequestsAct := by
  refine ⟨?_, ?_, ?_, ?_, ?_, ?_, ?_, ?_, ?_, ?_, ?_, ?_, ?_⟩
  · intro s q h length block final pad word inside
    refine exec_does h (fun u t served staged => ?_) fun a => ?_
    · obtain ⟨stage, fresh, -⟩ := served.firmware
      rw [stage, fresh]
      exact staged
    · rw [opFwBlock_word (q := q.as 0x0050) length block (by simp [final]) pad word inside (by simp [final]), if_neg (by simp [final])]
      exact ⟨rfl, State.fwStage_fwStaged _ _, rfl⟩
  · intro s q h length block final pad word inside power
    obtain ⟨t, r, e, running, served⟩ := exec_long (f := opFwBlock) h rfl (by decide) (by decide) fun r =>
      (opFwBlock_word (s := s.at_ q.carrier r) (q := q.as 0x0050) length block final.le pad word inside fun _ => power).trans (if_pos final)
    refine ⟨t, e, by rw [running]; rfl, ?_⟩
    rw [served.firmware.1]
    exact State.fwStage_fwStaged _ _
  · intro s q h length written crc
    refine exec_does h (fun u t served done => ?_) fun a => opFwCommit_does (s := s.at_ q.carrier a) (q := q.as 0x0051) length written crc
    obtain ⟨-, -, blocks, patch⟩ := served.firmware
    rw [blocks, patch]
    exact done
  · intro s q h length params may
    exact exec_does h ((kept_amp fun x => ∀ y ∈ _, KV.find x.live y = some {}).and (kept_sticky _)) fun a =>
      opDiagLive_does (s := s.at_ q.carrier a) (q := q.as 0x0811) length params may
  · intro s q h length params store ok
    refine exec_does h ((kept_sticky _).and (kept_amp fun x => ∀ y ∈ _, KV.find x.plate y = (KV.find s.amp.last y).map _)) fun a =>
      OpOut.Does.unless (by simp [store, bitOf]) ?_
    rw [opPlate_form (s := s.at_ q.carrier a) (q := q.as 0x0813) true length params, if_neg (by simp [store, bitOf])]
    exact opPlateStore_does (s := s.at_ q.carrier a) (q := q.as 0x0813) ok
  · intro s q h length params clear
    refine exec_does h ((kept_sticky _).and (kept_amp fun x => ∀ y ∈ _, KV.find x.plate y = none)) fun a =>
      OpOut.Does.unless (by simp [clear, bitOf]) ?_
    rw [opPlate_form (s := s.at_ q.carrier a) (q := q.as 0x0813) true length params, if_pos (by simp [clear, bitOf])]
    exact opPlateClear_does
  · intro s q h length obj force pad may
    exact exec_does h (kept_hand _) fun a => opPairTakeover_does (s := s.at_ q.carrier a) (q := q.as 0x0A10) length obj force pad may
  · intro s q h length obj kind channel pad
    exact exec_does h (kept_hlt fun x =>
        (∀ y < 8, ∀ f < 4, (q.field 5 1 = y ∨ q.field 5 1 = 0xFF) → KV.find x.base (trendKey (q.field 4 1) y f) = none) ∧
          (x.ledger.getLast?).map (fun r => (r.kind, r.inst)) = some (11, q.field 4 1)) fun a =>
      opBaselineReset_does (q := q.as 0x0B12) length obj kind channel pad
  · intro s q h length obj may
    exact exec_does h ((kept_on (by decide)).and (kept_on (by decide)).imp) fun a =>
      opCalRun_does (s := s.at_ q.carrier a) (q := q.as 0x0B10) length obj may
  · intro s q h length obj pad ok free
    refine exec_does h (fun u t served idle i hi => ?_) fun a =>
      opCalApprove_does (s := s.at_ q.carrier a) (q := q.as 0x0B11) length obj pad ok free
    rw [State.calPending, served.getF _ (by decide)]
    exact idle i hi
  · intro s q h length obj up run pad idle power
    obtain ⟨t, e, answered, ⟨entering, target⟩, source, goal⟩ := exec_does h
      ((kept_entering 3).and (kept_pwr fun x => x.wakeSrc = 6 ∧ x.wakeTo = 3)) fun a =>
        opPwrState_up (s := s.at_ q.carrier a) (q := q.as 0x0E10) length obj up run pad idle power
    exact ⟨t, e, answered, entering, target, source, goal⟩
  · intro s q h length obj down pad idle power safe active ready listen state
    obtain ⟨t, e, answered, ⟨entering, target⟩, hand⟩ := exec_does h
      ((kept_entering (q.field 4 1)).and (kept_hand (some (s.in2ms, 5)))) fun a =>
        opPwrState_down (s := s.at_ q.carrier a) (q := q.as 0x0E10) length obj down pad idle power safe active ready listen state
    exact ⟨t, e, answered, entering, target, hand⟩
  · intro s q h length obj
    exact exec_does h (kept_pwr fun x => x.resetDue = true) fun a => opReset_does (q := q.as 0x0E12) length obj

end Sys2Proof.Machine
end

section
/-!
A step of the block (R108, R112): the front command acts on the state with the queue's rest; on an empty queue a media cycle passes.
-/

namespace Sys2Proof.Machine

theorem step_of_cons {s : State} {c : Instr} {rest : List Instr} (h : s.pending = c :: rest) :
    step s = exec c { s with pending := rest } := by
  unfold step
  rw [h]

theorem step_of_nil {s : State} (h : s.pending = []) : step s = .next s.mediaCycle := by
  unfold step
  rw [h]

/-- Settles O1: a step is read off the queue. -/
theorem stepRunsFrontCommand : Obligations.StepRunsFrontCommand :=
  ⟨fun _ _ _ h => step_of_cons h, fun _ h => step_of_nil h⟩

end Sys2Proof.Machine
end

section
/-!
What steers a PTP domain (R117, R118, R121, R122, R124): its servo, its port state, its grandmaster and its offsets move in the
units of the timebase and the domains; the counts of messages received and the messages a domain holds stay.
-/

namespace Sys2Proof.Machine

/-! ## Domains -/

/-- A domain changed reads as changed. -/
@[simp] theorem State.dom_setDom (s : State) (d : Nat) (x : Domain) : (s.setDom d x).dom d = x := by
  unfold State.dom State.setDom
  split <;> rfl

@[simp] theorem State.regs_setDom (s : State) (d : Nat) (x : Domain) : (s.setDom d x).regs = s.regs := by
  unfold State.setDom
  split <;> rfl

/-- A domain is read from the time part. -/
theorem State.dom_congr {s t : State} (h : t.time = s.time) (d : Nat) : t.dom d = s.dom d := by
  unfold State.dom
  rw [h]

/-- There are two domains. -/
theorem State.domainOf_lt {s : State} {port dom d : Nat} (h : s.domainOf port dom = some d) : d < 2 := by
  have := List.mem_of_find?_eq_some h
  simp only [List.mem_cons, List.not_mem_nil, or_false] at this
  omega

/-- The messages a domain holds: the Sync that waits for its Follow_Up, the latest forward difference, the foreign masters. -/
def Domain.messages (x : Domain) : Option (Nat × Nat × Int × Int) × Option Int × List Foreign := (x.sync, x.fwd, x.foreign)

/-- The parts that the domains and what settles after them lie in. -/
def ptpParts : List Part := [.streams, .time]

/-- The units of the timebase and the domains, up to the control-cycle generators (R4). -/
def ptpUnits : List Units := [⟨1, 0, 11⟩]

/-- The counters of Syncs and Announces received. -/
def rxCounts : List Fld := [F.D_SYNC_RX 0, F.D_SYNC_RX 1, F.D_ANN_RX 0, F.D_ANN_RX 1]

theorem syncRx_mem : ∀ d < 2, F.D_SYNC_RX d ∈ rxCounts := by decide
theorem annRx_mem : ∀ d < 2, F.D_ANN_RX d ∈ rxCounts := by decide

/-- Whether a field lies in the units of the timebase and the domains and is no counter of messages received. -/
def Fld.steers (f : Fld) : Bool := f.inUnits ptpUnits && rxCounts.all fun g => g.key != f.key

/-- `t` differs from `s` in what PTP may touch; the counts of messages received, and what `keep` reads of a domain, stay. -/
structure State.Steers {β : Type} (s t : State) (d : Nat) (keep : Domain → β) : Prop where
  stays : s.Stays t ptpParts ptpUnits
  counts : ∀ f ∈ rxCounts, t.getF f = s.getF f
  kept : keep (t.dom d) = keep (s.dom d)

section
variable {β : Type} {s t u : State} {d : Nat} {keep : Domain → β}

theorem State.Steers.refl (s : State) (d : Nat) (keep : Domain → β) : s.Steers s d keep :=
  ⟨State.Stays.refl s _ _, fun _ _ => rfl, rfl⟩

theorem State.Steers.trans (h : s.Steers t d keep) (g : t.Steers u d keep) : s.Steers u d keep :=
  ⟨h.stays.trans g.stays, fun f hf => (g.counts f hf).trans (h.counts f hf), g.kept.trans h.kept⟩

/-- A domain that keeps its messages keeps its foreign masters. -/
theorem State.Steers.foreign (h : s.Steers t d Domain.messages) : s.Steers t d Domain.foreign :=
  ⟨h.stays, h.counts, congrArg (·.2.2) h.kept⟩

theorem State.Steers.ite {c : Prop} [Decidable c] (h : s.Steers t d keep) (g : s.Steers u d keep) :
    s.Steers (if c then t else u) d keep := by
  split
  · exact h
  · exact g

theorem State.Steers.setF (h : s.Steers t d keep) (f : Fld) (v : Nat) (hf : f.steers = true) : s.Steers (t.setF f v) d keep := by
  unfold Fld.steers at hf
  rw [Bool.and_eq_true, List.all_eq_true] at hf
  obtain ⟨inside, others⟩ := hf
  exact ⟨h.stays.setF f v inside,
    fun g hg => (State.getF_setF_ne _ _ (by simpa using others g hg)).trans (h.counts g hg), h.kept⟩

theorem State.Steers.traces (h : s.Steers t d keep) (g : State.Traces t u) : s.Steers u d keep :=
  ⟨h.stays.traces g, fun f hf => (g.getF f).trans (h.counts f hf), by rw [State.dom_congr g.time]; exact h.kept⟩

theorem State.Steers.fire (h : s.Steers t d keep) (src obj detail : Nat) : s.Steers (t.fire src obj detail) d keep :=
  h.traces (t.traces_fire src obj detail)

theorem State.Steers.logState (h : s.Steers t d keep) (org obj old new : Nat) : s.Steers (t.logState org obj old new) d keep :=
  h.traces (t.traces_logState org obj old new)

theorem State.Steers.setStr (h : s.Steers t d keep) (x : StreamState) : s.Steers { t with str := x } d keep :=
  ⟨h.stays.setStr x (by decide), h.counts, h.kept⟩

theorem State.stays_setDom (s : State) (d : Nat) (x : Domain) (us : List Units) : s.Stays (s.setDom d x) ptpParts us := by
  unfold State.setDom
  exact .ite ((State.Stays.refl s _ _).setTime _ (by decide)) ((State.Stays.refl s _ _).setTime _ (by decide))

theorem State.Steers.setDom (h : s.Steers t d keep) (x : Domain) (hx : keep x = keep (t.dom d) := by rfl) :
    s.Steers (t.setDom d x) d keep :=
  ⟨h.stays.trans (t.stays_setDom d x _), fun f hf => (State.getF_congr f (t.regs_setDom d x)).trans (h.counts f hf),
    by rw [State.dom_setDom, hx, h.kept]⟩

/-- What the timebase holds beside the domains. -/
theorem State.Steers.setTime (h : s.Steers t d keep) (x : TimeState) (hA : x.domA = t.time.domA := by rfl)
    (hB : x.domB = t.time.domB := by rfl) : s.Steers { t with time := x } d keep := by
  refine ⟨h.stays.setTime x (by decide), h.counts, ?_⟩
  have same : State.dom { t with time := x } d = t.dom d := by simp only [State.dom, hA, hB]
  rw [same]
  exact h.kept

/-! ## The fields that steering writes -/

theorem steers_statePort : ∀ d < 2, (F.D_STATE_PORT d).steers = true := by decide
theorem steers_stateServo : ∀ d < 2, (F.D_STATE_SERVO d).steers = true := by decide
theorem steers_stepsRemoved : ∀ d < 2, (F.D_STATE_STEPS_REMOVED d).steers = true := by decide
theorem steers_outliers : ∀ d < 2, (F.D_OUTLIERS d).steers = true := by decide
theorem steers_gmId : ∀ d < 2, (F.D_GM_ID_LO d).steers = true ∧ (F.D_GM_ID_HI d).steers = true := by decide
theorem steers_offset : ∀ d < 2, (F.D_OFFSET_LO d).steers = true ∧ (F.D_OFFSET_HI d).steers = true := by decide
theorem steers_gmQual : ∀ d < 2, (F.D_GM_QUAL_CLASS d).steers = true ∧ (F.D_GM_QUAL_ACCURACY d).steers = true ∧
    (F.D_GM_QUAL_PRIORITY1 d).steers = true ∧ (F.D_GM_QUAL_PRIORITY2 d).steers = true := by decide

/-! ## Servo, port state, grandmaster -/

theorem State.Steers.setServo (h : s.Steers t d Domain.messages) (hd : d < 2) (v : Nat) :
    s.Steers (t.setServo d v) d Domain.messages := by
  unfold State.setServo
  dsimp only
  refine .ite h ?_
  exact (((h.setF _ _ (steers_stateServo d hd)).fire _ _ _).logState _ _ _ _).setDom _

theorem State.Steers.setPtpPort (h : s.Steers t d Domain.messages) (hd : d < 2) (v : Nat) :
    s.Steers (t.setPtpPort d v) d Domain.messages := by
  have moved := ((h.setF _ v (steers_statePort d hd)).fire (Ev.A_STATE + d) (objId 1 (d + 1) 0) (v + 16 * t.ptpPort d)).logState
    orgPtp (objId 1 (d + 1) 0) (t.ptpPort d) v
  unfold State.setPtpPort
  dsimp only
  refine .ite h (.ite (.setServo ?_ hd _) (.ite ?_ (.setServo ?_ hd _)))
  all_goals exact .ite (moved.setStr _) moved

theorem State.Steers.restartAverages (h : s.Steers t d Domain.messages) : s.Steers (t.restartAverages d) d Domain.messages :=
  h.setDom _

/-- The registers of a domain that show its grandmaster, and whether both domains name one (R121, R128). -/
def State.showGm (s : State) (d gm : Nat) (x : Announce) : State :=
  let s := s.set64 (F.D_GM_ID_LO d) (F.D_GM_ID_HI d) gm
  let s := s.setF (F.D_GM_QUAL_CLASS d) x.cls
  let s := s.setF (F.D_GM_QUAL_ACCURACY d) x.acc
  let s := s.setF (F.D_GM_QUAL_PRIORITY1 d) x.prio1
  let s := s.setF (F.D_GM_QUAL_PRIORITY2 d) x.prio2
  let s := s.setF (F.D_STATE_STEPS_REMOVED d) x.steps
  let same := s.get64 (F.D_GM_ID_LO 0) (F.D_GM_ID_HI 0) == s.get64 (F.D_GM_ID_LO 1) (F.D_GM_ID_HI 1) &&
    s.get64 (F.D_GM_ID_LO 0) (F.D_GM_ID_HI 0) != 0
  (s.setF (F.D_STATE_SAME_GM 0) (b2n same)).setF (F.D_STATE_SAME_GM 1) (b2n same)

theorem State.Steers.showGm (h : s.Steers t d keep) (hd : d < 2) (gm : Nat) (x : Announce) :
    s.Steers (t.showGm d gm x) d keep := by
  obtain ⟨idLo, idHi⟩ := steers_gmId d hd
  obtain ⟨cls, acc, prio1, prio2⟩ := steers_gmQual d hd
  have identity := (h.setF _ gm idLo).setF _ (gm / 2 ^ 32) idHi
  have quality := (((identity.setF _ x.cls cls).setF _ x.acc acc).setF _ x.prio1 prio1).setF _ x.prio2 prio2
  exact ((quality.setF _ x.steps (steers_stepsRemoved d hd)).setF _ _ (by decide)).setF _ _ (by decide)

/-- What follows where the grandmaster is another: event, entry, new averages, and ACQUIRE where the servo runs (R121, R122). -/
theorem State.Steers.setGm (h : s.Steers t d Domain.messages) (hd : d < 2) (a : Option Announce) :
    s.Steers (t.setGm d a) d Domain.messages := by
  have shown := fun gm x => h.showGm hd gm x
  have restarted := fun gm x => (((shown gm x).fire (Ev.A_GM_CHANGE + d) (objId 1 (d + 1) 0) (gm % 2 ^ 32)).logState orgPtp
    (objId 1 (d + 1) 2) (t.get64 (F.D_GM_ID_LO d) (F.D_GM_ID_HI d) % 65536) (gm % 65536)).restartAverages
  exact .ite (shown _ _) (.ite (restarted _ _) ((restarted _ _).setServo hd _))

/-! ## The best-master algorithm -/

theorem State.Steers.followMaster (h : s.Steers t d Domain.messages) (hd : d < 2) (f : Foreign) :
    s.Steers (t.followMaster d f) d Domain.messages := by
  have selected := h.setDom { t.dom d with sel := some f.src }
  unfold State.followMaster
  dsimp only
  refine .setGm ?_ hd _
  exact .ite selected (selected.setPtpPort hd _)

theorem State.steers_followNone (s : State) (hd : d < 2) (v : Nat) : s.Steers (s.followNone d v) d Domain.foreign := by
  have alone := (State.Steers.refl s d Domain.foreign).setDom { s.dom d with sel := none, sync := none, dreq := none, fwd := none }
  exact alone.trans (((State.Steers.refl _ d Domain.messages).setPtpPort hd v).setGm hd none).foreign

theorem State.steers_bmca (s : State) (hd : d < 2) : s.Steers (s.bmca d) d Domain.foreign := by
  have stay := State.Steers.refl s d Domain.foreign
  have follow : ∀ f, s.Steers (s.followMaster d f) d Domain.foreign := fun f =>
    ((State.Steers.refl s d Domain.messages).followMaster hd f).foreign
  have leave : ∀ v, s.Steers (s.followNone d v) d Domain.foreign := fun v => s.steers_followNone hd v
  have master := State.Steers.ite (c := (decide (s.ptpPort d = psMASTER) || decide (s.ptpPort d = psPRE_MASTER)) = true) stay
    (leave psPRE_MASTER)
  unfold State.bmca
  dsimp only
  refine .ite stay ?_
  split
  · exact .ite stay (.ite (leave _) master)
  · exact .ite (follow _) (.ite master (.ite (.ite stay (leave _)) (follow _)))

/-! ## Offsets -/

theorem State.Steers.correct (h : s.Steers t d keep) (e : Nat) (first : Int) : s.Steers (t.correct e first) d keep := by
  unfold State.correct
  dsimp only
  exact .ite h (.ite (h.setTime _) (h.setTime _))

/-- The servo's transitions after an offset, by the offsets in a row below and far above the threshold (R122). -/
def State.servoStep (s : State) (d lowRun highRun : Nat) : State :=
  if s.ptpServo d = svACQUIRE && 16 ≤ lowRun then
    let s := s.setServo d svLOCKED
    let s := s.setDom d { s.dom d with everLocked := true }
    if s.ptpPort d = psUNCALIBRATED then s.setPtpPort d psSLAVE else s
  else if s.ptpServo d = svLOCKED && 4 ≤ highRun then s.setServo d svACQUIRE
  else s

theorem State.Steers.servoStep (h : s.Steers t d Domain.messages) (hd : d < 2) (lowRun highRun : Nat) :
    s.Steers (t.servoStep d lowRun highRun) d Domain.messages := by
  have locked := (h.setServo hd svLOCKED).setDom { (t.setServo d svLOCKED).dom d with everLocked := true }
  exact .ite (.ite (locked.setPtpPort hd _) locked) (.ite (h.setServo hd _) h)

/-- An offset is counted, and beside its count it steers the domain. -/
theorem State.steers_takeOffset (s : State) (hd : d < 2) (o : Int) :
    (s.incSat (F.D_SYNC_RX d)).Steers (s.takeOffset d o) d Domain.messages := by
  obtain ⟨lo, hi⟩ := steers_offset d hd
  have counted := State.Steers.refl (s.incSat (F.D_SYNC_RX d)) d Domain.messages
  have resumed := State.Steers.ite (c := (s.incSat (F.D_SYNC_RX d)).ptpServo d = svHOLD) (counted.setServo hd svACQUIRE) counted
  refine .ite ((counted.setDom _).setF _ _ (steers_outliers d hd)) (State.Steers.correct ?_ d o)
  exact (((resumed.setDom _).setF _ _ lo).setF _ _ hi).servoStep hd _ _

end
end Sys2Proof.Machine
end

section
/-!
PTP messages and timers (R113 to R123, R127, R129): what each leaves.
-/

namespace Sys2Proof.Machine

/-! ## Syncs, delays, UTC -/

section
variable (s : State) {d : Nat}

theorem inUnits_syncRx : ∀ d < 2, (F.D_SYNC_RX d).inUnits ptpUnits = true := by decide
theorem inUnits_annRx : ∀ d < 2, (F.D_ANN_RX d).inUnits ptpUnits = true := by decide
theorem inUnits_fuMiss : ∀ d < 2, (F.D_FU_MISS d).inUnits ptpUnits = true := by decide
theorem inUnits_dlyMiss : ∀ d < 2, (F.D_DLY_MISS d).inUnits ptpUnits = true := by decide
theorem inUnits_discarded : ∀ d < 2, (F.D_DISCARDED d).inUnits ptpUnits = true := by decide
theorem inUnits_meanPathDelay : ∀ d < 2, (F.D_MPD d).inUnits ptpUnits = true := by decide
theorem inUnits_asymAdj : ∀ d < 2, (F.D_ASYM_ADJ d).inUnits ptpUnits = true := by decide

/-- What holds of a message: its domain and no change, or no domain and a count of what was discarded (R114). -/
theorem State.judgePtp_cases (port : Nat) (m : PtpMsg) (types : List Nat) :
    (∃ d < 2, s.judgePtp port m types = (some d, s)) ∨ ∃ u, s.judgePtp port m types = (none, u) ∧ s.Stays u [] ptpUnits := by
  unfold State.judgePtp
  split
  · exact .inr ⟨s, rfl, State.Stays.refl s _ _⟩
  · next d found =>
    have two := State.domainOf_lt found
    split
    · exact .inl ⟨d, two, rfl⟩
    · exact .inr ⟨_, rfl, (State.Stays.refl s _ _).incSat _ (inUnits_discarded d two)⟩

/-- A message of version 2, of a type expected, goes to its domain (R114). -/
theorem State.judgePtp_of_domain {s : State} {port : Nat} {m : PtpMsg} {types : List Nat} (found : s.domainOf port m.dom = some d)
    (version : m.version = 2) (type : types.contains m.msgType = true) : s.judgePtp port m types = (some d, s) := by
  unfold State.judgePtp
  rw [found]
  simp only [version, type, decide_true, Bool.and_self, if_true]

theorem State.stays_takeOffset (hd : d < 2) (o : Int) : s.Stays (s.takeOffset d o) ptpParts ptpUnits :=
  ((State.Stays.refl s _ _).incSat _ (inUnits_syncRx d hd)).trans (s.steers_takeOffset hd o).stays

theorem State.stays_takeSync (hd : d < 2) (t1 t2 corr : Int) : s.Stays (s.takeSync d t1 t2 corr) ptpParts ptpUnits := by
  have kept := s.stays_setDom d { s.dom d with fwd := some (t2 - t1 - corr), sync := none } ptpUnits
  exact .ite (kept.trans (State.stays_takeOffset _ hd _)) kept

theorem State.stays_takeDelay (hd : d < 2) (v : Int) : s.Stays (s.takeDelay d v) ptpParts ptpUnits :=
  (s.stays_setDom d _ _).setF _ _ (inUnits_meanPathDelay d hd)

theorem State.Steers.takeUtc {β : Type} {keep : Domain → β} {t : State} (h : s.Steers t d keep) (v : Int) :
    s.Steers (t.takeUtc v) d keep := by
  have shown := (h.setF F.TB_STATUS_UTC_VALID 1 (by decide)).setF F.TB_STATUS_UTC_OFFSET (unsigned 16 v) (by decide)
  unfold State.takeUtc
  dsimp only
  exact .ite (shown.setTime _) (.ite shown ((shown.fire _ _ _).logState _ _ _ _))

theorem State.steers_takeAnnounceUtc {β : Type} (keep : Domain → β) (a : Announce) : s.Steers (s.takeAnnounceUtc a) d keep := by
  have leaps := ((State.Steers.refl s d keep).setF F.TB_STATUS_LEAP61 (b2n a.leap61) (by decide)).setF F.TB_STATUS_LEAP59
    (b2n a.leap59) (by decide)
  exact .ite (leaps.takeUtc _ _) leaps

/-! ## Messages -/

theorem ptpSyncRx_stays (port : Fin 4) (m : PtpMsg) (raw : Tai) : s.Stays (ptpSyncRx port m raw s) ptpParts ptpUnits := by
  unfold ptpSyncRx
  rcases s.judgePtp_cases port m [0] with ⟨d, hd, judged⟩ | ⟨u, judged, h⟩ <;> rw [judged]
  · exact .ite (State.Stays.refl s _ _) (.ite (s.stays_setDom _ _ _) (s.stays_takeSync hd _ _ _))
  · exact h.mono (by decide) (by decide)

theorem ptpFollowUpRx_stays (port : Fin 4) (m : PtpMsg) : s.Stays (ptpFollowUpRx port m s) ptpParts ptpUnits := by
  unfold ptpFollowUpRx
  rcases s.judgePtp_cases port m [8] with ⟨d, hd, judged⟩ | ⟨u, judged, h⟩ <;> rw [judged] <;> dsimp only
  · split
    · exact .ite (s.stays_takeSync hd _ _ _) (State.Stays.refl s _ _)
    · exact State.Stays.refl s _ _
  · exact h.mono (by decide) (by decide)

theorem ptpDelayRespRx_stays (port : Fin 4) (m : PtpMsg) : s.Stays (ptpDelayRespRx port m s) ptpParts ptpUnits := by
  unfold ptpDelayRespRx
  rcases s.judgePtp_cases port m [9] with ⟨d, hd, judged⟩ | ⟨u, judged, h⟩ <;> rw [judged] <;> dsimp only
  · split
    · exact .ite (s.stays_takeDelay hd _) (State.Stays.refl s _ _)
    · exact State.Stays.refl s _ _
  · exact h.mono (by decide) (by decide)

theorem ptpPdelayRespRx_stays (port : Fin 4) (m fu : PtpMsg) (raw : Tai) :
    s.Stays (ptpPdelayRespRx port m fu raw s) ptpParts ptpUnits := by
  unfold ptpPdelayRespRx
  rcases s.judgePtp_cases port m [3] with ⟨d, hd, judged⟩ | ⟨u, judged, h⟩ <;> rw [judged] <;> dsimp only
  · split
    · exact .ite (s.stays_takeDelay hd _) (State.Stays.refl s _ _)
    · exact State.Stays.refl s _ _
  · exact h.mono (by decide) (by decide)

/-- An Announce counted and entered in the set of foreign masters (R117). -/
def State.announced (s : State) (d src : Nat) (a : Announce) : State :=
  (s.incSat (F.D_ANN_RX d)).setDom d { s.dom d with foreign := putForeign (s.dom d).foreign { src := src, ann := a } }

/-- What follows an Announce that is entered: the best-master algorithm, and the selected master's UTC. -/
def State.announceDone (s : State) (d src : Nat) (a : Announce) : State :=
  if (s.bmca d).isTod d && ((s.bmca d).dom d).sel == some src then (s.bmca d).takeAnnounceUtc a else s.bmca d

theorem State.steers_announceDone (hd : d < 2) (src : Nat) (a : Announce) : s.Steers (s.announceDone d src a) d Domain.foreign :=
  .ite ((s.steers_bmca hd).trans (State.steers_takeAnnounceUtc _ _ a)) (s.steers_bmca hd)

theorem ptpAnnounceRx_stays (port : Fin 4) (m : PtpMsg) (a : Announce) : s.Stays (ptpAnnounceRx port m a s) ptpParts ptpUnits := by
  unfold ptpAnnounceRx
  rcases s.judgePtp_cases port m [11] with ⟨d, hd, judged⟩ | ⟨u, judged, h⟩ <;> rw [judged]
  · have entered : s.Stays (s.announced d m.src a) ptpParts ptpUnits :=
      ((State.Stays.refl s _ _).incSat _ (inUnits_annRx d hd)).trans (State.stays_setDom _ _ _ _)
    exact .ite (State.Stays.refl s _ _) (entered.trans (State.steers_announceDone _ hd m.src a).stays)
  · exact h.mono (by decide) (by decide)

theorem ptpDelayReqRx_stays (port : Fin 4) (m : PtpMsg) (raw : Tai) : s.Stays (ptpDelayReqRx port m raw s) [] ptpUnits := by
  unfold ptpDelayReqRx
  rcases s.judgePtp_cases port m [1, 2] with ⟨d, hd, judged⟩ | ⟨u, judged, h⟩ <;> rw [judged]
  · exact .ite (State.Stays.refl s _ _) ((State.Stays.refl s _ _).emit _)
  · exact h

/-! ## Timers -/

theorem ptpMasterTx_stays (d : Fin 2) (announce : Bool) : s.Stays (ptpMasterTx d announce s) [] [] :=
  .ite (State.Stays.refl s _ _) (.ite ((State.Stays.refl s _ _).emit _) (((State.Stays.refl s _ _).emit _).emit _))

theorem ptpDelayReqTx_stays (d : Fin 2) (raw : Tai) : s.Stays (ptpDelayReqTx d raw s) ptpParts [] :=
  .ite ((s.stays_setDom d _ _).emit _) (State.Stays.refl s _ _)

/-- The selected master dropped from the set of foreign masters, with its event (R119, Table 5.3). -/
def State.masterDropped (s : State) (d m : Nat) : State :=
  (s.fire (Ev.A_RX_TIMEOUT + d) (objId 1 (d + 1) 0) 1).setDom d
    { s.dom d with foreign := (s.dom d).foreign.filter (fun f => f.src ≠ m), sel := none }

theorem announceTimeout_of_sel {s : State} {d : Fin 2} {m : Nat} (h : (s.dom d).sel = some m) :
    announceTimeout d s = (s.masterDropped d m).bmca d := by
  have fired := State.dom_congr (s.traces_fire (Ev.A_RX_TIMEOUT + d) (objId 1 (d + 1) 0) 1).time d
  unfold announceTimeout
  rw [h]
  dsimp only
  rw [fired]
  rfl

theorem announceTimeout_stays (d : Fin 2) : s.Stays (announceTimeout d s) ptpParts ptpUnits := by
  cases h : (s.dom d).sel with
  | none =>
    unfold announceTimeout
    rw [h]
    exact State.Stays.refl s _ _
  | some m =>
    have dropped : s.Stays (s.masterDropped d m) ptpParts ptpUnits :=
      ((State.Stays.refl s _ _).fire _ _ _).trans (State.stays_setDom _ _ _ _)
    rw [announceTimeout_of_sel h]
    exact dropped.trans (State.steers_bmca _ d.isLt).stays

theorem syncTimeout_stays (d : Fin 2) : s.Stays (syncTimeout d s) ptpParts ptpUnits :=
  .ite (((State.Steers.refl s d _).setServo d.isLt svHOLD).stays.fire _ _ _) (State.Stays.refl s _ _)

theorem followUpTimeout_stays (d : Fin 2) : s.Stays (followUpTimeout d s) ptpParts ptpUnits :=
  .ite (State.Stays.refl s _ _) ((s.stays_setDom d _ _).incSat _ (inUnits_fuMiss d d.isLt))

theorem delayTimeout_stays (d : Fin 2) : s.Stays (delayTimeout d s) ptpParts ptpUnits := by
  have dropped := fun x => (s.stays_setDom d x ptpUnits).incSat _ (inUnits_dlyMiss d d.isLt)
  exact .ite (State.Stays.refl s _ _) (.ite ((dropped _).fire _ _ _) (dropped _))

theorem preMasterTimeout_stays (d : Fin 2) : s.Stays (preMasterTimeout d s) ptpParts ptpUnits :=
  .ite ((State.Steers.refl s d _).setPtpPort d.isLt psMASTER).stays (State.Stays.refl s _ _)

/-! ## Time of day, leaps, asymmetry -/

theorem State.stays_toBoundary : s.Stays s.toBoundary [.time] [⟨14, 0, 0⟩] := by
  have moved := fun x y => ((State.Stays.refl s [.time] [⟨14, 0, 0⟩]).setTime x (by decide)).setTime y (by decide)
  exact .ite (State.Stays.refl s _ _) (.ite ((moved _ _).set64 _ _ _ (by decide) (by decide)) (moved _ _))

theorem State.stays_todSet (d : Nat) : s.Stays (s.todSet d) [.time] ptpUnits := by
  have pending := (State.Stays.refl s [.time] ptpUnits).setTime { s.time with tod := none, step := none } (by decide)
  exact ((pending.setF _ _ (by decide)).setF _ _ (by decide)).setF _ _ (by decide)

theorem todChange_stays : s.Stays (todChange s) [.time] [⟨1, 0, 11⟩, ⟨14, 0, 0⟩] := by
  cases h : s.time.tod with
  | none =>
    unfold todChange
    rw [h]
    exact State.Stays.refl s _ _
  | some d =>
    have boundary := s.stays_toBoundary.mono (ps' := [.time]) (us' := [⟨1, 0, 11⟩, ⟨14, 0, 0⟩]) (by decide) (by decide)
    exact (boundary.andThen (State.stays_todSet _ d)).traces (todChange_traces h)

theorem State.stays_utcMove (n : Int) : s.Stays (s.utcMove n) [] [⟨1, 0, 0⟩] :=
  (((State.Stays.refl s _ _).setF _ _ (by decide)).fire _ _ _).logState _ _ _ _

theorem leapDayEnd_stays : s.Stays (leapDayEnd s) [] [⟨1, 0, 0⟩] :=
  .ite (s.stays_utcMove _) (.ite (s.stays_utcMove _) (State.Stays.refl s _ _))

theorem State.stays_asymMove (hd : d < 2) (new : Int) : s.Stays (s.asymMove d new) [] ptpUnits := by
  have cleared := ((State.Stays.refl s [] ptpUnits).setF F.TB_STATUS_ASYM_AT_LIMIT 0 (by decide)).setRaw Ev.ASYM_LIMIT false
  exact ((cleared.setI _ new (inUnits_asymAdj d hd)).fire _ _ _).logState _ _ _ _

theorem asymTrackPeriod_stays (limit : Nat) (est : Int) : s.Stays (asymTrackPeriod limit est s) [] ptpUnits := by
  have shown := (State.Stays.refl s [] ptpUnits).setISat F.TB_ASYM_EST est (by decide)
  refine .ite (State.Stays.refl s _ _) (.ite shown (.ite ((shown.setF _ _ (by decide)).raise _ _ _) ?_))
  exact shown.trans (State.stays_asymMove _ (by split <;> decide) _)

theorem asymPeriod_stays (est : Int) : s.Stays (asymPeriod est s) [.health] ptpUnits :=
  .ite (((asymTrackPeriod_stays s _ est).mono (by decide) (by decide)).andThen (State.stays_asymMinute _ est)) (State.Stays.refl s _ _)

end

/-- What settles after a message or a timer keeps a frame that has the queues of the domains. -/
theorem State.Stays.ptpSettle {s t : State} {ps : List Part} {us : List Units} (h : s.Stays t ps us) (hp : .streams ∈ ps) :
    s.Stays t.ptpSettle ps us :=
  h.andThen t.stays_ptpSettle (by simpa using hp) (List.nil_subset _)

/-- Settles O47: each message and each timer keeps the frame of its row. -/
theorem ptpMessagesAndTimersTouchTheirDomains : Obligations.PtpMessagesAndTimersTouchTheirDomains := by
  intro s t p d m f raw a e b
  have streams : Part.streams ∈ ptpParts := by decide
  simp only [List.forall_mem_cons, List.not_mem_nil, false_implies, implies_true, and_true]
  refine ⟨⟨?_, ?_, ?_, ?_, ?_, ?_, ?_, ?_, ?_, ?_⟩, ?_, ?_, ?_, ?_, ?_, ?_⟩ <;> intro ends
  · exact happen_whenPort_stays ends ((ptpSyncRx_stays _ p m raw).ptpSettle streams)
  · exact happen_whenPort_stays ends ((ptpFollowUpRx_stays _ p m).ptpSettle streams)
  · exact happen_whenPort_stays ends ((ptpDelayRespRx_stays _ p m).ptpSettle streams)
  · exact happen_whenPort_stays ends ((ptpPdelayRespRx_stays _ p m f raw).ptpSettle streams)
  · exact happen_whenPort_stays ends ((ptpAnnounceRx_stays _ p m a).ptpSettle streams)
  · exact happen_whenAlive_stays ends ((announceTimeout_stays _ d).ptpSettle streams)
  · exact happen_whenAlive_stays ends ((syncTimeout_stays _ d).ptpSettle streams)
  · exact happen_whenAlive_stays ends ((followUpTimeout_stays _ d).ptpSettle streams)
  · exact happen_whenAlive_stays ends ((delayTimeout_stays _ d).ptpSettle streams)
  · exact happen_whenAlive_stays ends ((preMasterTimeout_stays _ d).ptpSettle streams)
  · exact happen_whenPort_stays ends (((ptpDelayReqRx_stays _ p m raw).mono (List.nil_subset _) (by decide)).ptpSettle (by decide))
  · exact happen_whenAlive_stays ends (((ptpMasterTx_stays _ d b).mono (List.nil_subset _) (by decide)).ptpSettle (by decide))
  · exact happen_whenAlive_stays ends ((ptpDelayReqTx_stays _ d raw).ptpSettle streams)
  · exact happen_whenAlive_stays ends (leapDayEnd_stays _)
  · exact happen_whenAlive_stays ends (((todChange_stays _).mono (by decide) (by decide)).ptpSettle (by decide))
  · exact happen_whenAlive_stays ends (asymPeriod_stays _ e)

end Sys2Proof.Machine
end

section
/-!
What PTP messages and timers do (R114, R117 to R122): each clause is what the effect of the message or timer is on the domain, read
back from the settled state.
-/

namespace Sys2Proof.Machine

/-! ## What settles after a message or a timer -/

theorem happen_ptpAlive (g : State → State) {s : State} (alive : s.alive = true) :
    ∃ t, happen (fun s => s.whenAlive fun s => (g s).ptpSettle) s = .next t ∧ (g s.fresh).Stays t [.streams] [] := by
  obtain ⟨t, e, settled⟩ := happen_whenAlive (fun s => (g s).ptpSettle) alive
  exact ⟨t, e, (State.stays_ptpSettle _).trans (settled.served.stays _ _)⟩

theorem happen_ptpPort (g : State → State) {s : State} {p : Nat} (alive : s.alive = true) (powered : s.unpowered 3 p = false) :
    ∃ t, happen (fun s => s.whenPort p fun s => (g s).ptpSettle) s = .next t ∧ (g s.fresh).Stays t [.streams] [] := by
  obtain ⟨t, e, settled⟩ := happen_whenPort (fun s => (g s).ptpSettle) alive powered
  exact ⟨t, e, (State.stays_ptpSettle _).trans (settled.served.stays _ _)⟩

theorem State.Stays.dom {s t : State} {ps : List Part} {us : List Units} (h : s.Stays t ps us) (d : Nat)
    (hp : .time ∉ ps := by decide) : t.dom d = s.dom d := State.dom_congr (h.time hp) d

/-! What settles leaves the counters and the states of the domains (R133). -/

theorem syncRx_kept : ∀ d < 2, (F.D_SYNC_RX d).key ∉ serveKeys := by decide
theorem annRx_kept : ∀ d < 2, (F.D_ANN_RX d).key ∉ serveKeys := by decide
theorem fuMiss_kept : ∀ d < 2, (F.D_FU_MISS d).key ∉ serveKeys := by decide
theorem dlyMiss_kept : ∀ d < 2, (F.D_DLY_MISS d).key ∉ serveKeys := by decide
theorem statePort_kept : ∀ d < 2, (F.D_STATE_PORT d).key ∉ serveKeys := by decide
theorem stateServo_kept : ∀ d < 2, (F.D_STATE_SERVO d).key ∉ serveKeys := by decide

section
variable {s : State} {p : Fin 4} {d : Nat} {m : PtpMsg}

/-! ## The effects of messages (R117, R120, R121) -/

/-- A complete Sync gives the forward difference, nothing waits, and with a known delay the Sync counts. -/
theorem State.takeSync_completes (s : State) (hd : d < 2) (t1 t2 corr : Int) :
    ((s.takeSync d t1 t2 corr).dom d).sync = none ∧ ((s.takeSync d t1 t2 corr).dom d).fwd = some (t2 - t1 - corr) ∧
      ((s.dom d).delayKnown = true →
        (s.takeSync d t1 t2 corr).getF (F.D_SYNC_RX d) = satNat 32 (s.getF (F.D_SYNC_RX d) + 1)) := by
  set kept := s.setDom d { s.dom d with fwd := some (t2 - t1 - corr), sync := none }
  have held : kept.dom d = { s.dom d with fwd := some (t2 - t1 - corr), sync := none } := State.dom_setDom _ _ _
  have offset : s.takeSync d t1 t2 corr = if (kept.dom d).delayKnown = true then
    kept.takeOffset d (t2 - t1 - corr - (kept.dom d).delay - kept.alpha d) else kept := rfl
  by_cases known : (s.dom d).delayKnown = true
  · rw [offset, if_pos (by rw [held]; exact known)]
    have steers := kept.steers_takeOffset hd (t2 - t1 - corr - (kept.dom d).delay - kept.alpha d)
    have messages := steers.kept.trans (congrArg Domain.messages held)
    refine ⟨congrArg (·.1) messages, congrArg (·.2.1) messages, fun _ => ?_⟩
    rw [steers.counts _ (syncRx_mem d hd), State.getF_incSat, State.getF_congr _ (s.regs_setDom d _)]
    rfl
  · rw [offset, if_neg (by rw [held]; exact known), held]
    exact ⟨rfl, rfl, fun h => absurd h known⟩

/-- A complete Sync reads the same from the settled state. -/
theorem takeSync_acts {t : State} {t1 t2 corr : Int} (hd : d < 2) (after : (s.fresh.takeSync d t1 t2 corr).Stays t [.streams] []) :
    (t.dom d).sync = none ∧ (t.dom d).fwd = some (t2 - t1 - corr) ∧
      ((s.dom d).delayKnown = true → t.getF (F.D_SYNC_RX d) = satNat 32 (s.getF (F.D_SYNC_RX d) + 1)) := by
  obtain ⟨sync, fwd, counted⟩ := s.fresh.takeSync_completes hd t1 t2 corr
  rw [after.dom, after.getF _ rfl (syncRx_kept d hd)]
  exact ⟨sync, fwd, counted⟩

theorem ptpSyncRx_of_twoStep {raw : Tai} (judged : s.judgePtp p m [0] = (some d, s)) (master : s.fromMaster d m = true)
    (twoStep : m.twoStep = true) :
    ptpSyncRx p m raw s = s.setDom d { s.dom d with sync := some (m.seq, m.src, s.planeIn p raw, m.corr) } := by
  unfold ptpSyncRx
  simp [judged, master, twoStep]

theorem ptpSyncRx_of_oneStep {raw : Tai} (judged : s.judgePtp p m [0] = (some d, s)) (master : s.fromMaster d m = true)
    (oneStep : m.twoStep = false) : ptpSyncRx p m raw s = s.takeSync d (s.msgTime m) (s.planeIn p raw) m.corr := by
  unfold ptpSyncRx
  simp [judged, master, oneStep]

theorem ptpFollowUpRx_of_sync {t2 c : Int} (judged : s.judgePtp p m [8] = (some d, s)) (master : s.fromMaster d m = true)
    (sync : (s.dom d).sync = some (m.seq, m.src, t2, c)) :
    ptpFollowUpRx p m s = s.takeSync d (s.msgTime m) t2 (c + m.corr) := by
  unfold ptpFollowUpRx
  simp [judged, master, sync]

/-- A domain with a delay sample. -/
theorem State.dom_takeDelay (s : State) (d : Nat) (v : Int) : (s.takeDelay d v).dom d =
    { s.dom d with
      delays := (v :: (s.dom d).delays).take (2 ^ s.getF (F.D_SERVO_DELAY_FILT d))
      delay := avg ((v :: (s.dom d).delays).take (2 ^ s.getF (F.D_SERVO_DELAY_FILT d)))
      delayKnown := true, missRun := 0, dreq := none } := State.dom_setDom _ _ _

theorem ptpDelayRespRx_of_request {t3 f : Int} (judged : s.judgePtp p m [9] = (some d, s)) (master : s.fromMaster d m = true)
    (endToEnd : s.on (F.D_CTL_DELAY d) = false) (request : (s.dom d).dreq = some (m.seq, t3)) (fwd : (s.dom d).fwd = some f)
    (own : m.reqSrc = (s.dom d).ident) : ptpDelayRespRx p m s = s.takeDelay d ((f + (s.msgTime m - t3 - m.corr)) / 2) := by
  unfold ptpDelayRespRx
  simp [judged, master, endToEnd, request, fwd, own]

theorem ptpPdelayRespRx_of_request {fu : PtpMsg} {raw : Tai} {t1 : Int} (judged : s.judgePtp p m [3] = (some d, s))
    (peer : s.on (F.D_CTL_DELAY d) = true) (request : (s.dom d).dreq = some (m.seq, t1)) (pair : fu.seq = m.seq)
    (own : m.reqSrc = (s.dom d).ident) : ptpPdelayRespRx p m fu raw s =
      s.takeDelay d (((s.planeIn p raw - t1) - (s.msgTime fu - s.msgTime m) - m.corr - fu.corr) / 2) := by
  unfold ptpPdelayRespRx
  simp [judged, peer, request, pair, own]

theorem ptpAnnounceRx_of_running {a : Announce} (judged : s.judgePtp p m [11] = (some d, s)) (sound : s.ptpPort d ≠ psFAULTY)
    (enabled : s.ptpPort d ≠ psDISABLED) : ptpAnnounceRx p m a s = (s.announced d m.src a).announceDone d m.src a := by
  unfold ptpAnnounceRx
  rw [judged]
  exact if_neg (by simp [sound, enabled])

theorem ptpDelayReqRx_of_master {raw : Tai} (judged : s.judgePtp p m [1, 2] = (some d, s)) (master : s.ptpPort d = psMASTER) :
    ptpDelayReqRx p m raw s = s.emit (.ptp d (if m.msgType = 1 then 9 else 3)
      ((Tai.ofUnits (s.planeIn p raw)).sec % 2 ^ 48) (Tai.ofUnits (s.planeIn p raw)).ns none) := by
  unfold ptpDelayReqRx
  rw [judged]
  exact if_neg (not_not.2 master)

/-! ## Syncs (R120) -/

variable (alive : s.alive = true) (powered : s.unpowered 3 p = false) (found : s.domainOf p m.dom = some d)
  (version : m.version = 2)

include alive powered found version

/-- A two-step Sync waits for its Follow_Up. -/
theorem ptpSyncRx_waits {raw : Tai} (type : m.msgType = 0) (master : s.fromMaster d m = true) (twoStep : m.twoStep = true) :
    ∃ t, exec (.ptpSyncRx p m raw) s = .next t ∧ (t.dom d).sync = some (m.seq, m.src, s.planeIn p raw, m.corr) := by
  obtain ⟨t, e, after⟩ := happen_ptpPort (ptpSyncRx p m raw) alive powered
  have judged := State.judgePtp_of_domain (s := s.fresh) (types := [0]) found version (by rw [type]; rfl)
  refine ⟨t, e, ?_⟩
  rw [after.dom, ptpSyncRx_of_twoStep judged master twoStep, State.dom_setDom]
  rfl

theorem ptpSyncRx_acts {raw : Tai} (type : m.msgType = 0) (master : s.fromMaster d m = true) (oneStep : m.twoStep = false) :
    ∃ t, exec (.ptpSyncRx p m raw) s = .next t ∧ (t.dom d).fwd = some (s.planeIn p raw - s.msgTime m - m.corr) ∧
      ((s.dom d).delayKnown = true → t.getF (F.D_SYNC_RX d) = satNat 32 (s.getF (F.D_SYNC_RX d) + 1)) := by
  obtain ⟨t, e, after⟩ := happen_ptpPort (ptpSyncRx p m raw) alive powered
  have judged := State.judgePtp_of_domain (s := s.fresh) (types := [0]) found version (by rw [type]; rfl)
  rw [ptpSyncRx_of_oneStep judged master oneStep] at after
  obtain ⟨-, fwd, counted⟩ := takeSync_acts (State.domainOf_lt found) after
  exact ⟨t, e, fwd, counted⟩

theorem ptpFollowUpRx_acts {t2 c : Int} (type : m.msgType = 8) (master : s.fromMaster d m = true)
    (sync : (s.dom d).sync = some (m.seq, m.src, t2, c)) :
    ∃ t, exec (.ptpFollowUpRx p m) s = .next t ∧ (t.dom d).sync = none ∧
      (t.dom d).fwd = some (t2 - s.msgTime m - (c + m.corr)) ∧
      ((s.dom d).delayKnown = true → t.getF (F.D_SYNC_RX d) = satNat 32 (s.getF (F.D_SYNC_RX d) + 1)) := by
  obtain ⟨t, e, after⟩ := happen_ptpPort (ptpFollowUpRx p m) alive powered
  have judged := State.judgePtp_of_domain (s := s.fresh) (types := [8]) found version (by rw [type]; rfl)
  rw [ptpFollowUpRx_of_sync judged master sync] at after
  exact ⟨t, e, takeSync_acts (State.domainOf_lt found) after⟩

/-! ## Delays (R121) -/

theorem ptpDelayRespRx_acts {t3 f : Int} (type : m.msgType = 9) (master : s.fromMaster d m = true)
    (endToEnd : s.on (F.D_CTL_DELAY d) = false) (request : (s.dom d).dreq = some (m.seq, t3)) (fwd : (s.dom d).fwd = some f)
    (own : m.reqSrc = (s.dom d).ident) :
    ∃ t, exec (.ptpDelayRespRx p m) s = .next t ∧ (t.dom d).delayKnown = true ∧ (t.dom d).dreq = none ∧
      (t.dom d).delays =
        ((f + (s.msgTime m - t3 - m.corr)) / 2 :: (s.dom d).delays).take (2 ^ s.getF (F.D_SERVO_DELAY_FILT d)) := by
  obtain ⟨t, e, after⟩ := happen_ptpPort (ptpDelayRespRx p m) alive powered
  have judged := State.judgePtp_of_domain (s := s.fresh) (types := [9]) found version (by rw [type]; rfl)
  refine ⟨t, e, ?_⟩
  rw [after.dom, ptpDelayRespRx_of_request judged master endToEnd request fwd own, State.dom_takeDelay]
  exact ⟨rfl, rfl, rfl⟩

theorem ptpPdelayRespRx_acts {fu : PtpMsg} {raw : Tai} {t1 : Int} (type : m.msgType = 3) (peer : s.on (F.D_CTL_DELAY d) = true)
    (request : (s.dom d).dreq = some (m.seq, t1)) (pair : fu.seq = m.seq) (own : m.reqSrc = (s.dom d).ident) :
    ∃ t, exec (.ptpPdelayRespRx p m fu raw) s = .next t ∧ (t.dom d).delayKnown = true ∧ (t.dom d).dreq = none ∧
      (t.dom d).delay = avg ((((s.planeIn p raw - t1) - (s.msgTime fu - s.msgTime m) - m.corr - fu.corr) / 2 ::
        (s.dom d).delays).take (2 ^ s.getF (F.D_SERVO_DELAY_FILT d))) := by
  obtain ⟨t, e, after⟩ := happen_ptpPort (ptpPdelayRespRx p m fu raw) alive powered
  have judged := State.judgePtp_of_domain (s := s.fresh) (types := [3]) found version (by rw [type]; rfl)
  refine ⟨t, e, ?_⟩
  rw [after.dom, ptpPdelayRespRx_of_request judged peer request pair own, State.dom_takeDelay]
  exact ⟨rfl, rfl, rfl⟩

/-! ## Announces and requests (R117) -/

theorem ptpAnnounceRx_acts {a : Announce} (type : m.msgType = 11) (sound : s.ptpPort d ≠ psFAULTY)
    (enabled : s.ptpPort d ≠ psDISABLED) :
    ∃ t, exec (.ptpAnnounceRx p m a) s = .next t ∧ ({ src := m.src, ann := a } : Foreign) ∈ (t.dom d).foreign ∧
      t.getF (F.D_ANN_RX d) = satNat 32 (s.getF (F.D_ANN_RX d) + 1) := by
  obtain ⟨t, e, after⟩ := happen_ptpPort (ptpAnnounceRx p m a) alive powered
  have two := State.domainOf_lt found
  have judged := State.judgePtp_of_domain (s := s.fresh) (types := [11]) found version (by rw [type]; rfl)
  have follows := (s.fresh.announced d m.src a).steers_announceDone two m.src a
  rw [ptpAnnounceRx_of_running judged sound enabled] at after
  refine ⟨t, e, ?_, ?_⟩
  · have entered : (s.fresh.announced d m.src a).dom d = _ := State.dom_setDom _ _ _
    rw [after.dom, follows.kept, entered]
    exact List.mem_cons_self
  · rw [after.getF _ rfl (annRx_kept d two), follows.counts _ (annRx_mem d two), State.announced,
      State.getF_congr _ (State.regs_setDom _ _ _), State.getF_incSat]
    rfl

/-- A master's answer carries the time of receipt at the reference plane. -/
theorem ptpDelayReqRx_acts {raw : Tai} (type : m.msgType = 1 ∨ m.msgType = 2) (master : s.ptpPort d = psMASTER) :
    ∃ t, exec (.ptpDelayReqRx p m raw) s = .next t ∧
      Emit.ptp d (if m.msgType = 1 then 9 else 3) ((Tai.ofUnits (s.planeIn p raw)).sec % 2 ^ 48)
        (Tai.ofUnits (s.planeIn p raw)).ns none ∈ t.out := by
  obtain ⟨t, e, after⟩ := happen_ptpPort (ptpDelayReqRx p m raw) alive powered
  have judged := State.judgePtp_of_domain (s := s.fresh) (types := [1, 2]) found version (by simpa using type)
  rw [ptpDelayReqRx_of_master judged master] at after
  exact ⟨t, e, after.out.subset (State.mem_out_emit _ _)⟩

end

/-! ## Servo and port state (R118, R122) -/

/-- A change of servo writes no field but the servo's. -/
theorem State.getF_setServo_ne (s : State) (d v : Nat) {f : Fld} (h : f.key ≠ (F.D_STATE_SERVO d).key) :
    (s.setServo d v).getF f = s.getF f := by
  unfold State.setServo
  dsimp only
  split
  · rfl
  · rw [State.getF_congr _ (State.regs_setDom _ _ _), (State.traces_logState _ _ _ _ _).getF, (State.traces_fire _ _ _ _).getF,
      State.getF_setF_ne _ _ h]

theorem State.ptpServo_setServo (s : State) (d : Nat) {v : Nat} (hv : v < 8) : (s.setServo d v).ptpServo d = v := by
  unfold State.setServo
  dsimp only
  split
  · next same => exact same
  · rw [State.ptpServo, State.getF_congr _ (State.regs_setDom _ _ _), (State.traces_logState _ _ _ _ _).getF,
      (State.traces_fire _ _ _ _).getF, State.getF_setF_self]
    exact Nat.mod_eq_of_lt hv

theorem State.ptpPort_setPtpPort (s : State) {d v : Nat} (hd : d < 2) (hv : v < 16) : (s.setPtpPort d v).ptpPort d = v := by
  have other : ∀ d < 2, (F.D_STATE_PORT d).key ≠ (F.D_STATE_SERVO d).key := by decide
  unfold State.setPtpPort
  dsimp only
  split
  · next same => exact same
  · set logged := ((s.setF (F.D_STATE_PORT d) v).fire (Ev.A_STATE + d) (objId 1 (d + 1) 0) (v + 16 * s.ptpPort d)).logState
      orgPtp (objId 1 (d + 1) 0) (s.ptpPort d) v
    have moved : logged.getF (F.D_STATE_PORT d) = v := by
      rw [(State.traces_logState _ _ _ _ _).getF, (State.traces_fire _ _ _ _).getF, State.getF_setF_self]
      exact Nat.mod_eq_of_lt hv
    have shown : ∀ u : State, u.regs = logged.regs → u.ptpPort d = v := fun u h => (State.getF_congr _ h).trans moved
    have servo : ∀ (u : State) (x : Nat), u.regs = logged.regs → (u.setServo d x).ptpPort d = v := fun u x h =>
      (u.getF_setServo_ne d x (other d hd)).trans (shown u h)
    split
    · exact servo _ _ (by split <;> rfl)
    · split
      · exact shown _ (by split <;> rfl)
      · exact servo _ _ (by split <;> rfl)

/-! ## Timers (R117 to R119, R122) -/

theorem followUpTimeout_of_sync {s : State} {d : Fin 2} (sync : (s.dom d).sync.isSome = true) :
    followUpTimeout d s = (s.setDom d { s.dom d with sync := none }).incSat (F.D_FU_MISS d) :=
  if_neg (by simpa using Option.isSome_iff_ne_none.1 sync)

/-- The request whose answer did not come dropped, and counted. -/
def State.requestDropped (s : State) (d : Nat) : State :=
  (s.setDom d { s.dom d with dreq := none, missRun := (s.dom d).missRun + 1 }).incSat (F.D_DLY_MISS d)

theorem delayTimeout_of_request {s : State} {d : Fin 2} (request : (s.dom d).dreq.isSome = true) : delayTimeout d s =
    if (s.dom d).missRun + 1 = 8 then (s.requestDropped d).fire (Ev.A_RX_TIMEOUT + d) (objId 1 (d + 1) 0) 4
    else s.requestDropped d :=
  if_neg (by simpa using Option.isSome_iff_ne_none.1 request)

section
variable {s : State} {d : Fin 2} (alive : s.alive = true)
include alive

theorem ptpMasterTx_announces (master : s.ptpPort d = psMASTER) :
    ∃ t a, exec (.ptpMasterTxInterval d true) s = .next t ∧ Emit.ptp d 11 0 0 (some a) ∈ t.out ∧ a.gm = (s.dom d).ident := by
  obtain ⟨t, e, after⟩ := happen_ptpAlive (ptpMasterTx d true) alive
  have body : ptpMasterTx d true s.fresh = s.fresh.emit _ := (if_neg (not_not.2 master)).trans (if_pos rfl)
  rw [body] at after
  exact ⟨t, _, e, after.out.subset (State.mem_out_emit _ _), rfl⟩

theorem ptpMasterTx_syncs (master : s.ptpPort d = psMASTER) :
    ∃ t, exec (.ptpMasterTxInterval d false) s = .next t ∧ Emit.ptp d 0 0 0 none ∈ t.out ∧
      Emit.ptp d 8 (s.now.sec % 2 ^ 48) s.now.ns none ∈ t.out := by
  obtain ⟨t, e, after⟩ := happen_ptpAlive (ptpMasterTx d false) alive
  have body : ptpMasterTx d false s.fresh = (s.fresh.emit (.ptp d 0 0 0 none)).emit (.ptp d 8 (s.now.sec % 2 ^ 48) s.now.ns none) :=
    (if_neg (not_not.2 master)).trans (if_neg Bool.false_ne_true)
  rw [body] at after
  exact ⟨t, e, after.out.subset (List.mem_append_left _ (State.mem_out_emit _ _)), after.out.subset (State.mem_out_emit _ _)⟩

theorem ptpDelayReqTx_acts (raw : Tai) (slave : s.ptpPort d = psUNCALIBRATED ∨ s.ptpPort d = psSLAVE) :
    ∃ t, exec (.ptpDelayReqTxInterval d raw) s = .next t ∧
      (t.dom d).dreq = some (((s.dom d).reqSeq + 1) % 65536, s.planeOut (s.getF (F.D_CTL_PORT d)) raw) ∧
      Emit.ptp d (if s.on (F.D_CTL_DELAY d) then 2 else 1) 0 0 none ∈ t.out := by
  obtain ⟨t, e, after⟩ := happen_ptpAlive (ptpDelayReqTx d raw) alive
  have slave' : s.fresh.ptpPort d = psUNCALIBRATED ∨ s.fresh.ptpPort d = psSLAVE := slave
  have body : ptpDelayReqTx d raw s.fresh = (s.fresh.setDom d { s.dom d with
      reqSeq := ((s.dom d).reqSeq + 1) % 65536
      dreq := some (((s.dom d).reqSeq + 1) % 65536, s.planeOut (s.getF (F.D_CTL_PORT d)) raw) }).emit
      (.ptp d (if s.on (F.D_CTL_DELAY d) then 2 else 1) 0 0 none) := if_pos (by simp [slave'])
  rw [body] at after
  refine ⟨t, e, ?_, after.out.subset (State.mem_out_emit _ _)⟩
  rw [after.dom, State.dom_congr (State.emit_time _ _), State.dom_setDom]

/-- The master that fell silent is in the set of foreign masters no more. -/
theorem announceTimeout_acts {m : Nat} (sel : (s.dom d).sel = some m) :
    ∃ t, exec (.announceReceiptTimeout d) s = .next t ∧ (∀ f ∈ (t.dom d).foreign, f.src ≠ m) ∧
      Ev.A_RX_TIMEOUT + d.val ∈ t.ev.sticky := by
  obtain ⟨t, e, after⟩ := happen_ptpAlive (announceTimeout d) alive
  rw [announceTimeout_of_sel (s := s.fresh) sel] at after
  have chosen := (s.fresh.masterDropped d m).steers_bmca d.isLt
  have dropped : (s.fresh.masterDropped d m).dom d = _ := State.dom_setDom _ _ _
  have fired := (s.fresh.fire (Ev.A_RX_TIMEOUT + d) (objId 1 (d + 1) 0) 1).stays_setDom d
    { s.dom d with foreign := (s.dom d).foreign.filter (fun f => f.src ≠ m), sel := none } ptpUnits
  refine ⟨t, e, fun f hf => ?_, ?_⟩
  · rw [after.dom, chosen.kept, dropped] at hf
    simpa using (List.mem_filter.1 hf).2
  · exact after.sticky _ (chosen.stays.sticky _ (fired.sticky _ (State.fire_sticky _ _ _ _)))

theorem followUpTimeout_acts (sync : (s.dom d).sync.isSome = true) :
    ∃ t, exec (.followUpTimeout d) s = .next t ∧ (t.dom d).sync = none ∧
      t.getF (F.D_FU_MISS d) = satNat 16 (s.getF (F.D_FU_MISS d) + 1) := by
  obtain ⟨t, e, after⟩ := happen_ptpAlive (followUpTimeout d) alive
  rw [followUpTimeout_of_sync (s := s.fresh) sync] at after
  refine ⟨t, e, ?_, ?_⟩
  · rw [after.dom, State.dom_congr (State.incSat_time _ _), State.dom_setDom]
  · rw [after.getF _ rfl (fuMiss_kept d d.isLt), State.getF_incSat, State.getF_congr _ (State.regs_setDom _ _ _)]
    rfl

theorem delayTimeout_acts (request : (s.dom d).dreq.isSome = true) :
    ∃ t, exec (.delayResponseTimeout d) s = .next t ∧ (t.dom d).dreq = none ∧
      t.getF (F.D_DLY_MISS d) = satNat 16 (s.getF (F.D_DLY_MISS d) + 1) ∧
      ((s.dom d).missRun = 7 → Ev.A_RX_TIMEOUT + d.val ∈ t.ev.sticky) := by
  obtain ⟨t, e, after⟩ := happen_ptpAlive (delayTimeout d) alive
  have traced : State.Traces (s.fresh.requestDropped d) (delayTimeout d s.fresh) := by
    rw [delayTimeout_of_request (s := s.fresh) request]
    split
    · exact State.traces_fire _ _ _ _
    · exact State.Traces.refl _
  refine ⟨t, e, ?_, ?_, fun seven => ?_⟩
  · rw [after.dom, State.dom_congr traced.time, State.requestDropped, State.dom_congr (State.incSat_time _ _), State.dom_setDom]
  · rw [after.getF _ rfl (dlyMiss_kept d d.isLt), traced.getF, State.requestDropped, State.getF_incSat,
      State.getF_congr _ (State.regs_setDom _ _ _)]
    rfl
  · have eighth : (s.fresh.dom d).missRun + 1 = 8 := congrArg (· + 1) seven
    rw [delayTimeout_of_request (s := s.fresh) request, if_pos eighth] at after
    exact after.sticky _ (State.fire_sticky _ _ _ _)

theorem syncTimeout_acts (runs : s.ptpServo d = svACQUIRE ∨ s.ptpServo d = svLOCKED) :
    ∃ t, exec (.syncReceiptTimeout d) s = .next t ∧ t.ptpServo d = svHOLD ∧ Ev.A_RX_TIMEOUT + d.val ∈ t.ev.sticky := by
  obtain ⟨t, e, after⟩ := happen_ptpAlive (syncTimeout d) alive
  have runs' : s.fresh.ptpServo d = svACQUIRE ∨ s.fresh.ptpServo d = svLOCKED := runs
  have body : syncTimeout d s.fresh =
      (s.fresh.setServo d svHOLD).fire (Ev.A_RX_TIMEOUT + d) (objId 1 (d + 1) 0) 2 := if_pos (by simp [runs'])
  rw [body] at after
  refine ⟨t, e, ?_, after.sticky _ (State.fire_sticky _ _ _ _)⟩
  rw [State.ptpServo, after.getF _ rfl (stateServo_kept d d.isLt), (State.traces_fire _ _ _ _).getF]
  exact State.ptpServo_setServo _ d (by decide)

theorem preMasterTimeout_acts (preMaster : s.ptpPort d = psPRE_MASTER) :
    ∃ t, exec (.preMasterQualificationTimeout d) s = .next t ∧ t.ptpPort d = psMASTER := by
  obtain ⟨t, e, after⟩ := happen_ptpAlive (preMasterTimeout d) alive
  have body : preMasterTimeout d s.fresh = s.fresh.setPtpPort d psMASTER := if_pos preMaster
  rw [body] at after
  refine ⟨t, e, ?_⟩
  rw [State.ptpPort, after.getF _ rfl (statePort_kept d d.isLt)]
  exact s.fresh.ptpPort_setPtpPort d.isLt (by decide)

end

/-- Settles O32: each message and each timer does its part, and settling keeps it. -/
theorem ptpMessagesAndTimersMoveTheDomains : Obligations.PtpMessagesAndTimersMoveTheDomains :=
  ⟨fun _ _ _ _ _ alive powered found version => ptpSyncRx_waits alive powered found version,
    fun _ _ _ _ _ alive powered found version => ptpSyncRx_acts alive powered found version,
    fun _ _ _ _ _ _ alive powered found version => ptpFollowUpRx_acts alive powered found version,
    fun _ _ _ _ _ _ alive powered found version => ptpDelayRespRx_acts alive powered found version,
    fun _ _ _ _ _ _ _ alive powered found version => ptpPdelayRespRx_acts alive powered found version,
    fun _ _ _ _ _ alive powered found version => ptpAnnounceRx_acts alive powered found version,
    fun _ _ _ _ _ alive powered found version => ptpDelayReqRx_acts alive powered found version,
    fun _ _ alive master => ⟨ptpMasterTx_announces alive master, ptpMasterTx_syncs alive master⟩,
    fun _ _ raw alive => ptpDelayReqTx_acts alive raw,
    fun _ _ _ alive => announceTimeout_acts alive,
    fun _ _ alive => syncTimeout_acts alive,
    fun _ _ alive => followUpTimeout_acts alive,
    fun _ _ alive => delayTimeout_acts alive,
    fun _ _ alive => preMasterTimeout_acts alive⟩

end Sys2Proof.Machine
end

section
/-!
A switch whose target is no reference (R173): the model's target is a number that nothing bounds, and the state of "reference 64" is
kept where the first network port has its link bit.
-/

namespace Sys2Proof.Machine

/-- A running block whose switch machine has ended MEASURE for a target 64, of which there is no reference. -/
def strayTarget : State where
  regs := [(F.PWR_STATUS_STATE.key, 3)]
  pwr := { boot := 5, cmdReady := true }
  clk := { running := true, target := 64 }

theorem strayTarget_alive : strayTarget.alive = true := by decide

/-- The state of a reference 64 would lie where port 0 has LINK: ACTIVE is written there. -/
theorem strayTarget_linked : (buildOut 0 0 strayTarget.fresh).getF (F.MAC_STATUS_LINK 0) = rsACTIVE := by decide

/-- Refutes O48 by its clause on BUILD_OUT: the target of `strayTarget`, which the statement does not exclude, becomes ACTIVE, and
that is written to the link bit of port 0, outside subsystem 2. -/
theorem not_clockEventsTouchTheClockUnits : ¬ Obligations.ClockEventsTouchTheClockUnits := by
  intro holds
  obtain ⟨t, e, settled⟩ := happen_whenAlive (buildOut 0 0) strayTarget_alive
  obtain ⟨-, -, -, framed, -⟩ := holds strayTarget t 0 0 0 0 0 0 .prc
  have kept : t.getF (F.MAC_STATUS_LINK 0) = strayTarget.getF (F.MAC_STATUS_LINK 0) :=
    (framed e).2 _ (by decide) (by rw [Fld.within_iff_inUnits]; decide)
  rw [settled.getF _ (by decide), strayTarget_linked] at kept
  exact absurd kept (by decide)

end Sys2Proof.Machine
end

section
/-!
The loop's operations: each leaves everything but the units of the loop and the holdover, and of the media clock's part the run of the
switch machine and the history (R176, R184, R185, R189, R192).
-/

namespace Sys2Proof.Machine

/-- The media clock's part is left by a frame without it. -/
theorem State.Stays.clk {s t : State} {ps : List Part} {us : List Units} (h : s.Stays t ps us) (hp : .clock ∉ ps := by decide) :
    t.clk = s.clk := h.touches.1.2 .clock hp

/-- What a switch and a second of the history set of the media clock's part. -/
def ClkState.course (c : ClkState) : Bool × Nat × Option (Nat × Nat) × List Int := (c.running, c.target, c.settle, c.hist)

/-- The loop and the holdover (R4). -/
def loopUnits : List Units := [⟨2, 9, 9⟩, ⟨2, 10, 10⟩]

/-- `t` differs from `s` in some units and in the media clock's part, whose course stays. -/
structure State.Loops (s t : State) (us : List Units) : Prop where
  stays : s.Stays t [.clock] us
  course : t.clk.course = s.clk.course

section
variable {s t u : State} {us us' : List Units}

theorem State.Loops.refl (s : State) (us : List Units) : s.Loops s us := ⟨State.Stays.refl s _ _, rfl⟩

theorem State.Loops.trans (h : s.Loops t us) (g : t.Loops u us) : s.Loops u us := ⟨h.stays.trans g.stays, g.course.trans h.course⟩

theorem State.Loops.mono (h : s.Loops t us) (hu : us ⊆ us' := by decide) : s.Loops t us' := ⟨h.stays.mono (List.Subset.refl _) hu, h.course⟩

theorem State.Loops.ite {c : Prop} [Decidable c] (h : s.Loops t us) (g : s.Loops u us) : s.Loops (if c then t else u) us := by
  split
  · exact h
  · exact g

/-- What leaves the media clock's part. -/
theorem State.Stays.loops (h : s.Stays t [] us) : s.Loops t us := ⟨h.mono (by decide) (List.Subset.refl _), congrArg ClkState.course h.clk⟩

theorem State.Loops.setClk (h : s.Loops t us) (x : ClkState) (course : x.course = t.clk.course := by rfl) : s.Loops { t with clk := x } us :=
  ⟨h.stays.setClk x (by decide), course.trans h.course⟩

end

/-! ## The loop's output and mode (R184, R185) -/

/-- The loop's own registers. -/
def loopOnly : List Units := [⟨2, 9, 9⟩]

theorem State.stays_updateDco (s : State) : s.Stays s.updateDco [] loopOnly := by
  unfold State.updateDco
  extract_lets raw sat f shown
  have set : s.Stays shown [] loopOnly :=
    ((State.Stays.refl s _ _).setI F.LOOP_DCO_FREQ f (by decide)).setF F.LOOP_STATUS_DCO_SAT _ (by decide)
  exact .ite (set.raise _ _ _) (set.setRaw _ _)

theorem State.stays_setLoopOut (s : State) (v : Int) : s.Stays (s.setLoopOut v) [] loopOnly :=
  ((State.Stays.refl s _ _).setISat F.LOOP_OUT v (by decide)).trans (State.stays_updateDco _)

theorem State.stays_setLoopMode (s : State) (m detail : Nat) : s.Stays (s.setLoopMode m detail) [] loopOnly := by
  unfold State.setLoopMode
  extract_lets old moved logged unlocked held free
  have logs : s.Stays logged [] loopOnly :=
    ((State.Stays.refl s _ _).setF F.LOOP_STATUS_MODE m (by decide)).logState orgSelector (objId 2 9 0) old m
  have unlocks : s.Stays unlocked [] loopOnly := .ite logs (logs.setF F.LOOP_STATUS_REF 7 (by decide))
  have holds : s.Stays held [] loopOnly := .ite (unlocks.raise _ _ _) (unlocks.setRaw _ _)
  have frees : s.Stays free [] loopOnly := .ite (holds.raise _ _ _) (holds.setRaw _ _)
  exact .ite (State.Stays.refl s _ _) (.ite (frees.raise _ _ _) (frees.setRaw _ _))

theorem State.loops_setInteg (s : State) (v : Int) : s.Loops (s.setInteg v) loopOnly :=
  ((State.Loops.refl s _).setClk { s.clk with integ := v }).trans (State.stays_setLoopOut _ v).loops

theorem State.loops_toMode (s : State) (m detail : Nat) (v : Int) : s.Loops ((s.setLoopMode m detail).setInteg v) loopOnly :=
  (s.stays_setLoopMode m detail).loops.trans (State.loops_setInteg _ v)

/-! ## Holdover (R176, R185, R189) -/

theorem State.loops_setFrozen (s : State) (by_ : Option Nat) : s.Loops (s.setFrozen by_) [⟨2, 10, 10⟩] := by
  unfold State.setFrozen
  extract_lets old _ held
  have holds : s.Loops held [⟨2, 10, 10⟩] := (State.Loops.refl s _).setClk { s.clk with frozenBy := by_ }
  exact .ite holds (holds.trans
    (((State.Stays.refl held _ _).setF F.HOLD_HO_STATUS_FROZEN _ (by decide)).logState _ _ _ _).loops)

theorem State.loops_hoApply (s : State) : s.Loops s.hoApply loopOnly := by
  unfold State.hoApply
  extract_lets written _ seen mode
  have sees : s.Loops seen loopOnly := (State.Loops.refl s _).setClk { s.clk with hoWritten := false }
  have freed : ∀ detail, s.Loops ((seen.setLoopMode lmFREE detail).setInteg 0) loopOnly := fun detail =>
    sees.trans (seen.loops_toMode lmFREE detail 0)
  exact .ite sees (.ite (freed _) (.ite (freed _) sees))

theorem State.loops_enterHoldover (s : State) (lost e0 : Nat) (freq : Option Int) : s.Loops (s.enterHoldover lost e0 freq) loopUnits := by
  unfold State.enterHoldover
  extract_lets w short frozen f f0 shortened within begun counted _ held
  have begins : s.Stays begun [] loopUnits := (((((State.Stays.refl s _ _).setF F.HOLD_HO_STATUS_SHORT _ (by decide)).setF
    F.HOLD_HO_STATUS_OUT_OF_SPEC 0 (by decide)).setRaw _ _).setISat F.HOLD_FREQ f (by decide)).setSat F.HOLD_F0 f0 (by decide) |>.setF
      F.HOLD_HO_ELAPSED 0 (by decide)
  have counts : s.Stays counted [] loopUnits := (begins.setF F.HOLD_PRED_ERR 0 (by decide)).incSat F.LOOP_COUNT_HOLDOVERS (by decide)
  have holds : s.Loops held loopUnits := counts.loops.setClk _
  exact holds.trans (held.loops_toMode _ _ f).mono

theorem State.loops_loopDeselect (s : State) (n : Nat) : s.Loops (s.loopDeselect n) loopUnits :=
  .ite (s.loops_enterHoldover _ _ _) (.refl s _)

/-! ## BUILD-OUT (R173, R192) -/

theorem State.loops_foldSteer (s : State) : s.Loops s.foldSteer loopOnly := by
  unfold State.foldSteer
  extract_lets v lo hi o _ folded low
  have folds : s.Loops folded loopOnly := (State.Loops.refl s _).setClk { s.clk with integ := s.clk.integ + v }
  have lows : folded.Stays low [] loopOnly := ((State.Stays.refl folded _ _).setF F.LOOP_STEER_LO 0 (by decide)).logReg o _ lo 0
  exact .ite (.refl s _) (folds.trans ((lows.setF F.LOOP_STEER_HI 0 (by decide)).logReg o F.LOOP_STEER_HI.addr hi 0).loops)

theorem State.loops_loopBuildOut (s : State) (n : Nat) (fromSuspect : Bool) : s.Loops (s.loopBuildOut n fromSuspect) loopOnly := by
  unfold State.loopBuildOut
  extract_lets w _ mean folded named
  have means : s.Loops mean loopOnly := .ite ((State.Loops.refl s _).setClk { s.clk with integ := meanOf w }) (.refl s _)
  have names : folded.Loops named loopOnly := ((State.Stays.refl folded _ _).setF F.LOOP_STATUS_REF n (by decide)).loops
  exact .ite (.refl s _) (((means.trans mean.loops_foldSteer).trans names).trans (named.loops_toMode lmLOCKED n _))

end Sys2Proof.Machine
end

section
/-!
What the monitors, the selector and the switch machine leave of one field (R163 to R175): fields of references stand at one place of
each unit's block, so a field elsewhere in the block is none of them, whatever number the selector holds.
-/

namespace Sys2Proof.Machine

/-! ## Places of fields -/

/-- Where a field stands in its unit's block, in units of the key (R12). -/
def Fld.place (f : Fld) : Nat := f.key % 0x80000

theorem Fld.key_ne_of_place {f g : Fld} (h : f.place ≠ g.place) : f.key ≠ g.key := fun e => h (congrArg (· % 0x80000) e)

/-- The fields of one row of the map in unit after unit stand at one place. -/
theorem Fld.place_unit (a n lo w : Nat) : (⟨a + n * 0x10000, lo, w⟩ : Fld).place = (⟨a, lo, w⟩ : Fld).place := by
  simp only [Fld.place, Fld.key, fieldKey]
  omega

/-- The states of two references are two fields. -/
theorem refState_key_inj {m n : Nat} (h : (F.REF_STATUS_STATE m).key = (F.REF_STATUS_STATE n).key) : m = n := by
  simp only [Fld.key, fieldKey, F.REF_STATUS_STATE] at h
  omega

/-! ## One field left -/

/-- `t` has the value of a field that `s` has, and what was sticky. -/
structure State.Spares (s t : State) (f : Fld) : Prop where
  getF : t.getF f = s.getF f
  sticky : ∀ n ∈ s.ev.sticky, n ∈ t.ev.sticky

section
variable {s t u : State} {f g : Fld}

theorem State.Spares.refl (s : State) (f : Fld) : s.Spares s f := ⟨rfl, fun _ => id⟩

theorem State.Spares.trans (h : s.Spares t f) (k : t.Spares u f) : s.Spares u f :=
  ⟨k.getF.trans h.getF, fun n m => k.sticky n (h.sticky n m)⟩

/-- An update of other parts than the fields and the events. -/
theorem State.Spares.same (h : s.Spares t f) (regs : u.regs = t.regs := by rfl) (ev : u.ev = t.ev := by rfl) : s.Spares u f :=
  h.trans ⟨State.getF_congr f regs, fun _ => ev ▸ id⟩

theorem State.Spares.setMon (h : s.Spares t f) (n : Nat) (m : RefMon) : s.Spares (t.setMon n m) f := h.same

theorem State.Spares.setRaw (h : s.Spares t f) (src : Nat) (on : Bool) : s.Spares (t.setRaw src on) f :=
  h.trans ⟨State.getF_congr f rfl, fun _ => id⟩

theorem State.Spares.ite {c : Prop} [Decidable c] (h : s.Spares t f) (k : s.Spares u f) : s.Spares (if c then t else u) f := by
  split
  · exact h
  · exact k

theorem State.Spares.foldl {α : Type} {l : List α} {step : State → α → State} (each : ∀ t : State, ∀ a ∈ l, t.Spares (step t a) f)
    (s : State) : s.Spares (l.foldl step s) f :=
  List.foldlRecOn (motive := fun t => s.Spares t f) l step (.refl s f) fun t h a ha => h.trans (each t a ha)

theorem State.Spares.setF (h : s.Spares t f) (v : Nat) (apart : f.key ≠ g.key) : s.Spares (t.setF g v) f :=
  h.trans ⟨State.getF_setF_ne _ _ apart, fun _ => id⟩

theorem State.Spares.traces (h : s.Spares t f) (k : State.Traces t u) : s.Spares u f := h.trans ⟨k.getF f, k.sticky⟩

theorem State.Spares.fire (h : s.Spares t f) (src obj detail : Nat) : s.Spares (t.fire src obj detail) f :=
  h.traces (t.traces_fire src obj detail)

theorem State.Spares.logState (h : s.Spares t f) (org obj old new : Nat) : s.Spares (t.logState org obj old new) f :=
  h.traces (t.traces_logState org obj old new)

/-- A field of a row that repeats from unit to unit. -/
theorem State.Spares.setAt (h : s.Spares t f) {a lo w : Nat} (n v : Nat) (apart : f.place ≠ (⟨a, lo, w⟩ : Fld).place) :
    s.Spares (t.setF ⟨a + n * 0x10000, lo, w⟩ v) f :=
  h.setF v (Fld.key_ne_of_place (by rwa [Fld.place_unit]))

end

/-! ## Fields apart from the selector -/

/-- The fields a change of state writes in a reference's unit beside its state (R163, R166, R167). -/
def refTraces : List Fld :=
  [F.REF_HIST_FAILED 0, F.REF_FAIL_CNT 0, F.REF_HIST_QUALIFIED 0, F.REF_HIST_SUSPECT 0, F.REF_HIST_ACTIVE 0]

/-- The fields of the selector that its evaluation writes (R168 to R175). -/
def selFlds : List Fld :=
  [F.SEL_STATUS_SEL_REF, F.SEL_STATUS_TARGET, F.SEL_STATUS_PHASE, F.SEL_STATUS_EFF, F.SEL_COUNT_ABANDONS]

/-- A field that the selector's evaluation does not write, but for a reference's state. -/
structure Fld.Apart (f : Fld) : Prop where
  refs : ∀ g ∈ refTraces, f.place ≠ g.place
  selector : ∀ g ∈ selFlds, f.key ≠ g.key
  loop : f.inUnits loopUnits = false
  book : f.key ∉ serveKeys

/-- A field is no reference's state, or the state of one that is not ACTIVE: deselection passes it by (R171). -/
def State.Idle (s : State) (f : Fld) : Prop :=
  f.place ≠ (F.REF_STATUS_STATE 0).place ∨ ∃ n, f = F.REF_STATUS_STATE n ∧ s.refSt n ≠ rsACTIVE

section
variable {s t u : State} {f : Fld}

theorem State.Idle.spared (h : s.Idle f) (k : s.Spares t f) : t.Idle f :=
  h.imp_right fun ⟨n, e, idle⟩ => ⟨n, e, by rw [State.refSt, ← e, k.getF, e]; exact idle⟩

theorem State.Idle.key_ne (h : s.Idle f) {n : Nat} (active : s.refSt n = rsACTIVE) : f.key ≠ (F.REF_STATUS_STATE n).key := by
  rcases h with apart | ⟨m, rfl, idle⟩
  · exact Fld.key_ne_of_place (by rw [F.REF_STATUS_STATE, Fld.place_unit]; exact apart)
  · exact fun e => idle (refState_key_inj e ▸ active)

/-- A field outside a frame, and none that every command may write, is left. -/
theorem State.Loops.spares {us : List Units} (h : s.Loops t us) (loop : f.inUnits us = false) (book : f.key ∉ serveKeys) :
    s.Spares t f := ⟨h.stays.getF f loop book, h.stays.sticky⟩

/-- A change of a reference's state writes, beside the state, its history only (R163, R166, R181). -/
theorem State.spares_setRef_moved {s : State} {n v : Nat} (changes : s.refSt n ≠ v) (apart : ∀ g ∈ refTraces, f.place ≠ g.place) :
    (s.setF (F.REF_STATUS_STATE n) v).Spares (s.setRef n v) f := by
  unfold State.setRef
  extract_lets old moved noted _ since
  rw [if_neg changes]
  have moves := State.Spares.refl moved f
  have failed : moved.Spares ((moved.setF (F.REF_HIST_FAILED n) 1).incSat (F.REF_FAIL_CNT n)) f :=
    (moves.setAt n _ (apart _ (by decide))).setAt n _ (apart _ (by decide))
  have notes : moved.Spares noted f := .ite failed (.ite (moves.setAt n 1 (apart _ (by decide)))
    (.ite (moves.setAt n 1 (apart _ (by decide))) (.ite (moves.setAt n 1 (apart _ (by decide))) moves)))
  exact State.Spares.logState (t := since) notes.same _ _ _ _

theorem State.spares_setRef (s : State) (n v : Nat) (apart : ∀ g ∈ refTraces, f.place ≠ g.place)
    (other : f.key ≠ (F.REF_STATUS_STATE n).key) : s.Spares (s.setRef n v) f := by
  by_cases same : s.refSt n = v
  · have stays : s.setRef n v = s := if_pos same
    rw [stays]
    exact .refl s f
  · exact ((State.Spares.refl s f).setF v other).trans (State.spares_setRef_moved same apart)

variable (apart : f.Apart)
include apart

/-- Deselection moves the state of an ACTIVE reference only (R171). -/
theorem State.Idle.spares_deselect (idle : s.Idle f) : s.Spares s.deselect f := by
  unfold State.deselect
  extract_lets n none moved
  have nones : s.Spares none f := (State.Spares.refl s f).setF 7 (apart.selector _ (by decide))
  have moves : s.Spares moved f := by
    show s.Spares (if none.refSt n = rsACTIVE then none.setRef n rsQUALIFIED else none) f
    split
    · next active => exact nones.trans (none.spares_setRef n rsQUALIFIED apart.refs ((idle.spared nones).key_ne active))
    · exact nones
  exact .ite (.refl s f) ((moves.logState _ _ _ _).trans ((State.loops_loopDeselect _ n).spares apart.loop apart.book))

omit apart in
/-- The switch machine's registers are TARGET and PHASE. -/
theorem State.spares_showSwitch (s : State) (target : f.key ≠ F.SEL_STATUS_TARGET.key) (phase : f.key ≠ F.SEL_STATUS_PHASE.key) :
    s.Spares s.showSwitch f := ((State.Spares.refl s f).setF _ target).setF _ phase

omit apart in
theorem State.spares_selectTarget (s : State) (n : Nat) (phase : f.key ≠ F.SEL_STATUS_PHASE.key) : s.Spares (s.selectTarget n) f := by
  unfold State.selectTarget
  exact (State.Spares.refl s f).same.setF 1 phase

theorem State.spares_abandon (s : State) (cause new : Nat) : s.Spares (s.abandon cause new) f := by
  unfold State.abandon
  extract_lets old fired logged
  have logs : s.Spares logged f :=
    (((State.Spares.refl s f).fire _ _ _).setF _ (apart.selector F.SEL_COUNT_ABANDONS (by decide))).logState _ _ _ _
  exact .ite logs.same (logs.trans (logged.spares_selectTarget new (apart.selector _ (by decide))))

omit apart in
theorem State.spares_decide (s : State) : s.Spares s.decide_.2 f := by
  unfold State.decide_
  extract_lets c n free _ waits
  have kept : s.Spares waits f := .ite (.refl s f) (State.Spares.refl s f).same
  split
  · exact kept
  · split
    · exact kept
    · split <;> exact kept

/-- The selector's evaluation (R168 to R171, R174, R175). -/
theorem State.Idle.spares_selectorStep (idle : s.Idle f) : s.Spares s.selectorStep f := by
  unfold State.selectorStep
  extract_lets eff old ranked host _ seen stopped _ off lost kept t b turned
  have ranks : s.Spares ranked f :=
    .ite (.refl s f) (((State.Spares.refl s f).setF eff (apart.selector _ (by decide))).logState _ _ _ _)
  have sees : s.Spares seen f := ranks.same
  have shows : ∀ u : State, u.Spares u.showSwitch f := fun u =>
    u.spares_showSwitch (apart.selector _ (by decide)) (apart.selector _ (by decide))
  have stops : s.Spares off f :=
    State.Spares.same (t := stopped) (.ite sees (.ite sees.same (sees.trans (seen.spares_abandon apart 4 7))))
  have loses : s.Spares lost f := .ite (sees.trans ((idle.spared sees).spares_deselect apart)) sees
  have keeps : s.Spares kept f := .ite loses.same loses
  have turns : s.Spares turned f := .ite (keeps.trans (kept.spares_abandon apart 3 _))
    (.ite (keeps.trans (kept.spares_abandon apart 2 b)) (.ite (keeps.trans (kept.spares_abandon apart 1 b)) keeps))
  refine .ite ((stops.trans ((idle.spared stops).spares_deselect apart)).trans (shows _))
    (.ite (turns.trans (shows turned)) ?_)
  have decides := keeps.trans kept.spares_decide
  generalize kept.decide_ = d at decides ⊢
  obtain ⟨want, decided⟩ := d
  exact (State.Spares.same (t := decided) decides).trans (shows _)

/-- What follows the monitors in a tick (R170). -/
theorem State.Idle.spares_afterMonitors (idle : s.Idle f) : s.Spares s.afterMonitors f :=
  .ite (.refl s f) ((idle.spares_selectorStep apart).trans ((State.loops_hoApply _).mono.spares apart.loop apart.book))

end
end Sys2Proof.Machine
end

section
/-!
The expiries of monitors (R163, R165, R177, R178): what each gives its reference outlasts the selector's evaluation, since the
reference is not ACTIVE then.
-/

namespace Sys2Proof.Machine

theorem refState_place (n : Nat) : (F.REF_STATUS_STATE n).place = 0x80 := Fld.place_unit _ n _ _
theorem lastCause_place (n : Nat) : (F.REF_STATUS_LAST_CAUSE n).place = 0x88 := Fld.place_unit _ n _ _

theorem refState_apart {n : Nat} (hn : n < 7) : (F.REF_STATUS_STATE n).Apart where
  refs := by rw [refState_place]; decide
  selector := (by decide : ∀ n < 7, ∀ g ∈ selFlds, (F.REF_STATUS_STATE n).key ≠ g.key) n hn
  loop := (by decide : ∀ n < 7, (F.REF_STATUS_STATE n).inUnits loopUnits = false) n hn
  book := (by decide : ∀ n < 7, (F.REF_STATUS_STATE n).key ∉ serveKeys) n hn

theorem lastCause_apart {n : Nat} (hn : n < 7) : (F.REF_STATUS_LAST_CAUSE n).Apart where
  refs := by rw [lastCause_place]; decide
  selector := (by decide : ∀ n < 7, ∀ g ∈ selFlds, (F.REF_STATUS_LAST_CAUSE n).key ≠ g.key) n hn
  loop := (by decide : ∀ n < 7, (F.REF_STATUS_LAST_CAUSE n).inUnits loopUnits = false) n hn
  book := (by decide : ∀ n < 7, (F.REF_STATUS_LAST_CAUSE n).key ∉ serveKeys) n hn

theorem lastCause_idle (s : State) (n : Nat) : s.Idle (F.REF_STATUS_LAST_CAUSE n) :=
  .inl (by rw [lastCause_place, refState_place]; decide)

/-! ## States of references -/

section
variable {s t u : State} {n : Nat}

theorem State.refSt_setRef (s : State) (n : Nat) {v : Nat} (hv : v < 8) : (s.setRef n v).refSt n = v := by
  by_cases same : s.refSt n = v
  · have stays : s.setRef n v = s := if_pos same
    rw [stays, same]
  · have moved := State.spares_setRef_moved (f := F.REF_STATUS_STATE n) same (by rw [refState_place]; decide)
    rw [State.refSt, moved.getF, State.getF_setF_self]
    exact Nat.mod_eq_of_lt hv

/-- The states of two references. -/
theorem State.refSt_setRef_ne (s : State) {m n : Nat} (v : Nat) (other : m ≠ n) : (s.setRef n v).refSt m = s.refSt m :=
  (s.spares_setRef n v (by rw [refState_place]; decide) fun e => other (refState_key_inj e)).getF

theorem State.spares_showRemain (s : State) (n : Nat) {f : Fld} (apart : f.place ≠ (F.REF_STATUS_QUAL_REMAIN 0).place) :
    s.Spares (s.showRemain n) f := (State.Spares.refl s f).setAt n _ apart

theorem State.refSt_toQualifying (s : State) (n : Nat) : (s.toQualifying n).refSt n = rsQUALIFYING :=
  s.refSt_setRef n (v := rsQUALIFYING) (by decide)

/-- QUALIFYING becomes QUALIFIED (R163). -/
theorem State.takeQualify_qualifies (s : State) (n : Nat) :
    (s.takeQualify n).refSt n = rsQUALIFIED ∧ Ev.REF_QUALIFY ∈ (s.takeQualify n).ev.sticky := by
  have shown := ((s.setRef n rsQUALIFIED).spares_showRemain n (f := F.REF_STATUS_STATE n) (by rw [refState_place]; decide)).fire
    Ev.REF_QUALIFY (refObj n) n
  exact ⟨shown.getF.trans (s.refSt_setRef n (by decide)), State.fire_sticky _ _ _ _⟩

/-- What a monitor shows of a reference: its state, the cause of its last loss, and an event. -/
structure State.Judged (s : State) (n st cause ev : Nat) : Prop where
  state : s.refSt n = st
  cause : s.getF (F.REF_STATUS_LAST_CAUSE n) = cause
  event : ev ∈ s.ev.sticky

theorem State.Judged.spared {st cause ev : Nat} (h : s.Judged n st cause ev) (state : s.Spares t (F.REF_STATUS_STATE n))
    (last : s.Spares t (F.REF_STATUS_LAST_CAUSE n)) : t.Judged n st cause ev :=
  ⟨state.getF.trans h.state, last.getF.trans h.cause, state.sticky _ h.event⟩

theorem State.Judged.showRemain {st cause ev : Nat} (h : s.Judged n st cause ev) : (s.showRemain n).Judged n st cause ev :=
  h.spared (s.spares_showRemain n (by rw [refState_place]; decide)) (s.spares_showRemain n (by rw [lastCause_place]; decide))

/-- A reference disqualified (Table 7.4). -/
theorem State.judged_disqualify (s : State) (n : Nat) {cause : Nat} (hc : cause < 8) :
    (s.disqualify n cause).Judged n rsQUALIFYING cause Ev.REF_DISQUALIFY := by
  unfold State.disqualify
  extract_lets left caused _ cleared
  have since : ∀ f : Fld, f.place ≠ (F.REF_HIST_DISQUALIFIED 0).place →
      (left.setF (F.REF_STATUS_LAST_CAUSE n) cause).Spares cleared f := fun f apart =>
    ((State.Spares.refl _ f).setAt n 1 apart).setMon n _
  have state := (((State.Spares.refl left (F.REF_STATUS_STATE n)).setAt n cause (by rw [refState_place]; decide)).trans
    (since _ (by rw [refState_place]; decide))).fire Ev.REF_DISQUALIFY (refObj n) (n + 256 * cause)
  have last := (since (F.REF_STATUS_LAST_CAUSE n) (by rw [lastCause_place]; decide)).fire Ev.REF_DISQUALIFY (refObj n) (n + 256 * cause)
  refine ⟨state.getF.trans (s.refSt_toQualifying n), last.getF.trans ?_, State.fire_sticky _ _ _ _⟩
  rw [State.getF_setF_self]
  exact Nat.mod_eq_of_lt hc

/-- A reference without activity (Table 7.4, cause 1). -/
theorem State.judged_refFail (s : State) (n : Nat) : (s.refFail n).Judged n rsFAILED 1 Ev.REF_FAIL := by
  unfold State.refFail
  extract_lets failed m cleared
  have since : ∀ f : Fld, failed.Spares (cleared.fire Ev.REF_FAIL (refObj n) (n + 256)) f := fun f =>
    ((State.Spares.refl failed f).setMon n _).fire _ _ _
  have state := ((State.Spares.refl (s.setRef n rsFAILED) (F.REF_STATUS_STATE n)).setAt n 1 (by rw [refState_place]; decide)).trans
    (since _)
  refine ⟨state.getF.trans (s.refSt_setRef n (by decide)), (since _).getF.trans ?_, State.fire_sticky _ _ _ _⟩
  exact State.getF_setF_self _ _ _

/-- SUSPECT clears to QUALIFIED where the reference is not selected (R165). -/
theorem State.refSt_takeClear (hn : n < 7) (other : s.selRef ≠ n) : (s.takeClear n).refSt n = rsQUALIFIED := by
  unfold State.takeClear
  extract_lets cleared
  have clears : cleared = s.setRef n rsQUALIFIED := congrArg (s.setRef n) (if_neg other)
  have qualified : cleared.refSt n = rsQUALIFIED := by
    rw [clears]
    exact s.refSt_setRef n (by decide)
  have released := (State.Loops.ite (c := cleared.clk.frozenBy = some n) (cleared.loops_setFrozen none).mono (.refl cleared loopUnits)).spares
    (refState_apart hn).loop (refState_apart hn).book
  exact released.getF.trans qualified

theorem wckStop_of_recognised (enabled : s.on (F.REF_CTL_EN n) = true) (live : s.refSt n ≠ rsFAILED) (recognised : (s.mon n).rate ≠ 0) :
    wckStop n s = (((s.setMon n { s.mon n with act := false }).refFail n).showRemain n).afterMonitors :=
  if_neg (by simp [enabled, live, recognised])

/-! ## The selector after them -/

/-- What settles after the selector's evaluation leaves an idle field. -/
theorem State.Idle.spares_settled {f : Fld} (idle : u.Idle f) (apart : f.Apart) (settled : State.Settled u.afterMonitors t) :
    u.Spares t f :=
  (idle.spares_afterMonitors apart).trans ⟨settled.served.getF f apart.book, settled.sticky⟩

/-- A judgement outlasts the selector's evaluation where the reference is not ACTIVE. -/
theorem State.Judged.settled {st cause ev : Nat} (h : u.Judged n st cause ev) (idle : st ≠ rsACTIVE) (hn : n < 7)
    (settled : State.Settled u.afterMonitors t) : t.Judged n st cause ev :=
  h.spared (State.Idle.spares_settled (.inr ⟨n, rfl, h.state ▸ idle⟩) (refState_apart hn) settled)
    ((lastCause_idle u n).spares_settled (lastCause_apart hn) settled)

variable (alive : s.alive = true)
include alive

theorem refQualify_acts {n : Fin 7} (due : s.qualDue n = true) :
    ∃ t, exec (.refQualify n) s = .next t ∧ t.refSt n = rsQUALIFIED ∧ Ev.REF_QUALIFY ∈ t.ev.sticky := by
  obtain ⟨t, e, settled⟩ := happen_whenAlive (refQualify n) alive
  have body : refQualify n s.fresh = (s.fresh.takeQualify n).afterMonitors := if_pos due
  rw [body] at settled
  obtain ⟨state, event⟩ := s.fresh.takeQualify_qualifies n
  have kept := State.Idle.spares_settled (.inr ⟨n, rfl, by rw [state]; decide⟩) (refState_apart n.isLt) settled
  exact ⟨t, e, kept.getF.trans state, kept.sticky _ event⟩

theorem refDwellExpiry_acts {n : Fin 7} (due : s.dwellDue n = true) :
    ∃ t, exec (.refDwellExpiry n) s = .next t ∧ t.refSt n = rsQUALIFYING ∧ Ev.REF_DISQUALIFY ∈ t.ev.sticky ∧
      t.getF (F.REF_STATUS_LAST_CAUSE n) = 3 := by
  obtain ⟨t, e, settled⟩ := happen_whenAlive (refDwellExpiry n) alive
  have body : refDwellExpiry n s.fresh = (s.fresh.takeDwell n).afterMonitors := if_pos due
  rw [body] at settled
  obtain ⟨state, cause, event⟩ :=
    ((s.fresh.judged_disqualify n (by decide)).showRemain).settled (by decide) n.isLt settled
  exact ⟨t, e, state, event, cause⟩

theorem refClearExpiry_acts {n : Fin 7} (due : s.clearDue n = true) (other : s.selRef ≠ n) :
    ∃ t, exec (.refClearExpiry n) s = .next t ∧ t.refSt n = rsQUALIFIED := by
  obtain ⟨t, e, settled⟩ := happen_whenAlive (refClearExpiry n) alive
  have body : refClearExpiry n s.fresh = (s.fresh.takeClear n).afterMonitors := if_pos due
  rw [body] at settled
  have state := State.refSt_takeClear (s := s.fresh) n.isLt other
  have kept := State.Idle.spares_settled (.inr ⟨n, rfl, by rw [state]; decide⟩) (refState_apart n.isLt) settled
  exact ⟨t, e, kept.getF.trans state⟩

theorem wckStopDetect_acts {n : Fin 2} (enabled : s.on (F.REF_CTL_EN (4 + n)) = true) (live : s.refSt (4 + n) ≠ rsFAILED)
    (recognised : (s.mon (4 + n)).rate ≠ 0) :
    ∃ t, exec (.wckStopDetect n) s = .next t ∧ t.refSt (4 + n) = rsFAILED ∧ Ev.REF_FAIL ∈ t.ev.sticky ∧
      t.getF (F.REF_STATUS_LAST_CAUSE (4 + n)) = 1 := by
  obtain ⟨t, e, settled⟩ := happen_whenAlive (wckStop (4 + n)) alive
  rw [wckStop_of_recognised (s := s.fresh) enabled live recognised] at settled
  obtain ⟨state, cause, event⟩ := (State.judged_refFail _ (4 + n)).showRemain.settled (by decide) (by omega) settled
  exact ⟨t, e, state, event, cause⟩

end
end Sys2Proof.Machine
end

section
/-!
Rates, ESMC levels, switches, settling and the seconds of the loop (R167, R169, R173, R177, R189, R190).
-/

namespace Sys2Proof.Machine

/-! ## Values read back -/

theorem State.getF_setSat (s : State) (f : Fld) (v : Nat) : (s.setSat f v).getF f = satNat f.width v := by
  rw [State.setSat, State.getF_setF_self, Nat.mod_eq_of_lt (satNat_lt _ _)]

theorem satSigned_range (v : Int) : -2147483648 ≤ satSigned 32 v ∧ satSigned 32 v < 2147483648 := by
  unfold satSigned
  split
  · omega
  · split <;> omega

theorem signed_unsigned_32 {v : Int} (low : -2147483648 ≤ v) (high : v < 2147483648) : signed 32 (unsigned 32 v % 2 ^ 32) = v := by
  unfold signed unsigned
  split <;> omega

/-- A saturated integer is read back as it was saturated. -/
theorem State.getI_setISat (s : State) (f : Fld) (v : Int) (wide : f.width = 32) : (s.setISat f v).getI f = satSigned 32 v := by
  obtain ⟨low, high⟩ := satSigned_range v
  rw [State.setISat, State.getI, State.getF_setF_self, wide, signed_unsigned_32 low high]

theorem State.mon_setMon (s : State) (n : Nat) (m : RefMon) : (s.setMon n m).mon n = m := KV.get_put_self _ _ _ _

theorem State.mon_congr {s t : State} (h : t.clk = s.clk) (n : Nat) : t.mon n = s.mon n := by rw [State.mon, State.mon, h]

theorem State.course_setMon (s : State) (n : Nat) (m : RefMon) : (s.setMon n m).clk.course = s.clk.course := rfl

section
variable {s t : State}

/-! ## Rates and levels (R167, R177) -/

theorem wckRecognised_of_near {n meas r : Nat} (enabled : s.on (F.REF_CTL_EN n) = true) (live : s.refSt n ≠ rsFAILED)
    (unknown : (s.mon n).rate = 0) (near : (s.refAccepted n).find? (nearRate meas) = some r) :
    wckRecognised n meas s = (s.setMon n { s.mon n with rate := r }).setSat (F.REF_WCK_MEAS n) meas := by
  unfold wckRecognised
  rw [if_neg (by simp [enabled, live, unknown]), near]

theorem wckMeas_kept : ∀ n < 7, (F.REF_WCK_MEAS n).key ∉ settleKeys := by decide

section
variable (alive : s.alive = true)
include alive

theorem wckRateRecognised_acts {n : Fin 2} {meas r : Nat} (enabled : s.on (F.REF_CTL_EN (4 + n)) = true)
    (live : s.refSt (4 + n) ≠ rsFAILED) (unknown : (s.mon (4 + n)).rate = 0)
    (near : (s.refAccepted (4 + n)).find? (nearRate meas) = some r) :
    ∃ t, exec (.wckRateRecognised n meas) s = .next t ∧ (t.mon (4 + n)).rate = r ∧
      t.getF (F.REF_WCK_MEAS (4 + n)) = satNat (F.REF_WCK_MEAS (4 + n)).width meas := by
  obtain ⟨t, e, settled⟩ := happen_whenAlive (wckRecognised (4 + n) meas) alive
  rw [wckRecognised_of_near (s := s.fresh) enabled live unknown near] at settled
  refine ⟨t, e, ?_, ?_⟩
  · rw [State.mon_congr settled.clk]
    exact congrArg RefMon.rate (State.mon_setMon _ _ _)
  · rw [settled.getF _ (wckMeas_kept _ (by omega)), State.getF_setSat]

theorem esmcPduRx_acts (port : Fin 2) (ql : Ql) :
    ∃ t, exec (.esmcPduRx port ql) s = .next t ∧ (t.mon (2 + port)).esmc = ql.level := by
  obtain ⟨t, e, settled⟩ := happen_whenAlive (esmcLevel port ql.level) alive
  refine ⟨t, e, ?_⟩
  rw [State.mon_congr settled.clk]
  exact congrArg RefMon.esmc (State.mon_setMon _ _ _)

theorem esmcTimeout_acts (port : Fin 2) : ∃ t, exec (.esmcTimeout port) s = .next t ∧ (t.mon (2 + port)).esmc = 15 := by
  obtain ⟨t, e, settled⟩ := happen_whenAlive (esmcLevel port 15) alive
  refine ⟨t, e, ?_⟩
  rw [State.mon_congr settled.clk]
  exact congrArg RefMon.esmc (State.mon_setMon _ _ _)

end

/-! ## SELECT (R169, R180) -/

theorem State.holdoffMs_le (s : State) : s.holdoffMs ≤ 5000 := by
  unfold State.holdoffMs
  generalize s.getF F.SEL_CTL_HOLDOFF = k
  match k with
  | 0 | 1 | 2 | 3 => decide
  | k + 4 => exact (by decide : 1000 ≤ 5000)

/-- The event and the entry of a start. -/
def State.switchTold (s : State) (n : Nat) : State :=
  (s.fire Ev.SWITCH_START (selObj 0) (s.clk.lastSel + 16 * n)).logState orgSelector (selObj 1) 7 n

/-- The start of a switch, before its target is fixed: event, entry and spacing. -/
def State.spaced (s : State) (n : Nat) : State := (s.switchTold n).setF F.SEL_STATUS_HOLDOFF_REMAIN (s.switchTold n).holdoffMs

theorem switchStart_of_due (due : s.startDueSw = true) : switchStart s = ((s.spaced s.clk.want).selectTarget s.clk.want).showSwitch :=
  if_neg (by simp [due])

/-- A target fixed is shown with PHASE 1. -/
theorem State.selectTarget_shows (s : State) {n : Nat} (hn : n < 7) :
    (s.selectTarget n).showSwitch.getF F.SEL_STATUS_TARGET = n ∧ (s.selectTarget n).showSwitch.getF F.SEL_STATUS_PHASE = 1 := by
  have shown : (s.selectTarget n).showSwitch =
      ((s.selectTarget n).setF F.SEL_STATUS_TARGET n).setF F.SEL_STATUS_PHASE ((s.selectTarget n).getF F.SEL_STATUS_PHASE) := rfl
  have phase : (s.selectTarget n).getF F.SEL_STATUS_PHASE = 1 := State.getF_setF_self _ _ _
  rw [shown, phase, State.getF_setF_ne _ _ (by decide), State.getF_setF_self, State.getF_setF_self]
  exact ⟨Nat.mod_eq_of_lt (Nat.lt_trans hn (by decide)), rfl⟩

theorem State.spaced_spaces (s : State) (n : Nat) : (s.spaced n).getF F.SEL_STATUS_HOLDOFF_REMAIN = s.holdoffMs ∧
    Ev.SWITCH_START ∈ (s.spaced n).ev.sticky := by
  have traces : State.Traces s (s.switchTold n) := (s.traces_fire _ _ _).trans (State.traces_logState _ _ _ _ _)
  have told : Ev.SWITCH_START ∈ (s.switchTold n).ev.sticky :=
    (State.traces_logState _ _ _ _ _).sticky _ (State.fire_sticky _ _ _ _)
  have same : (s.switchTold n).holdoffMs = s.holdoffMs := by simp only [State.holdoffMs, traces.getF]
  refine ⟨?_, told⟩
  rw [State.spaced, State.getF_setF_self, same]
  exact Nat.mod_eq_of_lt (Nat.lt_of_le_of_lt s.holdoffMs_le (by decide))

theorem switchStart_acts (alive : s.alive = true) (due : s.startDueSw = true) (target : s.clk.want < 7) :
    ∃ t, exec .switchStart s = .next t ∧ t.clk.running = true ∧ t.clk.target = s.clk.want ∧
      t.getF F.SEL_STATUS_TARGET = s.clk.want ∧ t.getF F.SEL_STATUS_PHASE = 1 ∧
      t.getF F.SEL_STATUS_HOLDOFF_REMAIN = s.holdoffMs ∧ Ev.SWITCH_START ∈ t.ev.sticky := by
  obtain ⟨t, e, settled⟩ := happen_whenAlive switchStart alive
  rw [switchStart_of_due (s := s.fresh) due] at settled
  obtain ⟨shown, phase⟩ := (s.fresh.spaced s.clk.want).selectTarget_shows target
  obtain ⟨spacing, event⟩ := s.fresh.spaced_spaces s.clk.want
  have selected : (s.fresh.spaced s.clk.want).Spares ((s.fresh.spaced s.clk.want).selectTarget s.clk.want).showSwitch
      F.SEL_STATUS_HOLDOFF_REMAIN :=
    (State.spares_selectTarget _ _ (by decide)).trans (State.spares_showSwitch _ (by decide) (by decide))
  refine ⟨t, e, congrArg ClkState.running settled.clk, congrArg ClkState.target settled.clk, ?_, ?_, ?_,
    settled.sticky _ (selected.sticky _ event)⟩
  · exact (settled.getF _ (by decide)).trans shown
  · exact (settled.getF _ (by decide)).trans phase
  · exact (settled.getF _ (by decide)).trans (selected.getF.trans spacing)

/-! ## SETTLE (R173, R188) -/

theorem settleStep_of_first {ms : Nat} (settle : s.clk.settle = some (ms, 0)) (due : s.settleDue = true) :
    settleStep s = { s with clk := { s.clk with settle := some (ms, 1) } }.setF F.LOOP_STATUS_BW_EFF (s.bwCode s.clk.settleRef - 1) := by
  unfold settleStep
  rw [settle]
  dsimp only
  rw [if_neg (by simp [due]), if_pos rfl]

/-- The last step: the configured bandwidth, and no SETTLE. -/
def State.settleOver (s : State) : State :=
  { s with clk := { s.clk with settle := none } }.setF F.LOOP_STATUS_BW_EFF (s.bwCode s.clk.settleRef)

theorem settleStep_of_last {ms stage : Nat} (settle : s.clk.settle = some (ms, stage)) (due : s.settleDue = true) (last : stage ≠ 0) :
    settleStep s = s.settleOver.showSwitch ∨ settleStep s = (s.settleOver.setFrozen none).showSwitch := by
  unfold settleStep
  rw [settle]
  dsimp only
  rw [if_neg (by simp [due]), if_neg last]
  split
  · split
    · exact .inr rfl
    · exact .inl rfl
  · exact .inl rfl

/-- After the last step the history may be released. -/
theorem State.settleOver_shows {u : State} (code : s.bwCode s.clk.settleRef < 16) (released : s.settleOver.Loops u [⟨2, 10, 10⟩]) :
    u.showSwitch.getF F.LOOP_STATUS_BW_EFF = s.bwCode s.clk.settleRef ∧ u.showSwitch.clk.settle = none := by
  have kept := (released.spares (f := F.LOOP_STATUS_BW_EFF) rfl (by decide)).trans
    (u.spares_showSwitch (by decide) (by decide))
  exact ⟨(kept.getF.trans (State.getF_setF_self _ _ _)).trans (Nat.mod_eq_of_lt code), congrArg (·.2.2.1) released.course⟩

theorem settleStep_acts {ms stage : Nat} (alive : s.alive = true) (settle : s.clk.settle = some (ms, stage)) (due : s.settleDue = true)
    (code : s.bwCode s.clk.settleRef < 16) :
    ∃ t, exec .settleStep s = .next t ∧
      t.getF F.LOOP_STATUS_BW_EFF = (if stage = 0 then s.bwCode s.clk.settleRef - 1 else s.bwCode s.clk.settleRef) ∧
      t.clk.settle = (if stage = 0 then some (ms, 1) else none) := by
  obtain ⟨t, e, settled⟩ := happen_whenAlive settleStep alive
  refine ⟨t, e, ?_⟩
  rw [settled.getF _ (by decide), settled.clk]
  by_cases first : stage = 0
  · subst first
    rw [settleStep_of_first (s := s.fresh) settle due]
    exact ⟨(State.getF_setF_self _ _ _).trans (Nat.mod_eq_of_lt (Nat.lt_of_le_of_lt (Nat.sub_le _ _) code)), rfl⟩
  · rw [if_neg first, if_neg first]
    rcases settleStep_of_last (s := s.fresh) settle due first with ends | ends <;> rw [ends]
    · exact State.settleOver_shows (s := s.fresh) code (.refl _ _)
    · exact State.settleOver_shows (s := s.fresh) code (State.loops_setFrozen _ _)

/-! ## The seconds of the loop (R189, R190) -/

/-- AGE_USED and SLOPE_USED follow what is in use. -/
def State.usesShown (s : State) : State := (s.setF F.HOLD_AGE_USED (unsigned 16 s.ageUsed)).setF F.HOLD_SLOPE_USED s.slopeUsed

theorem State.getF_usesShown (s : State) {f : Fld} (age : f.key ≠ F.HOLD_AGE_USED.key) (slope : f.key ≠ F.HOLD_SLOPE_USED.key) :
    s.usesShown.getF f = s.getF f := (State.getF_setF_ne _ _ slope).trans (State.getF_setF_ne _ _ age)

theorem State.loopMode_usesShown (s : State) : s.usesShown.loopMode = s.loopMode := s.getF_usesShown (by decide) (by decide)

theorem holdoverSecond_of_locked {avg : Int} (locked : s.loopMode = lmLOCKED) (settle : s.clk.settle = none)
    (thawed : s.clk.frozenBy = none) : (holdoverSecond avg s).clk.hist = (avg :: s.clk.hist).take 30000 := by
  have mode := s.loopMode_usesShown.trans locked
  have taken : (decide (s.usesShown.loopMode = lmLOCKED) && s.clk.settle.isNone && s.clk.frozenBy.isNone) = true := by
    simp [mode, settle, thawed]
  exact congrArg (fun u : State => u.clk.hist) (if_pos taken)

/-- A second of HOLDOVER counts and leaves the history. -/
theorem holdoverSecond_of_holdover {avg : Int} (held : s.loopMode = lmHOLDOVER) :
    (holdoverSecond avg s).clk.hist = s.clk.hist ∧
      (holdoverSecond avg s).getF F.HOLD_HO_ELAPSED = satNat 32 (s.getF F.HOLD_HO_ELAPSED + 1) := by
  unfold holdoverSecond
  extract_lets shown _ _ _ warmer elapsed timed error counted
  have mode : shown.loopMode = lmHOLDOVER := s.loopMode_usesShown.trans held
  have hist : counted.clk.hist = s.clk.hist := rfl
  have moved : counted.getF F.HOLD_HO_ELAPSED = satNat 32 (s.getF F.HOLD_HO_ELAPSED + 1) := by
    rw [State.getF_setF_ne _ _ (by decide), State.getF_setF_self]
    exact (Nat.mod_eq_of_lt (satNat_lt 32 _)).trans
      (congrArg (fun n => satNat 32 (n + 1)) (s.getF_usesShown (f := F.HOLD_HO_ELAPSED) (by decide) (by decide)))
  have told := (((State.Stays.refl (counted.setF F.HOLD_HO_STATUS_OUT_OF_SPEC 1) [] loopOnly).raise Ev.HOLDOVER_OUT_OF_SPEC
    (objId 2 10 0) elapsed).logState orgSelector (objId 2 10 0) 0 1).loops.trans (State.loops_hoApply _)
  rw [if_neg (by simp [mode, lmHOLDOVER, lmLOCKED]), if_pos mode]
  split
  · refine ⟨(congrArg (·.2.2.2) told.course).trans hist, ?_⟩
    rw [told.stays.getF F.HOLD_HO_ELAPSED rfl, State.getF_setF_ne _ _ (by decide), moved]
  · exact ⟨hist, moved⟩

section
variable {avg : Int} (alive : s.alive = true)
include alive

theorem holdoverSecond_records (locked : s.loopMode = lmLOCKED) (settle : s.clk.settle = none) (thawed : s.clk.frozenBy = none) :
    ∃ t, exec (.holdoverSecond avg) s = .next t ∧ t.clk.hist = (avg :: s.clk.hist).take 30000 := by
  obtain ⟨t, e, settled⟩ := happen_whenAlive (holdoverSecond avg) alive
  exact ⟨t, e, (congrArg ClkState.hist settled.clk).trans (holdoverSecond_of_locked (s := s.fresh) locked settle thawed)⟩

theorem holdoverSecond_counts (held : s.loopMode = lmHOLDOVER) :
    ∃ t, exec (.holdoverSecond avg) s = .next t ∧ t.clk.hist = s.clk.hist ∧
      t.getF F.HOLD_HO_ELAPSED = satNat 32 (s.getF F.HOLD_HO_ELAPSED + 1) := by
  obtain ⟨t, e, settled⟩ := happen_whenAlive (holdoverSecond avg) alive
  obtain ⟨hist, elapsed⟩ := holdoverSecond_of_holdover (s := s.fresh) (avg := avg) held
  exact ⟨t, e, (congrArg ClkState.hist settled.clk).trans hist, (settled.getF _ (by decide)).trans elapsed⟩

end
end
end Sys2Proof.Machine
end

section
/-!
BUILD-OUT (R173): the measured phase is absorbed, the target becomes ACTIVE and selected, and SETTLE begins.
-/

namespace Sys2Proof.Machine

/-! ## Its stages -/

/-- The switch machine ends its run for target `n`, and SETTLE begins. -/
def State.runOver (s : State) (n : Nat) : State :=
  { s with clk := { s.clk with
    running := false, rebuild := false, target := 7, want := 7, lastSel := n
    settle := some (0, 0), settleRef := n, betRef := 7, betMs := 0 } }

/-- The target becomes ACTIVE, the previous reference QUALIFIED where it was ACTIVE. -/
def State.exchanged (s : State) (n prev : Nat) : State :=
  if prev ≠ 7 && prev ≠ n && (s.setRef n rsACTIVE).refSt prev = rsACTIVE then (s.setRef n rsACTIVE).setRef prev rsQUALIFIED
  else s.setRef n rsACTIVE

/-- The target is selected. -/
def State.selected (s : State) (n prev : Nat) : State :=
  ((s.exchanged n prev).setF F.SEL_STATUS_SEL_REF n).logState orgSelector (selObj 0) prev n

/-- LAST, RESID and the count of switches. -/
def State.absorbed (s : State) (phase resid : Int) : State :=
  ((s.setISat F.SEL_LAST phase).setISat F.SEL_RESID resid).incSat F.SEL_COUNT_SWITCHES

/-- The loop and the time of day go over to the target (R126, R173). -/
def State.followed (s : State) (n : Nat) (sus : Bool) : State :=
  let s := s.loopBuildOut n sus
  let s := s.setF F.LOOP_STATUS_BW_EFF (s.bwCode n - 2)
  if n < 2 && s.getF F.TB_CTL_TOD_SRC = 0 && s.on (F.D_CTL_EN n) then s.wantTod n else s

/-- The stages after the selection. -/
def State.finished (s : State) (n : Nat) (phase resid : Int) (detail : Nat) (sus : Bool) : State :=
  (((s.absorbed phase resid).fire Ev.SWITCH_DONE (selObj 0) detail).followed n sus).showSwitch

section
variable {s t u : State} {drift resid : Int}

/-- BUILD_OUT, stage by stage. -/
theorem buildOut_of_due (drift resid : Int) (due : s.buildDue = true) : ∃ (r : Int) (detail : Nat) (sus : Bool), buildOut drift resid s =
    (if s.clk.rebuild then s.runOver s.clk.target else (s.runOver s.clk.target).selected s.clk.target s.selRef).finished s.clk.target
      (roundDiv s.clk.acc s.clk.accN + drift) r detail sus :=
  ⟨_, _, _, if_neg (by simp [due])⟩

/-- What does not bear on the loop, TARGET and PHASE outlasts the stages after SWITCH_DONE. -/
theorem State.spares_followed (s : State) (n : Nat) (sus : Bool) {f : Fld} (loop : f.inUnits loopUnits = false)
    (book : f.key ∉ serveKeys) : s.Spares (s.followed n sus) f := by
  unfold State.followed
  extract_lets built narrowed
  have builds : s.Loops built loopUnits := (s.loops_loopBuildOut n sus).mono
  have narrows : s.Spares narrowed f :=
    (builds.trans ((State.Stays.refl built _ _).setF F.LOOP_STATUS_BW_EFF _ (by decide)).loops).spares loop book
  refine .ite (narrows.trans ?_) narrows
  unfold State.wantTod
  exact .ite (State.Spares.refl _ f).same (State.Spares.refl _ f).same

theorem State.course_followed (s : State) (n : Nat) (sus : Bool) : (s.followed n sus).clk.course = s.clk.course := by
  have tod : ∀ (u : State) (c : Prop) [Decidable c], (if c then u.wantTod n else u).clk = u.clk := fun u c _ => by
    unfold State.wantTod
    split
    · split <;> rfl
    · rfl
  exact (congrArg ClkState.course (tod _ _)).trans (s.loops_loopBuildOut n sus).course

theorem State.course_setRef (s : State) (n v : Nat) : (s.setRef n v).clk.course = s.clk.course := by
  have ite : ∀ {c : Prop} [Decidable c] {t u : State}, t.clk = s.clk → u.clk = s.clk → (if c then t else u).clk = s.clk :=
    fun yes no => by split <;> assumption
  unfold State.setRef
  extract_lets old moved noted _ since
  have notes : noted.clk = s.clk := ite rfl (ite rfl (ite rfl (ite rfl rfl)))
  have sinces : since.clk.course = s.clk.course := (noted.course_setMon n _).trans (congrArg ClkState.course notes)
  split
  · rfl
  · rw [(State.traces_logState _ _ _ _ _).clk, sinces]

/-! ## What the stages show -/

section
variable (s) (n prev : Nat)

theorem State.course_selected : (s.selected n prev).clk.course = s.clk.course := by
  have exchanges : (s.exchanged n prev).clk.course = s.clk.course := by
    unfold State.exchanged
    split
    · exact (State.course_setRef _ _ _).trans (s.course_setRef _ _)
    · exact s.course_setRef _ _
  exact (congrArg ClkState.course (State.traces_logState _ _ _ _ _).clk).trans exchanges

theorem State.refSt_exchanged_target : (s.exchanged n prev).refSt n = rsACTIVE := by
  have active := s.refSt_setRef n (v := rsACTIVE) (by decide)
  unfold State.exchanged
  split
  · next both =>
    have other : prev ≠ n := by simp_all
    exact (State.refSt_setRef_ne _ _ other.symm).trans active
  · exact active

variable {n prev}

theorem State.refSt_exchanged_active (some : prev ≠ 7) (other : prev ≠ n) (active : s.refSt prev = rsACTIVE) :
    (s.exchanged n prev).refSt prev = rsQUALIFIED := by
  have kept := (s.refSt_setRef_ne rsACTIVE other).trans active
  unfold State.exchanged
  rw [if_pos (by simp [some, other, kept])]
  exact State.refSt_setRef _ _ (by decide)

theorem State.refSt_exchanged_suspect (other : prev ≠ n) (suspect : s.refSt prev = rsSUSPECT) :
    (s.exchanged n prev).refSt prev = rsSUSPECT := by
  have kept := (s.refSt_setRef_ne rsACTIVE other).trans suspect
  have differs : (s.setRef n rsACTIVE).refSt prev ≠ rsACTIVE := by rw [kept]; decide
  unfold State.exchanged
  rw [if_neg (by simp [differs])]
  exact kept

/-- The states of references outlast the selection. -/
theorem State.refSt_selected (n prev m : Nat) : (s.selected n prev).refSt m = (s.exchanged n prev).refSt m :=
  (((State.Spares.refl (s.exchanged n prev) _).setF n (Fld.key_ne_of_place (by rw [refState_place]; decide))).logState
    orgSelector (selObj 0) prev n).getF

theorem State.selRef_selected (hn : n < 8) : (s.selected n prev).selRef = n := by
  exact ((State.traces_logState _ _ _ _ _).getF _).trans ((State.getF_setF_self _ _ _).trans (Nat.mod_eq_of_lt hn))

end

/-- What BUILD-OUT shows of its target and of the reference it leaves. -/
structure State.Switched (s t : State) (phase : Int) : Prop where
  idle : t.clk.running = false
  settle : t.clk.settle = some (0, 0)
  selected : t.selRef = s.clk.target
  active : t.refSt s.clk.target = rsACTIVE
  done : Ev.SWITCH_DONE ∈ t.ev.sticky
  last : t.getI F.SEL_LAST = satSigned 32 phase
  left : s.selRef < 7 → s.selRef ≠ s.clk.target → s.refSt s.selRef = rsACTIVE → t.refSt s.selRef = rsQUALIFIED
  suspect : s.selRef < 7 → s.selRef ≠ s.clk.target → s.refSt s.selRef = rsSUSPECT → t.refSt s.selRef = rsSUSPECT

section
variable (u : State) (n : Nat) (phase r : Int) (detail : Nat) (sus : Bool)

theorem State.course_finished : (u.finished n phase r detail sus).clk.course = u.clk.course :=
  (State.course_followed _ n sus).trans (congrArg ClkState.course (State.traces_fire _ _ _ _).clk)

/-- What the stages after the record leave of a field, and that SWITCH_DONE is sticky. -/
theorem State.spares_recorded {f : Fld} (loop : f.inUnits loopUnits = false) (book : f.key ∉ serveKeys)
    (target : f.key ≠ F.SEL_STATUS_TARGET.key) (shown : f.key ≠ F.SEL_STATUS_PHASE.key) :
    ((u.absorbed phase r).fire Ev.SWITCH_DONE (selObj 0) detail).Spares (u.finished n phase r detail sus) f :=
  (State.spares_followed _ n sus loop book).trans (State.spares_showSwitch _ target shown)

/-- A field that the record, the loop and the switch machine's registers are apart from. -/
theorem State.spares_finished {f : Fld} (loop : f.inUnits loopUnits = false) (book : f.key ∉ serveKeys)
    (apart : ∀ g ∈ [F.SEL_STATUS_TARGET, F.SEL_STATUS_PHASE, F.SEL_LAST, F.SEL_RESID, F.SEL_COUNT_SWITCHES], f.key ≠ g.key) :
    u.Spares (u.finished n phase r detail sus) f := by
  refine State.Spares.trans (State.Spares.fire ?_ _ _ _)
    (u.spares_recorded n phase r detail sus loop book (apart _ (by decide)) (apart _ (by decide)))
  exact (((State.Spares.refl u f).setF _ (apart F.SEL_LAST (by decide))).setF _ (apart F.SEL_RESID (by decide))).setF _
    (apart F.SEL_COUNT_SWITCHES (by decide))

theorem State.getI_last_finished : (u.finished n phase r detail sus).getI F.SEL_LAST = satSigned 32 phase := by
  have kept := u.spares_recorded n phase r detail sus (f := F.SEL_LAST) rfl (by decide) (by decide) (by decide)
  have recorded : ((u.absorbed phase r).fire Ev.SWITCH_DONE (selObj 0) detail).getF F.SEL_LAST =
      (u.setISat F.SEL_LAST phase).getF F.SEL_LAST := by
    rw [(State.traces_fire _ _ _ _).getF, State.absorbed, State.getF_incSat_ne _ (by decide), State.setISat,
      State.getF_setF_ne _ _ (by decide)]
  exact (congrArg (signed 32) (kept.getF.trans recorded)).trans (u.getI_setISat F.SEL_LAST phase rfl)

theorem State.done_finished : Ev.SWITCH_DONE ∈ (u.finished n phase r detail sus).ev.sticky :=
  (u.spares_recorded n phase r detail sus (f := F.SEL_LAST) rfl (by decide) (by decide) (by decide)).sticky _
    (State.fire_sticky _ _ _ _)

theorem State.refSt_finished {m : Nat} (hm : m < 7) : (u.finished n phase r detail sus).refSt m = u.refSt m :=
  (u.spares_finished n phase r detail sus (refState_apart hm).loop (refState_apart hm).book
    ((by decide : ∀ m < 7, ∀ g ∈ [F.SEL_STATUS_TARGET, F.SEL_STATUS_PHASE, F.SEL_LAST, F.SEL_RESID, F.SEL_COUNT_SWITCHES],
      (F.REF_STATUS_STATE m).key ≠ g.key) m hm)).getF

end

theorem buildOut_switches (drift resid : Int) (due : s.buildDue = true) (switch : s.clk.rebuild = false) (target : s.clk.target < 7) :
    s.Switched (buildOut drift resid s) (roundDiv s.clk.acc s.clk.accN + drift) := by
  obtain ⟨r, detail, sus, stages⟩ := buildOut_of_due (s := s) drift resid due
  rw [if_neg (by simp [switch])] at stages
  have course : (buildOut drift resid s).clk.course = (s.runOver s.clk.target).clk.course := by
    rw [stages, State.course_finished, State.course_selected]
  have state : ∀ m < 7, (buildOut drift resid s).refSt m = ((s.runOver s.clk.target).exchanged s.clk.target s.selRef).refSt m :=
    fun m hm => by rw [stages, State.refSt_finished _ _ _ _ _ _ hm, State.refSt_selected]
  refine ⟨?_, ?_, ?_, ?_, ?_, ?_, fun known other active => ?_, fun known other suspect => ?_⟩
  · exact congrArg (·.1) course
  · exact congrArg (·.2.2.1) course
  · rw [stages, State.selRef, (State.spares_finished _ _ _ _ _ _ rfl (by decide) (by decide)).getF]
    exact State.selRef_selected _ (by omega)
  · rw [state _ target, State.refSt_exchanged_target]
  · rw [stages]
    exact State.done_finished _ _ _ _ _ _
  · rw [stages]
    exact State.getI_last_finished _ _ _ _ _ _
  · rw [state _ known]
    exact State.refSt_exchanged_active _ (by omega) other active
  · rw [state _ known]
    exact State.refSt_exchanged_suspect _ other suspect

theorem buildOut_acts (alive : s.alive = true) (due : s.buildDue = true) (switch : s.clk.rebuild = false)
    (target : s.clk.target < 7) : ∃ t, exec (.buildOut drift resid) s = .next t ∧ t.clk.running = false ∧ t.clk.settle = some (0, 0) ∧
      t.selRef = s.clk.target ∧ t.refSt s.clk.target = rsACTIVE ∧ Ev.SWITCH_DONE ∈ t.ev.sticky ∧
      t.getI F.SEL_LAST = satSigned 32 (roundDiv s.clk.acc s.clk.accN + drift) ∧
      (s.selRef < 7 → s.selRef ≠ s.clk.target → s.refSt s.selRef = rsACTIVE → t.refSt s.selRef = rsQUALIFIED) ∧
      (s.selRef < 7 → s.selRef ≠ s.clk.target → s.refSt s.selRef = rsSUSPECT → t.refSt s.selRef = rsSUSPECT) := by
  obtain ⟨t, e, settled⟩ := happen_whenAlive (buildOut drift resid) alive
  obtain ⟨idle, settle, selected, active, done, last, left, suspect⟩ :=
    buildOut_switches (s := s.fresh) drift resid due switch target
  have state : ∀ m < 7, t.refSt m = (buildOut drift resid s.fresh).refSt m := fun m hm =>
    settled.served.getF _ (refState_apart hm).book
  exact ⟨t, e, (congrArg ClkState.running settled.clk).trans idle, (congrArg ClkState.settle settled.clk).trans settle,
    (settled.getF _ (by decide)).trans selected, (state _ target).trans active, settled.sticky _ done,
    (congrArg (signed 32) (settled.getF F.SEL_LAST (by decide))).trans last,
    fun known other was => (state _ known).trans (left known other was),
    fun known other was => (state _ known).trans (suspect known other was)⟩

end
end Sys2Proof.Machine
end

section
/-!
The media PLL and the clock outputs (R194, R198, R199): what a loss, a return and an alignment do to the outputs, and what the ports,
lanes and channels on the media clock follow with (R195, R350, R382).
-/

namespace Sys2Proof.Machine

/-! ## Frames that leave MEDIA_PLL_UNLOCK as it stands -/

/-- `t` differs from `s` in some parts and units, and the condition of the media PLL stands as it stood. -/
structure State.Quiet (s t : State) (ps : List Part) (us : List Units) : Prop where
  stays : s.Stays t ps us
  raw : Ev.MEDIA_PLL_UNLOCK ∈ t.ev.raw ↔ Ev.MEDIA_PLL_UNLOCK ∈ s.ev.raw

theorem State.mem_setRaw_other (s : State) {src other : Nat} (on : Bool) (h : src ≠ other) :
    src ∈ (s.setRaw other on).ev.raw ↔ src ∈ s.ev.raw := by
  cases on
  · simp [State.setRaw, h]
  · show src ∈ (if s.ev.raw.contains other = true then s.ev.raw else other :: s.ev.raw) ↔ _
    split <;> simp [h]

section
variable {s t u : State} {ps ps' : List Part} {us us' : List Units}

theorem State.Quiet.refl (s : State) (ps : List Part) (us : List Units) : s.Quiet s ps us := ⟨State.Stays.refl s _ _, Iff.rfl⟩

theorem State.Quiet.trans (h : s.Quiet t ps us) (g : t.Quiet u ps us) : s.Quiet u ps us := ⟨h.stays.trans g.stays, g.raw.trans h.raw⟩

theorem State.Quiet.ite {c : Prop} [Decidable c] (h : s.Quiet t ps us) (g : s.Quiet u ps us) : s.Quiet (if c then t else u) ps us := by
  split
  · exact h
  · exact g

theorem State.Quiet.foldl {α : Type} {l : List α} {f : State → α → State} (each : ∀ t : State, ∀ a ∈ l, t.Quiet (f t a) ps us)
    (s : State) : s.Quiet (l.foldl f s) ps us :=
  List.foldlRecOn (motive := fun t => s.Quiet t ps us) l f (.refl s _ _) fun t h a ha => h.trans (each t a ha)

theorem State.Quiet.setF (h : s.Quiet t ps us) (f : Fld) (v : Nat) (hf : f.inUnits us = true) : s.Quiet (t.setF f v) ps us :=
  ⟨h.stays.setF f v hf, h.raw⟩

theorem State.Quiet.traces (h : s.Quiet t ps us) (g : State.Traces t u) : s.Quiet u ps us := ⟨h.stays.traces g, by rw [g.raw]; exact h.raw⟩

theorem State.Quiet.fire (h : s.Quiet t ps us) (src obj detail : Nat) : s.Quiet (t.fire src obj detail) ps us :=
  h.traces (t.traces_fire src obj detail)

theorem State.Quiet.logState (h : s.Quiet t ps us) (org obj old new : Nat) : s.Quiet (t.logState org obj old new) ps us :=
  h.traces (t.traces_logState org obj old new)

theorem State.Quiet.setRaw (h : s.Quiet t ps us) (src : Nat) (on : Bool) (other : Ev.MEDIA_PLL_UNLOCK ≠ src := by decide) :
    s.Quiet (t.setRaw src on) ps us := ⟨h.stays.setRaw src on, (t.mem_setRaw_other on other).trans h.raw⟩

theorem State.Quiet.setClk (h : s.Quiet t ps us) (x : ClkState) (hp : .clock ∈ ps := by decide) : s.Quiet { t with clk := x } ps us :=
  ⟨h.stays.setClk x hp, h.raw⟩

theorem State.Quiet.setAmpPart (h : s.Quiet t ps us) (x : AmpState) (hp : .amps ∈ ps := by decide) : s.Quiet { t with amp := x } ps us :=
  ⟨h.stays.setAmp x hp, h.raw⟩

theorem State.Stays.setLoc (h : s.Stays t ps us) (x : LocalState) (hp : .ports ∈ ps) : s.Stays { t with loc := x } ps us := by
  refine h.part hp rfl rfl rfl rfl fun q hq => ?_
  have same := Part.Same.refl t q
  cases q
  case ports => exact absurd rfl hq
  all_goals exact same

theorem State.Quiet.setLoc (h : s.Quiet t ps us) (x : LocalState) (hp : .ports ∈ ps := by decide) : s.Quiet { t with loc := x } ps us :=
  ⟨h.stays.setLoc x hp, h.raw⟩

end

/-! ## The outputs (R194, R196, R198) -/

/-- The outputs and the control-cycle generators. -/
def outUnits : List Units := [⟨2, 11, 11⟩, ⟨1, 8, 11⟩]

theorem State.quiet_refreshMis (s : State) : s.Quiet s.refreshMis [] outUnits := by
  refine ⟨s.stays_refreshMis, ?_⟩
  have shown : ∀ (l : List Nat) (g : Nat → Fld) (v : Nat → Nat) (u : State), (l.foldl (fun u n => u.setF (g n) (v n)) u).ev = u.ev := by
    intro l g v
    induction l with
    | nil => exact fun _ => rfl
    | cons n l ih => exact fun u => (ih _).trans rfl
  unfold State.refreshMis
  extract_lets m masked generators
  have same : generators.ev = s.ev := (shown _ _ _ _).trans rfl
  split
  · rw [State.mem_setRaw_other _ _ (by decide), same]
  · rw [same]

theorem State.clk_refreshMis (s : State) : s.refreshMis.clk = s.clk := s.stays_refreshMis.clk

theorem State.quiet_outStop (s : State) (o : Nat) : s.Quiet (s.outStop o) [.clock] outUnits := by
  unfold State.outStop
  extract_lets _ stopped
  have stops : s.Quiet stopped [.clock] outUnits := (State.Quiet.refl s _ _).setClk _
  refine .ite stops ?_
  have aligned : s.Quiet (stopped.alignOut (if o = 0 then 0 else o - 2)) [.clock] outUnits := stops.setClk _
  exact aligned.trans ⟨(State.quiet_refreshMis _).stays.mono (by decide) (List.Subset.refl _), (State.quiet_refreshMis _).raw⟩

theorem State.outRun_outStop (s : State) (o : Nat) : (s.outStop o).clk.outRun = s.clk.outRun.filter (· ≠ o) := by
  unfold State.outStop
  extract_lets _ stopped
  split
  · rfl
  · rw [State.clk_refreshMis]
    rfl

theorem State.quiet_refreshOutputs (s : State) : s.Quiet s.refreshOutputs [.clock] outUnits :=
  .foldl (fun t o _ => .ite (.ite (.refl t _ _) ((State.Quiet.refl t _ _).setClk _)) (.ite (t.quiet_outStop o) (.refl t _ _))) s

/-- All outputs stopped: none runs. -/
theorem State.outRun_foldl_outStop (s : State) {l : List Nat} {o : Nat} (ho : o ∈ l) :
    o ∉ (l.foldl (fun s o => s.outStop o) s).clk.outRun :=
  foldl_brings (P := fun t : State => o ∉ t.clk.outRun) (fun t b _ gone => by
    rw [State.outRun_outStop, List.mem_filter]
    rintro ⟨runs, other⟩
    rcases gone with rfl | gone
    · simp at other
    · exact gone runs) (.inl ho)

/-! ## Ports, lanes and channels on the media clock (R195, R350, R382) -/

/-- The TDM ports, the PDM lanes and the amplifiers with the diagnostics. -/
def localUnits : List Units := [⟨6, 0, 15⟩, ⟨7, 0, 7⟩, ⟨8, 0, 9⟩]

def localParts : List Part := [.ports, .amps]

theorem tdm_local : ∀ t < 16, (F.TDM_STATUS_CLK_OK t).inUnits localUnits = true ∧ (F.TDM_CLK_LOSSES t).inUnits localUnits = true := by decide
theorem pdm_local : ∀ m < 8, (F.PDM_STATUS_CLK_OK m).inUnits localUnits = true := by decide
theorem amp_local : ∀ x < 8, (F.AMP_STATUS_STATE x).inUnits localUnits = true ∧ (F.AMP_CLKMUTES x).inUnits localUnits = true := by decide

theorem State.quiet_tdmLoss (s : State) {p : Nat} (hp : p < 16) (cause : Nat) : s.Quiet (s.tdmLoss p cause) localParts localUnits := by
  obtain ⟨clock, losses⟩ := tdm_local p hp
  unfold State.tdmLoss
  extract_lets lost _ stopped counted ranged muted
  have stops : s.Quiet stopped localParts localUnits := ((State.Quiet.refl s _ _).setF _ 0 clock).setLoc _
  have counts : s.Quiet counted localParts localUnits := (stops.setF _ _ losses).fire _ _ _
  have ranges : s.Quiet ranged localParts localUnits := .ite ((counts.setRaw _ _).fire _ _ _) counts
  have mutes : s.Quiet muted localParts localUnits := .ite (ranges.fire _ _ _) ranges
  exact .ite (.refl s _ _) ((mutes.setRaw _ _).setRaw _ _)

theorem State.quiet_tdmPllLost (s : State) : s.Quiet s.tdmPllLost localParts localUnits :=
  .foldl (fun t _ hp => .ite ((t.quiet_tdmLoss (List.mem_range.1 hp) 1).setLoc _) (.refl t _ _)) s

theorem State.quiet_tdmPllBack (s : State) : s.Quiet s.tdmPllBack localParts localUnits :=
  .foldl (fun t _ _ => .ite ((State.Quiet.refl t localParts localUnits).setLoc _) (.refl t _ _)) s

theorem State.quiet_refreshPdmRaw (s : State) : s.Quiet s.refreshPdmRaw localParts localUnits :=
  (((State.Quiet.refl s _ _).setRaw _ _).setRaw _ _).setRaw _ _

theorem State.quiet_pdmPllLost (s : State) : s.Quiet s.pdmPllLost localParts localUnits := by
  refine .foldl (fun t m hm => ?_) s
  have lost := (((State.Quiet.refl t localParts _).setF _ 0 (pdm_local m (List.mem_range.1 hm))).fire Ev.PDM_CLK_LOST (pdmObj m) 1).fire
    (Ev.LANE_M0 + m) (pdmObj m) 1
  exact .ite (.refl t _ _) (lost.trans (State.quiet_refreshPdmRaw _))

theorem State.quiet_liveAbandon (s : State) (x cause : Nat) : s.Quiet (s.liveAbandon x cause) localParts localUnits := by
  have cleared : s.Quiet { s with amp := { s.amp with live := KV.erase s.amp.live x } } localParts localUnits :=
    (State.Quiet.refl s _ _).setAmpPart _
  exact .ite (.refl s _ _) ((((cleared.setF _ _ (by decide)).setF _ _ (by decide)).setF _ _ (by decide)).fire _ _ _)

theorem State.quiet_setAmp (s : State) {x : Nat} (hx : x < 8) (new : Nat) : s.Quiet (s.setAmp x new) localParts localUnits := by
  unfold State.setAmp
  extract_lets old logged _ idle settled left
  have logs : s.Quiet logged localParts localUnits := ((State.Quiet.refl s _ _).setF _ new (amp_local x hx).1).logState _ _ _ _
  have settles : s.Quiet settled localParts localUnits := .ite logs ((logs.setAmpPart _).setLoc _)
  have leaves : s.Quiet left localParts localUnits := .ite (settles.trans (settled.quiet_liveAbandon x 2)) settles
  exact .ite (.refl s _ _) ((((leaves.setRaw _ _).setRaw _ _).setRaw _ _).setRaw _ _)

theorem State.quiet_ampPllLost (s : State) : s.Quiet s.ampPllLost localParts localUnits := by
  refine .foldl (fun t x hx => .ite ?_ (.refl t _ _)) s
  have inside := List.mem_range.1 hx
  unfold State.ampClkMute
  extract_lets muted z ramped _
  have mutes : t.Quiet muted localParts localUnits := t.quiet_setAmp inside aCLKMUTE
  have ramps : t.Quiet ramped localParts localUnits := mutes.setLoc _
  exact ((ramps.setAmpPart _).setF _ _ (amp_local x inside).2).fire _ _ _

/-! ## Loss and return (R194) -/

/-- PLL_LOCK falls, and the loss is counted. -/
def State.unlocked (s : State) : State := (s.setF F.LOOP_STATUS_PLL_LOCK 0).incSat F.LOOP_COUNT_UNLOCKS

/-- Every output stopped. -/
def State.outputsStopped (s : State) : State := (List.range 7).foldl (fun s o => s.outStop o) s

theorem State.quiet_outputsStopped (s : State) : s.Quiet s.outputsStopped [.clock] outUnits := .foldl (fun t o _ => t.quiet_outStop o) s

theorem State.raise_raw (s : State) (src obj detail : Nat) : src ∈ (s.raise src obj detail).ev.raw := by
  unfold State.raise
  split
  · next h => exact List.contains_iff_mem.1 h
  · next h =>
    rw [(State.traces_fire _ _ _ _).raw]
    show src ∈ if s.ev.raw.contains src = true then s.ev.raw else src :: s.ev.raw
    rw [if_neg h]
    exact List.mem_cons_self

section
variable {s t : State}

/-- The media PLL's condition begins, with an entry. -/
def State.lossTold (s : State) : State :=
  (s.raise Ev.MEDIA_PLL_UNLOCK (objId 2 9 0) 0).logState orgSelector (objId 2 9 1) 1 0

theorem pllLost_of_locked (locked : s.on F.LOOP_STATUS_PLL_LOCK = true) :
    pllLost s = s.unlocked.outputsStopped.lossTold.tdmPllLost.pdmPllLost.ampPllLost := by
  have unlock : s.pllUnlock = s.unlocked.outputsStopped.lossTold := if_neg (by simp [locked])
  rw [← unlock]
  exact if_pos locked

theorem State.stays_lossTold (s : State) : s.Stays s.lossTold [] [] := ((State.Stays.refl s _ _).raise _ _ _).logState _ _ _ _

theorem State.raw_lossTold (s : State) : Ev.MEDIA_PLL_UNLOCK ∈ s.lossTold.ev.raw := by
  rw [State.lossTold, (State.traces_logState _ _ _ _ _).raw]
  exact s.raise_raw _ _ _

theorem State.unlocked_counts (s : State) : s.unlocked.on F.LOOP_STATUS_PLL_LOCK = false ∧
    s.unlocked.getF F.LOOP_COUNT_UNLOCKS = satNat 16 (s.getF F.LOOP_COUNT_UNLOCKS + 1) := by
  refine ⟨?_, ?_⟩
  · rw [State.on, State.unlocked, State.getF_incSat_ne _ (by decide)]
    exact State.on_setF_zero _ _
  · rw [State.unlocked, State.getF_incSat, State.getF_setF_ne _ _ (by decide)]
    rfl

/-- A field that the outputs and the local units are apart from, over the whole loss. -/
theorem pllLost_getF (locked : s.on F.LOOP_STATUS_PLL_LOCK = true) {f : Fld} (outs : f.inUnits outUnits = false)
    (locals : f.inUnits localUnits = false) (book : f.key ∉ serveKeys) : (pllLost s).getF f = s.unlocked.getF f := by
  rw [pllLost_of_locked locked, (State.quiet_ampPllLost _).stays.getF f locals book, (State.quiet_pdmPllLost _).stays.getF f locals book,
    (State.quiet_tdmPllLost _).stays.getF f locals book, (State.stays_lossTold _).getF f rfl book,
    (State.quiet_outputsStopped _).stays.getF f outs book]

/-- What follows the loss at the local units leaves its condition and the outputs. -/
theorem State.quiet_localsLost (s : State) : s.Quiet s.tdmPllLost.pdmPllLost.ampPllLost localParts localUnits :=
  (s.quiet_tdmPllLost.trans (State.quiet_pdmPllLost _)).trans (State.quiet_ampPllLost _)

theorem mediaPllUnlock_acts (alive : s.alive = true) (locked : s.on F.LOOP_STATUS_PLL_LOCK = true) :
    ∃ t, exec .mediaPllUnlock s = .next t ∧ t.on F.LOOP_STATUS_PLL_LOCK = false ∧ Ev.MEDIA_PLL_UNLOCK ∈ t.ev.raw ∧
      t.getF F.LOOP_COUNT_UNLOCKS = satNat 16 (s.getF F.LOOP_COUNT_UNLOCKS + 1) ∧ ∀ o < 7, o ∉ t.clk.outRun := by
  obtain ⟨t, e, settled⟩ := happen_whenAlive pllLost alive
  obtain ⟨lock, count⟩ := s.fresh.unlocked_counts
  have locked' : s.fresh.on F.LOOP_STATUS_PLL_LOCK = true := locked
  have follows := s.fresh.unlocked.outputsStopped.lossTold.quiet_localsLost
  refine ⟨t, e, ?_, ?_, ?_, fun o ho => ?_⟩
  · rw [settled.on _ (by decide), State.on, pllLost_getF locked' rfl rfl (by decide)]
    exact lock
  · rw [settled.raw, pllLost_of_locked locked', follows.raw]
    exact State.raw_lossTold _
  · rw [settled.getF _ (by decide), pllLost_getF locked' rfl rfl (by decide)]
    exact count
  · rw [settled.clk, pllLost_of_locked locked', follows.stays.clk, (State.stays_lossTold _).clk]
    exact State.outRun_foldl_outStop _ (List.mem_range.2 ho)

/-- The PLL is back: PLL_LOCK rises, the condition ends. -/
def State.relocked (s : State) : State :=
  ((s.setF F.LOOP_STATUS_PLL_LOCK 1).setRaw Ev.MEDIA_PLL_UNLOCK false).logState orgSelector (objId 2 9 1) 0 1

theorem pllBack_of_unlocked (unlocked : s.on F.LOOP_STATUS_PLL_LOCK = false) : pllBack s = s.relocked.refreshOutputs.tdmPllBack := by
  have lock : s.pllLock = s.relocked.refreshOutputs := if_neg (by simp [unlocked])
  rw [← lock]
  exact if_neg (by simp [unlocked])

theorem mediaPllLock_acts (alive : s.alive = true) (unlocked : s.on F.LOOP_STATUS_PLL_LOCK = false) :
    ∃ t, exec .mediaPllLock s = .next t ∧ t.on F.LOOP_STATUS_PLL_LOCK = true ∧ Ev.MEDIA_PLL_UNLOCK ∉ t.ev.raw := by
  obtain ⟨t, e, settled⟩ := happen_whenAlive pllBack alive
  rw [pllBack_of_unlocked (s := s.fresh) unlocked] at settled
  have logged := State.traces_logState ((s.fresh.setF F.LOOP_STATUS_PLL_LOCK 1).setRaw Ev.MEDIA_PLL_UNLOCK false) orgSelector
    (objId 2 9 1) 0 1
  refine ⟨t, e, ?_, ?_⟩
  · rw [settled.on _ (by decide), (State.quiet_tdmPllBack _).stays.on _ rfl, (State.quiet_refreshOutputs _).stays.on _ rfl]
    exact (logged.on _).trans (State.on_setF_one s.fresh _ rfl)
  · rw [settled.raw, (State.quiet_tdmPllBack _).raw, (State.quiet_refreshOutputs _).raw, State.relocked, logged.raw]
    simp [State.setRaw]

/-! ## ALIGN (R199) -/

/-- The masked outputs that are misaligned, put back on their grids. -/
def State.realigned (s : State) : State :=
  (List.range 5).foldl (fun u b =>
    if s.clk.alignMask.testBit b && (s.getF F.OUT_MIS_MASK).testBit b then u.alignOut b else u) s

/-- ALIGN is no longer pending. -/
def State.alignDone (s : State) : State :=
  { (s.setF F.OUT_MIS_ALIGN_PEND 0).set64 F.OUT_ALIGN_SEC_LO F.OUT_ALIGN_SEC_HI 0 with clk := { s.clk with alignMask := 0 } }

theorem alignAtS_of_due (pending : s.on F.OUT_MIS_ALIGN_PEND = true)
    (due : s.get64 F.OUT_ALIGN_SEC_LO F.OUT_ALIGN_SEC_HI ≤ s.now.sec) : ∃ after, alignAtS s =
      (s.realigned.refreshMis.alignDone.incSat F.OUT_ALIGN_CNT).logState orgSelector (objId 2 11 0) (s.getF F.OUT_MIS_MASK) after :=
  ⟨_, if_neg (by simp [pending, due])⟩

theorem State.regs_realigned (s : State) : s.realigned.regs = s.regs :=
  State.regs_foldl (fun _ _ => by split <;> rfl) _ _

theorem State.find_realigned {b : Nat} (hb : b < 5) (named : s.clk.alignMask.testBit b = true)
    (off : (s.getF F.OUT_MIS_MASK).testBit b = true) : KV.find s.realigned.clk.mis b = none :=
  foldl_brings (P := fun u : State => KV.find u.clk.mis b = none) (fun u k _ gone => by
    split
    · exact KV.find_erase_none gone
    · next kept =>
      rcases gone with rfl | gone
      · exact absurd (by rw [named, off]; rfl) kept
      · exact gone) (.inl (List.mem_range.2 hb))

theorem State.spares_refreshMis (s : State) {f : Fld} (mask : f.key ≠ F.OUT_MIS_MASK.key) (off : f.key ≠ F.OUT_PPS_OFF.key)
    (generators : f.place ≠ (F.CC_STATUS_MISALIGNED 0).place) : s.Spares s.refreshMis f := by
  unfold State.refreshMis
  extract_lets m shown marked
  have shows : s.Spares shown f := ((State.Spares.refl s f).setF m mask).setF _ off
  have marks : s.Spares marked f := shows.trans (.foldl (fun u n _ => (State.Spares.refl u f).setAt n _ generators) _)
  exact .ite (marks.setRaw _ _) marks

/-- ALIGN's three registers, cleared in turn. -/
theorem State.getF_alignDone_eq (s : State) (f : Fld) : s.alignDone.getF f =
    (((s.setF F.OUT_MIS_ALIGN_PEND 0).setF F.OUT_ALIGN_SEC_LO 0).setF F.OUT_ALIGN_SEC_HI (0 / 2 ^ 32)).getF f := by
  rw [State.alignDone, State.set64]
  exact State.getF_congr f rfl

theorem State.getF_alignDone (s : State) {f : Fld}
    (apart : ∀ g ∈ [F.OUT_MIS_ALIGN_PEND, F.OUT_ALIGN_SEC_LO, F.OUT_ALIGN_SEC_HI], f.key ≠ g.key) : s.alignDone.getF f = s.getF f := by
  rw [State.getF_alignDone_eq, State.getF_setF_ne _ _ (apart F.OUT_ALIGN_SEC_HI (by decide)),
    State.getF_setF_ne _ _ (apart F.OUT_ALIGN_SEC_LO (by decide)), State.getF_setF_ne _ _ (apart F.OUT_MIS_ALIGN_PEND (by decide))]

theorem State.getF_alignDone_pend (s : State) : s.alignDone.getF F.OUT_MIS_ALIGN_PEND = 0 := by
  rw [State.getF_alignDone_eq, State.getF_setF_ne _ _ (by decide), State.getF_setF_ne _ _ (by decide), State.getF_setF_self]
  rfl

theorem alignAtS_acts (alive : s.alive = true) (pending : s.on F.OUT_MIS_ALIGN_PEND = true)
    (due : s.get64 F.OUT_ALIGN_SEC_LO F.OUT_ALIGN_SEC_HI ≤ s.now.sec) :
    ∃ t, exec .alignAtS s = .next t ∧ t.on F.OUT_MIS_ALIGN_PEND = false ∧
      t.getF F.OUT_ALIGN_CNT = satNat 16 (s.getF F.OUT_ALIGN_CNT + 1) ∧
      ∀ b < 5, s.clk.alignMask.testBit b = true → (s.getF F.OUT_MIS_MASK).testBit b = true → KV.find t.clk.mis b = none := by
  obtain ⟨t, e, settled⟩ := happen_whenAlive alignAtS alive
  obtain ⟨after, aligns⟩ := alignAtS_of_due (s := s.fresh) pending due
  rw [aligns] at settled
  set shown := s.fresh.realigned.refreshMis with hshown
  have logged := State.traces_logState (shown.alignDone.incSat F.OUT_ALIGN_CNT) orgSelector (objId 2 11 0)
    (s.fresh.getF F.OUT_MIS_MASK) after
  have count : shown.getF F.OUT_ALIGN_CNT = s.getF F.OUT_ALIGN_CNT := by
    rw [hshown, (State.spares_refreshMis _ (by decide) (by decide) (by decide)).getF, State.getF_congr _ (State.regs_realigned _)]
    rfl
  refine ⟨t, e, ?_, ?_, fun b hb named off => ?_⟩
  · rw [settled.on _ (by decide), logged.on, State.on, State.getF_incSat_ne _ (by decide), State.getF_alignDone_pend]
    rfl
  · rw [settled.getF _ (by decide), logged.getF, State.getF_incSat, State.getF_alignDone _ (by decide), count]
    rfl
  · rw [settled.clk, logged.clk]
    show KV.find shown.clk.mis b = none
    rw [hshown, State.clk_refreshMis]
    exact State.find_realigned (s := s.fresh) hb named off

end

end Sys2Proof.Machine
end

section
/-!
The 1 ms tick (R170): HOLDOFF_REMAIN is the switch machine's counter, which no monitor and no evaluation writes; while it is not zero
no switch starts, and the tick takes one from it.
-/

namespace Sys2Proof.Machine

/-- `t` has the spacing that `s` has. -/
abbrev State.KeepsSpacing (s t : State) : Prop := s.Spares t F.SEL_STATUS_HOLDOFF_REMAIN

theorem spacing_apart : (F.SEL_STATUS_HOLDOFF_REMAIN).Apart := ⟨by decide, by decide, rfl, by decide⟩

theorem spacing_idle (s : State) : s.Idle F.SEL_STATUS_HOLDOFF_REMAIN := .inl (by decide)

section
variable (s : State) (n : Nat)

/-! ## The parts of a monitor -/

theorem State.spacing_setRef (v : Nat) : s.KeepsSpacing (s.setRef n v) :=
  s.spares_setRef n v spacing_apart.refs (Fld.key_ne_of_place (by rw [refState_place]; decide))

theorem State.spacing_setFrozen (by_ : Option Nat) : s.KeepsSpacing (s.setFrozen by_) :=
  (s.loops_setFrozen by_).spares rfl spacing_apart.book

theorem State.spacing_afterMonitors : s.KeepsSpacing s.afterMonitors := (spacing_idle s).spares_afterMonitors spacing_apart

theorem State.spacing_showRemain : s.KeepsSpacing (s.showRemain n) := s.spares_showRemain n (by decide)

theorem State.spacing_toQualifying : s.KeepsSpacing (s.toQualifying n) := (s.spacing_setRef n rsQUALIFYING).same

theorem State.spacing_disqualify (cause : Nat) : s.KeepsSpacing (s.disqualify n cause) := by
  unfold State.disqualify
  extract_lets left caused
  have causes : s.KeepsSpacing caused := ((s.spacing_toQualifying n).setAt n cause (by decide)).setAt n 1 (by decide)
  exact (causes.setMon n _).fire _ _ _

theorem State.spacing_refFail : s.KeepsSpacing (s.refFail n) := by
  unfold State.refFail
  extract_lets failed m
  have fails : s.KeepsSpacing failed := (s.spacing_setRef n rsFAILED).setAt n 1 (by decide)
  exact (fails.setMon n _).fire _ _ _

theorem State.spacing_takeQualify : s.KeepsSpacing (s.takeQualify n) :=
  ((s.spacing_setRef n rsQUALIFIED).trans (State.spacing_showRemain _ n)).fire _ _ _

theorem State.spacing_takeClear : s.KeepsSpacing (s.takeClear n) := by
  have clears := s.spacing_setRef n (if s.getF F.SEL_STATUS_SEL_REF = n then rsACTIVE else rsQUALIFIED)
  exact .ite (clears.trans (State.spacing_setFrozen _ none)) clears

theorem State.spacing_takeDwell : s.KeepsSpacing (s.takeDwell n) := (s.spacing_disqualify n 3).trans (State.spacing_showRemain _ n)

theorem State.spacing_toSuspect : s.KeepsSpacing (s.toSuspect n) := by
  unfold State.toSuspect
  extract_lets soft active suspect _ timed told
  have tells : s.KeepsSpacing told := (State.Spares.setMon (t := suspect) (s.spacing_setRef n rsSUSPECT) n _).fire _ _ _
  exact .ite (tells.trans (told.spacing_setFrozen _)) tells

theorem State.spacing_refGlitch : s.KeepsSpacing (s.refGlitch n) := by
  unfold State.refGlitch
  extract_lets counted
  have counts : s.KeepsSpacing counted := ((State.Spares.refl s _).setAt n _ (by decide)).setAt n 1 (by decide)
  exact (counts.setMon n _).fire _ _ _

theorem State.spacing_refreshQuality : s.KeepsSpacing (s.refreshQuality n) := by
  unfold State.refreshQuality
  extract_lets q shown
  have shows : s.KeepsSpacing shown := (State.Spares.refl s _).setAt n q (by decide)
  exact .ite (shows.setAt n 1 (by decide)) shows

theorem State.spacing_judgeRate (meas : Nat) : s.KeepsSpacing (s.judgeRate n meas).2 := by
  unfold State.judgeRate
  extract_lets r held report
  have reports : s.KeepsSpacing (report s) :=
    (((State.Spares.refl s _).setAt n _ (by decide)).setAt n 1 (by decide)).fire _ _ _
  split
  · split
    · exact .refl s _
    · exact reports.setMon n _
  · split
    · exact .refl s _
    · split
      · exact .refl s _
      · exact reports

theorem State.spacing_refCapture (i : RefIn) (second : Bool) : s.KeepsSpacing (s.refCapture n i second) := by
  unfold State.refCapture
  extract_lets m act captured phased
  have captures : s.KeepsSpacing captured := (State.Spares.refl s _).same
  have phases : s.KeepsSpacing phased := .ite (captures.setAt n _ (by decide)) (captures.setAt n _ (by decide))
  exact .ite (.refl s _) (.ite ((phases.setAt n _ (by decide)).setAt n _ (by decide)) phases)

theorem State.spacing_refJudge (i : RefIn) (second : Bool) : s.KeepsSpacing (s.refJudge n i second) := by
  unfold State.refJudge
  extract_lets st0 act moved graded wck
  have moves : s.KeepsSpacing moved := .ite (s.spacing_refFail n) (.ite (s.spacing_toQualifying n) (.refl s _))
  have grades : s.KeepsSpacing graded := moves.trans (moved.spacing_refreshQuality n)
  split
  · exact .refl s _
  · split
    next chg rated rate =>
    have rates : s.KeepsSpacing rated := by
      split at rate
      · split at rate
        · next meas _ _ =>
          obtain rfl : _ = rated := congrArg Prod.snd rate
          exact grades.trans (graded.spacing_judgeRate n meas)
        · obtain rfl : _ = rated := congrArg Prod.snd rate
          exact grades
      · obtain rfl : _ = rated := congrArg Prod.snd rate
        exact grades
    extract_lets glitch masked m st hold q judged
    have masks : s.KeepsSpacing masked := .ite (State.Spares.trans rates (rated.spacing_refGlitch n)) rates
    have quits := fun cause => masks.trans (masked.spacing_disqualify n cause)
    have judges : s.KeepsSpacing judged := .ite
      (.ite (quits 2) (.ite (quits 4) (.ite (quits 5) (.ite (masks.setMon n _) (.ite (masks.trans (masked.spacing_toSuspect n)) masks)))))
      (.ite (masks.setMon n _) masks)
    exact judges.trans (judged.spacing_showRemain n)

/-! ## The second and the switch machine -/

theorem State.spacing_consensusSecond : s.KeepsSpacing s.consensusSecond := by
  unfold State.consensusSecond
  extract_lets mem real cons members agreed counted masked
  have agrees : s.KeepsSpacing masked := (((State.Spares.refl s _).setF _ (by decide)).setF _ (by decide)).setF _ (by decide)
  refine agrees.trans (.foldl (fun t n _ => ?_) _)
  extract_lets shown m fc hist dr softF softD hardF soft limited
  have shows : t.KeepsSpacing shown := (State.Spares.refl t _).setAt n _ (by decide)
  have limits : t.KeepsSpacing limited := (shows.setAt n _ (by decide)).setAt n _ (by decide)
  exact .ite shows (limits.setMon n _)

theorem State.spacing_selected (prev : Nat) : s.KeepsSpacing (s.selected n prev) := by
  have acts := s.spacing_setRef n rsACTIVE
  have exchanges : s.KeepsSpacing (s.exchanged n prev) := .ite (acts.trans (State.spacing_setRef _ prev rsQUALIFIED)) acts
  exact (exchanges.setF n (by decide)).logState _ _ _ _

theorem State.spacing_buildOut (drift resid : Int) : s.KeepsSpacing (buildOut drift resid s) := by
  by_cases due : s.buildDue = true
  · obtain ⟨r, detail, sus, stages⟩ := buildOut_of_due (s := s) drift resid due
    have starts : s.KeepsSpacing (s.runOver s.clk.target) := (State.Spares.refl s _).same
    rw [stages]
    exact State.Spares.trans (.ite starts (starts.trans (State.spacing_selected _ _ _)))
      (State.spares_finished _ _ _ _ _ _ rfl spacing_apart.book (by decide))
  · rw [show buildOut drift resid s = s from if_pos (by simpa using due)]
    exact .refl s _

theorem State.spacing_settleStep : s.KeepsSpacing (settleStep s) := by
  have shows : ∀ u : State, u.KeepsSpacing u.showSwitch := fun u => u.spares_showSwitch (by decide) (by decide)
  have ends : s.KeepsSpacing s.settleOver := (State.Spares.refl s _).same.setF _ (by decide)
  by_cases due : s.settleDue = true
  · obtain ⟨⟨ms, stage⟩, settle⟩ : ∃ p, s.clk.settle = some p := Option.ne_none_iff_exists'.1 fun none => by
      simp [State.settleDue, none] at due
    by_cases first : stage = 0
    · subst first
      rw [settleStep_of_first settle due]
      exact (State.Spares.refl s _).same.setF _ (by decide)
    · rcases settleStep_of_last settle due first with last | last <;> rw [last]
      · exact ends.trans (shows _)
      · exact (ends.trans (State.spacing_setFrozen _ _)).trans (shows _)
  · rw [show settleStep s = s by unfold settleStep; split <;> simp [due]]
    exact .refl s _

/-! ## The tick -/

/-- While the spacing runs no switch starts, so what is left due leaves it (R169). -/
theorem State.spacing_flushTick (spacing : 1 ≤ s.getF F.SEL_STATUS_HOLDOFF_REMAIN) : s.KeepsSpacing s.flushTick := by
  unfold State.flushTick
  extract_lets judged started built
  have takes : ∀ t : State, ∀ n ∈ List.range 7, t.KeepsSpacing (if t.qualDue n then t.takeQualify n
      else if t.clearDue n then t.takeClear n else if t.dwellDue n then t.takeDwell n else t) := fun t n _ => by
    exact .ite (t.spacing_takeQualify n) (.ite (t.spacing_takeClear n) (.ite (t.spacing_takeDwell n) (.refl t _)))
  have judges : s.KeepsSpacing judged := .ite ((State.Spares.foldl takes s).trans (State.spacing_afterMonitors _)) (.refl s _)
  have waits : started = judged := if_neg (by
    have left : judged.getF F.SEL_STATUS_HOLDOFF_REMAIN ≠ 0 := by rw [judges.getF]; omega
    simp [State.startDueSw, left])
  have builds : s.KeepsSpacing built := by
    show s.KeepsSpacing (if started.buildDue then buildOut 0 0 started else started)
    rw [waits]
    exact .ite (judges.trans (judged.spacing_buildOut 0 0)) judges
  exact .ite (builds.trans built.spacing_settleStep) builds

/-- The count of a tick takes one from the spacing. -/
theorem State.switchCount_counts (loopOut : Int) (fits : s.getF F.SEL_STATUS_HOLDOFF_REMAIN ≤ 5000) :
    (s.switchCount loopOut).getF F.SEL_STATUS_HOLDOFF_REMAIN = s.getF F.SEL_STATUS_HOLDOFF_REMAIN - 1 := by
  unfold State.switchCount
  extract_lets counted _ ticked k _ measured _ read shown r narrowed phased
  have ticks : counted.KeepsSpacing ticked := (State.Spares.refl counted _).same
  have shows : counted.KeepsSpacing shown := .ite ticks (.ite (State.Spares.setF (t := measured) ticks.same 3 (by decide))
    (State.Spares.setF (t := read) ticks.same 2 (by decide)))
  have phases : counted.KeepsSpacing phased := (State.Spares.ite (shows.setF _ (by decide)) shows).setF _ (by decide)
  have all := State.Spares.ite (c := shown.loopMode = lmLOCKED)
    (phases.same.trans ((State.stays_setLoopOut { phased with clk := { phased.clk with integ := loopOut } } loopOut).loops.spares rfl
      spacing_apart.book)) shows
  rw [all.getF, State.getF_setF_self]
  exact Nat.mod_eq_of_lt (Nat.lt_of_le_of_lt ((Nat.sub_le _ _).trans fits) (by decide))

theorem refTick_counts (inp : RefTickIn) (spacing : 1 ≤ s.getF F.SEL_STATUS_HOLDOFF_REMAIN)
    (fits : s.getF F.SEL_STATUS_HOLDOFF_REMAIN ≤ 5000) :
    (refTick inp s).getF F.SEL_STATUS_HOLDOFF_REMAIN = s.getF F.SEL_STATUS_HOLDOFF_REMAIN - 1 := by
  unfold refTick
  extract_lets flushed at_ captured agreed judged
  have flushes : s.KeepsSpacing flushed := s.spacing_flushTick spacing
  have captures : s.KeepsSpacing captured := flushes.trans (.foldl (fun t n _ => t.spacing_refCapture n _ _) _)
  have agrees : s.KeepsSpacing agreed := .ite (captures.trans captured.spacing_consensusSecond) captures
  have judges : s.KeepsSpacing judged := agrees.trans (.foldl (fun t n _ => t.spacing_refJudge n _ _) _)
  rw [(State.spacing_afterMonitors _).getF, judged.switchCount_counts _ (by rwa [judges.getF]), judges.getF]

theorem State.spacing_proofMs : s.KeepsSpacing s.proofMs := by
  unfold State.proofMs
  split
  · exact .refl s _
  · extract_lets due fired
    exact .ite (State.Spares.ite (State.Spares.fire (.refl s _) _ _ _) (.refl s _)).same (.refl s _)

end

/-- What else counts milliseconds leaves the spacing. -/
theorem State.spacing_msTick (s : State) (inp : RefTickIn) : (refTick inp s).KeepsSpacing (msTick inp s) := by
  unfold msTick
  extract_lets proved _ timed _ ran
  have proves : (refTick inp s).KeepsSpacing proved := State.spacing_proofMs _
  clear_value proved
  have times : (refTick inp s).KeepsSpacing timed := State.Spares.same (t := proved) proves
  have runs : (refTick inp s).KeepsSpacing ran := by
    unfold ran
    split
    · exact State.Spares.same (t := timed) times
    · exact times
  refine .ite (runs.trans ?_) runs
  unfold State.oscSecond
  exact .ite (.refl ran _) (State.Spares.refl ran _).same

theorem refTick_acts {s : State} (inp : RefTickIn) (alive : s.alive = true) (spacing : 1 ≤ s.getF F.SEL_STATUS_HOLDOFF_REMAIN)
    (fits : s.getF F.SEL_STATUS_HOLDOFF_REMAIN ≤ 5000) : ∃ t, exec (.refTick inp) s = .next t ∧
      t.getF F.SEL_STATUS_HOLDOFF_REMAIN = s.getF F.SEL_STATUS_HOLDOFF_REMAIN - 1 := by
  obtain ⟨t, e, settled⟩ := happen_whenAlive (msTick inp) alive
  have counts := refTick_counts s.fresh inp spacing fits
  refine ⟨t, e, ?_⟩
  rw [settled.getF _ (by decide), (State.spacing_msTick _ inp).getF]
  exact counts

end Sys2Proof.Machine
end

section
/-! The monitors, the switch machine, the loop's settling, holdover, the media PLL and ALIGN, each when due (O33). -/

namespace Sys2Proof.Machine

/-- Settles O33: each operation is traced stage by stage, and what it leaves set is spared by the selector's evaluation and by what
settles after it. -/
theorem monitorsAndSwitchesMoveAsDue : Obligations.MonitorsAndSwitchesMoveAsDue :=
  ⟨fun _ inp alive spacing fits => refTick_acts inp alive spacing fits,
   fun _ _ alive due => refQualify_acts alive due,
   fun _ _ alive due => refDwellExpiry_acts alive due,
   fun _ _ alive due other => refClearExpiry_acts alive due other,
   fun _ _ alive enabled live recognised => wckStopDetect_acts alive enabled live recognised,
   fun _ _ _ _ alive enabled live unknown near => wckRateRecognised_acts alive enabled live unknown near,
   fun _ alive due target => switchStart_acts alive due target,
   fun _ _ _ alive due switch target => buildOut_acts alive due switch target,
   fun _ _ _ alive settle due _ code => settleStep_acts alive settle due code,
   fun _ _ alive locked settle thawed => holdoverSecond_records alive locked settle thawed,
   fun _ _ alive held => holdoverSecond_counts alive held,
   fun _ alive locked => mediaPllUnlock_acts alive locked,
   fun _ alive unlocked => mediaPllLock_acts alive unlocked,
   fun _ alive pending due => alignAtS_acts alive pending due,
   fun _ port ql alive => esmcPduRx_acts alive port ql,
   fun _ port alive => esmcTimeout_acts alive port⟩

end Sys2Proof.Machine
end

section
/-!
What the ports' events leave (R206 to R223): frames that keep the ports' own run, the domains and latencies after a link (R118, R135),
and the pieces of a port that its events move.
-/

namespace Sys2Proof.Machine

/-- `t` differs from `s` in a frame, and no port's run has moved. -/
structure State.Passes (s t : State) (ps : List Part) (us : List Units) : Prop where
  stays : s.Stays t ps us
  ports : t.str.ports = s.str.ports

section
variable {s t u : State} {ps ps' : List Part} {us us' : List Units}

theorem State.Passes.refl (s : State) (ps : List Part) (us : List Units) : s.Passes s ps us := ⟨State.Stays.refl s ps us, rfl⟩

theorem State.Passes.trans (h : s.Passes t ps us) (g : t.Passes u ps us) : s.Passes u ps us :=
  ⟨h.stays.trans g.stays, g.ports.trans h.ports⟩

/-- A piece of a narrower frame follows. -/
theorem State.Passes.thenPasses (h : s.Passes t ps us) (g : t.Passes u ps' us') (sub : ps' ⊆ ps ∧ us' ⊆ us) : s.Passes u ps us :=
  ⟨h.stays.andThen g.stays sub.1 sub.2, g.ports.trans h.ports⟩

theorem State.Stays.thenStays (h : s.Stays t ps us) (g : t.Stays u ps' us') (sub : ps' ⊆ ps ∧ us' ⊆ us) : s.Stays u ps us :=
  h.andThen g sub.1 sub.2

theorem State.Stays.thenPasses (h : s.Stays t ps us) (g : t.Passes u ps' us') (sub : ps' ⊆ ps ∧ us' ⊆ us) : s.Stays u ps us :=
  h.andThen g.stays sub.1 sub.2

theorem State.Passes.ite {c : Prop} [Decidable c] (h : s.Passes t ps us) (g : s.Passes u ps us) : s.Passes (if c then t else u) ps us := by
  split
  · exact h
  · exact g

theorem State.Passes.foldl {α : Type} {l : List α} {f : State → α → State} (h : s.Passes t ps us)
    (each : ∀ u : State, ∀ a ∈ l, u.Passes (f u a) ps us) : s.Passes (l.foldl f t) ps us :=
  List.foldlRecOn (motive := fun t => s.Passes t ps us) l f h fun u k a ha => k.trans (each u a ha)

theorem State.Passes.setF (h : s.Passes t ps us) (f : Fld) (v : Nat) (hf : f.inUnits us = true) : s.Passes (t.setF f v) ps us :=
  ⟨h.stays.setF f v hf, h.ports⟩

theorem State.Passes.incSat (h : s.Passes t ps us) (f : Fld) (hf : f.inUnits us = true) : s.Passes (t.incSat f) ps us :=
  h.setF f _ hf

theorem State.Passes.traces (h : s.Passes t ps us) (g : State.Traces t u) : s.Passes u ps us :=
  ⟨h.stays.traces g, by rw [g.str, h.ports]⟩

theorem State.Passes.fire (h : s.Passes t ps us) (src obj detail : Nat) : s.Passes (t.fire src obj detail) ps us :=
  h.traces (t.traces_fire src obj detail)

theorem State.Passes.emit (h : s.Passes t ps us) (e : Emit) : s.Passes (t.emit e) ps us := h.traces (t.traces_emit e)

theorem State.Passes.logState (h : s.Passes t ps us) (org obj old new : Nat) : s.Passes (t.logState org obj old new) ps us :=
  h.traces (t.traces_logState org obj old new)

theorem State.Passes.setRaw (h : s.Passes t ps us) (src : Nat) (on : Bool) : s.Passes (t.setRaw src on) ps us :=
  ⟨h.stays.setRaw src on, h.ports⟩

/-- The streams changed, but for the ports. -/
theorem State.Passes.setStr (h : s.Passes t ps us) (x : StreamState) (hp : .streams ∈ ps) (ports : x.ports = t.str.ports) :
    s.Passes { t with str := x } ps us := ⟨h.stays.setStr x hp, ports.trans h.ports⟩

theorem State.Passes.setStamps (h : s.Passes t ps us) (x : StampState) (hp : .stamps ∈ ps) : s.Passes { t with stamps := x } ps us :=
  ⟨h.stays.setStamps x hp, h.ports⟩

theorem State.Passes.setDom (h : s.Passes t ps us) (d : Nat) (x : Domain) (hp : .time ∈ ps) : s.Passes (t.setDom d x) ps us := by
  unfold State.setDom
  exact .ite ⟨h.stays.setTime _ hp, h.ports⟩ ⟨h.stays.setTime _ hp, h.ports⟩

/-- A port reads the same where no port's run has moved. -/
theorem State.Passes.port (h : s.Passes t ps us) (p : Nat) : t.port p = s.port p := by rw [State.port, h.ports, State.port]

/-- A register field outside a frame, and none that every command may write, is left. -/
theorem State.Stays.spares (h : s.Stays t ps us) {f : Fld} (outside : f.inUnits us = false) (book : f.key ∉ serveKeys) : s.Spares t f :=
  ⟨h.getF f outside book, h.sticky⟩

end

/-! ## The domains after a link (R118, R121, R122) -/

/-- The parts and units that the domains lie in. -/
def domParts : List Part := [.streams, .time]
def domUnits : List Units := [⟨1, 1, 7⟩]

section
variable (s : State) {d : Nat}

theorem inUnits_domFlds : ∀ d < 2, ∀ f ∈ [F.D_STATE_PORT d, F.D_STATE_SERVO d, F.D_STATE_SAME_GM d, F.D_STATE_STEPS_REMOVED d, F.D_GM_ID_LO d,
    F.D_GM_ID_HI d, F.D_GM_QUAL_CLASS d, F.D_GM_QUAL_ACCURACY d, F.D_GM_QUAL_PRIORITY1 d, F.D_GM_QUAL_PRIORITY2 d],
    f.inUnits domUnits = true := by decide

theorem State.passes_setServo (hd : d < 2) (v : Nat) : s.Passes (s.setServo d v) domParts domUnits := by
  have moved := (State.Passes.refl s domParts domUnits).setF (F.D_STATE_SERVO d) v (inUnits_domFlds d hd _ (by simp))
  exact .ite (.refl s _ _) (((moved.fire _ _ _).logState _ _ _ _).setDom _ _ (by decide))

theorem State.passes_setPtpPort (hd : d < 2) (v : Nat) : s.Passes (s.setPtpPort d v) domParts domUnits := by
  unfold State.setPtpPort
  extract_lets old moved fired logged left _ freed
  have moves : s.Passes moved domParts domUnits := .setF (.refl s _ _) _ _ (inUnits_domFlds d hd _ (by simp))
  have logs : s.Passes logged domParts domUnits := (moves.fire _ _ _).logState _ _ _ _
  have frees : s.Passes freed domParts domUnits := .ite (logs.setStr _ (by decide) (by rfl)) logs
  exact .ite (.refl s _ _) (.ite (frees.trans (freed.passes_setServo hd _)) (.ite frees (frees.trans (freed.passes_setServo hd _))))

theorem State.passes_showGm (hd : d < 2) (gm : Nat) (x : Announce) : s.Passes (s.showGm d gm x) domParts domUnits := by
  have fld := inUnits_domFlds d hd
  unfold State.showGm
  extract_lets identity cls acc prio1 prio2 steps same
  have identities : s.Passes identity domParts domUnits := .setF (.setF (.refl s _ _) _ _ (fld _ (by simp))) _ _ (fld _ (by simp))
  have quality : s.Passes prio2 domParts domUnits :=
    .setF (.setF (.setF (.setF identities _ _ (fld _ (by simp))) _ _ (fld _ (by simp))) _ _ (fld _ (by simp))) _ _ (fld _ (by simp))
  exact .setF (.setF (.setF quality _ _ (fld _ (by simp))) _ _ (by decide)) _ _ (by decide)

theorem State.passes_setGm (hd : d < 2) (a : Option Announce) : s.Passes (s.setGm d a) domParts domUnits := by
  have shown := fun gm x => s.passes_showGm hd gm x
  have restarted := fun gm x => ((((shown gm x).fire (Ev.A_GM_CHANGE + d) (objId 1 (d + 1) 0) (gm % 2 ^ 32)).logState orgPtp
    (objId 1 (d + 1) 2) (s.get64 (F.D_GM_ID_LO d) (F.D_GM_ID_HI d) % 65536) (gm % 65536)).setDom d _ (by decide) :
      s.Passes (State.restartAverages _ d) domParts domUnits)
  exact .ite (shown _ _) (.ite (restarted _ _) ((restarted _ _).trans (State.passes_setServo _ hd _)))

theorem State.passes_followNone (hd : d < 2) (v : Nat) : s.Passes (s.followNone d v) domParts domUnits :=
  (((State.Passes.refl s _ _).setDom d _ (by decide)).trans (State.passes_setPtpPort _ hd v)).trans (State.passes_setGm _ hd none)

theorem State.passes_domRefresh (hd : d < 2) : s.Passes (s.domRefresh d) domParts domUnits := by
  have same := State.Passes.refl s domParts domUnits
  exact .ite same (.ite (.ite (s.passes_setPtpPort hd _) same)
    (.ite same ((same.setDom d _ (by decide)).trans (State.passes_followNone _ hd _))))

theorem State.passes_domsRefresh : s.Passes s.domsRefresh domParts domUnits :=
  (s.passes_domRefresh (by decide)).trans (State.passes_domRefresh _ (by decide))

/-! ## Latencies (R135, R137) -/

theorem inUnits_latencies : ∀ p < 4, ∀ f ∈ [F.TSU_INT_ING p, F.TSU_INT_EGR p, F.TSU_EFF_ING p, F.TSU_EFF_EGR p],
    f.inUnits domUnits = true := by decide

theorem State.passes_latencyChanged {p : Nat} (hp : p < 4) : s.Passes (s.latencyChanged p) domParts domUnits := by
  have fld := inUnits_latencies p hp
  have refreshed : s.Passes (s.refreshLatency p) domParts domUnits := by
    unfold State.refreshLatency
    exact ((((State.Passes.refl s _ _).setF _ _ (fld _ (by simp))).setF _ _ (fld _ (by simp))).setF _ _ (fld _ (by simp))).setF _ _
      (fld _ (by simp))
  exact .ite refreshed (refreshed.foldl fun u d _ => .ite ((State.Passes.refl u _ _).setDom _ _ (by decide)) (.refl u _ _))

/-! ## Streams after a link (R245, R277) -/

theorem State.passes_refreshTsMiss : s.Passes s.refreshTsMiss [.streams] [] := by
  unfold State.refreshTsMiss
  refine State.Passes.setRaw ((State.Passes.refl s _ _).foldl fun u d _ => ?_) _ _
  have noted : ∀ x y, u.Passes { u with str := { u.str with tsMiss := x, tsLeft := y } } [.streams] [] := fun x y =>
    (State.Passes.refl u _ _).setStr _ (by decide) (by rfl)
  exact .ite ((noted _ _).fire _ _ _) (noted _ _)

theorem State.passes_refreshRxRaw : s.Passes s.refreshRxRaw [] [] :=
  ((((State.Passes.refl s _ _).setRaw _ _).setRaw _ _).setRaw _ _).setRaw _ _

theorem State.passes_refreshTxRaw : s.Passes s.refreshTxRaw [] [] := ((State.Passes.refl s _ _).setRaw _ _).setRaw _ _

theorem State.passes_rxPathDown (p : Nat) : s.Passes (s.rxPathDown p) [.streams] [] := by
  have downs := (State.Passes.refl s [.streams] []).foldl (l := s.str.rx) (f := fun s q =>
    if onPath (s.rxB q.1) p && !bitOf q.2.lost p then
      (s.setRx q.1 { s.rxRun q.1 with lost := withBit q.2.lost p }).fire Ev.PATH_LOSS (rxObj q.1) (q.1 + 1024 * p)
    else s) fun u q _ => .ite (((State.Passes.refl u _ _).setStr _ (by decide) (by rfl)).fire _ _ _) (.refl u _ _)
  exact downs.thenPasses (State.passes_refreshRxRaw _) (by decide)

theorem State.passes_txPathUp (p : Nat) : s.Passes (s.txPathUp p) [.streams] [] :=
  ((State.Passes.refl s _ _).setStr _ (by decide) (by rfl)).thenPasses (State.passes_refreshTxRaw _) (by decide)

/-! ## The registers of a port -/

/-- The MAC units. -/
def macUnits : List Units := [⟨3, 0, 3⟩]

/-- Whether a field stands in the block of the first MAC unit: the same fields of the other ports follow from unit to unit (R12). -/
def macRow (a lo : Nat) : Bool := decide (0x00C00000 * 8 ≤ a * 8 + lo) && decide (a * 8 + lo < 0x00C08000 * 8)

/-- Whether the MAC units of every port are among some units, and whether no unit of theirs is. -/
def withMacs (us : List Units) : Bool := us.any fun u => u.sub == 3 && u.first == 0 && decide (3 ≤ u.last)
def withoutMacs (us : List Units) : Bool := us.all fun u => u.sub != 3

variable {p a lo w : Nat}

theorem addrUnit_macRow (hp : p < 4) (row : macRow a lo = true) :
    (addrUnit ((⟨a + p * 0x10000, lo, w⟩ : Fld).key / 8)).1 = 3 ∧ (addrUnit ((⟨a + p * 0x10000, lo, w⟩ : Fld).key / 8)).2.1 = p := by
  simp only [macRow, Bool.and_eq_true, decide_eq_true_eq] at row
  simp only [Fld.key, fieldKey, addrUnit]
  constructor <;> omega

theorem inUnits_macRow {us : List Units} (hp : p < 4) (row : (macRow a lo && withMacs us) = true) :
    (⟨a + p * 0x10000, lo, w⟩ : Fld).inUnits us = true := by
  obtain ⟨row, inside⟩ := Bool.and_eq_true_iff.1 row
  obtain ⟨sub, unit⟩ := addrUnit_macRow (w := w) hp row
  obtain ⟨u, mem, covers⟩ := List.any_eq_true.1 inside
  simp only [Bool.and_eq_true, beq_iff_eq, decide_eq_true_eq] at covers
  refine List.any_eq_true.2 ⟨u, mem, ?_⟩
  simp only [sub, unit, Bool.and_eq_true, beq_iff_eq, decide_eq_true_eq]
  omega

theorem inUnits_egressDrop : ∀ p < 4, ∀ q < 4, (F.MAC_EGRESS_DROP p q).inUnits macUnits = true := by decide

end

section
variable {s t u : State} {ps : List Part} {us : List Units} {p a lo w : Nat}

/-- A register of a port is written within a frame that names the MAC units. -/
theorem State.Stays.setMac (h : s.Stays t ps us) (hp : p < 4) (v : Nat) (row : (macRow a lo && withMacs us) = true) :
    s.Stays (t.setF ⟨a + p * 0x10000, lo, w⟩ v) ps us := h.setF _ v (inUnits_macRow hp row)

theorem State.Stays.incMac (h : s.Stays t ps us) (hp : p < 4) (row : (macRow a lo && withMacs us) = true) :
    s.Stays (t.incSat ⟨a + p * 0x10000, lo, w⟩) ps us := h.incSat _ (inUnits_macRow hp row)

theorem State.Passes.setMac (h : s.Passes t ps us) (hp : p < 4) (v : Nat) (row : (macRow a lo && withMacs us) = true) :
    s.Passes (t.setF ⟨a + p * 0x10000, lo, w⟩ v) ps us := h.setF _ v (inUnits_macRow hp row)

theorem State.Passes.incMac (h : s.Passes t ps us) (hp : p < 4) (row : (macRow a lo && withMacs us) = true) :
    s.Passes (t.incSat ⟨a + p * 0x10000, lo, w⟩) ps us := h.incSat _ (inUnits_macRow hp row)

end

/-! ## Pieces of a port's events -/

section
variable (s : State) {p : Nat}

theorem State.passes_fireLink (p : Nat) : s.Passes (s.fireLink p) [] [] := ((State.Passes.refl s _ _).setRaw _ _).fire _ _ _

theorem State.passes_refreshQueueHigh (p : Nat) : s.Passes (s.refreshQueueHigh p) [.streams] [] := by
  unfold State.refreshQueueHigh
  extract_lets high was _ noted shown
  have notes : s.Passes shown [.streams] [] := State.Passes.setRaw (t := noted) ((State.Passes.refl s _ _).setStr _ (by decide) (by rfl)) _ _
  exact .ite (notes.fire _ _ _) notes

theorem State.passes_egressDrop (hp : p < 4) {q : Nat} (hq : q < 4) : s.Passes (s.egressDrop p q) [] macUnits :=
  ((State.Passes.refl s _ _).incSat _ (inUnits_egressDrop p hp q hq)).fire _ _ _

theorem State.passes_lpiWake (hp : p < 4) : s.Passes (s.lpiWake p) [] macUnits := (State.Passes.refl s _ _).setMac hp 0 (by decide)

theorem State.passes_advertise (p code : Nat) : s.Passes (s.advertise p code) [] [] :=
  .ite ((State.Passes.refl s _ _).emit _) (.refl s _ _)

theorem State.passes_refreshUtil (hp : p < 4) : s.Passes (s.refreshUtil p) [] macUnits :=
  .setMac (.setMac (.refl s _ _) hp (satNat _ _) (by decide)) hp _ (by decide)

theorem State.passes_msixRequest (v : Nat) : s.Passes (s.msixRequest v) [] [] := by
  have settled := s.settled_msixRequest v
  exact ⟨settled.served.stays _ _, by rw [settled.str]⟩

theorem State.passes_setTsq (hp : p < 4) (l : List TsEntry) : s.Passes (s.setTsq p l) [.stamps] [⟨1, 4, 7⟩] :=
  ⟨s.stays_setTsq l hp, rfl⟩

theorem State.passes_pushTs (hp : p < 4) (e : TsEntry) : s.Passes (s.pushTs p e) [.stamps] [⟨1, 4, 7⟩] := by
  have lost : ∀ p < 4, (F.TSU_Q_STATUS_LOST p).inUnits [⟨1, 4, 7⟩] = true := by decide
  have same := State.Passes.refl s [.stamps] [⟨1, 4, 7⟩]
  exact .ite (((same.incSat _ (lost p hp)).setStamps _ (by decide)).fire _ _ _)
    ((same.setStamps _ (by decide)).trans (State.passes_setTsq _ hp _))

theorem State.passes_stampFrame (hp : p < 4) (ts : Option (Nat × Nat × Nat)) (late : Bool) (at_ : Tai) :
    s.Passes (s.stampFrame p ts late at_) [.stamps] [⟨1, 4, 7⟩] := by
  unfold State.stampFrame
  split
  · exact .refl s _ _
  · exact s.passes_pushTs hp _

theorem State.passes_setTimed (hp : p < 4) (l : List TimedFrame) : s.Passes (s.setTimed p l) [.stamps] [⟨1, 4, 7⟩] :=
  ⟨s.stays_setTimed l hp, rfl⟩

end
end Sys2Proof.Machine
end

section
/-!
Frames of the ports' events and of the stream tables' (R206 to R223, R247, R250, R252, R272, R274): each leaves everything but the network's
tables and its units.
-/

namespace Sys2Proof.Machine

section
variable (s : State) {p : Nat}

/-! ## Links (R206, R207) -/

theorem State.stays_setEee (hp : p < 4) (on : Bool) : s.Stays (s.setEee p on) [.streams] macUnits := by
  unfold State.setEee
  extract_lets _ resolved ended
  have resolves : s.Stays resolved [.streams] macUnits := (State.Stays.refl s _ _).setPort _ _ (by decide)
  have ends : s.Stays ended [.streams] macUnits := .ite resolves (resolves.setMac hp 0 (by decide))
  exact .ite (.refl s _ _) ((ends.setRaw _ _).fire _ _ _)

theorem State.stays_endPauses (hp : p < 4) : s.Stays (s.endPauses p) [.streams] macUnits :=
  .setMac (.setMac ((State.Stays.refl s _ _).setPort _ _ (by decide)) hp 0 (by decide)) hp 0 (by decide)

theorem State.stays_flushQueues (hp : p < 4) : s.Stays (s.flushQueues p) [.streams] macUnits := by
  have queues : ∀ q ∈ [0, 1, 2, 3], q < 4 := by decide
  unfold State.flushQueues
  refine State.Stays.thenPasses ?_ (State.passes_refreshQueueHigh _ p) (by decide)
  refine State.Stays.setPort ?_ _ _ (by decide)
  exact (State.Stays.refl s _ _).foldl fun u q hq h =>
    h.foldl fun v _ _ k => k.thenPasses (v.passes_egressDrop hp (queues q hq)) (by decide)

/-- What a link's events leave: the frame of the row. -/
theorem State.stays_linkLost (hp : p < 4) : s.Stays (s.linkLost p) [.streams, .time] [⟨1, 1, 7⟩, ⟨3, 0, 3⟩] := by
  unfold State.linkLost
  extract_lets flushed down
  have flushes : s.Stays flushed [.streams, .time] [⟨1, 1, 7⟩, ⟨3, 0, 3⟩] :=
    ((State.Stays.refl s _ _).thenStays (s.stays_flushQueues hp) (by decide)).thenStays (State.stays_endPauses _ hp) (by decide)
  have downs : s.Stays down [.streams, .time] [⟨1, 1, 7⟩, ⟨3, 0, 3⟩] := (flushes.setMac hp 0 (by decide)).thenPasses (State.passes_fireLink _ p) (by decide)
  exact .ite (.refl s _ _) ((((downs.thenStays (down.stays_setEee hp false) (by decide)).thenPasses (State.passes_domsRefresh _) (by decide)).thenPasses
    (State.passes_refreshTsMiss _) (by decide)).thenPasses (State.passes_rxPathDown _ p) (by decide))

theorem State.stays_stepDone (hp : p < 4) : s.Stays (s.stepDone p) [.streams] macUnits := by
  unfold State.stepDone
  extract_lets old new _ stopped fired
  have stops : s.Stays stopped [.streams] macUnits := .setPort (.setMac (.refl s _ _) hp 0 (by decide)) _ _ (by decide)
  have fires : s.Stays fired [.streams] macUnits := .fire (.incMac stops hp (by decide)) _ _ _
  exact (fires.logState _ _ _ _).thenPasses (State.passes_txPathUp _ p) (by decide)

theorem linkUp_stays (hp : p < 4) (speed : Nat) (eee refused : Bool) :
    s.Stays (linkUp p speed eee refused s) [.streams, .time] [⟨1, 1, 7⟩, ⟨3, 0, 3⟩] := by
  unfold linkUp
  extract_lets was up moved fired resolved settled
  have ups : s.Stays up [.streams, .time] [⟨1, 1, 7⟩, ⟨3, 0, 3⟩] := .setMac (.setMac (.refl s _ _) hp 1 (by decide)) hp speed (by decide)
  have moves : s.Stays moved [.streams, .time] [⟨1, 1, 7⟩, ⟨3, 0, 3⟩] := ups.thenPasses (up.passes_latencyChanged hp) (by decide)
  have fires : s.Stays fired [.streams, .time] [⟨1, 1, 7⟩, ⟨3, 0, 3⟩] := .ite moves (moves.thenPasses (moved.passes_fireLink p) (by decide))
  have settles : s.Stays settled [.streams, .time] [⟨1, 1, 7⟩, ⟨3, 0, 3⟩] := ((fires.thenStays (fired.stays_setEee hp _) (by decide)).thenPasses
    (State.passes_domsRefresh _) (by decide)).thenPasses (State.passes_refreshTsMiss _) (by decide)
  exact .ite (.refl s _ _) (.ite ((State.Stays.refl s _ _).incMac hp (by decide)) (.ite (.ite (settles.thenStays (settled.stays_stepDone hp) (by decide)) settles)
    (settles.thenPasses (settled.passes_txPathUp p) (by decide))))

theorem speedStepDone_stays (hp : p < 4) : s.Stays (speedStepDone p s) [.streams, .time] [⟨1, 1, 7⟩, ⟨3, 0, 3⟩] := by
  unfold speedStepDone
  split
  · exact .refl s _ _
  · exact .ite (.refl s _ _) (linkUp_stays s hp _ _ _)

/-! ## Ingress (R210, R211) -/

theorem policerDrops_inUnits : ∀ i < 16, (F.POL_DROPS i).inUnits [⟨3, 0, 4⟩] = true := by decide

/-- There are four classes of frames. -/
theorem State.frameClass_lt (p : Nat) (k : FrameKind) : s.frameClass p k < 4 := by
  unfold State.frameClass
  repeat' split
  all_goals decide

theorem State.stays_police (p k len : Nat) (at_ : Int) : s.Stays (s.police p k len at_).2 [.streams] [] := by
  unfold State.police
  dsimp only
  split
  · exact .refl s _ _
  · split
    · exact .refl s _ _
    · exact (State.Stays.refl s _ _).setPort _ _ (by decide)

theorem ingressFrame_stays (hp : p < 4) (f : FrameIn) : s.Stays (ingressFrame p f s) [.streams] [⟨3, 0, 4⟩] := by
  have same := State.Stays.refl s [.streams] [⟨3, 0, 4⟩]
  have drops : ∀ k < 4, (F.POL_DROPS (p * 4 + k)).inUnits [⟨3, 0, 4⟩] = true := fun k hk => policerDrops_inUnits _ (by omega)
  have policed := same.thenStays (s.stays_police p (s.frameClass p f.kind) f.len f.at_.units) (by decide)
  unfold ingressFrame
  refine .ite same (.ite ((same.incMac hp (by decide)).fire _ _ _) (.ite ((same.incMac hp (by decide)).fire _ _ _) (.ite (same.incMac hp (by decide))
    (.ite (same.incMac hp (by decide)) (.ite same (.ite ((policed.incSat _ (drops _ (s.frameClass_lt p f.kind))).fire _ _ _)
      (.ite ((policed.incMac hp (by decide)).fire _ _ _) (policed.incMac hp (by decide)))))))))

/-! ## PAUSE (R214) -/

theorem State.stays_pauseQueue (hp : p < 4) (q quanta : Nat) : s.Stays (s.pauseQueue p q quanta) [.streams] macUnits :=
  .ite (.setMac ((State.Stays.refl s _ _).setPort _ _ (by decide)) hp _ (by decide)) (.setMac ((State.Stays.refl s _ _).setPort _ _ (by decide)) hp _ (by decide))

theorem pauseRx_stays (hp : p < 4) (pfc : Bool) (en : Nat) (quanta : List Nat) : s.Stays (pauseRx p pfc en quanta s) [.streams] macUnits := by
  unfold pauseRx
  extract_lets hon big counted
  have counts : s.Stays counted [.streams] macUnits := ((State.Stays.refl s _ _).incMac hp (by decide)).fire _ _ _
  exact .ite (.refl s _ _) (.ite counts (.ite (counts.foldl fun u q _ h => .ite (h.trans (u.stays_pauseQueue hp q _)) h)
    ((counts.trans (counted.stays_pauseQueue hp 2 _)).trans (State.stays_pauseQueue _ hp 3 _))))

theorem pauseExpiry_stays (hp : p < 4) (q : Nat) : s.Stays (pauseExpiry p q s) [.streams] macUnits :=
  .ite (s.stays_pauseQueue hp q 0) (.refl s _ _)

/-! ## Egress (R212, R215, R155 to R157) -/

/-- The parts and units of frames that leave. -/
def egressParts : List Part := [.stamps, .streams]
def egressUnits : List Units := [⟨1, 4, 7⟩, ⟨3, 0, 3⟩]

theorem egressStart_stays (hp : p < 4) (at_ : Tai) : s.Stays (egressStart p at_ s) egressParts egressUnits := by
  unfold egressStart
  refine .ite (.refl s _ _) ?_
  extract_lets _ ended u ok
  have ends : s.Stays ended egressParts egressUnits := by
    unfold ended
    split
    · exact ((State.Stays.refl s _ _).incMac hp (by decide)).setPort _ _ (by decide)
    · exact .refl s _ _
  clear_value ended
  split
  · exact ends
  next q _ =>
  split
  · exact ends
  next f l _ =>
  extract_lets sent judged stamped
  have sends : s.Stays sent egressParts egressUnits :=
    ((ends.setPort _ _ (by decide)).thenPasses (State.passes_refreshQueueHigh _ p) (by decide)).emit _
  have judges : s.Stays judged egressParts egressUnits := by
    unfold judged
    split
    · split
      · refine State.Stays.fire (.ite ?_ sends) _ _ _
        exact .ite (sends.setStr _ (by decide)) (sends.setStr _ (by decide))
      · exact sends
    · exact sends
  have stamps : s.Stays stamped egressParts egressUnits := judges.thenPasses (judged.passes_stampFrame hp _ _ _) (by decide)
  exact .ite (stamps.setPort _ _ (by decide)) (stamps.incMac hp (by decide))

theorem macUnderrun_stays (hp : p < 4) : s.Stays (macUnderrun p s) [.streams] macUnits := by
  unfold macUnderrun
  split
  · exact .refl s _ _
  · extract_lets _ counted old new doubled
    have counts : s.Stays counted [.streams] macUnits := .incMac ((State.Stays.refl s _ _).setPort _ _ (by decide)) hp (by decide)
    have doubles : s.Stays doubled [.streams] macUnits := (counts.setMac hp new (by decide)).fire _ _ _
    exact doubles.logReg _ _ _ _

/-- A queue that may be served is one of the four. -/
theorem State.openQueues_lt {q : Nat} (h : (s.openQueues p).contains q = true) : q < 4 := by
  have mem := List.contains_iff_mem.1 h
  unfold State.openQueues at mem
  simp only [List.mem_append] at mem
  have queue : ∀ {c : Prop} [Decidable c] {a : Nat}, q ∈ (if c then [a] else []) → q = a := by
    intro c _ a h
    split at h
    · exact List.mem_singleton.1 h
    · exact absurd h List.not_mem_nil
  rcases mem with (mem | mem) | mem
  · rcases List.mem_pair.1 mem with rfl | rfl <;> decide
  · rw [queue mem]; decide
  · rw [queue mem]; decide

theorem timedLaunch_stays (hp : p < 4) (at_ : Tai) : s.Stays (timedLaunch p at_ s) [.stamps] egressUnits := by
  have lates : ∀ p < 4, (F.TSU_TTQ_STATUS_LATE p).inUnits egressUnits = true := by decide
  unfold timedLaunch
  split
  · exact .refl s _ _
  next f l _ =>
  extract_lets u late sent woken stamped
  have queued : ∀ l, s.Stays (s.setTimed p l) [.stamps] egressUnits := fun l => (State.Stays.refl s _ _).thenPasses (s.passes_setTimed hp l) (by decide)
  have wakes : s.Stays woken [.stamps] egressUnits := .incMac (.setMac ((queued l).emit _) hp 0 (by decide)) hp (by decide)
  have stamps : s.Stays stamped [.stamps] egressUnits := .ite ((wakes.incSat _ (lates p hp)).fire _ _ _) wakes
  refine .ite (.refl s _ _) ?_
  split
  · exact queued _
  next opened =>
  refine .ite ((queued l).thenPasses (State.passes_egressDrop _ hp ?_) (by decide)) (stamps.thenPasses (stamped.passes_stampFrame hp _ _ _) (by decide))
  exact s.openQueues_lt (by simpa using opened)

/-! ## Host frame rings (R222, R223) -/

theorem State.stays_enqueue (hp : p < 4) (q : Nat) (f : QFrame) : s.Stays (s.enqueue p q f) [.streams] macUnits :=
  (((State.Stays.refl s _ _).setPort _ _ (by decide)).trans ((State.passes_lpiWake _ hp).stays.mono (by decide) (by decide))).thenPasses
    (State.passes_refreshQueueHigh _ p) (by decide)

theorem State.stays_judgeDescriptor (hp : p < 4) (d frame : List Byte) : s.Stays (s.judgeDescriptor p d frame).2 egressParts egressUnits := by
  have same := State.Stays.refl s egressParts egressUnits
  have queue : leAt d 10 2 % 4 < 4 := Nat.mod_lt _ (by decide)
  unfold State.judgeDescriptor
  simp only [apply_ite Prod.snd]
  exact .ite same (.ite (.ite (same.fire _ _ _) (.ite same (same.thenPasses (s.passes_setTimed hp _) (by decide))))
    (.ite (same.thenPasses (s.passes_egressDrop hp queue) (by decide)) (.ite same (same.thenStays (s.stays_enqueue hp _ _) (by decide)))))

theorem hostTxDescriptor_stays (hp : p < 4) (d frame : List Byte) (at_ : Tai) :
    s.Stays (hostTxDescriptor p d frame at_ s) egressParts egressUnits := by
  have judged := s.stays_judgeDescriptor hp d frame
  unfold hostTxDescriptor
  extract_lets cons
  refine .ite (.refl s _ _) ?_
  generalize s.judgeDescriptor p d frame = verdict at judged ⊢
  obtain ⟨st, u⟩ := verdict
  dsimp -zeta only
  extract_lets n written consumed
  have consumes : s.Stays consumed egressParts egressUnits := .setMac (judged.emit _) hp _ (by decide)
  exact .ite (consumes.thenPasses (consumed.passes_msixRequest _) (by decide)) consumes

theorem bestEffortRx_stays (hp : p < 4) (len : Nat) (tag : Option (Nat × Nat)) (ptp : Bool) (at_ : Tai) (buf : Nat × Nat) :
    s.Stays (bestEffortRx p len tag ptp at_ buf s) [] macUnits := by
  have dropped : s.Stays (s.incSat (F.MAC_HOST_RX_DROP p)) [] macUnits := (State.Stays.refl s _ _).incMac hp (by decide)
  have written : ∀ a b v, s.Stays (((s.emit a).emit b).setF (F.MAC_RXR_CONS p) v) [] macUnits := fun a b v =>
    (((State.Stays.refl s _ _).emit _).emit _).setMac hp v (by decide)
  exact .ite (.refl s _ _) (.ite dropped (.ite ((written _ _ _).thenPasses (State.passes_msixRequest _ _) (by decide)) (written _ _ _)))

/-! ## Speed steps, utilisation, low-power idle (R216 to R220) -/

theorem State.stays_startStep (hp : p < 2) (target : Nat) : s.Stays (s.startStep p target) [.streams] macUnits := by
  have stepping : s.Stays ((s.setPort p { s.port p with target := some target, prevSpeed := s.getF (F.MAC_STATUS_SPEED p) }).setF
      (F.MAC_STATUS_STEPPING p) 1) [.streams] macUnits := .setMac ((State.Stays.refl s _ _).setPort _ _ (by decide)) (p := p) (by omega) 1 (by decide)
  exact ((stepping.thenPasses (State.passes_rxPathDown _ p) (by decide)).thenPasses (State.passes_advertise _ p target) (by decide)).thenPasses
    (State.passes_refreshUtil (p := 1 - p) _ (by omega)) (by decide)

theorem stepDownDue_stays (hp : p < 2) : s.Stays (stepDownDue p s) [.streams] macUnits := .ite (.refl s _ _) (s.stays_startStep hp _)

theorem secondPortStep_stays (hp : p < 2) : s.Stays (secondPortStep p s) [.streams] macUnits := by
  unfold secondPortStep
  split
  · exact .refl s _ _
  split
  · exact s.stays_startStep hp _
  · exact .ite (s.stays_startStep hp _) (.refl s _ _)

theorem stepTimeout_stays (hp : p < 4) : s.Stays (stepTimeout p s) [.streams] macUnits := by
  unfold stepTimeout
  split
  · exact .refl s _ _
  · extract_lets stopped _ barred failed
    have stops : s.Stays stopped [.streams] macUnits := .setMac ((State.Stays.refl s _ _).thenPasses (s.passes_advertise p 4) (by decide)) hp 0 (by decide)
    have fails : s.Stays failed [.streams] macUnits := ((stops.setPort _ _ (by decide)).incMac hp (by decide)).fire _ _ _
    exact .ite (.refl s _ _) (.ite (fails.thenPasses (failed.passes_txPathUp p) (by decide)) fails)

theorem utilSecond_stays (meas : List (Nat × Nat)) : s.Stays (utilSecond meas s) [.streams] macUnits :=
  (State.Stays.refl s _ _).foldl fun _ p hp h => State.Stays.thenPasses ((h.setPort _ _ (by decide)).setPort _ _ (by decide))
    (State.passes_refreshUtil _ (List.mem_range.1 hp)) (by decide)

theorem lpiEnter_stays (hp : p < 4) : s.Stays (lpiEnter p s) [] macUnits :=
  .ite (.incMac (.setMac (.refl s _ _) hp 1 (by decide)) hp (by decide)) (.refl s _ _)

/-! ## Announcements and peers (R252, R274) -/

theorem State.stays_offer (hp : p < 4) {q : Nat} (hq : q < 4) (f : QFrame) : s.Stays (s.offer p q f) [.streams] macUnits :=
  .ite (s.stays_enqueue hp q f) ((s.passes_egressDrop hp hq).stays.mono (by decide) (by decide))

theorem announceRound_stays : s.Stays (announceRound s) [.streams] macUnits := by
  unfold announceRound
  extract_lets es grams send sent
  have sends : s.Stays sent [.streams] macUnits := (State.Stays.refl s _ _).foldl fun u p hp h => .ite
    (h.foldl fun v _ _ k => k.trans (v.stays_offer (List.mem_range.1 hp) (by decide) _)) h
  exact .ite (.refl s _ _) (sends.setStr _ (by decide))

theorem State.stays_fileDescs (dev n : Nat) (l : List Byte) : s.Stays (s.fileDescs dev n l) [.streams] [] := by
  induction n generalizing s l with
  | zero => exact .refl s _ _
  | succ n ih => exact .ite (.refl s _ _) ((s.stays_fileDesc _ _ _).trans (ih _ _))

theorem announcementRx_stays (port : Nat) (d : List Byte) : s.Stays (announcementRx port d s) [.streams] [⟨4, 1, 1⟩] := by
  unfold announcementRx
  extract_lets mac dev judged touched x entered
  have judges : s.Stays judged [.streams] [⟨4, 1, 1⟩] := .ite (((State.Stays.refl s _ _).incSat _ (by decide)).fire _ _ _) (.refl s _ _)
  have enters : s.Stays entered [.streams] [⟨4, 1, 1⟩] := (judges.thenStays (judged.stays_touchPeer dev) (by decide)).setStr _ (by decide)
  exact .ite (.refl s _ _) (.ite (.refl s _ _) (enters.thenStays (entered.stays_fileDescs _ _ _) (by decide)))

theorem peerAgeOut_stays (dev : Nat) : s.Stays (peerAgeOut dev s) [.streams] [] := by
  unfold peerAgeOut
  split
  · exact .refl s _ _
  · exact .ite (.refl s _ _) (((State.Stays.refl s _ _).setStr _ (by decide)).fire _ _ _)

/-! ## Estimators (R247, R248) -/

/-- The unit of the estimators. -/
def fdUnits : List Units := [⟨4, 4, 4⟩]

theorem inUnits_fdFlds : ∀ k < 64, ∀ f ∈ [F.FD_STATUS_STATE k, F.FD_RATIO k, F.FD_LOCKS k, F.FD_UNLOCKS k], f.inUnits fdUnits = true := by
  decide

variable {k : Nat}

theorem State.stays_setFd (k : Nat) (x : FdState) (us : List Units) : s.Stays (s.setFd k x) [.streams] us :=
  (State.Stays.refl s _ _).setStr _ (by decide)

theorem State.stays_fdUnlock (hk : k < 64) (cause : Nat) : s.Stays (s.fdUnlock k cause) [.streams] fdUnits :=
  ((State.Stays.refl s _ _).incSat _ (inUnits_fdFlds k hk _ (by simp))).fire _ _ _

theorem State.stays_fdError (hk : k < 64) (hz off : Nat) (q : Nat × Int) : s.Stays (s.fdError k hz off q) [.streams] fdUnits := by
  unfold State.fdError
  extract_lets x err win ns large st run judged
  have judges : s.Stays judged [.streams] fdUnits := s.stays_setFd k _ _
  have acquires : s.Stays (((judged.fdAnchor k hz off q.1 q.2)).fdAcquire k q.2) [.streams] fdUnits :=
    (((judges.trans (State.stays_setFd _ k _ _)).setF _ _ (inUnits_fdFlds k hk _ (by simp))).trans (State.stays_setFd _ k _ _))
  exact .ite (acquires.trans (State.stays_fdUnlock _ hk 1)) judges

theorem fdUpdate_stays (hk : k < 64) (adj ratio : Int) : s.Stays (fdUpdate k adj ratio s) [.streams] fdUnits := by
  have fld := inUnits_fdFlds k hk
  unfold fdUpdate
  extract_lets x at_ hz off l emptied judged y r moved st sec shown
  have judges : s.Stays judged [.streams] fdUnits := (s.stays_setFd k _ _).foldl fun u q _ h => h.trans (u.stays_fdError hk _ _ q)
  have moves : s.Stays moved [.streams] fdUnits := .setI (judges.trans (judged.stays_setFd k _ _)) _ _ (fld _ (by simp))
  have locks : s.Stays ((moved.setF (F.FD_STATUS_STATE k) fdLOCKED).incSat (F.FD_LOCKS k)) [.streams] fdUnits :=
    (moves.setF _ _ (fld _ (by simp))).incSat _ (fld _ (by simp))
  have shows : s.Stays shown [.streams] fdUnits :=
    .ite (locks.fire _ _ _) (.ite ((moves.setF _ _ (fld _ (by simp))).fire _ _ _) (.ite locks moves))
  exact .ite (.refl s _ _) (shows.thenPasses (shown.passes_refreshRxRaw) (by decide))

/-! ## Group leaves and the transmit swap (R250, R272) -/

/-- A happening fixed to a tick takes place on the boundary, or not yet. -/
theorem State.stays_atTick {t : Nat} {f : State → State} {ps : List Part} {us : List Units} (each : ∀ u : State, u.Stays (f u) ps us)
    (hp : .time ∈ ps) (hu : ⟨14, 0, 0⟩ ∈ us) : s.Stays (s.atTick t f) ps us :=
  .ite ((s.stays_toBoundary.mono (by simpa using hp) (by simpa using hu)).trans (each _)) (.refl s _ _)

theorem State.stays_leaveOld : s.Stays s.leaveOld [.streams] [] :=
  ((State.Stays.refl s _ _).setStr _ (by decide)).trans (State.stays_syncGroups _)

theorem oldGroupLeave_stays : s.Stays (oldGroupLeave s) [.streams, .time] [⟨14, 0, 0⟩] := by
  unfold oldGroupLeave
  split
  · exact .refl s _ _
  · exact s.stays_atTick (fun u => u.stays_leaveOld.mono (by decide) (by decide)) (by decide) (by decide)

theorem State.stays_txStart (e : Nat) (pend : Bool) (start : Int) : s.Stays (s.txStart e pend start) [.streams] [⟨4, 1, 1⟩] := by
  have set : ∀ x, s.Stays (s.setTx e x) [.streams] [⟨4, 1, 1⟩] := fun x => (State.Stays.refl s _ _).setStr _ (by decide)
  exact (((set _).thenStays (State.stays_refreshTxt _) (by decide)).thenStays (State.stays_refreshTxRaw _) (by decide)).thenStays (State.stays_refreshTsMiss _) (by decide)

theorem State.stays_txSwapNow (o : Origin) (event : Bool) : s.Stays (s.txSwapNow o event) [.streams] [⟨4, 1, 1⟩] := by
  unfold State.txSwapNow
  extract_lets old changed now stopped _ emptied exchanged started bumped shown logged
  have stops : s.Stays stopped [.streams] [⟨4, 1, 1⟩] :=
    (State.Stays.refl s _ _).foldl fun u e _ h => .ite (h.trans (u.stays_txStop e _)) h
  have exchanges : s.Stays exchanged [.streams] [⟨4, 1, 1⟩] :=
    (((State.Stays.setStr (t := stopped) stops _ (by decide)).modified.setF _ _ (by decide)).setF _ _ (by decide)).incSat _ (by decide)
  have starts : s.Stays started [.streams] [⟨4, 1, 1⟩] :=
    .ite (exchanges.foldl fun u e _ h => .ite (h.trans (u.stays_txStart e _ _)) h) exchanges
  have bumps : s.Stays bumped [.streams] [⟨4, 1, 1⟩] := starts.foldl fun u e _ h => h.thenStays (u.stays_bumpVersion e) (by decide)
  have logs : s.Stays logged [.streams] [⟨4, 1, 1⟩] :=
    ((bumps.thenStays (State.stays_refreshTxt _) (by decide)).thenStays (State.stays_refreshTxRaw _) (by decide)).logE _ _ _ _ _ _ _
  exact .ite (logs.fire _ _ _) logs

theorem txSwapAt_stays : s.Stays (txSwapAt s) [.streams, .time] [⟨4, 1, 1⟩, ⟨14, 0, 0⟩] := by
  unfold txSwapAt
  split
  · exact .refl s _ _
  · exact s.stays_atTick (fun u => (u.stays_txSwapNow _ true).mono (by decide) (by decide)) (by decide) (by decide)

end

/-- Settles O49: each event keeps the frame of its row. -/
theorem portEventsTouchTheirPorts : Obligations.PortEventsTouchTheirPorts := by
  intro s t p h sp b c n l k x y f at_ u qs v tag g
  have two : h.val < 4 := by omega
  simp only [List.forall_mem_cons, List.not_mem_nil, false_implies, implies_true, and_true]
  refine ⟨⟨?_, ?_, ?_⟩, ?_, ⟨?_, ?_, ?_⟩, ⟨?_, ?_, ?_, ?_, ?_, ?_, ?_, ?_⟩, ⟨?_, ?_⟩, ?_, ?_, ?_, ?_, ?_, ?_⟩ <;> intro ends
  · exact happen_whenPort_stays ends (linkUp_stays _ p.isLt sp b c)
  · exact happen_whenPort_stays ends (State.stays_linkLost _ p.isLt)
  · exact happen_whenPort_stays ends (speedStepDone_stays _ two)
  · exact happen_whenPort_stays ends (ingressFrame_stays _ p.isLt f)
  · exact happen_whenPort_stays ends (bestEffortRx_stays _ p.isLt n tag b at_ g)
  · exact happen_whenPort_stays ends (lpiEnter_stays _ p.isLt)
  · exact happen_whenPort_stays ends (State.passes_lpiWake _ p.isLt).stays
  · exact happen_whenPort_stays ends (pauseRx_stays _ p.isLt b n qs)
  · exact happen_whenPort_stays ends (pauseExpiry_stays _ p.isLt v)
  · exact happen_whenAlive_stays ends (announceRound_stays _)
  · exact happen_whenAlive_stays ends (utilSecond_stays _ u)
  · exact happen_whenPort_stays ends (stepDownDue_stays _ h.isLt)
  · exact happen_whenPort_stays ends (secondPortStep_stays _ h.isLt)
  · exact happen_whenPort_stays ends (stepTimeout_stays _ two)
  · exact happen_whenPort_stays ends (macUnderrun_stays _ p.isLt)
  · exact happen_whenPort_stays ends (egressStart_stays _ p.isLt at_)
  · exact happen_whenPort_stays ends (hostTxDescriptor_stays _ p.isLt l l at_)
  · exact happen_whenPort_stays ends (timedLaunch_stays _ p.isLt at_)
  · exact happen_whenPort_stays ends (announcementRx_stays _ p l)
  · exact happen_whenAlive_stays ends (peerAgeOut_stays _ n)
  · exact happen_whenAlive_stays ends (fdUpdate_stays _ k.isLt x y)
  · exact happen_whenAlive_stays ends (oldGroupLeave_stays _)
  · exact happen_whenAlive_stays ends (txSwapAt_stays _)

end Sys2Proof.Machine
end

section
/-!
A port's own run (R206 to R223): which registers and which run of a port each piece of its events leaves, and what it sets.
-/

namespace Sys2Proof.Machine

/-! ## Registers of ports kept apart -/

/-- Fields of rows that repeat from port to port differ where their places do. -/
theorem Fld.key_ne_of_row {a lo w b l x m n : Nat} (h : (⟨a, lo, w⟩ : Fld).place ≠ (⟨b, l, x⟩ : Fld).place) :
    (⟨a + m * 0x10000, lo, w⟩ : Fld).key ≠ (⟨b + n * 0x10000, l, x⟩ : Fld).key :=
  Fld.key_ne_of_place (by rwa [Fld.place_unit, Fld.place_unit])

/-- A field of the network's units (chapter 9). -/
def Fld.inNet (f : Fld) : Prop := (addrUnit (f.key / 8)).1 = 3

/-- Registers of ports are fields of the network. -/
theorem Fld.inNet_macRow {a lo w p : Nat} (hp : p < 4) (row : macRow a lo = true) : (⟨a + p * 0x10000, lo, w⟩ : Fld).inNet :=
  (addrUnit_macRow hp row).1

theorem serveKeys_outside : ∀ k ∈ serveKeys, (addrUnit (k / 8)).1 ≠ 3 := by decide

theorem Fld.inNet.serve {f : Fld} (net : f.inNet) : f.key ∉ serveKeys := fun mem => serveKeys_outside _ mem net

theorem Fld.inNet.settle {f : Fld} (net : f.inNet) : f.key ∉ settleKeys := fun mem => net.serve (List.mem_append_left _ mem)

theorem Fld.inNet.outside {f : Fld} {us : List Units} (net : f.inNet) (others : withoutMacs us = true) : f.inUnits us = false := by
  refine List.any_eq_false.2 fun u mem inside => ?_
  have other := List.all_eq_true.1 others u mem
  simp_all [Fld.inNet]

section
variable {s t u : State} {ps : List Part} {us : List Units} {p : Nat} {f g : Fld}

theorem State.Spares.on (h : s.Spares t f) : t.on f = s.on f := by rw [State.on, h.getF, State.on]

theorem State.Spares.incSat (h : s.Spares t f) (apart : f.key ≠ g.key) : s.Spares (t.incSat g) f := h.setF _ apart

theorem State.Spares.setPort (h : s.Spares t f) (p : Nat) (x : PortState) : s.Spares (t.setPort p x) f := h.same rfl rfl

theorem State.Spares.emit (h : s.Spares t f) (e : Emit) : s.Spares (t.emit e) f := h.traces (t.traces_emit e)

/-- A frame without the network's units leaves their registers. -/
theorem State.Stays.sparesNet (h : s.Stays t ps us) (net : f.inNet) (others : withoutMacs us = true) : s.Spares t f :=
  h.spares (net.outside others) net.serve

/-- The end of a command leaves the network's registers. -/
theorem State.Settled.net (h : State.Settled s t) (net : f.inNet) : s.Spares t f := ⟨h.getF f net.settle, h.sticky⟩

/-- The end of a command leaves the ports' run. -/
theorem State.Settled.port (h : State.Settled s t) (p : Nat) : t.port p = s.port p := by rw [State.port, h.str, State.port]

end

section
variable (s : State) {p q : Nat} {f : Fld}

/-! ## Writes -/

@[simp] theorem State.port_setPort_self (x : PortState) : (s.setPort p x).port p = x := KV.get_put_self _ _ _ _

theorem State.port_setPort_ne (x : PortState) (h : q ≠ p) : (s.setPort p x).port q = s.port q := KV.get_put_ne _ _ _ _ h

theorem State.port_setF (f : Fld) (v p : Nat) : (s.setF f v).port p = s.port p := rfl

theorem State.port_logReg (o : Origin) (addr old new p : Nat) : (s.logReg o addr old new).port p = s.port p := by
  have logged := s.traces_logE o.code o.id kREG true addr old new
  rw [State.logReg, State.modified, State.port_setF, State.port, logged.str, State.port]

/-- A counter moves on and its event fires. -/
theorem State.counts_fire (f : Fld) (src obj detail : Nat) :
    ((s.incSat f).fire src obj detail).getF f = satNat f.width (s.getF f + 1) ∧ src ∈ ((s.incSat f).fire src obj detail).ev.sticky := by
  rw [(State.traces_fire _ src obj detail).getF, State.getF_incSat]
  exact ⟨rfl, State.fire_sticky _ _ _ _⟩

/-! ## Low-power idle and pauses (R214, R220) -/

theorem State.spares_setEee (on : Bool) (lpi : f.key ≠ (F.MAC_STATUS_LPI_TX p).key) : s.Spares (s.setEee p on) f := by
  unfold State.setEee
  extract_lets _ resolved ended
  have resolves : s.Spares resolved f := (State.Spares.refl s f).setPort _ _
  have ends : s.Spares ended f := .ite resolves (resolves.setF 0 lpi)
  exact .ite (.refl s f) ((ends.setRaw _ _).fire _ _ _)

theorem State.port_setEee (hp : p < 4) (on : Bool) : (s.setEee p on).port p = { s.port p with eee := on } := by
  unfold State.setEee
  extract_lets _ resolved ended
  have ends : resolved.Passes ended [] macUnits := .ite (.refl _ _ _) (.setMac (.refl _ _ _) hp 0 (by decide))
  split
  next same => rw [← same]
  next => exact (State.Passes.port ((ends.setRaw _ _).fire _ _ _) p).trans (s.port_setPort_self _)

theorem State.port_pauseQueue (n : Nat) :
    (s.pauseQueue p q n).port p = if q = 2 then { s.port p with pauseC := n } else { s.port p with pauseB := n } := by
  unfold State.pauseQueue
  split <;> exact s.port_setPort_self _

theorem State.spares_pauseQueue (n : Nat) (ctrl : f.key ≠ (F.MAC_STATUS_PAUSED_CTRL p).key) (be : f.key ≠ (F.MAC_STATUS_PAUSED_BE p).key) :
    s.Spares (s.pauseQueue p q n) f :=
  .ite ((State.Spares.setPort (.refl s f) _ _).setF _ ctrl) ((State.Spares.setPort (.refl s f) _ _).setF _ be)

/-- A one-bit field shows the Boolean it was set to. -/
theorem State.on_setF_b2n (h : f.width = 1) (b : Bool) : (s.setF f (b2n b)).on f = b := by
  cases b
  · exact s.on_setF_zero f
  · exact s.on_setF_one f h

/-! ## Queues (R207, R212) -/

theorem State.queue_flushQueues (p q : Nat) : ((s.flushQueues p).port p).queue q = [] := by
  unfold State.flushQueues
  extract_lets dropped _
  rw [(State.passes_refreshQueueHigh _ p).port, State.port_setPort_self]
  simp [PortState.queue]

theorem PortState.queue_setQueue_self (x : PortState) (l : List QFrame) (hq : q < 4) : (x.setQueue q l).queue q = l := by
  obtain rfl | rfl | rfl | rfl : q = 0 ∨ q = 1 ∨ q = 2 ∨ q = 3 := by omega
  all_goals rfl

theorem PortState.queue_setQueue_ne (x : PortState) (l : List QFrame) {q' : Nat} (hq : q < 4) (hq' : q' < 4) (other : q' ≠ q) :
    (x.setQueue q l).queue q' = x.queue q' := by
  unfold PortState.setQueue PortState.queue
  grind

/-! ## Links (R206, R207) -/

/-- What a link that comes up writes before its speed step ends (R206). -/
def State.linkRaised (s : State) (p speed : Nat) (eee : Bool) : State :=
  let up := ((s.setF (F.MAC_STATUS_LINK p) 1).setF (F.MAC_STATUS_SPEED p) speed).latencyChanged p
  let fired := if s.on (F.MAC_STATUS_LINK p) then up else up.fireLink p
  (fired.setEee p (eee && decide (2 ≤ p) && fired.on (F.MAC_CTL_LPI_EN p) && !fired.on (F.MAC_CTL_MODE p))).domsRefresh.refreshTsMiss

variable {speed : Nat} {eee : Bool}

theorem linkUp_of_allowed (enabled : s.on (F.MAC_CTL_EN p) = true) (allowed : s.speedAllowed p speed = true) :
    linkUp p speed eee false s =
      if (s.linkRaised p speed eee).on (F.MAC_STATUS_STEPPING p) then
        if ((s.linkRaised p speed eee).port p).target == some speed then (s.linkRaised p speed eee).stepDone p
        else s.linkRaised p speed eee
      else (s.linkRaised p speed eee).txPathUp p := by
  unfold linkUp
  rw [if_neg (by simp [enabled]), if_neg (by simp [allowed])]
  rfl

theorem linkUp_of_refused {refused : Bool} (enabled : s.on (F.MAC_CTL_EN p) = true) (bad : refused = true ∨ s.speedAllowed p speed = false) :
    linkUp p speed eee refused s = s.incSat (F.MAC_LINK_REFUSED p) := by
  unfold linkUp
  rw [if_neg (by simp [enabled]), if_pos (by rcases bad with h | h <;> simp [h])]

/-- Which registers of its port a link that comes up leaves, and the event of a link that was down. -/
theorem State.spares_linkRaised (hp : p < 4) (net : f.inNet) (lpi : f.key ≠ (F.MAC_STATUS_LPI_TX p).key) :
    ((s.setF (F.MAC_STATUS_LINK p) 1).setF (F.MAC_STATUS_SPEED p) speed).Spares (s.linkRaised p speed eee) f ∧
      (s.on (F.MAC_STATUS_LINK p) = false → Ev.LINK_N0 + p ∈ (s.linkRaised p speed eee).ev.sticky) := by
  unfold State.linkRaised
  extract_lets up fired
  have ups : ((s.setF (F.MAC_STATUS_LINK p) 1).setF (F.MAC_STATUS_SPEED p) speed).Spares up f :=
    (State.passes_latencyChanged _ hp).stays.sparesNet net (by decide)
  have fires : ((s.setF (F.MAC_STATUS_LINK p) 1).setF (F.MAC_STATUS_SPEED p) speed).Spares fired f :=
    .ite ups (ups.trans ((up.passes_fireLink p).stays.sparesNet net (by decide)))
  have after : ∀ on, fired.Spares (((fired.setEee p on).domsRefresh).refreshTsMiss) f := fun on =>
    (fired.spares_setEee on lpi).trans (((State.passes_domsRefresh _).stays.sparesNet net (by decide)).trans
      ((State.passes_refreshTsMiss _).stays.sparesNet net (by decide)))
  refine ⟨fires.trans (after _), fun down => (after _).sticky _ ?_⟩
  unfold fired
  rw [if_neg (by simp [down])]
  exact State.fire_sticky _ _ _ _

theorem State.target_linkRaised (hp : p < 4) : ((s.linkRaised p speed eee).port p).target = (s.port p).target := by
  unfold State.linkRaised
  extract_lets up fired
  have ups : up.port p = s.port p := (State.passes_latencyChanged _ hp).port p
  have fires : fired.port p = s.port p := by
    unfold fired
    split
    · exact ups
    · exact ((up.passes_fireLink p).port p).trans ups
  rw [(State.passes_refreshTsMiss _).port, (State.passes_domsRefresh _).port, State.port_setEee _ hp, ← fires]

/-! ## Speed steps (R218) -/

/-- What the end of a step leaves and sets. -/
theorem State.spares_stepDone (net : f.inNet) (stepping : f.key ≠ (F.MAC_STATUS_STEPPING p).key)
    (steps : f.key ≠ (F.MAC_STEPS p).key) : s.Spares (s.stepDone p) f := by
  unfold State.stepDone
  extract_lets old new _ stopped fired
  have stops : s.Spares stopped f := State.Spares.setPort ((State.Spares.refl s f).setF 0 stepping) _ _
  exact ((((stops.incSat steps).fire _ _ _).logState _ _ _ _)).trans ((State.passes_txPathUp _ p).stays.sparesNet net (by decide))

theorem State.stepDone_ends (hp : p < 4) : (s.stepDone p).on (F.MAC_STATUS_STEPPING p) = false ∧ ((s.stepDone p).port p).target = none ∧
    Ev.SPEED_STEP ∈ (s.stepDone p).ev.sticky := by
  unfold State.stepDone
  extract_lets old new _ stopped fired
  have after : fired.Spares ((fired.logState orgPower (objId 3 p 1) old new).txPathUp p) (F.MAC_STATUS_STEPPING p) :=
    ((State.Spares.refl fired _).logState _ _ _ _).trans ((State.passes_txPathUp _ p).stays.sparesNet (Fld.inNet_macRow hp (by decide)) (by decide))
  have fires : stopped.Passes fired [] macUnits := ((State.Passes.refl stopped _ _).incMac hp (by decide)).fire _ _ _
  have stops : stopped.Spares fired (F.MAC_STATUS_STEPPING p) :=
    ((State.Spares.refl stopped _).incSat (Fld.key_ne_of_row (by decide))).fire _ _ _
  refine ⟨(stops.trans after).on.trans (State.on_setF_zero _ _), ?_, after.sticky _ (State.fire_sticky _ _ _ _)⟩
  rw [(State.passes_txPathUp _ p).port, ((State.Passes.refl fired [] []).logState _ _ _ _).port, fires.port, State.port_setPort_self]

/-- A step that begins is shown and waits for its speed. -/
theorem State.startStep_begins (hp : p < 2) (target : Nat) : (s.startStep p target).on (F.MAC_STATUS_STEPPING p) = true ∧
    ((s.startStep p target).port p).target = some target := by
  unfold State.startStep
  extract_lets prev _ waiting
  have net : (F.MAC_STATUS_STEPPING p).inNet := Fld.inNet_macRow (by omega) (by decide)
  have downs := State.passes_rxPathDown (waiting.setF (F.MAC_STATUS_STEPPING p) 1) p
  have offers := State.passes_advertise ((waiting.setF (F.MAC_STATUS_STEPPING p) 1).rxPathDown p) p target
  have shown : ∀ u : State, u.Spares (u.refreshUtil (1 - p)) (F.MAC_STATUS_STEPPING p) := fun u =>
    ((State.Spares.refl u _).setF _ (Fld.key_ne_of_row (by decide))).setF _ (Fld.key_ne_of_row (by decide))
  refine ⟨?_, ?_⟩
  · rw [(shown _).on, (offers.stays.sparesNet net (by decide)).on, (downs.stays.sparesNet net (by decide)).on]
    exact State.on_setF_one _ _ rfl
  · rw [(State.passes_refreshUtil _ (by omega)).port, offers.port, downs.port]
    exact congrArg PortState.target (s.port_setPort_self _)

end
end Sys2Proof.Machine
end

section
/-! Links and speed steps (R206, R207, R216 to R218): what each happening of a powered port does. -/

namespace Sys2Proof.Machine

section
variable (s : State) {p speed : Nat} {eee : Bool} {f : Fld}

/-- What a link that comes up has written of its port but for low-power idle and the step. -/
theorem linkUp_shows (hp : p < 4) (enabled : s.on (F.MAC_CTL_EN p) = true) (allowed : s.speedAllowed p speed = true) (net : f.inNet)
    (lpi : f.key ≠ (F.MAC_STATUS_LPI_TX p).key) (stepping : f.key ≠ (F.MAC_STATUS_STEPPING p).key) (steps : f.key ≠ (F.MAC_STEPS p).key) :
    ((s.setF (F.MAC_STATUS_LINK p) 1).setF (F.MAC_STATUS_SPEED p) speed).Spares (linkUp p speed eee false s) f ∧
      (s.on (F.MAC_STATUS_LINK p) = false → Ev.LINK_N0 + p ∈ (linkUp p speed eee false s).ev.sticky) := by
  obtain ⟨kept, event⟩ := s.spares_linkRaised (speed := speed) (eee := eee) hp net lpi
  rw [linkUp_of_allowed s enabled allowed]
  generalize s.linkRaised p speed eee = raised at kept event ⊢
  have stepped : raised.Spares (if (raised.port p).target == some speed then raised.stepDone p else raised) f :=
    .ite (State.spares_stepDone _ net stepping steps) (.refl _ f)
  have after := State.Spares.ite (c := raised.on (F.MAC_STATUS_STEPPING p) = true) stepped
    ((State.passes_txPathUp _ p).stays.sparesNet net (by decide))
  exact ⟨kept.trans after, fun down => after.sticky _ (event down)⟩

/-- A link that is up shows LINK and its speed. -/
theorem linkUp_status (hp : p < 4) (enabled : s.on (F.MAC_CTL_EN p) = true) (allowed : s.speedAllowed p speed = true) (code : speed < 4) :
    (linkUp p speed eee false s).on (F.MAC_STATUS_LINK p) = true ∧ (linkUp p speed eee false s).getF (F.MAC_STATUS_SPEED p) = speed := by
  have linkNet : (F.MAC_STATUS_LINK p).inNet := Fld.inNet_macRow hp (by decide)
  have speedNet : (F.MAC_STATUS_SPEED p).inNet := Fld.inNet_macRow hp (by decide)
  obtain ⟨link, _⟩ := linkUp_shows s (eee := eee) hp enabled allowed linkNet (Fld.key_ne_of_row (by decide)) (Fld.key_ne_of_row (by decide))
    (Fld.key_ne_of_row (by decide))
  obtain ⟨shown, _⟩ := linkUp_shows s (eee := eee) hp enabled allowed speedNet (Fld.key_ne_of_row (by decide)) (Fld.key_ne_of_row (by decide))
    (Fld.key_ne_of_row (by decide))
  have written : (s.setF (F.MAC_STATUS_LINK p) 1).Spares ((s.setF (F.MAC_STATUS_LINK p) 1).setF (F.MAC_STATUS_SPEED p) speed)
      (F.MAC_STATUS_LINK p) := (State.Spares.refl _ _).setF _ (Fld.key_ne_of_row (by decide))
  refine ⟨(written.trans link).on.trans (State.on_setF_one _ _ rfl), shown.getF.trans ?_⟩
  rw [State.getF_setF_self]
  exact Nat.mod_eq_of_lt code

/-- The speeds a port may come up at are codes of two bits. -/
theorem State.speedAllowed_lt (h : s.speedAllowed p speed = true) : speed < 4 := by
  unfold State.speedAllowed at h
  split at h
  · have := beq_iff_eq.1 h
    omega
  · split at h
    · have := beq_iff_eq.1 h
      omega
    · simp only [Bool.and_eq_true, decide_eq_true_eq] at h
      omega

/-- A link that comes up at the speed a step waits for ends the step. -/
theorem linkUp_ends_step (hp : p < 4) (enabled : s.on (F.MAC_CTL_EN p) = true) (allowed : s.speedAllowed p speed = true)
    (stepping : s.on (F.MAC_STATUS_STEPPING p) = true) (target : (s.port p).target = some speed) :
    (linkUp p speed eee false s).on (F.MAC_STATUS_STEPPING p) = false ∧ ((linkUp p speed eee false s).port p).target = none ∧
      Ev.SPEED_STEP ∈ (linkUp p speed eee false s).ev.sticky := by
  have net : (F.MAC_STATUS_STEPPING p).inNet := Fld.inNet_macRow hp (by decide)
  have kept := (s.spares_linkRaised (speed := speed) (eee := eee) hp net (Fld.key_ne_of_row (by decide))).1
  have written : s.Spares ((s.setF (F.MAC_STATUS_LINK p) 1).setF (F.MAC_STATUS_SPEED p) speed) (F.MAC_STATUS_STEPPING p) :=
    ((State.Spares.refl s _).setF _ (Fld.key_ne_of_row (by decide))).setF _ (Fld.key_ne_of_row (by decide))
  rw [linkUp_of_allowed s enabled allowed, if_pos ((written.trans kept).on.trans stepping),
    if_pos (by simp [s.target_linkRaised hp, target])]
  exact State.stepDone_ends _ hp

/-! ## Links that go down -/

/-- What a link that goes down flushes and clears before its event (R207). -/
def State.linkDropped (s : State) (p : Nat) : State := ((s.flushQueues p).endPauses p).setF (F.MAC_STATUS_LINK p) 0

theorem State.linkLost_of_up (up : s.on (F.MAC_STATUS_LINK p) = true) :
    s.linkLost p = (((((s.linkDropped p).fireLink p).setEee p false).domsRefresh).refreshTsMiss).rxPathDown p := by
  unfold State.linkLost
  rw [if_neg (by simp [up])]
  rfl

/-- The event of a link and what follows it leave the port's registers but for low-power idle. -/
theorem State.spares_linkEvent (net : f.inNet) (lpi : f.key ≠ (F.MAC_STATUS_LPI_TX p).key) :
    s.Spares (((((s.fireLink p).setEee p false).domsRefresh).refreshTsMiss).rxPathDown p) f ∧
      Ev.LINK_N0 + p ∈ (((((s.fireLink p).setEee p false).domsRefresh).refreshTsMiss).rxPathDown p).ev.sticky := by
  have after : (s.fireLink p).Spares (((((s.fireLink p).setEee p false).domsRefresh).refreshTsMiss).rxPathDown p) f :=
    (((State.spares_setEee _ false lpi).trans ((State.passes_domsRefresh _).stays.sparesNet net (by decide))).trans
      ((State.passes_refreshTsMiss _).stays.sparesNet net (by decide))).trans ((State.passes_rxPathDown _ p).stays.sparesNet net (by decide))
  exact ⟨((s.passes_fireLink p).stays.sparesNet net (by decide)).trans after, after.sticky _ (State.fire_sticky _ _ _ _)⟩

theorem State.port_linkEvent (hp : p < 4) :
    (((((s.fireLink p).setEee p false).domsRefresh).refreshTsMiss).rxPathDown p).port p = { s.port p with eee := false } := by
  rw [(State.passes_rxPathDown _ p).port, (State.passes_refreshTsMiss _).port, (State.passes_domsRefresh _).port, State.port_setEee _ hp,
    (s.passes_fireLink p).port]

theorem State.linkDropped_shows : (s.linkDropped p).on (F.MAC_STATUS_LINK p) = false ∧
    (s.linkDropped p).on (F.MAC_STATUS_PAUSED_CTRL p) = false ∧ (s.linkDropped p).on (F.MAC_STATUS_PAUSED_BE p) = false := by
  unfold State.linkDropped State.endPauses
  generalize (s.flushQueues p).setPort p _ = u
  have ctrl : (u.setF (F.MAC_STATUS_PAUSED_CTRL p) 0).Spares (((u.setF (F.MAC_STATUS_PAUSED_CTRL p) 0).setF (F.MAC_STATUS_PAUSED_BE p) 0).setF
      (F.MAC_STATUS_LINK p) 0) (F.MAC_STATUS_PAUSED_CTRL p) :=
    ((State.Spares.refl _ _).setF 0 (Fld.key_ne_of_row (by decide))).setF 0 (Fld.key_ne_of_row (by decide))
  refine ⟨State.on_setF_zero _ _, ctrl.on.trans (State.on_setF_zero _ _), ?_⟩
  exact ((State.Spares.refl _ _).setF 0 (Fld.key_ne_of_row (by decide))).on.trans (State.on_setF_zero _ _)

theorem State.port_endPauses (p : Nat) : (s.endPauses p).port p = { s.port p with pauseC := 0, pauseB := 0 } := s.port_setPort_self _

theorem PortState.queue_unpaused (x : PortState) (q : Nat) : PortState.queue { x with pauseC := 0, pauseB := 0 } q = x.queue q := rfl

theorem State.queue_linkDropped (p q : Nat) : ((s.linkDropped p).port p).queue q = [] := by
  rw [State.linkDropped, State.port_setF, State.port_endPauses, PortState.queue_unpaused]
  exact s.queue_flushQueues p q

theorem State.linkLost_drops (hp : p < 4) (up : s.on (F.MAC_STATUS_LINK p) = true) :
    (s.linkLost p).on (F.MAC_STATUS_LINK p) = false ∧ Ev.LINK_N0 + p ∈ (s.linkLost p).ev.sticky ∧
      (∀ q < 4, ((s.linkLost p).port p).queue q = []) ∧ (s.linkLost p).on (F.MAC_STATUS_PAUSED_CTRL p) = false ∧
      (s.linkLost p).on (F.MAC_STATUS_PAUSED_BE p) = false := by
  have linkNet : (F.MAC_STATUS_LINK p).inNet := Fld.inNet_macRow hp (by decide)
  have ctrlNet : (F.MAC_STATUS_PAUSED_CTRL p).inNet := Fld.inNet_macRow hp (by decide)
  have beNet : (F.MAC_STATUS_PAUSED_BE p).inNet := Fld.inNet_macRow hp (by decide)
  obtain ⟨link, ctrl, be⟩ := s.linkDropped_shows (p := p)
  have queues := s.queue_linkDropped p
  rw [s.linkLost_of_up up]
  generalize s.linkDropped p = u at *
  obtain ⟨linkKept, event⟩ := u.spares_linkEvent linkNet (Fld.key_ne_of_row (by decide))
  refine ⟨linkKept.on.trans link, event, fun q _ => ?_, (u.spares_linkEvent ctrlNet (Fld.key_ne_of_row (by decide))).1.on.trans ctrl,
    (u.spares_linkEvent beNet (Fld.key_ne_of_row (by decide))).1.on.trans be⟩
  rw [u.port_linkEvent hp]
  exact queues q

/-! ## A step that times out -/

/-- A step to speed `k` of a port fails (R218). -/
def State.stepFailed (s : State) (p k : Nat) : State :=
  let still := (s.advertise p 4).setF (F.MAC_STATUS_STEPPING p) 0
  ((still.setPort p { still.port p with target := none, barred := 3600 }).incSat (F.MAC_STEP_FAIL p)).fire Ev.STEP_TIMEOUT (portObj p) (p + 16 * k)

theorem stepTimeout_of_waiting {k : Nat} (stepping : s.on (F.MAC_STATUS_STEPPING p) = true) (target : (s.port p).target = some k) :
    stepTimeout p s =
      if (s.stepFailed p k).on (F.MAC_STATUS_LINK p) then (s.stepFailed p k).txPathUp p else s.stepFailed p k := by
  unfold stepTimeout
  rw [target]
  exact if_neg (by simp [stepping])

theorem State.stepFailed_ends (hp : p < 4) (k : Nat) : (s.stepFailed p k).on (F.MAC_STATUS_STEPPING p) = false ∧
    ((s.stepFailed p k).port p).target = none ∧ ((s.stepFailed p k).port p).barred = 3600 ∧
    (s.stepFailed p k).getF (F.MAC_STEP_FAIL p) = satNat 16 (s.getF (F.MAC_STEP_FAIL p) + 1) ∧
    Ev.STEP_TIMEOUT ∈ (s.stepFailed p k).ev.sticky := by
  have countNet : (F.MAC_STEP_FAIL p).inNet := Fld.inNet_macRow hp (by decide)
  unfold State.stepFailed
  extract_lets still
  have before : s.Spares still (F.MAC_STEP_FAIL p) :=
    ((s.passes_advertise p 4).stays.sparesNet countNet (by decide)).setF 0 (Fld.key_ne_of_row (by decide))
  have off : still.on (F.MAC_STATUS_STEPPING p) = false := State.on_setF_zero _ _
  clear_value still
  have fails : ∀ u : State, u.Passes ((u.incSat (F.MAC_STEP_FAIL p)).fire Ev.STEP_TIMEOUT (portObj p) (p + 16 * k)) [] macUnits := fun u =>
    ((State.Passes.refl u _ _).incMac hp (by decide)).fire _ _ _
  have kept : ∀ u : State, u.Spares ((u.incSat (F.MAC_STEP_FAIL p)).fire Ev.STEP_TIMEOUT (portObj p) (p + 16 * k)) (F.MAC_STATUS_STEPPING p) :=
    fun u => ((State.Spares.refl u _).incSat (Fld.key_ne_of_row (by decide))).fire _ _ _
  obtain ⟨counted, event⟩ := (still.setPort p { still.port p with target := none, barred := 3600 }).counts_fire (F.MAC_STEP_FAIL p)
    Ev.STEP_TIMEOUT (portObj p) (p + 16 * k)
  refine ⟨(kept _).on.trans off, ?_, ?_, counted.trans ?_, event⟩
  · rw [(fails _).port, State.port_setPort_self]
  · rw [(fails _).port, State.port_setPort_self]
  · rw [← before.getF]
    rfl

end

/-! ## The happenings -/

section
variable {s : State} {p : Fin 4} (alive : s.alive = true) (powered : s.unpowered 3 p = false)
include alive powered

theorem linkUp_acts {sp : Fin 4} {eee : Bool} (enabled : s.on (F.MAC_CTL_EN p) = true) (allowed : s.speedAllowed p sp = true) :
    ∃ t, exec (.linkUp p sp eee false) s = .next t ∧ t.on (F.MAC_STATUS_LINK p) = true ∧ t.getF (F.MAC_STATUS_SPEED p) = sp ∧
      (s.on (F.MAC_STATUS_LINK p) = false → Ev.LINK_N0 + p.val ∈ t.ev.sticky) := by
  obtain ⟨t, e, settled⟩ := happen_whenPort (linkUp p sp eee false) alive powered
  obtain ⟨link, speed⟩ := linkUp_status s.fresh (eee := eee) p.isLt enabled allowed sp.isLt
  have net : (F.MAC_STATUS_LINK p).inNet := Fld.inNet_macRow p.isLt (by decide)
  have event := (linkUp_shows s.fresh (eee := eee) p.isLt enabled allowed net (Fld.key_ne_of_row (by decide))
    (Fld.key_ne_of_row (by decide)) (Fld.key_ne_of_row (by decide))).2
  exact ⟨t, e, (settled.net (Fld.inNet_macRow p.isLt (by decide))).on.trans link,
    (settled.net (Fld.inNet_macRow p.isLt (by decide))).getF.trans speed, fun down => settled.sticky _ (event down)⟩

theorem linkUp_refused_acts {sp : Fin 4} {eee ref : Bool} (enabled : s.on (F.MAC_CTL_EN p) = true)
    (bad : ref = true ∨ s.speedAllowed p sp = false) :
    ∃ t, exec (.linkUp p sp eee ref) s = .next t ∧ t.on (F.MAC_STATUS_LINK p) = s.on (F.MAC_STATUS_LINK p) ∧
      t.getF (F.MAC_LINK_REFUSED p) = satNat 16 (s.getF (F.MAC_LINK_REFUSED p) + 1) := by
  obtain ⟨t, e, settled⟩ := happen_whenPort (linkUp p sp eee ref) alive powered
  rw [linkUp_of_refused s.fresh enabled bad] at settled
  have kept : s.fresh.Spares (s.fresh.incSat (F.MAC_LINK_REFUSED p)) (F.MAC_STATUS_LINK p) :=
    (State.Spares.refl _ _).incSat (Fld.key_ne_of_row (by decide))
  exact ⟨t, e, (kept.trans (settled.net (Fld.inNet_macRow p.isLt (by decide)))).on,
    (settled.net (Fld.inNet_macRow p.isLt (by decide))).getF.trans (State.getF_incSat _ _)⟩

theorem linkDown_acts (up : s.on (F.MAC_STATUS_LINK p) = true) :
    ∃ t, exec (.linkDown p) s = .next t ∧ t.on (F.MAC_STATUS_LINK p) = false ∧ Ev.LINK_N0 + p.val ∈ t.ev.sticky ∧
      (∀ q < 4, (t.port p).queue q = []) ∧ t.on (F.MAC_STATUS_PAUSED_CTRL p) = false ∧ t.on (F.MAC_STATUS_PAUSED_BE p) = false := by
  obtain ⟨t, e, settled⟩ := happen_whenPort (linkDown p) alive powered
  obtain ⟨link, event, queues, ctrl, be⟩ := s.fresh.linkLost_drops p.isLt up
  refine ⟨t, e, (settled.net (Fld.inNet_macRow p.isLt (by decide))).on.trans link, settled.sticky _ event, fun q hq => ?_,
    (settled.net (Fld.inNet_macRow p.isLt (by decide))).on.trans ctrl, (settled.net (Fld.inNet_macRow p.isLt (by decide))).on.trans be⟩
  rw [settled.port]
  exact queues q hq

end

section
variable {s : State} {p : Fin 2} {k : Nat} (alive : s.alive = true) (powered : s.unpowered 3 p = false)
include alive powered

theorem stepDownDue_acts (due : s.downDue p = true) (first : s.downDue (1 - p) = false ∨ s.firstPort = p.val) :
    ∃ t, exec (.stepDownDue p) s = .next t ∧ t.on (F.MAC_STATUS_STEPPING p) = true ∧
      (t.port p).target = some (s.getF (F.MAC_STATUS_SPEED p) + 1) := by
  obtain ⟨t, e, settled⟩ := happen_whenPort (stepDownDue p) alive powered
  have steps : stepDownDue p s.fresh = s.fresh.startStep p (s.getF (F.MAC_STATUS_SPEED p) + 1) :=
    if_neg (by
      have due' : s.fresh.downDue p = true := due
      have first' : s.fresh.downDue (1 - p) = false ∨ s.fresh.firstPort = p.val := first
      rcases first' with h | h <;> simp [due', h])
  rw [steps] at settled
  obtain ⟨stepping, target⟩ := s.fresh.startStep_begins p.isLt (s.getF (F.MAC_STATUS_SPEED p) + 1)
  exact ⟨t, e, (settled.net (Fld.inNet_macRow (by omega) (by decide))).on.trans stepping, (congrArg _ (settled.port p)).trans target⟩

theorem secondPortStep_acts (still : s.on (F.MAC_STATUS_STEPPING p) = false) (other : s.on (F.MAC_STATUS_STEPPING (1 - p)) = false)
    (waiting : (s.port p).target = some k) :
    ∃ t, exec (.secondPortStep p) s = .next t ∧ t.on (F.MAC_STATUS_STEPPING p) = true ∧ (t.port p).target = some k := by
  obtain ⟨t, e, settled⟩ := happen_whenPort (secondPortStep p) alive powered
  have steps : secondPortStep p s.fresh = s.fresh.startStep p k := by
    unfold secondPortStep
    rw [if_neg (by simp [show s.fresh.on (F.MAC_STATUS_STEPPING p) = false from still,
      show s.fresh.on (F.MAC_STATUS_STEPPING (1 - p)) = false from other]), show (s.fresh.port p).target = some k from waiting]
  rw [steps] at settled
  obtain ⟨stepping, target⟩ := s.fresh.startStep_begins p.isLt k
  exact ⟨t, e, (settled.net (Fld.inNet_macRow (by omega) (by decide))).on.trans stepping, (congrArg _ (settled.port p)).trans target⟩

theorem speedStepDone_acts (stepping : s.on (F.MAC_STATUS_STEPPING p) = true) (enabled : s.on (F.MAC_CTL_EN p) = true)
    (waiting : (s.port p).target = some k) (allowed : s.speedAllowed p k = true) :
    ∃ t, exec (.speedStepDone p) s = .next t ∧ t.on (F.MAC_STATUS_STEPPING p) = false ∧ t.on (F.MAC_STATUS_LINK p) = true ∧
      t.getF (F.MAC_STATUS_SPEED p) = k ∧ (t.port p).target = none ∧ Ev.SPEED_STEP ∈ t.ev.sticky := by
  obtain ⟨t, e, settled⟩ := happen_whenPort (speedStepDone p) alive powered
  have four : p.val < 4 := by omega
  have done : speedStepDone p s.fresh = linkUp p k false false s.fresh := by
    unfold speedStepDone
    rw [show (s.fresh.port p).target = some k from waiting]
    exact if_neg (by simp [show s.fresh.on (F.MAC_STATUS_STEPPING p) = true from stepping])
  rw [done] at settled
  obtain ⟨link, speed⟩ := linkUp_status s.fresh (eee := false) four enabled allowed (s.speedAllowed_lt allowed)
  obtain ⟨ended, target, event⟩ := linkUp_ends_step s.fresh (eee := false) four enabled allowed stepping waiting
  exact ⟨t, e, (settled.net (Fld.inNet_macRow four (by decide))).on.trans ended, (settled.net (Fld.inNet_macRow four (by decide))).on.trans link,
    (settled.net (Fld.inNet_macRow four (by decide))).getF.trans speed, (congrArg _ (settled.port p)).trans target, settled.sticky _ event⟩

theorem stepTimeout_acts (stepping : s.on (F.MAC_STATUS_STEPPING p) = true) (waiting : (s.port p).target.isSome = true) :
    ∃ t, exec (.stepTimeout p) s = .next t ∧ t.on (F.MAC_STATUS_STEPPING p) = false ∧ (t.port p).target = none ∧
      (t.port p).barred = 3600 ∧ t.getF (F.MAC_STEP_FAIL p) = satNat 16 (s.getF (F.MAC_STEP_FAIL p) + 1) ∧
      Ev.STEP_TIMEOUT ∈ t.ev.sticky := by
  obtain ⟨k, target⟩ := Option.isSome_iff_exists.1 waiting
  obtain ⟨t, e, settled⟩ := happen_whenPort (stepTimeout p) alive powered
  have four : p.val < 4 := by omega
  rw [stepTimeout_of_waiting s.fresh stepping target] at settled
  obtain ⟨ended, none, barred, count, event⟩ := s.fresh.stepFailed_ends four k
  generalize s.fresh.stepFailed p k = u at *
  have up : ∀ {f : Fld}, f.inNet → u.Spares t f := fun net =>
    (State.Spares.ite ((u.passes_txPathUp p).stays.sparesNet net (by decide)) (.refl u _)).trans (settled.net net)
  have port : t.port p = u.port p := (settled.port p).trans (State.Passes.ite (u.passes_txPathUp p) (.refl u _ _) |>.port p)
  have net : (F.MAC_STEP_FAIL p).inNet := Fld.inNet_macRow four (by decide)
  exact ⟨t, e, (up (Fld.inNet_macRow four (by decide))).on.trans ended, (congrArg _ port).trans none, (congrArg _ port).trans barred,
    (up net).getF.trans count, (up net).sticky _ event⟩

end
end Sys2Proof.Machine
end

section
/-! Frames received and pauses (R210, R211, R214): what each happening of a powered port counts and sets. -/

namespace Sys2Proof.Machine

/-! ## The checks of Table 9.3 (R210) -/

/-- A frame that passed the checks of its address and its tag is policed and posted (Table 9.3, steps 6 to 8). -/
def State.policedFrame (s : State) (p : Nat) (f : FrameIn) : State :=
  let k := s.frameClass p f.kind
  let verdict := s.police p k f.len f.at_.units
  if !verdict.1 then (verdict.2.incSat (F.POL_DROPS (p * 4 + k))).fire Ev.POLICER_DROP (portObj p) (p + 4 * k)
  else if !f.room then (verdict.2.incSat (F.MAC_POST_DROP p)).fire Ev.POST_DROP (portObj p) (p + 4 * k)
  else verdict.2.incSat (F.MAC_RX_OK p)

section
variable (s : State) {p : Nat} {f : FrameIn} (enabled : s.on (F.MAC_CTL_EN p) = true) (link : s.on (F.MAC_STATUS_LINK p) = true)
include enabled link

theorem ingressFrame_of_corrupt (bad : f.len < 64 ∨ f.fcsOk = false) :
    ingressFrame p f s = (s.incSat (F.MAC_FCS_ERR p)).fire Ev.FCS_ERR (portObj p) p := by
  unfold ingressFrame
  rw [if_neg (by simp [enabled, link]), if_pos (by simpa using bad)]

section
variable (long : 64 ≤ f.len) (fcs : f.fcsOk = true)
include long fcs

theorem ingressFrame_of_oversize (tooLong : s.getF (F.MAC_MTU p) < f.len ∨ 9216 < f.len) :
    ingressFrame p f s = (s.incSat (F.MAC_OVERSIZE p)).fire Ev.OVERSIZE_DROP (portObj p) (satNat 16 f.len) := by
  unfold ingressFrame
  rw [if_neg (by simp [enabled, link]), if_neg (by simp [fcs]; omega), if_pos (by simpa using tooLong)]

variable (mtu : f.len ≤ s.getF (F.MAC_MTU p)) (jumbo : f.len ≤ 9216)
include mtu jumbo

theorem ingressFrame_of_foreign (own : f.dst ≠ s.portMac p) (reserved : reservedDst f.dst = false)
    (groups : ∀ g ∈ (s.port p).groups, groupMac g ≠ f.dst) : ingressFrame p f s = s.incSat (F.MAC_FILTERED p) := by
  have unknown : (f.dst == s.portMac p || reservedDst f.dst || (s.port p).groups.any (fun g => groupMac g == f.dst)) = false := by
    simp only [Bool.or_eq_false_iff, beq_eq_false_iff_ne, List.any_eq_false, beq_iff_eq]
    exact ⟨⟨own, reserved⟩, groups⟩
  unfold ingressFrame
  rw [if_neg (by simp [enabled, link]), if_neg (by simp [fcs]; omega), if_neg (by simp; omega), if_pos (by rw [unknown]; rfl)]

theorem ingressFrame_of_passed (own : f.dst = s.portMac p) (untagged : f.tag = none) (data : f.kind ≠ .macControl) :
    ingressFrame p f s = s.policedFrame p f := by
  unfold ingressFrame
  rw [if_neg (by simp [enabled, link]), if_neg (by simp [fcs]; omega), if_neg (by simp; omega), if_neg (by simp [own]),
    if_neg (by simp [untagged]), if_neg data]
  rfl

end
end

/-! ## What policing counts (R211) -/

section
variable (s : State) {p : Nat} {f : FrameIn}

theorem policerDrops_net : ∀ i < 16, (F.POL_DROPS i).inNet := by unfold Fld.inNet; decide

theorem State.spares_police {g : Fld} (k len : Nat) (at_ : Int) (net : g.inNet) : s.Spares (s.police p k len at_).2 g :=
  (s.stays_police p k len at_).sparesNet net (by decide)

theorem State.police_fresh (k len : Nat) (at_ : Int) : (s.fresh.police p k len at_).1 = (s.police p k len at_).1 := by
  unfold State.police
  simp only [apply_ite Prod.fst]
  rfl

theorem State.frameClass_fresh (kind : FrameKind) : s.fresh.frameClass p kind = s.frameClass p kind := by
  cases kind <;> rfl

theorem State.policedFrame_receives (hp : p < 4) (passed : (s.police p (s.frameClass p f.kind) f.len f.at_.units).1 = true)
    (room : f.room = true) : (s.policedFrame p f).getF (F.MAC_RX_OK p) = satNat 32 (s.getF (F.MAC_RX_OK p) + 1) := by
  have net : (F.MAC_RX_OK p).inNet := Fld.inNet_macRow hp (by decide)
  unfold State.policedFrame
  dsimp only
  rw [if_neg (by simp [passed]), if_neg (by simp [room]), State.getF_incSat, (s.spares_police _ _ _ net).getF]
  rfl

theorem State.policedFrame_drops (hp : p < 4) (passed : (s.police p (s.frameClass p f.kind) f.len f.at_.units).1 = true)
    (full : f.room = false) : (s.policedFrame p f).getF (F.MAC_POST_DROP p) = satNat 32 (s.getF (F.MAC_POST_DROP p) + 1) ∧
      Ev.POST_DROP ∈ (s.policedFrame p f).ev.sticky := by
  have net : (F.MAC_POST_DROP p).inNet := Fld.inNet_macRow hp (by decide)
  unfold State.policedFrame
  dsimp only
  rw [if_neg (by simp [passed]), if_pos (by simp [full]), ← (s.spares_police (p := p) (s.frameClass p f.kind) f.len f.at_.units net).getF]
  exact State.counts_fire _ _ _ _ _

theorem State.policedFrame_polices (hp : p < 4) (failed : (s.police p (s.frameClass p f.kind) f.len f.at_.units).1 = false) :
    (s.policedFrame p f).getF (F.POL_DROPS (p * 4 + s.frameClass p f.kind)) =
        satNat 32 (s.getF (F.POL_DROPS (p * 4 + s.frameClass p f.kind)) + 1) ∧
      Ev.POLICER_DROP ∈ (s.policedFrame p f).ev.sticky := by
  have net : (F.POL_DROPS (p * 4 + s.frameClass p f.kind)).inNet := policerDrops_net _ (by have := s.frameClass_lt p f.kind; omega)
  unfold State.policedFrame
  dsimp only
  rw [if_pos (by simp [failed]), ← (s.spares_police (p := p) (s.frameClass p f.kind) f.len f.at_.units net).getF]
  exact State.counts_fire _ _ _ _ _

/-! ## PAUSE (R214) -/

/-- One class of a PFC frame. -/
def State.pauseClass (s : State) (p en : Nat) (quanta : List Nat) (q : Nat) : State :=
  if bitOf en (s.pcp p q) then s.pauseQueue p q (quanta.getD (s.pcp p q) 0) else s

/-- A PAUSE or PFC frame is counted. -/
def State.pauseCounted (s : State) (p : Nat) (pfc : Bool) (quanta : List Nat) : State :=
  (s.incSat (F.MAC_PAUSE_RX p)).fire Ev.PAUSE_RX (portObj p)
    (b2n (if pfc then s.on (F.MAC_CTL_PFC_EN p) else s.on (F.MAC_CTL_PAUSE_EN p)) + 2 * b2n pfc + 65536 * satNat 16 (quanta.foldl max 0))

/-- What an honoured PAUSE or PFC frame does to the queues. -/
def State.pauseHonoured (s : State) (p : Nat) (pfc : Bool) (en : Nat) (quanta : List Nat) : State :=
  if pfc then (s.pauseClass p en quanta 2).pauseClass p en quanta 3
  else (s.pauseQueue p 2 (quanta.getD 0 0)).pauseQueue p 3 (quanta.getD 0 0)

variable {pfc : Bool} {en : Nat} {quanta : List Nat}

theorem pauseRx_of_up (enabled : s.on (F.MAC_CTL_EN p) = true) (link : s.on (F.MAC_STATUS_LINK p) = true) :
    pauseRx p pfc en quanta s =
      if !(if pfc then s.on (F.MAC_CTL_PFC_EN p) else s.on (F.MAC_CTL_PAUSE_EN p)) then s.pauseCounted p pfc quanta
      else (s.pauseCounted p pfc quanta).pauseHonoured p pfc en quanta := by
  unfold pauseRx
  rw [if_neg (by simp [enabled, link])]
  rfl

theorem State.passes_pauseCounted (hp : p < 4) : s.Passes (s.pauseCounted p pfc quanta) [] macUnits :=
  ((State.Passes.refl s _ _).incMac hp (by decide)).fire _ _ _

theorem State.l3_pauseCounted (p' : Nat) : (s.pauseCounted p pfc quanta).l3 p' = s.l3 p' := by
  have traces := State.traces_fire (s.incSat (F.MAC_PAUSE_RX p)) Ev.PAUSE_RX (portObj p)
    (b2n (if pfc then s.on (F.MAC_CTL_PFC_EN p) else s.on (F.MAC_CTL_PAUSE_EN p)) + 2 * b2n pfc + 65536 * satNat 16 (quanta.foldl max 0))
  exact congrArg (fun x : StreamState => KV.get [] x.l3 p') traces.str

theorem State.pcp_pauseQueue (q n c : Nat) : (s.pauseQueue p q n).pcp p c = s.pcp p c := by
  unfold State.pauseQueue
  split <;> rfl

theorem State.pcp_pauseClass (q c : Nat) : (s.pauseClass p en quanta q).pcp p c = s.pcp p c := by
  unfold State.pauseClass
  split
  · exact s.pcp_pauseQueue _ _ _
  · rfl

theorem State.port_pauseClass_ctrl : (s.pauseClass p en quanta 2).port p =
    { s.port p with pauseC := if bitOf en (s.pcp p 2) then quanta.getD (s.pcp p 2) 0 else (s.port p).pauseC } := by
  unfold State.pauseClass
  split
  · rw [State.port_pauseQueue, if_pos rfl]
  · rfl

theorem State.port_pauseClass_be : (s.pauseClass p en quanta 3).port p =
    { s.port p with pauseB := if bitOf en (s.pcp p 3) then quanta.getD (s.pcp p 3) 0 else (s.port p).pauseB } := by
  unfold State.pauseClass
  split
  · rw [State.port_pauseQueue, if_neg (by decide)]
  · rfl

/-- The registers that an honoured frame leaves. -/
theorem State.spares_pauseHonoured {g : Fld} (ctrl : g.key ≠ (F.MAC_STATUS_PAUSED_CTRL p).key)
    (be : g.key ≠ (F.MAC_STATUS_PAUSED_BE p).key) : s.Spares (s.pauseHonoured p pfc en quanta) g := by
  have queue : ∀ (u : State) (q n : Nat), u.Spares (u.pauseQueue p q n) g := fun u _ n => u.spares_pauseQueue n ctrl be
  have cls : ∀ (u : State) (q : Nat), u.Spares (u.pauseClass p en quanta q) g := fun u q => .ite (queue u _ _) (.refl u g)
  exact .ite ((cls _ _).trans (cls _ _)) ((queue _ _ _).trans (queue _ _ _))

theorem State.port_pauseHonoured_pfc : (s.pauseHonoured p true en quanta).port p = { s.port p with
    pauseC := if bitOf en (s.pcp p 2) then quanta.getD (s.pcp p 2) 0 else (s.port p).pauseC
    pauseB := if bitOf en (s.pcp p 3) then quanta.getD (s.pcp p 3) 0 else (s.port p).pauseB } := by
  have twice : s.pauseHonoured p true en quanta = (s.pauseClass p en quanta 2).pauseClass p en quanta 3 := if_pos rfl
  rw [twice, State.port_pauseClass_be, State.pcp_pauseClass, State.port_pauseClass_ctrl]

theorem State.port_pauseHonoured : (s.pauseHonoured p false en quanta).port p =
    { s.port p with pauseC := quanta.getD 0 0, pauseB := quanta.getD 0 0 } := by
  have twice : s.pauseHonoured p false en quanta = (s.pauseQueue p 2 (quanta.getD 0 0)).pauseQueue p 3 (quanta.getD 0 0) :=
    if_neg (by decide)
  rw [twice, State.port_pauseQueue, if_neg (by decide), State.port_pauseQueue, if_pos rfl]

theorem State.on_pauseQueue_ctrl (n : Nat) : (s.pauseQueue p 2 n).on (F.MAC_STATUS_PAUSED_CTRL p) = (n != 0) :=
  State.on_setF_b2n _ rfl _

theorem State.on_pauseQueue_be (n : Nat) : (s.pauseQueue p 3 n).on (F.MAC_STATUS_PAUSED_BE p) = (n != 0) :=
  State.on_setF_b2n _ rfl _

theorem State.on_pauseHonoured_ctrl :
    (s.pauseHonoured p false en quanta).on (F.MAC_STATUS_PAUSED_CTRL p) = (quanta.getD 0 0 != 0) := by
  have last : ∀ u : State, u.Spares (u.pauseQueue p 3 (quanta.getD 0 0)) (F.MAC_STATUS_PAUSED_CTRL p) := fun u =>
    (State.Spares.setPort (.refl u _) _ _).setF _ (Fld.key_ne_of_row (by decide))
  exact (last _).on.trans (s.on_pauseQueue_ctrl _)

end

/-! ## The happenings -/

section
variable {s : State} {p : Fin 4} (alive : s.alive = true) (powered : s.unpowered 3 p = false)
include alive powered

theorem ingressFrame_acts (f : FrameIn) (enabled : s.on (F.MAC_CTL_EN p) = true) (link : s.on (F.MAC_STATUS_LINK p) = true) :
    ∃ t, exec (.ingressFrame p f) s = .next t ∧
      ((f.len < 64 ∨ f.fcsOk = false) → t.getF (F.MAC_FCS_ERR p) = satNat 32 (s.getF (F.MAC_FCS_ERR p) + 1) ∧
        Ev.FCS_ERR ∈ t.ev.sticky) ∧
      (64 ≤ f.len → f.fcsOk = true → (s.getF (F.MAC_MTU p) < f.len ∨ 9216 < f.len) →
        t.getF (F.MAC_OVERSIZE p) = satNat 32 (s.getF (F.MAC_OVERSIZE p) + 1) ∧ Ev.OVERSIZE_DROP ∈ t.ev.sticky) ∧
      (64 ≤ f.len → f.fcsOk = true → f.len ≤ s.getF (F.MAC_MTU p) → f.len ≤ 9216 → f.dst ≠ s.portMac p → reservedDst f.dst = false →
        (∀ g ∈ (s.port p).groups, groupMac g ≠ f.dst) → t.getF (F.MAC_FILTERED p) = satNat 32 (s.getF (F.MAC_FILTERED p) + 1)) ∧
      (64 ≤ f.len → f.fcsOk = true → f.len ≤ s.getF (F.MAC_MTU p) → f.len ≤ 9216 → f.dst = s.portMac p → f.tag = none →
        f.kind ≠ .macControl →
        ((s.police p (s.frameClass p f.kind) f.len f.at_.units).1 = true → f.room = true →
          t.getF (F.MAC_RX_OK p) = satNat 32 (s.getF (F.MAC_RX_OK p) + 1)) ∧
        ((s.police p (s.frameClass p f.kind) f.len f.at_.units).1 = true → f.room = false →
          t.getF (F.MAC_POST_DROP p) = satNat 32 (s.getF (F.MAC_POST_DROP p) + 1) ∧ Ev.POST_DROP ∈ t.ev.sticky) ∧
        ((s.police p (s.frameClass p f.kind) f.len f.at_.units).1 = false →
          t.getF (F.POL_DROPS (p * 4 + s.frameClass p f.kind)) =
            satNat 32 (s.getF (F.POL_DROPS (p * 4 + s.frameClass p f.kind)) + 1) ∧ Ev.POLICER_DROP ∈ t.ev.sticky)) := by
  obtain ⟨t, e, settled⟩ := happen_whenPort (ingressFrame p f) alive powered
  have drops : (F.POL_DROPS (p * 4 + s.frameClass p f.kind)).inNet := policerDrops_net _ (by have := s.frameClass_lt p f.kind; omega)
  refine ⟨t, e, fun bad => ?_, fun long fcs tooLong => ?_, fun long fcs mtu jumbo own reserved groups => ?_,
    fun long fcs mtu jumbo own untagged data => ?_⟩
  · rw [ingressFrame_of_corrupt s.fresh enabled link bad] at settled
    obtain ⟨counts, event⟩ := s.fresh.counts_fire (F.MAC_FCS_ERR p) Ev.FCS_ERR (portObj p) p
    exact ⟨(settled.net (Fld.inNet_macRow p.isLt (by decide))).getF.trans counts, settled.sticky _ event⟩
  · rw [ingressFrame_of_oversize s.fresh enabled link long fcs tooLong] at settled
    obtain ⟨counts, event⟩ := s.fresh.counts_fire (F.MAC_OVERSIZE p) Ev.OVERSIZE_DROP (portObj p) (satNat 16 f.len)
    exact ⟨(settled.net (Fld.inNet_macRow p.isLt (by decide))).getF.trans counts, settled.sticky _ event⟩
  · rw [ingressFrame_of_foreign s.fresh enabled link long fcs mtu jumbo own reserved groups] at settled
    exact (settled.net (Fld.inNet_macRow p.isLt (by decide))).getF.trans (State.getF_incSat _ _)
  · rw [ingressFrame_of_passed s.fresh enabled link long fcs mtu jumbo own untagged data] at settled
    have verdict : (s.fresh.police p (s.fresh.frameClass p f.kind) f.len f.at_.units).1 =
        (s.police p (s.frameClass p f.kind) f.len f.at_.units).1 := by rw [State.police_fresh, State.frameClass_fresh]
    refine ⟨fun passed room => ?_, fun passed full => ?_, fun failed => ?_⟩
    · exact (settled.net (Fld.inNet_macRow p.isLt (by decide))).getF.trans (s.fresh.policedFrame_receives p.isLt (verdict.trans passed) room)
    · obtain ⟨counts, event⟩ := s.fresh.policedFrame_drops p.isLt (verdict.trans passed) full
      exact ⟨(settled.net (Fld.inNet_macRow p.isLt (by decide))).getF.trans counts, settled.sticky _ event⟩
    · obtain ⟨counts, event⟩ := s.fresh.policedFrame_polices p.isLt (verdict.trans failed)
      rw [State.frameClass_fresh] at counts
      exact ⟨(settled.net drops).getF.trans counts, settled.sticky _ event⟩

theorem pauseRx_acts (pfc : Bool) (en : Nat) (quanta : List Nat) (enabled : s.on (F.MAC_CTL_EN p) = true)
    (link : s.on (F.MAC_STATUS_LINK p) = true) :
    ∃ t, exec (.pauseFrameRx p pfc en quanta) s = .next t ∧ Ev.PAUSE_RX ∈ t.ev.sticky ∧
      t.getF (F.MAC_PAUSE_RX p) = satNat 16 (s.getF (F.MAC_PAUSE_RX p) + 1) ∧
      (pfc = false → s.on (F.MAC_CTL_PAUSE_EN p) = true →
        (t.port p).pauseC = quanta.getD 0 0 ∧ (t.port p).pauseB = quanta.getD 0 0 ∧
        t.on (F.MAC_STATUS_PAUSED_CTRL p) = (quanta.getD 0 0 != 0)) ∧
      (pfc = true → s.on (F.MAC_CTL_PFC_EN p) = true →
        (t.port p).pauseC = (if bitOf en (s.pcp p 2) then quanta.getD (s.pcp p 2) 0 else (s.port p).pauseC) ∧
        (t.port p).pauseB = (if bitOf en (s.pcp p 3) then quanta.getD (s.pcp p 3) 0 else (s.port p).pauseB)) ∧
      ((if pfc then s.on (F.MAC_CTL_PFC_EN p) else s.on (F.MAC_CTL_PAUSE_EN p)) = false → t.port p = s.port p) := by
  obtain ⟨t, e, settled⟩ := happen_whenPort (pauseRx p pfc en quanta) alive powered
  rw [pauseRx_of_up s.fresh enabled link] at settled
  have count : (F.MAC_PAUSE_RX p).inNet := Fld.inNet_macRow p.isLt (by decide)
  have ctrl : (F.MAC_STATUS_PAUSED_CTRL p).inNet := Fld.inNet_macRow p.isLt (by decide)
  have port : (s.fresh.pauseCounted p pfc quanta).port p = s.port p := (s.fresh.passes_pauseCounted p.isLt).port p
  have pcp : ∀ c, (s.fresh.pauseCounted p pfc quanta).pcp p c = s.pcp p c := fun c => by
    rw [State.pcp, State.l3_pauseCounted]
    rfl
  obtain ⟨counts, event⟩ : (s.fresh.pauseCounted p pfc quanta).getF (F.MAC_PAUSE_RX p) = satNat 16 (s.getF (F.MAC_PAUSE_RX p) + 1) ∧
      Ev.PAUSE_RX ∈ (s.fresh.pauseCounted p pfc quanta).ev.sticky := s.fresh.counts_fire (F.MAC_PAUSE_RX p) _ _ _
  generalize s.fresh.pauseCounted p pfc quanta = u at *
  have kept : u.Spares t (F.MAC_PAUSE_RX p) := (State.Spares.ite (.refl u _)
    (u.spares_pauseHonoured (Fld.key_ne_of_row (by decide)) (Fld.key_ne_of_row (by decide)))).trans (settled.net count)
  refine ⟨t, e, kept.sticky _ event, kept.getF.trans counts, fun plain hon => ?_, fun prio hon => ?_, fun off => ?_⟩
  · subst plain
    rw [if_neg (by simp [show s.fresh.on (F.MAC_CTL_PAUSE_EN p) = true from hon])] at settled
    rw [settled.port, u.port_pauseHonoured]
    exact ⟨rfl, rfl, (settled.net ctrl).on.trans u.on_pauseHonoured_ctrl⟩
  · subst prio
    rw [if_neg (by simp [show s.fresh.on (F.MAC_CTL_PFC_EN p) = true from hon])] at settled
    rw [settled.port, u.port_pauseHonoured_pfc, pcp, pcp, port]
    exact ⟨rfl, rfl⟩
  · have ignored : (if pfc = true then s.fresh.on (F.MAC_CTL_PFC_EN p) else s.fresh.on (F.MAC_CTL_PAUSE_EN p)) = false := off
    rw [if_pos (by simp [ignored])] at settled
    rw [settled.port, port]

theorem pauseExpiry_acts (q : Fin 4) :
    ∃ t, exec (.pauseExpiry p q) s = .next t ∧
      (q = 2 → (t.port p).pauseC = 0 ∧ t.on (F.MAC_STATUS_PAUSED_CTRL p) = false) ∧
      (q = 3 → (t.port p).pauseB = 0 ∧ t.on (F.MAC_STATUS_PAUSED_BE p) = false) := by
  obtain ⟨t, e, settled⟩ := happen_whenPort (pauseExpiry p q) alive powered
  refine ⟨t, e, fun ctrl => ?_, fun be => ?_⟩
  · subst ctrl
    have ended : State.Settled (s.fresh.pauseQueue p 2 0) t := settled
    rw [ended.port, State.port_pauseQueue]
    exact ⟨rfl, (ended.net (Fld.inNet_macRow p.isLt (by decide))).on.trans (s.fresh.on_pauseQueue_ctrl 0)⟩
  · subst be
    have ended : State.Settled (s.fresh.pauseQueue p 3 0) t := settled
    rw [ended.port, State.port_pauseQueue]
    exact ⟨rfl, (ended.net (Fld.inNet_macRow p.isLt (by decide))).on.trans (s.fresh.on_pauseQueue_be 0)⟩

end
end Sys2Proof.Machine
end

section
/-! Frames sent, host rings, utilisation and low-power idle (R212, R215, R216, R220, R222, R223). -/

namespace Sys2Proof.Machine

/-! ## The next frame of a port (R212) -/

section
variable (s : State) {p q : Nat}

/-- The frame before has ended. -/
def State.frameEnded (s : State) (p : Nat) : State :=
  match (s.port p).dma with
  | some _ => (s.incSat (F.MAC_TX_OK p)).setPort p { s.port p with dma := none }
  | none => s

/-- A frame leaves its queue. -/
def State.frameSent (s : State) (p q : Nat) (f : QFrame) (l : List QFrame) : State :=
  ((s.setPort p ((s.port p).setQueue q l)).refreshQueueHigh p).emit (.frame p q f.body)

/-- A media frame past its limit is noted (R267). -/
def State.lateJudged (s : State) (p : Nat) (f : QFrame) (at_ : Tai) : State :=
  match f.body, f.limit with
  | .media e _, some lim =>
    if s.planeOut p at_ > lim then
      let old := (KV.find s.str.tx e).isNone
      let x := s.getTx old e
      let s := if (KV.find s.str.txOld e).isSome || !old then s.putTx old e { x with late := inc32 x.late } else s
      s.fire Ev.TX_LATE (txObj e) (e + 1024 * p)
    else s
  | _, _ => s

/-- What remains of a frame that started: its stamp, and its count or its end to come. -/
def State.frameStarted (s : State) (p : Nat) (f : QFrame) (at_ : Tai) : State :=
  let stamped := (s.lateJudged p f at_).stampFrame p f.ts false at_
  if f.dma then stamped.setPort p { stamped.port p with dma := some f } else stamped.incSat (F.MAC_TX_OK p)

/-- Whether the first frame of a queue fits before the timed frames. -/
def State.mayStart (s : State) (p : Nat) (at_ : Int) (q : Nat) : Bool :=
  match ((s.port p).queue q).head? with
  | some f => s.timedWindow p f.len at_
  | none => false

theorem State.timedWindow_congr {t : State} (stamps : t.stamps = s.stamps)
    (speed : t.getF (F.MAC_STATUS_SPEED p) = s.getF (F.MAC_STATUS_SPEED p)) (len : Nat) (at_ : Int) :
    t.timedWindow p len at_ = s.timedWindow p len at_ := by
  have queue : t.timedQ p = s.timedQ p := by rw [State.timedQ, stamps, State.timedQ]
  have wire : t.wireTime p = s.wireTime p := funext fun n => by rw [State.wireTime, speed, State.wireTime]
  rw [State.timedWindow, queue, wire, State.timedWindow]

theorem State.port_frameEnded : (s.frameEnded p).port p = { s.port p with dma := none } := by
  unfold State.frameEnded
  split
  · exact State.port_setPort_self _ _
  next none => rw [← none]

theorem State.mayStart_frameEnded (at_ : Int) (q : Nat) : (s.frameEnded p).mayStart p at_ q = s.mayStart p at_ q := by
  have stamps : (s.frameEnded p).stamps = s.stamps := by
    unfold State.frameEnded
    split <;> rfl
  have speed : s.Spares (s.frameEnded p) (F.MAC_STATUS_SPEED p) := by
    unfold State.frameEnded
    split
    · exact ((State.Spares.refl s _).incSat (Fld.key_ne_of_row (by decide))).setPort _ _
    · exact .refl s _
  unfold State.mayStart
  rw [State.port_frameEnded]
  exact congrArg (fun w : Nat → Bool => match ((s.port p).queue q).head? with | some f => w f.len | none => false)
    (funext fun len => s.timedWindow_congr stamps speed.getF len at_)

theorem State.openQueues_frameEnded : (s.frameEnded p).openQueues p = s.openQueues p := by
  unfold State.openQueues
  rw [State.port_frameEnded]

variable {f : QFrame} {l : List QFrame} {at_ : Tai}

theorem egressStart_of_open (enabled : s.on (F.MAC_CTL_EN p) = true) (link : s.on (F.MAC_STATUS_LINK p) = true)
    (awake : s.on (F.MAC_STATUS_LPI_TX p) = false) (first : (s.openQueues p).find? (s.mayStart p at_.units) = some q)
    (queue : (s.port p).queue q = f :: l) :
    egressStart p at_ s = ((s.frameEnded p).frameSent p q f l).frameStarted p f at_ := by
  have found : ((s.frameEnded p).openQueues p).find? ((s.frameEnded p).mayStart p at_.units) = some q := by
    rw [State.openQueues_frameEnded, show (s.frameEnded p).mayStart p at_.units = s.mayStart p at_.units from
      funext (s.mayStart_frameEnded at_.units)]
    exact first
  have head : ((s.frameEnded p).port p).queue q = f :: l := by
    rw [State.port_frameEnded]
    exact queue
  have body : egressStart p at_ s =
      match ((s.frameEnded p).openQueues p).find? ((s.frameEnded p).mayStart p at_.units) with
      | none => s.frameEnded p
      | some q => match ((s.frameEnded p).port p).queue q with
        | [] => s.frameEnded p
        | f :: l => ((s.frameEnded p).frameSent p q f l).frameStarted p f at_ := if_neg (by simp [enabled, link, awake])
  rw [body, found]
  dsimp only
  rw [head]

theorem State.port_frameSent : (s.frameSent p q f l).port p = (s.port p).setQueue q l :=
  (((State.passes_refreshQueueHigh _ p).emit _).port p).trans (State.port_setPort_self _ _)

theorem State.out_frameSent : Emit.frame p q f.body ∈ (s.frameSent p q f l).out := List.mem_append_right _ List.mem_cons_self

/-- Judging a frame late leaves the ports and keeps what was sent. -/
theorem State.lateJudged_keeps : s.Passes (s.lateJudged p f at_) [.streams] [] ∧ s.out <+: (s.lateJudged p f at_).out := by
  have same := State.Passes.refl s [.streams] []
  unfold State.lateJudged
  split
  next e _ lim _ _ =>
    split
    · extract_lets old x noted
      have out : noted.out = s.out := by
        unfold noted State.putTx
        repeat' split
        all_goals rfl
      have notes : s.Passes noted [.streams] [] :=
        .ite (.ite (same.setStr _ (by decide) (by rfl)) (same.setStr _ (by decide) (by rfl))) same
      exact ⟨notes.fire _ _ _, out ▸ (noted.traces_fire _ _ _).out⟩
    · exact ⟨same, List.prefix_rfl⟩
  · exact ⟨same, List.prefix_rfl⟩

theorem State.out_stampFrame (ts : Option (Nat × Nat × Nat)) (late : Bool) : s.out <+: (s.stampFrame p ts late at_).out := by
  unfold State.stampFrame
  split
  · exact List.prefix_rfl
  · exact (s.pushTs_keeps p _).2

/-- A frame that started leaves its port's queues and what was sent. -/
theorem State.frameStarted_keeps (hp : p < 4) (q' : Nat) :
    ((s.frameStarted p f at_).port p).queue q' = ((s.port p).queue q') ∧ s.out <+: (s.frameStarted p f at_).out := by
  obtain ⟨judged, sent⟩ := s.lateJudged_keeps (p := p) (f := f) (at_ := at_)
  have stamped := (s.lateJudged p f at_).passes_stampFrame hp f.ts false at_
  have port : ((s.lateJudged p f at_).stampFrame p f.ts false at_).port p = s.port p := (stamped.port p).trans (judged.port p)
  have out := sent.trans ((s.lateJudged p f at_).out_stampFrame (p := p) (at_ := at_) f.ts false)
  unfold State.frameStarted
  generalize (s.lateJudged p f at_).stampFrame p f.ts false at_ = u at port out
  dsimp only
  split
  · rw [State.port_setPort_self, port]
    exact ⟨rfl, out⟩
  · rw [State.incSat, State.addSat, State.port_setF, port]
    exact ⟨rfl, out⟩

theorem egressStart_sends (hp : p < 4) (enabled : s.on (F.MAC_CTL_EN p) = true) (link : s.on (F.MAC_STATUS_LINK p) = true)
    (awake : s.on (F.MAC_STATUS_LPI_TX p) = false) (first : (s.openQueues p).find? (s.mayStart p at_.units) = some q)
    (queue : (s.port p).queue q = f :: l) :
    ((egressStart p at_ s).port p).queue q = l ∧ Emit.frame p q f.body ∈ (egressStart p at_ s).out ∧
      (∀ q' < 4, q' ≠ q → ((egressStart p at_ s).port p).queue q' = (s.port p).queue q') := by
  have hq : q < 4 := s.openQueues_lt (List.contains_iff_mem.2 (List.mem_of_find?_eq_some first))
  rw [egressStart_of_open s enabled link awake first queue]
  have kept := fun q' => ((s.frameEnded p).frameSent p q f l).frameStarted_keeps (f := f) (at_ := at_) hp q'
  refine ⟨?_, (kept q).2.subset (State.out_frameSent _), fun q' hq' other => ?_⟩
  · rw [(kept q).1, State.port_frameSent, PortState.queue_setQueue_self _ _ hq]
  · rw [(kept q').1, State.port_frameSent, PortState.queue_setQueue_ne _ _ hq hq' other, State.port_frameEnded]
    rfl

/-! ## Underruns (R215) -/

theorem macUnderrun_ends (hp : p < 4) (busy : (s.port p).dma.isSome = true) :
    ((macUnderrun p s).port p).dma = none ∧ Ev.MAC_UNDERRUN ∈ (macUnderrun p s).ev.sticky ∧
      (macUnderrun p s).getF (F.MAC_TX_START p) = min 9216 (s.getF (F.MAC_TX_START p) * 2) ∧
      (macUnderrun p s).getF (F.MAC_UNDERRUN p) = satNat 16 (s.getF (F.MAC_UNDERRUN p) + 1) := by
  have startNet : (F.MAC_TX_START p).inNet := Fld.inNet_macRow hp (by decide)
  have countNet : (F.MAC_UNDERRUN p).inNet := Fld.inNet_macRow hp (by decide)
  obtain ⟨x, dma⟩ := Option.isSome_iff_exists.1 busy
  unfold macUnderrun
  rw [dma]
  extract_lets _ counted old new doubled
  have counts : s.Spares counted (F.MAC_TX_START p) := (State.Spares.setPort (.refl s _) _ _).incSat (Fld.key_ne_of_row (by decide))
  have count : counted.getF (F.MAC_UNDERRUN p) = satNat 16 (s.getF (F.MAC_UNDERRUN p) + 1) := State.getF_incSat _ _
  have doubles : counted.Spares doubled (F.MAC_UNDERRUN p) := ((State.Spares.refl _ _).setF _ (Fld.key_ne_of_row (by decide))).fire _ _ _
  have logged := (State.Stays.refl doubled [] []).logReg { code := orgPower } (F.MAC_TX_START p).addr old new
  have passed : (doubled.logReg { code := orgPower } (F.MAC_TX_START p).addr old new).port p = counted.port p := by
    rw [State.port_logReg]
    exact ((State.Passes.refl (counted.setF (F.MAC_TX_START p) new) [] []).fire _ _ _).port p
  refine ⟨?_, logged.sticky _ (State.fire_sticky _ _ _ _), ?_, ?_⟩
  · rw [passed]
    exact congrArg PortState.dma (State.port_setPort_self _ _)
  · rw [(logged.sparesNet startNet (by decide)).getF, (State.traces_fire _ _ _ _).getF, State.getF_setF_self]
    unfold new old
    rw [counts.getF]
    have width : (F.MAC_TX_START p).width = 14 := rfl
    rw [width]
    exact Nat.mod_eq_of_lt (by omega)
  · rw [(logged.sparesNet countNet (by decide)).getF, doubles.getF, count]

end
end Sys2Proof.Machine
end

section
/-! Host rings, utilisation and low-power idle (R216, R220, R222, R223), and the happenings of ports together. -/

namespace Sys2Proof.Machine

/-! ## Host frame rings (R222, R223) -/

/-- A ring's configuration as its descriptors use it. -/
def ringFlds (p : Nat) : List Fld :=
  [F.MAC_TXR_CFG_SIZE p, F.MAC_TXR_BASE p 0, F.MAC_TXR_BASE p 1, F.MAC_TXR_BASE p 2, F.MAC_TXR_BASE p 3]

theorem ringFlds_apart : ∀ p < 4, ∀ f ∈ ringFlds p, (addrUnit (f.key / 8)).1 = 3 ∧ f.key ≠ (F.MAC_STATUS_LPI_TX p).key ∧
    ∀ q < 4, f.key ≠ (F.MAC_EGRESS_DROP p q).key := by decide

section
variable (s : State) {p : Nat} {f : Fld}

theorem State.spares_judgeDescriptor (hp : p < 4) (hf : f ∈ ringFlds p) (d frame : List Byte) : s.Spares (s.judgeDescriptor p d frame).2 f := by
  obtain ⟨net, lpi, drop⟩ := ringFlds_apart p hp f hf
  have queue : leAt d 10 2 % 4 < 4 := Nat.mod_lt _ (by decide)
  have same := State.Spares.refl s f
  have timed : ∀ l, s.Spares (s.setTimed p l) f := fun l => (s.passes_setTimed hp l).stays.sparesNet net (by decide)
  have queued : ∀ q x, s.Spares (s.enqueue p q x) f := fun q x => State.Spares.trans ((same.setPort _ _).setF 0 lpi)
    ((State.passes_refreshQueueHigh _ p).stays.sparesNet net (by decide))
  unfold State.judgeDescriptor
  simp only [apply_ite Prod.snd]
  exact .ite same (.ite (.ite (same.fire _ _ _) (.ite same (timed _)))
    (.ite ((same.incSat (drop _ queue)).fire _ _ _) (.ite same (queued _ _))))

theorem State.ringBase_judgeDescriptor (hp : p < 4) (d frame : List Byte) :
    (s.judgeDescriptor p d frame).2.ringBase (F.MAC_TXR_BASE p) = s.ringBase (F.MAC_TXR_BASE p) := by
  have kept := fun f (hf : f ∈ ringFlds p) => (s.spares_judgeDescriptor hp hf d frame).getF
  simp only [State.ringBase, State.getWords, kept _ (show F.MAC_TXR_BASE p 0 ∈ ringFlds p by simp [ringFlds]),
    kept _ (show F.MAC_TXR_BASE p 1 ∈ ringFlds p by simp [ringFlds]), kept _ (show F.MAC_TXR_BASE p 2 ∈ ringFlds p by simp [ringFlds]),
    kept _ (show F.MAC_TXR_BASE p 3 ∈ ringFlds p by simp [ringFlds])]

/-- An MSI-X request, or none. -/
theorem State.settled_msixIf (c : Bool) (v : Nat) : State.Settled s (if c then s.msixRequest v else s) := by
  split
  · exact s.settled_msixRequest v
  · exact .refl s

/-- A ring's index moves on within its size. -/
theorem ringIndex_lt {n size : Nat} (small : size ≤ 12) : (n + 1) % ringSize size % 2 ^ 12 = (n + 1) % 2 ^ size :=
  Nat.mod_eq_of_lt (Nat.lt_of_lt_of_le (Nat.mod_lt _ (Nat.two_pow_pos _)) (Nat.pow_le_pow_right (by decide) small))

/-- A descriptor's status is written back and the next is due. -/
def descriptorDone (p cons : Nat) (verdict : Nat × State) : State :=
  (verdict.2.emit (.hostWrite (verdict.2.ringBase (F.MAC_TXR_BASE p) + cons * 32 + 14) [verdict.1])).setF (F.MAC_TXR_CONS p)
    ((cons + 1) % ringSize (verdict.2.getF (F.MAC_TXR_CFG_SIZE p)))

theorem hostTxDescriptor_settled {d frame : List Byte} {at_ : Tai} (enabled : s.on (F.MAC_CTL_EN p) = true)
    (ring : s.on (F.MAC_TXR_CFG_RING_EN p) = true) (host : s.on F.HST_PCIE_CTL_EN = true)
    (posted : s.getF (F.MAC_TXR_CONS p) ≠ s.getF (F.MAC_TXR_PROD p)) :
    State.Settled (descriptorDone p (s.getF (F.MAC_TXR_CONS p)) (s.judgeDescriptor p d frame)) (hostTxDescriptor p d frame at_ s) := by
  unfold hostTxDescriptor
  extract_lets cons
  rw [if_neg (by simp [enabled, ring, host, cons, posted])]
  exact State.settled_msixIf _ _ _

theorem bestEffortRx_settled {len : Nat} {tag : Option (Nat × Nat)} {ptp : Bool} {at_ : Tai} {buf : Nat × Nat}
    (enabled : s.on (F.MAC_CTL_EN p) = true) (ring : s.on (F.MAC_RXR_CFG_RING_EN p) = true) (host : s.on F.HST_PCIE_CTL_EN = true)
    (posted : s.getF (F.MAC_RXR_CONS p) ≠ s.getF (F.MAC_RXR_PROD p)) (fits : len ≤ buf.2) :
    ∃ status : Emit, State.Settled (((s.emit (.hostWrite buf.1 [len])).emit status).setF (F.MAC_RXR_CONS p)
      ((s.getF (F.MAC_RXR_CONS p) + 1) % ringSize (s.getF (F.MAC_RXR_CFG_SIZE p)))) (bestEffortRx p len tag ptp at_ buf s) := by
  unfold bestEffortRx
  extract_lets cons drop n t
  rw [if_neg (by simp [enabled]), if_neg (by simp [ring, host, cons, posted, fits])]
  exact ⟨_, State.settled_msixIf _ _ _⟩

theorem bestEffortRx_of_long {len : Nat} {tag : Option (Nat × Nat)} {ptp : Bool} {at_ : Tai} {buf : Nat × Nat}
    (enabled : s.on (F.MAC_CTL_EN p) = true) (long : buf.2 < len) :
    bestEffortRx p len tag ptp at_ buf s = s.incSat (F.MAC_HOST_RX_DROP p) := by
  unfold bestEffortRx
  extract_lets cons drop n t
  rw [if_neg (by simp [enabled]), if_pos (by simp [long])]

/-! ## Utilisation (R216) -/

/-- A port's second. -/
def utilPort (meas : List (Nat × Nat)) (s : State) (p : Nat) : State :=
  let rates := meas.getD p (0, 0)
  let measured := s.setPort p { s.port p with rxRate := rates.1, txRate := rates.2 }
  let sp := measured.getF (F.MAC_STATUS_SPEED p)
  let low := p < 2 && measured.on (F.MAC_STATUS_LINK p) && sp < 3 &&
    decide (measured.utilWith p 0 0 * 10 < 4 * speedBits (sp + 1))
  let x := measured.port p
  (measured.setPort p { x with under := if low then x.under + 1 else 0, barred := x.barred - 1 }).refreshUtil p

theorem utilSecond_eq_foldl (meas : List (Nat × Nat)) : utilSecond meas s = (List.range 4).foldl (utilPort meas) s := rfl

theorem utilPort_measures (hp : p < 4) (meas : List (Nat × Nat)) : ((utilPort meas s p).port p).rxRate = (meas.getD p (0, 0)).1 ∧
    ((utilPort meas s p).port p).txRate = (meas.getD p (0, 0)).2 ∧ ((utilPort meas s p).port p).barred = (s.port p).barred - 1 := by
  unfold utilPort
  extract_lets rates _ measured sp low x
  rw [(State.passes_refreshUtil _ hp).port, State.port_setPort_self]
  unfold x measured
  rw [State.port_setPort_self]
  exact ⟨rfl, rfl, rfl⟩

theorem port_foldl_utilPort (meas : List (Nat × Nat)) {l : List Nat} (inside : ∀ n ∈ l, n < 4) (other : p ∉ l) :
    (l.foldl (utilPort meas) s).port p = s.port p := by
  induction l generalizing s with
  | nil => rfl
  | cons n l ih =>
    have apart : p ≠ n := fun e => other (e ▸ List.mem_cons_self)
    rw [List.foldl_cons, ih _ (fun m hm => inside m (List.mem_cons_of_mem _ hm)) fun mem => other (List.mem_cons_of_mem _ mem)]
    unfold utilPort
    extract_lets rates _ measured sp low x
    rw [(State.passes_refreshUtil _ (inside n List.mem_cons_self)).port, State.port_setPort_ne _ _ apart]
    exact State.port_setPort_ne _ _ apart

theorem utilSecond_measures (hp : p < 4) (meas : List (Nat × Nat)) : ((utilSecond meas s).port p).rxRate = (meas.getD p (0, 0)).1 ∧
    ((utilSecond meas s).port p).txRate = (meas.getD p (0, 0)).2 ∧ ((utilSecond meas s).port p).barred = (s.port p).barred - 1 := by
  obtain ⟨before, after, order⟩ := List.append_of_mem (List.mem_range.2 hp)
  have inside : ∀ n ∈ before ++ p :: after, n < 4 := fun n mem => List.mem_range.1 (order ▸ mem)
  have once := List.nodup_cons.1 (List.nodup_middle.1 (order ▸ List.nodup_range))
  rw [List.mem_append, not_or] at once
  rw [utilSecond_eq_foldl, order, List.foldl_append, List.foldl_cons,
    port_foldl_utilPort _ meas (fun n mem => inside n (by simp [mem])) once.1.2,
    ← port_foldl_utilPort s meas (fun n mem => inside n (by simp [mem])) once.1.1]
  exact utilPort_measures _ hp meas

/-! ## Low-power idle (R220) -/

theorem lpiEnter_of_idle (slow : 2 ≤ p) (eee : (s.port p).eee = true) (link : s.on (F.MAC_STATUS_LINK p) = true)
    (enabled : s.on (F.MAC_CTL_LPI_EN p) = true) (awake : s.on (F.MAC_STATUS_LPI_TX p) = false)
    (empty : ∀ q < 4, (s.port p).queue q = []) (silent : ∀ x ∈ s.str.tx, onPath (s.txB x.1) p = false) (untimed : s.timedQ p = []) :
    lpiEnter p s = (s.setF (F.MAC_STATUS_LPI_TX p) 1).incSat (F.MAC_LPI_ENTRIES p) := by
  have q0 : (s.port p).q0 = [] := empty 0 (by decide)
  have q1 : (s.port p).q1 = [] := empty 1 (by decide)
  have q2 : (s.port p).q2 = [] := empty 2 (by decide)
  have q3 : (s.port p).q3 = [] := empty 3 (by decide)
  have streams : s.str.tx.any (fun q => onPath (s.txB q.1) p) = false :=
    List.any_eq_false.2 fun x mem => by simp [silent x mem]
  unfold lpiEnter
  rw [untimed]
  exact if_pos (by simp [slow, eee, link, enabled, awake, q0, q1, q2, q3, streams])

end

/-! ## The happenings -/

theorem utilisationSecond_acts {s : State} (meas : List (Nat × Nat)) (p : Fin 4) (alive : s.alive = true) :
    ∃ t, exec (.utilisationSecond meas) s = .next t ∧ (t.port p).rxRate = (meas.getD p (0, 0)).1 ∧
      (t.port p).txRate = (meas.getD p (0, 0)).2 ∧ (t.port p).barred = (s.port p).barred - 1 := by
  obtain ⟨t, e, settled⟩ := happen_whenAlive (utilSecond meas) alive
  refine ⟨t, e, ?_⟩
  rw [settled.port]
  exact utilSecond_measures s.fresh p.isLt meas

section
variable {s : State} {p : Fin 4} (alive : s.alive = true) (powered : s.unpowered 3 p = false)
include alive powered

theorem egressStart_acts {at_ : Tai} {q : Nat} {f : QFrame} {l : List QFrame} (enabled : s.on (F.MAC_CTL_EN p) = true)
    (link : s.on (F.MAC_STATUS_LINK p) = true) (awake : s.on (F.MAC_STATUS_LPI_TX p) = false)
    (first : (s.openQueues p).find? (s.mayStart p at_.units) = some q) (queue : (s.port p).queue q = f :: l) :
    ∃ t, exec (.egressFrameStart p at_) s = .next t ∧ (t.port p).queue q = l ∧ Emit.frame p q f.body ∈ t.out ∧
      (∀ q' < 4, q' ≠ q → (t.port p).queue q' = (s.port p).queue q') := by
  obtain ⟨t, e, settled⟩ := happen_whenPort (egressStart p at_) alive powered
  obtain ⟨left, sent, others⟩ := egressStart_sends s.fresh p.isLt enabled link awake first queue
  refine ⟨t, e, ?_, settled.out.subset sent, fun q' hq' other => ?_⟩
  · rw [settled.port]
    exact left
  · rw [settled.port]
    exact others q' hq' other

theorem macUnderrun_acts (busy : (s.port p).dma.isSome = true) :
    ∃ t, exec (.macUnderrun p) s = .next t ∧ (t.port p).dma = none ∧ Ev.MAC_UNDERRUN ∈ t.ev.sticky ∧
      t.getF (F.MAC_TX_START p) = min 9216 (s.getF (F.MAC_TX_START p) * 2) ∧
      t.getF (F.MAC_UNDERRUN p) = satNat 16 (s.getF (F.MAC_UNDERRUN p) + 1) := by
  obtain ⟨t, e, settled⟩ := happen_whenPort (macUnderrun p) alive powered
  obtain ⟨ended, event, start, count⟩ := macUnderrun_ends s.fresh p.isLt busy
  exact ⟨t, e, (congrArg _ (settled.port p)).trans ended, settled.sticky _ event,
    (settled.net (Fld.inNet_macRow p.isLt (by decide))).getF.trans start, (settled.net (Fld.inNet_macRow p.isLt (by decide))).getF.trans count⟩

theorem hostTxDescriptor_acts (desc frame : List Byte) (at_ : Tai) (enabled : s.on (F.MAC_CTL_EN p) = true)
    (ring : s.on (F.MAC_TXR_CFG_RING_EN p) = true) (host : s.on F.HST_PCIE_CTL_EN = true)
    (posted : s.getF (F.MAC_TXR_CONS p) ≠ s.getF (F.MAC_TXR_PROD p)) (small : s.getF (F.MAC_TXR_CFG_SIZE p) ≤ 12) :
    ∃ t, exec (.hostTxDescriptor p desc frame at_) s = .next t ∧
      t.getF (F.MAC_TXR_CONS p) = (s.getF (F.MAC_TXR_CONS p) + 1) % 2 ^ s.getF (F.MAC_TXR_CFG_SIZE p) ∧
      Emit.hostWrite (s.ringBase (F.MAC_TXR_BASE p) + s.getF (F.MAC_TXR_CONS p) * 32 + 14) [(s.fresh.judgeDescriptor p desc frame).1] ∈ t.out ∧
      (∀ q, (t.port p).queue q = ((s.fresh.judgeDescriptor p desc frame).2.port p).queue q) ∧
      t.timedQ p = (s.fresh.judgeDescriptor p desc frame).2.timedQ p := by
  obtain ⟨t, e, ended⟩ := happen_whenPort (hostTxDescriptor p desc frame at_) alive powered
  have settled := (hostTxDescriptor_settled s.fresh (d := desc) (frame := frame) (at_ := at_) enabled ring host posted).trans ended
  have consNet : (F.MAC_TXR_CONS p).inNet := Fld.inNet_macRow p.isLt (by decide)
  have size := (s.fresh.spares_judgeDescriptor p.isLt (show F.MAC_TXR_CFG_SIZE p ∈ ringFlds p by simp [ringFlds]) desc frame).getF
  have base := s.fresh.ringBase_judgeDescriptor p.isLt desc frame
  generalize s.fresh.judgeDescriptor p desc frame = verdict at *
  unfold descriptorDone at settled
  rw [size, base] at settled
  refine ⟨t, e, ?_, settled.out.subset (List.mem_append_right _ List.mem_cons_self), fun q => ?_, ?_⟩
  · rw [(settled.net consNet).getF]
    exact (State.getF_setF_self _ _ _).trans (ringIndex_lt small)
  · rw [settled.port]
    rfl
  · rw [State.timedQ, settled.stamps]
    rfl

theorem bestEffortRx_acts (len : Nat) (tag : Option (Nat × Nat)) (ptp : Bool) (at_ : Tai) (buf : Nat × Nat)
    (enabled : s.on (F.MAC_CTL_EN p) = true) (ring : s.on (F.MAC_RXR_CFG_RING_EN p) = true) (host : s.on F.HST_PCIE_CTL_EN = true)
    (posted : s.getF (F.MAC_RXR_CONS p) ≠ s.getF (F.MAC_RXR_PROD p)) (small : s.getF (F.MAC_RXR_CFG_SIZE p) ≤ 12) :
    ∃ t, exec (.bestEffortFrameRx p len tag ptp at_ buf) s = .next t ∧
      (len ≤ buf.2 → Emit.hostWrite buf.1 [len] ∈ t.out ∧
        t.getF (F.MAC_RXR_CONS p) = (s.getF (F.MAC_RXR_CONS p) + 1) % 2 ^ s.getF (F.MAC_RXR_CFG_SIZE p)) ∧
      (buf.2 < len → t.getF (F.MAC_HOST_RX_DROP p) = satNat 32 (s.getF (F.MAC_HOST_RX_DROP p) + 1) ∧
        t.getF (F.MAC_RXR_CONS p) = s.getF (F.MAC_RXR_CONS p)) := by
  obtain ⟨t, e, ended⟩ := happen_whenPort (bestEffortRx p len tag ptp at_ buf) alive powered
  have consNet : (F.MAC_RXR_CONS p).inNet := Fld.inNet_macRow p.isLt (by decide)
  refine ⟨t, e, fun fits => ?_, fun long => ?_⟩
  · obtain ⟨status, written⟩ := bestEffortRx_settled s.fresh (tag := tag) (ptp := ptp) (at_ := at_) enabled ring host posted fits
    have settled := written.trans ended
    refine ⟨settled.out.subset (List.mem_append_left _ (List.mem_append_right _ List.mem_cons_self)), ?_⟩
    rw [(settled.net consNet).getF]
    exact (State.getF_setF_self _ _ _).trans (ringIndex_lt small)
  · rw [bestEffortRx_of_long s.fresh enabled long] at ended
    have kept : s.fresh.Spares (s.fresh.incSat (F.MAC_HOST_RX_DROP p)) (F.MAC_RXR_CONS p) :=
      (State.Spares.refl _ _).incSat (Fld.key_ne_of_row (by decide))
    exact ⟨(ended.net (Fld.inNet_macRow p.isLt (by decide))).getF.trans (State.getF_incSat _ _), (kept.trans (ended.net consNet)).getF⟩

theorem lpiEnter_acts (slow : 2 ≤ p.val) (eee : (s.port p).eee = true) (link : s.on (F.MAC_STATUS_LINK p) = true)
    (enabled : s.on (F.MAC_CTL_LPI_EN p) = true) (awake : s.on (F.MAC_STATUS_LPI_TX p) = false)
    (empty : ∀ q < 4, (s.port p).queue q = []) (silent : ∀ x ∈ s.str.tx, onPath (s.txB x.1) p = false) (untimed : s.timedQ p = []) :
    ∃ t, exec (.lpiEnter p) s = .next t ∧ t.on (F.MAC_STATUS_LPI_TX p) = true ∧
      t.getF (F.MAC_LPI_ENTRIES p) = satNat 16 (s.getF (F.MAC_LPI_ENTRIES p) + 1) := by
  obtain ⟨t, e, settled⟩ := happen_whenPort (lpiEnter p) alive powered
  rw [lpiEnter_of_idle s.fresh slow eee link enabled awake empty silent untimed] at settled
  have shown : s.fresh.Spares (s.fresh.setF (F.MAC_STATUS_LPI_TX p) 1) (F.MAC_LPI_ENTRIES p) :=
    (State.Spares.refl _ _).setF _ (Fld.key_ne_of_row (by decide))
  have kept : (s.fresh.setF (F.MAC_STATUS_LPI_TX p) 1).Spares _ (F.MAC_STATUS_LPI_TX p) :=
    (State.Spares.refl _ _).incSat (g := F.MAC_LPI_ENTRIES p) (Fld.key_ne_of_row (by decide))
  refine ⟨t, e, (kept.trans (settled.net (Fld.inNet_macRow p.isLt (by decide)))).on.trans (State.on_setF_one _ _ rfl), ?_⟩
  exact (settled.net (Fld.inNet_macRow p.isLt (by decide))).getF.trans ((State.getF_incSat _ _).trans (congrArg (satNat 16 <| · + 1) shown.getF))

theorem lpiExit_acts : ∃ t, exec (.lpiExit p) s = .next t ∧ t.on (F.MAC_STATUS_LPI_TX p) = false := by
  obtain ⟨t, e, settled⟩ := happen_whenPort (lpiExit p) alive powered
  exact ⟨t, e, (settled.net (Fld.inNet_macRow p.isLt (by decide))).on.trans (State.on_setF_zero _ _)⟩

end

/-- Settles O34: each happening of a powered port, clause by clause. -/
theorem portsMoveLinksFramesAndSpeeds : Obligations.PortsMoveLinksFramesAndSpeeds :=
  ⟨fun _ _ _ _ alive powered enabled allowed => linkUp_acts alive powered enabled allowed,
   fun _ _ _ _ _ alive powered enabled bad => linkUp_refused_acts alive powered enabled bad,
   fun _ _ alive powered up => linkDown_acts alive powered up,
   fun _ _ f alive powered enabled link => ingressFrame_acts alive powered f enabled link,
   fun _ _ pfc en quanta alive powered enabled link => pauseRx_acts alive powered pfc en quanta enabled link,
   fun _ _ q alive powered => pauseExpiry_acts alive powered q,
   fun _ _ _ _ _ _ alive powered enabled link awake first queue => egressStart_acts alive powered enabled link awake first queue,
   fun _ _ alive powered busy => macUnderrun_acts alive powered busy,
   fun _ _ desc frame at_ alive powered enabled ring host posted small =>
    hostTxDescriptor_acts alive powered desc frame at_ enabled ring host posted small,
   fun _ _ len tag ptp at_ buf alive powered enabled ring host posted small =>
    bestEffortRx_acts alive powered len tag ptp at_ buf enabled ring host posted small,
   fun _ meas p alive => utilisationSecond_acts meas p alive,
   fun _ _ alive powered due first => stepDownDue_acts alive powered due first,
   fun _ _ _ alive powered still other waiting => secondPortStep_acts alive powered still other waiting,
   fun _ _ _ alive powered stepping enabled waiting allowed => speedStepDone_acts alive powered stepping enabled waiting allowed,
   fun _ _ alive powered stepping waiting => stepTimeout_acts alive powered stepping waiting,
   fun _ _ alive powered slow eee link enabled awake empty silent untimed =>
    lpiEnter_acts alive powered slow eee link enabled awake empty silent untimed,
   fun _ _ alive powered => lpiExit_acts alive powered⟩

end Sys2Proof.Machine
end

section
/-! The path merger judges a packet (R240 to R242, Table 10.4). -/

namespace Sys2Proof.Machine

/-- Two runs of an entry agree in what the merger's steps count and keep. -/
structure RxRun.Agrees (x y : RxRun) : Prop where
  acc : y.acc = x.acc
  dup : y.dup = x.dup
  late : y.late = x.late
  high : y.high = x.high
  buf : y.buf = x.buf

theorem RxRun.Agrees.refl (x : RxRun) : x.Agrees x := ⟨rfl, rfl, rfl, rfl, rfl⟩

theorem RxRun.Agrees.trans {x y z : RxRun} (h : x.Agrees y) (g : y.Agrees z) : x.Agrees z :=
  ⟨g.acc.trans h.acc, g.dup.trans h.dup, g.late.trans h.late, g.high.trans h.high, g.buf.trans h.buf⟩

/-- A number comes after the highest accepted. -/
def RxRun.Newer (x : RxRun) (seq : Nat) : Prop := ∀ h, x.high = some h → 0 < signed 16 (unsigned 16 ((seq : Int) - h))

theorem RxRun.Agrees.newer {x y : RxRun} (h : x.Agrees y) {seq : Nat} (newer : x.Newer seq) : y.Newer seq := fun n hn =>
  newer n (h.high ▸ hn)

/-! ## The window after an accepted number (R241) -/

section
variable (x : RxRun) (seq : Nat) (restart : Bool)

theorem RxRun.accept_keeps : (x.accept seq restart).acc = x.acc ∧ (x.accept seq restart).buf = x.buf := by
  unfold RxRun.accept
  repeat' split
  all_goals exact ⟨rfl, rfl⟩

variable {x seq}

theorem RxRun.accept_high (newer : x.Newer seq) : (x.accept seq restart).high = some seq := by
  unfold RxRun.accept
  split
  · rfl
  split
  · rfl
  next h high =>
    have later := newer h high
    extract_lets d h'
    have top : h' = seq := if_pos later
    rw [top]

end

/-! ## The pieces of the merger -/

section
variable (s : State) {e path : Nat}

@[simp] theorem State.rxRun_setRx (e : Nat) (x : RxRun) : (s.setRx e x).rxRun e = x := KV.get_set_self _ _ _ _

theorem State.Traces.rxRun {s t : State} (h : State.Traces s t) (e : Nat) : t.rxRun e = s.rxRun e := by rw [State.rxRun, h.str, State.rxRun]

theorem State.rxRun_fire (src obj detail e : Nat) : (s.fire src obj detail).rxRun e = s.rxRun e := (s.traces_fire src obj detail).rxRun e

theorem State.agrees_restorePath (e path : Nat) : (s.rxRun e).Agrees ((s.restorePath false e path).rxRun e) := by
  unfold State.restorePath
  extract_lets x
  split
  · have restored : ∀ u : State, u.refreshRxRaw.rxRun e = u.rxRun e := fun _ => rfl
    rw [restored, State.rxRun_fire]
    have put : ∀ y, (s.putRun false e y).rxRun e = y := fun y => s.rxRun_setRx e y
    rw [put]
    exact ⟨rfl, rfl, rfl, rfl, rfl⟩
  · exact .refl _

theorem State.agrees_keepMargin (e : Nat) (m : Int) : (s.rxRun e).Agrees ((s.keepMargin false e m).rxRun e) := by
  unfold State.keepMargin
  extract_lets x ns lo hi w below kept
  have keeps : (s.rxRun e).Agrees (kept.rxRun e) := by
    have put : kept.rxRun e = { x with minM := some lo, maxM := some hi, under := x.under || below } := s.rxRun_setRx e _
    rw [put]
    exact ⟨rfl, rfl, rfl, rfl, rfl⟩
  clear_value kept below lo
  split
  · have fired : ∀ src obj detail, ((kept.fire src obj detail).refreshRxRaw).rxRun e = kept.rxRun e := fun src obj detail =>
      kept.rxRun_fire src obj detail e
    rw [fired]
    exact keeps
  · exact keeps

theorem State.rxRun_askRepair (e : Nat) (b : List Byte) (high : Option Nat) (seq : Nat) : (s.askRepair e b high seq).rxRun e = s.rxRun e := by
  unfold State.askRepair
  split
  · rfl
  · extract_lets d
    split <;> rfl

/-- The packet that the merger keeps of a media packet. -/
def keptPkt (path : Nat) (b : List Byte) (p : MediaPkt) (first : Int) : RxPkt :=
  { first := first, seq := p.seq, paths := 2 ^ path, data := payloadData (bFormat b) (bChannels b) (bSpp b) p.payload }

variable {b : List Byte} {p : MediaPkt} {at_ first m : Int}

/-- An accepted packet counts for its path and enters the buffer (step 7 of Table 10.4). -/
theorem State.rxAccept_run (restart counted : Bool) (newer : (s.rxRun e).Newer p.seq) :
    ((s.rxAccept false e path b p at_ first m restart counted).rxRun e).acc = bump (s.rxRun e).acc path ∧
      ((s.rxAccept false e path b p at_ first m restart counted).rxRun e).high = some p.seq ∧
      ((s.rxAccept false e path b p at_ first m restart counted).rxRun e).buf = keptPkt path b p first :: (s.rxRun e).buf := by
  unfold State.rxAccept
  extract_lets asked x held pkt taken entered counts
  have run : asked.getRun false e = s.rxRun e := s.rxRun_askRepair e b _ p.seq
  have stored : counts.rxRun e = taken := by
    have put : entered.rxRun e = taken := asked.rxRun_setRx e taken
    unfold counts
    split
    · exact put
    · exact put
  have agrees : taken.Agrees (((counts.restorePath false e path).keepMargin false e m).rxRun e) := stored ▸
    (counts.agrees_restorePath e path).trans (State.agrees_keepMargin _ e m)
  obtain ⟨acc, buf⟩ := (asked.getRun false e).accept_keeps p.seq restart
  have high := RxRun.accept_high restart (run ▸ newer)
  refine ⟨agrees.acc.trans ?_, agrees.high.trans high, agrees.buf.trans ?_⟩
  · exact congrArg (bump · path) (acc.trans (congrArg RxRun.acc run))
  · exact congrArg (keptPkt path b p first :: ·) (buf.trans (congrArg RxRun.buf run))

theorem State.rxLate_run (e path : Nat) : ((s.rxLate false e path).rxRun e).late = inc32 (s.rxRun e).late ∧
    ((s.rxLate false e path).rxRun e).buf = (s.rxRun e).buf ∧ Ev.RX_LATE ∈ (s.rxLate false e path).ev.sticky := by
  unfold State.rxLate
  extract_lets x
  rw [State.rxRun_fire]
  have put : ((s.putRun false e { x with late := inc32 x.late }).incSat F.MRG_LATE).rxRun e = { x with late := inc32 x.late } :=
    s.rxRun_setRx e _
  rw [put]
  exact ⟨rfl, rfl, State.fire_sticky _ _ _ _⟩

/-- A run that is cleared of old numbers and then late. -/
theorem State.rxLate_cleared {e : Nat} (path : Nat) {x : RxRun} (late : x.late = (s.rxRun e).late) (buf : x.buf = (s.rxRun e).buf) :
    (((s.putRun false e x).rxLate false e path).rxRun e).late = inc32 (s.rxRun e).late ∧
      (((s.putRun false e x).rxLate false e path).rxRun e).buf = (s.rxRun e).buf ∧
      Ev.RX_LATE ∈ ((s.putRun false e x).rxLate false e path).ev.sticky := by
  have put : (s.putRun false e x).rxRun e = x := s.rxRun_setRx e x
  obtain ⟨counts, kept, event⟩ := (s.putRun false e x).rxLate_run e path
  rw [put] at counts kept
  exact ⟨counts.trans (congrArg inc32 late), kept.trans buf, event⟩

/-! ## Steps 4 to 7 (R241) -/

/-- A number seen before within the window counts as a duplicate. -/
theorem State.rxWindow_repeat {h : Nat} (high : (s.rxRun e).high = some h) (near : -1024 < signed 16 (unsigned 16 ((p.seq : Int) - h)))
    (old : signed 16 (unsigned 16 ((p.seq : Int) - h)) ≤ 0) (seen : (s.rxRun e).seen.contains p.seq = true) :
    ((s.rxWindow false e path b p at_).rxRun e).dup = bump (s.rxRun e).dup path ∧
      ((s.rxWindow false e path b p at_).rxRun e).acc = (s.rxRun e).acc := by
  unfold State.rxWindow
  extract_lets x first m early ok late dup cleared
  have top : x.high = some h := high
  rw [top]
  dsimp -zeta only
  extract_lets d
  have repeated : (decide (d ≤ 0) && x.seen.contains p.seq) = true := by
    rw [Bool.and_eq_true, decide_eq_true_eq]
    exact ⟨old, seen⟩
  rw [if_neg (not_le.2 near), if_pos repeated]
  have put : ((s.putRun false e dup).incSat (F.MRG_DUP path)).rxRun e = dup := s.rxRun_setRx e dup
  have agrees := put ▸ ((s.putRun false e dup).incSat (F.MRG_DUP path)).agrees_restorePath e path
  exact ⟨agrees.dup, agrees.acc⟩

theorem not_old_of_pos {d : Int} (later : 0 < d) (seen : Bool) : ¬ d ≤ -1024 ∧ ¬ (decide (d ≤ 0) && seen) = true := by
  rw [Bool.and_eq_true, decide_eq_true_eq]
  omega

/-- The window cleared of a run of old numbers. -/
theorem State.agrees_cleared (s : State) (e : Nat) : (s.rxRun e).Agrees ((s.putRun false e { s.getRun false e with oldRun := 0 }).rxRun e) := by
  have put : (s.putRun false e { s.getRun false e with oldRun := 0 }).rxRun e = { s.rxRun e with oldRun := 0 } := s.rxRun_setRx e _
  rw [put]
  exact ⟨rfl, rfl, rfl, rfl, rfl⟩

/-- A new number in time is accepted. -/
theorem State.rxWindow_accepts (newer : (s.rxRun e).Newer p.seq) (inTime : 0 ≤ s.rxMargin b (s.rxFirst b p.ts at_) at_)
    (notEarly : s.rxEarly b (s.rxFirst b p.ts at_) at_ = false) :
    ((s.rxWindow false e path b p at_).rxRun e).acc = bump (s.rxRun e).acc path ∧
      ((s.rxWindow false e path b p at_).rxRun e).high = some p.seq ∧
      ((s.rxWindow false e path b p at_).rxRun e).buf = keptPkt path b p (s.rxFirst b p.ts at_) :: (s.rxRun e).buf := by
  have agrees := s.agrees_cleared e
  unfold State.rxWindow
  extract_lets x first m early ok late dup cleared
  have fine : ok = true := by
    have isLate : decide (0 ≤ m) = true := decide_eq_true inTime
    have isEarly : early = false := notEarly
    simp only [ok, isLate, isEarly, Bool.not_false, Bool.and_self]
  clear_value ok m early
  cases high : x.high with
  | none =>
    dsimp -zeta only
    rw [if_pos fine]
    exact s.rxAccept_run true false newer
  | some h =>
    dsimp -zeta only
    extract_lets d
    obtain ⟨notOld, notSeen⟩ := not_old_of_pos (newer h high) (x.seen.contains p.seq)
    rw [if_neg notOld, if_neg notSeen, if_pos fine, ← agrees.acc, ← agrees.buf]
    exact State.rxAccept_run _ _ _ (agrees.newer newer)

/-- A new number too late is counted late and dropped. -/
theorem State.rxWindow_late (newer : (s.rxRun e).Newer p.seq) (tooLate : s.rxMargin b (s.rxFirst b p.ts at_) at_ < 0) :
    ((s.rxWindow false e path b p at_).rxRun e).late = inc32 (s.rxRun e).late ∧
      ((s.rxWindow false e path b p at_).rxRun e).buf = (s.rxRun e).buf ∧ Ev.RX_LATE ∈ (s.rxWindow false e path b p at_).ev.sticky := by
  unfold State.rxWindow
  extract_lets x first m early ok late dup cleared
  have behind : m < 0 := tooLate
  have missed : ¬ ok = true := by
    rw [Bool.and_eq_true, decide_eq_true_eq]
    exact fun both => absurd both.1 (not_le.2 behind)
  have lates : ∀ u : State, late u = u.rxLate false e path := fun u => if_pos behind
  clear_value ok late m early
  cases high : x.high with
  | none =>
    dsimp -zeta only
    rw [if_neg missed, lates]
    exact s.rxLate_cleared path rfl rfl
  | some h =>
    dsimp -zeta only
    extract_lets d
    obtain ⟨notOld, notSeen⟩ := not_old_of_pos (newer h high) (x.seen.contains p.seq)
    rw [if_neg notOld, if_neg notSeen, if_neg missed, lates]
    exact s.rxLate_cleared path rfl rfl

/-! ## Steps 1 to 3 -/

theorem State.rxJudge_of_stopped (stopped : (s.rxRun e).st = 5) : s.rxJudge false e path b p at_ = s.incSat F.MRG_INACTIVE := by
  unfold State.rxJudge
  exact if_pos (by
    have st : (s.getRun false e).st = 5 := stopped
    simp [st])

variable (awake : s.getF F.PWR_STATUS_STATE ≠ 2) (running : (s.rxRun e).st ≠ 5) (anySource : bitOf (bFlags b) 2 = false)
include awake running anySource

theorem State.rxJudge_fault (fault : formatFault b p ≠ 0) :
    ((s.rxJudge false e path b p at_).rxRun e).fmt = inc32 (s.rxRun e).fmt ∧ Ev.RX_FORMAT ∈ (s.rxJudge false e path b p at_).ev.sticky := by
  have st : (s.getRun false e).st ≠ 5 := running
  unfold State.rxJudge
  extract_lets x f fed
  rw [if_neg (by simp [awake, st, x]), if_neg (by simp [anySource]), if_pos fault, State.rxRun_fire]
  have put : ((s.putRun false e { x with fmt := inc32 x.fmt }).incSat F.MRG_FORMAT).rxRun e = { x with fmt := inc32 x.fmt } :=
    s.rxRun_setRx e _
  rw [put]
  exact ⟨rfl, State.fire_sticky _ _ _ _⟩

theorem State.rxJudge_of_timed (fits : formatFault b p = 0) (domain : bBind b ≠ 2) (timed : s.rxTimed b = true) :
    s.rxJudge false e path b p at_ = s.rxWindow false e path b p at_ := by
  have st : (s.getRun false e).st ≠ 5 := running
  have alone : ¬ (decide (bBind b = 2) && decide (path < 4)) = true := by simp [domain]
  unfold State.rxJudge
  extract_lets x f fed
  have same : fed = s := if_neg alone
  rw [if_neg (by simp [awake, st, x]), if_neg (by simp [anySource]), if_neg (not_not.2 fits), same, if_neg (by simp [timed])]

end

/-! ## The happening -/

/-- A packet for one running entry is judged for that entry alone. -/
theorem mediaPacketRx_of_one (s : State) {path e : Nat} {p : MediaPkt} (at_ : Tai) (settled : s.str.rxSwap = none)
    (one : ((s.str.rx.filter (fun q => q.2.st != 1 && rxMatches (s.rxB q.1) path p)).map (·.1)) = [e]) :
    mediaPacketRx path p at_ s = s.rxJudge false e path (s.rxB e) p at_.units := by
  unfold mediaPacketRx
  extract_lets u old
  have entries : old = [e] := one
  rw [settled, entries]
  rfl

theorem happen_mediaPacketRx {s : State} {path : Fin 5} {p : MediaPkt} {at_ : Tai} (alive : s.alive = true)
    (powered : path.val < 4 → s.unpowered 3 path = false) :
    ∃ t, exec (.mediaPacketRx path p at_) s = .next t ∧ State.Settled (mediaPacketRx path p at_ s.fresh) t := by
  have body : exec (.mediaPacketRx path p at_) s = happen (fun u =>
    if path.val < 4 then u.whenPort path (mediaPacketRx path p at_) else u.whenAlive (mediaPacketRx path p at_)) s := rfl
  rw [body]
  by_cases port : path.val < 4
  · simp only [if_pos port]
    exact happen_whenPort (mediaPacketRx path p at_) alive (powered port)
  · simp only [if_neg port]
    exact happen_whenAlive (mediaPacketRx path p at_) alive

theorem mediaPacketRx_acts {s : State} {path : Fin 5} {p : MediaPkt} {at_ : Tai} {e : Nat} (alive : s.alive = true)
    (powered : path.val < 4 → s.unpowered 3 path = false) (noSwap : s.str.rxSwap = none)
    (one : ((s.str.rx.filter (fun q => q.2.st != 1 && rxMatches (s.rxB q.1) path p)).map (·.1)) = [e]) :
    ∃ t, exec (.mediaPacketRx path p at_) s = .next t ∧
      ((s.rxRun e).st = 5 → t.getF F.MRG_INACTIVE = satNat 16 (s.getF F.MRG_INACTIVE + 1)) ∧
      (s.getF F.PWR_STATUS_STATE ≠ 2 → (s.rxRun e).st ≠ 5 → bitOf (bFlags (s.rxB e)) 2 = false → formatFault (s.rxB e) p ≠ 0 →
        (t.rxRun e).fmt = inc32 (s.rxRun e).fmt ∧ Ev.RX_FORMAT ∈ t.ev.sticky) ∧
      (s.getF F.PWR_STATUS_STATE ≠ 2 → (s.rxRun e).st ≠ 5 → bitOf (bFlags (s.rxB e)) 2 = false → formatFault (s.rxB e) p = 0 →
        bBind (s.rxB e) ≠ 2 → s.rxTimed (s.rxB e) = true →
        (∀ h, (s.rxRun e).high = some h → -1024 < signed 16 (unsigned 16 ((p.seq : Int) - h)) →
          signed 16 (unsigned 16 ((p.seq : Int) - h)) ≤ 0 → (s.rxRun e).seen.contains p.seq = true →
          (t.rxRun e).dup = bump (s.rxRun e).dup path ∧ (t.rxRun e).acc = (s.rxRun e).acc) ∧
        (0 ≤ s.rxMargin (s.rxB e) (s.rxFirst (s.rxB e) p.ts at_.units) at_.units →
          s.rxEarly (s.rxB e) (s.rxFirst (s.rxB e) p.ts at_.units) at_.units = false →
          (∀ h, (s.rxRun e).high = some h → 0 < signed 16 (unsigned 16 ((p.seq : Int) - h))) →
          (t.rxRun e).acc = bump (s.rxRun e).acc path ∧ (t.rxRun e).high = some p.seq ∧
          (t.rxRun e).buf.tail = (s.rxRun e).buf ∧ (t.rxRun e).buf.head?.map (fun k => (k.first, k.seq, k.paths, k.data)) =
            some (s.rxFirst (s.rxB e) p.ts at_.units, p.seq, 2 ^ path.val,
              payloadData (bFormat (s.rxB e)) (bChannels (s.rxB e)) (bSpp (s.rxB e)) p.payload)) ∧
        (s.rxMargin (s.rxB e) (s.rxFirst (s.rxB e) p.ts at_.units) at_.units < 0 →
          (∀ h, (s.rxRun e).high = some h → 0 < signed 16 (unsigned 16 ((p.seq : Int) - h))) →
          (t.rxRun e).late = inc32 (s.rxRun e).late ∧ (t.rxRun e).buf = (s.rxRun e).buf ∧ Ev.RX_LATE ∈ t.ev.sticky)) := by
  obtain ⟨t, ex, settled⟩ := happen_mediaPacketRx (p := p) (at_ := at_) alive powered
  have judged : mediaPacketRx path p at_ s.fresh = s.fresh.rxJudge false e path (s.rxB e) p at_.units :=
    mediaPacketRx_of_one s.fresh at_ noSwap one
  rw [judged] at settled
  refine ⟨t, ex, ?_⟩
  rw [show t.rxRun e = (s.fresh.rxJudge false e path (s.rxB e) p at_.units).rxRun e by rw [State.rxRun, settled.str, State.rxRun]]
  refine ⟨fun stopped => ?_, fun awake running anySource fault => ?_, fun awake running anySource fits domain timed => ?_⟩
  · rw [settled.getF _ (by decide), s.fresh.rxJudge_of_stopped stopped]
    exact State.getF_incSat _ _
  · obtain ⟨counts, event⟩ := s.fresh.rxJudge_fault (path := path) (at_ := at_.units) awake running anySource fault
    exact ⟨counts, settled.sticky _ event⟩
  · rw [s.fresh.rxJudge_of_timed awake running anySource fits domain timed] at settled ⊢
    refine ⟨fun h high near old seen => s.fresh.rxWindow_repeat high near old seen, fun inTime notEarly newer => ?_, fun late newer => ?_⟩
    · obtain ⟨acc, high, buf⟩ := s.fresh.rxWindow_accepts (path := path) newer inTime notEarly
      rw [buf]
      exact ⟨acc, high, rfl, rfl⟩
    · obtain ⟨counts, kept, event⟩ := s.fresh.rxWindow_late (path := path) newer late
      exact ⟨counts, kept, settled.sticky _ event⟩

end Sys2Proof.Machine
end

section
/-! Peers, announcements and estimators (R247, R248, R252, R274). -/

namespace Sys2Proof.Machine

/-! ## The directory (R252) -/

/-- A peer as announced: what a description filed under it leaves. -/
structure Peer.Announced (x y : Peer) : Prop where
  mac : y.mac = x.mac
  imported : y.imported = x.imported
  interval : y.interval = x.interval
  sec : y.sec = x.sec

theorem Peer.Announced.refl (x : Peer) : x.Announced x := ⟨rfl, rfl, rfl, rfl⟩

theorem Peer.Announced.trans {x y z : Peer} (h : x.Announced y) (g : y.Announced z) : x.Announced z :=
  ⟨g.mac.trans h.mac, g.imported.trans h.imported, g.interval.trans h.interval, g.sec.trans h.sec⟩

section
variable (s : State) {dev : Nat} {x : Peer}

theorem State.find_fileDesc (i : Nat) (t : List Byte) (found : KV.find s.str.peers dev = some x) :
    ∃ y, KV.find (s.fileDesc dev i t).2.str.peers dev = some y ∧ x.Announced y := by
  have get : KV.get {} s.str.peers dev = x := by rw [KV.get_eq_find, found, Option.getD_some]
  unfold State.fileDesc
  rw [get]
  dsimp only
  split
  · rw [(s.traces_fire _ _ _).str]
    exact ⟨x, found, .refl x⟩
  · have str := (State.stays_checkDup (s.putPeer dev { x with descs := KV.set x.descs i t }) dev t).touches.1.2 .streams (by decide)
    refine ⟨{ x with descs := KV.set x.descs i t }, ?_, rfl, rfl, rfl, rfl⟩
    rw [str]
    exact KV.find_set_self _ _ _

theorem State.find_fileDescs (n : Nat) (l : List Byte) (found : KV.find s.str.peers dev = some x) :
    ∃ y, KV.find (s.fileDescs dev n l).str.peers dev = some y ∧ x.Announced y := by
  induction n generalizing s l x with
  | zero => exact ⟨x, found, .refl x⟩
  | succ n ih =>
    unfold State.fileDescs
    extract_lets len filed
    split
    · exact ⟨x, found, .refl x⟩
    · obtain ⟨y, filedAs, announced⟩ := s.find_fileDesc (leAt l 0 2) ((l.drop 4).take len) found
      obtain ⟨z, kept, later⟩ := ih filed (l.drop (4 + (len + 3) / 4 * 4)) filedAs
      exact ⟨z, kept, announced.trans later⟩

theorem State.touchPeer_new (new : KV.find s.str.peers dev = none) : Ev.PEER_NEW ∈ (s.touchPeer dev).ev.sticky := by
  unfold State.touchPeer
  rw [if_neg (by simp [new])]
  exact State.fire_sticky _ _ _ _

end

theorem announcementRx_enters (s : State) {port : Nat} {d : List Byte} (long : 44 ≤ d.length) (magic : leAt d 0 4 = 0x4E414B43)
    (version : leAt d 4 1 = 1) (enabled : s.on (F.MAC_CTL_EN port) = true) (foreign : ∀ p < 4, s.portMac p ≠ beAt d 16 6)
    (notPartner : beAt d 16 6 ∉ s.pair.pMacs) :
    ∃ x, KV.find (announcementRx port d s).str.peers (leAt d 8 2) = some x ∧ x.mac = (d.drop 16).take 6 ∧ x.imported = false ∧
      x.interval = leAt d 12 4 ∧ x.sec = s.now.sec % 2 ^ 32 ∧
      (KV.find s.str.peers (leAt d 8 2) = none → Ev.PEER_NEW ∈ (announcementRx port d s).ev.sticky) := by
  have unknown : (((List.range 4).any fun p => s.portMac p == beAt d 16 6) || s.pair.pMacs.contains (beAt d 16 6)) = false := by
    simp only [Bool.or_eq_false_iff, List.any_eq_false, List.mem_range, beq_iff_eq, List.contains_eq_mem, decide_eq_false_iff_not]
    exact ⟨foreign, notPartner⟩
  unfold announcementRx
  extract_lets mac dev judged touched x entered
  rw [if_neg (by simp [magic, version, enabled, long]), if_neg (by rw [Bool.not_eq_true]; exact unknown)]
  have judges : s.Stays judged [] [⟨4, 1, 1⟩] := .ite (((State.Stays.refl s _ _).incSat _ (by decide)).fire _ _ _) (.refl s _ _)
  have touches : s.Stays touched [.streams] [⟨4, 1, 1⟩] :=
    (judges.mono (by decide) (by decide)).thenStays (judged.stays_touchPeer dev) (by decide)
  have peers : judged.str.peers = s.str.peers := congrArg StreamState.peers (judges.touches.1.2 .streams (by decide))
  have time : touched.time = s.time := touches.touches.1.2 .time (by decide)
  have filed := entered.stays_fileDescs dev (leAt d 6 2) (d.drop 44)
  obtain ⟨y, found, announced⟩ := entered.find_fileDescs (leAt d 6 2) (d.drop 44) (KV.find_set_self touched.str.peers dev _)
  refine ⟨y, found, announced.mac, announced.imported, announced.interval, announced.sec.trans ?_, fun new => filed.sticky _ ?_⟩
  · exact congrArg (fun t : TimeState => t.sec % 2 ^ 64 % 2 ^ 32) time
  · exact judged.touchPeer_new (peers ▸ new)

theorem announcementRx_acts {s : State} {port : Fin 4} {d : List Byte} (alive : s.alive = true) (powered : s.unpowered 3 port = false)
    (long : 44 ≤ d.length) (magic : leAt d 0 4 = 0x4E414B43) (version : leAt d 4 1 = 1) (enabled : s.on (F.MAC_CTL_EN port) = true)
    (foreign : ∀ p < 4, s.portMac p ≠ beAt d 16 6) (notPartner : beAt d 16 6 ∉ s.pair.pMacs) :
    ∃ t x, exec (.announcementRx port d) s = .next t ∧ KV.find t.str.peers (leAt d 8 2) = some x ∧
      x.mac = (d.drop 16).take 6 ∧ x.imported = false ∧ x.interval = leAt d 12 4 ∧ x.sec = s.now.sec % 2 ^ 32 ∧
      (KV.find s.str.peers (leAt d 8 2) = none → Ev.PEER_NEW ∈ t.ev.sticky) := by
  obtain ⟨t, e, settled⟩ := happen_whenPort (announcementRx port d) alive powered
  obtain ⟨x, found, mac, imported, interval, sec, new⟩ :=
    announcementRx_enters s.fresh long magic version enabled foreign notPartner
  refine ⟨t, x, e, ?_, mac, imported, interval, sec, fun absent => settled.sticky _ (new absent)⟩
  rw [settled.str]
  exact found

theorem peerAgeOut_acts {s : State} {dev : Nat} {x : Peer} (alive : s.alive = true) (found : KV.find s.str.peers dev = some x)
    (announced : x.imported = false) :
    ∃ t, exec (.peerAgeOut dev) s = .next t ∧ KV.find t.str.peers dev = none ∧ Ev.PEER_LOST ∈ t.ev.sticky := by
  obtain ⟨t, e, settled⟩ := happen_whenAlive (peerAgeOut dev) alive
  have lost : peerAgeOut dev s.fresh =
      ({ s.fresh with str := { s.str with peers := KV.erase s.str.peers dev } }).fire Ev.PEER_LOST noUnit dev := by
    unfold peerAgeOut
    rw [show KV.find s.fresh.str.peers dev = some x from found]
    exact if_neg (by simp [announced])
  rw [lost] at settled
  refine ⟨t, e, ?_, settled.sticky _ (State.fire_sticky _ _ _ _)⟩
  rw [settled.str, (State.traces_fire _ _ _ _).str]
  exact KV.find_erase_self _ _

/-! ## Rounds of announcements (R274) -/

section
variable (s : State) (p : Nat)

theorem State.round_refreshQueueHigh : (s.refreshQueueHigh p).str.round = s.str.round := by
  unfold State.refreshQueueHigh
  extract_lets high was _ noted shown
  split
  · rw [(shown.traces_fire _ _ _).str]
    rfl
  · rfl

theorem State.round_offer (q : Nat) (f : QFrame) : (s.offer p q f).str.round = s.str.round := by
  unfold State.offer
  split
  · exact State.round_refreshQueueHigh _ p
  · exact congrArg StreamState.round (State.traces_fire _ _ _ _).str

end

theorem announceRound_counts (s : State) (enabled : s.on F.TXT_CTL_ANN_EN = true)
    (active : s.getF F.ROLE_STATUS_STATE = 0 ∨ s.getF F.ROLE_STATUS_STATE = 4) :
    (announceRound s).str.round = (s.str.round + 1) % 65536 := by
  have speaks : ¬ (!s.on F.TXT_CTL_ANN_EN || (s.getF F.ROLE_STATUS_STATE != 0 && s.getF F.ROLE_STATUS_STATE != 4)) = true := by
    rcases active with h | h <;> simp [enabled, h]
  unfold announceRound
  extract_lets es grams send sent
  rw [if_neg speaks]
  have same : sent.str.round = s.str.round := by
    refine List.foldlRecOn (motive := fun t : State => t.str.round = s.str.round) _ _ rfl fun u kept p _ => ?_
    split
    · refine List.foldlRecOn (motive := fun t : State => t.str.round = s.str.round) _ _ kept fun v keeps i _ => ?_
      exact (v.round_offer p 2 _).trans keeps
    · exact kept
  rw [← same]

theorem announceRound_acts {s : State} (alive : s.alive = true) (enabled : s.on F.TXT_CTL_ANN_EN = true)
    (active : s.getF F.ROLE_STATUS_STATE = 0 ∨ s.getF F.ROLE_STATUS_STATE = 4) :
    ∃ t, exec .announceRound s = .next t ∧ t.str.round = (s.str.round + 1) % 65536 := by
  obtain ⟨t, e, settled⟩ := happen_whenAlive announceRound alive
  refine ⟨t, e, ?_⟩
  rw [settled.str]
  exact announceRound_counts s.fresh enabled active

/-! ## Estimators (R248) -/

section
variable (s : State) {k : Nat}

theorem State.fdEst_setFd (k : Nat) (x : FdState) : (s.setFd k x).fdEst k = x := KV.get_put_self _ _ _ _

theorem State.fdEst_fire (src obj detail k : Nat) : (s.fire src obj detail).fdEst k = s.fdEst k := by
  rw [State.fdEst, (s.traces_fire src obj detail).str, State.fdEst]

theorem State.fdEst_fdUnlock (k cause k' : Nat) : (s.fdUnlock k cause).fdEst k' = s.fdEst k' := State.fdEst_fire _ _ _ _ _

/-- Judging a packet feeds nothing. -/
theorem State.feed_fdError (hz off : Nat) (q : Nat × Int) (fed : (s.fdEst k).feed = []) : ((s.fdError k hz off q).fdEst k).feed = [] := by
  unfold State.fdError
  extract_lets x err win ns large st run judged
  split
  · rw [State.fdEst_fdUnlock]
    unfold State.fdAcquire
    rw [State.fdEst_setFd]
    exact congrArg FdState.feed (State.fdEst_setFd judged k _)
  · exact (congrArg FdState.feed (State.fdEst_setFd s k _)).trans fed

theorem fdFlds_row : ∀ k < 64, (F.FD_RATIO k).key ≠ (F.FD_STATUS_STATE k).key ∧ (F.FD_RATIO k).key ≠ (F.FD_LOCKS k).key ∧
    (F.FD_RATIO k).key ∉ settleKeys := by decide

/-- The ratio an update keeps. -/
def clampRatio (ratio : Int) : Int := if ratio > 1100000000 then 1100000000 else if ratio < -1100000000 then -1100000000 else ratio

theorem clampRatio_range (ratio : Int) : -1100000000 ≤ clampRatio ratio ∧ clampRatio ratio ≤ 1100000000 := by
  unfold clampRatio
  split
  · omega
  · split <;> omega

theorem fdUpdate_sets (hk : k < 64) (adj ratio : Int) (fed : (s.fdEst k).feed ≠ []) :
    ((fdUpdate k adj ratio s).fdEst k).feed = [] ∧ (fdUpdate k adj ratio s).getI (F.FD_RATIO k) = clampRatio ratio := by
  obtain ⟨state, locks, _⟩ := fdFlds_row k hk
  unfold fdUpdate
  extract_lets x at_ hz off l emptied judged y r moved st sec shown
  rw [if_neg (by simpa using fed)]
  have consumed : (judged.fdEst k).feed = [] :=
    List.foldlRecOn (motive := fun t : State => (t.fdEst k).feed = []) _ _ (congrArg FdState.feed (State.fdEst_setFd s k _))
      fun u empty q _ => u.feed_fdError hz off q empty
  have feed : (moved.fdEst k).feed = [] := (congrArg FdState.feed (State.fdEst_setFd judged k _)).trans consumed
  have value : moved.getI (F.FD_RATIO k) = clampRatio ratio := by
    obtain ⟨low, high⟩ := clampRatio_range ratio
    have stored : moved.getF (F.FD_RATIO k) = unsigned 32 (clampRatio ratio) % 2 ^ 32 := State.getF_setF_self _ _ _
    rw [State.getI, stored]
    exact signed_unsigned_32 (by omega) (by omega)
  clear_value moved judged
  have locked : moved.Spares ((moved.setF (F.FD_STATUS_STATE k) fdLOCKED).incSat (F.FD_LOCKS k)) (F.FD_RATIO k) :=
    ((State.Spares.refl moved _).setF _ state).incSat locks
  have kept : moved.Spares shown (F.FD_RATIO k) := .ite (locked.fire _ _ _)
    (.ite (((State.Spares.refl moved _).setF _ state).fire _ _ _) (.ite locked (.refl moved _)))
  have est : shown.fdEst k = moved.fdEst k := by
    unfold shown
    split
    · exact State.fdEst_fire _ _ _ _ _
    split
    · exact State.fdEst_fire _ _ _ _ _
    split <;> rfl
  refine ⟨(congrArg FdState.feed est).trans feed, ?_⟩
  have shownRatio : shown.refreshRxRaw.getI (F.FD_RATIO k) = moved.getI (F.FD_RATIO k) := congrArg (signed 32) kept.getF
  exact shownRatio.trans value

end

theorem fdUpdate_acts {s : State} {k : Fin 64} {adj ratio : Int} (alive : s.alive = true) (fed : (s.fdEst k).feed ≠ []) :
    ∃ t, exec (.fdEstimatorUpdate k adj ratio) s = .next t ∧ (t.fdEst k).feed = [] ∧
      t.getI (F.FD_RATIO k) = (if ratio > 1100000000 then 1100000000 else if ratio < -1100000000 then -1100000000 else ratio) := by
  obtain ⟨t, e, settled⟩ := happen_whenAlive (fdUpdate k adj ratio) alive
  obtain ⟨feed, value⟩ := fdUpdate_sets s.fresh k.isLt adj ratio fed
  obtain ⟨_, _, book⟩ := fdFlds_row k k.isLt
  refine ⟨t, e, ?_, ?_⟩
  · rw [State.fdEst, settled.str]
    exact feed
  · rw [State.getI, settled.getF _ book]
    exact value

end Sys2Proof.Machine
end

section
/-! What follows a change of the stream tables: the runs of the entries and the counts of swaps stand (R245, R247, R250, R270, R272). -/

namespace Sys2Proof.Machine

/-- The counts of swaps of the two stream tables. -/
def swapCounts : List Fld := [F.RXT_SWAPS, F.TXT_SWAPS]

/-- `t` holds the runs of the entries and the counts of swaps that `s` holds, and what was sticky. -/
structure State.KeepsTables (s t : State) : Prop where
  rx : t.str.rx = s.str.rx
  tx : t.str.tx = s.str.tx
  counts : ∀ f ∈ swapCounts, t.getF f = s.getF f
  sticky : ∀ n ∈ s.ev.sticky, n ∈ t.ev.sticky

section
variable {s t u : State}

theorem State.KeepsTables.refl (s : State) : s.KeepsTables s := ⟨rfl, rfl, fun _ _ => rfl, fun _ => id⟩

theorem State.KeepsTables.trans (h : s.KeepsTables t) (g : t.KeepsTables u) : s.KeepsTables u :=
  ⟨g.rx.trans h.rx, g.tx.trans h.tx, fun f hf => (g.counts f hf).trans (h.counts f hf), fun n m => g.sticky n (h.sticky n m)⟩

theorem State.KeepsTables.traces (h : s.KeepsTables t) (g : State.Traces t u) : s.KeepsTables u :=
  h.trans ⟨by rw [g.str], by rw [g.str], fun f _ => g.getF f, g.sticky⟩

theorem State.KeepsTables.fire (h : s.KeepsTables t) (src obj detail : Nat) : s.KeepsTables (t.fire src obj detail) :=
  h.traces (t.traces_fire src obj detail)

theorem State.KeepsTables.setF (h : s.KeepsTables t) {f : Fld} (v : Nat) (apart : f.key ∉ swapCounts.map Fld.key) :
    s.KeepsTables (t.setF f v) :=
  h.trans ⟨rfl, rfl, fun _ hg => State.getF_setF_ne _ _ fun same => apart (same ▸ List.mem_map_of_mem hg), fun _ => id⟩

theorem State.KeepsTables.ite {c : Prop} [Decidable c] (h : s.KeepsTables t) (g : s.KeepsTables u) : s.KeepsTables (if c then t else u) := by
  split
  · exact h
  · exact g

theorem State.KeepsTables.foldl {α : Type} {l : List α} {f : State → α → State} (h : s.KeepsTables t)
    (each : ∀ (u : State) (a : α), u.KeepsTables (f u a)) : s.KeepsTables (l.foldl f t) :=
  List.foldlRecOn (motive := fun t => s.KeepsTables t) l f h fun u k a _ => k.trans (each u a)

/-- An update of other parts than the runs, the fields and the events. -/
theorem State.KeepsTables.same (h : s.KeepsTables t) (rx : u.str.rx = t.str.rx) (tx : u.str.tx = t.str.tx) (regs : u.regs = t.regs)
    (ev : u.ev.sticky = t.ev.sticky) : s.KeepsTables u :=
  h.trans ⟨rx, tx, fun f _ => State.getF_congr f regs, fun _ => ev ▸ id⟩

theorem State.KeepsTables.setRaw (h : s.KeepsTables t) (src : Nat) (on : Bool) : s.KeepsTables (t.setRaw src on) := h.same rfl rfl rfl rfl

theorem State.KeepsTables.setPort (h : s.KeepsTables t) (p : Nat) (x : PortState) : s.KeepsTables (t.setPort p x) := h.same rfl rfl rfl rfl

theorem State.KeepsTables.raise (h : s.KeepsTables t) (src obj detail : Nat) : s.KeepsTables (t.raise src obj detail) :=
  h.trans (.ite (.refl t) (((State.KeepsTables.refl t).setRaw _ _).fire _ _ _))

/-- A count of swaps is spared. -/
theorem State.KeepsTables.spares (h : s.KeepsTables t) {f : Fld} (hf : f ∈ swapCounts) : s.Spares t f := ⟨h.counts f hf, h.sticky⟩

end

/-! ## What keeps the tables -/

/-- The fields of Burins and of estimators stand apart from the counts. -/
theorem burinFlds_uncounted (b : Nat) : (F.BUR_STATUS_HOMED b).key ∉ swapCounts.map Fld.key ∧
    (F.BUR_COMMITTED b).key ∉ swapCounts.map Fld.key ∧ (F.BUR_STATUS_GATED b).key ∉ swapCounts.map Fld.key := by
  simp only [swapCounts, List.map_cons, List.map_nil, List.mem_cons, List.not_mem_nil, or_false, Fld.key, fieldKey, F.RXT_SWAPS, F.TXT_SWAPS,
    F.BUR_STATUS_HOMED, F.BUR_COMMITTED, F.BUR_STATUS_GATED]
  omega

theorem fdFlds_uncounted (k : Nat) : (F.FD_STATUS_STATE k).key ∉ swapCounts.map Fld.key ∧ (F.FD_STATUS_LEAD k).key ∉ swapCounts.map Fld.key ∧
    (F.FD_STATUS_CROSS k).key ∉ swapCounts.map Fld.key ∧ (F.FD_BOUND k).key ∉ swapCounts.map Fld.key ∧
    (F.FD_UNLOCKS k).key ∉ swapCounts.map Fld.key := by
  simp only [swapCounts, List.map_cons, List.map_nil, List.mem_cons, List.not_mem_nil, or_false, Fld.key, fieldKey, F.RXT_SWAPS, F.TXT_SWAPS,
    F.FD_STATUS_STATE, F.FD_STATUS_LEAD, F.FD_STATUS_CROSS, F.FD_BOUND, F.FD_UNLOCKS]
  omega

section
variable (s : State)

theorem State.tables_refreshReam : s.KeepsTables s.refreshReam := by
  unfold State.refreshReam
  exact (((((State.KeepsTables.refl s).setF _ (by decide)).setF _ (by decide)).setF _ (by decide)).setF _ (by decide)).setF _ (by decide)
    |>.setF _ (by decide)

theorem State.tables_refreshRxt : s.KeepsTables s.refreshRxt := by
  unfold State.refreshRxt
  exact (((State.KeepsTables.refl s).setF _ (by decide)).setF _ (by decide)).trans (State.tables_refreshReam _)

theorem State.tables_refreshTxt : s.KeepsTables s.refreshTxt := by
  unfold State.refreshTxt
  exact ((State.KeepsTables.refl s).setF _ (by decide)).setF _ (by decide)

theorem State.tables_refreshRxRaw : s.KeepsTables s.refreshRxRaw := (State.KeepsTables.refl s).same rfl rfl rfl rfl

theorem State.tables_refreshTxRaw : s.KeepsTables s.refreshTxRaw := (State.KeepsTables.refl s).same rfl rfl rfl rfl

theorem State.tables_refreshAdm : s.KeepsTables s.refreshAdm := by
  have burin : ∀ (t : State) (b h cy : Nat) (g : Bool), t.KeepsTables (((t.setSat (F.BUR_STATUS_HOMED b) h).setF (F.BUR_COMMITTED b) cy).setF
      (F.BUR_STATUS_GATED b) (b2n g)) := fun t b h cy g => by
    obtain ⟨homed, committed, gated⟩ := burinFlds_uncounted b
    exact (((State.KeepsTables.refl t).setF _ homed).setF _ committed).setF _ gated
  unfold State.refreshAdm
  extract_lets l n c d load sized loaded gated summed homed lim
  have sizes : s.KeepsTables sized := (((State.KeepsTables.refl s).setF _ (by decide)).setF _ (by decide)).setF _ (by decide)
  have loads : s.KeepsTables loaded := ((sizes.setF _ (by decide)).setF _ (by decide)).setF _ (by decide)
  have sums : s.KeepsTables summed := (loads.setF _ (by decide)).setF _ (by decide)
  have homes : s.KeepsTables homed := sums.foldl fun t b => burin t b _ _ _
  exact .ite (homes.raise _ _ _) (homes.setRaw _ _)

theorem State.tables_syncGroups : s.KeepsTables s.syncGroups := by
  have emitted : ∀ (u : State) (l : List Nat) (f : Nat → Emit), u.KeepsTables (l.foldl (fun v g => v.emit (f g)) u) := fun u l f =>
    (State.KeepsTables.refl u).foldl fun v _ => (State.KeepsTables.refl v).traces (v.traces_emit _)
  refine (State.KeepsTables.refl s).foldl fun u p => ?_
  exact ((emitted u _ _).trans (emitted _ _ _)).setPort _ _

theorem State.tables_fdRefresh (k : Nat) : s.KeepsTables (s.fdRefresh k) := by
  obtain ⟨state, lead, cross, bound, unlocks⟩ := fdFlds_uncounted k
  have held := (State.KeepsTables.refl s).setF fdHOLD state
  exact (((State.KeepsTables.ite (.ite held ((held.setF _ unlocks).fire _ _ _)) (.refl s)).setF _ lead).setF _ cross).setF _ bound

theorem State.tables_fdAfter (b : List Byte) : s.KeepsTables (s.fdAfter b) := .ite (s.tables_fdRefresh _) (.refl s)

theorem State.tables_silence (b : List Byte) (n c : Nat) : s.KeepsTables (s.silence b n c) := by
  induction c with
  | zero => exact .refl s
  | succ c ih => exact ih.same rfl rfl rfl rfl

theorem State.tables_refreshTsMiss : s.KeepsTables s.refreshTsMiss := by
  unfold State.refreshTsMiss
  refine State.KeepsTables.setRaw ((State.KeepsTables.refl s).foldl fun u d => ?_) _ _
  have noted : ∀ x y, u.KeepsTables { u with str := { u.str with tsMiss := x, tsLeft := y } } := fun x y =>
    (State.KeepsTables.refl u).same rfl rfl rfl rfl
  exact .ite ((noted _ _).fire _ _ _) (noted _ _)

theorem State.tables_bumpVersion (e : Nat) : s.KeepsTables (s.bumpVersion e) := by
  have counted : s.KeepsTables { s with str := { s.str with txVer := KV.put 1 s.str.txVer e (s.txVersion e + 1) } } :=
    (State.KeepsTables.refl s).same rfl rfl rfl rfl
  exact .ite (counted.fire _ _ _) counted

theorem State.tables_convertStart (e : Nat) : s.KeepsTables (s.convertStart e) := (State.KeepsTables.refl s).same rfl rfl rfl rfl

theorem State.tables_freeOwner (o : Nat) : s.KeepsTables (s.freeOwner o) := by
  have freed : s.KeepsTables { s with dsp := { s.dsp with comp := KV.erase s.dsp.comp o } } := (State.KeepsTables.refl s).same rfl rfl rfl rfl
  exact (freed.trans (State.tables_refreshAdm _)).trans (State.tables_refreshReam _)

theorem State.tables_sweepOwner (o : Nat) : s.KeepsTables (s.sweepOwner o) := .ite (s.tables_freeOwner o) (.refl s)

theorem State.tables_convertStop (e : Nat) : s.KeepsTables (s.convertStop e) := by
  have ended : s.KeepsTables { s with dsp := { s.dsp with run := KV.erase s.dsp.run (0x200 + e) } } :=
    (State.KeepsTables.refl s).same rfl rfl rfl rfl
  exact ended.trans (State.tables_sweepOwner _ _)

/-! ## Entries that start and stop -/

/-- The receive entries without one. -/
def State.rxErased (s : State) (e : Nat) : State := { s with str := { s.str with rx := KV.erase s.str.rx e } }

/-- A receive entry that stops is erased; the other tables stand. -/
theorem State.tables_rxStop (e : Nat) : (s.rxErased e).KeepsTables (s.rxStop e) := by
  have silent := ((s.rxErased e).tables_silence (s.rxB e) 3 (bChannels (s.rxB e))).trans (State.tables_fdAfter _ (s.rxB e))
  exact ((silent.trans (State.tables_refreshRxt _)).trans (State.tables_refreshRxRaw _)).trans (State.tables_syncGroups _)

theorem State.find_rxStop (e : Nat) : KV.find (s.rxStop e).str.rx e = none := by
  rw [(s.tables_rxStop e).rx]
  exact KV.find_erase_self _ _

theorem State.spares_rxStop {f : Fld} (hf : f ∈ swapCounts) (e : Nat) : s.Spares (s.rxStop e) f := by
  have erased : s.Spares (s.rxErased e) f := (State.Spares.refl s f).same rfl rfl
  exact erased.trans ((s.tables_rxStop e).spares hf)

/-- A transmit entry that stops is erased, and goes on as an old one if it has sent. -/
theorem State.txStop_stops (e : Nat) (stop : Int) : KV.find (s.txStop e stop).str.tx e = none ∧
    ∀ f ∈ swapCounts, s.Spares (s.txStop e stop) f := by
  unfold State.txStop
  extract_lets x b _ erased _ kept
  have keeps : erased.KeepsTables kept := .ite ((State.KeepsTables.refl erased).same rfl rfl rfl rfl) (.refl erased)
  have after := ((keeps.trans (State.tables_refreshTxt _)).trans (State.tables_refreshTxRaw _)).trans (State.tables_refreshTsMiss _)
  have erasure : ∀ f, s.Spares erased f := fun f => (State.Spares.refl s f).same rfl rfl
  refine ⟨?_, fun f hf => (erasure f).trans (after.spares hf)⟩
  rw [after.tx]
  exact KV.find_erase_self _ _

theorem State.spares_txStart {f : Fld} (hf : f ∈ swapCounts) (e : Nat) (pend : Bool) (start : Int) : s.Spares (s.txStart e pend start) f := by
  unfold State.txStart
  extract_lets b up all standby set
  have sets : s.Spares set f := (State.Spares.refl s f).same rfl rfl
  exact sets.trans ((((State.tables_refreshTxt set).trans (State.tables_refreshTxRaw _)).trans (State.tables_refreshTsMiss _)).spares hf)

end

/-! ## Pending entries (R219) -/

section
variable (s : State) {e : Nat}

theorem State.find_rxRemove (running : (KV.find s.str.rx e).isSome = true) : KV.find (s.rxRemove e).str.rx e = none := by
  unfold State.rxRemove
  extract_lets _ cleared stopped
  have stops : stopped = cleared.rxStop e := if_pos running
  rw [(stopped.tables_convertStop e).rx, stops]
  exact cleared.find_rxStop e

theorem State.find_txRemove (running : (KV.find s.str.tx e).isSome = true) (stop : Int) : KV.find (s.txRemove e stop).str.tx e = none := by
  unfold State.txRemove
  extract_lets _ cleared
  have stops : (if (KV.find cleared.str.tx e).isSome = true then cleared.txStop e stop else cleared.refreshTxt) = cleared.txStop e stop :=
    if_pos running
  rw [stops]
  exact (cleared.txStop_stops e stop).1

/-- The entry and the event of a pending entry that is disabled. -/
def State.pendingEnded (s : State) (obj p t : Nat) : State :=
  (s.modified.logState orgPower obj 1 0).fire Ev.STEP_TIMEOUT (portObj p) (p + 16 * t + 256)

theorem State.str_pendingEnded (obj p t : Nat) : (s.pendingEnded obj p t).str = s.str := by
  rw [State.pendingEnded, (State.traces_fire _ _ _ _).str, (State.traces_logState _ _ _ _ _).str]
  rfl

theorem State.pendingEnded_sticky (obj p t : Nat) : Ev.STEP_TIMEOUT ∈ (s.pendingEnded obj p t).ev.sticky := State.fire_sticky _ _ _ _

theorem pendingTimeout_rx {x : RxRun} (found : KV.find s.str.rx e = some x) (waiting : x.st = 1) : ∃ p t,
    pendingTimeout false e s = (s.rxRemove e).pendingEnded (rxObj e) p t := by
  unfold pendingTimeout
  extract_lets st
  have pending : st = some 1 := by
    have read : st = (KV.find s.str.rx e).map (·.st) := rfl
    rw [read, found, ← waiting]
    rfl
  rw [if_neg (not_not.2 pending)]
  exact ⟨_, _, rfl⟩

theorem pendingTimeout_tx {x : TxRun} (found : KV.find s.str.tx e = some x) (waiting : x.st = 1) : ∃ p t,
    pendingTimeout true e s = (s.txRemove e s.now.units).pendingEnded (txObj e) p t := by
  unfold pendingTimeout
  extract_lets st
  have pending : st = some 1 := by
    have read : st = (KV.find s.str.tx e).map (·.st) := rfl
    rw [read, found, ← waiting]
    rfl
  rw [if_neg (not_not.2 pending)]
  exact ⟨_, _, rfl⟩

/-- A pending receive entry whose ports are not up is disabled. -/
theorem pendingTimeout_rx_disables {x : RxRun} (found : KV.find s.str.rx e = some x) (waiting : x.st = 1) :
    (pendingTimeout false e s).rxOn s.rxBank e = false ∧ KV.find (pendingTimeout false e s).str.rx e = none ∧
      Ev.STEP_TIMEOUT ∈ (pendingTimeout false e s).ev.sticky := by
  obtain ⟨p, k, ended⟩ := pendingTimeout_rx s found waiting
  rw [ended, State.rxOn, State.str_pendingEnded]
  exact ⟨s.rxOn_rxRemove e, s.find_rxRemove (Option.isSome_iff_exists.2 ⟨x, found⟩), State.pendingEnded_sticky _ _ _ _⟩

theorem pendingTimeout_tx_disables {x : TxRun} (found : KV.find s.str.tx e = some x) (waiting : x.st = 1) :
    (pendingTimeout true e s).txOn s.txBank e = false ∧ KV.find (pendingTimeout true e s).str.tx e = none ∧
      Ev.STEP_TIMEOUT ∈ (pendingTimeout true e s).ev.sticky := by
  obtain ⟨p, k, ended⟩ := pendingTimeout_tx s found waiting
  rw [ended, State.txOn, State.str_pendingEnded]
  exact ⟨s.txOn_txRemove e _, s.find_txRemove (Option.isSome_iff_exists.2 ⟨x, found⟩) _, State.pendingEnded_sticky _ _ _ _⟩

end

theorem pendingTimeout_rx_acts {s : State} {e : Fin 512} {x : RxRun} (alive : s.alive = true) (found : KV.find s.str.rx e = some x)
    (waiting : x.st = 1) : ∃ t, exec (.pendingStreamTimeout false e) s = .next t ∧ t.rxOn s.rxBank e = false ∧
      KV.find t.str.rx e = none ∧ Ev.STEP_TIMEOUT ∈ t.ev.sticky := by
  obtain ⟨t, ex, settled⟩ := happen_whenAlive (pendingTimeout false e) alive
  obtain ⟨off, gone, event⟩ := pendingTimeout_rx_disables s.fresh found waiting
  refine ⟨t, ex, ?_, ?_, settled.sticky _ event⟩
  · rw [State.rxOn, settled.str]
    exact off
  · rw [settled.str]
    exact gone

theorem pendingTimeout_tx_acts {s : State} {e : Fin 512} {x : TxRun} (alive : s.alive = true) (found : KV.find s.str.tx e = some x)
    (waiting : x.st = 1) : ∃ t, exec (.pendingStreamTimeout true e) s = .next t ∧ t.txOn s.txBank e = false ∧
      KV.find t.str.tx e = none ∧ Ev.STEP_TIMEOUT ∈ t.ev.sticky := by
  obtain ⟨t, ex, settled⟩ := happen_whenAlive (pendingTimeout true e) alive
  obtain ⟨off, gone, event⟩ := pendingTimeout_tx_disables s.fresh found waiting
  refine ⟨t, ex, ?_, ?_, settled.sticky _ event⟩
  · rw [State.txOn, settled.str]
    exact off
  · rw [settled.str]
    exact gone

end Sys2Proof.Machine
end

section
/-! Bank swaps at their tick, and the old groups that are left (R250, R272). -/

namespace Sys2Proof.Machine

section
variable (s : State)

theorem State.tables_refreshFds : s.KeepsTables ((List.range 64).foldl (fun s k => s.fdRefresh k) s) :=
  (State.KeepsTables.refl s).foldl fun u k => u.tables_fdRefresh k

theorem State.swapView_convertStart (e : Nat) : (s.convertStart e).swapView = s.swapView := rfl

theorem State.swapView_txStart (e : Nat) (pend : Bool) (start : Int) : (s.txStart e pend start).swapView = s.swapView := by
  unfold State.txStart
  extract_lets b up all standby set
  have sets : set.swapView = s.swapView := rfl
  rw [State.swapView_refreshTsMiss, State.swapView_refreshTxRaw, State.swapView_refreshTxt, sets]

/-- What a receive swap sets: the bank, the bit, the swap that waited, the count and its event. -/
theorem State.rxSwapNow_swaps (o : Origin) : (s.rxSwapNow o true).rxBank = 1 - s.rxBank ∧ (s.rxSwapNow o true).getF F.RXT_CTL_SWAP = 0 ∧
    (s.rxSwapNow o true).str.rxSwap = none ∧ (s.rxSwapNow o true).getF F.RXT_SWAPS = satNat 16 (s.getF F.RXT_SWAPS + 1) ∧
    Ev.RX_BANK_SWAPPED ∈ (s.rxSwapNow o true).ev.sticky := by
  unfold State.rxSwapNow
  extract_lets old same changed span keep gone held stopped _ emptied exchanged next stay _ owned converted grouped shown refreshed logged
  have stops : s.Spares stopped F.RXT_SWAPS := .foldl (fun u e _ => u.spares_rxStop (by decide) e) s
  have empties : s.Spares emptied F.RXT_SWAPS := stops.same rfl rfl
  have modifies : s.Spares emptied.modified F.RXT_SWAPS := empties.setF _ (by decide)
  have view : exchanged.swapView.rxCtl.2 = (0, 1 - old) ∧ exchanged.swapView.rx = none ∧
      exchanged.getF F.RXT_SWAPS = satNat 16 (s.getF F.RXT_SWAPS + 1) := by
    have bank : exchanged.getF F.RXT_CTL_ACT_BANK = 1 - old := State.getF_exchanged _ rfl (by decide) old
    have bit : exchanged.getF F.RXT_CTL_SWAP = 0 := by
      refine (State.getF_incSat_ne _ (by decide)).trans ?_
      exact State.getF_setF_self _ _ _
    refine ⟨congrArg₂ Prod.mk bit bank, rfl, ?_⟩
    refine (State.getF_incSat _ _).trans ?_
    rw [((modifies.setF (g := F.RXT_CTL_ACT_BANK) _ (by decide)).setF (g := F.RXT_CTL_SWAP) _ (by decide)).getF]
    rfl
  obtain ⟨ctl, idle, count⟩ := view
  clear_value exchanged
  have starts : converted.swapView = exchanged.swapView ∧ exchanged.KeepsTables converted := by
    have owns : exchanged.KeepsTables owned := (State.KeepsTables.refl exchanged).same rfl rfl rfl rfl
    exact ⟨State.swapView_foldl owned (fun t q => State.swapView_ite (t.swapView_convertStart _) rfl) _,
      owns.foldl fun t q => .ite (t.tables_convertStart _) (.refl t)⟩
  clear_value converted
  have groups : grouped.swapView = converted.swapView ∧ converted.KeepsTables grouped := by
    have held_ : grouped = held.foldl (fun s q => s.setPort q.1 { s.port q.1 with oldGroups := q.2 }) converted := if_pos rfl
    rw [held_]
    exact ⟨State.swapView_foldl converted (fun t q => t.swapView_setPort _ _) _,
      (State.KeepsTables.refl converted).foldl fun t q => (State.KeepsTables.refl t).setPort _ _⟩
  clear_value grouped
  have shows : shown.swapView = grouped.swapView ∧ grouped.KeepsTables shown := by
    refine ⟨?_, (((State.tables_refreshAdm _).trans (State.tables_refreshRxt _)).trans (State.tables_refreshRxRaw _)).trans
      (State.tables_syncGroups _)⟩
    unfold shown
    rw [State.swapView_syncGroups, State.swapView_refreshRxRaw, State.swapView_refreshRxt, State.swapView_refreshAdm]
  clear_value shown
  have refresh : refreshed.swapView = shown.swapView := State.swapView_foldl shown (fun t k => t.swapView_fdRefresh k) _
  have enters : logged.swapView = refreshed.swapView := State.swapView_logE _ _ _ _ _ _ _ _
  have kept : exchanged.KeepsTables (logged.fire Ev.RX_BANK_SWAPPED 0x0400FFFF changed) :=
    ((((starts.2.trans groups.2).trans shows.2).trans shown.tables_refreshFds).traces (State.traces_logE _ _ _ _ _ _ _ _)).fire _ _ _
  have final : (logged.fire Ev.RX_BANK_SWAPPED 0x0400FFFF changed).swapView = exchanged.swapView := by
    rw [State.swapView_fire, enters, refresh, shows.1, groups.1, starts.1]
  clear_value logged
  rw [if_pos rfl]
  have fields := congrArg (fun v : SwapView => v.rxCtl.2) final
  exact ⟨(congrArg Prod.snd fields).trans (congrArg Prod.snd ctl), (congrArg Prod.fst fields).trans (congrArg Prod.fst ctl),
    (congrArg SwapView.rx final).trans idle, (kept.counts _ (by decide)).trans count, State.fire_sticky _ _ _ _⟩

/-- What a transmit swap sets. -/
theorem State.txSwapNow_swaps (o : Origin) : (s.txSwapNow o true).txBank = 1 - s.txBank ∧ (s.txSwapNow o true).getF F.TXT_CTL_SWAP = 0 ∧
    (s.txSwapNow o true).str.txSwap = none ∧ (s.txSwapNow o true).getF F.TXT_SWAPS = satNat 16 (s.getF F.TXT_SWAPS + 1) ∧
    Ev.TX_BANK_SWAPPED ∈ (s.txSwapNow o true).ev.sticky := by
  unfold State.txSwapNow
  extract_lets old changed now stopped _ emptied exchanged started bumped shown logged
  have stops : s.Spares stopped F.TXT_SWAPS :=
    .foldl (fun u e _ => .ite ((u.txStop_stops e now).2 _ (by decide)) (.refl u _)) s
  clear_value stopped
  have empties : s.Spares emptied F.TXT_SWAPS := stops.same rfl rfl
  have modifies : s.Spares emptied.modified F.TXT_SWAPS := empties.setF _ (by decide)
  have view : exchanged.swapView.txCtl.2 = (0, 1 - old) ∧ exchanged.swapView.tx = none ∧
      exchanged.getF F.TXT_SWAPS = satNat 16 (s.getF F.TXT_SWAPS + 1) := by
    have bank : exchanged.getF F.TXT_CTL_ACT_BANK = 1 - old := State.getF_exchanged _ rfl (by decide) old
    have bit : exchanged.getF F.TXT_CTL_SWAP = 0 := by
      refine (State.getF_incSat_ne _ (by decide)).trans ?_
      exact State.getF_setF_self _ _ _
    refine ⟨congrArg₂ Prod.mk bit bank, rfl, ?_⟩
    refine (State.getF_incSat _ _).trans ?_
    rw [((modifies.setF (g := F.TXT_CTL_ACT_BANK) _ (by decide)).setF (g := F.TXT_CTL_SWAP) _ (by decide)).getF]
    rfl
  obtain ⟨ctl, idle, count⟩ := view
  clear_value exchanged
  have starts : started.swapView = exchanged.swapView ∧ exchanged.Spares started F.TXT_SWAPS := by
    have entries : started = changed.foldl (fun s e => if s.txOn (1 - old) e then s.txStart e false now else s) exchanged := if_pos rfl
    rw [entries]
    exact ⟨State.swapView_foldl exchanged (fun t e => State.swapView_ite (t.swapView_txStart _ _ _) rfl) _,
      .foldl (fun t e _ => .ite (t.spares_txStart (by decide) _ _ _) (.refl t _)) exchanged⟩
  clear_value started
  have bump : bumped.swapView = started.swapView ∧ started.KeepsTables bumped :=
    ⟨State.swapView_foldl started (fun t e => t.swapView_bumpVersion e) _,
      (State.KeepsTables.refl started).foldl fun t e => t.tables_bumpVersion e⟩
  clear_value bumped
  have show_ : shown.swapView = bumped.swapView := by
    unfold shown
    rw [State.swapView_refreshTxRaw, State.swapView_refreshTxt]
  have enters : logged.swapView = shown.swapView := State.swapView_logE _ _ _ _ _ _ _ _
  have kept : exchanged.Spares (logged.fire Ev.TX_BANK_SWAPPED 0x0401FFFF changed.length) F.TXT_SWAPS :=
    starts.2.trans ((((bump.2.trans (State.tables_refreshTxt _)).trans (State.tables_refreshTxRaw _)).traces
      (State.traces_logE _ _ _ _ _ _ _ _)).fire _ _ _ |>.spares (by decide))
  have final : (logged.fire Ev.TX_BANK_SWAPPED 0x0401FFFF changed.length).swapView = exchanged.swapView := by
    rw [State.swapView_fire, enters, show_, bump.1, starts.1]
  clear_value logged
  rw [if_pos rfl]
  have fields := congrArg (fun v : SwapView => v.txCtl.2) final
  exact ⟨(congrArg Prod.snd fields).trans (congrArg Prod.snd ctl), (congrArg Prod.fst fields).trans (congrArg Prod.fst ctl),
    (congrArg SwapView.tx final).trans idle, kept.getF.trans count, State.fire_sticky _ _ _ _⟩

/-- What waits for a tick that the boundary has reached takes place on the boundary (R13). -/
theorem State.atTick_due {k : Nat} (f : State → State) (due : k ≤ s.toBoundary.gridTick) : s.atTick k f = f s.toBoundary := if_pos due

/-- The boundary's tick is the same where only the block's own records are emptied. -/
theorem State.gridTick_boundary_fresh : s.fresh.toBoundary.gridTick = s.toBoundary.gridTick := by
  cases grid : s.time.onGrid
  case false =>
    have apart : s.fresh.time.onGrid = false := grid
    rw [State.gridTick_toBoundary grid, State.gridTick_toBoundary apart]
    rfl
  case true =>
    have stay : ∀ u : State, u.time.onGrid = true → u.toBoundary = u := fun u on => if_pos on
    rw [stay s grid, stay s.fresh grid]
    rfl

end

/-! ## The happenings -/

theorem rxSwapAt_acts {s : State} {w : SwapPend} (alive : s.alive = true) (waits : s.str.rxSwap = some w)
    (due : w.tick ≤ s.toBoundary.gridTick) :
    ∃ t, exec .rxSwapAtTsw s = .next t ∧ t.rxBank = 1 - s.rxBank ∧ t.on F.RXT_CTL_SWAP = false ∧ t.str.rxSwap = none ∧
      t.getF F.RXT_SWAPS = satNat 16 (s.getF F.RXT_SWAPS + 1) ∧ Ev.RX_BANK_SWAPPED ∈ t.ev.sticky := by
  obtain ⟨t, e, settled⟩ := happen_whenAlive rxSwapAt alive
  have swap : rxSwapAt s.fresh = s.fresh.toBoundary.rxSwapNow w.origin true := by
    have waits : s.fresh.str.rxSwap = some w := waits
    rw [rxSwapAt, waits]
    exact s.fresh.atTick_due _ (s.gridTick_boundary_fresh.symm ▸ due)
  obtain ⟨bank, bit, idle, count, event⟩ := s.fresh.toBoundary.rxSwapNow_swaps w.origin
  rw [← swap] at bank bit idle count event
  have stays := s.fresh.stays_toBoundary
  have old : s.fresh.toBoundary.rxBank = s.rxBank := stays.getF F.RXT_CTL_ACT_BANK rfl (by decide)
  have swaps : s.fresh.toBoundary.getF F.RXT_SWAPS = s.getF F.RXT_SWAPS := stays.getF F.RXT_SWAPS rfl (by decide)
  rw [old] at bank
  rw [swaps] at count
  refine ⟨t, e, (settled.getF _ (by decide)).trans bank, ?_, ?_, (settled.getF _ (by decide)).trans count, settled.sticky _ event⟩
  · rw [State.on, settled.getF _ (by decide), bit]
    rfl
  · rw [settled.str, idle]

theorem txSwapAt_acts {s : State} {w : SwapPend} (alive : s.alive = true) (waits : s.str.txSwap = some w)
    (due : w.tick ≤ s.toBoundary.gridTick) :
    ∃ t, exec .txSwapAtTsw s = .next t ∧ t.txBank = 1 - s.txBank ∧ t.on F.TXT_CTL_SWAP = false ∧ t.str.txSwap = none ∧
      t.getF F.TXT_SWAPS = satNat 16 (s.getF F.TXT_SWAPS + 1) ∧ Ev.TX_BANK_SWAPPED ∈ t.ev.sticky := by
  obtain ⟨t, e, settled⟩ := happen_whenAlive txSwapAt alive
  have swap : txSwapAt s.fresh = s.fresh.toBoundary.txSwapNow w.origin true := by
    have waits : s.fresh.str.txSwap = some w := waits
    rw [txSwapAt, waits]
    exact s.fresh.atTick_due _ (s.gridTick_boundary_fresh.symm ▸ due)
  obtain ⟨bank, bit, idle, count, event⟩ := s.fresh.toBoundary.txSwapNow_swaps w.origin
  rw [← swap] at bank bit idle count event
  have stays := s.fresh.stays_toBoundary
  have old : s.fresh.toBoundary.txBank = s.txBank := stays.getF F.TXT_CTL_ACT_BANK rfl (by decide)
  have swaps : s.fresh.toBoundary.getF F.TXT_SWAPS = s.getF F.TXT_SWAPS := stays.getF F.TXT_SWAPS rfl (by decide)
  rw [old] at bank
  rw [swaps] at count
  refine ⟨t, e, (settled.getF _ (by decide)).trans bank, ?_, ?_, (settled.getF _ (by decide)).trans count, settled.sticky _ event⟩
  · rw [State.on, settled.getF _ (by decide), bit]
    rfl
  · rw [settled.str, idle]

/-! ## Old groups (R250) -/

/-- Joins and leaves of groups change neither the wait for old groups nor, in any port, their list. -/
theorem State.oldGroups_syncGroups (s : State) : s.syncGroups.str.leaveAt = s.str.leaveAt ∧
    ∀ p, (s.syncGroups.port p).oldGroups = (s.port p).oldGroups := by
  have emitted : ∀ (u : State) (l : List Nat) (f : Nat → Emit), (l.foldl (fun v g => v.emit (f g)) u).str = u.str := fun u l f =>
    List.foldlRecOn (motive := fun v : State => v.str = u.str) l _ rfl fun v same g _ => (v.traces_emit _).str.trans same
  refine List.foldlRecOn (motive := fun t : State => t.str.leaveAt = s.str.leaveAt ∧ ∀ p, (t.port p).oldGroups = (s.port p).oldGroups) _ _
    ⟨rfl, fun _ => rfl⟩ fun t ⟨leave, groups⟩ q _ => ?_
  extract_lets old new joined left
  have run : left.str = t.str := (emitted _ _ _).trans (emitted _ _ _)
  have ports : ∀ p, left.port p = t.port p := fun p => by rw [State.port, run, State.port]
  refine ⟨(congrArg StreamState.leaveAt run).trans leave, fun p => ?_⟩
  by_cases same : p = q
  · rw [same, State.port_setPort_self]
    exact (congrArg PortState.oldGroups (ports q)).trans (groups q)
  · rw [State.port_setPort_ne _ _ same, ports]
    exact groups p

/-- The groups used only by the old bank are left. -/
theorem State.leaveOld_empties (s : State) : s.leaveOld.str.leaveAt = none ∧ ∀ p, (s.leaveOld.port p).oldGroups = [] := by
  unfold State.leaveOld
  extract_lets _ emptied
  obtain ⟨leave, groups⟩ := emptied.oldGroups_syncGroups
  refine ⟨leave, fun p => (groups p).trans ?_⟩
  exact congrArg PortState.oldGroups (KV.get_mapV (fun _ (x : PortState) => { x with oldGroups := [] }) {} (fun _ => rfl) s.str.ports p)

theorem oldGroupLeave_acts {s : State} {k : Nat} (alive : s.alive = true) (waits : s.str.leaveAt = some k)
    (due : k ≤ s.toBoundary.gridTick) :
    ∃ t, exec .oldGroupLeave s = .next t ∧ t.str.leaveAt = none ∧ ∀ p, (t.port p).oldGroups = [] := by
  obtain ⟨t, e, settled⟩ := happen_whenAlive oldGroupLeave alive
  have leaves : oldGroupLeave s.fresh = s.fresh.toBoundary.leaveOld := by
    have waits : s.fresh.str.leaveAt = some k := waits
    rw [oldGroupLeave, waits]
    exact s.fresh.atTick_due _ (s.gridTick_boundary_fresh.symm ▸ due)
  obtain ⟨leave, groups⟩ := s.fresh.toBoundary.leaveOld_empties
  rw [← leaves] at leave groups
  refine ⟨t, e, ?_, fun p => ?_⟩
  · rw [settled.str, leave]
  · rw [settled.port]
    exact groups p

/-- Settles O35: packets, peers, estimators, pending entries, swaps and old groups, one lemma for each. -/
theorem streamsPeersAndSwapsMove : Obligations.StreamsPeersAndSwapsMove :=
  ⟨fun _ _ _ _ _ alive powered noSwap one => mediaPacketRx_acts alive powered noSwap one,
    fun _ _ _ alive powered long magic version enabled foreign notPartner =>
      announcementRx_acts alive powered long magic version enabled foreign notPartner,
    fun _ _ _ alive found announced => peerAgeOut_acts alive found announced,
    fun _ alive enabled active => announceRound_acts alive enabled active,
    fun _ _ _ _ alive fed => fdUpdate_acts alive fed,
    fun _ _ _ alive found waiting => pendingTimeout_rx_acts alive found waiting,
    fun _ _ _ alive found waiting => pendingTimeout_tx_acts alive found waiting,
    fun _ _ alive waits due _ => rxSwapAt_acts alive waits due,
    fun _ _ alive waits due _ => txSwapAt_acts alive waits due,
    fun _ _ alive waits due => oldGroupLeave_acts alive waits due⟩

end Sys2Proof.Machine
end
